-- ==== Sys2Proof/Word.lean ====
section
/-! DEFINITION. The word types of the manual: register words, lines, byte masks and lane bursts (R7, R15, R294, R326). -/

namespace Sys2Proof

/-- A register word, 32 bits (R507). -/
abbrev Word := BitVec 32

/-- One byte. -/
abbrev Byte := BitVec 8

/-- A line of 128 bytes, byte 0 least significant (R7, R15). -/
abbrev LineData := BitVec 1024

/-- A byte mask of one line: bit b enables byte b (Table LNK-6, WrPart). -/
abbrev Mask := BitVec 128

/-- One BL32 access of a lane: 16 codewords of ten symbols; symbol k of codeword j is bits
80j + 8k + 7 to 80j + 8k (R294, R326). -/
abbrev Burst := BitVec 1280

/-- The bits [hi:lo] of a number. -/
def bits (x hi lo : Nat) : Nat := (x >>> lo) % 2 ^ (hi + 1 - lo)

/-- The all-ones byte mask. -/
def Mask.full : Mask := BitVec.allOnes 128

/-- Line address of a byte address (Table SCO-4): byte address [47:7]. -/
def lineOf (addr : Nat) : Nat := addr / 128

/-- Sector address of a line address (Table SCO-4). -/
def sectorOf (line : Nat) : Nat := line / 8

end Sys2Proof
end

