-- ==== Sys2Proof/Config.lean ====
section
/-! DEFINITION. What an implementation fixes and the manual leaves open: free values, without a body, so that a
statement about one holds for every value of it. -/

namespace Sys2Proof.Config

/-- The purser's activity estimate, in 0.25 W: the manual names what drives it and gives no weights (R438; log entry 8). -/
opaque freeEstimate : Nat → BitVec 10

/-- The JEDEC manufacturer identity in IDCODE bits [11:1], assigned to Amiuk Silicon and not given (R563; log entry 9). -/
opaque jedecId : BitVec 11

/-- What a register holds after a read of an unwritten sample or latch the manual gives no value for (log entry 8). -/
opaque freeWord : Nat → BitVec 32

/-- The data symbols of a line delivered or written poisoned when the manual gives no data for it: a lost line, a line of a
quarantined set, a memory read that ended in an error (log entry 8). -/
opaque freeLine : Nat → LineData

/-- Whether the agent's link to the mirror side is down when a dirty answer arrives: the manual does not say how the serving
side knows (R216; log entry 76). -/
opaque mirrorLinkDown : Nat → Bool

/-- Whether the devices of a lane report that refresh management is required, and from how many activates of a bank: their
mode registers hold it (R308; log entry 80). -/
opaque rfmRequired : Nat → Bool

/-- The number of activates they report. -/
opaque rfmThreshold : Nat → Nat

/-- Whether an access finds its row closed and activates it: the manual gives no rule for keeping rows open (R308; log entry
80). -/
opaque rowClosed : Nat → Bool

/-- How many of a run of accesses to a bank find its row closed (R308; log entry 80). -/
opaque rowsOpened : Nat → Nat → Nat

/-- Whether the other side of the pair still has a lost group powered: no message tells a device so (R324; log entry 85). -/
opaque peerGroupOn : Nat → Bool

/-- How many attempts of a PMBus transaction in a row fail: acknowledgement and PEC are the regulator's (R428; log entry 8). -/
opaque pmbusFails : Nat → Nat

/-- The levels and output enables of a domain's latched pads at the moment it is switched off: the pins' drivers hold them
(R425; log entry 8). -/
opaque padImage : Nat → Nat → BitVec 128

/-- The width and the rate to which the host link trains: the host's half of PCIe training decides (R396; log entry 8). -/
opaque hostLink : Nat → Nat × Nat

/-- How many headers of the fill a core cycle writes: the manual gives typical times alone (R304; log entry 81). -/
opaque fillRate : Nat → Nat

/-- The slots of a flit of mirror items: their layout is fixed for stepping B1 and not given (R389; log entry 82). -/
opaque mirrorImage : Nat → BitVec 1920

end Sys2Proof.Config
end

