-- ==== Sys2Proof/Machine/Types.lean ====
section
/-! DEFINITION. The plain-data types of the device: what its registers do not show as words. -/

namespace Sys2Proof

/-- The source of a register access (R489). -/
inductive Src where
  | host | chain | image
  deriving DecidableEq, Repr

/-- The line states of an agent, coded 0 I, 1 S, 2 P, 3 E, 4 D (Table COH-1, R381). -/
inductive LState where
  | I | S | P | E | D
  deriving DecidableEq, Repr

/-- The role of a device, from ROLE[1:0] (R5, Table MOD-4). -/
inductive Role where
  | standalone | worker | manager | reserved
  deriving DecidableEq, Repr

/-- The twelve major modes (Table MOD-1). -/
inductive Mode where
  | cold | boot | selfTest | configure | train | passThrough | cache | mirrored | degraded | drain | doze | recovery
  deriving DecidableEq, Repr

/-- The code of a mode in GCR_MODE (Table MOD-1). -/
def Mode.code : Mode → Nat
  | .cold => 0 | .boot => 1 | .selfTest => 2 | .configure => 3 | .train => 4 | .passThrough => 5 | .cache => 6
  | .mirrored => 7 | .degraded => 8 | .drain => 9 | .doze => 10 | .recovery => 11

/-- Modes 5 to 9. -/
def Mode.serving : Mode → Bool
  | .passThrough | .cache | .mirrored | .degraded | .drain => true
  | _ => false

/-- Modes 5 to 8. -/
def Mode.service58 : Mode → Bool
  | .passThrough | .cache | .mirrored | .degraded => true
  | _ => false

/-- Modes 1 to 4 and 11: poisoned data are trapped or halt their channel (Table INT-7). -/
def Mode.traps : Mode → Bool
  | .boot | .selfTest | .configure | .train | .recovery => true
  | _ => false

/-- The snoops of Table COH-3; kp is the KP field of SnpShare. -/
inductive Snoop where
  | share (kp : Bool) | own | inv
  deriving DecidableEq, Repr

/-- What a transaction does. -/
inductive Kind where
  | rdShared | rdFetch | rdOwn | rdOnce | upgrade | wrFull | wrPart | wrBack | append | depart
  | board | apdLine | maint (op : Nat) | mgrSnoop (s : Snoop) | depBoard
  deriving DecidableEq, Repr

/-- Who a transaction works for (R27, R133, R170). -/
inductive Origin where
  | agent (port : Nat)
  | worker (widx oport : Nat)
  | board (idx : Nat)
  | stream (n : Nat)
  | maint
  | manager (uplink : Nat)
  deriving DecidableEq, Repr

/-- A line's data with its poison bit (R343). -/
structure Payload where
  data : LineData
  psn : Bool
  deriving DecidableEq, Repr

/-- The head of a request message (Tables COH-2, LNK-5): the port it arrived on, its tag and tag phase, its byte
address, and on a downlink the originating port and the worker index. -/
structure Head where
  port : Nat
  tag : Nat
  tph : Bool
  addr : Nat
  oport : Nat
  widx : Nat
  deriving DecidableEq, Repr

/-- What a request asks, with its own fields (Table LNK-6). -/
inductive Body where
  | rdShared | rdFetch | rdOwn
  | rdOnce (ch : Nat)
  | upgrade
  | wrFull (ch : Nat) (p : Payload)
  | wrPart (ch : Nat) (mask : Mask) (p : Payload)
  | append (stream len : Nat) (p : Payload)
  deriving DecidableEq, Repr

/-- A request: head, body and the ticket a retry presents. -/
structure Req where
  head : Head
  body : Body
  tkt : Option Nat
  deriving DecidableEq, Repr

/-- A Depart as it arrived (Table DEP-1): its head, its fields, and the bell time of its arrival (R567). -/
structure Depart where
  head : Head
  count : Nat
  t : BitVec 64
  man : Nat
  dtag : Nat
  odev : Nat
  at_ : BitVec 64
  deriving DecidableEq, Repr

/-- The phase of a transaction-table entry. -/
inductive Phase where
  /-- an admitted retry in its line's standby list (R145) -/
  | standby
  /-- an engine's issue that holds its entry and waits for a queue place (R135) -/
  | waitPlace
  /-- in its line's queue (R136) -/
  | queued
  /-- a retry whose DIR set is still pinned (R145) -/
  | waitDir
  /-- waiting for the answers of a back-invalidation (R127) -/
  | backInv
  /-- waiting for its set header (R49, R50) -/
  | waitHeader
  /-- waiting for an entry of a fully pinned HDC set (R49) -/
  | waitUnpin
  /-- waiting for its sector-directory line (R183) -/
  | waitSdr
  /-- waiting for snoop answers, held snoops or a WrBack (R110, R118, R151) -/
  | snooping
  /-- waiting for an eligible victim way (R54) -/
  | waitWay
  /-- waiting for write-buffer entries for its victim (R67) -/
  | waitCopy
  /-- waiting for a partial write-buffer entry to be acknowledged (R69) -/
  | waitWbf
  /-- waiting for a free shared write-buffer entry for its own write -/
  | waitEntry
  /-- a lane read is in flight -/
  | readLane
  /-- a memory-port read is in flight -/
  | readMem
  /-- waiting for the manager's answer (R169) -/
  | uplink
  /-- waiting for next-level acknowledgements of lines it cleaned or wrote -/
  | waitAck
  /-- the response is sent; the grant Ack is owed (R93) -/
  | grantAck
  /-- the device's own work is complete (R134) -/
  | done
  deriving DecidableEq, Repr

/-- A transaction-table entry (R132, R133). -/
structure Txn where
  id : Nat
  kind : Kind
  org : Origin
  tag : Nat := 0
  tph : Bool := false
  line : Nat
  ch : Nat := 0
  mask : Mask := 0
  pay : Payload := ⟨0, false⟩
  phase : Phase
  /-- order of entry into the queue -/
  ord : Nat := 0
  ticket : Option Nat := none
  /-- ports (or, at a manager, slots) whose snoop answer is awaited, with the snoop sent -/
  await : List (Nat × Snoop) := []
  /-- snoops that wait for a berth hold to end (R151) -/
  held : List (Nat × Snoop) := []
  /-- the line being back-invalidated under this transaction (R127) -/
  victim : Option Nat := none
  /-- holders whose outstanding WrBack is awaited (R118) -/
  wbFrom : List Nat := []
  /-- data taken so far -/
  got : Option Payload := none
  /-- the data came dirty from a holder and is relayed only (R116) -/
  dirty : Bool := false
  /-- the data came from a holder -/
  fromHolder : Bool := false
  /-- the recorded owner or prefect answered without data -/
  ownerGone : Bool := false
  /-- the DIR or SDR entry was overflowed and a roll call or broadcast was sent -/
  rollCall : Bool := false
  /-- the state granted, once decided -/
  grant : LState := .I
  /-- an Upgrade carried out as RdOwn (R107) -/
  asOwn : Bool := false
  /-- the way allocated for the line -/
  way : Option Nat := none
  /-- what an uplink request of this transaction obtained: granted E or D -/
  upX : Bool := false
  /-- TPH of the transaction's uplink request (R223) -/
  upTph : Bool := false
  /-- departure line or stream sequence this work belongs to -/
  aux : Nat := 0
  /-- lines of the sector still to be boarded (manager boarding, DepBoard) or worked on -/
  lines : List Nat := []
  /-- lines whose answer to DepBoard, or whose DepAck, is awaited (R248, R249) -/
  owed : List Nat := []
  /-- lines of a DepBoard to be answered Miss once earlier write-backs are acknowledged (Table DEP-5) -/
  missed : List Nat := []
  /-- the request sent to the manager for this transaction (R169) -/
  up : Option Kind := none
  /-- a snoop answer, grant Ack or DepBoard of this transaction has been reported late (R129) -/
  late : Bool := false
  /-- the allocation policy of its line when it entered the pipeline (R57) -/
  pol : Nat × Bool := (0, false)
  /-- the line's entry was in DS when the transaction became active (Table COH-6) -/
  wasShared : Bool := false
  /-- a worker's standing was X when the transaction became active (R173) -/
  hadX : Bool := false
  /-- a manager snoop has taken the sector while the transaction waited for the uplink (R194) -/
  lost : Bool := false
  /-- the manager's ticket that its uplink request holds (R144, R222) -/
  upTkt : Option Nat := none
  deriving DecidableEq, Repr

/-- A live standby ticket (R141). -/
structure Ticket where
  num : Nat
  port : Nat
  tag : Nat
  /-- the line address, or the stream number of an Append (R286) -/
  key : Nat
  apd : Bool
  deriving DecidableEq, Repr

/-- A running berth hold (R150): a line (a sector at a manager), its holder and the core cycles left. -/
structure Hold where
  key : Nat
  holder : Nat
  left : Nat
  deriving DecidableEq, Repr

/-- The state of a directory entry (Table COH-5). -/
inductive DirSt where
  | DI | DS | DX
  deriving DecidableEq, Repr

/-- A directory entry (Table COH-5): the line it tracks, its way, state, four pointers, overflow, prefect index. -/
structure DirEnt where
  line : Nat
  way : Nat
  st : DirSt
  ptr : List (Option Nat)
  ovf : Bool
  pf : Option Nat
  deriving DecidableEq, Repr

/-- A sector-directory entry (Table HIE-3). -/
structure SdrEnt where
  sector : Nat
  st : DirSt
  ptr : List (Option Nat)
  ovf : Bool
  deriving DecidableEq, Repr

/-- A way entry of a set header (Table CAC-4). -/
structure Way where
  tag : BitVec 28
  v : BitVec 8
  dty : BitVec 8
  exc : Bool
  str : Bool
  age : BitVec 4
  deriving DecidableEq, Repr

/-- A set header (Table CAC-3). -/
structure Header where
  ways : List Way
  hseq : BitVec 32
  wgOff : BitVec 4
  deriving DecidableEq, Repr

/-- A header held in HDC (R49); the list that holds it is in use order, most recent first. -/
structure HdcEnt where
  set : Nat
  hdr : Header
  changed : Bool
  deriving DecidableEq, Repr

/-- Why a write-buffer entry exists. -/
inductive WbKind where
  | wrBack | full | part | victim | clean | snooped | apd | maint
  deriving DecidableEq, Repr

/-- A write-buffer entry (R65 to R71). -/
structure WbEnt where
  line : Nat
  mask : Mask
  pay : Payload
  kind : WbKind
  /-- the port whose reserved entry this is; none: the shared pool -/
  rsv : Option Nat
  /-- the entry is bound for the next level; the list keeps bound entries in the order in which they became so (R71) -/
  bound : Bool
  /-- a cause of R68 lets it go out -/
  go : Bool
  issued : Bool
  /-- core cycles without a merge (R68) -/
  age : Nat
  /-- the transaction that waits for its acknowledgement -/
  txn : Option Nat
  /-- number of the entry -/
  num : Nat
  /-- tag and tag phase of its uplink request (R170, R223) -/
  tag : Nat := 0
  tph : Bool := false
  /-- the data has its entry; until one is free it waits with the work that brought it (R29, R159) -/
  placed : Bool := true
  /-- the victim way chosen for it, while the way's dirty lines wait for shared entries (R67) -/
  way : Option Nat := none
  /-- the allocation policy of its line when it entered the pipeline (R57) -/
  pol : Nat × Bool := (0, false)
  /-- the manager's ticket that its uplink request holds (R144, R222) -/
  tkt : Option Nat := none
  /-- the order at which its data came, among the transactions (R63) -/
  ord : Nat := 0
  /-- it waits for the record of its sector (R66, R183) -/
  sdr : Bool := false
  deriving DecidableEq, Repr

/-- One entry of the re-send log (R224). -/
structure LogEnt where
  org : Origin
  tag : Nat
  tph : Bool
  line : Nat
  kind : Kind
  offset : Nat
  deriving DecidableEq, Repr

/-- The status of a boarded line (R251). -/
inductive LineSt where
  | ok | poison | fail
  deriving DecidableEq, Repr

/-- A line of a departure: its index, status and data. -/
structure Boarded where
  idx : Nat
  st : LineSt
  pay : Payload
  deriving DecidableEq, Repr

/-- The phase of a departure part (DEP_PROBE_STAT.PHASE). -/
inductive DepPhase where
  | announcing | waiting | boarding | staged | releasing
  deriving DecidableEq, Repr

/-- The OUT codes of a DLQ record (Table DEP-6). -/
inductive DepOut where
  | onTime | lateArrival | lateStaged | missed | cancelled | dropped
  deriving DecidableEq, Repr

/-- A timetable entry (R242). -/
structure Dep where
  idx : Nat
  cidx : Nat
  org : Origin
  tag : Nat
  tph : Bool
  line : Nat
  count : Nat
  t : BitVec 64
  man : Nat
  dtag : Nat
  odev : Nat
  oport : Nat
  /-- ports listed on this device, or slots at a manager -/
  ports : List Nat
  imm : Bool
  phase : DepPhase
  boarded : List Boarded
  /-- ports of this device on which the departure has started, with the bell time of the start -/
  started : List (Nat × BitVec 64)
  /-- ports that dropped their copy -/
  droppedPorts : List Nat
  /-- ports that have sent the last flit -/
  ended : List Nat
  /-- at a manager: slots that have accepted and take part -/
  accepted : List Nat
  /-- at a manager: slots still to answer the announcement -/
  toAnswer : List Nat
  /-- at a manager: (slot, line) DepAcks still owed -/
  acks : List (Nat × Nat)
  /-- OUT decided so far -/
  out : DepOut
  /-- missed at T and waiting for a late release -/
  late : Bool
  /-- ports whose quiet window has begun (R258) -/
  quiet : List Nat
  /-- bell time at which the fresh quiet window of a late part began (R258) -/
  qat : BitVec 64
  conflict : Bool
  /-- boarded lines whose mirror flit is not acknowledged yet, each with its MSEQ (R255) -/
  waits : List (Nat × Nat)
  deriving DecidableEq, Repr

/-- The identity of a completed departure (R270). -/
structure DepDone where
  org : Origin
  tag : Nat
  tph : Bool
  deriving DecidableEq, Repr

/-- A line of a stream that is closed and whose write has not completed. -/
structure StreamLine where
  /-- offset of the line's first byte -/
  off : Nat
  pay : Payload
  /-- the engine has issued it: at most 256 are in flight (R284) -/
  issued : Bool
  failed : Bool
  deriving DecidableEq, Repr

/-- An append stream's working state (R275-R291). -/
structure Stream where
  en : Bool
  draining : Bool
  fault : Bool
  full : Bool
  tail : Nat
  commit : Nat
  head : Nat
  /-- placed bytes of the open line, the line's poison, and whether any byte is placed -/
  open_ : Payload
  /-- line writes, oldest first -/
  lines : List StreamLine
  /-- offsets just past each placed record (pads included) not yet committed, ascending -/
  ends : List Nat
  /-- HEAD as it stood when this core cycle began, once it is written in it (R288) -/
  headWas : Option Nat := none
  /-- the partial line is to be closed behind the records of this core cycle (R283) -/
  closing : Bool := false
  deriving DecidableEq, Repr

/-- What a twin's chain read or digest shows of it (R207, R209, R219). -/
structure Partner where
  mode : Nat
  serving : Bool
  state : Nat
  deriving DecidableEq, Repr

/-- The pair states of Table TWN-1. -/
inductive PairSt where
  | single | pairing | mirrored | alone | copy | fenced | lossWait | takeover | detached | superseded
  deriving DecidableEq, Repr

/-- The code of a pair state (Table TWN-1). -/
def PairSt.code : PairSt → Nat
  | .single => 0 | .pairing => 1 | .mirrored => 2 | .alone => 3 | .copy => 4 | .fenced => 5 | .lossWait => 6
  | .takeover => 7 | .detached => 8 | .superseded => 9

/-- A pair state that shows code 8 (Table TWN-1). -/
def PairSt.degraded : PairSt → Bool
  | .alone | .copy | .fenced | .lossWait | .takeover => true
  | _ => false

/-- A mirror item (Tables TWN-2, LNK-9), carried as the data it stands for (R389). -/
inductive Item where
  | dir (e : DirEnt)
  | sdr (e : SdrEnt)
  | header (set : Nat) (h : Header) (replace : Bool)
  /-- the bytes a mask enables; the full mask for a whole line -/
  | dirtyLine (line : Nat) (mask : Mask) (p : Payload)
  | clean (line : Nat)
  | txn (t : Txn)
  | txnGone (id : Nat)
  | tickets (l : List Ticket) (next : Nat)
  | holds (l : List Hold)
  | log (e : LogEnt)
  | dep (e : Dep)
  | depGone (idx : Nat) (e : Option DepDone)
  | boarded (idx : Nat) (b : Boarded)
  | released (idx : Nat)
  | stream (n : Nat) (s : Stream)
  | memWrite (line : Nat) (mask : Mask) (p : Payload)
  | dirtyReport (txid port : Nat)
  /-- an SDR line that has entered the SDR cache, and the line that has left for it; its entries other than SI follow -/
  | sdrLine (k : Nat) (out : Option Nat)
  /-- the sectors whose entries are unknown (R185) -/
  | sdrUnknown (l : List Nat)
  /-- how far the clear of the SDR region has come, and whether it is done (R184) -/
  | sdrClear (prog : Nat) (done : Bool)
  /-- announcements whose answer is awaited for no entry -/
  | depStale (l : List (Nat × Nat × Bool))
  /-- the identity of a completed departure, as a join copies it (R270) -/
  | depDone (k : DepDone)
  /-- a new use of an uplink's PORT and tag: the TPH of the agent's request and of the uplink's (R223) -/
  | upUse (key : Nat) (was is : Bool)
  /-- the mark of a flit of a join copy, with its phase (R229) -/
  | copy (phase : Nat)
  deriving DecidableEq, Repr

/-- What a join copy has still to send, each taken as it stands when its flit leaves (R229). -/
inductive CopyJob where
  | dir (line : Nat) | sdr (k : Nat) | sdrEnt (sector : Nat) | unknown
  | dirty (line : Nat) | header (set : Nat) | buffer (num : Nat)
  | txn (id : Nat) | tickets | holds | upUse (key : Nat)
  | dep (idx : Nat) | stale | done (k : DepDone) | stream (n : Nat) | log (e : LogEnt) | clear
  | memory (line : Nat) (p : Payload)
  | last
  deriving DecidableEq, Repr

/-- Messages the device sends (Table LNK-6), each with the fields the table gives it. -/
inductive Msg where
  | data (oport tag line : Nat) (gst : LState) (txid : Nat) (p : Payload)
  | ack (oport tag : Nat) (gst : LState) (txid : Nat) (offset : Option Nat)
  | stby (oport tag tkt : Nat)
  | err (oport tag sub : Nat)
  | snp (s : Snoop) (txid line : Nat)
  | depAnnounce (d : Dep)
  | depCancel (idx : Nat) (adm : Bool)
  | depBoard (idx line : Nat) (mask : BitVec 8)
  | depAccept (idx : Nat) (empty : Bool)
  | depRefuse (idx : Nat)
  | depAck (idx lidx : Nat)
  | depLine (idx : Nat) (b : Boarded) (line : Nat)
  | takeOver (epoch : Nat)
  | homeMoved (epoch : Nat)
  | ackA (txid : Nat) (granted : Bool)
  | miss (id line : Nat) (wbp db : Bool)
  | snpData (txid line : Nat) (dty : Bool) (rst : LState) (p : Payload)
  /-- requests on an uplink carry the worker index (R27) -/
  | upReq (widx : Nat) (k : Kind) (oport tag : Nat) (tph : Bool) (line ch : Nat) (mask : Mask) (p : Payload) (tkt : Option Nat)
  | upAppend (widx oport tag : Nat) (tph : Bool) (stream len : Nat) (p : Payload) (tkt : Option Nat)
  | upDepart (widx oport tag : Nat) (tph : Bool) (line count : Nat) (t : BitVec 64) (man dtag odev : Nat)
  | depRel (d : Dep) (late : Bool)
  | depData (idx : Nat) (b : Boarded)
  deriving DecidableEq, Repr

/-- Frame types of the chain (Table MOD-8) with their payloads. -/
inductive Frame where
  | enum (count : Nat) (ovr : Bool)
  | rd (ofs : Nat)
  | wr (ofs : Nat) (v : Word)
  | bwr (ofs : Nat) (v : Word) (ackmap : BitVec 64)
  | rsp (status : Nat) (v : Word)
  | evt (dev word mode : Nat) (fault : Bool) (bits : Word)
  | mbx (w0 w1 : Word)
  deriving DecidableEq, Repr

/-- A chain frame with its head bytes (Table MOD-7). -/
structure ChainMsg where
  dst : Nat
  src : Nat
  seq : Nat
  rty : Bool
  frame : Frame
  deriving DecidableEq, Repr

/-- The low bytes of a number, least significant first (R7). -/
def leBytes (n w : Nat) : List Nat := (List.range n).map (fun k => w / 256 ^ k % 256)

/-- The TYPE of a frame (Table MOD-8). -/
def Frame.type : Frame → Nat
  | .enum .. => 0 | .rd .. => 1 | .wr .. => 2 | .bwr .. => 3 | .rsp .. => 4 | .evt .. => 5 | .mbx .. => 6

/-- The bytes of its payload (Table MOD-8). -/
def Frame.payload : Frame → List Nat
  | .enum count ovr => [count % 64 + (if ovr then 128 else 0)]
  | .rd o => leBytes 3 o
  | .wr o v => leBytes 3 o ++ leBytes 4 v.toNat
  | .bwr o v ack => leBytes 3 o ++ leBytes 4 v.toNat ++ leBytes 8 ack.toNat
  | .rsp st v => st % 256 :: leBytes 4 v.toNat
  | .evt dev w mode fault b => [dev % 256, w % 256, mode % 256, if fault then 1 else 0] ++ leBytes 4 b.toNat
  | .mbx w0 w1 => leBytes 4 w0.toNat ++ leBytes 4 w1.toNat

/-- The bytes of a frame before its CRC (Table MOD-7). -/
def ChainMsg.bytes (m : ChainMsg) : List Nat :=
  [m.frame.type + (if m.rty then 32 else 0), m.dst % 64, m.src % 64, m.seq % 256] ++ m.frame.payload

/-- One bit of the CRC of the chain: polynomial 0x1021, the most significant bit first (R480). -/
def crc16Bit (c b : Nat) : Nat :=
  if (c / 0x8000 + b) % 2 = 1 then (c * 2 % 0x10000) ^^^ 0x1021 else c * 2 % 0x10000

/-- One byte of it. -/
def crc16Byte (c v : Nat) : Nat := [7, 6, 5, 4, 3, 2, 1, 0].foldl (fun c k => crc16Bit c (v / 2 ^ k % 2)) c

/-- The CRC of a list of bytes: initial value 0xFFFF, no final XOR (R480). -/
def crc16 (l : List Nat) : Nat := l.foldl crc16Byte 0xFFFF

/-- The CRC of a frame. -/
def ChainMsg.crc (m : ChainMsg) : Nat := crc16 m.bytes

/-- One step of CRC-32C with a bit, least significant first: the reflected polynomial of 0x1EDC_6F41 (R369). -/
def crcBit (c b : Nat) : Nat :=
  if (c ^^^ b) % 2 = 1 then (c / 2) ^^^ 0x82F63B78 else c / 2

/-- CRC-32C over the first n bits of a number, bit 0 first, before the final XOR. -/
def crcBits : Nat → Nat → Nat → Nat
  | 0, _, c => c
  | n + 1, w, c => crcBits n (w / 2) (crcBit c (w % 2))

/-- CRC-32C of n bytes, byte 0 in the low bits (R369). -/
def crc32c (n w : Nat) : Nat := crcBits (8 * n) w 0xFFFFFFFF ^^^ 0xFFFFFFFF

/-- A flit of 256 bytes: its 15 slots, slot s in bits 128s + 127 to 128s, bits 95:0 of its trailer, and its CRC (R364). -/
structure Flit where
  slots : BitVec 1920
  trailer : BitVec 96
  crc : BitVec 32
  deriving DecidableEq, Repr

namespace Flit

/-- Bits [hi:lo] of the trailer (Table LNK-2). -/
def field (f : Flit) (hi lo : Nat) : Nat := bits f.trailer.toNat hi lo

/-- SEQ. -/
def seq (f : Flit) : Nat := f.field 11 0
/-- ACK. -/
def ack (f : Flit) : Nat := f.field 23 12
/-- FK. -/
def kind (f : Flit) : Nat := f.field 26 24
/-- CR_REQ. -/
def crReq (f : Flit) : Nat := f.field 31 28
/-- CR_SNP. -/
def crSnp (f : Flit) : Nat := f.field 35 32
/-- CR_RSP. -/
def crRsp (f : Flit) : Nat := f.field 39 36
/-- CR_DAT. -/
def crDat (f : Flit) : Nat := f.field 43 40
/-- CR_WB. -/
def crWb (f : Flit) : Nat := f.field 47 44

/-- The CRC of bytes 0 to 251 (R369). -/
def crcOf (slots : BitVec 1920) (trailer : BitVec 96) : BitVec 32 :=
  BitVec.ofNat 32 (crc32c 252 (slots.toNat + trailer.toNat * 2 ^ 1920))

/-- A flit with its CRC. -/
def sealed (slots : BitVec 1920) (trailer : BitVec 96) : Flit := ⟨slots, trailer, crcOf slots trailer⟩

/-- The flit came with a good CRC (R371). -/
def crcOk (f : Flit) : Bool := f.crc == crcOf f.slots f.trailer

/-- Slot s. -/
def slot (f : Flit) (s : Nat) : Nat := bits f.slots.toNat (128 * s + 127) (128 * s)

end Flit

/-- Totals of credits by class. -/
structure Totals where
  req : Nat := 0
  snp : Nat := 0
  rsp : Nat := 0
  dat : Nat := 0
  wb : Nat := 0
  deriving DecidableEq, Repr

/-- A DATA flit in a replay buffer: SEQ, its slots, and the trailer bits above the credit totals (R370). -/
structure Sent where
  seq : Nat
  slots : BitVec 1920
  mark : Nat
  deriving DecidableEq, Repr

/-- A slot of a flit that carries a departure: its content, whether it belongs to the departure, and at the first slot of a
departure line the line's DLS entry (R383). -/
structure DepSlot where
  slot : BitVec 128
  mine : Bool
  line : Option Nat
  deriving DecidableEq, Repr

/-- A flit that a quiet window holds back: a NAK, an LPM code, the replay a NAK asked for (R258). -/
inductive Late where
  | nak | lpm (code : Nat) | replay
  deriving DecidableEq, Repr

/-- What the isolation cells of a domain's clamped pads drive (Table PWR-2). -/
inductive Clamp where
  | idle | high | low
  deriving DecidableEq, Repr

/-- A device address of a lane (Table DST-4). -/
structure DevAddr where
  rank : Nat
  bg : Nat
  ba : Nat
  row : Nat
  col : Nat
  deriving DecidableEq, Repr

/-- An array word that a SECDED code covers, as Table INT-8 tells them apart: header data of a set; HDC tags; DIR; SDR cache
tags; entry data of an SDR cache line; the transaction table and its queues; a write-buffer entry; a line of a departure's
buffer; a timetable entry; a line of a stream's combining buffer; a record of a software queue; an entry of the re-send log;
the mirror apply queue; any other array. -/
inductive SramWord where
  | hdcData (set : Nat) | hdcTag | dir | sdrTag | sdrData (line : Nat) | txn
  | wbf (num : Nat) | depBuf (idx line : Nat) | timetable (idx : Nat) | append (n off : Nat)
  | queue (q k : Nat) | log (k : Nat) | apply | other
  deriving DecidableEq, Repr

/-- What a command's reads of the on-die arrays found: an error in one bit, or in two bits, of a word (R358). -/
structure Upset where
  word : SramWord
  double : Bool
  deriving DecidableEq, Repr

/-- What the device drives to its surroundings. -/
inductive Out where
  /-- a message on a port: 0-31 the agent ports -/
  | msg (port : Nat) (m : Msg)
  /-- a link-control flit: NAK with EXP, LPM with CODE, INIT, HB -/
  | nak (port exp : Nat)
  | lpm (port code : Nat)
  | init (port : Nat) (resume : Bool) (nextRx : Nat)
  /-- a flit as it leaves a port, with its CRC (R364, R369) -/
  | flit (port : Nat) (f : Flit)
  | replay (port : Nat) (seqs : List Nat)
  /-- a heartbeat: the role, the pair state, EPOCH and MSEQ (R218) -/
  | heartbeat (serving : Bool) (state epoch mseq : Nat)
  /-- the pair digest with the role strap and the ordering code (R207) -/
  | digest (digest : Word) (role : Role) (grade : Bool)
  | twin (mseq : Nat) (items : List Item)
  | twinAck (mseq : Nat)
  /-- DDR5 lanes -/
  | laneRd (lane : Nat) (a : DevAddr)
  | laneWr (lane : Nat) (a : DevAddr) (b : Burst)
  | laneCmd (lane rank : Nat) (cmd : String) (arg : Nat)
  /-- zero headers at header indices from the first up to but not the next, of both header lanes, in ascending order (R304) -/
  | headerFill (first next : Nat)
  /-- every output of the lane is driven low (R313) -/
  | laneLow (lane : Nat)
  /-- the isolation cells of a domain drive its clamped pads; none: its own logic drives them again (R424) -/
  | clamp (dom : Nat) (c : Option Clamp)
  /-- the latched pads of a domain are held at these levels and output enables; none: released (R425) -/
  | pads (dom : Nat) (held : Option (BitVec 128))
  /-- memory ports: one 64-byte half each (R391) -/
  | memRd (mp addr : Nat)
  | memWr (mp addr : Nat) (part : Bool) (mask : BitVec 64) (data : BitVec 512) (psn : Bool)
  | memIo (mp addr : Nat) (space write : Bool) (v : Word)
  /-- a register access completed, with the value a read returns -/
  | regVal (src : Src) (v : Word)
  | regOk (src : Src)
  | busErr (src : Src) (cause : Nat)
  /-- a chain frame with its CRC (R479, R480) -/
  | chain (m : ChainMsg) (crc : Nat)
  /-- a chain frame that is forwarded as it came, by its bytes (R481) -/
  | chainRaw (bytes : List Nat) (crc : Nat)
  | msix (vector : Nat)
  /-- a PMBus transaction: the regulator's address, error checking, command and value (R427) -/
  | pmbus (addr : Nat) (pec : Bool) (cmd : String) (arg : Nat)
  | pin (name : String) (level : Bool)
  /-- a lane's RESET_N and CS_N are low, its other outputs high impedance (Table PKG-4) -/
  | laneReset (lane : Nat)
  /-- the SerDes transmitters of AP, MP and TW are in electrical idle, those of HST too unless a restart keeps its link (Table
  PKG-4, R476) -/
  | serdesIdle (host : Bool)
  | tdo (v : Nat)
  | flash (slot cmd : Nat)
  deriving DecidableEq, Repr

/-- A chain frame as it goes out, with its CRC (R480). -/
def chainOut (m : ChainMsg) : Out := .chain m m.crc

/-- What a memory port answers to a read: the line, and whether its lower and its upper half arrived poisoned; or an error
(R345, R391). -/
inductive MemAns where
  | data (d : LineData) (lo hi : Bool)
  | error
  deriving DecidableEq, Repr

/-- What a manager answers on an uplink (Table COH-4). -/
inductive UpAns where
  | data (gst : LState) (txid : Nat) (p : Payload)
  | ack (gst : LState) (txid : Nat) (offset : Option Nat)
  | stby (tkt : Nat)
  | err (sub : Nat)
  deriving DecidableEq, Repr

/-- INIT slot 0 (Table LNK-3). -/
structure InitInfo where
  kind : Nat
  daddr : Nat
  pport : Nat
  widx : Nat
  side : Bool
  resume : Bool
  nextRx : Nat
  cReq : Nat
  cSnp : Nat
  cRsp : Nat
  cDat : Nat
  cWb : Nat
  step : Nat
  deriving DecidableEq, Repr


/-- A message as the link layer sees it in a flit: opcode, ID, line address, state code and poison (Table LNK-5). -/
structure Slot where
  opc : Nat
  id : Nat
  line : Option Nat
  st : Nat
  psn : Bool
  deriving DecidableEq, Repr

/-- A configuration copy as read from flash (Table MOD-5): header fields, the CRC stored, the records. -/
structure Image where
  magic : Nat
  seq : Nat
  len : Nat
  flags : Nat
  ver : Nat
  step : Nat
  /-- bytes 15 to 27 -/
  rsv : Nat
  crc : Nat
  records : List (Nat × Word)
  deriving DecidableEq, Repr

/-- How a bring-up of a memory port ends, or that its link has trained and the steps after that follow (R392). -/
inductive BringUp where
  | ready (gib width : Nat) (slow : Bool)
  | trained (width : Nat) (slow : Bool)
  | trainFail
  | enumFail
  | capMismatch (gib : Nat)
  | hdmErr
  deriving DecidableEq, Repr

/-- The functions that drain (Table ORD-7, R354). -/
inductive DrainFn where
  | port (n : Nat) | dep | stream (n : Nat) | scb
  deriving DecidableEq, Repr

/-- The clock selectors (R407). -/
inductive Selector where
  | ref | core | out | meas
  deriving DecidableEq, Repr

/-- The stream descriptor registers of R276. -/
inductive ApdReg where
  | base | cfg | tail
  deriving DecidableEq, Repr

/-- The boundary-scan instructions (R563). -/
inductive Tap where
  | bypass | idcode | samplePreload | extest | extestPulse | extestTrain | clamp | highz
  deriving DecidableEq, Repr

end Sys2Proof
end

