-- ==== Sys2Proof/Syntax.lean ====
section
/-! DEFINITION. The commands of the block: one constructor per row of spec/opcode_table.json, with the operands the
row's rule names (the table itself gives no operand bits). -/

namespace Sys2Proof

/-- The 247 operations and events of the device; each docstring names the row and its rule. -/
inductive Instr where
  /-- RDSHARED (R105). -/
  | rdShared (h : Head)
  /-- RDFETCH (R105). -/
  | rdFetch (h : Head)
  /-- RDOWN (R106). -/
  | rdOwn (h : Head)
  /-- RDONCE (R109). -/
  | rdOnce (h : Head) (ch : Nat)
  /-- UPGRADE (R107). -/
  | upgrade (h : Head)
  /-- WRBACK (R112). -/
  | wrBack (h : Head) (p : Payload)
  /-- WRFULL (R111). -/
  | wrFull (h : Head) (ch : Nat) (p : Payload)
  /-- WRPART (R111). -/
  | wrPart (h : Head) (ch : Nat) (mask : Mask) (p : Payload)
  /-- DEPART (R237). -/
  | depart (h : Head) (count : Nat) (t : BitVec 64) (man dtag odev : Nat)
  /-- APPEND (R279). -/
  | append (h : Head) (stream len : Nat) (p : Payload)
  /-- TICKET_RETRY (R145). -/
  | ticketRetry (h : Head) (tkt : Nat) (b : Body)
  /-- STBY_EXPIRED (R148). -/
  | stbyExpired (tkt : Nat)
  /-- RESERVATION_FREED (R149). -/
  | reservationFreed (port : Nat)
  /-- SNPDATA (R116). -/
  | snpData (port txid : Nat) (dty : Bool) (rst : LState) (p : Payload)
  /-- ACKA_SNOOP (R119). -/
  | ackaSnoop (port txid : Nat)
  /-- ACKA_GRANT (R93). -/
  | ackaGrant (port txid : Nat)
  /-- MISS (R118). -/
  | miss (port txid : Nat) (wbp : Bool)
  /-- TRANSACTION_ACTIVATE (R136), and what its reads of the on-die arrays find (R358). -/
  | transactionActivate (txid : Nat) (upset : Option Upset)
  /-- BERTH_HOLD_END (R151). -/
  | berthHoldEnd (key : Nat)
  /-- RSP_TIMEOUT (R129). -/
  | rspTimeout (port txid : Nat)
  /-- TRANSACTION_RETIRE (R134). -/
  | transactionRetire (txid : Nat)
  /-- HEADER_FETCH_DONE (R49). -/
  | headerFetchDone (set : Nat) (noise : Burst)
  /-- HEADER_WAIT_UNPIN (R49). -/
  | headerWaitUnpin (txid : Nat)
  /-- LINE_READ_DONE (R331), and what its reads of the on-die arrays find (R358). -/
  | lineReadDone (txid : Nat) (noise : Burst) (upset : Option Upset)
  /-- MEM_READ_DONE (R345), and how many of its two responses report overload (R390). -/
  | memReadDone (line : Nat) (ans : MemAns) (loads : Nat)
  /-- NEXT_LEVEL_WRITE_ACK (R71), and how many of its two responses report overload (R390). -/
  | nextLevelWriteAck (line loads : Nat)
  /-- WR_FAIL (R568). -/
  | wrFail (line : Nat)
  /-- VICTIM_COPY (R67). -/
  | victimCopy (txid : Nat)
  /-- VICTIM_WAIT_ELIGIBLE (R54). -/
  | victimWaitEligible (txid : Nat)
  /-- COMBINING_TIMEOUT (R68). -/
  | combiningTimeout (line : Nat)
  /-- WBF_FLUSH (R68). -/
  | wbfFlush (src : Src)
  /-- HDC_FLUSH (R52). -/
  | hdcFlush (src : Src)
  /-- FLUSH_DONE (R52). -/
  | flushDone
  /-- PIP_QUAR_CLR (R48). -/
  | pipQuarClr (src : Src)
  /-- WAY_GROUP_POWER_DOWN (R72). -/
  | wayGroupPowerDown (src : Src) (g : Nat)
  /-- SWEEP_SET (R73). -/
  | sweepSet
  /-- SWEEP_DONE (R72). -/
  | sweepDone
  /-- SWEEP_STOP (R75). -/
  | sweepStop (src : Src) (g : Nat)
  /-- WAY_GROUP_WAKE (R76). -/
  | wayGroupWake (src : Src) (g : Nat)
  /-- MNT_START (R82). -/
  | mntStart (src : Src) (op : Nat) (whole : Bool)
  /-- MNT_ABORT (R83). -/
  | mntAbort (src : Src)
  /-- MNT_LINE (R80). -/
  | mntLine
  /-- MNT_DONE (R83). -/
  | mntDone
  /-- DIR_PROBE_GO (R131). -/
  | dirProbeGo (src : Src)
  /-- DIR_PROBE_DONE (R131). -/
  | dirProbeDone
  /-- DEP_PROBE_GO (R131). -/
  | depProbeGo (src : Src)
  /-- MANAGER_SNOOP (R192). -/
  | managerSnoop (uplink : Nat) (sn : Snoop) (mtxid addr : Nat)
  /-- UPLINK_RESPONSE (R175). -/
  | uplinkResponse (uplink oport tag : Nat) (ans : UpAns)
  /-- UPLINK_DOWN (R199). -/
  | uplinkDown
  /-- SDR_INIT_DONE (R184). -/
  | sdrInitDone
  /-- TAKEOVER_DOWNLINK (R227). -/
  | takeoverDownlink (port epoch : Nat)
  /-- TAKEOVER_UPLINK (R228). -/
  | takeoverUplink (uplink epoch : Nat)
  /-- HOMEMOVED (R220). -/
  | homeMoved (port epoch : Nat)
  /-- PAIR_DIGEST (R207). -/
  | pairDigest (digest : Word) (role : Role) (grade : Bool) (addr : Nat)
  /-- PAIRING_GUARD_EXPIRY (R208). -/
  | pairingGuardExpiry
  /-- PARTNER_READ (R209). -/
  | partnerRead (ans : Option Partner)
  /-- HEARTBEAT (R218). -/
  | heartbeat
  /-- HB_LOSS (R218). -/
  | hbLoss
  /-- LOSS_WAIT_CONFIRM (R219). -/
  | lossWaitConfirm (ans : Option Partner)
  /-- FENCED_CHECK (R220). -/
  | fencedCheck (ans : Option Partner)
  /-- TWN_GUARD_EXPIRY (R220). -/
  | twnGuardExpiry
  /-- RESEND_WINDOW_END (R225). -/
  | resendWindowEnd (ns : Nat)
  /-- JOIN (R229). -/
  | join (src : Src)
  /-- DETACH (R230). -/
  | detach (src : Src)
  /-- FORCE_TAKE (R219). -/
  | forceTake (src : Src)
  /-- TWN_RESUME (R220). -/
  | twnResume (src : Src)
  /-- COPY_DONE (R229). -/
  | copyDone
  /-- MIRROR_FLIT (R210). -/
  | mirrorFlit (mseq : Nat) (items : List Item)
  /-- MIRROR_APPLY (R212). -/
  | mirrorApply
  /-- MIRROR_ACK (R211). -/
  | mirrorAck (mseq : Nat)
  /-- DIRTY_COPY_REPORT (R216). -/
  | dirtyCopyReport (txid port : Nat)
  /-- DEPANNOUNCE (R239). -/
  | depAnnounce (uplink : Nat) (d : Dep)
  /-- DEPACCEPT (R240). -/
  | depAccept (port idx : Nat) (empty : Bool)
  /-- DEPREFUSE (R240). -/
  | depRefuse (port idx : Nat)
  /-- DEPCANCEL (R272). -/
  | depCancelMsg (uplink idx : Nat) (adm : Bool)
  /-- DEPBOARD (R248). -/
  | depBoard (uplink idx addr : Nat) (mask : BitVec 8)
  /-- DEPBOARD_MISS (R249). -/
  | depBoardMiss (port idx line : Nat)
  /-- DEPLINE_FROM_WORKER (R250). -/
  | depLineFromWorker (port idx : Nat) (b : Boarded)
  /-- DEPLINE_TO_WORKER (R256). -/
  | depLineToWorker (uplink idx : Nat) (b : Boarded)
  /-- DEPACK_AT_MANAGER (R256). -/
  | depAckAtManager (port idx lidx : Nat)
  /-- DEPACK_AT_WORKER (R249). -/
  | depAckAtWorker (uplink idx lidx : Nat)
  /-- BOARDING_START (R243). -/
  | boardingStart (idx : Nat)
  /-- QUIET_WINDOW (R258). -/
  | quietWindow (idx : Nat)
  /-- DEPARTURE_RELEASE (R265). -/
  | departureRelease (idx : Nat)
  /-- LATE_STAGED (R258). -/
  | lateStaged (idx : Nat)
  /-- IMMEDIATE_RELEASE (R385). -/
  | immediateRelease (idx port : Nat)
  /-- RELEASE_END (R266). -/
  | releaseEnd (idx : Nat)
  /-- DEP_CANCEL (R272). -/
  | depCancelGo (src : Src)
  /-- DEP_DISABLE (R273). -/
  | depDisable (src : Src)
  /-- STREAM_ENABLE (R274). -/
  | streamEnable (src : Src) (n : Nat)
  /-- STREAM_DISABLE (R291). -/
  | streamDisable (src : Src) (n : Nat)
  /-- APD_FLUSH (R283). -/
  | apdFlush (src : Src) (n : Nat)
  /-- APPEND_COMBINE_TIMEOUT (R283). -/
  | appendCombineTimeout (n : Nat)
  /-- APD_LINE_WRITE_DONE (R287). -/
  | apdLineWriteDone (n off : Nat)
  /-- LINE_FAIL (R290). -/
  | lineFail (n off : Nat)
  /-- APD_HEAD_WRITE (R288). -/
  | apdHeadWrite (src : Src) (n : Nat) (h : BitVec 64)
  /-- APD_DESCRIPTOR_WRITE (R276). -/
  | apdDescriptorWrite (src : Src) (n : Nat) (r : ApdReg) (v : BitVec 64)
  /-- LANE_START_UP (R301). -/
  | laneStartUp (lane : Nat)
  /-- TRAINING_TOKEN_GRANT (R303). -/
  | trainingTokenGrant (lane us : Nat)
  /-- TRAIN_FAIL (R302). -/
  | trainFail (lane step : Nat)
  /-- HEADER_FILL (R304). -/
  | headerFill
  /-- FILL_DONE (R304). -/
  | fillDone
  /-- REFRESH (R306). -/
  | refresh (lane rank : Nat)
  /-- POSTPONED_REFRESH_BURST (R307). -/
  | postponedRefreshBurst (lane rank : Nat)
  /-- RFM (R308). -/
  | rfm (lane rank bank : Nat)
  /-- MR4_POLL (R309). -/
  | mr4Poll (lane rank cls : Nat)
  /-- ZQ_CALIBRATION (R310). -/
  | zqCalibration
  /-- SELF_REFRESH_EXIT (R312). -/
  | selfRefreshExit (lane : Nat)
  /-- DS_VR_PG_TIMEOUT (R316). -/
  | dsVrPgTimeout (g : Nat)
  /-- VR_STUCK (R317). -/
  | vrStuck (g : Nat)
  /-- VR_FAULT (R318). -/
  | vrFault (g : Nat)
  /-- LOSS_SWEEP_DONE (R320). -/
  | lossSweepDone
  /-- CORRECTION_WINDOW_CLOSE (R335). -/
  | correctionWindowClose
  /-- SCRUB_BURST (R352). -/
  | scrubBurst
  /-- SCRUB_GAP_END (R352). -/
  | scrubGapEnd
  /-- SCRUB_READ_DONE (R353). -/
  | scrubReadDone (lane : Nat) (noise : Burst)
  /-- SCB_DISABLE (R354). -/
  | scbDisable (src : Src)
  /-- FLIP_ARM (R357). -/
  | flipArm (src : Src)
  /-- FLIP_DISCARD (R357). -/
  | flipDiscard (src : Src)
  /-- CHAN_HALT_CLR (R350). -/
  | chanHaltClr (src : Src) (port : Nat) (mask : BitVec 16)
  /-- PEER_DETECT (R362). -/
  | peerDetect (port : Nat)
  /-- LINK_TRAINED (R362). -/
  | linkTrained (port : Nat) (ok : Bool) (width rate : Nat)
  /-- INIT (R368). -/
  | init (port : Nat) (f : Flit)
  /-- INIT_RESEND (R368). -/
  | initResend (port : Nat)
  /-- DATA_FLIT (R371). -/
  | dataFlit (port : Nat) (f : Flit)
  /-- NAK (R372). -/
  | nak (port : Nat) (f : Flit) (exp : Nat)
  /-- RECOVER_DONE (R372). -/
  | recoverDone (port : Nat) (ok : Bool)
  /-- LP_IDLE (R363). -/
  | lpIdle (port : Nat)
  /-- LPM (R366). -/
  | lpm (port : Nat) (f : Flit) (code : Nat)
  /-- LP_EXIT (R362). -/
  | lpExit (port : Nat)
  /-- LINK_DOWN (R373). -/
  | linkDown (port : Nat)
  /-- LOST (R374). -/
  | lost (port : Nat)
  /-- PORT_DISABLE (R386). -/
  | portDisable (src : Src) (port : Nat)
  /-- PORT_ENABLE (R386). -/
  | portEnable (src : Src) (port : Nat)
  /-- DRAINING_END (R161). -/
  | drainingEnd (fn : DrainFn)
  /-- MEMORY_PORT_BRING_UP (R392). -/
  | memoryPortBringUp (mp : Nat) (r : BringUp)
  /-- MP_LINK_DOWN (R393). -/
  | mpLinkDown (mp : Nat)
  /-- MP_FAILED (R393). -/
  | mpFailed (mp : Nat)
  /-- MP_REMOVE (R394). -/
  | mpRemove (src : Src) (mp : Nat)
  /-- MP_ADD (R394). -/
  | mpAdd (src : Src) (mp : Nat) (r : BringUp)
  /-- MP_IO_DATA (R395). -/
  | mpIoData (src : Src) (mp : Nat) (write : Bool) (v : Word) (ans : Option Word)
  /-- FLR (R396). -/
  | flr (perst : Bool)
  /-- RST_N_LOW (R459). -/
  | rstNLow (pwrOk : Bool)
  /-- RESET_RELEASE (R457). -/
  | resetRelease (role : Role) (side head : Bool)
  /-- CRYSTAL_READY (R400). -/
  | crystalReady
  /-- XTAL_FAIL (R401). -/
  | xtalFail
  /-- XTAL_RETRY (R401). -/
  | xtalRetry (src : Src)
  /-- XTAL_LOST (R402). -/
  | xtalLost
  /-- PLL_LOCK (R398). -/
  | pllLock (k : Nat)
  /-- PLL_TIMEOUT (R398). -/
  | pllTimeout (k : Nat)
  /-- PLL_FAIL (R399). -/
  | pllFail (k : Nat)
  /-- PLL_RELOCK (R399). -/
  | pllRelock (k : Nat)
  /-- CLOCK_SWITCH (R407). -/
  | clockSwitch (sel : Selector)
  /-- FORCED (R409). -/
  | forced (sel : Selector)
  /-- CLK_FORCE_GATE (R405). -/
  | clkForceGate (src : Src) (gate : BitVec 11)
  /-- GATE_CLOSE (R406). -/
  | gateClose (bit : Nat)
  /-- CLK_OUT_CFG_WRITE (R418). -/
  | clkOutCfgWrite (src : Src) (v : Word)
  /-- CLK_MEAS_GO (R419). -/
  | clkMeasGo (src : Src) (sel : Nat)
  /-- MEAS_DONE (R419). -/
  | measDone (khz : Nat)
  /-- BELL_LOCK (R410). -/
  | bellLock
  /-- BEL_ARM (R412). -/
  | belArm (src : Src)
  /-- BEL_DISARM (R412). -/
  | belDisarm (src : Src)
  /-- SYNC_SEEN (R413). -/
  | syncSeen
  /-- MARK_ARM (R417). -/
  | markArm (src : Src)
  /-- MARK_DONE (R417). -/
  | markDone
  /-- BELL_LOST (R416). -/
  | bellLost
  /-- DOMAIN_OFF (R421). -/
  | domainOff (src : Src) (bit : Nat)
  /-- DOMAIN_ON (R422). -/
  | domainOn (src : Src) (bit : Nat)
  /-- PAD_RELEASE (R425). -/
  | padRelease (src : Src) (rel : BitVec 21)
  /-- PMBUS_POLL (R427). -/
  | pmbusPoll (mode : Option (BitVec 8)) (ans : Option (Nat × Nat))
  /-- VR_ALERT (R429). -/
  | vrAlert (status : Option Nat)
  /-- VR_CLEAR (R427). -/
  | vrClear (src : Src)
  /-- VR_PG_LOST (R430). -/
  | vrPgLost
  /-- DVFS_TARGET (R433). -/
  | dvfsTarget (src : Src) (t : Nat)
  /-- DVFS_FGO (R436). -/
  | dvfsFgo (src : Src)
  /-- DVFS_VGO (R436). -/
  | dvfsVgo (src : Src)
  /-- VOLTAGE_REACHED (R434). -/
  | voltageReached (ans : Option (Nat × Nat))
  /-- WAKE_TO (R450). -/
  | wakeTo (step dom : Nat)
  /-- PURSER_UPDATE (R442). -/
  | purserUpdate
  /-- PURSER_RESCALE (R438). -/
  | purserRescale
  /-- TOKEN_RETURN (R439). -/
  | tokenReturn (kind who : Nat)
  /-- OVER_CAP (R440). -/
  | overCap (kind who : Nat)
  /-- DOZE_REQ (R444). -/
  | dozeReq (src : Src)
  /-- DOZE_STAGE (R444). -/
  | dozeStage
  /-- DOZE_QUIESCE_TIMEOUT (R445). -/
  | dozeQuiesceTimeout
  /-- WAKE_EVENT (R447). -/
  | wakeEvent (bit : Nat)
  /-- DOZE_WAKE (R447). -/
  | dozeWake (src : Src)
  /-- DOZE_OUT (R448). -/
  | dozeOut
  /-- FLASH_READ_DONE (R463). -/
  | flashReadDone (a b : Image)
  /-- GO (R467). -/
  | go (src : Src)
  /-- AUTOSTART (R468). -/
  | autostart
  /-- SELF_TEST_DONE (R470). -/
  | selfTestDone (failArr fails us : Nat)
  /-- TRAIN_COMPLETE (R472). -/
  | trainComplete
  /-- SERVE (R473). -/
  | serve (src : Src) (v : Bool)
  /-- DRAIN (R474). -/
  | drain (src : Src)
  /-- DRAIN_SET (R474). -/
  | drainSet
  /-- DRAIN_DONE (R475). -/
  | drainDone
  /-- DRAIN_RESUME (R475). -/
  | drainResume (src : Src)
  /-- RESTART (R476). -/
  | restart (src : Src)
  /-- CHAIN_RD (R487). -/
  | chainRd (m : ChainMsg) (crc : Nat)
  /-- CHAIN_WR (R487). -/
  | chainWr (m : ChainMsg) (crc : Nat)
  /-- CHAIN_BWR (R486). -/
  | chainBwr (m : ChainMsg) (crc : Nat)
  /-- CHAIN_RSP (R482). -/
  | chainRsp (m : ChainMsg) (crc : Nat)
  /-- CHAIN_EVT (R530). -/
  | chainEvt (m : ChainMsg) (crc : Nat)
  /-- MBX (R541). -/
  | mbx (m : ChainMsg) (crc : Nat)
  /-- ENUM (R483). -/
  | enum (m : ChainMsg) (crc : Nat) (own : Bool)
  /-- NO_ANSWER (R482). -/
  | noAnswer (seq : Nat)
  /-- CHN_ENUM (R484). -/
  | chnEnum (src : Src)
  /-- CHN_GO (R482). -/
  | chnGo (src : Src)
  /-- IN_LOST (R484). -/
  | inLost
  /-- CHN_IN_REGAIN (R484). -/
  | chnInRegain
  /-- REGISTER_WRITE (R495). -/
  | registerWrite (src : Src) (ofs size : Nat) (v : BitVec 64)
  /-- LOCK (R511). -/
  | lock (src : Src) (page : Nat)
  /-- EVT_READ (R494). -/
  | evtRead (src : Src) (page : Nat)
  /-- RC_READ (R495). -/
  | rcRead (src : Src) (ofs : Nat)
  /-- LO_READ (R505). -/
  | loRead (src : Src) (ofs : Nat)
  /-- HI_WRITE (R506). -/
  | hiWrite (src : Src) (ofs : Nat) (v : Word)
  /-- LO_WRITE (R506). -/
  | loWrite (src : Src) (ofs : Nat) (v : Word)
  /-- ALIAS_READ (R503). -/
  | aliasRead (src : Src) (ofs size : Nat)
  /-- ALIAS_WRITE (R503). -/
  | aliasWrite (src : Src) (ofs size : Nat) (v : Word)
  /-- WATCHDOG_TIMEOUT (R501). -/
  | watchdogTimeout (src : Src) (ofs : Nat) (write : Bool)
  /-- CFG_PASS_END (R518). -/
  | cfgPassEnd (us : Nat)
  /-- CFG_COMMIT (R517). -/
  | cfgCommit (src : Src)
  /-- COMMIT_DONE (R517). -/
  | commitDone (us : Nat)
  /-- EVC_REARM (R525). -/
  | evcRearm (src : Src) (word : Nat) (mask : Word)
  /-- PBA_RELEASE (R526). -/
  | pbaRelease
  /-- EVT_FRAME_SEND (R528). -/
  | evtFrameSend (word : Nat)
  /-- QUE_DATA_READ (R533). -/
  | queDataRead (src : Src) (n size : Nat)
  /-- QUE_DROP (R535). -/
  | queDrop (src : Src) (n : Nat)
  /-- MBO_WRITE (R540). -/
  | mboWrite (src : Src) (v : Word)
  /-- MBO_SEND (R540). -/
  | mboSend
  /-- PMU_CLEAR (R548). -/
  | pmuClear (src : Src)
  /-- COUNTER_WRAP (R546). -/
  | counterWrap (fixed : Bool) (n : Nat)
  /-- SAMPLE (R549). -/
  | sample (skid : Nat)
  /-- PMU_SMP_DONE (R549). -/
  | pmuSmpDone (src : Src)
  /-- DS_VR_PG_RISE (R301). -/
  | dsVrPgRise (g : Nat)
  /-- IDLE_FLIT (R365). -/
  | idleFlit (port : Nat) (f : Flit)
  /-- HEARTBEAT_RECEIVED (R218). -/
  | heartbeatReceived (f : Flit) (serving : Bool) (state epoch mseq : Nat)
  /-- MP_LINK_RETURN (R393). -/
  | mpLinkReturn (mp width : Nat) (slow : Bool)
  /-- VIRAL (R390). -/
  | viral (mp : Nat)
  /-- CHAIN_BAD_FRAME (R480). -/
  | chainBadFrame (bytes : List Nat) (crc : Nat)
  /-- READ_BUS_ERROR (R499). -/
  | readBusError (src : Src) (ofs size : Nat)
  /-- BOUNDARY_SCAN (R563). -/
  | boundaryScan (t : Tap)
  /-- CORE_CYCLE (R138). -/
  | coreCycle
  /-- BELL_TICK (R410). -/
  | bellTick
  /-- PWR_OK_RISE (R459). -/
  | pwrOkRise
  /-- HST_LINK_DOWN (R526). -/
  | hstLinkDown
  deriving DecidableEq, Repr

end Sys2Proof
end

