-- ==== Sys2Proof/Machine/RegMap.lean ====
section
/-! DEFINITION. The register map: every page of Table REG-9, and every register of the block chapters' tables with its
fields, access codes and reset values (R8, R490, R495, R519, R520). -/

namespace Sys2Proof.Machine

/-- The access codes of Tables SCO-5 and REG-4. -/
inductive Acc where
  | rw | ro | rc | wo | wt | rwo | rwl
  deriving DecidableEq, Repr

/-- A field of a register: bits [hi:lo], access, reset value. -/
structure RField where
  hi : Nat
  lo : Nat
  acc : Acc
  rst : Nat
  deriving DecidableEq, Repr

/-- Which half of a 64-bit pair a register is (R505). -/
inductive Half where
  | no | lo | hi
  deriving DecidableEq, Repr

/-- A row of a register table: `count` registers from offset `off` of its page, `stride` apart. -/
structure RRow where
  off : Nat
  count : Nat
  stride : Nat
  half : Half
  fields : List RField
  deriving DecidableEq, Repr

/-- The kinds of page of Table REG-9, a block's pages apart. -/
inductive PageKind where

  | gcr | cfg | clk | pwr | pur | bel | chn | hst | evc0 | evc1 | que | pmu0 | pmu1 | tst | pip | amp | hdc | wbf | dir | sdr | cnf | dep0 | dep1 | dep2 | dep3 | apd0 | apd1 | hie | twn | dsc | ecc | scb | dsl | ap0 | ap1 | mp
  deriving DecidableEq, Repr


/-- A field by register offset and bits. -/
structure FieldRef where
  ofs : Nat
  hi : Nat
  lo : Nat
  deriving DecidableEq, Repr

/-- Shorthand for a field of a table row. -/
def rf (hi lo : Nat) (acc : Acc) (rst : Nat) : RField := ⟨hi, lo, acc, rst⟩

/-- The gcr page (base 0x0). -/
def rowsGcr : List RRow := [
  ⟨0xC, 1, 0, .no, [rf 0 0 .rc 0, rf 1 1 .rc 0, rf 2 2 .rc 0, rf 3 3 .rc 0, rf 4 4 .rc 0, rf 5 5 .rc 0, rf 6 6 .rc 0, rf 7 7 .rc 0, rf 8 8 .rc 0, rf 9 9 .rc 0]⟩,
  ⟨0x40, 1, 0, .no, [rf 15 0 .ro 16534, rf 23 16 .ro 177, rf 24 24 .ro 0]⟩,
  ⟨0x44, 1, 0, .no, [rf 3 0 .ro 1, rf 11 8 .ro 0]⟩,
  ⟨0x48, 1, 0, .no, [rf 0 0 .wt 0, rf 1 1 .wt 0, rf 2 2 .wt 0, rf 3 3 .wt 0]⟩,
  ⟨0x4C, 1, 0, .no, [rf 0 0 .rw 1]⟩,
  ⟨0x50, 1, 0, .no, [rf 0 0 .ro 0, rf 1 1 .ro 0, rf 2 2 .ro 0, rf 7 4 .ro 0]⟩,
  ⟨0x54, 1, 0, .no, [rf 1 0 .ro 0, rf 2 2 .ro 0, rf 3 3 .ro 0]⟩,
  ⟨0x58, 1, 0, .no, [rf 1 0 .ro 0, rf 2 2 .ro 0, rf 3 3 .ro 0, rf 4 4 .ro 0, rf 5 5 .ro 0, rf 29 16 .ro 0]⟩,
  ⟨0x5C, 1, 0, .no, [rf 31 0 .ro 0]⟩,
  ⟨0x60, 1, 0, .no, [rf 27 0 .ro 0]⟩,
  ⟨0x64, 1, 0, .no, [rf 3 0 .ro 0, rf 5 4 .ro 0, rf 6 6 .ro 0, rf 31 16 .ro 0]⟩,
  ⟨0x68, 1, 0, .no, [rf 31 0 .rw 0]⟩,
  ⟨0x6C, 1, 0, .no, [rf 31 0 .rw 0]⟩,
  ⟨0x10, 1, 0, .no, [rf 0 0 .rw 0, rf 1 1 .rw 0, rf 2 2 .rw 0, rf 3 3 .rw 0, rf 4 4 .rw 0, rf 5 5 .rw 0, rf 6 6 .rw 0, rf 7 7 .rw 0, rf 8 8 .rw 0, rf 9 9 .rw 0]⟩,
  ⟨0x14, 1, 0, .no, [rf 0 0 .ro 0, rf 1 1 .ro 0, rf 2 2 .ro 0, rf 3 3 .ro 0, rf 4 4 .ro 0, rf 5 5 .ro 0, rf 6 6 .ro 0, rf 7 7 .ro 0, rf 8 8 .ro 0, rf 9 9 .ro 0]⟩]

/-- The cfg page (base 0x1000). -/
def rowsCfg : List RRow := [
  ⟨0xC, 1, 0, .no, [rf 0 0 .rc 0, rf 1 1 .rc 0]⟩,
  ⟨0x40, 1, 0, .no, [rf 31 0 .ro 0]⟩,
  ⟨0x44, 1, 0, .no, [rf 31 0 .ro 0]⟩,
  ⟨0x48, 1, 0, .no, [rf 0 0 .wt 0]⟩,
  ⟨0x4C, 1, 0, .no, [rf 0 0 .ro 0, rf 1 1 .ro 0, rf 2 2 .ro 0, rf 31 16 .ro 0]⟩,
  ⟨0x50, 1, 0, .no, [rf 21 0 .ro 0]⟩,
  ⟨0x54, 1, 0, .no, [rf 31 0 .ro 0]⟩,
  ⟨0x10, 1, 0, .no, [rf 0 0 .rw 0, rf 1 1 .rw 0]⟩,
  ⟨0x14, 1, 0, .no, [rf 0 0 .ro 0, rf 1 1 .ro 0]⟩]

/-- The clk page (base 0x2000). -/
def rowsClk : List RRow := [
  ⟨0xC, 1, 0, .no, [rf 0 0 .rc 0, rf 1 1 .rc 0, rf 2 2 .rc 0, rf 3 3 .rc 0, rf 4 4 .rc 0, rf 5 5 .rc 0, rf 6 6 .rc 0, rf 7 7 .rc 0, rf 8 8 .rc 0]⟩,
  ⟨0x40, 1, 0, .no, [rf 18 0 .ro 1]⟩,
  ⟨0x44, 1, 0, .no, [rf 18 0 .ro 0]⟩,
  ⟨0x48, 1, 0, .no, [rf 0 0 .rc 0, rf 1 1 .rc 0, rf 2 2 .rc 0, rf 3 3 .rc 0]⟩,
  ⟨0x4C, 1, 0, .no, [rf 0 0 .ro 0, rf 2 1 .ro 0, rf 3 3 .ro 0]⟩,
  ⟨0x50, 1, 0, .no, [rf 0 0 .rwl 1]⟩,
  ⟨0x54, 1, 0, .no, [rf 0 0 .wt 0]⟩,
  ⟨0x58, 1, 0, .no, [rf 10 0 .rw 0]⟩,
  ⟨0x5C, 1, 0, .no, [rf 10 0 .ro 0, rf 26 16 .ro 0]⟩,
  ⟨0x60, 1, 0, .no, [rf 4 0 .rw 31, rf 17 8 .rw 0]⟩,
  ⟨0x64, 1, 0, .no, [rf 4 0 .rw 0, rf 8 8 .wt 0]⟩,
  ⟨0x68, 1, 0, .no, [rf 23 0 .ro 0, rf 31 31 .ro 0]⟩,
  ⟨0x10, 1, 0, .no, [rf 0 0 .rw 0, rf 1 1 .rw 0, rf 2 2 .rw 0, rf 3 3 .rw 0, rf 4 4 .rw 0, rf 5 5 .rw 0, rf 6 6 .rw 0, rf 7 7 .rw 0, rf 8 8 .rw 0]⟩,
  ⟨0x14, 1, 0, .no, [rf 0 0 .ro 0, rf 1 1 .ro 0, rf 2 2 .ro 0, rf 3 3 .ro 0, rf 4 4 .ro 0, rf 5 5 .ro 0, rf 6 6 .ro 0, rf 7 7 .ro 0, rf 8 8 .ro 0]⟩]

/-- The pwr page (base 0x3000). -/
def rowsPwr : List RRow := [
  ⟨0xC, 1, 0, .no, [rf 0 0 .rc 0, rf 1 1 .rc 0, rf 2 2 .rc 0, rf 3 3 .rc 0, rf 4 4 .rc 0, rf 5 5 .rc 0, rf 6 6 .rc 0, rf 7 7 .rc 0, rf 8 8 .rc 0, rf 9 9 .rc 0, rf 10 10 .rc 0, rf 11 11 .rc 0]⟩,
  ⟨0x40, 1, 0, .no, [rf 3 0 .rw 0]⟩,
  ⟨0x44, 1, 0, .no, [rf 3 0 .rwl 0]⟩,
  ⟨0x48, 1, 0, .no, [rf 20 0 .ro 2097151]⟩,
  ⟨0x4C, 1, 0, .no, [rf 20 0 .ro 0]⟩,
  ⟨0x50, 1, 0, .no, [rf 20 0 .wt 0]⟩,
  ⟨0x54, 1, 0, .no, [rf 10 0 .rw 0]⟩,
  ⟨0x58, 1, 0, .no, [rf 1 0 .rw 0, rf 5 4 .ro 2, rf 7 6 .ro 0, rf 8 8 .ro 0, rf 9 9 .ro 0]⟩,
  ⟨0x5C, 1, 0, .no, [rf 1 0 .rw 0, rf 3 2 .rw 0, rf 4 4 .wt 0, rf 5 5 .wt 0]⟩,
  ⟨0x60, 1, 0, .no, [rf 6 0 .rwl 64, rf 7 7 .rwl 1, rf 15 8 .rwl 50, rf 23 16 .rwl 100]⟩,
  ⟨0x64, 1, 0, .no, [rf 0 0 .wt 0]⟩,
  ⟨0x68, 1, 0, .no, [rf 11 0 .ro 0]⟩,
  ⟨0x6C, 1, 0, .no, [rf 15 0 .ro 0]⟩,
  ⟨0x70, 1, 0, .no, [rf 15 0 .ro 0]⟩,
  ⟨0x74, 1, 0, .no, [rf 0 0 .wt 0, rf 1 1 .wt 0, rf 8 8 .ro 0]⟩,
  ⟨0x78, 1, 0, .no, [rf 15 0 .rwl 1000]⟩,
  ⟨0x7C, 1, 0, .no, [rf 3 0 .rw 15]⟩,
  ⟨0x80, 1, 0, .no, [rf 4 0 .rc 0]⟩,
  ⟨0x84, 1, 0, .no, [rf 3 0 .ro 0, rf 11 8 .ro 0]⟩,
  ⟨0x88, 1, 0, .lo, [rf 31 0 .rw 0]⟩,
  ⟨0x8C, 1, 0, .hi, [rf 31 0 .rw 0]⟩,
  ⟨0x90, 1, 0, .no, [rf 4 0 .ro 0, rf 7 5 .ro 0, rf 9 8 .ro 0]⟩,
  ⟨0x10, 1, 0, .no, [rf 0 0 .rw 0, rf 1 1 .rw 0, rf 2 2 .rw 0, rf 3 3 .rw 0, rf 4 4 .rw 0, rf 5 5 .rw 0, rf 6 6 .rw 0, rf 7 7 .rw 0, rf 8 8 .rw 0, rf 9 9 .rw 0, rf 10 10 .rw 0, rf 11 11 .rw 0]⟩,
  ⟨0x14, 1, 0, .no, [rf 0 0 .ro 0, rf 1 1 .ro 0, rf 2 2 .ro 0, rf 3 3 .ro 0, rf 4 4 .ro 0, rf 5 5 .ro 0, rf 6 6 .ro 0, rf 7 7 .ro 0, rf 8 8 .ro 0, rf 9 9 .ro 0, rf 10 10 .ro 0, rf 11 11 .ro 0]⟩]

/-- The pur page (base 0x4000). -/
def rowsPur : List RRow := [
  ⟨0xC, 1, 0, .no, [rf 0 0 .rc 0, rf 1 1 .rc 0, rf 2 2 .rc 0]⟩,
  ⟨0x40, 1, 0, .no, [rf 9 0 .rw 980]⟩,
  ⟨0x44, 1, 0, .no, [rf 3 0 .rwl 12, rf 15 8 .rwl 20, rf 23 16 .rwl 10]⟩,
  ⟨0x48, 1, 0, .no, [rf 9 0 .ro 0, rf 25 16 .ro 0]⟩,
  ⟨0x4C, 1, 0, .no, [rf 3 0 .ro 0, rf 21 16 .ro 0]⟩,
  ⟨0x50, 6, 4, .no, [rf 7 0 .rwl 0]⟩,
  ⟨0x68, 1, 0, .lo, [rf 31 0 .ro 0]⟩,
  ⟨0x6C, 1, 0, .hi, [rf 31 0 .ro 0]⟩,
  ⟨0x70, 1, 0, .no, [rf 31 0 .ro 0]⟩,
  ⟨0x10, 1, 0, .no, [rf 0 0 .rw 0, rf 1 1 .rw 0, rf 2 2 .rw 0]⟩,
  ⟨0x14, 1, 0, .no, [rf 0 0 .ro 0, rf 1 1 .ro 0, rf 2 2 .ro 0]⟩]

/-- The bel page (base 0x5000). -/
def rowsBel : List RRow := [
  ⟨0xC, 1, 0, .no, [rf 0 0 .rc 0, rf 1 1 .rc 0, rf 2 2 .rc 0, rf 3 3 .rc 0, rf 4 4 .rc 0]⟩,
  ⟨0x40, 1, 0, .no, [rf 0 0 .wt 0, rf 1 1 .wt 0, rf 2 2 .wt 0, rf 8 8 .ro 0, rf 9 9 .ro 0]⟩,
  ⟨0x44, 1, 0, .no, [rf 0 0 .ro 0, rf 1 1 .ro 0]⟩,
  ⟨0x48, 1, 0, .lo, [rf 31 0 .rw 0]⟩,
  ⟨0x4C, 1, 0, .hi, [rf 31 0 .rw 0]⟩,
  ⟨0x50, 1, 0, .no, [rf 7 0 .rw 0, rf 12 8 .rw 0]⟩,
  ⟨0x58, 1, 0, .lo, [rf 31 0 .ro 0]⟩,
  ⟨0x5C, 1, 0, .hi, [rf 31 0 .ro 0]⟩,
  ⟨0x60, 1, 0, .lo, [rf 31 0 .ro 0]⟩,
  ⟨0x64, 1, 0, .hi, [rf 31 0 .ro 0]⟩,
  ⟨0x68, 1, 0, .lo, [rf 31 0 .rw 0]⟩,
  ⟨0x6C, 1, 0, .hi, [rf 31 0 .rw 0]⟩,
  ⟨0x10, 1, 0, .no, [rf 0 0 .rw 0, rf 1 1 .rw 0, rf 2 2 .rw 0, rf 3 3 .rw 0, rf 4 4 .rw 0]⟩,
  ⟨0x14, 1, 0, .no, [rf 0 0 .ro 0, rf 1 1 .ro 0, rf 2 2 .ro 0, rf 3 3 .ro 0, rf 4 4 .ro 0]⟩]

/-- The chn page (base 0x6000). -/
def rowsChn : List RRow := [
  ⟨0xC, 1, 0, .no, [rf 0 0 .rc 0, rf 1 1 .rc 0, rf 2 2 .rc 0, rf 3 3 .rc 0, rf 4 4 .rc 0, rf 5 5 .rc 0, rf 6 6 .rc 0]⟩,
  ⟨0x40, 1, 0, .no, [rf 7 0 .rwl 20, rf 9 8 .rwl 3]⟩,
  ⟨0x44, 1, 0, .no, [rf 5 0 .ro 0, rf 6 6 .ro 0, rf 7 7 .ro 0, rf 13 8 .ro 0]⟩,
  ⟨0x48, 1, 0, .no, [rf 0 0 .wt 0, rf 1 1 .wt 0]⟩,
  ⟨0x4C, 1, 0, .no, [rf 1 0 .rw 0, rf 13 8 .rw 0]⟩,
  ⟨0x50, 1, 0, .no, [rf 21 0 .rw 0]⟩,
  ⟨0x54, 1, 0, .no, [rf 31 0 .rw 0]⟩,
  ⟨0x58, 1, 0, .no, [rf 31 0 .ro 0]⟩,
  ⟨0x5C, 1, 0, .no, [rf 0 0 .ro 0, rf 1 1 .ro 0, rf 3 2 .ro 0]⟩,
  ⟨0x60, 1, 0, .lo, [rf 31 0 .ro 0]⟩,
  ⟨0x64, 1, 0, .hi, [rf 31 0 .ro 0]⟩,
  ⟨0x68, 1, 0, .no, [rf 31 0 .ro 0]⟩,
  ⟨0x6C, 1, 0, .no, [rf 31 0 .ro 0]⟩,
  ⟨0x10, 1, 0, .no, [rf 0 0 .rw 0, rf 1 1 .rw 0, rf 2 2 .rw 0, rf 3 3 .rw 0, rf 4 4 .rw 0, rf 5 5 .rw 0, rf 6 6 .rw 0]⟩,
  ⟨0x14, 1, 0, .no, [rf 0 0 .ro 0, rf 1 1 .ro 0, rf 2 2 .ro 0, rf 3 3 .ro 0, rf 4 4 .ro 0, rf 5 5 .ro 0, rf 6 6 .ro 0]⟩]

/-- The hst page (base 0x7000). -/
def rowsHst : List RRow := [
  ⟨0xC, 1, 0, .no, [rf 0 0 .rc 0, rf 1 1 .rc 0]⟩,
  ⟨0x40, 1, 0, .no, [rf 2 0 .ro 0, rf 5 3 .ro 0, rf 6 6 .ro 0]⟩,
  ⟨0x10, 1, 0, .no, [rf 0 0 .rw 0, rf 1 1 .rw 0]⟩,
  ⟨0x14, 1, 0, .no, [rf 0 0 .ro 0, rf 1 1 .ro 0]⟩]

/-- The evc0 page (base 0x8000). -/
def rowsEvc0 : List RRow := [
  ⟨0xC, 1, 0, .no, [rf 0 0 .rc 0]⟩,
  ⟨0x40, 1, 0, .no, [rf 31 0 .ro 0]⟩,
  ⟨0x44, 1, 0, .no, [rf 3 0 .ro 0]⟩,
  ⟨0x48, 1, 0, .no, [rf 31 0 .ro 4294967295]⟩,
  ⟨0x4C, 1, 0, .no, [rf 31 0 .ro 4294967295]⟩,
  ⟨0x50, 1, 0, .no, [rf 31 0 .wt 0]⟩,
  ⟨0x54, 1, 0, .no, [rf 31 0 .wt 0]⟩,
  ⟨0x58, 1, 0, .no, [rf 31 0 .ro 0]⟩,
  ⟨0x5C, 1, 0, .no, [rf 31 0 .ro 0]⟩,
  ⟨0x100, 36, 4, .no, [rf 31 0 .ro 0]⟩,
  ⟨0x10, 1, 0, .no, [rf 0 0 .rw 0]⟩,
  ⟨0x14, 1, 0, .no, [rf 0 0 .ro 0]⟩]

/-- The evc1 page (base 0x9000). -/
def rowsEvc1 : List RRow := [
  ⟨0x40, 36, 4, .no, [rf 5 0 .rwl 0, rf 8 8 .rwl 0, rf 19 16 .rwl 0, rf 24 24 .rwl 0]⟩]

/-- The que page (base 0xA000). -/
def rowsQue : List RRow := [
  ⟨0xC, 1, 0, .no, [rf 4 0 .rc 0, rf 12 8 .rc 0, rf 20 16 .rc 0, rf 24 24 .rc 0]⟩,
  ⟨0x40, 1, 0, .no, [rf 5 0 .rw 0]⟩,
  ⟨0x44, 1, 0, .no, [rf 0 0 .rw 0, rf 1 1 .rw 1, rf 2 2 .rw 1, rf 12 8 .rw 0, rf 13 13 .rw 1]⟩,
  ⟨0x48, 1, 0, .lo, [rf 31 0 .rw 0]⟩,
  ⟨0x4C, 1, 0, .hi, [rf 15 0 .rw 0]⟩,
  ⟨0x50, 1, 0, .lo, [rf 31 0 .rw 0]⟩,
  ⟨0x54, 1, 0, .hi, [rf 15 0 .rw 0]⟩,
  ⟨0x100, 5, 32, .no, [rf 12 0 .ro 0]⟩,
  ⟨0x104, 4, 32, .no, [rf 31 0 .ro 0]⟩,
  ⟨0x184, 1, 0, .no, [rf 31 0 .wo 0]⟩,
  ⟨0x108, 5, 32, .no, [rf 0 0 .wt 0]⟩,
  ⟨0x10C, 5, 32, .no, [rf 0 0 .rc 0, rf 1 1 .rc 0, rf 8 8 .ro 0]⟩,
  ⟨0x110, 5, 32, .no, [rf 12 0 .rw 0]⟩,
  ⟨0x114, 5, 32, .no, [rf 31 0 .ro 0]⟩,
  ⟨0x10, 1, 0, .no, [rf 4 0 .rw 0, rf 12 8 .rw 0, rf 20 16 .rw 0, rf 24 24 .rw 0]⟩,
  ⟨0x14, 1, 0, .no, [rf 4 0 .ro 0, rf 12 8 .ro 0, rf 20 16 .ro 0, rf 24 24 .ro 0]⟩]

/-- The pmu0 page (base 0xB000). -/
def rowsPmu0 : List RRow := [
  ⟨0xC, 1, 0, .no, [rf 0 0 .rc 0, rf 1 1 .rc 0, rf 2 2 .rc 0]⟩,
  ⟨0x40, 1, 0, .no, [rf 0 0 .rw 0, rf 1 1 .rw 0, rf 8 8 .wt 0]⟩,
  ⟨0x44, 1, 0, .no, [rf 7 0 .rw 255, rf 15 8 .rw 0]⟩,
  ⟨0x48, 1, 0, .no, [rf 7 0 .rc 0, rf 15 8 .rc 0]⟩,
  ⟨0x50, 8, 8, .lo, [rf 31 0 .rw 0]⟩,
  ⟨0x54, 8, 8, .hi, [rf 31 0 .rw 0]⟩,
  ⟨0x100, 1, 0, .no, [rf 0 0 .ro 0, rf 6 1 .ro 0, rf 14 8 .ro 0, rf 25 16 .ro 0]⟩,
  ⟨0x104, 1, 0, .no, [rf 4 0 .ro 0, rf 5 5 .ro 0, rf 15 8 .ro 0, rf 27 16 .ro 0]⟩,
  ⟨0x108, 1, 0, .lo, [rf 31 0 .ro 0]⟩,
  ⟨0x10C, 1, 0, .hi, [rf 15 0 .ro 0]⟩,
  ⟨0x110, 1, 0, .lo, [rf 31 0 .ro 0]⟩,
  ⟨0x114, 1, 0, .hi, [rf 31 0 .ro 0]⟩,
  ⟨0x118, 1, 0, .no, [rf 0 0 .wt 0]⟩,
  ⟨0x11C, 1, 0, .no, [rf 31 0 .ro 0]⟩,
  ⟨0x10, 1, 0, .no, [rf 0 0 .rw 0, rf 1 1 .rw 0, rf 2 2 .rw 0]⟩,
  ⟨0x14, 1, 0, .no, [rf 0 0 .ro 0, rf 1 1 .ro 0, rf 2 2 .ro 0]⟩]

/-- The pmu1 page (base 0xC000). -/
def rowsPmu1 : List RRow := [
  ⟨0x40, 64, 8, .lo, [rf 31 0 .rw 0]⟩,
  ⟨0x44, 64, 8, .hi, [rf 31 0 .rw 0]⟩,
  ⟨0x300, 64, 4, .no, [rf 9 0 .rw 0, rf 12 12 .rw 0, rf 13 13 .rw 0, rf 14 14 .rw 0, rf 15 15 .rw 0, rf 16 16 .rw 0]⟩,
  ⟨0x400, 1, 0, .no, [rf 31 0 .rc 0]⟩,
  ⟨0x404, 1, 0, .no, [rf 31 0 .rc 0]⟩,
  ⟨0x408, 1, 0, .no, [rf 31 0 .rc 0]⟩,
  ⟨0x40C, 1, 0, .no, [rf 31 0 .rc 0]⟩]

/-- The tst page (base 0xD000). -/
def rowsTst : List RRow := [
  ⟨0xC, 1, 0, .no, [rf 0 0 .rc 0]⟩,
  ⟨0x40, 1, 0, .no, [rf 0 0 .rwl 1]⟩,
  ⟨0x44, 1, 0, .no, [rf 0 0 .ro 0, rf 1 1 .ro 0, rf 11 8 .ro 0]⟩,
  ⟨0x48, 1, 0, .no, [rf 31 0 .ro 0]⟩,
  ⟨0x10, 1, 0, .no, [rf 0 0 .rw 0]⟩,
  ⟨0x14, 1, 0, .no, [rf 0 0 .ro 0]⟩]

/-- The pip page (base 0x10000). -/
def rowsPip : List RRow := [
  ⟨0xC, 1, 0, .no, [rf 0 0 .rc 0, rf 1 1 .rc 0, rf 2 2 .rc 0, rf 3 3 .rc 0, rf 4 4 .rc 0]⟩,
  ⟨0x100, 1, 0, .no, [rf 31 0 .ro 0]⟩,
  ⟨0x104, 1, 0, .no, [rf 3 0 .rwl 14]⟩,
  ⟨0x108, 1, 0, .no, [rf 0 0 .ro 0, rf 2 1 .ro 0]⟩,
  ⟨0x10C, 1, 0, .no, [rf 31 0 .ro 0]⟩,
  ⟨0x110, 1, 0, .lo, [rf 31 0 .rw 0]⟩,
  ⟨0x114, 1, 0, .hi, [rf 15 0 .rw 0]⟩,
  ⟨0x118, 1, 0, .lo, [rf 31 0 .rw 0]⟩,
  ⟨0x11C, 1, 0, .hi, [rf 15 0 .rw 0]⟩,
  ⟨0x120, 1, 0, .no, [rf 1 0 .rw 0, rf 2 2 .rw 0, rf 8 8 .wt 0, rf 9 9 .wt 0]⟩,
  ⟨0x124, 1, 0, .no, [rf 7 0 .rw 31]⟩,
  ⟨0x128, 1, 0, .no, [rf 0 0 .ro 0, rf 1 1 .ro 0, rf 31 16 .ro 0]⟩,
  ⟨0x130, 1, 0, .lo, [rf 31 0 .ro 0]⟩,
  ⟨0x134, 1, 0, .hi, [rf 15 0 .ro 0]⟩,
  ⟨0x138, 1, 0, .no, [rf 31 0 .ro 0]⟩,
  ⟨0x140, 1, 0, .no, [rf 6 0 .ro 0]⟩,
  ⟨0x144, 1, 0, .no, [rf 31 0 .ro 0]⟩,
  ⟨0x148, 1, 0, .no, [rf 0 0 .wt 0]⟩,
  ⟨0x14C, 1, 0, .no, [rf 31 0 .ro 0]⟩,
  ⟨0x10, 1, 0, .no, [rf 0 0 .rw 0, rf 1 1 .rw 0, rf 2 2 .rw 0, rf 3 3 .rw 0, rf 4 4 .rw 0]⟩,
  ⟨0x14, 1, 0, .no, [rf 0 0 .ro 0, rf 1 1 .ro 0, rf 2 2 .ro 0, rf 3 3 .ro 0, rf 4 4 .ro 0]⟩]

/-- The amp page (base 0x11000). -/
def rowsAmp : List RRow := [
  ⟨0x40, 1, 0, .no, [rf 1 0 .rwl 0, rf 2 2 .rwl 0]⟩,
  ⟨0x100, 16, 32, .lo, [rf 31 16 .rwl 0]⟩,
  ⟨0x104, 16, 32, .hi, [rf 15 0 .rwl 0]⟩,
  ⟨0x108, 16, 32, .lo, [rf 31 16 .rwl 0]⟩,
  ⟨0x10C, 16, 32, .hi, [rf 15 0 .rwl 0]⟩,
  ⟨0x110, 16, 32, .no, [rf 0 0 .rwl 0, rf 2 1 .rwl 0, rf 3 3 .rwl 0]⟩,
  ⟨0x300, 1, 0, .no, [rf 7 0 .rwl 0]⟩,
  ⟨0x304, 1, 0, .no, [rf 11 0 .rwl 0]⟩,
  ⟨0x308, 1, 0, .lo, [rf 31 0 .ro 0]⟩,
  ⟨0x30C, 1, 0, .hi, [rf 15 0 .ro 0]⟩,
  ⟨0x310, 1, 0, .lo, [rf 31 0 .ro 0]⟩,
  ⟨0x314, 1, 0, .hi, [rf 15 0 .ro 0]⟩]

/-- The hdc page (base 0x12000). -/
def rowsHdc : List RRow := [
  ⟨0xC, 1, 0, .no, [rf 0 0 .rc 0]⟩,
  ⟨0x40, 1, 0, .no, [rf 1 0 .rwl 1]⟩,
  ⟨0x44, 1, 0, .no, [rf 17 0 .ro 0, rf 31 31 .ro 0]⟩,
  ⟨0x48, 1, 0, .no, [rf 0 0 .wt 0]⟩]

/-- The wbf page (base 0x13000). -/
def rowsWbf : List RRow := [
  ⟨0xC, 1, 0, .no, [rf 0 0 .rc 0, rf 1 1 .rc 0, rf 2 2 .rc 0]⟩,
  ⟨0x40, 1, 0, .no, [rf 4 0 .rwl 4, rf 15 8 .rwl 16, rf 25 16 .rwl 768]⟩,
  ⟨0x44, 1, 0, .no, [rf 10 0 .ro 0, rf 26 16 .ro 0]⟩,
  ⟨0x48, 1, 0, .no, [rf 0 0 .wt 0]⟩]

/-- The dir page (base 0x14000). -/
def rowsDir : List RRow := [
  ⟨0xC, 1, 0, .no, [rf 0 0 .rc 0, rf 1 1 .rc 0, rf 2 2 .rc 0]⟩,
  ⟨0x40, 1, 0, .no, [rf 0 0 .rwl 1, rf 17 8 .rwl 100]⟩,
  ⟨0x44, 1, 0, .no, [rf 20 0 .ro 0]⟩,
  ⟨0x48, 1, 0, .no, [rf 20 0 .ro 0]⟩,
  ⟨0x50, 1, 0, .lo, [rf 31 0 .ro 0]⟩,
  ⟨0x54, 1, 0, .hi, [rf 31 0 .ro 0]⟩,
  ⟨0x58, 1, 0, .lo, [rf 31 0 .ro 0]⟩,
  ⟨0x5C, 1, 0, .hi, [rf 31 0 .ro 0]⟩,
  ⟨0x60, 1, 0, .lo, [rf 31 0 .rw 0]⟩,
  ⟨0x64, 1, 0, .hi, [rf 15 0 .rw 0]⟩,
  ⟨0x68, 1, 0, .no, [rf 0 0 .wt 0]⟩,
  ⟨0x6C, 1, 0, .no, [rf 0 0 .ro 0, rf 1 1 .ro 0]⟩,
  ⟨0x70, 1, 0, .lo, [rf 31 0 .ro 0]⟩,
  ⟨0x74, 1, 0, .hi, [rf 31 0 .ro 0]⟩,
  ⟨0x10, 1, 0, .no, [rf 0 0 .rw 0, rf 1 1 .rw 0, rf 2 2 .rw 0]⟩,
  ⟨0x14, 1, 0, .no, [rf 0 0 .ro 0, rf 1 1 .ro 0, rf 2 2 .ro 0]⟩]

/-- The sdr page (base 0x15000). -/
def rowsSdr : List RRow := [
  ⟨0xC, 1, 0, .no, [rf 0 0 .rc 0, rf 1 1 .rc 0]⟩,
  ⟨0x40, 1, 0, .no, [rf 0 0 .rwl 1]⟩,
  ⟨0x44, 1, 0, .no, [rf 0 0 .ro 0]⟩,
  ⟨0x48, 1, 0, .lo, [rf 31 0 .ro 0]⟩,
  ⟨0x4C, 1, 0, .hi, [rf 15 0 .ro 0]⟩,
  ⟨0x50, 1, 0, .lo, [rf 31 0 .ro 0]⟩,
  ⟨0x54, 1, 0, .hi, [rf 31 0 .ro 0]⟩,
  ⟨0x58, 1, 0, .lo, [rf 31 0 .ro 0]⟩,
  ⟨0x5C, 1, 0, .hi, [rf 31 0 .ro 0]⟩,
  ⟨0x10, 1, 0, .no, [rf 0 0 .rw 0, rf 1 1 .rw 0]⟩,
  ⟨0x14, 1, 0, .no, [rf 0 0 .ro 0, rf 1 1 .ro 0]⟩]

/-- The cnf page (base 0x16000). -/
def rowsCnf : List RRow := [
  ⟨0xC, 1, 0, .no, [rf 0 0 .rc 0, rf 1 1 .rc 0, rf 2 2 .rc 0, rf 3 3 .rc 0, rf 4 4 .rc 0]⟩,
  ⟨0x40, 1, 0, .no, [rf 11 0 .rwl 256]⟩,
  ⟨0x44, 1, 0, .no, [rf 15 0 .rwl 100]⟩,
  ⟨0x48, 1, 0, .no, [rf 12 0 .ro 0, rf 25 16 .ro 0]⟩,
  ⟨0x4C, 1, 0, .no, [rf 9 0 .ro 0, rf 31 16 .ro 0]⟩,
  ⟨0x50, 1, 0, .no, [rf 4 0 .ro 0]⟩,
  ⟨0x54, 1, 0, .no, [rf 10 0 .ro 0]⟩,
  ⟨0x58, 1, 0, .lo, [rf 31 0 .ro 0]⟩,
  ⟨0x5C, 1, 0, .hi, [rf 31 0 .ro 0]⟩,
  ⟨0x60, 1, 0, .no, [rf 31 0 .ro 0]⟩,
  ⟨0x64, 1, 0, .no, [rf 31 0 .ro 0]⟩,
  ⟨0x10, 1, 0, .no, [rf 0 0 .rw 0, rf 1 1 .rw 0, rf 2 2 .rw 0, rf 3 3 .rw 0, rf 4 4 .rw 0]⟩,
  ⟨0x14, 1, 0, .no, [rf 0 0 .ro 0, rf 1 1 .ro 0, rf 2 2 .ro 0, rf 3 3 .ro 0, rf 4 4 .ro 0]⟩]

/-- The dep0 page (base 0x17000). -/
def rowsDep0 : List RRow := [
  ⟨0xC, 1, 0, .no, [rf 0 0 .rc 0, rf 1 1 .rc 0, rf 2 2 .rc 0, rf 3 3 .rc 0, rf 4 4 .rc 0, rf 5 5 .rc 0, rf 6 6 .rc 0, rf 7 7 .rc 0, rf 8 8 .rc 0]⟩,
  ⟨0x40, 1, 0, .no, [rf 15 0 .rwl 1000]⟩,
  ⟨0x44, 1, 0, .no, [rf 0 0 .rwl 0]⟩,
  ⟨0x48, 1, 0, .no, [rf 0 0 .rwl 0]⟩,
  ⟨0x4C, 1, 0, .no, [rf 7 0 .rwl 0, rf 31 16 .rwl 1000]⟩,
  ⟨0x50, 1, 0, .no, [rf 10 0 .ro 0, rf 26 16 .ro 0]⟩,
  ⟨0x58, 1, 0, .lo, [rf 31 0 .ro 4294967295]⟩,
  ⟨0x5C, 1, 0, .hi, [rf 31 0 .ro 4294967295]⟩,
  ⟨0x60, 1, 0, .lo, [rf 31 0 .ro 0]⟩,
  ⟨0x64, 1, 0, .hi, [rf 31 0 .ro 0]⟩,
  ⟨0x68, 1, 0, .no, [rf 31 0 .ro 0]⟩,
  ⟨0x6C, 1, 0, .no, [rf 31 0 .ro 0]⟩,
  ⟨0x70, 1, 0, .no, [rf 31 0 .ro 0]⟩,
  ⟨0x74, 1, 0, .no, [rf 31 0 .ro 0]⟩,
  ⟨0x78, 1, 0, .no, [rf 31 0 .ro 0]⟩,
  ⟨0x7C, 1, 0, .no, [rf 9 0 .rw 0]⟩,
  ⟨0x80, 1, 0, .no, [rf 0 0 .wt 0, rf 8 8 .ro 0]⟩,
  ⟨0x10, 1, 0, .no, [rf 0 0 .rw 0, rf 1 1 .rw 0, rf 2 2 .rw 0, rf 3 3 .rw 0, rf 4 4 .rw 0, rf 5 5 .rw 0, rf 6 6 .rw 0, rf 7 7 .rw 0, rf 8 8 .rw 0]⟩,
  ⟨0x14, 1, 0, .no, [rf 0 0 .ro 0, rf 1 1 .ro 0, rf 2 2 .ro 0, rf 3 3 .ro 0, rf 4 4 .ro 0, rf 5 5 .ro 0, rf 6 6 .ro 0, rf 7 7 .ro 0, rf 8 8 .ro 0]⟩]

/-- The dep1 page (base 0x18000). -/
def rowsDep1 : List RRow := [
  ⟨0x40, 256, 4, .no, [rf 31 0 .rw 0]⟩]

/-- The dep2 page (base 0x19000). -/
def rowsDep2 : List RRow := [
  ⟨0x40, 1, 0, .no, [rf 9 0 .rw 0]⟩,
  ⟨0x44, 1, 0, .no, [rf 0 0 .wt 0]⟩,
  ⟨0x48, 1, 0, .no, [rf 0 0 .ro 0, rf 1 1 .ro 0, rf 4 2 .ro 0, rf 14 8 .ro 0, rf 15 15 .ro 0, rf 22 16 .ro 0]⟩,
  ⟨0x50, 1, 0, .lo, [rf 31 0 .ro 0]⟩,
  ⟨0x54, 1, 0, .hi, [rf 31 0 .ro 0]⟩,
  ⟨0x58, 1, 0, .lo, [rf 31 0 .ro 0]⟩,
  ⟨0x5C, 1, 0, .hi, [rf 15 0 .ro 0]⟩,
  ⟨0x60, 1, 0, .no, [rf 7 0 .ro 0, rf 31 16 .ro 0]⟩,
  ⟨0x64, 1, 0, .no, [rf 31 0 .ro 0]⟩,
  ⟨0x68, 1, 0, .no, [rf 9 0 .ro 0]⟩]

/-- The dep3 page (base 0x1A000). -/
def rowsDep3 : List RRow := [
  ⟨0x40, 32, 4, .no, [rf 11 0 .ro 0, rf 27 16 .ro 0]⟩]

/-- The apd0 page (base 0x1C000). -/
def rowsApd0 : List RRow := [
  ⟨0xC, 1, 0, .no, [rf 0 0 .rc 0, rf 1 1 .rc 0, rf 2 2 .rc 0, rf 3 3 .rc 0, rf 4 4 .rc 0, rf 5 5 .rc 0, rf 6 6 .rc 0]⟩,
  ⟨0x40, 1, 0, .no, [rf 7 0 .rwl 10]⟩,
  ⟨0x44, 1, 0, .no, [rf 8 0 .ro 0]⟩,
  ⟨0x48, 1, 0, .lo, [rf 31 0 .ro 0]⟩,
  ⟨0x4C, 1, 0, .hi, [rf 31 0 .ro 0]⟩,
  ⟨0x50, 1, 0, .no, [rf 31 0 .ro 0]⟩,
  ⟨0x100, 64, 8, .no, [rf 0 0 .rw 0, rf 1 1 .wt 0]⟩,
  ⟨0x104, 64, 8, .no, [rf 0 0 .ro 0, rf 1 1 .ro 0, rf 2 2 .ro 0]⟩,
  ⟨0x10, 1, 0, .no, [rf 0 0 .rw 0, rf 1 1 .rw 0, rf 2 2 .rw 0, rf 3 3 .rw 0, rf 4 4 .rw 0, rf 5 5 .rw 0, rf 6 6 .rw 0]⟩,
  ⟨0x14, 1, 0, .no, [rf 0 0 .ro 0, rf 1 1 .ro 0, rf 2 2 .ro 0, rf 3 3 .ro 0, rf 4 4 .ro 0, rf 5 5 .ro 0, rf 6 6 .ro 0]⟩]

/-- The apd1 page (base 0x1D000). -/
def rowsApd1 : List RRow := [
  ⟨0x40, 64, 48, .lo, [rf 31 16 .rw 0]⟩,
  ⟨0x44, 64, 48, .hi, [rf 15 0 .rw 0]⟩,
  ⟨0x48, 64, 48, .no, [rf 5 0 .rw 16, rf 6 6 .rw 0, rf 7 7 .rw 0]⟩,
  ⟨0x4C, 64, 48, .no, [rf 31 0 .rw 0]⟩,
  ⟨0x50, 64, 48, .lo, [rf 31 0 .rw 0]⟩,
  ⟨0x54, 64, 48, .hi, [rf 31 0 .rw 0]⟩,
  ⟨0x58, 64, 48, .lo, [rf 31 0 .ro 0]⟩,
  ⟨0x5C, 64, 48, .hi, [rf 31 0 .ro 0]⟩,
  ⟨0x60, 64, 48, .lo, [rf 31 0 .rw 0]⟩,
  ⟨0x64, 64, 48, .hi, [rf 31 0 .rw 0]⟩]

/-- The hie page (base 0x1E000). -/
def rowsHie : List RRow := [
  ⟨0xC, 1, 0, .no, [rf 0 0 .rc 0, rf 1 1 .rc 0, rf 2 2 .rc 0]⟩,
  ⟨0x40, 1, 0, .no, [rf 4 0 .rwl 0, rf 8 8 .rwl 0]⟩,
  ⟨0x44, 1, 0, .no, [rf 0 0 .ro 0, rf 28 16 .ro 0]⟩,
  ⟨0x48, 1, 0, .no, [rf 15 0 .rwl 0, rf 31 16 .rwl 0]⟩,
  ⟨0x4C, 1, 0, .no, [rf 15 0 .ro 0]⟩,
  ⟨0x50, 1, 0, .lo, [rf 31 0 .ro 0]⟩,
  ⟨0x54, 1, 0, .hi, [rf 31 0 .ro 0]⟩,
  ⟨0x10, 1, 0, .no, [rf 0 0 .rw 0, rf 1 1 .rw 0, rf 2 2 .rw 0]⟩,
  ⟨0x14, 1, 0, .no, [rf 0 0 .ro 0, rf 1 1 .ro 0, rf 2 2 .ro 0]⟩]

/-- The twn page (base 0x1F000). -/
def rowsTwn : List RRow := [
  ⟨0xC, 1, 0, .no, [rf 0 0 .rc 0, rf 1 1 .rc 0, rf 2 2 .rc 0, rf 3 3 .rc 0, rf 4 4 .rc 0, rf 5 5 .rc 0, rf 6 6 .rc 0, rf 7 7 .rc 0]⟩,
  ⟨0x40, 1, 0, .no, [rf 0 0 .rwl 0, rf 1 1 .rwl 1, rf 15 8 .rwl 10, rf 19 16 .rwl 8, rf 25 20 .rwl 0]⟩,
  ⟨0x44, 1, 0, .no, [rf 7 0 .rwl 4, rf 19 8 .rwl 50]⟩,
  ⟨0x48, 1, 0, .no, [rf 15 0 .rwl 100]⟩,
  ⟨0x4C, 1, 0, .no, [rf 0 0 .wt 0, rf 1 1 .wt 0, rf 2 2 .wt 0, rf 3 3 .wt 0]⟩,
  ⟨0x50, 1, 0, .no, [rf 0 0 .ro 0, rf 4 1 .ro 0, rf 5 5 .ro 0, rf 13 8 .ro 0, rf 31 16 .ro 0]⟩,
  ⟨0x54, 1, 0, .no, [rf 7 0 .rwl 32]⟩,
  ⟨0x58, 1, 0, .no, [rf 31 0 .ro 0]⟩,
  ⟨0x5C, 1, 0, .no, [rf 15 0 .ro 0, rf 31 16 .ro 0]⟩,
  ⟨0x60, 1, 0, .no, [rf 2 0 .ro 0, rf 14 8 .ro 0]⟩,
  ⟨0x64, 1, 0, .no, [rf 15 0 .ro 0]⟩,
  ⟨0x68, 1, 0, .no, [rf 31 0 .ro 0]⟩,
  ⟨0x6C, 1, 0, .no, [rf 31 0 .ro 0]⟩,
  ⟨0x70, 1, 0, .no, [rf 2 0 .ro 0, rf 4 3 .ro 0, rf 5 5 .ro 0]⟩,
  ⟨0x74, 1, 0, .no, [rf 31 0 .ro 0]⟩,
  ⟨0x10, 1, 0, .no, [rf 0 0 .rw 0, rf 1 1 .rw 0, rf 2 2 .rw 0, rf 3 3 .rw 0, rf 4 4 .rw 0, rf 5 5 .rw 0, rf 6 6 .rw 0, rf 7 7 .rw 0]⟩,
  ⟨0x14, 1, 0, .no, [rf 0 0 .ro 0, rf 1 1 .ro 0, rf 2 2 .ro 0, rf 3 3 .ro 0, rf 4 4 .ro 0, rf 5 5 .ro 0, rf 6 6 .ro 0, rf 7 7 .ro 0]⟩]

/-- The dsc page (base 0x20000). -/
def rowsDsc : List RRow := [
  ⟨0xC, 1, 0, .no, [rf 0 0 .rc 0, rf 1 1 .rc 0, rf 2 2 .rc 0, rf 3 3 .rc 0, rf 4 4 .rc 0, rf 5 5 .rc 0, rf 6 6 .rc 0, rf 7 7 .rc 0]⟩,
  ⟨0x40, 1, 0, .no, [rf 2 0 .rwl 0, rf 5 4 .rwl 0, rf 7 6 .rwl 0, rf 8 8 .rwl 0, rf 11 10 .rwl 0, rf 12 12 .rwl 0, rf 16 16 .rwl 0, rf 19 17 .rwl 4]⟩,
  ⟨0x44, 1, 0, .no, [rf 7 0 .rwl 0, rf 15 8 .rwl 0, rf 23 16 .rwl 0, rf 31 24 .rwl 0]⟩,
  ⟨0x48, 1, 0, .no, [rf 7 0 .rwl 0, rf 15 8 .rwl 0, rf 23 16 .rwl 0, rf 31 24 .rwl 0]⟩,
  ⟨0x4C, 1, 0, .no, [rf 7 0 .rwl 0, rf 15 8 .rwl 0, rf 23 16 .rwl 0, rf 31 24 .rwl 0]⟩,
  ⟨0x50, 1, 0, .no, [rf 11 0 .rwl 0, rf 23 12 .rwl 0]⟩,
  ⟨0x54, 1, 0, .no, [rf 15 0 .rwl 0, rf 27 16 .rwl 0]⟩,
  ⟨0x58, 1, 0, .no, [rf 1 0 .rwl 2, rf 2 2 .rwl 1]⟩,
  ⟨0x5C, 1, 0, .no, [rf 7 0 .rwl 16]⟩,
  ⟨0x60, 1, 0, .no, [rf 9 0 .rwl 128]⟩,
  ⟨0x64, 1, 0, .no, [rf 7 0 .rwl 20, rf 15 8 .rwl 20]⟩,
  ⟨0x68, 1, 0, .no, [rf 0 0 .ro 0, rf 1 1 .ro 0, rf 2 2 .ro 0, rf 3 3 .ro 0]⟩,
  ⟨0x6C, 1, 0, .no, [rf 17 0 .ro 0]⟩,
  ⟨0x70, 1, 0, .no, [rf 17 0 .ro 0]⟩,
  ⟨0x74, 1, 0, .no, [rf 25 0 .ro 0]⟩,
  ⟨0x78, 1, 0, .no, [rf 31 0 .ro 0]⟩,
  ⟨0x80, 32, 4, .no, [rf 7 0 .rwl 0, rf 15 8 .rwl 0, rf 16 16 .rwl 0, rf 17 17 .rwl 0, rf 18 18 .rwl 0, rf 19 19 .rwl 0, rf 31 31 .rwl 0]⟩,
  ⟨0x10, 1, 0, .no, [rf 0 0 .rw 0, rf 1 1 .rw 0, rf 2 2 .rw 0, rf 3 3 .rw 0, rf 4 4 .rw 0, rf 5 5 .rw 0, rf 6 6 .rw 0, rf 7 7 .rw 0]⟩,
  ⟨0x14, 1, 0, .no, [rf 0 0 .ro 0, rf 1 1 .ro 0, rf 2 2 .ro 0, rf 3 3 .ro 0, rf 4 4 .ro 0, rf 5 5 .ro 0, rf 6 6 .ro 0, rf 7 7 .ro 0]⟩]

/-- The ecc page (base 0x21000). -/
def rowsEcc : List RRow := [
  ⟨0xC, 1, 0, .no, [rf 0 0 .rc 0, rf 1 1 .rc 0, rf 2 2 .rc 0, rf 3 3 .rc 0, rf 4 4 .rc 0, rf 5 5 .rc 0, rf 6 6 .rc 0, rf 7 7 .rc 0, rf 8 8 .rc 0, rf 9 9 .rc 0, rf 10 10 .rc 0, rf 11 11 .rc 0, rf 12 12 .rc 0, rf 13 13 .rc 0]⟩,
  ⟨0x40, 1, 0, .no, [rf 7 0 .rwl 16, rf 15 8 .rwl 16, rf 31 16 .rwl 3600]⟩,
  ⟨0x44, 1, 0, .no, [rf 0 0 .rwl 0]⟩,
  ⟨0x48, 1, 0, .no, [rf 0 0 .ro 0, rf 1 1 .ro 0, rf 27 16 .ro 0]⟩,
  ⟨0x4C, 1, 0, .no, [rf 4 0 .rw 0, rf 11 8 .rw 0, rf 15 12 .rw 0, rf 19 16 .rw 0, rf 20 20 .rw 0]⟩,
  ⟨0x50, 1, 0, .no, [rf 7 0 .rw 0, rf 15 8 .rw 0]⟩,
  ⟨0x54, 1, 0, .no, [rf 0 0 .wt 0, rf 8 8 .ro 0]⟩,
  ⟨0x58, 1, 0, .lo, [rf 31 0 .ro 0]⟩,
  ⟨0x5C, 1, 0, .hi, [rf 7 0 .ro 0]⟩,
  ⟨0x60, 1, 0, .lo, [rf 31 0 .ro 0]⟩,
  ⟨0x64, 1, 0, .hi, [rf 31 0 .ro 0]⟩,
  ⟨0x68, 1, 0, .no, [rf 31 0 .ro 0]⟩,
  ⟨0x6C, 1, 0, .no, [rf 31 0 .ro 0]⟩,
  ⟨0x70, 1, 0, .no, [rf 31 0 .ro 0]⟩,
  ⟨0x74, 1, 0, .no, [rf 10 0 .ro 0, rf 26 16 .ro 0]⟩,
  ⟨0x78, 1, 0, .no, [rf 31 0 .ro 0]⟩,
  ⟨0x7C, 1, 0, .no, [rf 31 0 .ro 0]⟩,
  ⟨0x80, 1, 0, .no, [rf 4 0 .rw 0, rf 8 8 .rw 0, rf 15 12 .rw 0]⟩,
  ⟨0x84, 1, 0, .no, [rf 7 0 .ro 0, rf 23 16 .ro 0]⟩,
  ⟨0x100, 32, 4, .no, [rf 15 0 .ro 0, rf 31 16 .wt 0]⟩,
  ⟨0x200, 18, 4, .no, [rf 3 0 .rwl 0, rf 4 4 .rwl 0, rf 11 8 .rwl 0, rf 12 12 .rwl 0]⟩,
  ⟨0x10, 1, 0, .no, [rf 0 0 .rw 0, rf 1 1 .rw 0, rf 2 2 .rw 0, rf 3 3 .rw 0, rf 4 4 .rw 0, rf 5 5 .rw 0, rf 6 6 .rw 0, rf 7 7 .rw 0, rf 8 8 .rw 0, rf 9 9 .rw 0, rf 10 10 .rw 0, rf 11 11 .rw 0, rf 12 12 .rw 0, rf 13 13 .rw 0]⟩,
  ⟨0x14, 1, 0, .no, [rf 0 0 .ro 0, rf 1 1 .ro 0, rf 2 2 .ro 0, rf 3 3 .ro 0, rf 4 4 .ro 0, rf 5 5 .ro 0, rf 6 6 .ro 0, rf 7 7 .ro 0, rf 8 8 .ro 0, rf 9 9 .ro 0, rf 10 10 .ro 0, rf 11 11 .ro 0, rf 12 12 .ro 0, rf 13 13 .ro 0]⟩]

/-- The scb page (base 0x22000). -/
def rowsScb : List RRow := [
  ⟨0xC, 1, 0, .no, [rf 0 0 .rc 0, rf 1 1 .rc 0]⟩,
  ⟨0x40, 1, 0, .no, [rf 7 0 .rwl 64, rf 23 8 .rwl 10]⟩,
  ⟨0x44, 1, 0, .no, [rf 31 0 .ro 0]⟩,
  ⟨0x48, 1, 0, .lo, [rf 31 0 .ro 0]⟩,
  ⟨0x4C, 1, 0, .hi, [rf 31 0 .ro 0]⟩,
  ⟨0x50, 1, 0, .no, [rf 31 0 .ro 0]⟩,
  ⟨0x58, 1, 0, .lo, [rf 31 0 .ro 0]⟩,
  ⟨0x5C, 1, 0, .hi, [rf 31 0 .ro 0]⟩,
  ⟨0x10, 1, 0, .no, [rf 0 0 .rw 0, rf 1 1 .rw 0]⟩,
  ⟨0x14, 1, 0, .no, [rf 0 0 .ro 0, rf 1 1 .ro 0]⟩]

/-- The dsl page (base 0x30000). -/
def rowsDsl : List RRow := [
  ⟨0x40, 1, 0, .no, [rf 2 0 .ro 0, rf 7 4 .ro 0, rf 9 8 .ro 0, rf 10 10 .ro 0, rf 13 12 .ro 0, rf 15 14 .ro 0]⟩,
  ⟨0x44, 1, 0, .no, [rf 31 0 .ro 0]⟩]

/-- The ap0 page (base 0x80000). -/
def rowsAp0 : List RRow := [
  ⟨0xC, 1, 0, .no, [rf 0 0 .rc 0, rf 1 1 .rc 0, rf 2 2 .rc 0, rf 3 3 .rc 0, rf 4 4 .rc 0, rf 5 5 .rc 0, rf 6 6 .rc 0]⟩,
  ⟨0x40, 1, 0, .no, [rf 0 0 .rwl 0, rf 2 1 .rwl 0, rf 3 3 .rwl 1, rf 4 4 .rwl 0, rf 15 8 .rwl 20, rf 23 16 .rwl 10]⟩,
  ⟨0x44, 1, 0, .no, [rf 2 0 .ro 0, rf 4 3 .ro 0, rf 5 5 .ro 0, rf 7 6 .ro 0, rf 10 8 .ro 0, rf 16 11 .ro 0, rf 21 17 .ro 0, rf 22 22 .ro 0]⟩,
  ⟨0x48, 1, 0, .no, [rf 7 0 .ro 0, rf 15 8 .ro 0, rf 23 16 .ro 0, rf 31 24 .ro 0]⟩,
  ⟨0x4C, 1, 0, .no, [rf 4 0 .ro 0]⟩,
  ⟨0x10, 1, 0, .no, [rf 0 0 .rw 0, rf 1 1 .rw 0, rf 2 2 .rw 0, rf 3 3 .rw 0, rf 4 4 .rw 0, rf 5 5 .rw 0, rf 6 6 .rw 0]⟩,
  ⟨0x14, 1, 0, .no, [rf 0 0 .ro 0, rf 1 1 .ro 0, rf 2 2 .ro 0, rf 3 3 .ro 0, rf 4 4 .ro 0, rf 5 5 .ro 0, rf 6 6 .ro 0]⟩]

/-- The ap1 page (base 0x81000). -/
def rowsAp1 : List RRow := [
  ⟨0x40, 1, 0, .no, [rf 31 0 .ro 0]⟩,
  ⟨0x44, 1, 0, .no, [rf 31 0 .ro 0]⟩,
  ⟨0x48, 1, 0, .no, [rf 31 0 .ro 0]⟩,
  ⟨0x4C, 1, 0, .no, [rf 31 0 .ro 0]⟩]

/-- The mp page (base 0xC0000). -/
def rowsMp : List RRow := [
  ⟨0xC, 1, 0, .no, [rf 0 0 .rc 0, rf 1 1 .rc 0, rf 2 2 .rc 0, rf 3 3 .rc 0, rf 4 4 .rc 0, rf 5 5 .rc 0, rf 6 6 .rc 0, rf 7 7 .rc 0]⟩,
  ⟨0x40, 1, 0, .no, [rf 0 0 .rwl 0, rf 1 1 .rwl 0, rf 15 8 .rwl 100]⟩,
  ⟨0x44, 1, 0, .no, [rf 2 0 .ro 0, rf 3 3 .ro 0, rf 4 4 .ro 0]⟩,
  ⟨0x48, 1, 0, .no, [rf 15 0 .ro 0]⟩,
  ⟨0x4C, 1, 0, .no, [rf 0 0 .wt 0, rf 1 1 .wt 0]⟩,
  ⟨0x50, 1, 0, .no, [rf 27 0 .rw 0, rf 28 28 .rw 0]⟩,
  ⟨0x54, 1, 0, .no, [rf 31 0 .rw 0]⟩,
  ⟨0x58, 1, 0, .no, [rf 0 0 .ro 0]⟩,
  ⟨0x5C, 1, 0, .no, [rf 31 0 .ro 0]⟩,
  ⟨0x60, 1, 0, .no, [rf 31 0 .ro 0]⟩,
  ⟨0x10, 1, 0, .no, [rf 0 0 .rw 0, rf 1 1 .rw 0, rf 2 2 .rw 0, rf 3 3 .rw 0, rf 4 4 .rw 0, rf 5 5 .rw 0, rf 6 6 .rw 0, rf 7 7 .rw 0]⟩,
  ⟨0x14, 1, 0, .no, [rf 0 0 .ro 0, rf 1 1 .ro 0, rf 2 2 .ro 0, rf 3 3 .ro 0, rf 4 4 .ro 0, rf 5 5 .ro 0, rf 6 6 .ro 0, rf 7 7 .ro 0]⟩]

/-- The block's own registers of a page. -/
def blockRows : PageKind → List RRow

  | .gcr => rowsGcr
  | .cfg => rowsCfg
  | .clk => rowsClk
  | .pwr => rowsPwr
  | .pur => rowsPur
  | .bel => rowsBel
  | .chn => rowsChn
  | .hst => rowsHst
  | .evc0 => rowsEvc0
  | .evc1 => rowsEvc1
  | .que => rowsQue
  | .pmu0 => rowsPmu0
  | .pmu1 => rowsPmu1
  | .tst => rowsTst
  | .pip => rowsPip
  | .amp => rowsAmp
  | .hdc => rowsHdc
  | .wbf => rowsWbf
  | .dir => rowsDir
  | .sdr => rowsSdr
  | .cnf => rowsCnf
  | .dep0 => rowsDep0
  | .dep1 => rowsDep1
  | .dep2 => rowsDep2
  | .dep3 => rowsDep3
  | .apd0 => rowsApd0
  | .apd1 => rowsApd1
  | .hie => rowsHie
  | .twn => rowsTwn
  | .dsc => rowsDsc
  | .ecc => rowsEcc
  | .scb => rowsScb
  | .dsl => rowsDsl
  | .ap0 => rowsAp0
  | .ap1 => rowsAp1
  | .mp => rowsMp

/-- The event bits of a page, as _EVT_EN and _EVT_RAW carry them too. -/
def evtFields (p : PageKind) (a : Acc) : List RField :=
  match (blockRows p).find? (fun r => r.off == 0xC) with
  | some r => r.fields.map (fun f => { f with acc := a })
  | none => []

/-- The header registers every page begins with (Table REG-2); EN is RW only in the pages of Table REG-3 (R493), and an
event register of a page without events reads 0 (R492). -/
def headerRows (p : PageKind) : List RRow :=
  [⟨0x0, 1, 0, .no, [rf 7 0 .ro 0, rf 12 8 .ro 0, rf 14 13 .ro 0, rf 23 16 .ro 1]⟩,
   ⟨0x4, 1, 0, .no, [rf 0 0 (if p = .ap0 ∨ p = .dep0 ∨ p = .scb then .rw else .ro) 1]⟩,
   ⟨0x8, 1, 0, .no, [rf 0 0 .ro 0, rf 1 1 .ro 0]⟩,
   ⟨0xC, 1, 0, .no, []⟩, ⟨0x10, 1, 0, .no, evtFields p .rw⟩, ⟨0x14, 1, 0, .no, evtFields p .ro⟩,
   ⟨0x18, 1, 0, .no, [rf 0 0 .rwo 0]⟩, ⟨0x1C, 1, 0, .no, [rf 31 0 .ro 0]⟩]

/-- All registers of a page, the block's own rows first. -/
def pageRows (p : PageKind) : List RRow := blockRows p ++ headerRows p

/-- The page of an offset and its instance number (Table REG-9, R520). -/
def pageAt (ofs : Nat) : Option (PageKind × Nat) :=
  let b := ofs / 0x1000

  match b with
  | 0x0 => some (.gcr, 0)
  | 0x1 => some (.cfg, 0)
  | 0x2 => some (.clk, 0)
  | 0x3 => some (.pwr, 0)
  | 0x4 => some (.pur, 0)
  | 0x5 => some (.bel, 0)
  | 0x6 => some (.chn, 0)
  | 0x7 => some (.hst, 0)
  | 0x8 => some (.evc0, 0)
  | 0x9 => some (.evc1, 0)
  | 0xA => some (.que, 0)
  | 0xB => some (.pmu0, 0)
  | 0xC => some (.pmu1, 0)
  | 0xD => some (.tst, 0)
  | 0x10 => some (.pip, 0)
  | 0x11 => some (.amp, 0)
  | 0x12 => some (.hdc, 0)
  | 0x13 => some (.wbf, 0)
  | 0x14 => some (.dir, 0)
  | 0x15 => some (.sdr, 0)
  | 0x16 => some (.cnf, 0)
  | 0x17 => some (.dep0, 0)
  | 0x18 => some (.dep1, 0)
  | 0x19 => some (.dep2, 0)
  | 0x1A => some (.dep3, 0)
  | 0x1C => some (.apd0, 0)
  | 0x1D => some (.apd1, 0)
  | 0x1E => some (.hie, 0)
  | 0x1F => some (.twn, 0)
  | 0x20 => some (.dsc, 0)
  | 0x21 => some (.ecc, 0)
  | 0x22 => some (.scb, 0)
  | _ =>
    if 0x30 ≤ b ∧ b < 0x30 + 18 then some (.dsl, b - 0x30)
    else if 0x80 ≤ b ∧ b < 0x80 + 64 then some (if b % 2 = 0 then .ap0 else .ap1, (b - 0x80) / 2)
    else if 0xC0 ≤ b ∧ b < 0xC0 + 16 ∧ b % 2 = 0 then some (.mp, (b - 0xC0) / 2)
    else none

/-- Whether a row covers a page offset. -/
def RRow.covers (r : RRow) (o : Nat) : Bool :=
  if r.count ≤ 1 then r.off == o else r.off ≤ o && (o - r.off) % r.stride == 0 && (o - r.off) / r.stride < r.count

/-- The row of a register offset (a multiple of 4), if one is implemented there (R10, R490). -/
def rowAt (ofs : Nat) : Option RRow :=
  match pageAt ofs with
  | none => none
  | some (p, _) => (pageRows p).find? (fun r => r.covers (ofs % 0x1000))

/-- A register's value with every field at its reset value, before the values that depend on role and instance. -/
def RRow.resetWord (r : RRow) : Word :=
  r.fields.foldl (fun w f => w ||| (BitVec.ofNat 32 f.rst <<< f.lo)) 0

/-- TYPE of _ID by page (Table REG-9). -/
def PageKind.typeCode : PageKind → Nat
  | .gcr => 0x1
  | .cfg => 0x2
  | .clk => 0x3
  | .pwr => 0x4
  | .pur => 0x5
  | .bel => 0x6
  | .chn => 0x7
  | .hst => 0x8
  | .evc0 => 0x9
  | .evc1 => 0x9
  | .que => 0xA
  | .pmu0 => 0xB
  | .pmu1 => 0xB
  | .tst => 0xC
  | .pip => 0x10
  | .amp => 0x11
  | .hdc => 0x12
  | .wbf => 0x13
  | .dir => 0x14
  | .sdr => 0x15
  | .cnf => 0x16
  | .dep0 => 0x17
  | .dep1 => 0x17
  | .dep2 => 0x17
  | .dep3 => 0x17
  | .apd0 => 0x18
  | .apd1 => 0x18
  | .hie => 0x19
  | .twn => 0x1A
  | .dsc => 0x20
  | .ecc => 0x21
  | .scb => 0x22
  | .dsl => 0x23
  | .ap0 => 0x24
  | .ap1 => 0x24
  | .mp => 0x25

/-- PAGE of _ID: the page within its block (R492). -/
def PageKind.pageNo : PageKind → Nat
  | .evc1 | .pmu1 | .dep1 | .apd1 | .ap1 => 1
  | .dep2 => 2
  | .dep3 => 3
  | _ => 0

/-- The base of page k of an instance (Table REG-9). -/
def PageKind.base : PageKind → Nat → Nat
  | .gcr, _ => 0x0
  | .cfg, _ => 0x1000
  | .clk, _ => 0x2000
  | .pwr, _ => 0x3000
  | .pur, _ => 0x4000
  | .bel, _ => 0x5000
  | .chn, _ => 0x6000
  | .hst, _ => 0x7000
  | .evc0, _ => 0x8000
  | .evc1, _ => 0x9000
  | .que, _ => 0xA000
  | .pmu0, _ => 0xB000
  | .pmu1, _ => 0xC000
  | .tst, _ => 0xD000
  | .pip, _ => 0x10000
  | .amp, _ => 0x11000
  | .hdc, _ => 0x12000
  | .wbf, _ => 0x13000
  | .dir, _ => 0x14000
  | .sdr, _ => 0x15000
  | .cnf, _ => 0x16000
  | .dep0, _ => 0x17000
  | .dep1, _ => 0x18000
  | .dep2, _ => 0x19000
  | .dep3, _ => 0x1A000
  | .apd0, _ => 0x1C000
  | .apd1, _ => 0x1D000
  | .hie, _ => 0x1E000
  | .twn, _ => 0x1F000
  | .dsc, _ => 0x20000
  | .ecc, _ => 0x21000
  | .scb, _ => 0x22000
  | .dsl, n => 0x30000 + n * 0x1000
  | .ap0, n => 0x80000 + n * 0x2000
  | .ap1, n => 0x81000 + n * 0x2000
  | .mp, n => 0xC0000 + n * 0x2000

/-- Every page of the register space in ascending offset, with its instance (R520). -/
def allPages : List (PageKind × Nat) :=
  [(.gcr, 0), (.cfg, 0), (.clk, 0), (.pwr, 0), (.pur, 0), (.bel, 0), (.chn, 0), (.hst, 0), (.evc0, 0), (.evc1, 0), (.que, 0), (.pmu0, 0), (.pmu1, 0), (.tst, 0), (.pip, 0), (.amp, 0), (.hdc, 0), (.wbf, 0), (.dir, 0), (.sdr, 0), (.cnf, 0), (.dep0, 0), (.dep1, 0), (.dep2, 0), (.dep3, 0), (.apd0, 0), (.apd1, 0), (.hie, 0), (.twn, 0), (.dsc, 0), (.ecc, 0), (.scb, 0)] ++
  (List.range 18).map (fun n => (.dsl, n)) ++
  (List.range 32).flatMap (fun n => [(.ap0, n), (.ap1, n)]) ++
  (List.range 8).map (fun n => (.mp, n))

/-! The fields by the manual's names. -/

def R.GCR_EVT.CMD_REFUSED : FieldRef := ⟨0xC, 0, 0⟩
def R.GCR_EVT.STRAP_BAD : FieldRef := ⟨0xC, 1, 1⟩
def R.GCR_EVT.NO_IMAGE : FieldRef := ⟨0xC, 2, 2⟩
def R.GCR_EVT.IMG_REC_ERR : FieldRef := ⟨0xC, 3, 3⟩
def R.GCR_EVT.SLOT_FALLBACK : FieldRef := ⟨0xC, 4, 4⟩
def R.GCR_EVT.CFG_ERR : FieldRef := ⟨0xC, 5, 5⟩
def R.GCR_EVT.DRAIN_DONE : FieldRef := ⟨0xC, 6, 6⟩
def R.GCR_EVT.MODE_CHANGE : FieldRef := ⟨0xC, 7, 7⟩
def R.GCR_EVT.BUS_ERR : FieldRef := ⟨0xC, 8, 8⟩
def R.GCR_EVT.LOCK_VIOL : FieldRef := ⟨0xC, 9, 9⟩
def R.GCR_DEVID.PART : FieldRef := ⟨0x40, 15, 0⟩
def R.GCR_DEVID.STEP : FieldRef := ⟨0x40, 23, 16⟩
def R.GCR_DEVID.GRADE : FieldRef := ⟨0x40, 24, 24⟩
def R.GCR_MODE.MODE : FieldRef := ⟨0x44, 3, 0⟩
def R.GCR_MODE.PREV : FieldRef := ⟨0x44, 11, 8⟩
def R.GCR_CMD.GO : FieldRef := ⟨0x48, 0, 0⟩
def R.GCR_CMD.DRAIN : FieldRef := ⟨0x48, 1, 1⟩
def R.GCR_CMD.RESUME : FieldRef := ⟨0x48, 2, 2⟩
def R.GCR_CMD.RESTART : FieldRef := ⟨0x48, 3, 3⟩
def R.GCR_CFG.SERVE : FieldRef := ⟨0x4C, 0, 0⟩
def R.GCR_STAT.DEGR : FieldRef := ⟨0x50, 0, 0⟩
def R.GCR_STAT.DRAINED : FieldRef := ⟨0x50, 1, 1⟩
def R.GCR_STAT.FAULT : FieldRef := ⟨0x50, 2, 2⟩
def R.GCR_STAT.GO_ERR : FieldRef := ⟨0x50, 7, 4⟩
def R.GCR_STRAP.ROLE : FieldRef := ⟨0x54, 1, 0⟩
def R.GCR_STRAP.TWIN_SIDE : FieldRef := ⟨0x54, 2, 2⟩
def R.GCR_STRAP.CHAIN_HEAD : FieldRef := ⟨0x54, 3, 3⟩
def R.GCR_IMG_STAT.SLOT : FieldRef := ⟨0x58, 1, 0⟩
def R.GCR_IMG_STAT.FALLBACK : FieldRef := ⟨0x58, 2, 2⟩
def R.GCR_IMG_STAT.REC_ERR : FieldRef := ⟨0x58, 3, 3⟩
def R.GCR_IMG_STAT.VALID_A : FieldRef := ⟨0x58, 4, 4⟩
def R.GCR_IMG_STAT.VALID_B : FieldRef := ⟨0x58, 5, 5⟩
def R.GCR_IMG_STAT.REC_IDX : FieldRef := ⟨0x58, 29, 16⟩
def R.GCR_IMG_SEQ.SEQ : FieldRef := ⟨0x5C, 31, 0⟩
def R.GCR_BUSERR_ADDR.ADDR : FieldRef := ⟨0x60, 27, 0⟩
def R.GCR_BUSERR_INFO.CAUSE : FieldRef := ⟨0x64, 3, 0⟩
def R.GCR_BUSERR_INFO.SRC : FieldRef := ⟨0x64, 5, 4⟩
def R.GCR_BUSERR_INFO.WRITE : FieldRef := ⟨0x64, 6, 6⟩
def R.GCR_BUSERR_INFO.COUNT : FieldRef := ⟨0x64, 31, 16⟩
def R.GCR_SCRATCH0.DATA : FieldRef := ⟨0x68, 31, 0⟩
def R.GCR_SCRATCH1.DATA : FieldRef := ⟨0x6C, 31, 0⟩
def R.CFG_EVT.CFG_DRIFT : FieldRef := ⟨0x100C, 0, 0⟩
def R.CFG_EVT.COMMIT_DONE : FieldRef := ⟨0x100C, 1, 1⟩
def R.CFG_CRC_NOW.CRC : FieldRef := ⟨0x1040, 31, 0⟩
def R.CFG_CRC_REF.CRC : FieldRef := ⟨0x1044, 31, 0⟩
def R.CFG_COMMIT.COMMIT : FieldRef := ⟨0x1048, 0, 0⟩
def R.CFG_CRC_STAT.REF_VALID : FieldRef := ⟨0x104C, 0, 0⟩
def R.CFG_CRC_STAT.COMMITTING : FieldRef := ⟨0x104C, 1, 1⟩
def R.CFG_CRC_STAT.MATCH : FieldRef := ⟨0x104C, 2, 2⟩
def R.CFG_CRC_STAT.PASS_US : FieldRef := ⟨0x104C, 31, 16⟩
def R.CFG_DRIFT_PAGE.BASE : FieldRef := ⟨0x1050, 21, 0⟩
def R.CFG_DIGEST.DIGEST : FieldRef := ⟨0x1054, 31, 0⟩
def R.CLK_EVT.XTAL_FAIL : FieldRef := ⟨0x200C, 0, 0⟩
def R.CLK_EVT.XTAL_LOST : FieldRef := ⟨0x200C, 1, 1⟩
def R.CLK_EVT.PLL_FAIL : FieldRef := ⟨0x200C, 2, 2⟩
def R.CLK_EVT.PLL_TIMEOUT : FieldRef := ⟨0x200C, 3, 3⟩
def R.CLK_EVT.FORCED : FieldRef := ⟨0x200C, 4, 4⟩
def R.CLK_EVT.SWITCH_REFUSED : FieldRef := ⟨0x200C, 5, 5⟩
def R.CLK_EVT.GATE_REFUSED : FieldRef := ⟨0x200C, 6, 6⟩
def R.CLK_EVT.OUT_REFUSED : FieldRef := ⟨0x200C, 7, 7⟩
def R.CLK_EVT.MEAS_DONE : FieldRef := ⟨0x200C, 8, 8⟩
def R.CLK_READY.READY : FieldRef := ⟨0x2040, 18, 0⟩
def R.CLK_FAIL.FAIL : FieldRef := ⟨0x2044, 18, 0⟩
def R.CLK_FORCED.REF : FieldRef := ⟨0x2048, 0, 0⟩
def R.CLK_FORCED.CORE : FieldRef := ⟨0x2048, 1, 1⟩
def R.CLK_FORCED.OUT : FieldRef := ⟨0x2048, 2, 2⟩
def R.CLK_FORCED.MEAS : FieldRef := ⟨0x2048, 3, 3⟩
def R.CLK_STAT.REF_SRC : FieldRef := ⟨0x204C, 0, 0⟩
def R.CLK_STAT.CORE_SRC : FieldRef := ⟨0x204C, 2, 1⟩
def R.CLK_STAT.XTAL_FAIL : FieldRef := ⟨0x204C, 3, 3⟩
def R.CLK_CFG.AUTOGATE : FieldRef := ⟨0x2050, 0, 0⟩
def R.CLK_CMD.XTAL_RETRY : FieldRef := ⟨0x2054, 0, 0⟩
def R.CLK_FORCE.GATE : FieldRef := ⟨0x2058, 10, 0⟩
def R.CLK_FORCE_STAT.CLOSED : FieldRef := ⟨0x205C, 10, 0⟩
def R.CLK_FORCE_STAT.WAITING : FieldRef := ⟨0x205C, 26, 16⟩
def R.CLK_OUT_CFG.SEL : FieldRef := ⟨0x2060, 4, 0⟩
def R.CLK_OUT_CFG.DIV_M1 : FieldRef := ⟨0x2060, 17, 8⟩
def R.CLK_MEAS_CTRL.SEL : FieldRef := ⟨0x2064, 4, 0⟩
def R.CLK_MEAS_CTRL.GO : FieldRef := ⟨0x2064, 8, 8⟩
def R.CLK_MEAS.KHZ : FieldRef := ⟨0x2068, 23, 0⟩
def R.CLK_MEAS.DONE : FieldRef := ⟨0x2068, 31, 31⟩
def R.PWR_EVT.DOZE_IN : FieldRef := ⟨0x300C, 0, 0⟩
def R.PWR_EVT.DOZE_OUT : FieldRef := ⟨0x300C, 1, 1⟩
def R.PWR_EVT.DOZE_ABORT : FieldRef := ⟨0x300C, 2, 2⟩
def R.PWR_EVT.WAKE_HOLD : FieldRef := ⟨0x300C, 3, 3⟩
def R.PWR_EVT.WAKE_TO : FieldRef := ⟨0x300C, 4, 4⟩
def R.PWR_EVT.DVFS_DONE : FieldRef := ⟨0x300C, 5, 5⟩
def R.PWR_EVT.DVFS_REFUSED : FieldRef := ⟨0x300C, 6, 6⟩
def R.PWR_EVT.DOM_REFUSED : FieldRef := ⟨0x300C, 7, 7⟩
def R.PWR_EVT.VR_ALERT : FieldRef := ⟨0x300C, 8, 8⟩
def R.PWR_EVT.PMB_ERR : FieldRef := ⟨0x300C, 9, 9⟩
def R.PWR_EVT.VR_PG_LOST : FieldRef := ⟨0x300C, 10, 10⟩
def R.PWR_EVT.WG_REFUSED : FieldRef := ⟨0x300C, 11, 11⟩
def R.PWR_WG_REQ.REQ : FieldRef := ⟨0x3040, 3, 0⟩
def R.PWR_WG_CFG.RAIL_OFF : FieldRef := ⟨0x3044, 3, 0⟩
def R.PWR_DOM_STAT.ON : FieldRef := ⟨0x3048, 20, 0⟩
def R.PWR_PAD_HELD.HELD : FieldRef := ⟨0x304C, 20, 0⟩
def R.PWR_PAD_RELEASE.REL : FieldRef := ⟨0x3050, 20, 0⟩
def R.PWR_DOM_OFF.OFF : FieldRef := ⟨0x3054, 10, 0⟩
def R.PWR_DVFS.TARGET : FieldRef := ⟨0x3058, 1, 0⟩
def R.PWR_DVFS.FPT : FieldRef := ⟨0x3058, 5, 4⟩
def R.PWR_DVFS.VPT : FieldRef := ⟨0x3058, 7, 6⟩
def R.PWR_DVFS.BUSY : FieldRef := ⟨0x3058, 8, 8⟩
def R.PWR_DVFS.PMB_OK : FieldRef := ⟨0x3058, 9, 9⟩
def R.PWR_DVFS_MAN.FPT_REQ : FieldRef := ⟨0x305C, 1, 0⟩
def R.PWR_DVFS_MAN.VPT_REQ : FieldRef := ⟨0x305C, 3, 2⟩
def R.PWR_DVFS_MAN.FGO : FieldRef := ⟨0x305C, 4, 4⟩
def R.PWR_DVFS_MAN.VGO : FieldRef := ⟨0x305C, 5, 5⟩
def R.PWR_VR_CFG.ADDR : FieldRef := ⟨0x3060, 6, 0⟩
def R.PWR_VR_CFG.PEC : FieldRef := ⟨0x3060, 7, 7⟩
def R.PWR_VR_CFG.VC_TO : FieldRef := ⟨0x3060, 15, 8⟩
def R.PWR_VR_CFG.RETRY_GAP : FieldRef := ⟨0x3060, 23, 16⟩
def R.PWR_VR_CMD.CLEAR : FieldRef := ⟨0x3064, 0, 0⟩
def R.PWR_VR_MEAS.MV : FieldRef := ⟨0x3068, 11, 0⟩
def R.PWR_VR_POWER.QW : FieldRef := ⟨0x306C, 15, 0⟩
def R.PWR_VR_STATUS.WORD : FieldRef := ⟨0x3070, 15, 0⟩
def R.PWR_DOZE_CTRL.REQ : FieldRef := ⟨0x3074, 0, 0⟩
def R.PWR_DOZE_CTRL.WAKE : FieldRef := ⟨0x3074, 1, 1⟩
def R.PWR_DOZE_CTRL.ACTIVE : FieldRef := ⟨0x3074, 8, 8⟩
def R.PWR_DOZE_CFG.QUIESCE : FieldRef := ⟨0x3078, 15, 0⟩
def R.PWR_WAKE_EN.EN : FieldRef := ⟨0x307C, 3, 0⟩
def R.PWR_WAKE_SRC.SRC : FieldRef := ⟨0x3080, 4, 0⟩
def R.PWR_REFUSE.STAGE : FieldRef := ⟨0x3084, 3, 0⟩
def R.PWR_REFUSE.BLOCK : FieldRef := ⟨0x3084, 11, 8⟩
def R.PWR_WAKE_T_LO.T_LO : FieldRef := ⟨0x3088, 31, 0⟩
def R.PWR_WAKE_T_HI.T_HI : FieldRef := ⟨0x308C, 31, 0⟩
def R.PWR_WAKE_FAIL.DOM : FieldRef := ⟨0x3090, 4, 0⟩
def R.PWR_WAKE_FAIL.STEP : FieldRef := ⟨0x3090, 7, 5⟩
def R.PWR_WAKE_FAIL.TRIES : FieldRef := ⟨0x3090, 9, 8⟩
def R.PUR_EVT.CAP_REACHED : FieldRef := ⟨0x400C, 0, 0⟩
def R.PUR_EVT.OVER_CAP : FieldRef := ⟨0x400C, 1, 1⟩
def R.PUR_EVT.THR_MAX : FieldRef := ⟨0x400C, 2, 2⟩
def R.PUR_CAP.CAP : FieldRef := ⟨0x4040, 9, 0⟩
def R.PUR_CFG.TMAX : FieldRef := ⟨0x4044, 3, 0⟩
def R.PUR_CFG.HYST : FieldRef := ⟨0x4044, 15, 8⟩
def R.PUR_CFG.TOKEN_TO : FieldRef := ⟨0x4044, 23, 16⟩
def R.PUR_EST.EST : FieldRef := ⟨0x4048, 9, 0⟩
def R.PUR_EST.HELD : FieldRef := ⟨0x4048, 25, 16⟩
def R.PUR_STAT.LEVEL : FieldRef := ⟨0x404C, 3, 0⟩
def R.PUR_STAT.WAITING : FieldRef := ⟨0x404C, 21, 16⟩
def R.PUR_COSTk.COST (k : Nat) : FieldRef := ⟨0x4050 + k * 0x4, 7, 0⟩
def R.PUR_THR_CNT_LO.THR_LO : FieldRef := ⟨0x4068, 31, 0⟩
def R.PUR_THR_CNT_HI.THR_HI : FieldRef := ⟨0x406C, 31, 0⟩
def R.PUR_OVER_CNT.OVER : FieldRef := ⟨0x4070, 31, 0⟩
def R.BEL_EVT.ALIGNED : FieldRef := ⟨0x500C, 0, 0⟩
def R.BEL_EVT.SYNC_SEEN : FieldRef := ⟨0x500C, 1, 1⟩
def R.BEL_EVT.BELL_LOST : FieldRef := ⟨0x500C, 2, 2⟩
def R.BEL_EVT.ARM_REFUSED : FieldRef := ⟨0x500C, 3, 3⟩
def R.BEL_EVT.MARK_DONE : FieldRef := ⟨0x500C, 4, 4⟩
def R.BEL_CTRL.ARM : FieldRef := ⟨0x5040, 0, 0⟩
def R.BEL_CTRL.MARK_ARM : FieldRef := ⟨0x5040, 1, 1⟩
def R.BEL_CTRL.DISARM : FieldRef := ⟨0x5040, 2, 2⟩
def R.BEL_CTRL.ARMED : FieldRef := ⟨0x5040, 8, 8⟩
def R.BEL_CTRL.MARK_ARMED : FieldRef := ⟨0x5040, 9, 9⟩
def R.BEL_STAT.LOCKED : FieldRef := ⟨0x5044, 0, 0⟩
def R.BEL_STAT.ALIGNED : FieldRef := ⟨0x5044, 1, 1⟩
def R.BEL_LOAD_LO.LOAD_LO : FieldRef := ⟨0x5048, 31, 0⟩
def R.BEL_LOAD_HI.LOAD_HI : FieldRef := ⟨0x504C, 31, 0⟩
def R.BEL_TRIM.COARSE : FieldRef := ⟨0x5050, 7, 0⟩
def R.BEL_TRIM.FINE : FieldRef := ⟨0x5050, 12, 8⟩
def R.BEL_NOW_LO.NOW_LO : FieldRef := ⟨0x5058, 31, 0⟩
def R.BEL_NOW_HI.NOW_HI : FieldRef := ⟨0x505C, 31, 0⟩
def R.BEL_SYNC_CAP_LO.CAP_LO : FieldRef := ⟨0x5060, 31, 0⟩
def R.BEL_SYNC_CAP_HI.CAP_HI : FieldRef := ⟨0x5064, 31, 0⟩
def R.BEL_MARK_LO.MARK_LO : FieldRef := ⟨0x5068, 31, 0⟩
def R.BEL_MARK_HI.MARK_HI : FieldRef := ⟨0x506C, 31, 0⟩
def R.CHN_EVT.ENUM_DONE : FieldRef := ⟨0x600C, 0, 0⟩
def R.CHN_EVT.ENUM_OVER : FieldRef := ⟨0x600C, 1, 1⟩
def R.CHN_EVT.ADDR_CHANGED : FieldRef := ⟨0x600C, 2, 2⟩
def R.CHN_EVT.HEAD_CONFLICT : FieldRef := ⟨0x600C, 3, 3⟩
def R.CHN_EVT.IN_LOST : FieldRef := ⟨0x600C, 4, 4⟩
def R.CHN_EVT.NO_ANSWER : FieldRef := ⟨0x600C, 5, 5⟩
def R.CHN_EVT.CRC_ERR : FieldRef := ⟨0x600C, 6, 6⟩
def R.CHN_CFG.TMO : FieldRef := ⟨0x6040, 7, 0⟩
def R.CHN_CFG.RETRY : FieldRef := ⟨0x6040, 9, 8⟩
def R.CHN_STAT.ADDR : FieldRef := ⟨0x6044, 5, 0⟩
def R.CHN_STAT.HEAD : FieldRef := ⟨0x6044, 6, 6⟩
def R.CHN_STAT.IN_UP : FieldRef := ⟨0x6044, 7, 7⟩
def R.CHN_STAT.COUNT : FieldRef := ⟨0x6044, 13, 8⟩
def R.CHN_CMD.ENUM : FieldRef := ⟨0x6048, 0, 0⟩
def R.CHN_CMD.GO : FieldRef := ⟨0x6048, 1, 1⟩
def R.CHN_REQ.TYPE : FieldRef := ⟨0x604C, 1, 0⟩
def R.CHN_REQ.DST : FieldRef := ⟨0x604C, 13, 8⟩
def R.CHN_OFS.OFFSET : FieldRef := ⟨0x6050, 21, 0⟩
def R.CHN_WDATA.DATA : FieldRef := ⟨0x6054, 31, 0⟩
def R.CHN_RDATA.DATA : FieldRef := ⟨0x6058, 31, 0⟩
def R.CHN_RSTAT.BUSY : FieldRef := ⟨0x605C, 0, 0⟩
def R.CHN_RSTAT.DONE : FieldRef := ⟨0x605C, 1, 1⟩
def R.CHN_RSTAT.STATUS : FieldRef := ⟨0x605C, 3, 2⟩
def R.CHN_ACK_LO.ACK_LO : FieldRef := ⟨0x6060, 31, 0⟩
def R.CHN_ACK_HI.ACK_HI : FieldRef := ⟨0x6064, 31, 0⟩
def R.CHN_CRC_CNT.CRC : FieldRef := ⟨0x6068, 31, 0⟩
def R.CHN_RESEND_CNT.RESEND : FieldRef := ⟨0x606C, 31, 0⟩
def R.HST_EVT.LINK_DOWN : FieldRef := ⟨0x700C, 0, 0⟩
def R.HST_EVT.FLR : FieldRef := ⟨0x700C, 1, 1⟩
def R.HST_LSTAT.WIDTH : FieldRef := ⟨0x7040, 2, 0⟩
def R.HST_LSTAT.RATE : FieldRef := ⟨0x7040, 5, 3⟩
def R.HST_LSTAT.UP : FieldRef := ⟨0x7040, 6, 6⟩
def R.EVC_EVT.CHAIN_FAIL : FieldRef := ⟨0x800C, 0, 0⟩
def R.EVC_SUM0.WORDS : FieldRef := ⟨0x8040, 31, 0⟩
def R.EVC_SUM1.WORDS : FieldRef := ⟨0x8044, 3, 0⟩
def R.EVC_ARMED0.ARMED : FieldRef := ⟨0x8048, 31, 0⟩
def R.EVC_ARMED1.ARMED : FieldRef := ⟨0x804C, 31, 0⟩
def R.EVC_REARM0.REARM : FieldRef := ⟨0x8050, 31, 0⟩
def R.EVC_REARM1.REARM : FieldRef := ⟨0x8054, 31, 0⟩
def R.EVC_MSG_CNT.MSG : FieldRef := ⟨0x8058, 31, 0⟩
def R.EVC_CHAIN_CNT.FRAMES : FieldRef := ⟨0x805C, 31, 0⟩
def R.EVC_PENDw.PEND (k : Nat) : FieldRef := ⟨0x8100 + k * 0x4, 31, 0⟩
def R.EVC_ROUTEw.VEC (k : Nat) : FieldRef := ⟨0x9040 + k * 0x4, 5, 0⟩
def R.EVC_ROUTEw.MSIX (k : Nat) : FieldRef := ⟨0x9040 + k * 0x4, 8, 8⟩
def R.EVC_ROUTEw.INT (k : Nat) : FieldRef := ⟨0x9040 + k * 0x4, 19, 16⟩
def R.EVC_ROUTEw.CHAIN (k : Nat) : FieldRef := ⟨0x9040 + k * 0x4, 24, 24⟩
def R.QUE_EVT.WM : FieldRef := ⟨0xA00C, 4, 0⟩
def R.QUE_EVT.OVERFLOW : FieldRef := ⟨0xA00C, 12, 8⟩
def R.QUE_EVT.UNDERRUN : FieldRef := ⟨0xA00C, 20, 16⟩
def R.QUE_EVT.MBO_FAIL : FieldRef := ⟨0xA00C, 24, 24⟩
def R.QUE_MBO_DST.DST : FieldRef := ⟨0xA040, 5, 0⟩
def R.QUE_TRC_CFG.EN : FieldRef := ⟨0xA044, 0, 0⟩
def R.QUE_TRC_CFG.RX : FieldRef := ⟨0xA044, 1, 1⟩
def R.QUE_TRC_CFG.TX : FieldRef := ⟨0xA044, 2, 2⟩
def R.QUE_TRC_CFG.PORT : FieldRef := ⟨0xA044, 12, 8⟩
def R.QUE_TRC_CFG.ALLP : FieldRef := ⟨0xA044, 13, 13⟩
def R.QUE_TRC_ADDR_LO.ADDR_LO : FieldRef := ⟨0xA048, 31, 0⟩
def R.QUE_TRC_ADDR_HI.ADDR_HI : FieldRef := ⟨0xA04C, 15, 0⟩
def R.QUE_TRC_MASK_LO.MASK_LO : FieldRef := ⟨0xA050, 31, 0⟩
def R.QUE_TRC_MASK_HI.MASK_HI : FieldRef := ⟨0xA054, 15, 0⟩
def R.QUEn_COUNT.COUNT (k : Nat) : FieldRef := ⟨0xA100 + k * 0x20, 12, 0⟩
def R.QUEn_DATA.DATA (k : Nat) : FieldRef := ⟨0xA104 + k * 0x20, 31, 0⟩
def R.QUEn_DROP.DROP (k : Nat) : FieldRef := ⟨0xA108 + k * 0x20, 0, 0⟩
def R.QUEn_STAT.UNDERRUN (k : Nat) : FieldRef := ⟨0xA10C + k * 0x20, 0, 0⟩
def R.QUEn_STAT.OVERFLOW (k : Nat) : FieldRef := ⟨0xA10C + k * 0x20, 1, 1⟩
def R.QUEn_STAT.OPEN (k : Nat) : FieldRef := ⟨0xA10C + k * 0x20, 8, 8⟩
def R.QUEn_WM.LEVEL (k : Nat) : FieldRef := ⟨0xA110 + k * 0x20, 12, 0⟩
def R.QUEn_LOST.LOST (k : Nat) : FieldRef := ⟨0xA114 + k * 0x20, 31, 0⟩
def R.PMU_EVT.SAMPLE : FieldRef := ⟨0xB00C, 0, 0⟩
def R.PMU_EVT.SMP_LOST : FieldRef := ⟨0xB00C, 1, 1⟩
def R.PMU_EVT.FIX_OVF : FieldRef := ⟨0xB00C, 2, 2⟩
def R.PMU_GCTL.FREEZE : FieldRef := ⟨0xB040, 0, 0⟩
def R.PMU_GCTL.FRZ_SMP : FieldRef := ⟨0xB040, 1, 1⟩
def R.PMU_GCTL.CLEAR : FieldRef := ⟨0xB040, 8, 8⟩
def R.PMU_FIX_CFG.EN : FieldRef := ⟨0xB044, 7, 0⟩
def R.PMU_FIX_CFG.SAT : FieldRef := ⟨0xB044, 15, 8⟩
def R.PMU_FIX_STAT.OVF : FieldRef := ⟨0xB048, 7, 0⟩
def R.PMU_FIX_STAT.SAT : FieldRef := ⟨0xB048, 15, 8⟩
def R.PMU_FIXf_LO.CNT_LO (k : Nat) : FieldRef := ⟨0xB050 + k * 0x8, 31, 0⟩
def R.PMU_FIXf_HI.CNT_HI (k : Nat) : FieldRef := ⟨0xB054 + k * 0x8, 31, 0⟩
def R.PMU_SMP_STAT.VALID : FieldRef := ⟨0xB100, 0, 0⟩
def R.PMU_SMP_STAT.CTR : FieldRef := ⟨0xB100, 6, 1⟩
def R.PMU_SMP_STAT.SKID : FieldRef := ⟨0xB100, 14, 8⟩
def R.PMU_SMP_STAT.CODE : FieldRef := ⟨0xB100, 25, 16⟩
def R.PMU_SMP_ID.PORT : FieldRef := ⟨0xB104, 4, 0⟩
def R.PMU_SMP_ID.LKUP : FieldRef := ⟨0xB104, 5, 5⟩
def R.PMU_SMP_ID.OPC : FieldRef := ⟨0xB104, 15, 8⟩
def R.PMU_SMP_ID.TXID : FieldRef := ⟨0xB104, 27, 16⟩
def R.PMU_SMP_ADDR_LO.ADDR_LO : FieldRef := ⟨0xB108, 31, 0⟩
def R.PMU_SMP_ADDR_HI.ADDR_HI : FieldRef := ⟨0xB10C, 15, 0⟩
def R.PMU_SMP_TIME_LO.TIME_LO : FieldRef := ⟨0xB110, 31, 0⟩
def R.PMU_SMP_TIME_HI.TIME_HI : FieldRef := ⟨0xB114, 31, 0⟩
def R.PMU_SMP_CTRL.DONE : FieldRef := ⟨0xB118, 0, 0⟩
def R.PMU_SMP_LOST.LOST : FieldRef := ⟨0xB11C, 31, 0⟩
def R.PMU_CTRn_LO.CNT_LO (k : Nat) : FieldRef := ⟨0xC040 + k * 0x8, 31, 0⟩
def R.PMU_CTRn_HI.CNT_HI (k : Nat) : FieldRef := ⟨0xC044 + k * 0x8, 31, 0⟩
def R.PMU_SELn.EVENT (k : Nat) : FieldRef := ⟨0xC300 + k * 0x4, 9, 0⟩
def R.PMU_SELn.EN (k : Nat) : FieldRef := ⟨0xC300 + k * 0x4, 12, 12⟩
def R.PMU_SELn.EDGE (k : Nat) : FieldRef := ⟨0xC300 + k * 0x4, 13, 13⟩
def R.PMU_SELn.SAT (k : Nat) : FieldRef := ⟨0xC300 + k * 0x4, 14, 14⟩
def R.PMU_SELn.SAMPLE (k : Nat) : FieldRef := ⟨0xC300 + k * 0x4, 15, 15⟩
def R.PMU_SELn.INT (k : Nat) : FieldRef := ⟨0xC300 + k * 0x4, 16, 16⟩
def R.PMU_OVF0.OVF : FieldRef := ⟨0xC400, 31, 0⟩
def R.PMU_OVF1.OVF : FieldRef := ⟨0xC404, 31, 0⟩
def R.PMU_SATF0.SAT : FieldRef := ⟨0xC408, 31, 0⟩
def R.PMU_SATF1.SAT : FieldRef := ⟨0xC40C, 31, 0⟩
def R.TST_EVT.TST_FAIL : FieldRef := ⟨0xD00C, 0, 0⟩
def R.TST_CFG.BIST_EN : FieldRef := ⟨0xD040, 0, 0⟩
def R.TST_STAT.DONE : FieldRef := ⟨0xD044, 0, 0⟩
def R.TST_STAT.PASS : FieldRef := ⟨0xD044, 1, 1⟩
def R.TST_STAT.FAIL_ARR : FieldRef := ⟨0xD044, 11, 8⟩
def R.TST_TIME.US : FieldRef := ⟨0xD048, 31, 0⟩
def R.PIP_EVT.MNT_DONE : FieldRef := ⟨0x1000C, 0, 0⟩
def R.PIP_EVT.MNT_REFUSED : FieldRef := ⟨0x1000C, 1, 1⟩
def R.PIP_EVT.SWEEP_DONE : FieldRef := ⟨0x1000C, 2, 2⟩
def R.PIP_EVT.SWEEP_REFUSED : FieldRef := ⟨0x1000C, 3, 3⟩
def R.PIP_EVT.HDR_QUAR : FieldRef := ⟨0x1000C, 4, 4⟩
def R.PIP_SETS.SETS : FieldRef := ⟨0x10100, 31, 0⟩
def R.PIP_CACHE_CFG.STRM_AGE : FieldRef := ⟨0x10104, 3, 0⟩
def R.PIP_SWEEP_STAT.ACTIVE : FieldRef := ⟨0x10108, 0, 0⟩
def R.PIP_SWEEP_STAT.GROUP : FieldRef := ⟨0x10108, 2, 1⟩
def R.PIP_SWEEP_SET.SET : FieldRef := ⟨0x1010C, 31, 0⟩
def R.PIP_MNT_BASE_LO.BASE_LO : FieldRef := ⟨0x10110, 31, 0⟩
def R.PIP_MNT_BASE_HI.BASE_HI : FieldRef := ⟨0x10114, 15, 0⟩
def R.PIP_MNT_LIMIT_LO.LIMIT_LO : FieldRef := ⟨0x10118, 31, 0⟩
def R.PIP_MNT_LIMIT_HI.LIMIT_HI : FieldRef := ⟨0x1011C, 15, 0⟩
def R.PIP_MNT_CTRL.OP : FieldRef := ⟨0x10120, 1, 0⟩
def R.PIP_MNT_CTRL.WHOLE : FieldRef := ⟨0x10120, 2, 2⟩
def R.PIP_MNT_CTRL.START : FieldRef := ⟨0x10120, 8, 8⟩
def R.PIP_MNT_CTRL.ABORT : FieldRef := ⟨0x10120, 9, 9⟩
def R.PIP_MNT_CFG.DEPTH_M1 : FieldRef := ⟨0x10124, 7, 0⟩
def R.PIP_MNT_STAT.BUSY : FieldRef := ⟨0x10128, 0, 0⟩
def R.PIP_MNT_STAT.ABORTED : FieldRef := ⟨0x10128, 1, 1⟩
def R.PIP_MNT_STAT.FAILS : FieldRef := ⟨0x10128, 31, 16⟩
def R.PIP_MNT_PROG_LO.PROG_LO : FieldRef := ⟨0x10130, 31, 0⟩
def R.PIP_MNT_PROG_HI.PROG_HI : FieldRef := ⟨0x10134, 15, 0⟩
def R.PIP_MNT_LINES.LINES : FieldRef := ⟨0x10138, 31, 0⟩
def R.PIP_QUAR_STAT.COUNT : FieldRef := ⟨0x10140, 6, 0⟩
def R.PIP_QUAR_SET.SET : FieldRef := ⟨0x10144, 31, 0⟩
def R.PIP_QUAR_CLR.CLR : FieldRef := ⟨0x10148, 0, 0⟩
def R.PIP_DRAIN_SET.SET : FieldRef := ⟨0x1014C, 31, 0⟩
def R.AMP_DEFAULT.POL : FieldRef := ⟨0x11040, 1, 0⟩
def R.AMP_DEFAULT.RDONCE_ALLOC : FieldRef := ⟨0x11040, 2, 2⟩
def R.AMP_RGn_BASE_LO.BASE_LO (k : Nat) : FieldRef := ⟨0x11100 + k * 0x20, 31, 16⟩
def R.AMP_RGn_BASE_HI.BASE_HI (k : Nat) : FieldRef := ⟨0x11104 + k * 0x20, 15, 0⟩
def R.AMP_RGn_LIMIT_LO.LIMIT_LO (k : Nat) : FieldRef := ⟨0x11108 + k * 0x20, 31, 16⟩
def R.AMP_RGn_LIMIT_HI.LIMIT_HI (k : Nat) : FieldRef := ⟨0x1110C + k * 0x20, 15, 0⟩
def R.AMP_RGn_CTRL.EN (k : Nat) : FieldRef := ⟨0x11110 + k * 0x20, 0, 0⟩
def R.AMP_RGn_CTRL.POL (k : Nat) : FieldRef := ⟨0x11110 + k * 0x20, 2, 1⟩
def R.AMP_RGn_CTRL.RDONCE_ALLOC (k : Nat) : FieldRef := ⟨0x11110 + k * 0x20, 3, 3⟩
def R.AMP_MEM_CFG.PORT_EN : FieldRef := ⟨0x11300, 7, 0⟩
def R.AMP_MEM_CAP.CAP : FieldRef := ⟨0x11304, 11, 0⟩
def R.AMP_MEM_TOP_LO.TOP_LO : FieldRef := ⟨0x11308, 31, 0⟩
def R.AMP_MEM_TOP_HI.TOP_HI : FieldRef := ⟨0x1130C, 15, 0⟩
def R.AMP_SDR_BASE_LO.BASE_LO : FieldRef := ⟨0x11310, 31, 0⟩
def R.AMP_SDR_BASE_HI.BASE_HI : FieldRef := ⟨0x11314, 15, 0⟩
def R.HDC_EVT.FLUSH_DONE : FieldRef := ⟨0x1200C, 0, 0⟩
def R.WBF_EVT.HIWAT : FieldRef := ⟨0x1300C, 0, 0⟩
def R.WBF_EVT.FULL : FieldRef := ⟨0x1300C, 1, 1⟩
def R.WBF_EVT.WR_FAIL : FieldRef := ⟨0x1300C, 2, 2⟩
def R.HDC_CFG.PREF_DEPTH : FieldRef := ⟨0x12040, 1, 0⟩
def R.HDC_STAT.DIRTY : FieldRef := ⟨0x12044, 17, 0⟩
def R.HDC_STAT.FLUSHING : FieldRef := ⟨0x12044, 31, 31⟩
def R.HDC_FLUSH.FLUSH : FieldRef := ⟨0x12048, 0, 0⟩
def R.WBF_CFG.PORT_RSV : FieldRef := ⟨0x13040, 4, 0⟩
def R.WBF_CFG.COMB_TO : FieldRef := ⟨0x13040, 15, 8⟩
def R.WBF_CFG.HIWAT : FieldRef := ⟨0x13040, 25, 16⟩
def R.WBF_STAT.USED : FieldRef := ⟨0x13044, 10, 0⟩
def R.WBF_STAT.PARTIAL : FieldRef := ⟨0x13044, 26, 16⟩
def R.WBF_FLUSH.FLUSH : FieldRef := ⟨0x13048, 0, 0⟩
def R.DIR_EVT.BI_PINNED : FieldRef := ⟨0x1400C, 0, 0⟩
def R.DIR_EVT.WB_STRAY : FieldRef := ⟨0x1400C, 1, 1⟩
def R.DIR_EVT.RSP_TIMEOUT : FieldRef := ⟨0x1400C, 2, 2⟩
def R.DIR_CFG.SHARED_E : FieldRef := ⟨0x14040, 0, 0⟩
def R.DIR_CFG.RSP_TO : FieldRef := ⟨0x14040, 17, 8⟩
def R.DIR_STAT.USED : FieldRef := ⟨0x14044, 20, 0⟩
def R.DIR_OVF_CNT.OVF : FieldRef := ⟨0x14048, 20, 0⟩
def R.DIR_BI_CNT_LO.BI_LO : FieldRef := ⟨0x14050, 31, 0⟩
def R.DIR_BI_CNT_HI.BI_HI : FieldRef := ⟨0x14054, 31, 0⟩
def R.DIR_RCALL_CNT_LO.RC_LO : FieldRef := ⟨0x14058, 31, 0⟩
def R.DIR_RCALL_CNT_HI.RC_HI : FieldRef := ⟨0x1405C, 31, 0⟩
def R.DIR_PROBE_ADDR_LO.ADDR_LO : FieldRef := ⟨0x14060, 31, 0⟩
def R.DIR_PROBE_ADDR_HI.ADDR_HI : FieldRef := ⟨0x14064, 15, 0⟩
def R.DIR_PROBE_CTRL.GO : FieldRef := ⟨0x14068, 0, 0⟩
def R.DIR_PROBE_STAT.DONE : FieldRef := ⟨0x1406C, 0, 0⟩
def R.DIR_PROBE_STAT.HIT : FieldRef := ⟨0x1406C, 1, 1⟩
def R.DIR_PROBE_DATA_LO.DATA_LO : FieldRef := ⟨0x14070, 31, 0⟩
def R.DIR_PROBE_DATA_HI.DATA_HI : FieldRef := ⟨0x14074, 31, 0⟩
def R.SDR_EVT.INIT_DONE : FieldRef := ⟨0x1500C, 0, 0⟩
def R.SDR_EVT.ENTRY_ERR : FieldRef := ⟨0x1500C, 1, 1⟩
def R.SDR_CFG.SHARED_X : FieldRef := ⟨0x15040, 0, 0⟩
def R.SDR_STAT.INIT_DONE : FieldRef := ⟨0x15044, 0, 0⟩
def R.SDR_INIT_PROG_LO.PROG_LO : FieldRef := ⟨0x15048, 31, 0⟩
def R.SDR_INIT_PROG_HI.PROG_HI : FieldRef := ⟨0x1504C, 15, 0⟩
def R.SDR_MISS_CNT_LO.MISS_LO : FieldRef := ⟨0x15050, 31, 0⟩
def R.SDR_MISS_CNT_HI.MISS_HI : FieldRef := ⟨0x15054, 31, 0⟩
def R.SDR_BCAST_CNT_LO.BC_LO : FieldRef := ⟨0x15058, 31, 0⟩
def R.SDR_BCAST_CNT_HI.BC_HI : FieldRef := ⟨0x1505C, 31, 0⟩
def R.CNF_EVT.STBY_EXPIRED : FieldRef := ⟨0x1600C, 0, 0⟩
def R.CNF_EVT.BAD_TICKET : FieldRef := ⟨0x1600C, 1, 1⟩
def R.CNF_EVT.TKT_EXHAUSTED : FieldRef := ⟨0x1600C, 2, 2⟩
def R.CNF_EVT.HOLD_CUT : FieldRef := ⟨0x1600C, 3, 3⟩
def R.CNF_EVT.TT_FULL : FieldRef := ⟨0x1600C, 4, 4⟩
def R.CNF_BERTH.BERTH : FieldRef := ⟨0x16040, 11, 0⟩
def R.CNF_STBY_WINDOW.WIN : FieldRef := ⟨0x16044, 15, 0⟩
def R.CNF_STAT.USED : FieldRef := ⟨0x16048, 12, 0⟩
def R.CNF_STAT.RSV_USED : FieldRef := ⟨0x16048, 25, 16⟩
def R.CNF_TKT_STAT.LIVE : FieldRef := ⟨0x1604C, 9, 0⟩
def R.CNF_TKT_STAT.NEXT : FieldRef := ⟨0x1604C, 31, 16⟩
def R.CNF_PRI.PTR : FieldRef := ⟨0x16050, 4, 0⟩
def R.CNF_HOLD_STAT.ACTIVE : FieldRef := ⟨0x16054, 10, 0⟩
def R.CNF_STBY_CNT_LO.STBY_LO : FieldRef := ⟨0x16058, 31, 0⟩
def R.CNF_STBY_CNT_HI.STBY_HI : FieldRef := ⟨0x1605C, 31, 0⟩
def R.CNF_EXP_CNT.EXP : FieldRef := ⟨0x16060, 31, 0⟩
def R.CNF_HOLD_CUT_CNT.CUT : FieldRef := ⟨0x16064, 31, 0⟩
def R.DEP_EVT.REFUSED : FieldRef := ⟨0x1700C, 0, 0⟩
def R.DEP_EVT.LATE_ARRIVAL : FieldRef := ⟨0x1700C, 1, 1⟩
def R.DEP_EVT.LATE_STAGED : FieldRef := ⟨0x1700C, 2, 2⟩
def R.DEP_EVT.MISSED : FieldRef := ⟨0x1700C, 3, 3⟩
def R.DEP_EVT.LINE_BAD : FieldRef := ⟨0x1700C, 4, 4⟩
def R.DEP_EVT.PORT_DROP : FieldRef := ⟨0x1700C, 5, 5⟩
def R.DEP_EVT.CONFLICT : FieldRef := ⟨0x1700C, 6, 6⟩
def R.DEP_EVT.MAN_EMPTY : FieldRef := ⟨0x1700C, 7, 7⟩
def R.DEP_EVT.TIMETABLE_FULL : FieldRef := ⟨0x1700C, 8, 8⟩
def R.DEP_LEAD_MIN.LEAD : FieldRef := ⟨0x17040, 15, 0⟩
def R.DEP_LATE_POLICY.POL : FieldRef := ⟨0x17044, 0, 0⟩
def R.DEP_MISS_POLICY.POL : FieldRef := ⟨0x17048, 0, 0⟩
def R.DEP_CFG.BOARD_AHEAD : FieldRef := ⟨0x1704C, 7, 0⟩
def R.DEP_CFG.HORIZON : FieldRef := ⟨0x1704C, 31, 16⟩
def R.DEP_STAT.PENDING : FieldRef := ⟨0x17050, 10, 0⟩
def R.DEP_STAT.BOARDING : FieldRef := ⟨0x17050, 26, 16⟩
def R.DEP_NEXT_T_LO.T_LO : FieldRef := ⟨0x17058, 31, 0⟩
def R.DEP_NEXT_T_HI.T_HI : FieldRef := ⟨0x1705C, 31, 0⟩
def R.DEP_ADMIT_CNT_LO.ADM_LO : FieldRef := ⟨0x17060, 31, 0⟩
def R.DEP_ADMIT_CNT_HI.ADM_HI : FieldRef := ⟨0x17064, 31, 0⟩
def R.DEP_REFUSE_CNT.REF : FieldRef := ⟨0x17068, 31, 0⟩
def R.DEP_LATE_CNT.LATE : FieldRef := ⟨0x1706C, 31, 0⟩
def R.DEP_MISSED_CNT.MISSED : FieldRef := ⟨0x17070, 31, 0⟩
def R.DEP_BADLINE_CNT.BAD : FieldRef := ⟨0x17074, 31, 0⟩
def R.DEP_DROP_CNT.DROP : FieldRef := ⟨0x17078, 31, 0⟩
def R.DEP_CANCEL_IDX.IDX : FieldRef := ⟨0x1707C, 9, 0⟩
def R.DEP_CANCEL_CTRL.GO : FieldRef := ⟨0x17080, 0, 0⟩
def R.DEP_CANCEL_CTRL.RESULT : FieldRef := ⟨0x17080, 8, 8⟩
def R.DEP_MANm.PORTS (k : Nat) : FieldRef := ⟨0x18040 + k * 0x4, 31, 0⟩
def R.DEP_PROBE_IDX.IDX : FieldRef := ⟨0x19040, 9, 0⟩
def R.DEP_PROBE_CTRL.GO : FieldRef := ⟨0x19044, 0, 0⟩
def R.DEP_PROBE_STAT.DONE : FieldRef := ⟨0x19048, 0, 0⟩
def R.DEP_PROBE_STAT.VALID : FieldRef := ⟨0x19048, 1, 1⟩
def R.DEP_PROBE_STAT.PHASE : FieldRef := ⟨0x19048, 4, 2⟩
def R.DEP_PROBE_STAT.BOARDED : FieldRef := ⟨0x19048, 14, 8⟩
def R.DEP_PROBE_STAT.IMM : FieldRef := ⟨0x19048, 15, 15⟩
def R.DEP_PROBE_STAT.COUNT : FieldRef := ⟨0x19048, 22, 16⟩
def R.DEP_PROBE_T_LO.T_LO : FieldRef := ⟨0x19050, 31, 0⟩
def R.DEP_PROBE_T_HI.T_HI : FieldRef := ⟨0x19054, 31, 0⟩
def R.DEP_PROBE_ADDR_LO.ADDR_LO : FieldRef := ⟨0x19058, 31, 0⟩
def R.DEP_PROBE_ADDR_HI.ADDR_HI : FieldRef := ⟨0x1905C, 15, 0⟩
def R.DEP_PROBE_MAN.MAN : FieldRef := ⟨0x19060, 7, 0⟩
def R.DEP_PROBE_MAN.DTAG : FieldRef := ⟨0x19060, 31, 16⟩
def R.DEP_PROBE_PORTS.PORTS : FieldRef := ⟨0x19064, 31, 0⟩
def R.DEP_PROBE_CIDX.CIDX : FieldRef := ⟨0x19068, 9, 0⟩
def R.DEP_BUFn.RSV (k : Nat) : FieldRef := ⟨0x1A040 + k * 0x4, 11, 0⟩
def R.DEP_BUFn.STAGED (k : Nat) : FieldRef := ⟨0x1A040 + k * 0x4, 27, 16⟩
def R.APD_EVT.FULL : FieldRef := ⟨0x1C00C, 0, 0⟩
def R.APD_EVT.REC_REFUSED : FieldRef := ⟨0x1C00C, 1, 1⟩
def R.APD_EVT.CFG_BAD : FieldRef := ⟨0x1C00C, 2, 2⟩
def R.APD_EVT.HEAD_BAD : FieldRef := ⟨0x1C00C, 3, 3⟩
def R.APD_EVT.COMMIT_WM : FieldRef := ⟨0x1C00C, 4, 4⟩
def R.APD_EVT.LINE_FAIL : FieldRef := ⟨0x1C00C, 5, 5⟩
def R.APD_EVT.REC_POISON : FieldRef := ⟨0x1C00C, 6, 6⟩
def R.APD_ENG_CFG.FLUSH_TO : FieldRef := ⟨0x1C040, 7, 0⟩
def R.APD_ENG_STAT.INFL : FieldRef := ⟨0x1C044, 8, 0⟩
def R.APD_REC_CNT_LO.REC_LO : FieldRef := ⟨0x1C048, 31, 0⟩
def R.APD_REC_CNT_HI.REC_HI : FieldRef := ⟨0x1C04C, 31, 0⟩
def R.APD_REFUSE_CNT.REF : FieldRef := ⟨0x1C050, 31, 0⟩
def R.APD_CTRL_n.EN (k : Nat) : FieldRef := ⟨0x1C100 + k * 0x8, 0, 0⟩
def R.APD_CTRL_n.FLUSH (k : Nat) : FieldRef := ⟨0x1C100 + k * 0x8, 1, 1⟩
def R.APD_STAT_n.DRAINING (k : Nat) : FieldRef := ⟨0x1C104 + k * 0x8, 0, 0⟩
def R.APD_STAT_n.FAULT (k : Nat) : FieldRef := ⟨0x1C104 + k * 0x8, 1, 1⟩
def R.APD_STAT_n.FULL (k : Nat) : FieldRef := ⟨0x1C104 + k * 0x8, 2, 2⟩
def R.APD_BASE_n_LO.BASE_LO (k : Nat) : FieldRef := ⟨0x1D040 + k * 0x30, 31, 16⟩
def R.APD_BASE_n_HI.BASE_HI (k : Nat) : FieldRef := ⟨0x1D044 + k * 0x30, 15, 0⟩
def R.APD_CFG_n.SIZE_LOG2 (k : Nat) : FieldRef := ⟨0x1D048 + k * 0x30, 5, 0⟩
def R.APD_CFG_n.STOP (k : Nat) : FieldRef := ⟨0x1D048 + k * 0x30, 6, 6⟩
def R.APD_CFG_n.HOME (k : Nat) : FieldRef := ⟨0x1D048 + k * 0x30, 7, 7⟩
def R.APD_WM_n.WM (k : Nat) : FieldRef := ⟨0x1D04C + k * 0x30, 31, 0⟩
def R.APD_TAIL_n_LO.TAIL_LO (k : Nat) : FieldRef := ⟨0x1D050 + k * 0x30, 31, 0⟩
def R.APD_TAIL_n_HI.TAIL_HI (k : Nat) : FieldRef := ⟨0x1D054 + k * 0x30, 31, 0⟩
def R.APD_COMMIT_n_LO.COMMIT_LO (k : Nat) : FieldRef := ⟨0x1D058 + k * 0x30, 31, 0⟩
def R.APD_COMMIT_n_HI.COMMIT_HI (k : Nat) : FieldRef := ⟨0x1D05C + k * 0x30, 31, 0⟩
def R.APD_HEAD_n_LO.HEAD_LO (k : Nat) : FieldRef := ⟨0x1D060 + k * 0x30, 31, 0⟩
def R.APD_HEAD_n_HI.HEAD_HI (k : Nat) : FieldRef := ⟨0x1D064 + k * 0x30, 31, 0⟩
def R.HIE_EVT.IDX_MISMATCH : FieldRef := ⟨0x1E00C, 0, 0⟩
def R.HIE_EVT.UPLINK_DOWN : FieldRef := ⟨0x1E00C, 1, 1⟩
def R.HIE_EVT.WB_STRAY : FieldRef := ⟨0x1E00C, 2, 2⟩
def R.HIE_CFG.WIDX : FieldRef := ⟨0x1E040, 4, 0⟩
def R.HIE_CFG.MGR_PAIR : FieldRef := ⟨0x1E040, 8, 8⟩
def R.HIE_STAT.UPL : FieldRef := ⟨0x1E044, 0, 0⟩
def R.HIE_STAT.UP_OUT : FieldRef := ⟨0x1E044, 28, 16⟩
def R.HIE_SLOTS.SLOT_EN : FieldRef := ⟨0x1E048, 15, 0⟩
def R.HIE_SLOTS.SLOT_PAIR : FieldRef := ⟨0x1E048, 31, 16⟩
def R.HIE_SERV.SERV : FieldRef := ⟨0x1E04C, 15, 0⟩
def R.HIE_SNP_CNT_LO.SNP_LO : FieldRef := ⟨0x1E050, 31, 0⟩
def R.HIE_SNP_CNT_HI.SNP_HI : FieldRef := ⟨0x1E054, 31, 0⟩
def R.TWN_EVT.HB_LOSS : FieldRef := ⟨0x1F00C, 0, 0⟩
def R.TWN_EVT.TAKEOVER_DONE : FieldRef := ⟨0x1F00C, 1, 1⟩
def R.TWN_EVT.CFG_MISMATCH : FieldRef := ⟨0x1F00C, 2, 2⟩
def R.TWN_EVT.PEER_ALIVE : FieldRef := ⟨0x1F00C, 3, 3⟩
def R.TWN_EVT.CONFIRM_SILENT : FieldRef := ⟨0x1F00C, 4, 4⟩
def R.TWN_EVT.PARTNER_TOOK : FieldRef := ⟨0x1F00C, 5, 5⟩
def R.TWN_EVT.COPY_DONE : FieldRef := ⟨0x1F00C, 6, 6⟩
def R.TWN_EVT.RESEND_MISSING : FieldRef := ⟨0x1F00C, 7, 7⟩
def R.TWN_CFG.EN : FieldRef := ⟨0x1F040, 0, 0⟩
def R.TWN_CFG.SILENT_TAKE : FieldRef := ⟨0x1F040, 1, 1⟩
def R.TWN_CFG.HB_PER : FieldRef := ⟨0x1F040, 15, 8⟩
def R.TWN_CFG.HB_MISS : FieldRef := ⟨0x1F040, 19, 16⟩
def R.TWN_CFG.PEER : FieldRef := ⟨0x1F040, 25, 20⟩
def R.TWN_TMO.CONF_TO : FieldRef := ⟨0x1F044, 7, 0⟩
def R.TWN_TMO.RESEND_WIN : FieldRef := ⟨0x1F044, 19, 8⟩
def R.TWN_GUARD.GUARD : FieldRef := ⟨0x1F048, 15, 0⟩
def R.TWN_CMD.JOIN : FieldRef := ⟨0x1F04C, 0, 0⟩
def R.TWN_CMD.DETACH : FieldRef := ⟨0x1F04C, 1, 1⟩
def R.TWN_CMD.FORCE_TAKE : FieldRef := ⟨0x1F04C, 2, 2⟩
def R.TWN_CMD.RESUME : FieldRef := ⟨0x1F04C, 3, 3⟩
def R.TWN_STATE.ROLE : FieldRef := ⟨0x1F050, 0, 0⟩
def R.TWN_STATE.STATE : FieldRef := ⟨0x1F050, 4, 1⟩
def R.TWN_STATE.TW_UP : FieldRef := ⟨0x1F050, 5, 5⟩
def R.TWN_STATE.PEER_ADDR : FieldRef := ⟨0x1F050, 13, 8⟩
def R.TWN_STATE.EPOCH : FieldRef := ⟨0x1F050, 31, 16⟩
def R.TWN_COPY_CFG.RATE : FieldRef := ⟨0x1F054, 7, 0⟩
def R.TWN_MSEQ.MSEQ : FieldRef := ⟨0x1F058, 31, 0⟩
def R.TWN_LAG.PEND : FieldRef := ⟨0x1F05C, 15, 0⟩
def R.TWN_LAG.QUEUED : FieldRef := ⟨0x1F05C, 31, 16⟩
def R.TWN_COPY_PROG.PHASE : FieldRef := ⟨0x1F060, 2, 0⟩
def R.TWN_COPY_PROG.PCT : FieldRef := ⟨0x1F060, 14, 8⟩
def R.TWN_LOG_STAT.ENTRIES : FieldRef := ⟨0x1F064, 15, 0⟩
def R.TWN_TAKE_TIME.NS : FieldRef := ⟨0x1F068, 31, 0⟩
def R.TWN_DUP_CNT.DUP : FieldRef := ⟨0x1F06C, 31, 0⟩
def R.TWN_LINK.STATE : FieldRef := ⟨0x1F070, 2, 0⟩
def R.TWN_LINK.WIDTH : FieldRef := ⟨0x1F070, 4, 3⟩
def R.TWN_LINK.RATE : FieldRef := ⟨0x1F070, 5, 5⟩
def R.TWN_REPLAY_CNT.REPLAY : FieldRef := ⟨0x1F074, 31, 0⟩
def R.DSC_EVT.CFG_ERR : FieldRef := ⟨0x2000C, 0, 0⟩
def R.DSC_EVT.TRAIN_FAIL : FieldRef := ⟨0x2000C, 1, 1⟩
def R.DSC_EVT.LANE_LOST : FieldRef := ⟨0x2000C, 2, 2⟩
def R.DSC_EVT.FILL_DONE : FieldRef := ⟨0x2000C, 3, 3⟩
def R.DSC_EVT.TEMP_HIGH : FieldRef := ⟨0x2000C, 4, 4⟩
def R.DSC_EVT.TEMP_CRIT : FieldRef := ⟨0x2000C, 5, 5⟩
def R.DSC_EVT.VR_FAULT : FieldRef := ⟨0x2000C, 6, 6⟩
def R.DSC_EVT.VR_STUCK : FieldRef := ⟨0x2000C, 7, 7⟩
def R.DSC_CFG.SPEED : FieldRef := ⟨0x20040, 2, 0⟩
def R.DSC_CFG.DLANES : FieldRef := ⟨0x20040, 5, 4⟩
def R.DSC_CFG.DDENS : FieldRef := ⟨0x20040, 7, 6⟩
def R.DSC_CFG.DRANKS : FieldRef := ⟨0x20040, 8, 8⟩
def R.DSC_CFG.HDENS : FieldRef := ⟨0x20040, 11, 10⟩
def R.DSC_CFG.HRANKS : FieldRef := ⟨0x20040, 12, 12⟩
def R.DSC_CFG.REF_MODE : FieldRef := ⟨0x20040, 16, 16⟩
def R.DSC_CFG.POSTPONE : FieldRef := ⟨0x20040, 19, 17⟩
def R.DSC_TIM0.CL : FieldRef := ⟨0x20044, 7, 0⟩
def R.DSC_TIM0.CWL : FieldRef := ⟨0x20044, 15, 8⟩
def R.DSC_TIM0.TRCD : FieldRef := ⟨0x20044, 23, 16⟩
def R.DSC_TIM0.TRP : FieldRef := ⟨0x20044, 31, 24⟩
def R.DSC_TIM1.TRAS : FieldRef := ⟨0x20048, 7, 0⟩
def R.DSC_TIM1.TWR : FieldRef := ⟨0x20048, 15, 8⟩
def R.DSC_TIM1.TRTP : FieldRef := ⟨0x20048, 23, 16⟩
def R.DSC_TIM1.TFAW : FieldRef := ⟨0x20048, 31, 24⟩
def R.DSC_TIM2.TRRD_S : FieldRef := ⟨0x2004C, 7, 0⟩
def R.DSC_TIM2.TRRD_L : FieldRef := ⟨0x2004C, 15, 8⟩
def R.DSC_TIM2.TCCD_L : FieldRef := ⟨0x2004C, 23, 16⟩
def R.DSC_TIM2.TWTR_L : FieldRef := ⟨0x2004C, 31, 24⟩
def R.DSC_TIM3.TRFC1 : FieldRef := ⟨0x20050, 11, 0⟩
def R.DSC_TIM3.TRFCSB : FieldRef := ⟨0x20050, 23, 12⟩
def R.DSC_TIM4.TREFI : FieldRef := ⟨0x20054, 15, 0⟩
def R.DSC_TIM4.TXS : FieldRef := ⟨0x20054, 27, 16⟩
def R.DSC_TRAIN_CFG.RETRY : FieldRef := ⟨0x20058, 1, 0⟩
def R.DSC_TRAIN_CFG.DFE_EN : FieldRef := ⟨0x20058, 2, 2⟩
def R.DSC_TEMP_CFG.PER : FieldRef := ⟨0x2005C, 7, 0⟩
def R.DSC_ZQ_CFG.PER : FieldRef := ⟨0x20060, 9, 0⟩
def R.DSC_VR_CFG.PG_TO : FieldRef := ⟨0x20064, 7, 0⟩
def R.DSC_VR_CFG.STABLE : FieldRef := ⟨0x20064, 15, 8⟩
def R.DSC_STAT.TRAINING : FieldRef := ⟨0x20068, 0, 0⟩
def R.DSC_STAT.FILLING : FieldRef := ⟨0x20068, 1, 1⟩
def R.DSC_STAT.FILL_DONE : FieldRef := ⟨0x20068, 2, 2⟩
def R.DSC_STAT.LOSS_SWEEP : FieldRef := ⟨0x20068, 3, 3⟩
def R.DSC_LANE_OK.OK : FieldRef := ⟨0x2006C, 17, 0⟩
def R.DSC_LANE_LOST.LOST : FieldRef := ⟨0x20070, 17, 0⟩
def R.DSC_FILL_PROG.IDX : FieldRef := ⟨0x20074, 25, 0⟩
def R.DSC_LOSS_POISON_CNT.CNT : FieldRef := ⟨0x20078, 31, 0⟩
def R.DSC_MRk.MA (k : Nat) : FieldRef := ⟨0x20080 + k * 0x4, 7, 0⟩
def R.DSC_MRk.OP (k : Nat) : FieldRef := ⟨0x20080 + k * 0x4, 15, 8⟩
def R.DSC_MRk.RK0 (k : Nat) : FieldRef := ⟨0x20080 + k * 0x4, 16, 16⟩
def R.DSC_MRk.RK1 (k : Nat) : FieldRef := ⟨0x20080 + k * 0x4, 17, 17⟩
def R.DSC_MRk.DATA (k : Nat) : FieldRef := ⟨0x20080 + k * 0x4, 18, 18⟩
def R.DSC_MRk.HDR (k : Nat) : FieldRef := ⟨0x20080 + k * 0x4, 19, 19⟩
def R.DSC_MRk.VALID (k : Nat) : FieldRef := ⟨0x20080 + k * 0x4, 31, 31⟩
def R.ECC_EVT.CE : FieldRef := ⟨0x2100C, 0, 0⟩
def R.ECC_EVT.UE : FieldRef := ⟨0x2100C, 1, 1⟩
def R.ECC_EVT.POISON_RD : FieldRef := ⟨0x2100C, 2, 2⟩
def R.ECC_EVT.HARD : FieldRef := ⟨0x2100C, 3, 3⟩
def R.ECC_EVT.SPARED : FieldRef := ⟨0x2100C, 4, 4⟩
def R.ECC_EVT.UE_LOSS : FieldRef := ⟨0x2100C, 5, 5⟩
def R.ECC_EVT.TRAP : FieldRef := ⟨0x2100C, 6, 6⟩
def R.ECC_EVT.CHAN_HALT : FieldRef := ⟨0x2100C, 7, 7⟩
def R.ECC_EVT.SRAM_CE : FieldRef := ⟨0x2100C, 8, 8⟩
def R.ECC_EVT.SRAM_UE : FieldRef := ⟨0x2100C, 9, 9⟩
def R.ECC_EVT.FLIP_DONE : FieldRef := ⟨0x2100C, 10, 10⟩
def R.ECC_EVT.CHK_FAIL : FieldRef := ⟨0x2100C, 11, 11⟩
def R.ECC_EVT.MEM_RD_ERR : FieldRef := ⟨0x2100C, 12, 12⟩
def R.ECC_EVT.LOC_FULL : FieldRef := ⟨0x2100C, 13, 13⟩
def R.ECC_CFG.HARD_THR : FieldRef := ⟨0x21040, 7, 0⟩
def R.ECC_CFG.LOSS_THR : FieldRef := ⟨0x21040, 15, 8⟩
def R.ECC_CFG.WIN_S : FieldRef := ⟨0x21040, 31, 16⟩
def R.ECC_TEST_SEL.SEL : FieldRef := ⟨0x21044, 0, 0⟩
def R.ECC_TEST_STAT.DONE : FieldRef := ⟨0x21048, 0, 0⟩
def R.ECC_TEST_STAT.PASS : FieldRef := ⟨0x21048, 1, 1⟩
def R.ECC_TEST_STAT.FAILS : FieldRef := ⟨0x21048, 27, 16⟩
def R.ECC_FLIP_CFG.LANE : FieldRef := ⟨0x2104C, 4, 0⟩
def R.ECC_FLIP_CFG.DEVA : FieldRef := ⟨0x2104C, 11, 8⟩
def R.ECC_FLIP_CFG.DEVB : FieldRef := ⟨0x2104C, 15, 12⟩
def R.ECC_FLIP_CFG.CW : FieldRef := ⟨0x2104C, 19, 16⟩
def R.ECC_FLIP_CFG.ALL : FieldRef := ⟨0x2104C, 20, 20⟩
def R.ECC_FLIP_MASK.MASKA : FieldRef := ⟨0x21050, 7, 0⟩
def R.ECC_FLIP_MASK.MASKB : FieldRef := ⟨0x21050, 15, 8⟩
def R.ECC_FLIP_CTRL.ARM : FieldRef := ⟨0x21054, 0, 0⟩
def R.ECC_FLIP_CTRL.ARMED : FieldRef := ⟨0x21054, 8, 8⟩
def R.ECC_FLIP_ADDR_LO.ADDR_LO : FieldRef := ⟨0x21058, 31, 0⟩
def R.ECC_FLIP_ADDR_HI.ADDR_HI : FieldRef := ⟨0x2105C, 7, 0⟩
def R.ECC_CE_CNT_LO.CE_LO : FieldRef := ⟨0x21060, 31, 0⟩
def R.ECC_CE_CNT_HI.CE_HI : FieldRef := ⟨0x21064, 31, 0⟩
def R.ECC_UE_CNT.UE : FieldRef := ⟨0x21068, 31, 0⟩
def R.ECC_POISON_CNT.PSN : FieldRef := ⟨0x2106C, 31, 0⟩
def R.ECC_HARD_CNT.HARD : FieldRef := ⟨0x21070, 31, 0⟩
def R.ECC_LOC_STAT.USED : FieldRef := ⟨0x21074, 10, 0⟩
def R.ECC_LOC_STAT.HARD : FieldRef := ⟨0x21074, 26, 16⟩
def R.ECC_SRAM_CE_CNT.CE : FieldRef := ⟨0x21078, 31, 0⟩
def R.ECC_SRAM_UE_CNT.UE : FieldRef := ⟨0x2107C, 31, 0⟩
def R.ECC_DEVQ_SEL.LANE : FieldRef := ⟨0x21080, 4, 0⟩
def R.ECC_DEVQ_SEL.RANK : FieldRef := ⟨0x21080, 8, 8⟩
def R.ECC_DEVQ_SEL.DEV : FieldRef := ⟨0x21080, 15, 12⟩
def R.ECC_DEVQ_STAT.HARD : FieldRef := ⟨0x21084, 7, 0⟩
def R.ECC_DEVQ_STAT.UE : FieldRef := ⟨0x21084, 23, 16⟩
def R.ECC_CHAN_HALTn.HALT (k : Nat) : FieldRef := ⟨0x21100 + k * 0x4, 15, 0⟩
def R.ECC_CHAN_HALTn.CLR (k : Nat) : FieldRef := ⟨0x21100 + k * 0x4, 31, 16⟩
def R.ECC_ERASEn.DEV0 (k : Nat) : FieldRef := ⟨0x21200 + k * 0x4, 3, 0⟩
def R.ECC_ERASEn.EV0 (k : Nat) : FieldRef := ⟨0x21200 + k * 0x4, 4, 4⟩
def R.ECC_ERASEn.DEV1 (k : Nat) : FieldRef := ⟨0x21200 + k * 0x4, 11, 8⟩
def R.ECC_ERASEn.EV1 (k : Nat) : FieldRef := ⟨0x21200 + k * 0x4, 12, 12⟩
def R.SCB_EVT.LAP_DONE : FieldRef := ⟨0x2200C, 0, 0⟩
def R.SCB_EVT.UE_SCRUB : FieldRef := ⟨0x2200C, 1, 1⟩
def R.SCB_CFG.BURST : FieldRef := ⟨0x22040, 7, 0⟩
def R.SCB_CFG.GAP : FieldRef := ⟨0x22040, 23, 8⟩
def R.SCB_POS.SET : FieldRef := ⟨0x22044, 31, 0⟩
def R.SCB_LAP_LO.LAP_LO : FieldRef := ⟨0x22048, 31, 0⟩
def R.SCB_LAP_HI.LAP_HI : FieldRef := ⟨0x2204C, 31, 0⟩
def R.SCB_LAPS.LAPS : FieldRef := ⟨0x22050, 31, 0⟩
def R.SCB_LINES_LO.LINES_LO : FieldRef := ⟨0x22058, 31, 0⟩
def R.SCB_LINES_HI.LINES_HI : FieldRef := ⟨0x2205C, 31, 0⟩
def R.DSLnn_STAT.STATE (n : Nat) : FieldRef := ⟨0x30040 + n * 0x1000, 2, 0⟩
def R.DSLnn_STAT.FAIL_STEP (n : Nat) : FieldRef := ⟨0x30040 + n * 0x1000, 7, 4⟩
def R.DSLnn_STAT.TRIES (n : Nat) : FieldRef := ⟨0x30040 + n * 0x1000, 9, 8⟩
def R.DSLnn_STAT.RFM_REQ (n : Nat) : FieldRef := ⟨0x30040 + n * 0x1000, 10, 10⟩
def R.DSLnn_STAT.TEMP0 (n : Nat) : FieldRef := ⟨0x30040 + n * 0x1000, 13, 12⟩
def R.DSLnn_STAT.TEMP1 (n : Nat) : FieldRef := ⟨0x30040 + n * 0x1000, 15, 14⟩
def R.DSLnn_TRAIN_TIME.US (n : Nat) : FieldRef := ⟨0x30044 + n * 0x1000, 31, 0⟩
def R.APnn_EVT.LINK_UP (n : Nat) : FieldRef := ⟨0x8000C + n * 0x2000, 0, 0⟩
def R.APnn_EVT.LINK_DOWN (n : Nat) : FieldRef := ⟨0x8000C + n * 0x2000, 1, 1⟩
def R.APnn_EVT.LOST (n : Nat) : FieldRef := ⟨0x8000C + n * 0x2000, 2, 2⟩
def R.APnn_EVT.CRC_ERR (n : Nat) : FieldRef := ⟨0x8000C + n * 0x2000, 3, 3⟩
def R.APnn_EVT.RECOVER (n : Nat) : FieldRef := ⟨0x8000C + n * 0x2000, 4, 4⟩
def R.APnn_EVT.PEER_BAD (n : Nat) : FieldRef := ⟨0x8000C + n * 0x2000, 5, 5⟩
def R.APnn_EVT.PROTO_ERR (n : Nat) : FieldRef := ⟨0x8000C + n * 0x2000, 6, 6⟩
def R.APnn_CFG.MAXRATE (n : Nat) : FieldRef := ⟨0x80040 + n * 0x2000, 0, 0⟩
def R.APnn_CFG.MAXW (n : Nat) : FieldRef := ⟨0x80040 + n * 0x2000, 2, 1⟩
def R.APnn_CFG.LP_EN (n : Nat) : FieldRef := ⟨0x80040 + n * 0x2000, 3, 3⟩
def R.APnn_CFG.PROTO_STOP (n : Nat) : FieldRef := ⟨0x80040 + n * 0x2000, 4, 4⟩
def R.APnn_CFG.LP_IDLE (n : Nat) : FieldRef := ⟨0x80040 + n * 0x2000, 15, 8⟩
def R.APnn_CFG.RESUME_TO (n : Nat) : FieldRef := ⟨0x80040 + n * 0x2000, 23, 16⟩
def R.APnn_LSTAT.STATE (n : Nat) : FieldRef := ⟨0x80044 + n * 0x2000, 2, 0⟩
def R.APnn_LSTAT.WIDTH (n : Nat) : FieldRef := ⟨0x80044 + n * 0x2000, 4, 3⟩
def R.APnn_LSTAT.RATE (n : Nat) : FieldRef := ⟨0x80044 + n * 0x2000, 5, 5⟩
def R.APnn_LSTAT.KIND (n : Nat) : FieldRef := ⟨0x80044 + n * 0x2000, 7, 6⟩
def R.APnn_LSTAT.PEER (n : Nat) : FieldRef := ⟨0x80044 + n * 0x2000, 10, 8⟩
def R.APnn_LSTAT.PEER_ADDR (n : Nat) : FieldRef := ⟨0x80044 + n * 0x2000, 16, 11⟩
def R.APnn_LSTAT.PEER_PORT (n : Nat) : FieldRef := ⟨0x80044 + n * 0x2000, 21, 17⟩
def R.APnn_LSTAT.LOST (n : Nat) : FieldRef := ⟨0x80044 + n * 0x2000, 22, 22⟩
def R.APnn_TXCRED.REQ (n : Nat) : FieldRef := ⟨0x80048 + n * 0x2000, 7, 0⟩
def R.APnn_TXCRED.SNP (n : Nat) : FieldRef := ⟨0x80048 + n * 0x2000, 15, 8⟩
def R.APnn_TXCRED.RSP (n : Nat) : FieldRef := ⟨0x80048 + n * 0x2000, 23, 16⟩
def R.APnn_TXCRED.DAT (n : Nat) : FieldRef := ⟨0x80048 + n * 0x2000, 31, 24⟩
def R.APnn_WBCRED.OUT (n : Nat) : FieldRef := ⟨0x8004C + n * 0x2000, 4, 0⟩
def R.APnn_CRC_CNT.CRC (n : Nat) : FieldRef := ⟨0x81040 + n * 0x2000, 31, 0⟩
def R.APnn_REPLAY_CNT.REPLAY (n : Nat) : FieldRef := ⟨0x81044 + n * 0x2000, 31, 0⟩
def R.APnn_RECOVER_CNT.RECOVER (n : Nat) : FieldRef := ⟨0x81048 + n * 0x2000, 31, 0⟩
def R.APnn_PROTO_CNT.PROTO (n : Nat) : FieldRef := ⟨0x8104C + n * 0x2000, 31, 0⟩
def R.MPn_EVT.LINK_DOWN (n : Nat) : FieldRef := ⟨0xC000C + n * 0x2000, 0, 0⟩
def R.MPn_EVT.FAILED (n : Nat) : FieldRef := ⟨0xC000C + n * 0x2000, 1, 1⟩
def R.MPn_EVT.WR_LOST (n : Nat) : FieldRef := ⟨0xC000C + n * 0x2000, 2, 2⟩
def R.MPn_EVT.VIRAL (n : Nat) : FieldRef := ⟨0xC000C + n * 0x2000, 3, 3⟩
def R.MPn_EVT.CAP_MISMATCH (n : Nat) : FieldRef := ⟨0xC000C + n * 0x2000, 4, 4⟩
def R.MPn_EVT.HDM_ERR (n : Nat) : FieldRef := ⟨0xC000C + n * 0x2000, 5, 5⟩
def R.MPn_EVT.HP_DONE (n : Nat) : FieldRef := ⟨0xC000C + n * 0x2000, 6, 6⟩
def R.MPn_EVT.HP_REFUSED (n : Nat) : FieldRef := ⟨0xC000C + n * 0x2000, 7, 7⟩
def R.MPn_CFG.MAXRATE (n : Nat) : FieldRef := ⟨0xC0040 + n * 0x2000, 0, 0⟩
def R.MPn_CFG.MAXW (n : Nat) : FieldRef := ⟨0xC0040 + n * 0x2000, 1, 1⟩
def R.MPn_CFG.DOWN_TO (n : Nat) : FieldRef := ⟨0xC0040 + n * 0x2000, 15, 8⟩
def R.MPn_LSTAT.STATE (n : Nat) : FieldRef := ⟨0xC0044 + n * 0x2000, 2, 0⟩
def R.MPn_LSTAT.WIDTH (n : Nat) : FieldRef := ⟨0xC0044 + n * 0x2000, 3, 3⟩
def R.MPn_LSTAT.RATE (n : Nat) : FieldRef := ⟨0xC0044 + n * 0x2000, 4, 4⟩
def R.MPn_CAP.GIB (n : Nat) : FieldRef := ⟨0xC0048 + n * 0x2000, 15, 0⟩
def R.MPn_HP.REMOVE (n : Nat) : FieldRef := ⟨0xC004C + n * 0x2000, 0, 0⟩
def R.MPn_HP.ADD (n : Nat) : FieldRef := ⟨0xC004C + n * 0x2000, 1, 1⟩
def R.MPn_IO_ADDR.ADDR (n : Nat) : FieldRef := ⟨0xC0050 + n * 0x2000, 27, 0⟩
def R.MPn_IO_ADDR.SPACE (n : Nat) : FieldRef := ⟨0xC0050 + n * 0x2000, 28, 28⟩
def R.MPn_IO_DATA.DATA (n : Nat) : FieldRef := ⟨0xC0054 + n * 0x2000, 31, 0⟩
def R.MPn_IO_STAT.ERR (n : Nat) : FieldRef := ⟨0xC0058 + n * 0x2000, 0, 0⟩
def R.MPn_POISON_CNT.PSN (n : Nat) : FieldRef := ⟨0xC005C + n * 0x2000, 31, 0⟩
def R.MPn_DEVLOAD_CNT.LOAD (n : Nat) : FieldRef := ⟨0xC0060 + n * 0x2000, 31, 0⟩

end Sys2Proof.Machine
end

