-- ==== Sys2Proof/Machine/State.lean ====
section
/-! DEFINITION. The state of the device: plain data, one structure per block of Table ARC-1, and the queue of waiting
commands. A value software reads in a status register and the structures below hold is held here once; the register
shows it (`regValue`). Everything else a register holds is in the sparse bank `regs`. -/

namespace Sys2Proof.Machine

/-- Reasons a command can fault: none. Every command of the table has an effect the manual gives. -/
inductive Fault where
  deriving DecidableEq, Repr

/-- Reasons a command is refused. -/
inductive Refusal where
  /-- An arm of exec that has no meaning yet; raised by such an arm alone; safe. -/
  | notModelled (mnemonic : String)
  deriving DecidableEq, Repr

/-- Identity, mode and pins of the whole device (R452, R457, R460). -/
structure Gcr where
  rstN : Bool := true
  pwrOk : Bool := true
  /-- GCR_MODE (R456) -/
  mode : Mode := .boot
  prev : Nat := 0
  role : Role := .standalone
  side : Bool := false
  headStrap : Bool := true
  grade : Bool := false
  fault : Bool := false
  drained : Bool := false
  /-- DRAIN was written on the mirror side and waits for a takeover (R475) -/
  drainAsked : Bool := false
  autostart : Bool := false
  /-- the instruction in the boundary-scan register (R563) -/
  tap : Tap := .idcode
  deriving DecidableEq, Repr

/-- Shadow and staging register of one register source (R505, R506): pair offset and high half. -/
structure Acc1 where
  shadow : Option (Nat × Word) := none
  staged : Option (Nat × Word) := none
  deriving DecidableEq, Repr

/-- Clock sources, switches and gates (R397 to R409). -/
structure Clk where
  ready : BitVec 19 := 1
  fail : BitVec 19 := 0
  refXtal : Bool := false
  coreSrc : Nat := 0
  xtalFail : Bool := false
  /-- PLLs started that have not locked yet (R398) -/
  starting : List Nat := []
  /-- switches in progress: selector and target -/
  switching : List (Selector × Nat) := []
  gate : BitVec 11 := 0
  closed : BitVec 11 := 0
  measuring : Bool := false
  /-- the codes that CLK_OUT and the measurement are switched to (R407, R418) -/
  outNow : Nat := 31
  measNow : Nat := 0
  deriving DecidableEq, Repr

/-- The bell (R410 to R417). -/
structure Bel where
  now : BitVec 64 := 0
  /-- PLL_BELL has locked since reset: the counter counts (R410) -/
  run : Bool := false
  /-- BEL cycles since PLL_BELL first locked: elapsed time that no load changes -/
  ticks : Nat := 0
  locked : Bool := false
  aligned : Bool := false
  armed : Bool := false
  /-- ALIGNED before the ARM (R412) -/
  was : Bool := false
  markArmed : Bool := false
  deriving DecidableEq, Repr

/-- Doze (R444 to R448): the stage last finished, whether a wake event fired, whether the device wakes. -/
structure Doze where
  stage : Nat := 0
  woken : Bool := false
  asleep : Bool := false
  waking : Bool := false
  /-- stage 10 has begun its step of CORE (R444) -/
  slowing : Bool := false
  /-- the step of the wake: 1 CORE steps, 2 PLL_MEM locks, 3 the domains are on (R448) -/
  wakeStep : Nat := 0
  prevMode : Mode := .cache
  prevPt : Nat := 0
  prevV : Nat := 0
  prevOn : BitVec 21 := 0
  retarget : Bool := false
  deriving DecidableEq, Repr

/-- A running DVFS step (R433): its goal, and what it waits for. -/
structure Dvfs where
  goalF : Nat
  goalV : Nat
  /-- 0 the up-step token, 1 the PLL and the raised voltage, 2 the CORE switch, 3 the lowered voltage -/
  ph : Nat
  pllWait : Bool
  voltWait : Bool
  deriving DecidableEq, Repr

/-- Power domains, core rail, rails and wakes (R420 to R451). -/
structure Pwr where
  on : BitVec 21 := BitVec.allOnes 21
  held : BitVec 21 := 0
  fpt : Nat := 2
  vpt : Nat := 0
  step : Option Dvfs := none
  /-- a later TARGET waits for the running step to end (R435) -/
  nextTarget : Option Nat := none
  pmbOk : Bool := false
  /-- VOUT_MODE has been read since reset (R427) -/
  pmbRead : Bool := false
  /-- the exponent VOUT_MODE gave (R427) -/
  voutExp : BitVec 5 := 0
  doze : Option Doze := none
  /-- wake steps that have timed out: step code, domain or PLL, attempts (R450) -/
  tries : List (Nat × Nat × Nat) := []
  railEn : BitVec 4 := 0
  railGood : BitVec 4 := 0
  /-- way groups whose wake is in progress -/
  waking : BitVec 4 := 0
  /-- domains whose clamped pads are clamped, and to what (Table PWR-2) -/
  clamps : List (Nat × Clamp) := []
  /-- the level and output enable that each latched pad of a domain holds, by domain (R425) -/
  latched : List (Nat × BitVec 128) := []
  deriving DecidableEq, Repr

/-- The purser (R438 to R443): tokens by kind and owner. -/
structure Pur where
  est : Nat := 0
  /-- PUR_CAP.CAP as the last 1 µs interval took it (R438) -/
  capNow : Nat := 980
  /-- the measured power the core-rail model was last rescaled to, in 0.25 W (R438) -/
  scale : Nat := 0
  tokens : List (Nat × Nat) := []
  waiting : List (Nat × Nat) := []
  level : Nat := 0
  /-- position in the sixteen-cycle throttle pattern -/
  cyc : Nat := 0
  deriving DecidableEq, Repr

/-- Why a chain request of the device is in flight. -/
inductive ChnUse where
  | reg | evt (word : Nat) | mbx | roll
  deriving DecidableEq, Repr

/-- A chain request in flight (R482). -/
structure ChnReq where
  msg : ChainMsg
  tries : Nat
  use : ChnUse
  deriving DecidableEq, Repr

/-- The Noist chain unit (R478 to R487). -/
structure Chn where
  addr : Nat := 0
  head : Bool := true
  inUp : Bool := false
  count : Nat := 0
  seq : Nat := 0
  flight : List ChnReq := []
  /-- last request acted on per source: SEQ and the response kept -/
  kept : List (Nat × Nat × Frame) := []
  deriving DecidableEq, Repr

/-- Configuration integrity (R513 to R518): reference CRC of each page. -/
structure Cfg where
  pageRef : List (Nat × Word) := []
  refValid : Bool := false
  committing : Bool := false
  matching : Bool := false
  deriving DecidableEq, Repr

/-- One MSI-X table entry. -/
structure MsixEnt where
  addrLo : Word := 0
  addrHi : Word := 0
  data : Word := 0
  masked : Bool := true
  deriving DecidableEq, Repr

/-- The host port (R396, R526). -/
structure Hst where
  up : Bool := false
  width : Nat := 0
  rate : Nat := 0
  /-- MSI-X entries that differ from their reset value, by vector -/
  table : List (Nat × MsixEnt) := []
  pba : BitVec 64 := 0
  fmask : Bool := false
  busMaster : Bool := false
  deriving DecidableEq, Repr

/-- The event controller (R525 to R528). -/
structure Evc where
  armed : BitVec 64 := BitVec.allOnes 64
  /-- pending bits of chain-routed words that a frame has carried or given up, by word (R528) -/
  seen : List (Nat × Word) := []
  /-- words whose frame of Table EVT-2 is still to be sent (R529) -/
  owed : List Nat := []
  /-- MSI-X messages and EVT frames sent, saturating at 2^32 - 1 -/
  msgs : Nat := 0
  frames : Nat := 0
  deriving DecidableEq, Repr

/-- One software queue (R532 to R535): records as words, and the two sources' latches. -/
structure Queue where
  recs : List (List Word) := []
  latchH : List Word := []
  latchC : List Word := []
  lastH : Word := 0
  lastC : Word := 0
  deriving DecidableEq, Repr

/-- The five queues, the EVQ record number, half-written MBO records. -/
structure Que where
  q : List Queue := [{}, {}, {}, {}, {}]
  seq : Nat := 0
  halfH : Option Word := none
  halfC : Option Word := none
  deriving DecidableEq, Repr

/-- One lookup slot used in this core cycle (R544, R549). -/
structure SlotUse where
  code : Nat
  port : Nat
  opc : Nat
  txid : Nat
  line : Nat
  deriving DecidableEq, Repr

/-- The performance monitor (R543 to R549); the counters are registers. -/
structure Pmu where
  /-- occurrences of event codes since the last core cycle -/
  ev : List (Nat × Nat) := []
  /-- codes whose value was not 0 in the cycle before -/
  prev : List Nat := []
  slots : List SlotUse := []
  /-- the last core cycle's slots -/
  last : List SlotUse := []
  /-- counters that wrapped or saturated and whose report is due: fixed, number -/
  wraps : List (Bool × Nat) := []
  /-- a sample asked for by a counter (R549) -/
  want : List Nat := []
  deriving DecidableEq, Repr

/-- The header cache (R49 to R52). -/
structure Hdc where
  /-- in use order, the most recent first -/
  ents : List HdcEnt := []
  /-- header fetches in flight -/
  fetch : List Nat := []
  flushing : Bool := false
  deriving DecidableEq, Repr

/-- A power-down sweep or loss sweep (R72, R320). -/
structure Sweep where
  g : Nat
  next : Nat
  loss : Bool
  deriving DecidableEq, Repr

/-- Range maintenance (R78 to R84, R569). -/
structure Mnt where
  busy : Bool := false
  op : Nat := 0
  whole : Bool := false
  aborting : Bool := false
  aborted : Bool := false
  next : Nat := 0
  last : Nat := 0
  /-- lines still to be acted on when WHOLE is 1 -/
  todo : List Nat := []
  /-- where a WHOLE pass is: 0 the cache, 1 DIR, 2 the SDR region, 3 past all; and its next set, DIR set or SDR line -/
  stage : Nat := 0
  cur : Nat := 0
  /-- the SDR line the pass waits for (R79) -/
  asked : Option Nat := none
  /-- lines a WHOLE pass has acted on -/
  seen : List Nat := []
  fails : Nat := 0
  lines : Nat := 0
  deriving DecidableEq, Repr

/-- The pipeline's own engines and lists (R45 to R84, R474). -/
structure Pip where
  quar : List Nat := []
  /-- sets whose header HDC has lost in Recovery (R358, R454) -/
  unread : List Nat := []
  sweep : Option Sweep := none
  lastGroup : Nat := 0
  /-- way groups whose loss sweep waits (R322) -/
  lossWait : List Nat := []
  /-- way groups taken out of service by a lost lane (R320) -/
  lost : BitVec 4 := 0
  drainOn : Bool := false
  drainNext : Nat := 0
  mnt : Mnt := {}
  /-- ways chosen and not yet filled: set, way, transaction -/
  alloc : List (Nat × Nat × Nat) := []
  /-- allocations waiting for shared-pool entries, in the order they began to wait (R67) -/
  copyWait : List Nat := []
  /-- requests are stopped for Doze stage 2 -/
  stopped : Bool := false
  probe : Bool := false
  deriving DecidableEq, Repr

/-- The write buffer, oldest bound first (R65 to R71). -/
structure Wbf where
  ents : List WbEnt := []
  /-- number of the next entry -/
  next : Nat := 0
  deriving DecidableEq, Repr

/-- The agent directory: entries in use order, the most recent first (R97, R103). -/
structure Dir where
  ents : List DirEnt := []
  deriving DecidableEq, Repr

/-- The sector directory (R180 to R186): entries not SI, SDR lines in the SDR cache in use order, unknown sectors. -/
structure Sdr where
  ents : List SdrEnt := []
  cache : List Nat := []
  /-- cached SDR lines changed since they were read or written -/
  changed : List Nat := []
  unknown : List Nat := []
  clearing : Bool := false
  initDone : Bool := false
  /-- SDR lines before this one are cleared or skipped (R184) -/
  prog : Nat := 0
  /-- clear writes in flight, by SDR line -/
  flight : List Nat := []
  /-- write-backs of workers that wait for their SDR line, oldest first, each with its write-buffer entry -/
  wrBacks : List (Head × Nat) := []
  deriving DecidableEq, Repr

/-- The conflict unit (R132 to R154). -/
structure Cnf where
  txns : List Txn := []
  tickets : List Ticket := []
  nextTkt : Nat := 0
  holds : List Hold := []
  ptr : Nat := 0
  ord : Nat := 0
  /-- requests in receive buffers, oldest first (R137, R149, R444) -/
  waiting : List Req := []
  /-- ports whose request the pipeline has taken in this core cycle, in that order (R13, R137) -/
  took : List Nat := []
  /-- lookup slots of this core cycle that engines and the probe have taken (R131, R254) -/
  used : Nat := 0
  /-- ports whose oldest request waits for a free reservation (R149) -/
  stuck : List Nat := []
  /-- requests that an aborted Doze entry held and that are still to be taken, in order of arrival (R445) -/
  inOrder : Nat := 0
  /-- write-back credits returned with an Ack or Err that has not left yet: port, PORT field, tag (R155) -/
  owedWb : List (Nat × Nat × Nat) := []
  /-- write-backs that wait in receive buffers while the data store sleeps in Doze, oldest first (R444, R452) -/
  heldWb : List (Head × Payload) := []
  /-- engine issues waiting for a general-pool entry, in the order they began to wait (R135) -/
  pool : List Txn := []
  deriving DecidableEq, Repr

/-- The departure engine (R232 to R273). -/
structure DepS where
  table : List Dep := []
  done : List DepDone := []
  draining : Bool := false
  /-- announcements of departures refused or cancelled meanwhile whose answer is still awaited: index, slot, and the ADM
  of the DepCancel that an acceptance will get (R240, R272) -/
  stale : List (Nat × Nat × Bool) := []
  /-- Departs that wait in receive buffers while requests are stopped for Doze (R444) -/
  held : List Depart := []
  deriving DecidableEq, Repr

/-- An idle stream. -/
def Stream.idle : Stream := ⟨false, false, false, false, 0, 0, 0, ⟨0, false⟩, [], [], none, false⟩

/-- The append engine (R274 to R293): streams that differ from idle, by number. -/
structure Apd where
  streams : List (Nat × Stream) := []
  deriving DecidableEq, Repr

/-- The hierarchy unit (R168 to R199). -/
structure Hie where
  upl : Nat := 0
  serv : BitVec 16 := 0
  /-- last EPOCH accepted from the manager -/
  epoch : Nat := 0
  /-- Departs forwarded to the manager and not answered: port, tag, message -/
  fwd : List (Nat × Nat × Msg) := []
  /-- Departs whose REQ credit returns once the active uplink takes them (Table LNK-4): port, tag -/
  depCredits : List (Nat × Nat) := []
  /-- the latest use of each PORT and tag on the uplinks, by 4,096 times PORT plus tag: TPH of the agent's request it was
  made for, and TPH of the uplink request (R223) -/
  phases : List (Nat × Bool × Bool) := []
  deriving DecidableEq, Repr

/-- A 4 KiB chunk of backing memory being copied to a joining side (R229): its number, the lines still to be read, and
those read. -/
structure Chunk where
  no : Nat
  left : List Nat
  got : List (Nat × Payload)
  deriving DecidableEq, Repr

/-- The twin unit (R204 to R231). -/
structure Twn where
  st : PairSt := .single
  mirror : Bool := false
  /-- chain address of the partner (TWN_STATE.PEER_ADDR) -/
  peer : Nat := 0
  epoch : Nat := 0
  mseq : Nat := 0
  unacked : List Nat := []
  /-- items of the flit being filled -/
  items : List Item := []
  /-- flits waiting for a TW credit (R214) -/
  wait : List (Nat × List Item) := []
  /-- messages held under R211, oldest first: the MSEQ awaited, port, message -/
  held : List (Nat × Nat × Msg) := []
  queue : List (Nat × List Item) := []
  log : List LogEnt := []
  window : Bool := false
  /-- worker slots whose side has taken over and may re-send (R227) -/
  slotWin : List Nat := []
  /-- transactions a takeover found open whose requester has not sent them again (R224, R225) -/
  unsent : List Nat := []
  phase : Nat := 0
  /-- pairing has failed on this side and the read of R209 is awaited -/
  alone : Bool := false
  /-- the partner was found serving: a candidate mirror side (R209) -/
  candidate : Bool := false
  /-- the partner has been found serving since PAIRING began (R209) -/
  found : Bool := false
  /-- loss was declared during a join copy (R231) -/
  fromCopy : Bool := false
  /-- snoop answers with dirty data whose mirror copy is not yet reported, or whose mirror item is not yet acknowledged:
  transaction, port, the MSEQ of the item, state, data (R216) -/
  dirtyWait : List (Nat × Nat × Option Nat × LState × Payload) := []
  /-- reports that came before their answer -/
  reported : List (Nat × Nat) := []
  /-- lines and transactions changed live during a join copy (R229) -/
  liveLines : List Nat := []
  liveTxns : List Nat := []
  /-- the mirror side's dirty lines, with the bytes it has of each: on a serving side, those its partner has (R320) -/
  lines : List (Nat × Mask × Payload) := []
  /-- clean markers applied, waiting for the side's own memory (R213) -/
  cleaned : List Nat := []
  /-- the HSEQ that the mirror side holds of each set, from the last change it applied (R212) -/
  hseqs : List (Nat × BitVec 32) := []
  /-- the role and the pair state of the partner's last heartbeat since TW came up (R204, R218) -/
  heard : Option (Bool × Nat) := none
  /-- the partner's digest has matched this side's, or not, since TW came up (R207) -/
  matched : Option Bool := none
  /-- how far the present phase of a join copy has come: DIR set, SDR line, set, or chunk (R229) -/
  cur : Nat := 0
  /-- flits of the join copy that are not acknowledged -/
  copyUn : List Nat := []
  /-- the chunk of backing memory being copied -/
  chunk : Option Chunk := none
  /-- what the present step of the join copy has still to send, in order -/
  jobs : List CopyJob := []
  /-- TW credits of the flits sent since the last flit of that chunk -/
  after : Nat := 0
  /-- DATA flits that TW has accepted and whose items are still to be placed in the apply queue: their MSEQs, in order (R388) -/
  arriving : List Nat := []
  /-- the MSEQ of the last flit placed in the apply queue before TW had accepted it -/
  placed : Option Nat := none
  deriving DecidableEq, Repr

/-- A data-store lane (Table DST-8). -/
structure Lane where
  /-- 0 unpopulated, 1 off, 2 training, 3 ready, 4 self-refresh, 5 lost -/
  st : Nat := 0
  /-- start-up step reached, 1 to 12 (R301) -/
  step : Nat := 0
  failStep : Nat := 0
  tries : Nat := 0
  /-- the lane is lost until a start-up of it ends (R319, R325) -/
  lost : Bool := false
  /-- the devices require refresh management, from how many activates of a bank, and the activates counted: 32 rank + bank,
  count (R308) -/
  rfm : Bool := false
  rfmAt : Nat := 0
  acts : List (Nat × Nat) := []
  /-- refresh and temperature polling run, from step 5 on (R301) -/
  live : Bool := false
  /-- every output is held low, its rails being off (R313) -/
  low : Bool := false
  temp0 : Nat := 0
  temp1 : Nat := 0
  post0 : Nat := 0
  post1 : Nat := 0
  /-- the interval to the next refresh of rank 0, rank 1, in tCK; 0 while the lane is not refreshed (R306) -/
  due0 : Nat := 0
  due1 : Nat := 0
  /-- TEMP_HIGH has been raised for rank 0, rank 1 (R309) -/
  hot0 : Bool := false
  hot1 : Bool := false
  deriving DecidableEq, Repr

/-- A location of the location table (R335, R336). -/
structure Loc where
  lane : Nat
  rank : Nat
  dev : Nat
  slot : Nat
  count : Nat
  hard : Bool
  deriving DecidableEq, Repr

/-- The checker's tables (R335 to R357). -/
structure Ecc where
  /-- oldest first -/
  loc : List Loc := []
  /-- hard counts: lane, rank, device, count -/
  hard : List (Nat × Nat × Nat × Nat) := []
  /-- uncorrectable totals of the window: lane, rank, count -/
  ue : List (Nat × Nat × Nat) := []
  /-- channels halted in this core cycle: port, channel (R350) -/
  haltNow : List (Nat × Nat) := []
  armed : Bool := false
  deriving DecidableEq, Repr

/-- The scrubber (R351 to R354). -/
structure Scb where
  pos : Nat := 0
  /-- lines of the present set still to be read -/
  todo : List Nat := []
  inSet : Bool := false
  /-- reads in flight: lane, line -/
  flight : List (Nat × Nat) := []
  left : Nat := 0
  token : Bool := false
  gap : Bool := false
  draining : Bool := false
  lines : Nat := 0
  /-- the first lap has begun, and when the present one did (R354) -/
  begun : Bool := false
  start : BitVec 64 := 0
  deriving DecidableEq, Repr

/-- The data-store controller (R298 to R325). -/
structure Dsc where
  lanes : List Lane := List.replicate 18 {}
  filling : Bool := false
  fillDone : Bool := false
  fillProg : Nat := 0
  deriving DecidableEq, Repr

/-- A Molile Link port (Table LNK-1, R361 to R387); TW is one too. -/
structure Port where
  /-- 0 DOWN, 1 TRAIN, 2 INIT, 3 ACTIVE, 4 LP, 5 RECOVER -/
  st : Nat := 0
  /-- trained width and rate, coded as LSTAT shows them -/
  width : Nat := 0
  rate : Nat := 0
  peerKind : Nat := 0
  peerAddr : Nat := 0
  peerPort : Nat := 0
  lost : Bool := false
  draining : Bool := false
  /-- next sequence number to send, to expect, and the replay buffer's oldest unacknowledged -/
  txSeq : Nat := 0
  rxSeq : Nat := 0
  ackd : Nat := 0
  /-- a NAK has been sent and the expected SEQ not yet accepted -/
  naked : Bool := false
  /-- ACK of the last NAK received and consecutive replays without progress -/
  lastNak : Option Nat := none
  replays : Nat := 0
  /-- consecutive failures in RECOVER -/
  fails : Nat := 0
  /-- the link may resume (R373) -/
  keep : Bool := false
  /-- send credits -/
  cReq : Nat := 0
  cSnp : Nat := 0
  cRsp : Nat := 0
  cDat : Nat := 0
  cWb : Nat := 0
  /-- last CR totals received, and totals of credits to be returned to the peer -/
  inReq : Nat := 0
  inSnp : Nat := 0
  inRsp : Nat := 0
  inDat : Nat := 0
  inWb : Nat := 0
  outReq : Nat := 0
  outSnp : Nat := 0
  outRsp : Nat := 0
  outDat : Nat := 0
  outWb : Nat := 0
  /-- the totals of returned credits that the flits sent so far have told (R377) -/
  told : Totals := {}
  /-- receive credits the peer holds -/
  pReq : Nat := 0
  pSnp : Nat := 0
  pRsp : Nat := 0
  pDat : Nat := 0
  pWb : Nat := 0
  /-- messages waiting for a credit or for the link -/
  txq : List Msg := []
  /-- an LP proposal of ours is unanswered -/
  proposed : Bool := false
  /-- the peer's INIT does not fit: it is asked for again (R368, R378) -/
  peerBad : Bool := false
  /-- the peer's crossing proposal was refused (R366) -/
  crossRefused : Bool := false
  /-- credits of the peer's last INIT: REQ, SNP, RSP, DAT, WB (R377) -/
  adv : List Nat := []
  /-- flits accepted that no ACK of ours may cover yet: their content is still to be placed (R388) -/
  unplaced : Nat := 0
  /-- slots of the message that the last flit accepted left to the next one (R367) -/
  more : Nat := 0
  /-- the replay buffer: DATA flits that no ACK covers, oldest first (R370) -/
  buf : List Sent := []
  /-- flits held back by a quiet window, in order (R258) -/
  late : List Late := []
  /-- what the first flit of a departure left of its line 1 (R383) -/
  cut : List DepSlot := []
  deriving DecidableEq, Repr

/-- A memory port (R390 to R395). -/
structure Mp where
  /-- 0 DOWN, 1 TRAIN, 2 ENUM, 3 READY, 4 FAILED, 5 REMOVED -/
  st : Nat := 0
  width : Nat := 0
  slow : Bool := false
  cap : Nat := 0
  /-- line reads in flight -/
  reads : List Nat := []
  /-- accesses waiting for the link (R393): line, is a write -/
  waiting : List (Nat × Bool) := []
  ioErr : Bool := false
  ioData : Word := 0
  /-- a READY port has lost its link, and DOWN_TO runs (R393) -/
  down : Bool := false
  /-- HDM decoder 0 of the memory device: base 0, interleave ways 1, this size in GiB; committed (R392, Table LNK-10) -/
  hdmGib : Nat := 0
  hdmOn : Bool := false
  deriving DecidableEq, Repr

/-- The device. -/
structure Dev where
  gcr : Gcr := {}
  /-- registers that have been set, by offset, strictly rising; an unlisted one has its reset value -/
  regs : List (Nat × Word) := []
  accH : Acc1 := {}
  accC : Acc1 := {}
  accI : Acc1 := {}
  clk : Clk := {}
  bel : Bel := {}
  pwr : Pwr := {}
  pur : Pur := {}
  chn : Chn := {}
  cfg : Cfg := {}
  hst : Hst := {}
  evc : Evc := {}
  que : Que := {}
  pmu : Pmu := {}
  hdc : Hdc := {}
  pip : Pip := {}
  wbf : Wbf := {}
  dir : Dir := {}
  sdr : Sdr := {}
  cnf : Cnf := {}
  dep : DepS := {}
  apd : Apd := {}
  hie : Hie := {}
  twn : Twn := {}
  dsc : Dsc := {}
  ecc : Ecc := {}
  scb : Scb := {}
  /-- contents of the lanes: key lane × 2^32 + line slot, strictly rising, no zero burst listed -/
  store : List (Nat × Burst) := []
  ports : List Port := List.replicate 32 {}
  tw : Port := {}
  mps : List Mp := List.replicate 8 {}
  /-- what the device has driven, newest first -/
  sent : List Out := []
  /-- index of the next free value -/
  free : Nat := 0
  deriving DecidableEq, Repr

/-- The state: the queue of waiting commands, first in first out, and the device. -/
structure State where
  pending : List Instr := []
  dev : Dev := {}
  deriving DecidableEq, Repr

/-- The machine right after reset: Boot, every register at its reset value, every array zero (R359, R457, R519). -/
def State.reset : State := {}

/-- The state with its queue replaced. -/
def State.setPending (s : State) (q : List Instr) : State := { s with pending := q }

/-- The state with its device replaced. -/
def State.setDev (s : State) (d : Dev) : State := { s with dev := d }

end Sys2Proof.Machine
end

