-- ==== Sys2Proof/Machine/Ops.lean ====
section
/-! DEFINITION. Named operations every block uses: the sparse banks, register fields, event latches, error records,
queues, counters, ports, outputs and the mode. -/

namespace Sys2Proof.Machine

/-! ## Sparse banks -/

/-- What a bank lists at a key. -/
def bankGet {α : Type} : List (Nat × α) → Nat → Option α
  | [], _ => none
  | (k, v) :: l, n => if k = n then some v else bankGet l n

/-- A bank without a key. -/
def bankErase {α : Type} (l : List (Nat × α)) (n : Nat) : List (Nat × α) := l.filter (fun e => e.1 != n)

/-- Puts an entry before the first larger key. -/
def bankInsert {α : Type} : List (Nat × α) → Nat → α → List (Nat × α)
  | [], n, v => [(n, v)]
  | (k, w) :: l, n, v => if n < k then (n, v) :: (k, w) :: l else (k, w) :: bankInsert l n v

/-- A bank with a key set. -/
def bankSet {α : Type} (l : List (Nat × α)) (n : Nat) (v : α) : List (Nat × α) := bankInsert (bankErase l n) n v

/-- Replaces the elements that satisfy a test. -/
def mapIf {α : Type} (p : α → Bool) (f : α → α) (l : List α) : List α := l.map (fun x => if p x then f x else x)

/-! ## Registers (R490, R495, R519) -/

/-- Reset costs of the token kinds (Table PWR-5). -/
def tokenCosts : List Nat := [4, 40, 6, 24, 8, 4]

/-- The reset value of a register: its Reset column, with the values that depend on role and instance filled in
(Tables PWR-10, DEP-12). -/
def resetAt (role : Role) (ofs : Nat) : Word :=
  if 0x4050 ≤ ofs ∧ ofs < 0x4068 then BitVec.ofNat 32 ((tokenCosts[(ofs - 0x4050) / 4]?).getD 0)
  else if ofs = 0x17040 then BitVec.ofNat 32 (if role = .standalone then 1000 else 4000)
  else match rowAt ofs with
    | some r => r.resetWord
    | none => 0

/-- The word a register holds in the bank. -/
def Dev.raw (d : Dev) (ofs : Nat) : Word :=
  match bankGet d.regs ofs with
  | some w => w
  | none => resetAt d.gcr.role ofs

/-- Sets a register's word. -/
def Dev.setRaw (d : Dev) (ofs : Nat) (w : Word) : Dev := { d with regs := bankSet d.regs ofs w }

/-- A word with the bits [hi:lo] replaced. -/
def putBits (w : Word) (hi lo v : Nat) : Word :=
  BitVec.ofNat 32 (w.toNat - bits w.toNat hi lo * 2 ^ lo + v % 2 ^ (hi + 1 - lo) * 2 ^ lo)

/-- The value of a field. -/
def Dev.get (d : Dev) (f : FieldRef) : Nat := bits (d.raw f.ofs).toNat f.hi f.lo

/-- A one-bit field as a truth value. -/
def Dev.flag (d : Dev) (f : FieldRef) : Bool := d.get f == 1

/-- Sets a field. -/
def Dev.set (d : Dev) (f : FieldRef) (v : Nat) : Dev := d.setRaw f.ofs (putBits (d.raw f.ofs) f.hi f.lo v)

/-- Adds to a saturating counter field. -/
def Dev.bumpSat (d : Dev) (f : FieldRef) (n : Nat) : Dev :=
  d.set f (min (d.get f + n) (2 ^ (f.hi + 1 - f.lo) - 1))

/-- Adds to a wrapping counter field. -/
def Dev.bumpWrap (d : Dev) (f : FieldRef) (n : Nat) : Dev := d.set f (d.get f + n)

/-- The value of a register pair, `_LO` at the offset (R505). -/
def Dev.get64 (d : Dev) (lo : Nat) : Nat := (d.raw lo).toNat + (d.raw (lo + 4)).toNat * 2 ^ 32

/-- Sets a register pair. -/
def Dev.set64 (d : Dev) (lo v : Nat) : Dev :=
  (d.setRaw lo (BitVec.ofNat 32 v)).setRaw (lo + 4) (BitVec.ofNat 32 (v / 2 ^ 32))

/-- Adds to a 64-bit counter, wrapping. -/
def Dev.bump64 (d : Dev) (lo n : Nat) : Dev := d.set64 lo (d.get64 lo + n)

/-! ## Outputs and free values -/

/-- Records what the device drives. -/
def Dev.emit (d : Dev) (o : Out) : Dev := { d with sent := o :: d.sent }

/-- Takes the next index of a free value. -/
def Dev.takeFree (d : Dev) : Nat × Dev := (d.free, { d with free := d.free + 1 })

/-! ## Ports, lanes, memory ports. Port 32 is TW. -/

/-- The index that names TW in the link commands. -/
def twPort : Nat := 32

/-- A Molile Link port. -/
def Dev.port (d : Dev) (n : Nat) : Port := if n = twPort then d.tw else (d.ports[n]?).getD {}

/-- Replaces a Molile Link port. -/
def Dev.setPort (d : Dev) (n : Nat) (p : Port) : Dev :=
  if n = twPort then { d with tw := p } else { d with ports := d.ports.set n p }

/-- A lane. -/
def Dev.lane (d : Dev) (n : Nat) : Lane := (d.dsc.lanes[n]?).getD {}

/-- Replaces a lane. -/
def Dev.setLane (d : Dev) (n : Nat) (l : Lane) : Dev := { d with dsc := { d.dsc with lanes := d.dsc.lanes.set n l } }

/-- A memory port. -/
def Dev.mp (d : Dev) (n : Nat) : Mp := (d.mps[n]?).getD {}

/-- Replaces a memory port. -/
def Dev.setMp (d : Dev) (n : Nat) (m : Mp) : Dev := { d with mps := d.mps.set n m }

/-! ## Performance events -/

/-- Adds v to the value of an event code in the present core cycle (R545). -/
def Dev.pmu1 (d : Dev) (code : Nat) (v : Nat := 1) : Dev :=
  { d with pmu := { d.pmu with ev := bankSet d.pmu.ev code ((bankGet d.pmu.ev code).getD 0 + v) } }

/-- Records the class of a lookup slot (R544). -/
def Dev.slot (d : Dev) (u : SlotUse) : Dev := { d with pmu := { d.pmu with slots := d.pmu.slots ++ [u] } }

/-! ## Events and error records -/

/-- The event word of a page (Table EVT-1), for pages that fill a word alone. -/
def PageKind.word : PageKind → Option Nat
  | .gcr => some 0 | .cfg => some 1 | .clk => some 2 | .pwr => some 3 | .pur => some 4 | .bel => some 5
  | .chn => some 6 | .hst => some 7 | .evc0 => some 8 | .que => some 9 | .pmu0 => some 10 | .tst => some 11
  | .pip => some 12 | .hdc => some 13 | .wbf => some 14 | .dir => some 15 | .sdr => some 16 | .cnf => some 17
  | .dep0 => some 18 | .apd0 => some 19 | .hie => some 20 | .twn => some 21 | .dsc => some 22 | .ecc => some 23
  | .scb => some 24
  | _ => none

/-- The source number of an event of a page header (R521). -/
def srcOf (f : FieldRef) : Nat :=
  match pageAt f.ofs with
  | some (.ap0, n) => 32 * (25 + f.lo) + n
  | some (.mp, n) => 1024 + 8 * f.lo + n
  | some (p, _) => 32 * p.word.getD 0 + f.lo
  | none => 0

/-- Sets an event's bit in its latch, enabled or not (R494). -/
def Dev.raise (d : Dev) (f : FieldRef) : Dev := d.set f 1

/-- Raises an event when a condition holds. -/
def Dev.raiseIf (d : Dev) (c : Bool) (f : FieldRef) : Dev := if c then d.raise f else d

/-- Depths of the queues (Table EVT-5). -/
def queueDepth (n : Nat) : Nat := ([512, 1024, 4096, 256, 256][n]?).getD 0

/-- A queue. -/
def Dev.queue (d : Dev) (n : Nat) : Queue := (d.que.q[n]?).getD {}

/-- Replaces a queue. -/
def Dev.setQueue (d : Dev) (n : Nat) (q : Queue) : Dev := { d with que := { d.que with q := d.que.q.set n q } }

/-- The WM, OVERFLOW and UNDERRUN events of queue n (Table EVT-14). -/
def evWm (n : Nat) : FieldRef := ⟨0xA00C, n, n⟩
/-- OVERFLOW of queue n. -/
def evOverflow (n : Nat) : FieldRef := ⟨0xA00C, 8 + n, 8 + n⟩
/-- UNDERRUN of queue n. -/
def evUnderrun (n : Nat) : FieldRef := ⟨0xA00C, 16 + n, 16 + n⟩

/-- A mirror side of a formed pair (R205); a side in PAIRING is not one yet. -/
def Dev.isMirror (d : Dev) : Bool := d.twn.mirror && d.twn.st != .pairing

/-- Pushes a record, refused when the queue is full (R537); the watermark is crossed upward (R538). A mirror side writes no
departure or trace record (R205). -/
def Dev.push (d : Dev) (n : Nat) (r : List Word) : Dev :=
  let q := d.queue n
  let c := q.recs.length
  if d.isMirror && (n == 1 || n == 2) then d
  else if queueDepth n ≤ c then
    ((d.set (R.QUEn_STAT.OVERFLOW n) 1).bumpSat (R.QUEn_LOST.LOST n) 1).raise (evOverflow n)
  else
    let wm := d.get (R.QUEn_WM.LEVEL n)
    (d.setQueue n { q with recs := q.recs ++ [r] }).raiseIf (wm != 0 && c + 1 == wm) (evWm n)

/-- The chain address as a record shows it. -/
def Dev.addr (d : Dev) : Nat := d.chn.addr

/-- The words of an EVQ record (Table EVT-3). -/
def evqWords (time : BitVec 64) (src dev mode : Nat) (relayed : Bool) (inst sub a b seq : Nat) : List Word :=
  [BitVec.ofNat 32 time.toNat, BitVec.ofNat 32 (time.toNat / 2 ^ 32),
   BitVec.ofNat 32 (src + (dev + (if relayed then 128 else 0)) * 2 ^ 16 + mode * 2 ^ 24),
   BitVec.ofNat 32 (inst + sub * 2 ^ 16), BitVec.ofNat 32 a, BitVec.ofNat 32 (a / 2 ^ 32), BitVec.ofNat 32 b,
   BitVec.ofNat 32 seq]

/-- Places a record in EVQ and takes its number; the queue is lost while CORE is off, and a mirror side writes only the records
of its own word 21 (R205, R531, R539). -/
def Dev.evqRaw (d : Dev) (src dev mode : Nat) (relayed : Bool) (inst sub a b : Nat) : Dev :=
  if !d.pwr.on.getLsbD 1 || (d.isMirror && !(src / 32 == 21 && dev == d.addr)) then d
  else
    let r := evqWords d.bel.now src dev mode relayed inst sub a b d.que.seq
    let d := d.push 0 r
    { d with que := { d.que with seq := (d.que.seq + 1) % 2 ^ 32 } }

/-- Places a local EVQ record. -/
def Dev.evq (d : Dev) (src inst sub a b : Nat) : Dev := d.evqRaw src d.addr d.gcr.mode.code false inst sub a b

/-- Raises an event and places its record. -/
def Dev.report (d : Dev) (f : FieldRef) (inst sub a b : Nat) : Dev := (d.raise f).evq (srcOf f) inst sub a b

/-! ## Modes (R455, R456) -/

/-- A condition of R340: an erased device, or a lane that is lost until its start-up ends again (R325). -/
def Dev.r340 (d : Dev) : Bool :=
  d.dsc.lanes.any (fun l => l.lost) ||
  (List.range 18).any (fun n =>
    (d.flag (R.ECC_ERASEn.EV0 n) && d.get (R.ECC_ERASEn.DEV0 n) ≤ 9) ||
    (d.flag (R.ECC_ERASEn.EV1 n) && d.get (R.ECC_ERASEn.DEV1 n) ≤ 9))

/-- The code of R456 below 9. -/
def Dev.serviceMode (d : Dev) : Mode :=
  if d.r340 || d.twn.st.degraded then .degraded
  else if d.twn.st = .mirrored then .mirrored
  else if d.flag R.GCR_CFG.SERVE then .cache else .passThrough

/-- Changes GCR_MODE; PREV takes the mode before, and MODE_CHANGE is raised. -/
def Dev.toMode (d : Dev) (m : Mode) : Dev :=
  if d.gcr.mode = m then d
  else ({ d with gcr := { d.gcr with mode := m, prev := d.gcr.mode.code } }).raise R.GCR_EVT.MODE_CHANGE

/-- Shows the code of R456 while the device is in one of modes 5 to 8. -/
def Dev.remode (d : Dev) : Dev := if d.gcr.mode.service58 then d.toMode d.serviceMode else d

/-- Asserts FAULT_N. -/
def Dev.faultN (d : Dev) : Dev := { d with gcr := { d.gcr with fault := true } }

/-- Asks for a frame of Table EVT-2, sent whatever the routing (R529). -/
def Dev.oweFrame (d : Dev) (w : Nat) : Dev := { d with evc := { d.evc with owed := d.evc.owed ++ [w] } }

/-- Every entry to Recovery: FAULT_N is asserted, a chain event is owed, allocation stops (Table MOD-3). -/
def Dev.enterRecovery (d : Dev) : Dev :=
  if d.gcr.mode = .recovery ∨ d.gcr.mode = .cold then d else ((d.toMode .recovery).faultN).oweFrame 0

/-! ## Timetable and table sizes -/

/-- DEP_STAT.PENDING. -/
def Dev.pendingDeps (d : Dev) : Nat := d.dep.table.length

/-- Elapsed microseconds of the BEL domain since a count. -/
def Dev.elapsedUs (d : Dev) (since : Nat) : Nat := (d.bel.ticks - since) / 1000

end Sys2Proof.Machine
end

