-- ==== Sys2Proof/Machine/Wire.lean ====
section
/-! DEFINITION. Molile Link on the wire: the slots of every message the device sends, flits with their trailer and CRC, and
the replay buffer (R364 to R372, R380 to R383, R388, Tables LNK-2 to LNK-7). -/

namespace Sys2Proof.Machine

/-! ## Codes -/

/-- The opcode of a request a worker sends on its uplink. -/
def kindOpc : Kind → Nat
  | .rdShared => 0x01 | .rdFetch => 0x02 | .rdOwn => 0x03 | .rdOnce => 0x04 | .upgrade => 0x05 | .wrFull => 0x06
  | .wrPart => 0x07 | .append => 0x08 | .depart => 0x09 | .wrBack => 0x0A
  | .board => 0x04 | .apdLine => 0x06 | .maint _ => 0x00 | .mgrSnoop _ => 0x00 | .depBoard => 0x00

/-- The opcode of a snoop. -/
def snoopOpc : Snoop → Nat
  | .share _ => 0x10 | .own => 0x11 | .inv => 0x12

/-- The opcode of a message (Table LNK-6). -/
def msgOpc : Msg → Nat
  | .upReq _ k .. => kindOpc k
  | .upAppend .. => 0x08
  | .upDepart .. => 0x09
  | .snp s _ _ => snoopOpc s
  | .depAnnounce _ => 0x13
  | .depCancel .. => 0x14
  | .depBoard .. => 0x15
  | .ack .. => 0x20
  | .stby .. => 0x21
  | .err .. => 0x22
  | .ackA .. => 0x23
  | .miss .. => 0x24
  | .depAccept .. => 0x25
  | .depRefuse _ => 0x26
  | .depAck .. => 0x27
  | .takeOver _ => 0x28
  | .homeMoved _ => 0x29
  | .data _ _ _ _ _ p => if p.psn then 0x31 else 0x30
  | .snpData _ _ _ _ p => if p.psn then 0x33 else 0x32
  | .depLine .. => 0x34
  | .depRel .. => 0x38
  | .depData .. => 0x00

/-- The line state codes of GST and RST (R381). -/
def lstCode : LState → Nat
  | .I => 0 | .S => 1 | .P => 2 | .E => 3 | .D => 4

/-- The status code of a departure line (R383, Table LNK-6). -/
def lineStCode : LineSt → Nat
  | .ok => 0 | .poison => 1 | .fail => 2

/-! ## Slots -/

/-- Fields of a slot: the lowest bit, the width and the value of each. -/
def packSlot (l : List (Nat × Nat × Nat)) : BitVec 128 :=
  BitVec.ofNat 128 (l.foldl (fun a f => a + f.2.2 % 2 ^ f.2.1 * 2 ^ f.1) 0)

/-- A flag as a field's value. -/
def flagBit (b : Bool) : Nat := if b then 1 else 0

/-- A header slot: the common fields of Table LNK-5, then its own. The opcode and ID, the tag phase, PSN, CH, the port and
worker index, RTY. -/
def headSlot (opc id : Nat) (tph psn : Bool) (ch port widx : Nat) (rty : Bool) (l : List (Nat × Nat × Nat)) : BitVec 128 :=
  packSlot ([(0, 8, opc), (8, 12, id), (20, 1, flagBit tph), (21, 1, flagBit psn), (22, 4, ch), (26, 5, port), (31, 5, widx),
    (36, 1, flagBit rty)] ++ l)

/-- The data slots of a line: slot k carries bytes 16k to 16k + 15 (R381). -/
def lineSlots (data : LineData) : List (BitVec 128) :=
  (List.range 8).map (fun k => BitVec.ofNat 128 (data.toNat / 2 ^ (128 * k)))

/-- The slots of a record of an Append, its unused bytes 0. -/
def recordSlots (len : Nat) (data : LineData) : List (BitVec 128) :=
  let w := data.toNat % 2 ^ (64 * (len + 1))
  (List.range ((len + 2) / 2)).map (fun k => BitVec.ofNat 128 (w / 2 ^ (128 * k)))

/-- The DepRel slot (Table LNK-7). -/
def depRelSlot (d : Dep) (late : Bool) : BitVec 128 :=
  packSlot [(0, 8, 0x38), (8, 6, d.odev), (14, 5, d.oport), (19, 16, d.dtag), (35, 7, d.count), (42, 1, flagBit late),
    (43, 64, d.t.toNat)]

/-- The requester a DepAnnounce names: its worker index and port. -/
def announcer (d : Dep) : Nat × Nat := match d.org with | .worker w q => (w, q) | _ => (0, d.oport)

/-- The slots of a request on an uplink. -/
def requestSlots (w : Nat) (k : Kind) (oport tag : Nat) (tph : Bool) (line ch : Nat) (mask : Mask) (p : Payload)
    (tkt : Option Nat) : List (BitVec 128) :=
  let full : Bool := k == .wrFull || k == .apdLine || k == .wrBack
  let h := headSlot (kindOpc k) tag tph (p.psn && (full || k == .wrPart)) ch oport w tkt.isSome
    [(37, 41, line), (78, 16, tkt.getD 0)]
  if full then h :: lineSlots p.data
  else if k = .wrPart then h :: mask :: lineSlots p.data
  else [h]

/-- The slots of a message on a port whose messages carry a worker index (Tables LNK-5 to LNK-7). -/
def msgSlots (w : Nat) : Msg → List (BitVec 128)
  | .upReq v k q tag tph line ch mask p tkt => requestSlots v k q tag tph line ch mask p tkt
  | .upAppend v q tag tph n len p tkt =>
    headSlot 0x08 tag tph p.psn 0 q v tkt.isSome [(37, 6, n), (43, 4, len), (47, 16, tkt.getD 0)] :: recordSlots len p.data
  | .upDepart v q tag tph line count t man dtag odev =>
    [headSlot 0x09 tag tph false 0 q v false [(37, 41, line), (78, 7, count), (85, 8, man), (93, 16, dtag)],
     packSlot [(0, 64, t.toNat), (64, 6, odev)]]
  | .snp s txid line =>
    [headSlot (snoopOpc s) txid false false 0 0 w false
      [(37, 41, line), (78, 1, match s with | .share kp => flagBit kp | _ => 0)]]
  | .depAnnounce d =>
    [headSlot 0x13 d.idx false false 0 (announcer d).2 (announcer d).1 false
      [(37, 41, d.line), (78, 7, d.count), (85, 8, d.man), (93, 16, d.dtag), (109, 1, flagBit d.imm), (110, 12, d.tag)],
     packSlot [(0, 64, d.t.toNat), (64, 6, d.odev)]]
  | .depCancel i adm => [headSlot 0x14 i false false 0 0 w false [(37, 1, flagBit adm)]]
  | .depBoard i line mask => [headSlot 0x15 i false false 0 0 w false [(37, 41, line), (78, 8, mask.toNat)]]
  | .ack q tag g txid ofs =>
    [headSlot 0x20 tag false false 0 q w false
      [(37, 3, lstCode g), (40, 12, if g = .E then txid else 0), (52, 1, flagBit ofs.isSome), (64, 64, ofs.getD 0)]]
  | .stby q tag k => [headSlot 0x21 tag false false 0 q w false [(37, 16, k)]]
  | .err q tag sub => [headSlot 0x22 tag false false 0 q w false [(37, 2, sub)]]
  | .ackA txid granted => [headSlot 0x23 txid false false 0 0 w false [(37, 1, flagBit granted)]]
  | .miss id line wbp db =>
    [headSlot 0x24 id false false 0 0 w false [(37, 41, line), (78, 1, flagBit wbp), (79, 1, flagBit db)]]
  | .depAccept i empty => [headSlot 0x25 i false false 0 0 w false [(37, 1, flagBit empty)]]
  | .depRefuse i => [headSlot 0x26 i false false 0 0 w false []]
  | .depAck i lidx => [headSlot 0x27 i false false 0 0 w false [(37, 6, lidx)]]
  | .takeOver e => [headSlot 0x28 0 false false 0 0 w false [(37, 16, e)]]
  | .homeMoved e => [headSlot 0x29 0 false false 0 0 w false [(37, 16, e)]]
  | .data q tag line g txid p =>
    headSlot (if p.psn then 0x31 else 0x30) tag false p.psn 0 q w false
      [(37, 41, line), (78, 3, lstCode g), (81, 12, txid)] :: lineSlots p.data
  | .snpData txid line dty r p =>
    headSlot (if p.psn then 0x33 else 0x32) txid false p.psn 0 0 w false
      [(37, 41, line), (78, 1, flagBit dty), (79, 3, lstCode r)] :: lineSlots p.data
  | .depLine i b line =>
    headSlot 0x34 i false b.pay.psn 0 0 w false [(37, 41, line), (78, 6, b.idx), (84, 2, lineStCode b.st)] ::
      lineSlots b.pay.data
  | .depRel d late => [depRelSlot d late]
  | .depData _ b => lineSlots b.pay.data

/-- Slots as a flit carries them, the rest of its 15 NOP. -/
def flitSlots (l : List (BitVec 128)) : BitVec 1920 :=
  BitVec.ofNat 1920 (l.foldr (fun s a => s.toNat + a * 2 ^ 128) 0)

/-! ## Trailers -/

/-- Both DLS entries unused (R383). -/
def noLines : Nat := 0xC0C0 * 2 ^ 64

/-- The device's part of the trailer of an agent port's flit that carries no departure; other ports leave it 0, and TW shows
the latest MSEQ (Table LNK-2, R388). -/
def Dev.plainMark (d : Dev) (n : Nat) : Nat :=
  if n = twPort then d.twn.mseq * 2 ^ 64
  else match d.gcr.role with
    | .manager => 0
    | .worker => if n = 30 ∨ n = 31 then 0 else noLines
    | _ => noLines

/-- The SEQ that ACK shows: the last flit received in order, on TW the last one whose items are placed (R364, R388). -/
def Port.ackNow (p : Port) : Nat := (p.rxSeq + 4095 - p.unplaced) % 4096

/-- A trailer: SEQ, the latest ACK, FK, the totals of returned credits, and the rest (Table LNK-2, R370). -/
def Port.trailer (p : Port) (fk seq mark : Nat) : BitVec 96 :=
  BitVec.ofNat 96 (seq % 4096 + p.ackNow * 2 ^ 12 + fk * 2 ^ 24 + p.told.req % 16 * 2 ^ 28 +
    p.told.snp % 16 * 2 ^ 32 + p.told.rsp % 16 * 2 ^ 36 + p.told.dat % 16 * 2 ^ 40 + p.told.wb % 16 * 2 ^ 44 + mark)

/-- The totals that the next flit tells: a running total modulo 16 moves on by at most 15 credits from one flit to the next
(R377). -/
def Port.tell (p : Port) : Port :=
  { p with told := { req := min (p.told.req + 15) p.outReq, snp := min (p.told.snp + 15) p.outSnp,
                     rsp := min (p.told.rsp + 15) p.outRsp, dat := min (p.told.dat + 15) p.outDat,
                     wb := min (p.told.wb + 15) p.outWb } }

/-- Every returned credit has been told. -/
def Port.toldAll (p : Port) : Bool := p.tell == p

/-- A flit leaves a port, with its CRC (R369). -/
def Dev.emitFlit (d : Dev) (n fk seq : Nat) (slots : BitVec 1920) (mark : Nat) : Dev :=
  let d := d.setPort n (d.port n).tell
  d.emit (.flit n (Flit.sealed slots ((d.port n).trailer fk seq mark)))

/-- A DATA flit takes the next SEQ, is kept for replay and leaves (R370). -/
def Dev.dataOut (d : Dev) (n : Nat) (slots : BitVec 1920) (mark : Nat) : Dev :=
  let p := d.port n
  let d := d.setPort n { p with txSeq := (p.txSeq + 1) % 4096, buf := p.buf ++ [⟨p.txSeq, slots, mark⟩] }
  d.emitFlit n 0 p.txSeq slots mark

/-- A flit of another kind: its content in slot 0, and the next SEQ to be sent (R365). -/
def Dev.controlOut (d : Dev) (n fk : Nat) (slot0 : BitVec 128) : Dev :=
  d.emitFlit n fk (d.port n).txSeq (flitSlots [slot0]) (d.plainMark n)

/-- An IDLE flit: NOP slots, with the latest ACK and credit totals (R365, R370). -/
def Dev.idleFlit (d : Dev) (n : Nat) : Dev := d.controlOut n 1 0

/-- As many further IDLE flits as the credits still to be told need. -/
def Dev.idleRest (n : Nat) : Nat → Dev → Dev
  | 0, d => d
  | k + 1, d => if (d.port n).toldAll then d else Dev.idleRest n k (d.idleFlit n)

/-- NAK with the next SEQ expected (R366). -/
def Dev.nakOut (d : Dev) (n exp : Nat) : Dev :=
  (d.emit (.nak n exp)).controlOut n 2 (packSlot [(0, 8, 0x3D), (8, 12, exp)])

/-- LPM with a code: 0 propose, 1 accept, 2 refuse (R366). -/
def Dev.lpmOut (d : Dev) (n code : Nat) : Dev :=
  (d.emit (.lpm n code)).controlOut n 5 (packSlot [(0, 8, 0x3C), (8, 2, code)])

/-- The heartbeat: role, state, EPOCH and MSEQ (R218, R388). -/
def Dev.heartbeatOut (d : Dev) : Dev :=
  (d.emit (.heartbeat (!d.twn.mirror) d.twn.st.code d.twn.epoch d.twn.mseq)).controlOut twPort 4
    (packSlot [(0, 8, 0x3E), (8, 1, flagBit d.twn.mirror), (9, 4, d.twn.st.code), (13, 16, d.twn.epoch), (29, 32, d.twn.mseq)])

/-- Unacknowledged DATA flits of a port (R370). -/
def Port.unacked (p : Port) : Nat := (p.txSeq + 4096 - 1 - p.ackd) % 4096

/-- An ACK covers flits up to a sequence number: they leave the replay buffer (R370). -/
def Port.acked (p : Port) (a : Nat) : Port :=
  let q := { p with ackd := a }
  { q with buf := p.buf.drop (p.unacked - q.unacked) }

/-- Unacknowledged sequence numbers, oldest first. -/
def Port.pendingSeqs (p : Port) : List Nat := (List.range p.unacked).map (fun k => (p.ackd + 1 + k) % 4096)

/-- Every unacknowledged DATA flit is sent again in order, with its content and SEQ, and the latest ACK and credits (R370,
R372). -/
def Dev.resendFlits (d : Dev) (n : Nat) : Dev :=
  let l := (d.port n).pendingSeqs
  if l.isEmpty then d
  else (d.port n).buf.foldl (fun d b => d.emitFlit n 0 b.seq b.slots b.mark) (d.emit (.replay n l))

end Sys2Proof.Machine
end

