-- ==== Sys2Proof/Machine/Mirror.lean ====
section
/-! DEFINITION. The serving side's mirror stream: items, flits, and messages held until their flit is acknowledged
(R167, R210, R211, R214). -/

namespace Sys2Proof.Machine

/-! ## Bytes of a line -/

/-- The bit mask of the bytes a byte mask enables. -/
def maskBits (m : Mask) : LineData :=
  BitVec.ofNat 1024 ((List.range 128).foldl (fun a b => if m.getLsbD b then a + 255 * 2 ^ (8 * b) else a) 0)

/-- The enabled bytes of one line over another. -/
def overlay (m : Mask) (new old : LineData) : LineData := (new &&& maskBits m) ||| (old &&& ~~~ maskBits m)

/-- Dirty data over what the mirror side has of the line. -/
def overHeld (old : Option (Mask × Payload)) (m : Mask) (p : Payload) : Mask × Payload :=
  match old with
  | some (k, q) => if m = Mask.full then (m, p) else (k ||| m, ⟨overlay m p.data q.data, q.psn || p.psn⟩)
  | none => (m, p)

/-! ## What the mirror side has -/

/-- The mirror side holds all of a line, dirty; on a serving side, what its partner holds. -/
def Dev.heldLine (d : Dev) (line : Nat) : Option Payload :=
  match bankGet d.twn.lines line with
  | some (m, p) => if m = Mask.full then some p else none
  | none => none

/-- The dirty lines the mirror side has once it has an item (Table TWN-2). -/
def linesAfter (l : List (Nat × Mask × Payload)) : Item → List (Nat × Mask × Payload)
  | .dirtyLine line m p => bankSet l line (overHeld (bankGet l line) m p)
  | .clean line => bankErase l line
  | _ => l

/-! ## The stream -/

/-- The device sends a mirror stream: a serving side in MIRRORED or COPY (R210). -/
def Dev.mirrors (d : Dev) : Bool := !d.twn.mirror && (d.twn.st == .mirrored || d.twn.st == .copy)

/-- Adds an item to the flit being filled. -/
def Dev.mirror (d : Dev) (i : Item) : Dev :=
  if d.mirrors then { d with twn := { d.twn with items := d.twn.items ++ [i], lines := linesAfter d.twn.lines i } } else d

/-- The opcode of a mirror item (Table LNK-9). -/
def itemOpc : Item → Nat
  | .dir _ => 0x40
  | .sdr _ | .sdrLine .. | .sdrUnknown _ | .sdrClear .. => 0x41
  | .header .. => 0x42
  | .dirtyLine .. => 0x43
  | .clean _ => 0x44
  | .txn _ | .txnGone _ | .tickets .. | .holds _ | .upUse .. => 0x45
  | .log _ => 0x46
  | .dep _ | .depStale _ => 0x47
  | .boarded .. | .released _ | .depGone .. | .depDone _ => 0x48
  | .stream .. => 0x49
  | .memWrite .. => 0x4A
  | .dirtyReport .. => 0x4B
  | .copy _ => 0x4C

/-- The slots of a mirror item (Table LNK-9). -/
def itemSlots : Item → Nat
  | .header .. | .dirtyLine .. | .boarded .. | .stream .. | .memWrite .. | .copy _ => 9
  | .dep _ | .depStale _ | .released _ | .depGone .. | .depDone _ => 2
  | _ => 1

/-- A flit of the join copy. -/
def isCopy (l : List Item) : Bool := l.any (fun i => match i with | .copy _ => true | _ => false)

/-- TW credits of a flit: one for each item; a copy item carries what it copies (Tables LNK-4, LNK-9). -/
def flitCost (l : List Item) : Nat := if isCopy l then 1 else l.length

/-- Items as flits carry them, as many in each as its 15 slots hold (R367, R389). -/
def packItems : List Item → List Item → Nat → List (List Item)
  | [], cur, _ => if cur.isEmpty then [] else [cur]
  | i :: l, cur, n =>
    if n + itemSlots i ≤ 15 then packItems l (cur ++ [i]) (n + itemSlots i) else cur :: packItems l [i] (itemSlots i)

/-- The flits of a list of items. -/
def flitsOf (l : List Item) : List (List Item) := packItems l [] 0

/-- The slots of one item: its opcode, and an image that the manual does not lay out (R389). -/
def imageSlots (opc n r : Nat) : List (BitVec 128) :=
  (List.range n).map (fun k =>
    let w := BitVec.ofNat 128 ((Config.mirrorImage r).toNat / 2 ^ (128 * k))
    if k = 0 then (w >>> 8 <<< 8) ||| BitVec.ofNat 128 opc else w)

/-- The slots of a flit's items, each with a free value of its own. -/
def flitImage : List Item → Nat → List (BitVec 128)
  | [], _ => []
  | i :: l, r => imageSlots (itemOpc i) (itemSlots i) r ++ flitImage l (r + 1)

/-- The items whose images a flit carries: a copy item's is that of the whole flit. -/
def shownItems (l : List Item) : List Item := if isCopy l then l.take 1 else l

/-- Sends the flits that TW credits allow, in MSEQ order. -/
def Dev.pumpTwin : List (Nat × List Item) → Dev → Dev
  | [], d => { d with twn := { d.twn with wait := [] } }
  | f :: l, d =>
    if d.tw.st = 3 ∧ flitCost f.2 ≤ d.tw.cReq ∧ d.tw.unacked < 128 then
      let d := ({ d with tw := { d.tw with cReq := d.tw.cReq - flitCost f.2 },
                         twn := { d.twn with after := d.twn.after + flitCost f.2 } }).pmu1 0x026
      let i := shownItems f.2
      let r := d.free
      let d := { d with free := d.free + i.length }
      Dev.pumpTwin l ((d.emit (.twin f.1 f.2)).dataOut twPort (flitSlots (flitImage i r)) (f.1 * 2 ^ 64))
    else { d with twn := { d.twn with wait := f :: l } }

/-- TW with 128 unacknowledged flits sends IDLE flits instead of what waits (R370). -/
def Dev.twIdle (d : Dev) : Dev :=
  if !d.twn.wait.isEmpty && d.tw.st == 3 && Nat.ble 128 d.tw.unacked then d.idleFlit twPort else d

/-- Sends what waits for TW credits. -/
def Dev.pumpTw (d : Dev) : Dev := if d.twn.wait.isEmpty then d else (Dev.pumpTwin d.twn.wait d).twIdle

/-- The MSEQ of the next flit. -/
def Dev.nextMseq (d : Dev) : Nat := (d.twn.mseq + 1) % 2 ^ 32

/-- A flit takes the next MSEQ and stands behind the flits before it (R210). -/
def Dev.queueFlit (d : Dev) (l : List Item) : Dev :=
  { d with twn := { d.twn with mseq := d.nextMseq, wait := d.twn.wait ++ [(d.nextMseq, l)] } }

/-- A live flit, which messages may wait for, takes the next MSEQ (R211). -/
def Dev.liveFlit (d : Dev) (l : List Item) : Dev :=
  ({ d with twn := { d.twn with unacked := d.twn.unacked ++ [d.nextMseq] } }).queueFlit l

/-- The items of a command leave in as few flits as hold them, or wait for TW credits (R210, R214). -/
def Dev.flushTwin (d : Dev) : Dev :=
  if d.twn.items.isEmpty then d
  else ((flitsOf d.twn.items).foldl Dev.liveFlit { d with twn := { d.twn with items := [] } }).pumpTw

/-- The MSEQ a message of now waits for: that of the flit that carries the last item of this command, or of the last flit
unacknowledged (R211); flits of a join copy carry nothing that a message depends on. In FENCED no flit is acknowledged, and
every message that R211 governs is held (R220). -/
def Dev.awaits (d : Dev) : Option Nat :=
  if d.twn.st = .fenced ∧ !d.twn.mirror then some d.nextMseq
  else if !d.mirrors then none
  else if !d.twn.items.isEmpty then some ((d.twn.mseq + (flitsOf d.twn.items).length) % 2 ^ 32)
  else d.twn.unacked.getLast?

/-- TWN_CFG.EN: the device is one side of a pair (R206). -/
def Dev.twinOn (d : Dev) : Bool := d.flag R.TWN_CFG.EN

end Sys2Proof.Machine
end

