-- ==== Sys2Proof/Machine/Flags.lean ====
section
/-! DEFINITION. Pending bits of the event words and what the event controller does with them after every command
(R521 to R528), and how a meaning acts on the state. -/

namespace Sys2Proof.Machine

/-- A register with reset value 0, as the bank holds it. -/
def Dev.raw0 (d : Dev) (ofs : Nat) : Word := (bankGet d.regs ofs).getD 0

/-- The page bases of words 0 to 24 (Table EVT-1). -/
def wordPages : List Nat :=
  [0x0, 0x1000, 0x2000, 0x3000, 0x4000, 0x5000, 0x6000, 0x7000, 0x8000, 0xA000, 0xB000, 0xD000, 0x10000, 0x12000,
   0x13000, 0x14000, 0x15000, 0x16000, 0x17000, 0x1C000, 0x1E000, 0x1F000, 0x20000, 0x21000, 0x22000]

/-- The latched bits of a page, and those of them that are enabled (R494, R522). -/
def Dev.latch (d : Dev) (base : Nat) (enabled : Bool) : Nat :=
  let l := (d.raw0 (base + 0xC)).toNat
  if enabled then l &&& (d.raw0 (base + 0x10)).toNat else l

/-- A number with bit k given by a test. -/
def bitsOf (n : Nat) (p : Nat → Bool) : Nat := (List.range n).foldl (fun a k => if p k then a + 2 ^ k else a) 0

/-- The bits of word w, enabled ones only or all latched ones (R521, R522, R547). -/
def Dev.wordBits (d : Dev) (w : Nat) (enabled : Bool) : Nat :=
  if w < 25 then d.latch ((wordPages[w]?).getD 0) enabled
  else if w < 32 then bitsOf 32 (fun n => (d.latch (0x80000 + n * 0x2000) enabled).testBit (w - 25))
  else if w < 34 then bitsOf 32 (fun b => (d.latch (0xC0000 + b % 8 * 0x2000) enabled).testBit (b / 8 + (w - 32) * 4))
  else if w < 36 then
    let k := w - 34
    let st := (d.raw0 (0xC400 + 4 * k)).toNat ||| (d.raw0 (0xC408 + 4 * k)).toNat
    bitsOf 32 (fun b => st.testBit b && (!enabled || d.flag (R.PMU_SELn.INT (32 * k + b))))
  else 0

/-- EVC_PENDw. -/
def Dev.pend (d : Dev) (w : Nat) : Nat := d.wordBits w true

/-- EVC_ROUTEw. -/
def Dev.route (d : Dev) (w : Nat) : Nat := (d.raw0 (0x9040 + 4 * w)).toNat

/-- C(v) for every vector: bit v is 1 while a word routed to v has a pending bit (R525). -/
def Dev.conditions (d : Dev) : Nat :=
  (List.range 36).foldl
    (fun a w => if (d.route w).testBit 8 && d.pend w != 0 then a ||| 2 ^ bits (d.route w) 5 0 else a) 0

/-- The level of INT_N[i]: low (true) while a word routed to it has a pending bit; released while CORE is off (R527). -/
def Dev.intLow (d : Dev) (i : Nat) : Bool :=
  d.gcr.mode != .cold && d.pwr.on.getLsbD 1 &&
  (List.range 36).any (fun w => (d.route w).testBit (16 + i) && d.pend w != 0)

/-- Vector v of the MSI-X table. -/
def Dev.msixEnt (d : Dev) (v : Nat) : MsixEnt := (bankGet d.hst.table v).getD {}

/-- A reason of R526 for which the message of v cannot go out. -/
def Dev.msixBlocked (d : Dev) (v : Nat) : Bool :=
  (d.msixEnt v).masked || d.hst.fmask || !d.hst.busMaster || !d.hst.up

/-- Sends the message of v. -/
def Dev.sendMsix (d : Dev) (v : Nat) : Dev :=
  { d with evc := { d.evc with msgs := min (d.evc.msgs + 1) (2 ^ 32 - 1) }, sent := .msix v :: d.sent }

/-- A 64-bit map with a bit set or cleared. -/
def setBit64 (m : BitVec 64) (v : Nat) (b : Bool) : BitVec 64 :=
  if b then m ||| BitVec.ofNat 64 (2 ^ v) else m &&& ~~~ BitVec.ofNat 64 (2 ^ v)

/-- One vector under R525 and R526. -/
def Dev.settleVec (c : Nat) (d : Dev) (v : Nat) : Dev :=
  if d.hst.pba.getLsbD v && !d.msixBlocked v then
    let d := { d with hst := { d.hst with pba := setBit64 d.hst.pba v false } }
    if c.testBit v then d.sendMsix v else d
  else if c.testBit v && d.evc.armed.getLsbD v then
    let d := { d with evc := { d.evc with armed := setBit64 d.evc.armed v false } }
    if d.msixBlocked v then { d with hst := { d.hst with pba := setBit64 d.hst.pba v true } } else d.sendMsix v
  else d

/-- Bits a frame has carried stay so only while they are pending (R528). -/
def Dev.seenNow (d : Dev) : List (Nat × Word) :=
  (d.evc.seen.map (fun e => (e.1, e.2 &&& BitVec.ofNat 32 (d.pend e.1)))).filter (fun e => e.2 != 0)

/-- What follows every command: the mirror flit leaves, and the event controller acts on the pending bits. -/
def settle (d : Dev) : Dev :=
  let d := d.flushTwin
  let d := { d with evc := { d.evc with seen := d.seenNow } }
  let c := d.conditions
  if c = 0 ∧ d.hst.pba = 0 then d else (List.range 64).foldl (Dev.settleVec c) d

/-- A meaning that acts on the device alone; the queue of commands stays. -/
def onDevAlways (s : State) (f : Dev → Dev) : Host.Outcome State Fault Refusal := .next (s.setDev (settle (f s.dev)))

/-- A meaning of a block that Cold holds in reset: nothing happens there (R459). -/
def onDev (s : State) (f : Dev → Dev) : Host.Outcome State Fault Refusal :=
  onDevAlways s (fun d => if d.gcr.mode = .cold then d else f d)

end Sys2Proof.Machine
end

