-- ==== Sys2Proof/Machine/Operands.lean ====
section
/-! DEFINITION. Register accesses as operand forms: which accesses end in a bus error and with which cause
(R488 to R511). -/

namespace Sys2Proof.Machine

/-! ## Register accesses -/

/-- The power domain of a page (Table REG-9), as its code in Table PWR-1. -/
def pageDomain : PageKind → Nat
  | .gcr | .cfg | .clk | .pwr | .pur | .bel | .chn => 0
  | .hst => 20
  | .dir => 2
  | _ => 1

/-- TWN_LINK and TWN_REPLAY_CNT are held in the TWN clock domain (Table REG-9). -/
def inTwnClock (ofs : Nat) : Bool := ofs == R.TWN_LINK.STATE.ofs || ofs == R.TWN_REPLAY_CNT.REPLAY.ofs

/-- The page is in a domain that a forced gate holds closed while the domain is powered (R501, R502, R406). -/
def Dev.pageGated (d : Dev) (p : PageKind) (n ofs : Nat) : Bool :=
  match p with
  | .ap0 | .ap1 => d.clk.closed.getLsbD (n / 4) && d.pwr.on.getLsbD (10 + n / 4)
  | .mp => d.clk.closed.getLsbD (8 + n / 4) && d.pwr.on.getLsbD 18
  | .twn => inTwnClock ofs && d.clk.closed.getLsbD 10 && d.pwr.on.getLsbD 19
  | _ => false

/-- The cause for which an aligned access to an offset cannot reach its register (Table REG-5). -/
def Dev.unreachable (d : Dev) (ofs : Nat) : Option Nat :=
  match pageAt ofs with
  | none => some 1
  | some (p, n) =>
    if !d.pwr.on.getLsbD (pageDomain p) then some 8
    else if d.pageGated p n ofs then some 9
    else none

/-- The code of a source in GCR_BUSERR_INFO.SRC. -/
def srcCode : Src → Nat
  | .host => 0 | .chain => 1 | .image => 2

/-- An access ends in a bus error: recorded, counted and reported (R499, R497). -/
def Dev.busErr (d : Dev) (src : Src) (ofs : Nat) (write : Bool) (cause : Nat) : Dev :=
  let d := d.set R.GCR_BUSERR_ADDR.ADDR ofs
  let d := d.set R.GCR_BUSERR_INFO.CAUSE cause
  let d := d.set R.GCR_BUSERR_INFO.SRC (srcCode src)
  let d := d.set R.GCR_BUSERR_INFO.WRITE (if write then 1 else 0)
  let d := d.bumpSat R.GCR_BUSERR_INFO.COUNT 1
  let d := (d.raise R.GCR_EVT.BUS_ERR).raiseIf (cause == 3 || cause == 4) R.GCR_EVT.LOCK_VIOL
  d.emit (.busErr src cause)

/-- A page's _LOCK is set. -/
def Dev.pageLocked (d : Dev) (ofs : Nat) : Bool := (d.raw0 (ofs / 0x1000 * 0x1000 + 0x18)).getLsbD 0

/-- The register is locked: its page's _LOCK is 1 and it holds an RWL field (R497). -/
def Dev.regLocked (d : Dev) (ofs : Nat) : Bool :=
  d.pageLocked ofs &&
  match rowAt ofs with
  | some r => r.fields.any (fun f => f.acc = .rwl)
  | none => false

/-- A write command to the register at an offset: a bus error where R499 gives one, else its effect. -/
def Dev.write (d : Dev) (src : Src) (ofs : Nat) (k : Dev → Dev) : Dev :=
  match d.unreachable ofs with
  | some c => d.busErr src ofs true c
  | none => if d.regLocked ofs then d.busErr src ofs true 3 else (k d).emit (.regOk src)

/-- _CTRL.EN of an agent port (R493). -/
def portEN (n : Nat) : FieldRef := ⟨0x80004 + n * 0x2000, 0, 0⟩
/-- DEP_CTRL.EN (R493). -/
def depEN : FieldRef := ⟨0x17004, 0, 0⟩
/-- SCB_CTRL.EN (R493). -/
def scbEN : FieldRef := ⟨0x22004, 0, 0⟩

end Sys2Proof.Machine
end

