-- ==== Sys2Proof/Machine/Supply.lean ====
section
/-! DEFINITION. Clock switches, operating-point steps, tokens, wake steps and the fall into Recovery on AON: the shared
operations of the clock and power chapters (R397 to R451). -/

namespace Sys2Proof.Machine

/-- The commands in the queue that belong to the core cycle of the present one: those before its end. -/
def State.thisCycle (s : State) : List Instr := s.pending.takeWhile (fun c => c != .coreCycle)

/-! ## Bit maps -/

/-- A bit of a map set or cleared. -/
def putBit {w : Nat} (m : BitVec w) (n : Nat) (b : Bool) : BitVec w :=
  if b then m ||| BitVec.ofNat w (2 ^ n) else m &&& ~~~ BitVec.ofNat w (2 ^ n)

/-- A power domain is on. -/
def Dev.domOn (d : Dev) (n : Nat) : Bool := d.pwr.on.getLsbD n

/-- The power domain of a lane's PHY: WGg, or HDL for a header lane (Table PWR-1). -/
def laneDomain (n : Nat) : Nat := if n < 16 then 5 + n / 4 else 9

/-- The pads of a domain are held. -/
def Dev.padHeld (d : Dev) (n : Nat) : Bool := d.pwr.held.getLsbD n

/-- Position i of sixteen is a throttled cycle at level l, spread evenly (R442). -/
def throttled (l i : Nat) : Bool := (i + 1) * l / 16 != i * l / 16

/-- The device's core domain is on. -/
def Dev.coreOn (d : Dev) : Bool := d.domOn 1

/-- A meaning of a block in CORE: nothing happens while CORE is off (R527, R451). -/
def onCore (s : State) (f : Dev → Dev) : Host.Outcome State Fault Refusal :=
  onDev s (fun d => if d.coreOn then f d else d)

/-! ## Sources and switches (R397 to R409) -/

/-- CLK_READY bit k. -/
def Dev.srcReady (d : Dev) (k : Nat) : Bool := d.clk.ready.getLsbD k

/-- Sets a source's READY and FAIL bits. -/
def Dev.setSource (d : Dev) (k : Nat) (ready fail : Bool) : Dev :=
  { d with clk := { d.clk with ready := putBit d.clk.ready k ready, fail := putBit d.clk.fail k fail } }

/-- A source that takes REF and runs, or is started, coasts: READY 0, FAIL 1 (R399). -/
def Dev.coast (d : Dev) (k : Nat) : Dev :=
  if d.srcReady k || d.clk.starting.contains k then
    (({ d with clk := { d.clk with starting := d.clk.starting.filter (· != k) } }).setSource k false true).raise
      R.CLK_EVT.PLL_FAIL
  else d

/-- Starts a PLL that does not run; PLL_LOCK reports its lock (R398). One that coasts relocks by itself (R399), and one started
while the crystal is lost coasts at once (R402). While XTAL_FAIL reads 1 only PLL_AON and PLL_BELL run (R401). -/
def Dev.startPll (d : Dev) (k : Nat) : Dev :=
  let ofRef : Bool := k != 2 && k != 6
  if d.srcReady k || d.clk.fail.getLsbD k || d.clk.starting.contains k || (d.clk.xtalFail && ofRef) then d
  else
    let d := { d with clk := { d.clk with starting := d.clk.starting ++ [k] } }
    if d.clk.fail.getLsbD 1 && ofRef then d.coast k else d

/-- Stops a PLL. -/
def Dev.stopPll (d : Dev) (k : Nat) : Dev :=
  { d with clk := { d.clk with starting := d.clk.starting.filter (· != k), ready := putBit d.clk.ready k false,
                               fail := putBit d.clk.fail k false } }

/-- The READY bit of the source of a clock domain (Table CLK-2); TCK has none. -/
def Dev.domainSource (d : Dev) (code : Nat) : Option Nat :=
  if code = 0 then some 0
  else if code = 1 then some (if d.clk.refXtal then 1 else 0)
  else if code = 2 ∨ code = 24 then some 2
  else if code = 3 then some 6
  else if code = 4 then some (if d.clk.coreSrc = 0 then 0 else 2 + d.clk.coreSrc)
  else if code ≤ 10 then some 5
  else if code ≤ 18 then some (7 + (code - 11))
  else if code ≤ 20 then some (15 + (code - 19))
  else if code = 21 then some 17
  else if code = 22 then some 18
  else none

/-- The forced gate that stops a clock domain, where it has one (R405). -/
def gateOf (code : Nat) : Option Nat :=
  if 11 ≤ code ∧ code ≤ 18 then some (code - 11) else if code = 19 then some 8 else if code = 20 then some 9
  else if code = 21 then some 10 else none

/-- The power domain of a clock domain (Table CLK-2). -/
def clockPower (code : Nat) : Nat :=
  if code = 4 ∨ code = 5 then 1
  else if 6 ≤ code ∧ code ≤ 10 then code - 1
  else if 11 ≤ code ∧ code ≤ 18 then code - 1
  else if code = 19 ∨ code = 20 then 18
  else if code = 21 then 19 else if code = 22 then 20 else 0

/-- A clock domain has stopped: by a forced gate, by a power-down, REF by the loss of the crystal it comes from (R402, R409,
R418). -/
def Dev.clockStopped (d : Dev) (code : Nat) : Bool :=
  code < 25 && ((match gateOf code with | some g => d.clk.closed.getLsbD g | none => false) ||
    !d.domOn (clockPower code) || (code == 1 && d.clk.refXtal && d.clk.fail.getLsbD 1))

/-- CLK_OUT holds low: it carries no clock, or one that has stopped (R417, R418). -/
def Dev.outLow (d : Dev) : Bool := 25 ≤ d.clk.outNow || d.clockStopped d.clk.outNow

/-- CLK_OUT goes low where a step stops what it carried. -/
def Dev.outFalls (e d : Dev) : Dev := if !e.outLow && d.outLow then d.emit (.pin "CLK_OUT" false) else d

/-- A switch of the selector is in progress. -/
def Dev.switchBusy (d : Dev) (s : Selector) : Bool := d.clk.switching.any (fun e => e.1 = s)

/-- The switches in progress of the other selectors. -/
def Dev.otherSwitches (d : Dev) (s : Selector) : List (Selector × Nat) := d.clk.switching.filter (fun e => e.1 ≠ s)

/-- The event a refused switch raises (R408). -/
def switchRefused : Selector → FieldRef
  | .out => R.CLK_EVT.OUT_REFUSED
  | _ => R.CLK_EVT.SWITCH_REFUSED

/-- The READY bit of a switch's target; none where the target needs no source. -/
def Dev.switchSource (d : Dev) (s : Selector) (t : Nat) : Option Nat :=
  match s with
  | .ref => some t
  | .core => some (if t = 0 then 0 else 2 + t)
  | .out | .meas => if t < 25 then d.domainSource t else none

/-- A switch may start: its target runs and none of the same selector is in progress (R408). -/
def Dev.switchOk (d : Dev) (s : Selector) (t : Nat) : Bool :=
  !d.switchBusy s && (match d.switchSource s t with | some k => d.srcReady k | none => true)

/-- Asks for a switch, refused under R408. -/
def Dev.startSwitch (d : Dev) (s : Selector) (t : Nat) : Dev :=
  if d.switchOk s t then { d with clk := { d.clk with switching := d.clk.switching ++ [(s, t)] } }
  else d.raise (switchRefused s)

/-! ## Tokens (R438 to R442) -/

/-- The budget in force: CAP as the last 1 µs interval took it, at least 240 (R438). -/
def Dev.cap (d : Dev) : Nat := max 240 d.pur.capNow

/-- PUR_CFG.TMAX, at most 12. -/
def Dev.tmax (d : Dev) : Nat := min 12 (d.get R.PUR_CFG.TMAX)

/-- The cost of a token kind. -/
def Dev.cost (d : Dev) (k : Nat) : Nat := d.get (R.PUR_COSTk.COST k)

/-- HELD: the costs of the tokens granted and not returned. -/
def Dev.heldCost (d : Dev) : Nat := d.pur.tokens.foldl (fun a t => a + d.cost t.1) 0

/-- A token of the kind is held for an owner. -/
def Dev.hasToken (d : Dev) (k who : Nat) : Bool := d.pur.tokens.contains (k, who)

/-- A token of a kind from 1 to 4 waits (R440). -/
def Dev.urgent (d : Dev) : Bool := d.pur.waiting.any (fun t => 1 ≤ t.1 && t.1 ≤ 4)

/-- Adds a request for a token. -/
def Dev.wantToken (d : Dev) (k who : Nat) : Dev :=
  if d.hasToken k who || d.pur.waiting.contains (k, who) then d
  else { d with pur := { d.pur with waiting := d.pur.waiting ++ [(k, who)] } }

/-- A token is returned, or its request withdrawn. -/
def Dev.dropToken (d : Dev) (k who : Nat) : Dev :=
  { d with pur := { d.pur with tokens := d.pur.tokens.filter (· != (k, who)),
                               waiting := d.pur.waiting.filter (· != (k, who)) } }

/-- Sets the throttle level; THR_MAX when it reaches TMAX (R442). -/
def Dev.setLevel (d : Dev) (l : Nat) : Dev :=
  ({ d with pur := { d.pur with level := l } }).raiseIf (l == d.tmax && d.pur.level != l) R.PUR_EVT.THR_MAX

/-! ## Switching a domain -/

/-- DS_VR_EN[g] is driven. -/
def Dev.driveRail (d : Dev) (g : Nat) (on : Bool) : Dev :=
  ({ d with pwr := { d.pwr with railEn := putBit d.pwr.railEn g on,
                                railGood := if on then d.pwr.railGood else putBit d.pwr.railGood g false } }).emit
    (.pin (["DS_VR_EN0", "DS_VR_EN1", "DS_VR_EN2", "DS_VR_EN3"][g]?.getD "DS_VR_EN") on)

/-- A wake step has succeeded: its attempts are forgotten. The steps of one code are told apart by their domain, those of
the PLLs by their source (R450). -/
def Dev.wakeDone (d : Dev) (step unit : Nat) : Dev :=
  { d with pwr := { d.pwr with tries := d.pwr.tries.filter (fun e => !(e.1 == step && e.2.1 == unit)) } }

/-- The PLLs of a domain (Table CLK-2). -/
def domainPlls (dom : Nat) : List Nat :=
  if 10 ≤ dom ∧ dom ≤ 17 then [7 + (dom - 10)]
  else if dom = 18 then [15, 16] else if dom = 19 then [17] else if dom = 20 then [18] else []

/-- The owner of a SerDes token: Molile ports by number, 32 TW, memory ports from 40, the host port 50. -/
def mpTokenBase : Nat := 40

/-- The host port as an owner of a SerDes token. -/
def hstOwner : Nat := 50

/-- The owners of SerDes tokens in a domain. -/
def domainLinks (dom : Nat) : List Nat :=
  if 10 ≤ dom ∧ dom ≤ 17 then (List.range 4).map (4 * (dom - 10) + ·)
  else if dom = 18 then (List.range 8).map (mpTokenBase + ·)
  else if dom = 19 then [twPort] else []

/-- The links of a domain that loses power are DOWN, and ask for no token (R502). -/
def Dev.dropLinks (d : Dev) (dom : Nat) : Dev :=
  let d := (domainLinks dom).foldl (fun d k => d.dropToken 2 k) d
  if 10 ≤ dom ∧ dom ≤ 17 then (List.range 4).foldl (fun d i => d.setPort (4 * (dom - 10) + i) {}) d
  else if dom = 18 then { d with mps := d.mps.map (fun (m : Mp) => if m.st = 5 then m else {}) }
  else if dom = 19 then { d with tw := {} }
  else d

/-- The clamped value of a domain's pads in Table PWR-2, with its group's rails as they stand; none for a domain without
clamped pads. -/
def Dev.clampOf (d : Dev) (dom : Nat) : Option Clamp :=
  if dom = 19 then some .idle
  else if dom = 9 then some .high
  else if 5 ≤ dom ∧ dom ≤ 8 then some (if d.pwr.railEn.getLsbD (dom - 5) then .high else .low)
  else none

/-- The isolation cells of a domain's clamped pads drive a value (R424). -/
def Dev.clampPads (d : Dev) (dom : Nat) (c : Clamp) : Dev :=
  if d.pwr.clamps.contains (dom, c) then d
  else ({ d with pwr := { d.pwr with clamps := (dom, c) :: d.pwr.clamps.filter (fun e => e.1 != dom) } }).emit
    (.clamp dom (some c))

/-- Before a domain loses power its clamped pads take the value of Table PWR-2 (R313, R424). -/
def Dev.clampDom (d : Dev) (dom : Nat) : Dev :=
  match d.clampOf dom with
  | some c => d.clampPads dom c
  | none => d

/-- The clamp is removed once the domain is on and its logic drives the same value (R424). -/
def Dev.unclamp (d : Dev) (dom : Nat) : Dev :=
  if d.pwr.clamps.any (fun e => e.1 == dom) then
    ({ d with pwr := { d.pwr with clamps := d.pwr.clamps.filter (fun e => e.1 != dom) } }).emit (.clamp dom none)
  else d

/-- A domain's latched pads are held as they stand (R425). -/
def Dev.latchPads (d : Dev) (dom : Nat) : Dev :=
  if d.padHeld dom then d
  else
    let img := Config.padImage dom d.free
    ({ d with free := d.free + 1,
              pwr := { d.pwr with held := putBit d.pwr.held dom true,
                                  latched := (dom, img) :: d.pwr.latched.filter (fun e => e.1 != dom) } }).emit
      (.pads dom (some img))

/-- Switches a domain off: its pads are clamped and held, its clocks stop (R422, R424, R425). -/
def Dev.turnOff (d : Dev) (dom : Nat) : Dev :=
  let x := ((domainPlls dom).foldl Dev.stopPll ((d.clampDom dom).dropLinks dom)).latchPads dom
  d.outFalls { x with pwr := { x.pwr with on := putBit x.pwr.on dom false } }

/-- Switches a domain on: its clocks start, its clamps are removed, its other pads stay held, WAKE_HOLD (R422, R424, R426). -/
def Dev.turnOn (d : Dev) (dom : Nat) : Dev :=
  let d := { d with pwr := { d.pwr with on := putBit d.pwr.on dom true } }
  let d := ((domainPlls dom).foldl Dev.startPll (d.wakeDone 2 dom)).unclamp dom
  d.raiseIf (d.padHeld dom) R.PWR_EVT.WAKE_HOLD

/-! ## Operating points (R431 to R437) -/

/-- The voltage of a point in mV (Table PWR-4). -/
def pointMv (p : Nat) : Nat := ([800, 720, 660, 620][p]?).getD 0

/-- The idle core PLL: the one CORE does not run from. -/
def Dev.idleCorePll (d : Dev) : Nat := if d.clk.coreSrc = 1 then 4 else 3

/-- A PMBus transaction with the core regulator: at PWR_VR_CFG.ADDR, with error checking when PEC is 1 (R427). -/
def Dev.pmbus (d : Dev) (cmd : String) (v : Nat) : Dev :=
  d.emit (.pmbus (d.get R.PWR_VR_CFG.ADDR) (d.flag R.PWR_VR_CFG.PEC) cmd v)

/-- The linear format with the exponent of VOUT_MODE, a 5-bit signed number: the nearest word to a voltage in mV (R427; log
entry 88). -/
def linearWord (e : BitVec 5) (mv : Nat) : Nat :=
  if e.msb then (mv * 2 ^ (32 - e.toNat) + 500) / 1000 else mv / (1000 * 2 ^ e.toNat)

/-- The voltage of a word in mV. -/
def linearMv (e : BitVec 5) (w : Nat) : Nat :=
  if e.msb then w * 1000 / 2 ^ (32 - e.toNat) else w * 1000 * 2 ^ e.toNat

/-- A PMBus write: repeated up to 3 times while it fails; PMB_ERR where every repeat fails too (R428). -/
def Dev.pmbusWrite (d : Dev) (cmd : String) (v : Nat) : Dev :=
  let n := Config.pmbusFails d.free
  let d := (List.range (min 3 n)).foldl (fun d _ => d.pmbus cmd v) (({ d with free := d.free + 1 }).pmbus cmd v)
  d.raiseIf (4 ≤ n) R.PWR_EVT.PMB_ERR

/-- Writes VOUT_COMMAND for a point. -/
def Dev.voutCommand (d : Dev) (p : Nat) : Dev := d.pmbusWrite "VOUT_COMMAND" (linearWord d.pwr.voutExp (pointMv p))

/-- READ_VOUT, as a word, and READ_IOUT, in mA, as the regulator answers (R427). -/
def Dev.vrRead (d : Dev) (w ma : Nat) : Dev :=
  let d := (d.pmbus "READ_VOUT" 0).pmbus "READ_IOUT" 0
  let mv := linearMv d.pwr.voutExp w
  (d.set R.PWR_VR_MEAS.MV mv).set R.PWR_VR_POWER.QW (mv * ma / 250000)

/-- The step needs a voltage change. -/
def Dev.needsVolt (d : Dev) (v : Nat) : Bool := v != d.pwr.vpt

/-- The phase of a raising step in which the PLL locks while the voltage rises; it waits while CORE still runs from RCO
(R432). -/
def Dev.dvfsRun (d : Dev) (f v : Nat) : Dev :=
  if d.clk.coreSrc = 0 then { d with pwr := { d.pwr with step := some ⟨f, v, 1, true, false⟩ } }
  else
    let up := f < d.pwr.fpt && v < d.pwr.vpt
    let d := if up then d.voutCommand v else d
    let k := d.idleCorePll
    ({ d with pwr := { d.pwr with step := some ⟨f, v, 1, true, up⟩ } }).startPll k

/-- CORE runs from PLL_CORE0 for the first time: a step that waited for that goes on. -/
def Dev.dvfsStarted (d : Dev) : Dev :=
  match d.pwr.step with
  | some st => if st.ph = 1 then d.dvfsRun st.goalF st.goalV else d
  | none => d

/-- Starts the clock and voltage work of a step; with the frequency point unchanged only the voltage changes (R433). -/
def Dev.dvfsWork (d : Dev) (f v : Nat) : Dev :=
  if f ≠ d.pwr.fpt then d.dvfsRun f v
  else if d.needsVolt v then
    ({ d with pwr := { d.pwr with step := some ⟨f, v, 3, false, true⟩ } }).voutCommand v
  else ({ d with pwr := { d.pwr with step := none } }).raise R.PWR_EVT.DVFS_DONE

/-- Sets up a step toward a frequency and a voltage point; PWR_DVFS.BUSY reads 1. A raise takes a token (R433, R436). -/
def Dev.dvfsBegin (d : Dev) (f v : Nat) (token : Bool) : Dev :=
  if token && (f < d.pwr.fpt || (f == d.pwr.fpt && v < d.pwr.vpt)) then
    ({ d with pwr := { d.pwr with step := some ⟨f, v, 0, false, false⟩ } }).wantToken 1 0
  else d.dvfsWork f v

/-- Step 3 of a wake from Doze: the domains that were on are switched on (R448). -/
def Dev.wakeDomains (d : Dev) (z : Doze) : Dev :=
  let d := { d with pwr := { d.pwr with doze := some { z with wakeStep := 3 } } }
  ([9, 5, 6, 7, 8, 3, 4, 18, 19].filter z.prevOn.getLsbD).foldl Dev.turnOn d

/-- Step 2 of a wake: PLL_MEM starts (R448). -/
def Dev.wakeMem (d : Dev) (z : Doze) : Dev :=
  if d.srcReady 5 then d.wakeDomains z
  else ({ d with pwr := { d.pwr with doze := some { z with wakeStep := 2 } } }).startPll 5

/-- Step 1 of a wake, the step of CORE, is over (R448). -/
def Dev.wakeStepped (d : Dev) : Dev :=
  match d.pwr.doze with
  | some z => if z.wakeStep = 1 then d.wakeMem z else d
  | none => d

/-- PLL_MEM has locked in step 2 of a wake. -/
def Dev.wakeLocked (d : Dev) : Dev :=
  match d.pwr.doze with
  | some z => if z.wakeStep = 2 then d.wakeDomains z else d
  | none => d

/-- The end of a step: its token is returned, DVFS_DONE is raised, and a later TARGET starts at once (R433, R435). -/
def Dev.dvfsEnd (d : Dev) : Dev :=
  let d := ({ d with pwr := { d.pwr with step := none } }).dropToken 1 0
  let d := (d.raise R.PWR_EVT.DVFS_DONE).wakeStepped
  match d.pwr.nextTarget with
  | none => d
  | some t =>
    let d := { d with pwr := { d.pwr with nextTarget := none } }
    if d.needsVolt t && !d.pwr.pmbOk then d.raise R.PWR_EVT.DVFS_REFUSED else d.dvfsBegin t t true

/-- CORE has been switched: the frequency point is reached, the old PLL stops, and a lower voltage follows (R433). -/
def Dev.dvfsSwitched (d : Dev) : Dev :=
  match d.pwr.step with
  | some st =>
    if st.ph = 2 then
      let d := { d with pwr := { d.pwr with fpt := st.goalF } }
      if d.needsVolt st.goalV then
        ({ d with pwr := { d.pwr with step := some { st with ph := 3, voltWait := true } } }).voutCommand st.goalV
      else d.dvfsEnd
    else d
  | none => d

/-- The idle PLL has locked and the raised voltage is reached: CORE is switched. -/
def Dev.dvfsReady (d : Dev) : Dev :=
  match d.pwr.step with
  | some st =>
    if st.ph = 1 && !st.pllWait && !st.voltWait then
      ({ d with pwr := { d.pwr with step := some { st with ph := 2 } } }).startSwitch .core (d.idleCorePll - 2)
    else d
  | none => d

/-- The up-step token is granted. -/
def Dev.dvfsGranted (d : Dev) : Dev :=
  match d.pwr.step with
  | some st => if st.ph = 0 then d.dvfsWork st.goalF st.goalV else d
  | none => d

/-- A core PLL has locked; the first one takes CORE off RCO (start-up step 5). -/
def Dev.dvfsLocked (d : Dev) (k : Nat) : Dev :=
  if d.clk.coreSrc = 0 then (if k = 3 then d.startSwitch .core 1 else d)
  else match d.pwr.step with
  | some st =>
    if st.ph = 1 ∧ k = d.idleCorePll then
      ({ d with pwr := { d.pwr with step := some { st with pllWait := false } } }).dvfsReady
    else d
  | none => d

/-- The commanded voltage is reached (R434). -/
def Dev.dvfsVolt (d : Dev) : Dev :=
  match d.pwr.step with
  | some st =>
    if st.voltWait then
      let d := { d with pwr := { d.pwr with vpt := st.goalV, tries := d.pwr.tries.filter (fun e => e.1 != 1) } }
      if st.ph = 3 then d.dvfsEnd
      else ({ d with pwr := { d.pwr with step := some { st with voltWait := false } } }).dvfsReady
    else d
  | none => d

/-! ## What a granted token lets start -/

/-- A way group's wake goes on: its domain is switched on, and its rails where they were off (R76, R301, R325). -/
def Dev.startWake (d : Dev) (g : Nat) : Dev :=
  let d := ({ d with pwr := { d.pwr with waking := putBit d.pwr.waking g true } }).turnOn (5 + g)
  if d.pwr.railEn.getLsbD g then d else d.driveRail g true

/-- The PLL of the SerDes that a token of kind 2 powers up (Tables CLK-1, CLK-2). -/
def serdesPll (who : Nat) : Nat :=
  if who < 32 then 7 + who / 4 else if who = twPort then 17 else if who < mpTokenBase + 8 then 15 + (who - mpTokenBase) / 4 else 18

/-- A granted token's activity starts: an up-step runs, a link starts training with its PLL, a way group's wake goes on
(R439, start-up step 6 of the clocks). -/
def Dev.onGrant (d : Dev) (k who : Nat) : Dev :=
  if k = 1 then d.dvfsGranted
  else if k = 2 then
    let d := d.startPll (serdesPll who)
    if who ≤ twPort then d.setPort who { d.port who with st := 1 }
    else if mpTokenBase ≤ who ∧ who < mpTokenBase + 8 then
      d.setMp (who - mpTokenBase) { d.mp (who - mpTokenBase) with st := 1 }
    else d
  else if k = 3 then d.startWake who
  else d

/-- Moves a waiting token to the held ones. -/
def Dev.giveToken (d : Dev) (k who : Nat) : Dev :=
  ({ d with pur := { d.pur with waiting := d.pur.waiting.filter (· != (k, who)),
                                tokens := d.pur.tokens ++ [(k, who)] } }).onGrant k who

/-- The budget allows a token of the kind (R439). -/
def Dev.fits (d : Dev) (k : Nat) : Bool := d.pur.est + d.heldCost + d.cost k ≤ d.cap

/-- Grants in priority order, request order within a kind, until one does not fit (R439). -/
def Dev.grantList (d : Dev) : List (Nat × Nat) → Dev
  | [] => d
  | t :: l => if d.fits t.1 then (d.giveToken t.1 t.2).grantList l else d

/-- Grants every waiting token that may be granted; while kinds 1 to 4 wait the level is TMAX (R439, R440). -/
def Dev.grantTokens (d : Dev) : Dev :=
  let before := d.pur.est + d.heldCost
  let order := (List.range 6).flatMap (fun k => d.pur.waiting.filter (fun t => t.1 == k))
  let d := d.grantList order
  let d := d.raiseIf (before ≤ d.cap && d.cap < d.pur.est + d.heldCost) R.PUR_EVT.CAP_REACHED
  if d.urgent then d.setLevel d.tmax else d

/-- Asks for a token and grants what may be granted. -/
def Dev.askToken (d : Dev) (k who : Nat) : Dev := (d.wantToken k who).grantTokens

/-- Returns a token and grants what may be granted. -/
def Dev.returnToken (d : Dev) (k who : Nat) : Dev := (d.dropToken k who).grantTokens

/-- The power domain of a PLL. -/
def pllDomain (k : Nat) : Nat :=
  if k = 2 ∨ k = 6 then 0 else if k ≤ 5 then 1 else if k ≤ 14 then 10 + (k - 7) else if k ≤ 16 then 18
  else if k = 17 then 19 else 20

end Sys2Proof.Machine
end

