-- ==== Sys2Proof/Machine/Ports.lean ====
section
/-! DEFINITION. Molile Link ports: classes, opcodes and credits of messages, sending, tracing and protocol errors
(R361 to R382, R542). -/

namespace Sys2Proof.Machine

/-! ## Messages -/

/-- The class of a message: 0 REQ, 1 SNP, 2 RSP, 3 DAT, none for departure data (R376, R379). -/
def msgClass : Msg → Option Nat
  | .upReq _ .wrBack .. => some 3
  | .upReq .. | .upAppend .. | .upDepart .. => some 0
  | .snp .. | .depAnnounce .. | .depCancel .. | .depBoard .. => some 1
  | .data .. | .snpData .. | .depLine .. => some 3
  | .depRel .. | .depData .. => none
  | .ack .. | .stby .. | .err .. | .depAccept .. | .depRefuse .. | .depAck .. | .takeOver .. | .homeMoved ..
  | .ackA .. | .miss .. => some 2

/-- The ID, line, state and poison a trace record shows of a message (Table EVT-7). -/
def msgTrace : Msg → Nat × Option Nat × Nat × Bool
  | .data _ tag line g _ p => (tag, some line, lstCode g, p.psn)
  | .ack _ tag g _ _ => (tag, none, lstCode g, false)
  | .stby _ tag _ => (tag, none, 0, false)
  | .err _ tag _ => (tag, none, 0, false)
  | .snp _ txid line => (txid, some line, 0, false)
  | .depAnnounce d => (d.idx, some d.line, 0, false)
  | .depCancel i _ => (i, none, 0, false)
  | .depBoard i line _ => (i, some line, 0, false)
  | .depAccept i _ => (i, none, 0, false)
  | .depRefuse i => (i, none, 0, false)
  | .depAck i _ => (i, none, 0, false)
  | .depLine i b line => (i, some line, 0, b.pay.psn)
  | .takeOver _ => (0, none, 0, false)
  | .homeMoved _ => (0, none, 0, false)
  | .ackA txid _ => (txid, none, 0, false)
  | .miss txid line _ _ => (txid, some line, 0, false)
  | .snpData txid line _ r p => (txid, some line, lstCode r, p.psn)
  | .upReq _ _ _ tag _ line _ _ p _ => (tag, some line, 0, p.psn)
  | .upAppend _ _ tag _ _ _ p _ => (tag, none, 0, p.psn)
  | .upDepart _ _ tag _ line _ _ _ _ _ => (tag, some line, 0, false)
  | .depRel d _ => (0, some d.line, 0, false)
  | .depData .. => (0, none, 0, false)

/-! ## Kinds of port -/

/-- The kind of a port: 0 agent port, 1 uplink, 2 downlink (Table ARC-4, APnn_LSTAT.KIND). -/
def Dev.portKind (d : Dev) (n : Nat) : Nat :=
  match d.gcr.role with
  | .worker => if n = 30 ∨ n = 31 then 1 else 0
  | .manager => 2
  | _ => 0

/-- The KIND a port expects of its peer (R368). -/
def Dev.peerKindWanted (d : Dev) (n : Nat) : Nat :=
  if n = twPort then 4 else match d.portKind n with | 1 => 2 | 2 => 1 | _ => 0

/-- An opcode a port may receive (Table LNK-6, column Direction). -/
def Dev.opcAllowed (d : Dev) (n opc : Nat) : Bool :=
  if n = twPort then 0x40 ≤ opc && opc ≤ 0x4C
  else match d.portKind n with
    | 0 => (1 ≤ opc && opc ≤ 0x0A) || opc == 0x23 || opc == 0x24 || opc == 0x29 || opc == 0x32 || opc == 0x33
    | 1 => (0x10 ≤ opc && opc ≤ 0x15) || (0x20 ≤ opc && opc ≤ 0x22) || opc == 0x27 || opc == 0x28 || opc == 0x29 ||
           opc == 0x30 || opc == 0x31 || opc == 0x34
    | _ => (1 ≤ opc && opc ≤ 0x0A) || (0x23 ≤ opc && opc ≤ 0x29) || opc == 0x32 || opc == 0x33 || opc == 0x34

/-- The slots of a received message, from its header slot (Table LNK-6). -/
def msgLength (w : Nat) : Nat :=
  match bits w 7 0 with
  | 0x06 | 0x0A | 0x30 | 0x31 | 0x32 | 0x33 | 0x34 => 9
  | 0x07 => 10
  | 0x08 => 1 + (bits w 46 43 + 2) / 2
  | 0x09 | 0x13 => 2
  | _ => 1

/-- The opcodes whose header slot carries a line address (Table LNK-6). -/
def hasAddr (opc : Nat) : Bool :=
  (1 ≤ opc && opc ≤ 0x07) || (0x09 ≤ opc && opc ≤ 0x0A) || (0x10 ≤ opc && opc ≤ 0x13) || opc == 0x15 || opc == 0x24 ||
  (0x30 ≤ opc && opc ≤ 0x34)

/-- A header slot as the link layer reads it: opcode, ID, line address, state code and poison (Tables LNK-5, LNK-6). -/
def slotOf (w : Nat) : Slot :=
  let opc := bits w 7 0
  { opc := opc, id := bits w 19 8, line := if hasAddr opc then some (bits w 77 37) else none,
    st := if opc = 0x20 then bits w 39 37 else if opc = 0x30 ∨ opc = 0x31 then bits w 80 78
      else if opc = 0x32 ∨ opc = 0x33 then bits w 81 79 else 0,
    psn := (bits w 21 21) == 1 }

/-- The messages that begin in the slots of a flit, after the slots that belong to the last message of the flit before; and the
slots of the last one that are left to the next flit (R367). -/
def headersIn : List Nat → Nat → List Slot × Nat
  | [], more => ([], more)
  | _ :: l, more + 1 => headersIn l more
  | w :: l, 0 =>
    let r := headersIn l (msgLength w - 1)
    if bits w 7 0 = 0 then r else (slotOf w :: r.1, r.2)

/-- The class of a received opcode. -/
def opcClass (opc : Nat) : Nat :=
  if opc = 0x0A then 3 else if opc < 0x10 then 0 else if opc < 0x20 then 1 else if opc < 0x30 then 2 else 3

/-! ## Tracing (R542) -/

/-- The words of a TRQ record (Table EVT-7). -/
def trqWords (time line port : Nat) (tx : Bool) (opc id st : Nat) (psn : Bool) : List Word :=
  let w := time % 2 ^ 32 + line * 2 ^ 32 + port * 2 ^ 73 + (if tx then 2 ^ 78 else 0) + opc * 2 ^ 79 + id * 2 ^ 87 +
    st * 2 ^ 99 + (if psn then 2 ^ 102 else 0)
  [BitVec.ofNat 32 w, BitVec.ofNat 32 (w / 2 ^ 32), BitVec.ofNat 32 (w / 2 ^ 64), BitVec.ofNat 32 (w / 2 ^ 96)]

/-- The trace filter matches. -/
def Dev.traceMatch (d : Dev) (port : Nat) (tx : Bool) (line : Option Nat) : Bool :=
  d.flag R.QUE_TRC_CFG.EN && (d.flag R.QUE_TRC_CFG.ALLP || d.get R.QUE_TRC_CFG.PORT == port) &&
  (if tx then d.flag R.QUE_TRC_CFG.TX else d.flag R.QUE_TRC_CFG.RX) &&
  (let mask := d.get64 R.QUE_TRC_MASK_LO.MASK_LO.ofs / 128
   let addr := d.get64 R.QUE_TRC_ADDR_LO.ADDR_LO.ofs / 128
   match line with
   | some l => (l &&& mask) == (addr &&& mask)
   | none => mask == 0)

/-- Pushes the trace record of a message that matches. -/
def Dev.trace (d : Dev) (port : Nat) (tx : Bool) (opc id : Nat) (line : Option Nat) (st : Nat) (psn : Bool) : Dev :=
  if port < 32 && opc != 0 && d.traceMatch port tx line then
    d.push 2 (trqWords d.bel.now.toNat (line.getD 0) port tx opc id st psn)
  else d

/-! ## Sending -/

/-- Send credits of a class. -/
def Port.credit (p : Port) : Option Nat → Nat
  | some 0 => p.cReq | some 1 => p.cSnp | some 2 => p.cRsp | some 3 => p.cDat
  | _ => 1

/-- Takes a send credit of a class. -/
def Port.take (p : Port) : Option Nat → Port
  | some 0 => { p with cReq := p.cReq - 1 }
  | some 1 => { p with cSnp := p.cSnp - 1 }
  | some 2 => { p with cRsp := p.cRsp - 1 }
  | some 3 => { p with cDat := p.cDat - 1 }
  | _ => p

/-- A WrBack on an uplink also needs a write-back credit (R155). -/
def needsWb : Msg → Bool
  | .upReq _ .wrBack .. => true
  | _ => false

/-- The message may go out now: the link is ACTIVE with room for replay and credits. -/
def Port.canSend (p : Port) (m : Msg) : Bool :=
  p.st == 3 && p.unacked < 128 && p.credit (msgClass m) != 0 && (!needsWb m || p.cWb != 0)

/-- A quiet window runs on the port: it starts no new flit (R258). -/
def Dev.quietOn (d : Dev) (n : Nat) : Bool :=
  d.dep.table.any (fun e => e.quiet.contains n && !e.droppedPorts.contains n && !e.started.any (fun x => x.1 == n))

/-- A port that is ACTIVE sends an IDLE flit when it owes an ACK or credits, but none in a quiet window (R258, R370, R377). -/
def Dev.idleOut (d : Dev) (n : Nat) : Dev := if (d.port n).st == 3 && !d.quietOn n then Dev.idleRest n 32 (d.idleFlit n) else d

/-- A flit that a quiet window held back leaves; a NAK only while it is still owed. -/
def Dev.sendLate (n : Nat) (d : Dev) : Late → Dev
  | .nak => if (d.port n).naked then d.nakOut n (d.port n).rxSeq else d
  | .lpm c => d.lpmOut n c
  | .replay => d.resendFlits n

/-- A flit outside the order of messages leaves, or waits for the end of the port's quiet window (R258). -/
def Dev.controlSend (d : Dev) (n : Nat) (x : Late) : Dev :=
  if d.quietOn n then d.setPort n { d.port n with late := (d.port n).late ++ [x] } else Dev.sendLate n d x

/-- What a quiet window held back leaves once it is over, and the credits returned in it are told. -/
def Dev.flushLate (d : Dev) (n : Nat) : Dev :=
  let l := (d.port n).late
  if d.quietOn n then d
  else
    let d := if l.isEmpty then d else l.foldl (Dev.sendLate n) (d.setPort n { d.port n with late := [] })
    if (d.port n).st == 3 then Dev.idleRest n 32 d else d

/-- Returns a write-back credit (R155). -/
def Dev.returnWb (d : Dev) (n : Nat) : Dev :=
  let p := d.port n
  (d.setPort n { p with pWb := p.pWb + 1, outWb := p.outWb + 1 }).idleOut n

/-- A write-back credit leaves with the Ack or Err that answers its WrBack (R113, R155). -/
def Dev.returnOwedWb (d : Dev) (n oport tag : Nat) : Dev :=
  if d.cnf.owedWb.contains (n, oport, tag) then
    ({ d with cnf := { d.cnf with owedWb := d.cnf.owedWb.erase (n, oport, tag) } }).returnWb n
  else d

/-- Returns a REQ credit once the pipeline has taken the request (R377). -/
def Dev.returnReq (d : Dev) (n : Nat) : Dev :=
  let p := d.port n
  if p.pReq < 32 then (d.setPort n { p with pReq := p.pReq + 1, outReq := p.outReq + 1 }).idleOut n else d

/-- The REQ credit of a Depart goes back as the active uplink takes it (Table LNK-4). -/
def Dev.returnOwedReq (d : Dev) (oport tag : Nat) : Dev :=
  if d.hie.depCredits.contains (oport, tag) then
    ({ d with hie := { d.hie with depCredits := d.hie.depCredits.erase (oport, tag) } }).returnReq oport
  else d

/-- What leaves with a message: the write-back credit its answer returns, the REQ credit of a Depart it carries on. -/
def Dev.withMessage (d : Dev) (n : Nat) : Msg → Dev
  | .ack oport tag .I _ _ => d.returnOwedWb n oport tag
  | .err oport tag _ => d.returnOwedWb n oport tag
  | .upDepart _ q tag _ _ _ _ _ _ _ => d.returnOwedReq q tag
  | _ => d

/-- The worker index that a port's messages carry: a downlink's, a worker's on its uplinks; 0 on an agent's own link (R27,
Table LNK-5). -/
def Dev.linkWidx (d : Dev) (n : Nat) : Nat :=
  match d.portKind n with
  | 1 => d.get R.HIE_CFG.WIDX
  | 2 => n
  | _ => 0

/-- A message leaves in a flit: credit, output, trace and counts. -/
def Dev.sendOff (d : Dev) (n : Nat) (m : Msg) : Dev :=
  let p := d.port n
  let p := { p.take (msgClass m) with cWb := if needsWb m then p.cWb - 1 else p.cWb }
  let d := (((d.setPort n p).withMessage n m).emit (.msg n m)).pmu1 (0x080 + msgOpc m)
  let d := if msgClass m = some 1 then (d.pmu1 (0x100 + 8 * n + 3)).pmu1 0x019 else d
  let t := msgTrace m
  d.trace n true (msgOpc m) t.1 t.2.1 t.2.2.1 t.2.2.2

/-- Sends a message in a DATA flit of its own. -/
def Dev.sendNow (d : Dev) (n : Nat) (m : Msg) : Dev :=
  let d := (d.sendOff n m).pmu1 (if n = twPort then 0x026 else 0x100 + 8 * n + 1)
  d.dataOut n (flitSlots (msgSlots (d.linkWidx n) m)) (d.plainMark n)

/-- A departure's release is in progress on the port (R263). -/
def Dev.releasingOn (d : Dev) (n : Nat) : Bool :=
  d.dep.table.any (fun e => e.started.any (fun x => x.1 == n) && !e.ended.contains n && !e.droppedPorts.contains n)

/-- The port may start a flit of its own for a message now: none while a departure's slots leave it (R261, R383). -/
def Dev.portSends (d : Dev) (n : Nat) (m : Msg) : Bool :=
  (d.port n).canSend m && !d.quietOn n && !d.releasingOn n

/-- Sends every waiting message that may go, in order within each class (R376). -/
def Dev.pumpList (n : Nat) : List Msg → List (Option Nat) → Dev → List Msg → Dev
  | [], _, d, keep => d.setPort n { d.port n with txq := keep }
  | m :: l, blocked, d, keep =>
    if !blocked.contains (msgClass m) && d.portSends n m then Dev.pumpList n l blocked (d.sendNow n m) keep
    else Dev.pumpList n l (msgClass m :: blocked) d (keep ++ [m])

/-- A port with 128 unacknowledged flits sends IDLE flits instead of what waits (R370). -/
def Dev.idleWhenFull (d : Dev) (n : Nat) : Dev :=
  if !(d.port n).txq.isEmpty && Nat.ble 128 (d.port n).unacked then d.idleOut n else d

/-- Sends what a port may send: what a quiet window held back, then its messages. -/
def Dev.pump (d : Dev) (n : Nat) : Dev :=
  let d := d.flushLate n
  (Dev.pumpList n (d.port n).txq [] d []).idleWhenFull n

/-- Gives a message to a port. -/
def Dev.txPush (d : Dev) (n : Nat) (m : Msg) : Dev :=
  (d.setPort n { d.port n with txq := (d.port n).txq ++ [m] }).pump n

/-- Sends a message to an agent, worker or manager: at once, or once the mirror side has what it depends on (R211). A
superseded device and a mirror side send none (R205, R221). -/
def Dev.tell (d : Dev) (n : Nat) (m : Msg) : Dev :=
  if d.twn.st = .superseded || d.twn.mirror then d
  else match d.awaits with
    | some k => { d with twn := { d.twn with held := d.twn.held ++ [(k, n, m)] } }
    | none => d.txPush n m

/-! ## Receiving -/

/-- The credits this device advertises on a port: REQ, SNP, RSP, DAT, WB (Table LNK-4). -/
def Dev.advertised (d : Dev) (n : Nat) : Nat × Nat × Nat × Nat × Nat :=
  if n = twPort then (255, 0, 0, 0, 0)
  else (32, (if d.portKind n = 1 then 16 else 0), 64, 32, min 16 (d.get R.WBF_CFG.PORT_RSV))

/-- The peer holds no credit of a class: REQ, SNP, RSP, DAT, WB. A credit that comes back counts once a flit has told it
(R377). -/
def Port.lacks (p : Port) (cls : Nat) : Bool :=
  match cls with
  | 0 => p.pReq ≤ p.outReq - p.told.req
  | 1 => p.pSnp ≤ p.outSnp - p.told.snp
  | 2 => p.pRsp ≤ p.outRsp - p.told.rsp
  | 3 => p.pDat ≤ p.outDat - p.told.dat
  | _ => p.pWb ≤ p.outWb - p.told.wb

/-- The write-back credit of a WrBack is owed with its answer (R155). -/
def Dev.oweWb (d : Dev) (n oport tag : Nat) : Dev :=
  { d with cnf := { d.cnf with owedWb := d.cnf.owedWb ++ [(n, oport, tag)] } }

/-- A port stops taking work: EN is cleared and it drains (R161, R374, R386). -/
def Dev.stopPort (d : Dev) (n : Nat) : Dev :=
  if n < 32 then (d.set (portEN n) 0).setPort n { d.port n with draining := true } else d

/-- A protocol error: event, record, count, and EN cleared under PROTO_STOP (R382); TW has no such event. -/
def Dev.protoRaise (d : Dev) (n opc : Nat) : Dev :=
  if n < 32 then
    let d := (d.report (R.APnn_EVT.PROTO_ERR n) n opc 0 0).bumpSat (R.APnn_PROTO_CNT.PROTO n) 1
    if d.flag (R.APnn_CFG.PROTO_STOP n) && d.flag (portEN n) then d.stopPort n else d
  else d

/-- A port that counts as disabled (R130, R163). -/
def Dev.portDead (d : Dev) (n : Nat) : Bool := !d.flag (portEN n) && !(d.port n).draining

/-- A message is discarded as a protocol error; a disabled port discards its messages silently (R386). -/
def Dev.protoErr (d : Dev) (n opc : Nat) : Dev := if d.portDead n then d else d.protoRaise n opc

/-- A port is enabled and not draining. -/
def Dev.portServes (d : Dev) (n : Nat) : Bool := d.flag (portEN n) && !(d.port n).draining

/-- A departure's staging on a port has begun, and its release there has not ended (R257, R363). -/
def Dev.stagedOn (d : Dev) (n : Nat) : Bool :=
  d.gcr.role != .manager && d.dep.table.any (fun e =>
    e.ports.contains n && !e.droppedPorts.contains n && !e.ended.contains n && !e.boarded.isEmpty)

end Sys2Proof.Machine
end

