-- ==== Sys2Proof/Machine/Ecc.lean ====
section
/-! DEFINITION. The symbol code of a lane: the shortened Reed–Solomon code over GF(2^8), poison, and the classes of
codewords and lines (R326 to R331). -/

namespace Sys2Proof.Machine

/-! ## The field -/

/-- Multiplication by α = 0x02 modulo 0x11D (R326). -/
def gfX (a : Nat) : Nat := (2 * a) ^^^ (a / 128 * 0x11D)

/-- The sum over the low n bits of b of a·α^k. -/
def gfMulN : Nat → Nat → Nat → Nat
  | 0, _, _ => 0
  | n + 1, a, b => (if b % 2 = 1 then a else 0) ^^^ gfMulN n (gfX a) (b / 2)

/-- Multiplication in GF(2^8). -/
def gfMul (a b : Nat) : Nat := gfMulN 8 a b

/-- α^k. -/
def gfPow : Nat → Nat
  | 0 => 1
  | k + 1 => gfX (gfPow k)

/-- α^128, the S1 of the poison pattern (R328). -/
def alpha128 : Nat := 0x85

/-- The inverse of α^8 + α^9, which the encoder multiplies by. -/
def gfK : Nat := 0x8A

/-! ## Codewords -/

/-- S0: the sum of the symbols (R327). -/
def synd0 : List Nat → Nat
  | [] => 0
  | c :: l => c ^^^ synd0 l

/-- S1: the sum of ck·α^k, by Horner's scheme (R327). -/
def synd1 : List Nat → Nat
  | [] => 0
  | c :: l => c ^^^ gfX (synd1 l)

/-- The ten symbols of a codeword: the check symbols make both syndromes 0, or give the poison pattern (R327, R328). -/
def encodeWord (data : List Nat) (psn : Bool) : List Nat :=
  let a := synd0 data ^^^ (if psn then 1 else 0)
  let b := synd1 data ^^^ (if psn then alpha128 else 0)
  let c9 := gfMul gfK (b ^^^ gfMul (gfPow 8) a)
  data ++ [a ^^^ c9, c9]

/-- The class of a codeword (Tables INT-2, INT-3). -/
inductive WordClass where
  | clean | corrected (i : Nat) | poison | poisonCorrected (i : Nat) | uncorrectable
  deriving DecidableEq, Repr

/-- A class as a number, a different one for each class and position. -/
def WordClass.code : WordClass → Nat
  | .clean => 0
  | .poison => 1
  | .uncorrectable => 2
  | .corrected i => 2 * i + 3
  | .poisonCorrected i => 2 * i + 4

/-- The first of n positions from i on at which x, multiplied by α from one position to the next, is s1. -/
def errorFrom : Nat → Nat → Nat → Nat → Option Nat
  | 0, _, _, _ => none
  | n + 1, i, x, s1 => bif Nat.beq x s1 then some i else errorFrom n (i + 1) (gfX x) s1

/-- The position a syndrome pair names: s1 = s0·α^i with s0 not 0. -/
def errorAt (s0 s1 : Nat) : Option Nat := if s0 = 0 then none else errorFrom 10 0 s0 s1

/-- Adds a value to symbol i. -/
def addAt : List Nat → Nat → Nat → List Nat
  | [], _, _ => []
  | c :: l, 0, v => (c ^^^ v) :: l
  | c :: l, i + 1, v => c :: addAt l i v

/-- A codeword of a rank with no erased device (Table INT-2): its class and its symbols after the action. -/
def decodeWord (c : List Nat) : WordClass × List Nat :=
  let s0 := synd0 c
  let s1 := synd1 c
  if s0 = 0 ∧ s1 = 0 then (.clean, c)
  else match errorAt s0 s1 with
    | some i => (.corrected i, addAt c i s0)
    | none =>
      if s0 = 1 ∧ s1 = alpha128 then (.poison, c)
      else match errorAt (s0 ^^^ 1) (s1 ^^^ alpha128) with
        | some i => (.poisonCorrected i, addAt c i (s0 ^^^ 1))
        | none => (.uncorrectable, c)

/-- A codeword of a rank whose device k is erased (Table INT-3). -/
def decodeErased (k : Nat) (c : List Nat) : WordClass × List Nat :=
  let s0 := synd0 c
  let q := synd1 c ^^^ gfMul (gfPow k) s0
  if q = 0 then (.clean, addAt c k s0)
  else if q = alpha128 ^^^ gfPow k then (.poison, c)
  else (.uncorrectable, c)

/-! ## The checker self-test (R356) -/

/-- The zero codeword, and the one that shows poison alone. -/
def zeroWord : List Nat := encodeWord (List.replicate 8 0) false

/-- The poison pattern alone. -/
def poisonWord : List Nat := encodeWord (List.replicate 8 0) true

/-- Every single-symbol error: its position and its value. -/
def singleErrors : List (Nat × Nat) := (List.range 10).flatMap (fun i => (List.range 255).map (fun v => (i, v + 1)))

/-- Two positions in error by one value, in either order: S0 is 0 and S1 is not, which no single-symbol error gives. -/
def doubleErrors : List (Nat × Nat) :=
  (List.range 10).flatMap (fun i => ((List.range 10).filter (· != i)).map (fun j => (i, j)))

/-- The value of the errors of the double-symbol patterns: with it no pattern's syndromes match a single-symbol error, nor one
beside poison. -/
def doubleValue : Nat := 7

/-- The class of the poison pattern with one symbol in error: where the syndromes name a single-symbol error too, Table INT-2
has that one first. -/
def poisonedClass (i v : Nat) : WordClass :=
  match errorAt (1 ^^^ v) (alpha128 ^^^ gfMul v (gfPow i)) with
  | some j => .corrected j
  | none => .poisonCorrected i

/-- A codeword with two symbols in error. -/
def doubleWord (p : Nat × Nat) : List Nat := addAt (addAt zeroWord p.1 doubleValue) p.2 doubleValue

/-- The mismatches of a list of patterns, each an outcome with the one that Table INT-2 or INT-3 gives. -/
def mismatches : List (WordClass × WordClass) → Nat
  | [] => 0
  | x :: l => if x.1.code = x.2.code then mismatches l else mismatches l + 1

/-- The patterns of the checker self-test through encoder and decoder, with the class that each must have. The manual leaves
the data of the clean codewords and the values of the double-symbol errors open (R356; log entry 99). -/
def checkerFails : Nat :=
  mismatches ((List.range 256).map (fun b => ((decodeWord (encodeWord (List.replicate 8 b) false)).1, .clean))) +
  mismatches (singleErrors.map (fun e => ((decodeWord (addAt zeroWord e.1 e.2)).1, .corrected e.1))) +
  mismatches (((decodeWord poisonWord).1, .poison) ::
    singleErrors.map (fun e => ((decodeWord (addAt poisonWord e.1 e.2)).1, poisonedClass e.1 e.2))) +
  mismatches ((List.range 10).flatMap (fun k =>
    [((decodeErased k zeroWord).1, .clean), ((decodeErased k poisonWord).1, .poison)])) +
  mismatches (doubleErrors.map (fun p => ((decodeWord (doubleWord p)).1, .uncorrectable)))

/-! ## Lines -/

/-- The outcome of a line (Table INT-4); Poison with a corrected symbol is told apart (R332). -/
inductive LineOut where
  | clean | corrected | poison | poisonCorrected | uncorrectable
  deriving DecidableEq, Repr

/-- A decoded line: its outcome, its data symbols, and the device positions corrected in any codeword. -/
structure Decoded where
  out : LineOut
  data : LineData
  pos : List Nat
  deriving DecidableEq, Repr

/-- The n symbols of a number, least significant byte first. -/
def symbolsOf : Nat → Nat → List Nat
  | 0, _ => []
  | n + 1, x => x % 256 :: symbolsOf n (x / 256)

/-- The number whose bytes are the symbols. -/
def numOf : List Nat → Nat
  | [] => 0
  | c :: l => c + 256 * numOf l

/-- The 16 groups of n symbols of a number. -/
def groupsOf (n : Nat) : Nat → Nat → List (List Nat)
  | 0, _ => []
  | j + 1, x => symbolsOf n x :: groupsOf n j (x / 2 ^ (8 * n))

/-- The number whose groups of n symbols are given. -/
def joinGroups (n : Nat) : List (List Nat) → Nat
  | [] => 0
  | g :: l => numOf g + 2 ^ (8 * n) * joinGroups n l

/-- A line encoded for a lane, poisoned or not (R327, R328). -/
def encodeLine (data : LineData) (psn : Bool) : Burst :=
  BitVec.ofNat 1280 (joinGroups 10 ((groupsOf 8 16 data.toNat).map (fun g => encodeWord g psn)))

/-- A class that Table INT-4 counts as poison. -/
def WordClass.isPoison : WordClass → Bool
  | .poison | .poisonCorrected _ => true
  | _ => false

/-- The position a class corrected. -/
def WordClass.at? : WordClass → Option Nat
  | .corrected i | .poisonCorrected i => some i
  | _ => none

/-- The outcome of a line from its codewords (Table INT-4). -/
def lineOut (cs : List WordClass) : LineOut :=
  if cs.contains .uncorrectable then .uncorrectable
  else if cs.all (fun c => !c.isPoison) then
    if cs.any (fun c => c.at?.isSome) then .corrected else .clean
  else if cs.all WordClass.isPoison then
    if cs.any (fun c => c.at?.isSome) then .poisonCorrected else .poison
  else .uncorrectable

/-- Decodes a burst of a rank with an erased device or none (R329 to R331). -/
def decodeLine (b : Burst) (erased : Option Nat) : Decoded :=
  let raw := groupsOf 10 16 b.toNat
  let ws := raw.map (fun c => match erased with | some k => decodeErased k c | none => decodeWord c)
  let out := lineOut (ws.map (·.1))
  let sym := if out = .uncorrectable then raw else ws.map (·.2)
  let hit := ws.filterMap (fun w => w.1.at?)
  ⟨out, BitVec.ofNat 1024 (joinGroups 8 (sym.map (·.take 8))), (List.range 10).filter (fun i => hit.contains i)⟩

end Sys2Proof.Machine
end

