-- ==== Sys2Proof/Machine/Cache.lean ====
section
/-! DEFINITION. Sets, ways and headers of the external cache: address mapping, the header layout, replacement, and the
allocation policy (R33 to R60, R200 to R202, R297). -/

namespace Sys2Proof.Machine

/-! ## Geometry -/

/-- Data lanes per way group, L (Table CAC-2). -/
def Dev.lanesPerGroup (d : Dev) : Nat := ([1, 2, 4][d.get R.DSC_CFG.DLANES]?).getD 1

/-- The density in Gb of a density code. -/
def densityGb (c : Nat) : Nat := ([16, 24, 32][c]?).getD 16

/-- Density of a lane in Gb: the header lanes are 16 and 17 (R296). -/
def Dev.laneGb (d : Dev) (lane : Nat) : Nat :=
  densityGb (if lane < 16 then d.get R.DSC_CFG.DDENS else d.get R.DSC_CFG.HDENS)

/-- Ranks of a lane. -/
def Dev.laneRanks (d : Dev) (lane : Nat) : Nat :=
  1 + (if lane < 16 then d.get R.DSC_CFG.DRANKS else d.get R.DSC_CFG.HRANKS)

/-- A lane is populated (Table CAC-2). -/
def Dev.populated (d : Dev) (lane : Nat) : Bool := lane == 16 || lane == 17 || (lane < 16 && lane % 4 < d.lanesPerGroup)

/-- The set count S: data capacity divided by 16 KiB (R33). -/
def Dev.sets (d : Dev) : Nat := 4 * d.lanesPerGroup * d.laneGb 0 * d.laneRanks 0 * 65536

/-- The rank of a line slot: slot div N with N = D × 2^23 (Table DST-4). -/
def Dev.rankOf (d : Dev) (lane slot : Nat) : Nat := slot / (d.laneGb lane * 2 ^ 23)

/-- The device address of a line slot of a lane (R297, Table DST-4). -/
def Dev.devAddr (d : Dev) (lane slot : Nat) : DevAddr :=
  let p := slot % (d.laneGb lane * 2 ^ 23)
  ⟨d.rankOf lane slot, bits p 5 3, bits p 7 6, p / 2048, 256 * bits p 10 8 + 32 * bits p 2 0⟩

/-- The set of a line (R34). -/
def Dev.setOf (d : Dev) (line : Nat) : Nat := sectorOf line % d.sets

/-- The tag of a line (R34). -/
def Dev.tagOf (d : Dev) (line : Nat) : Nat := sectorOf line / d.sets

/-- The line address of line n of the sector with a tag in a set. -/
def Dev.lineAt (d : Dev) (set tag n : Nat) : Nat := (tag * d.sets + set) * 8 + n

/-- The lane and line slot of line n of way w of set i (R39). -/
def Dev.lineLoc (d : Dev) (i w n : Nat) : Nat × Nat :=
  let l := d.lanesPerGroup
  (4 * (w / 4) + i % l, ((i / l) * 4 + w % 4) * 8 + n)

/-- The lane and line slot of a set's header (R40). -/
def headerLoc (i : Nat) : Nat × Nat := (16 + i % 2, i / 2)

/-! ## Accesses and activates (R308) -/

/-- The place of a bank in a lane's activate counts. -/
def bankAt (rank bank : Nat) : Nat := 32 * rank + bank

/-- The number of a device address's bank: four to a bank group (log entry 80). -/
def bankNo (a : DevAddr) : Nat := 4 * a.bg + a.ba

/-- The activates counted at a place. -/
def actsAt (l : List (Nat × Nat)) (b : Nat) : Nat :=
  match l.find? (fun e => e.1 == b) with
  | some e => e.2
  | none => 0

/-- The counts with another count at a place; a count of 0 is not listed. -/
def setActs (l : List (Nat × Nat)) (b n : Nat) : List (Nat × Nat) :=
  let rest := l.filter (fun e => e.1 != b)
  if n = 0 then rest else (b, n) :: rest

/-- An access that finds its row closed activates it; where the devices require refresh management the bank counts it
(R308, R545). -/
def Dev.countAct (d : Dev) (lane : Nat) (a : DevAddr) : Dev :=
  let r := d.takeFree
  if Config.rowClosed r.1 then
    let l := d.lane lane
    let d := r.2.pmu1 (0x242 + 8 * lane)
    let b := bankAt a.rank (bankNo a)
    if l.rfm then d.setLane lane { l with acts := setActs l.acts b (actsAt l.acts b + 1) } else d
  else r.2

/-- The banks that a test selects have n activates fewer. -/
def Dev.easeActs (d : Dev) (lane n : Nat) (p : Nat → Bool) : Dev :=
  let l := d.lane lane
  let acts := l.acts.map (fun e => if p e.1 then (e.1, e.2 - n) else e)
  d.setLane lane { l with acts := acts.filter (fun e => e.2 != 0) }

/-- A BL32 read of a line slot is driven. -/
def Dev.driveRd (d : Dev) (lane slot : Nat) : Dev :=
  let a := d.devAddr lane slot
  (d.countAct lane a).emit (.laneRd lane a)

/-- A BL32 write of a line slot is driven. -/
def Dev.driveWr (d : Dev) (lane slot : Nat) (b : Burst) : Dev :=
  let a := d.devAddr lane slot
  (d.countAct lane a).emit (.laneWr lane a b)

end Sys2Proof.Machine

namespace Sys2Proof

/-! ## Headers (R41, R42) -/

/-- An unoccupied way. -/
def Way.empty : Way := ⟨0, 0, 0, false, false, 0⟩

/-- The zero header. -/
def Header.zero : Header := ⟨List.replicate 16 Way.empty, 0, 0⟩

/-- The 56 bits of a way entry (Table CAC-4). -/
def Way.pack (w : Way) : Nat :=
  w.tag.toNat + w.v.toNat * 2 ^ 28 + w.dty.toNat * 2 ^ 36 + (if w.exc then 2 ^ 44 else 0) +
  (if w.str then 2 ^ 45 else 0) + w.age.toNat * 2 ^ 48

/-- A way entry from its 56 bits; reserved bits are ignored. -/
def Way.unpack (x : Nat) : Way :=
  ⟨BitVec.ofNat 28 x, BitVec.ofNat 8 (x / 2 ^ 28), BitVec.ofNat 8 (x / 2 ^ 36), x.testBit 44, x.testBit 45,
   BitVec.ofNat 4 (x / 2 ^ 48)⟩

/-- The way entries as one number, way 0 in the lowest 7 bytes. -/
def packWays : List Way → Nat
  | [] => 0
  | w :: l => w.pack + 2 ^ 56 * packWays l

/-- The first n way entries of a number. -/
def unpackWays : Nat → Nat → List Way
  | 0, _ => []
  | n + 1, x => Way.unpack (x % 2 ^ 56) :: unpackWays n (x / 2 ^ 56)

/-- The 128 bytes of a header (Table CAC-3). -/
def Header.pack (h : Header) : LineData :=
  BitVec.ofNat 1024 (packWays h.ways + h.hseq.toNat * 2 ^ 896 + h.wgOff.toNat * 2 ^ 928)

/-- A header from its 128 bytes. -/
def Header.unpack (l : LineData) : Header :=
  ⟨unpackWays 16 (l.toNat % 2 ^ 896), BitVec.ofNat 32 (l.toNat / 2 ^ 896), BitVec.ofNat 4 (l.toNat / 2 ^ 928)⟩

/-- A way of a header. -/
def Header.way (h : Header) (w : Nat) : Way := (h.ways[w]?).getD Way.empty

/-- Replaces a way. -/
def Header.setWay (h : Header) (w : Nat) (x : Way) : Header := { h with ways := h.ways.set w x }

/-- A way is occupied (R36). -/
def Way.occupied (w : Way) : Bool := w.v != 0

/-- The way that holds a tag. -/
def Header.find (h : Header) (tag : Nat) : Option Nat :=
  (List.range 16).find? (fun w => (h.way w).occupied && (h.way w).tag.toNat == tag)

/-- A bit of an 8-bit map set or cleared. -/
def set8 (m : BitVec 8) (n : Nat) (b : Bool) : BitVec 8 := Machine.putBit m n b

/-- A way made unoccupied (Tables CAC-4, CAC-6). -/
def Header.clearWay (h : Header) (w : Nat) : Header := h.setWay w Way.empty

/-- A line of a way made invalid; the way becomes unoccupied with its last line. -/
def Header.dropLine (h : Header) (w n : Nat) : Header :=
  let x := h.way w
  let x := { x with v := set8 x.v n false, dty := set8 x.dty n false }
  if x.v = 0 then h.clearWay w else h.setWay w x

/-! ## Replacement (R53 to R55) -/

/-- Every other occupied way of a powered group with AGE < a gains 1, up to 15 (Table CAC-6). -/
def Header.olderThan (h : Header) (w a : Nat) (on : BitVec 4) : Header :=
  { h with ways := h.ways.mapIdx (fun k x =>
      if k != w && x.occupied && on.getLsbD (k / 4) && x.age.toNat < a then
        { x with age := BitVec.ofNat 4 (min 15 (x.age.toNat + 1)) }
      else x) }

/-- A read hit, or a line fill for a read into an occupied way (Table CAC-6). -/
def Header.readHit (h : Header) (w : Nat) (on : BitVec 4) : Header :=
  let x := h.way w
  if x.str then h else (h.olderThan w x.age.toNat on).setWay w { x with age := 0 }

/-- A way allocated for a tag: stream age, or as a read hit with the previous value of the victim (Table CAC-6). -/
def Header.allocate (h : Header) (w tag : Nat) (stream : Bool) (strmAge : Nat) (exc : Bool) (on : BitVec 4) : Header :=
  let x := h.way w
  let h := { h with wgOff := Machine.putBit h.wgOff (w / 4) false }
  if stream then h.setWay w ⟨BitVec.ofNat 28 tag, 0, 0, exc, true, BitVec.ofNat 4 strmAge⟩
  else (h.olderThan w (if x.occupied then x.age.toNat else 16) on).setWay w ⟨BitVec.ofNat 28 tag, 0, 0, exc, false, 0⟩

/-- The age by which a way is chosen: an unoccupied way is older than any occupied one (R54). -/
def Way.rank (w : Way) : Nat := if w.occupied then w.age.toNat else 16

/-- The oldest way of a list, the lowest number on a tie (R54). -/
def Header.oldest (h : Header) : List Nat → Option Nat
  | [] => none
  | w :: l =>
    match h.oldest l with
    | none => some w
    | some k => if (h.way k).rank ≤ (h.way w).rank then some w else some k

end Sys2Proof

namespace Sys2Proof.Machine

/-! ## Allocation policy (R56 to R60) -/

/-- The policy of a line: POL and RDONCE_ALLOC of the first enabled range that holds it, else of AMP_DEFAULT (R56); with SERVE 0
what enters the pipeline allocates nothing (R60, R473). -/
def Dev.policy (d : Dev) (line : Nat) : Nat × Bool :=
  let a := line * 128
  let p := match (List.range 16).find? (fun n =>
    let b := 0x11100 + 0x20 * n
    (d.raw0 (b + 16)).getLsbD 0 && d.get64 b / 65536 * 65536 ≤ a && a ≤ d.get64 (b + 8) / 65536 * 65536 + 65535) with
  | some n => (bits (d.raw0 (0x11110 + 0x20 * n)).toNat 2 1, (d.raw0 (0x11110 + 0x20 * n)).getLsbD 3)
  | none => (d.get R.AMP_DEFAULT.POL, d.flag R.AMP_DEFAULT.RDONCE_ALLOC)
  if d.flag R.GCR_CFG.SERVE then p else (2, p.2)

/-- The classes of request of Table CAC-8. -/
inductive AllocClass where
  | read | readOnce | write | part
  deriving DecidableEq, Repr

/-- Allocation on a miss (Table CAC-8): none, or whether at stream age. -/
def allocBy (c : AllocClass) (pol : Nat) (once : Bool) : Option Bool :=
  match c with
  | .read => if pol = 2 then none else some (pol == 3)
  | .readOnce => if once && pol != 2 then some (pol == 3) else none
  | .write | .part => if pol = 0 then some false else if pol = 3 then some true else none

/-- The device may allocate in a set at all: not in Drain, Train or Recovery, nor in a quarantined set (R46, R453, R454,
R474); Pass-through is part of the policy that a request entered with (R60, R473). -/
def Dev.mayAllocate (d : Dev) (set : Nat) : Bool := d.gcr.mode.service58 && !d.pip.quar.contains set

/-- Allocation on a miss under the policy a request entered the pipeline with (R57). -/
def Dev.allocWith (d : Dev) (pol : Nat × Bool) (c : AllocClass) (line : Nat) : Option Bool :=
  if d.mayAllocate (d.setOf line) then allocBy c pol.1 pol.2 else none

/-- Allocation on a miss of what enters the pipeline now. -/
def Dev.allocFor (d : Dev) (c : AllocClass) (line : Nat) : Option Bool := d.allocWith (d.policy line) c line

/-! ## Memory ports (R200 to R202) -/

/-- The populated memory ports in ascending order. -/
def Dev.memPorts (d : Dev) : List Nat := (List.range 8).filter (fun n => (d.get R.AMP_MEM_CFG.PORT_EN).testBit n)

/-- The backing-memory size M in bytes. -/
def Dev.memSize (d : Dev) : Nat :=
  if d.gcr.role = .worker then 0 else d.memPorts.length * d.get R.AMP_MEM_CAP.CAP * 2 ^ 30

/-- AMP_SDR_BASE: M − M/256. -/
def Dev.sdrBase (d : Dev) : Nat := d.memSize - d.memSize / 256

/-- The memory port of a byte address and the address within it (R201). -/
def Dev.memLoc (d : Dev) (a : Nat) : Nat × Nat :=
  let p := d.memPorts
  let c := a / 4096
  ((p[c % p.length]?).getD 0, c / p.length * 4096 + a % 4096)

end Sys2Proof.Machine
end

