-- ==== Sys2Proof/Machine/Store.lean ====
section
/-! DEFINITION. Lane accesses: writes with the flip mask, reads with the checker's counts, repairs and sparing, and the
loss of a lane (R319 to R323, R328 to R341, R357, R570). -/

namespace Sys2Proof.Machine

/-! ## Contents of the lanes -/

/-- The key of a line slot of a lane. -/
def slotKey (lane slot : Nat) : Nat := lane * 2 ^ 32 + slot

/-- The burst a line slot holds; the arrays hold zero words after reset (R359). -/
def Dev.burst (d : Dev) (lane slot : Nat) : Burst := (bankGet d.store (slotKey lane slot)).getD 0

/-- Stores a burst; a zero burst is not listed. -/
def Dev.putBurst (d : Dev) (lane slot : Nat) (b : Burst) : Dev :=
  { d with store := if b = 0 then bankErase d.store (slotKey lane slot) else bankSet d.store (slotKey lane slot) b }

/-- The erased device of a rank; DEV above 9 acts as not valid (R342). -/
def Dev.erased (d : Dev) (lane rank : Nat) : Option Nat :=
  let ev := if rank = 0 then R.ECC_ERASEn.EV0 lane else R.ECC_ERASEn.EV1 lane
  let k := d.get (if rank = 0 then R.ECC_ERASEn.DEV0 lane else R.ECC_ERASEn.DEV1 lane)
  if d.flag ev && k ≤ 9 then some k else none

/-! ## Writes -/

/-- The mask a device's symbol takes, in codeword cw or in all; a device above 9 alters nothing (R357). -/
def flipBits (dev mask cw : Nat) (all : Bool) : Nat :=
  if 9 < dev then 0
  else (List.range 16).foldl (fun a j => if all || j == cw then a + mask * 2 ^ (80 * j + 8 * dev) else a) 0

/-- The next write of the armed lane is altered after encoding; ARMED clears, FLIP_DONE is raised (R357). -/
def Dev.flipWrite (d : Dev) (lane slot : Nat) (b : Burst) : Burst × Dev :=
  if d.ecc.armed && d.get R.ECC_FLIP_CFG.LANE == lane then
    let cw := d.get R.ECC_FLIP_CFG.CW
    let all := d.flag R.ECC_FLIP_CFG.ALL
    let a := flipBits (d.get R.ECC_FLIP_CFG.DEVA) (d.get R.ECC_FLIP_MASK.MASKA) cw all
    let m := flipBits (d.get R.ECC_FLIP_CFG.DEVB) (d.get R.ECC_FLIP_MASK.MASKB) cw all
    let d := ({ d with ecc := { d.ecc with armed := false } }).set64 R.ECC_FLIP_ADDR_LO.ADDR_LO.ofs (slot * 128)
    (b ^^^ BitVec.ofNat 1280 a ^^^ BitVec.ofNat 1280 m, d.raise R.ECC_EVT.FLIP_DONE)
  else (b, d)

/-- One BL32 write of a lane, encoded afresh; a lost lane is not accessed (R319, R327). -/
def Dev.laneWrite (d : Dev) (lane slot : Nat) (data : LineData) (psn : Bool) : Dev :=
  if (d.lane lane).st = 5 then d
  else
    let r := d.flipWrite lane slot (encodeLine data psn)
    let d := ((r.2.pmu1 (0x240 + 8 * lane + 1)).pmu1 0x002 32).putBurst lane slot r.1
    (if 16 ≤ lane then d.pmu1 0x02C else d).driveWr lane slot r.1

/-! ## Lane loss (R319 to R323) -/

/-- The domain of way group g. -/
def groupDomain (g : Nat) : Nat := 5 + g

/-- The way groups whose domain is on. -/
def Dev.groupsOn (d : Dev) : BitVec 4 := BitVec.ofNat 4 (d.pwr.on.toNat / 32)

/-- PWR_WG_REQ[g] set or cleared. -/
def Dev.setWgReq (d : Dev) (g : Nat) (b : Bool) : Dev := d.set ⟨R.PWR_WG_REQ.REQ.ofs, g, g⟩ (if b then 1 else 0)

/-- A loss sweep of group g begins, takes over the sweep of g, stops another's, or waits (R320, R322). -/
def Dev.startLossSweep (d : Dev) (g : Nat) : Dev :=
  let fresh : Sweep := ⟨g, 0, true⟩
  match d.pip.sweep with
  | none => { d with pip := { d.pip with sweep := some fresh, lastGroup := g } }
  | some w =>
    if w.g = g then { d with pip := { d.pip with sweep := some { w with loss := true } } }
    else if w.loss then { d with pip := { d.pip with lossWait := d.pip.lossWait ++ [g] } }
    else ({ d with pip := { d.pip with sweep := some fresh, lastGroup := g } }).setWgReq w.g false

/-- Every group the device has lost is powered down on both sides of the pair: before, a mirror side may not rejoin (R324; log
entry 85). -/
def Dev.lostDown (d : Dev) : Bool :=
  d.pip.lost == 0 || ((d.pip.lost &&& d.groupsOn) == 0 && !Config.peerGroupOn d.free)

/-- A data lane's group is out of service (R320); with every group lost or off the device enters Recovery (R323). -/
def Dev.loseGroup (d : Dev) (g : Nat) : Dev :=
  if d.pip.lost.getLsbD g then d
  else
    let d := ({ d with pip := { d.pip with lost := putBit d.pip.lost g true } }).startLossSweep g
    if (d.pip.lost ||| ~~~ d.groupsOn) = BitVec.allOnes 4 then d.enterRecovery else d

/-- The way group of a lane is waking. -/
def Dev.laneWaking (d : Dev) (n : Nat) : Bool := n < 16 && d.pwr.waking.getLsbD (n / 4)

/-- A lane of group g fails: the group is out of service; one that was waking is lost again (R320, R325). -/
def Dev.groupFails (d : Dev) (g : Nat) : Dev :=
  if d.pwr.waking.getLsbD g then
    ((({ d with pwr := { d.pwr with waking := putBit d.pwr.waking g false },
                pip := { d.pip with lost := putBit d.pip.lost g false } }).dropToken 3 g)).loseGroup g
  else d.loseGroup g

/-- A lane is lost: cause 0 training, 1 power-good, 2 errors. A lost header lane sends the device into Recovery; a mirror
side that loses a lane enters DETACHED (R319, R323, R324, R340). -/
def Dev.loseLane (d : Dev) (lane cause : Nat) : Dev :=
  if (d.lane lane).st = 5 then d
  else
    let d := (d.setLane lane { d.lane lane with st := 5, lost := true, live := false, due0 := 0, due1 := 0 }).report R.DSC_EVT.LANE_LOST lane cause 0 0
    let d := if 16 ≤ lane then d.enterRecovery else d.groupFails (lane / 4)
    if d.isMirror then ({ d with twn := { d.twn with st := .detached } }).enterRecovery else d.remode

/-! ## Counting errors (R335 to R341) -/

/-- A device of a rank is marked erased, and its hard entries are freed (R338). -/
def Dev.spare (d : Dev) (lane rank dev : Nat) : Dev :=
  let d := if rank = 0 then (d.set (R.ECC_ERASEn.DEV0 lane) dev).set (R.ECC_ERASEn.EV0 lane) 1
    else (d.set (R.ECC_ERASEn.DEV1 lane) dev).set (R.ECC_ERASEn.EV1 lane) 1
  let d := d.report R.ECC_EVT.SPARED lane (16 * rank + dev) 0 0
  ({ d with ecc := { d.ecc with
      loc := d.ecc.loc.filter (fun l => !(l.hard && l.lane == lane && l.rank == rank && l.dev == dev)) } }).remode

/-- The hard count of a device. -/
def Dev.hardCount (d : Dev) (lane rank dev : Nat) : Nat :=
  match d.ecc.hard.find? (fun e => e.1 == lane && e.2.1 == rank && e.2.2.1 == dev) with
  | some e => e.2.2.2
  | none => 0

/-- A location is marked hard; its device's hard count grows and may reach HARD_THR (R336, R338). -/
def Dev.markHard (d : Dev) (lane rank dev : Nat) : Dev :=
  let n := d.hardCount lane rank dev + 1
  let d := (d.bumpSat R.ECC_HARD_CNT.HARD 1).raise R.ECC_EVT.HARD
  let rest := d.ecc.hard.filter (fun e => !(e.1 == lane && e.2.1 == rank && e.2.2.1 == dev))
  let d := { d with ecc := { d.ecc with hard := rest ++ [(lane, rank, dev, n)] } }
  if max 1 (d.get R.ECC_CFG.HARD_THR) ≤ n then d.spare lane rank dev else d

/-- A location names a device position of a slot. -/
def Loc.is (l : Loc) (lane rank dev slot : Nat) : Bool :=
  l.lane == lane && l.rank == rank && l.dev == dev && l.slot == slot

/-- The lowest count among entries that are not hard. -/
def lowestCount : List Loc → Option Nat
  | [] => none
  | l :: ls =>
    match lowestCount ls with
    | none => if l.hard then none else some l.count
    | some n => if l.hard then some n else some (min n l.count)

/-- The list without its first entry that is not hard and has a count. -/
def dropLoc (n : Nat) : List Loc → List Loc
  | [] => []
  | l :: ls => if !l.hard && l.count == n then ls else l :: dropLoc n ls

/-- A new location takes a free entry, or the oldest with the lowest count; with every entry hard it is not tracked
(R336, R337). -/
def Dev.newLoc (d : Dev) (l : Loc) : Dev :=
  if d.ecc.loc.length < 1024 then { d with ecc := { d.ecc with loc := d.ecc.loc ++ [l] } }
  else match lowestCount d.ecc.loc with
    | some n => { d with ecc := { d.ecc with loc := dropLoc n d.ecc.loc ++ [l] } }
    | none => d.raise R.ECC_EVT.LOC_FULL

/-- One correction event of a device position (R335, R336). -/
def Dev.correction (lane rank slot : Nat) (d : Dev) (dev : Nat) : Dev :=
  if (d.erased lane rank).isSome then d
  else match d.ecc.loc.find? (fun l => l.is lane rank dev slot) with
    | some l =>
      if l.hard then d
      else
        let l2 := { l with count := l.count + 1, hard := l.count + 1 == 3 }
        let d := { d with ecc := { d.ecc with loc := mapIf (fun x => x.is lane rank dev slot) (fun _ => l2) d.ecc.loc } }
        if l2.hard then d.markHard lane rank dev else d
    | none => d.newLoc ⟨lane, rank, dev, slot, 1, false⟩

/-- The uncorrectable total of a rank in the window. -/
def Dev.ueTotal (d : Dev) (lane rank : Nat) : Nat :=
  match d.ecc.ue.find? (fun e => e.1 == lane && e.2.1 == rank) with
  | some e => e.2.2
  | none => 0

/-- An Uncorrectable read counts toward its rank's total, and may lose the lane (R341). -/
def Dev.countUe (d : Dev) (lane rank : Nat) : Dev :=
  let n := d.ueTotal lane rank + 1
  let d := (d.bumpSat R.ECC_UE_CNT.UE 1).raise R.ECC_EVT.UE
  let d := { d with ecc := { d.ecc with
      ue := d.ecc.ue.filter (fun e => !(e.1 == lane && e.2.1 == rank)) ++ [(lane, rank, n)] } }
  if max 1 (d.get R.ECC_CFG.LOSS_THR) ≤ n then (d.raise R.ECC_EVT.UE_LOSS).loseLane lane 2 else d

/-- The correction window closes: entries that are not hard are freed, totals start again (R335, R336, R341). -/
def Dev.closeWindow (d : Dev) : Dev :=
  { d with ecc := { d.ecc with loc := d.ecc.loc.filter (·.hard), ue := [] } }

/-! ## Reads -/

/-- A corrected line counts, is traced to its devices, and is written back (R332, R335). -/
def Dev.corrected (d : Dev) (lane slot : Nat) (r : Decoded) (psn : Bool) : Dev :=
  let d := ((d.bump64 R.ECC_CE_CNT_LO.CE_LO.ofs 1).raise R.ECC_EVT.CE).pmu1 0x02A
  let d := (d.pmu1 (0x240 + 8 * lane + 5)).laneWrite lane slot r.data psn
  r.pos.foldl (Dev.correction lane (d.rankOf lane slot) slot) d

/-- A Poison line read. -/
def Dev.poisonRead (d : Dev) : Dev := (d.bumpSat R.ECC_POISON_CNT.PSN 1).raise R.ECC_EVT.POISON_RD

/-- One BL32 read of a lane: what it holds with the errors of this read, decoded, counted and repaired (R329 to R341,
R570). -/
def Dev.laneRead (d : Dev) (lane slot : Nat) (noise : Burst) : Decoded × Dev :=
  let rank := d.rankOf lane slot
  let r := decodeLine (d.burst lane slot ^^^ noise) (d.erased lane rank)
  let d := (d.pmu1 (0x240 + 8 * lane)).pmu1 0x002 32
  let d := if 16 ≤ lane then d.pmu1 0x02B else d
  let hdr := decide (16 ≤ lane)
  (r, match r.out with
    | .clean => d
    | .corrected => d.corrected lane slot r false
    | .poison => if hdr then d.countUe lane rank else d.poisonRead
    | .poisonCorrected => if hdr then (r.pos.foldl (Dev.correction lane rank slot) d).countUe lane rank else (d.corrected lane slot r true).poisonRead
    | .uncorrectable =>
      let d := if !hdr && d.gcr.mode.serving then d.laneWrite lane slot r.data true else d
      d.countUe lane rank)

/-- The payload a data-lane read delivers (Table INT-4). -/
def Decoded.payload (r : Decoded) : Payload :=
  ⟨r.data, match r.out with | .clean | .corrected => false | _ => true⟩

end Sys2Proof.Machine
end

