-- ==== Sys2Proof/Machine/Hdc.lean ====
section
/-! DEFINITION. The header cache: lookups, changes, header-lane writes, evictions, fetches and prefetches, and quarantine
(R43 to R52, R454). -/

namespace Sys2Proof

/-- A phase in which a transaction is active on its line. -/
def Phase.active : Phase → Bool
  | .standby | .waitPlace | .queued => false
  | _ => true

end Sys2Proof

namespace Sys2Proof.Machine

/-! ## Free lines -/

/-- A line whose data the manual does not give. -/
def Dev.freeLine (d : Dev) : LineData × Dev := (Config.freeLine d.takeFree.1, d.takeFree.2)

/-- A poisoned line whose data the manual does not give. -/
def Dev.freePoison (d : Dev) : Payload × Dev := (⟨d.freeLine.1, true⟩, d.freeLine.2)

/-! ## Activity of lines -/

/-- Some transaction of the set is active, or back-invalidates a line of it: its header is pinned (R49). -/
def Dev.pinned (d : Dev) (set : Nat) : Bool :=
  d.cnf.txns.any (fun t => t.phase.active && t.line < 2 ^ 41 &&
    (d.setOf t.line == set || (match t.victim with | some v => d.setOf v == set | none => false)))

/-! ## Lookups and changes -/

/-- The header of a set, if HDC holds it. -/
def Dev.header? (d : Dev) (set : Nat) : Option Header := (d.hdc.ents.find? (fun e => e.set == set)).map (·.hdr)

/-- Replaces the entries of HDC. -/
def Dev.setHdc (d : Dev) (l : List HdcEnt) : Dev := { d with hdc := { d.hdc with ents := l } }

/-- The entry of a set becomes the most recently used. -/
def Dev.useHeader (d : Dev) (set : Nat) : Dev :=
  d.setHdc (d.hdc.ents.filter (fun e => e.set == set) ++ d.hdc.ents.filter (fun e => e.set != set))

/-- A header changed in HDC; the change is a mirror item (R210). -/
def Dev.putHeader (d : Dev) (set : Nat) (h : Header) : Dev :=
  if d.header? set = some h then d
  else (d.setHdc (⟨set, h, true⟩ :: d.hdc.ents.filter (fun e => e.set != set))).mirror (.header set h false)

/-- A header is written to its header lane with HSEQ one higher (R43). -/
def Dev.writeHeader (d : Dev) (e : HdcEnt) : Dev :=
  (d.laneWrite (headerLoc e.set).1 (headerLoc e.set).2 { e.hdr with hseq := e.hdr.hseq + 1 }.pack false)

/-- A changed header goes to its lane and stays in HDC unchanged (R49, R52). -/
def Dev.cleanHeader (d : Dev) (e : HdcEnt) : Dev :=
  let d := d.writeHeader e
  d.setHdc (mapIf (fun x => x.set == e.set) (fun x => { x with hdr := { x.hdr with hseq := x.hdr.hseq + 1 }, changed := false })
    d.hdc.ents)

/-- The entries of the HDC set of a header. -/
def Dev.hdcSet (d : Dev) (set : Nat) : List HdcEnt := d.hdc.ents.filter (fun e => e.set % 8192 == set % 8192)

/-- Fetches in flight for an HDC set: each holds the way it will fill, so that no header is fetched twice (R49). -/
def Dev.hdcFetches (d : Dev) (set : Nat) : Nat := (d.hdc.fetch.filter (fun n => n % 8192 == set % 8192)).length

/-- Room for a header in its HDC set: its set has a free way, or the least recently used unpinned entry leaves, written
back if changed; none when every entry is pinned (R49). A prefetch takes no changed entry (R51). -/
def Dev.makeRoom (d : Dev) (set : Nat) (prefetch : Bool) : Option Dev :=
  let es := d.hdcSet set
  if es.length + d.hdcFetches set < 16 then some d
  else match es.reverse.find? (fun e => !d.pinned e.set) with
    | none => none
    | some e =>
      if prefetch && e.changed then none
      else
        let d := if e.changed then d.writeHeader e else d
        some (d.setHdc (d.hdc.ents.filter (fun x => x.set != e.set)))

/-- A header enters HDC as the most recently used. -/
def Dev.installHeader (d : Dev) (set : Nat) (h : Header) : Dev :=
  d.setHdc (⟨set, h, false⟩ :: d.hdc.ents.filter (fun e => e.set != set))

/-! ## Fetches -/

/-- Starts a fetch of a header that is not in HDC and not in flight, where its HDC set has room; a lost lane is not read
(R49, R50, R319). -/
def Dev.startFetch (d : Dev) (set : Nat) (prefetch : Bool) : Dev :=
  if d.hdc.fetch.contains set || (d.header? set).isSome || (d.lane (headerLoc set).1).st == 5 then d
  else match d.makeRoom set prefetch with
    | none => d
    | some d => ({ d with hdc := { d.hdc with fetch := d.hdc.fetch ++ [set] } }).driveRd
        (headerLoc set).1 (headerLoc set).2

/-- A prefetch of one header; a fully pinned HDC set is skipped (R49, R51). -/
def Dev.prefetch (d : Dev) (set : Nat) : Dev := d.startFetch set true

/-- A request misses HDC: its header is fetched, unless it is already or its HDC set is fully pinned, and so are the next
PREF_DEPTH headers (R49 to R51). -/
def Dev.missHeader (d : Dev) (set : Nat) : Dev :=
  let d := (d.pmu1 0x009).startFetch set false
  ((List.range (d.get R.HDC_CFG.PREF_DEPTH)).map (fun k => (set + 1 + k) % d.sets)).foldl Dev.prefetch d

/-! ## Uncorrectable headers (R45, R47) -/

/-- A header found uncorrectable in modes 5 to 9: listed, where it is not listed yet, and replaced by a zero header, or
Recovery when the list is full. -/
def Dev.badHeader (d : Dev) (set : Nat) : Dev :=
  let d := d.report R.PIP_EVT.HDR_QUAR 0 0 set 0
  let listed := d.pip.quar.contains set
  if 64 ≤ d.pip.quar.length ∧ !listed then d.enterRecovery
  else
    let d := { d with pip := { d.pip with quar := if listed then d.pip.quar else d.pip.quar ++ [set] } }
    (d.laneWrite (headerLoc set).1 (headerLoc set).2 0 false).mirror (.header set Header.zero true)

/-- A header-lane read: the header, none when it is uncorrectable or its lane is lost, and the device after it (R45, R319,
R331, R570). -/
def Dev.readHeader (d : Dev) (set : Nat) (noise : Burst) : Option Header × Dev :=
  if (d.lane (headerLoc set).1).st = 5 then (none, d)
  else
  let r := d.laneRead (headerLoc set).1 (headerLoc set).2 noise
  match r.1.out with
  | .clean | .corrected => (some (Header.unpack r.1.data), r.2)
  | _ => (none, if r.2.gcr.mode.serving then r.2.badHeader set else r.2)

/-- What a request finds of its set's header: a header, a quarantined set, or one that Recovery cannot use (R46, R454). -/
inductive HdrStat where
  | ok (h : Header) | quarantined | unusable
  deriving DecidableEq, Repr

/-- The set's header cannot be used before any lookup: quarantined, or in Recovery its lane or HDC's copy of it lost. -/
def Dev.hdrBlocked (d : Dev) (set : Nat) : Option HdrStat :=
  if d.pip.quar.contains set then some (if d.gcr.mode = .recovery then .unusable else .quarantined)
  else if (d.lane (headerLoc set).1).st = 5 ∨ d.pip.unread.contains set then some .unusable
  else none

/-! ## Ways -/

/-- The populated lanes of a group. -/
def Dev.groupLanes (d : Dev) (g : Nat) : List Nat := (List.range d.lanesPerGroup).map (fun k => 4 * g + k)

/-- Group g may take allocations and fills: powered, not lost, its lanes ready, and no sweep of it runs (R53, R76, R320). -/
def Dev.groupUsable (d : Dev) (g : Nat) : Bool :=
  d.groupsOn.getLsbD g && !d.pip.lost.getLsbD g && (d.groupLanes g).all (fun n => (d.lane n).st == 3) &&
  !d.pip.sweep.any (fun w => w.g == g)

/-- An allocation into a way is in progress. -/
def Dev.allocating (d : Dev) (set w : Nat) : Bool := d.pip.alloc.any (fun a => a.1 == set && a.2.1 == w)

/-- A line of a way becomes invalid in a header; a way that is still being filled keeps its sector when it loses its last
line (R63). -/
def Dev.dropFrom (d : Dev) (set : Nat) (h : Header) (w n : Nat) : Header :=
  let g := h.dropLine w n
  if d.allocating set w && !(g.way w).occupied then g.setWay w { Way.empty with tag := (h.way w).tag } else g

/-- The way that holds or is being given the sector of a line: its V bits, or an allocation in progress (R63). -/
def Dev.wayOf (d : Dev) (h : Header) (line : Nat) : Option Nat :=
  let tag := d.tagOf line
  match h.find tag with
  | some w => some w
  | none => (List.range 16).find? (fun w => d.allocating (d.setOf line) w && (h.way w).tag.toNat == tag)

/-- The way that holds a valid copy of the line. -/
def Dev.hitWay (d : Dev) (h : Header) (line : Nat) : Option Nat :=
  match h.find (d.tagOf line) with
  | some w => if (h.way w).v.getLsbD (line % 8) then some w else none
  | none => none

/-- A line of the way of a set has a transaction. -/
def Dev.wayBusy (d : Dev) (set : Nat) (h : Header) (w : Nat) : Bool :=
  (h.way w).occupied &&
  d.cnf.txns.any (fun t => sectorOf t.line == d.lineAt set (h.way w).tag.toNat 0 / 8 ||
    (match t.victim with | some v => sectorOf v == d.lineAt set (h.way w).tag.toNat 0 / 8 | none => false)) ||
  d.scb.flight.any (fun f => (h.way w).occupied && sectorOf f.2 == d.lineAt set (h.way w).tag.toNat 0 / 8)

/-- The eligible ways of a set (R53). -/
def Dev.eligible (d : Dev) (set : Nat) (h : Header) : List Nat :=
  (List.range 16).filter (fun w => d.groupUsable (w / 4) && !d.allocating set w && !d.wayBusy set h w)

/-- The victim of a set (R54). -/
def Dev.victim (d : Dev) (set : Nat) (h : Header) : Option Nat := h.oldest (d.eligible set h)

end Sys2Proof.Machine
end

