-- ==== Sys2Proof/Machine/Wbf.lean ====
section
/-! DEFINITION. The write buffer: entries, combining, the order of writes to the next level, and their issue on the memory
ports or the uplink (R65 to R71, R201, R344, R391). -/

namespace Sys2Proof.Machine

/-- A WrPart over its base; a poisoned base leaves the line poisoned, whatever the enabled bytes are (R344). -/
def mergePart (m : Mask) (new base : Payload) : Payload := ⟨overlay m new.data base.data, new.psn || base.psn⟩

end Sys2Proof.Machine

namespace Sys2Proof

/-- A partial entry of the line that may still merge (R68). -/
def WbEnt.merges (e : WbEnt) (line : Nat) : Bool := e.line == line && e.kind == .part && e.bound && !e.issued

/-- One write merged into an entry: later bytes replace earlier ones; a clean full line clears poison (R68, R344). -/
def WbEnt.merge (e : WbEnt) (m : Mask) (p : Payload) : WbEnt :=
  let full := (e.mask ||| m) == Mask.full
  { e with mask := e.mask ||| m, age := 0, go := e.go || full,
           pay := if m = Mask.full then p else ⟨Machine.overlay m p.data e.pay.data, e.pay.psn || p.psn⟩ }

/-- An entry becomes the write of a transaction, which waits for its answer: it no longer waits to combine. -/
def WbEnt.ownedBy (e : WbEnt) (owner : Option Nat) : WbEnt :=
  match owner with
  | some id => { e with txn := some id, go := true }
  | none => e

/-- The PORT and tag of an uplink request: the agent's, or port 30 and the transaction identifier (R170). -/
def Txn.upTag (t : Txn) : Nat × Nat := match t.org with | .agent p => (p, t.tag) | _ => (30, t.id)

/-- A snoop from the manager, or DepBoard, at a worker. -/
def Txn.ofManager (t : Txn) : Bool := match t.org with | .manager _ => true | _ => false

/-- Work of an agent's request. -/
def Txn.ofAgent (t : Txn) : Bool := match t.org with | .agent _ => true | _ => false

end Sys2Proof

namespace Sys2Proof.Machine

/-! ## Entries of the transaction table -/

/-- A transaction by identifier. -/
def Dev.txn? (d : Dev) (id : Nat) : Option Txn := d.cnf.txns.find? (fun t => t.id == id)

/-- Replaces the transactions. -/
def Dev.setTxns (d : Dev) (l : List Txn) : Dev := { d with cnf := { d.cnf with txns := l } }

/-- A transaction changes; the change is a mirror item (R167). -/
def Dev.putTxn (d : Dev) (t : Txn) : Dev := (d.setTxns (mapIf (fun x => x.id == t.id) (fun _ => t) d.cnf.txns)).mirror (.txn t)

/-- The first number from k on that a list does not hold, among n. -/
def freeFrom (used : List Nat) : Nat → Nat → Option Nat
  | 0, _ => none
  | n + 1, k => if used.contains k then freeFrom used n (k + 1) else some k

/-! ## Pool -/

/-- Entries reserved per port, at most 16 (R65). -/
def Dev.portRsv (d : Dev) : Nat := min 16 (d.get R.WBF_CFG.PORT_RSV)

/-- Size of the shared pool. -/
def Dev.poolSize (d : Dev) : Nat := 1024 - 32 * d.portRsv

/-- Shared-pool entries in use. -/
def Dev.poolUsed (d : Dev) : Nat := (d.wbf.ents.filter (fun e => e.rsv.isNone && e.placed)).length

/-- Entries in use. -/
def Dev.wbUsed (d : Dev) : Nat := (d.wbf.ents.filter (·.placed)).length

/-- Free shared-pool entries. -/
def Dev.poolFree (d : Dev) : Nat := d.poolSize - d.poolUsed

/-- Shared-pool entries that may be taken: while an allocation waits for them, those that are free are kept for it (R67). -/
def Dev.poolOpen (d : Dev) : Nat := if d.pip.copyWait.isEmpty then d.poolFree else 0

/-- Replaces the entries. -/
def Dev.setWb (d : Dev) (l : List WbEnt) : Dev := { d with wbf := { d.wbf with ents := l } }

/-- The crossings of HIWAT and of a full pool, upward from an earlier use, latch (Table CAC-11). -/
def Dev.wbCross (d : Dev) (before : Nat) : Dev :=
  let d := d.raiseIf (before < d.get R.WBF_CFG.HIWAT && d.get R.WBF_CFG.HIWAT ≤ d.poolUsed) R.WBF_EVT.HIWAT
  d.raiseIf (before < d.poolSize && d.poolSize ≤ d.poolUsed) R.WBF_EVT.FULL

/-- Adds an entry at the end. With the shared pool full, data that may not be refused waits for an entry with the work
that brought it: the buffer never holds more than its 1,024 entries (R29, R159; log entry 61). -/
def Dev.wbAdd (d : Dev) (line : Nat) (mask : Mask) (p : Payload) (kind : WbKind) (rsv txn : Option Nat)
    (bound go : Bool) : Dev :=
  let before := d.poolUsed
  let room := if kind = .victim then d.poolFree else d.poolOpen
  let e : WbEnt := { line := line, mask := mask, pay := p, kind := kind, rsv := rsv, bound := bound, go := go,
                     issued := false, age := 0, txn := txn, num := d.wbf.next,
                     placed := rsv.isSome || room != 0, pol := d.policy line, ord := d.cnf.ord }
  let d := { d with wbf := { d.wbf with ents := d.wbf.ents ++ [e], next := d.wbf.next + 1 } }
  (d.wbCross before).mirror (.dirtyLine line mask p)

/-- A freed shared entry goes to the earliest waiting allocation, and with none to the oldest data that waits for one (R67). -/
def Dev.wbPlaceNext (d : Dev) : Dev :=
  match d.wbf.ents.find? (fun e => !e.placed) with
  | some e =>
    if d.poolOpen = 0 then d
    else (d.setWb (mapIf (fun x => x.num == e.num) (fun x => { x with placed := true }) d.wbf.ents)).wbCross d.poolUsed
  | none => d

/-- Every free shared entry goes to data that waits for one. -/
def Dev.wbPlaceAll (d : Dev) : Dev := (d.wbf.ents.filter (fun e => !e.placed)).foldl (fun d _ => d.wbPlaceNext) d

/-- The newest full copy of a line (R70). -/
def Dev.wbFull (d : Dev) (line : Nat) : Option WbEnt :=
  d.wbf.ents.reverse.find? (fun e => e.line == line && e.mask == Mask.full)

/-- A partial entry of a line is in the buffer (R69). -/
def Dev.wbPartial (d : Dev) (line : Nat) : Bool := d.wbf.ents.any (fun e => e.line == line && e.mask != Mask.full)

/-! ## Issue (R71) -/

/-- The active uplink's port (R168). -/
def Dev.uplink (d : Dev) : Nat := 30 + d.hie.upl

/-- The worker index (R21). -/
def Dev.widx (d : Dev) : Nat := d.get R.HIE_CFG.WIDX

/-- The transaction whose write an entry carries. -/
def Dev.wbOwner (d : Dev) (e : WbEnt) : Option Txn := e.txn.bind d.txn?

/-- The agent's transaction whose own write an entry carries. -/
def Dev.agentWrite (d : Dev) (e : WbEnt) : Option Txn := (d.wbOwner e).filter Txn.ofAgent

/-- The tags of own-work writes outstanding on an uplink. -/
def Dev.ownTags (d : Dev) : List Nat := (d.wbf.ents.filter (fun x => x.issued && (d.agentWrite x).isNone)).map (·.tag)

/-- The tag of an own-work write on an uplink: the identifier of the transaction it works for, else, or where an outstanding
write has that one, the lowest identifier that neither a transaction nor an outstanding write of this kind has (R170, log
entry 12). -/
def Dev.ownTag (d : Dev) (e : WbEnt) : Option Nat :=
  match (d.wbOwner e).filter (fun t => !d.ownTags.contains t.id) with
  | some t => some t.id
  | none => freeFrom (d.cnf.txns.map (·.id) ++ d.ownTags) 4096 0

/-- A new uplink request takes its TPH: the opposite of the latest use of its PORT and tag, whatever uses of the agent's tag
were served here meanwhile. A request that its agent sends again after a takeover keeps the one it had (R223). -/
def Dev.uplinkPhase (d : Dev) (port tag : Nat) (tph again : Bool) : Bool × Dev :=
  let key := 4096 * port + tag
  let u := match bankGet d.hie.phases key with
    | some (a, u) => if again && a == tph then u else !u
    | none => tph
  (u, ({ d with hie := { d.hie with phases := bankSet d.hie.phases key (tph, u) } }).mirror (.upUse key tph u))

/-- A memory write as two 64-byte halves, those with enabled bytes; a partial half is MemWrPtl (R391). A superseded device sends
none (R221). -/
def Dev.memWrite (d : Dev) (line : Nat) (mask : Mask) (p : Payload) : Dev :=
  if d.twn.st = .superseded then d else
  let l := d.memLoc (line * 128)
  let half (d : Dev) (k : Nat) : Dev :=
    let m := BitVec.ofNat 64 (mask.toNat / 2 ^ (64 * k))
    if m = 0 then d
    else d.emit (.memWr l.1 (l.2 + 64 * k) (m != BitVec.allOnes 64) m (BitVec.ofNat 512 (p.data.toNat / 2 ^ (512 * k))) p.psn)
  let d := half (half d 0) 1
  let d := d.pmu1 (0x200 + 8 * l.1 + 1)
  let d := if mask != Mask.full then d.pmu1 (0x200 + 8 * l.1 + 4) else d
  d.mirror (.memWrite line mask p)

/-- A line lies in the chunk of backing memory that a join is copying (R229). -/
def Dev.inChunk (d : Dev) (line : Nat) : Bool := d.twn.chunk.any (fun c => line / 32 == c.no)

/-- A memory port takes no access any more: FAILED, or removed (R393, R394). -/
def Mp.dead (m : Mp) : Bool := m.st == 4 || m.st == 5

/-- A memory port takes another line read: two MemRd, of which 256 may be in flight (R390, R391). -/
def Mp.takes (m : Mp) : Bool := m.reads.length < 128

/-- The next level can take a write of the line now; a worker that has answered a line Miss writes it only after DepAck
(R249). A chunk being copied takes none (R229), and a FAILED or removed port takes a write only to discard it (R393). -/
def Dev.canWrite (d : Dev) (line : Nat) : Bool :=
  d.twn.st != .superseded && !d.cnf.txns.any (fun t => t.owed.contains line && t.kind == .depBoard) &&
  (d.gcr.role == .worker || !d.inChunk line &&
    ((d.mp (d.memLoc (line * 128)).1).st == 3 || Mp.dead (d.mp (d.memLoc (line * 128)).1)))

/-- An entry can go to the next level now; an own-work write on an uplink needs a tag. -/
def Dev.canIssue (d : Dev) (e : WbEnt) : Bool :=
  d.canWrite e.line && (d.gcr.role != .worker || (d.agentWrite e).isSome || (d.ownTag e).isSome)

/-- The uplink request of a write-buffer entry (Table HIE-2, R68). -/
def wbUpKind (e : WbEnt) : Kind :=
  if e.mask != Mask.full then .wrPart
  else match e.kind with | .full | .part | .apd => .wrFull | _ => .wrBack

/-- The uplink request of an own-work write, with the ticket it holds. -/
def Dev.ownWrite (d : Dev) (e : WbEnt) : Dev :=
  d.tell d.uplink (.upReq d.widx (wbUpKind e) 30 e.tag e.tph e.line 0 e.mask e.pay e.tkt)

/-- An own-work write takes its tag and leaves on the uplink; a tag's phase inverts with every new use (R223). -/
def Dev.issueOwn (d : Dev) (e : WbEnt) : WbEnt × Dev :=
  let n := (d.ownTag e).getD 0
  let r := d.uplinkPhase 30 n true false
  let e := { e with tag := n, tph := r.1, issued := true }
  (e, (r.2.pmu1 0x024).ownWrite e)

/-- An agent's write leaves on the uplink with the agent's port and tag; its transaction waits for the answer (R170). -/
def Dev.issueAgent (d : Dev) (e : WbEnt) (t : Txn) : Dev :=
  let k := wbUpKind e
  let q := Txn.upTag t
  let r := d.uplinkPhase q.1 q.2 t.tph false
  let d := (r.2.putTxn { t with phase := .uplink, up := some k, upTph := r.1, mask := e.mask, pay := e.pay }).pmu1 0x024
  d.tell d.uplink (.upReq d.widx k q.1 q.2 r.1 e.line t.ch e.mask e.pay none)

/-- Sends an entry to the next level. -/
def Dev.issueWrite (d : Dev) (e : WbEnt) : WbEnt × Dev :=
  if d.gcr.role = .worker then
    match d.agentWrite e with
    | some t => ({ e with issued := true }, d.issueAgent e t)
    | none => d.issueOwn e
  else if Mp.dead (d.mp (d.memLoc (e.line * 128)).1) then ({ e with issued := true }, d)
  else ({ e with issued := true }, d.memWrite e.line e.mask e.pay)

/-- Issues what may be issued, front to back; a line's later write waits for the earlier one's acknowledgement (R71). -/
def Dev.issueList : List WbEnt → List Nat → List WbEnt → Dev → Dev
  | [], _, done, d => d.setWb done
  | e :: l, busy, done, d =>
    if !e.bound then Dev.issueList l busy (done ++ [e]) d
    else if e.issued || busy.contains e.line || !e.go || !e.placed || !d.canIssue e then
      Dev.issueList l (e.line :: busy) (done ++ [e]) d
    else
      let r := (d.setWb (done ++ e :: l)).issueWrite e
      Dev.issueList l (e.line :: busy) (done ++ [r.1]) r.2

/-- Partial entries that HIWAT forces out, oldest first, while the entries not yet issued reach it (R68). -/
def forceList (size hiwat : Nat) : List WbEnt → Nat → List WbEnt
  | [], _ => []
  | e :: l, used =>
    if hiwat ≤ size && hiwat ≤ used && !e.go && e.bound then { e with go := true } :: forceList size hiwat l (used - 1)
    else e :: forceList size hiwat l used

/-- Shared entries that are not yet on their way. -/
def Dev.poolWaiting (d : Dev) : Nat := (d.wbf.ents.filter (fun e => e.rsv.isNone && e.placed && !e.issued)).length

/-- The write buffer does what it can. -/
def Dev.wbKick (d : Dev) : Dev :=
  let l := forceList d.poolSize (d.get R.WBF_CFG.HIWAT) d.wbf.ents d.poolWaiting
  Dev.issueList l [] [] (d.setWb l)

/-- Lets the partial entries of a line go out (R68, R69). -/
def Dev.wbForce (d : Dev) (p : WbEnt → Bool) : Dev :=
  (d.setWb (mapIf (fun e => !e.go && p e) (fun e => { e with go := true }) d.wbf.ents)).wbKick

/-- A full-line write bound for the next level now: victims, cleaned lines, non-allocated lines (R71). -/
def Dev.wbFullWrite (d : Dev) (line : Nat) (p : Payload) (kind : WbKind) (txn : Option Nat) : Dev :=
  (d.wbAdd line Mask.full p kind none txn true true).wbKick

/-- The partial entry that a write of the line merges into: the line's newest. A write that follows a WrBack of its line takes
an entry of its own, so that it goes out behind the WrBack (R68, R71, log entry 115). -/
def Dev.mergesInto (d : Dev) (line : Nat) : Option Nat :=
  ((d.wbf.ents.reverse.find? (fun e => e.line == line)).filter (fun e => e.merges line)).map (·.num)

/-- A non-allocated WrFull or WrPart: merged into the line's waiting partial entry, or given one of its own; with COMB_TO
0, or with a transaction that waits for its answer, it goes at once (R68, Table CAC-11). -/
def Dev.wbPlace (d : Dev) (line : Nat) (m : Mask) (p : Payload) (owner : Option Nat) : Dev :=
  match d.mergesInto line with
  | some n =>
    ((d.setWb (mapIf (fun e => e.num == n) (fun e => (e.merge m p).ownedBy owner) d.wbf.ents)).mirror
      (.dirtyLine line m p)).wbKick
  | none =>
    (d.wbAdd line m p (if m = Mask.full then .full else .part) none owner true
      (m == Mask.full || d.get R.WBF_CFG.COMB_TO == 0 || owner.isSome)).wbKick

/-- A place for a non-allocated write exists: an entry to merge into, or a free shared entry. -/
def Dev.wbRoom (d : Dev) (line : Nat) : Bool := (d.mergesInto line).isSome || d.poolOpen != 0

/-- The list without its first element that satisfies a test. -/
def dropFirst {α : Type} (p : α → Bool) : List α → List α
  | [] => []
  | x :: l => if p x then l else x :: dropFirst p l

/-- Removes an entry; a reserved entry's end returns its port's write-back credit (R155). -/
def Dev.wbFree (d : Dev) (e : WbEnt) : Dev :=
  let d := (d.setWb (dropFirst (fun x => x.num == e.num) d.wbf.ents)).wbPlaceNext
  match e.rsv with
  | some p => d.returnWb p
  | none => d

end Sys2Proof.Machine
end

