-- ==== Sys2Proof/Machine/Dir.lean ====
section
/-! DEFINITION. The agent directory and the sector directory as data: entries, recorded holders, the use order of a set,
and the SDR cache (R97 to R104, R119, R126, R180 to R185). -/

namespace Sys2Proof

/-! ## Holders of an entry -/

/-- The recorded holders of a list of pointers. -/
def holdersOf (ptr : List (Option Nat)) : List Nat := ptr.filterMap id

/-- The pointers with a holder in the first free one; none when all are valid. -/
def fillPtr : List (Option Nat) → Nat → Option (List (Option Nat))
  | [], _ => none
  | none :: l, p => some (some p :: l)
  | some q :: l, p => (fillPtr l p).map (fun x => some q :: x)

/-- The pointers with one more holder: a recorded holder keeps its pointer, none when all are valid (R100, R182). -/
def addPtr (l : List (Option Nat)) (p : Nat) : Option (List (Option Nat)) := if l.contains (some p) then some l else fillPtr l p

/-- The pointers without a holder. -/
def dropPtr (ptr : List (Option Nat)) (p : Nat) : List (Option Nat) := ptr.map (fun x => if x = some p then none else x)

/-- The holder that PF names (R98). -/
def DirEnt.prefect (e : DirEnt) : Option Nat := match e.pf with | some k => (e.ptr[k]?).getD none | none => none

/-- A port is recorded by a valid pointer. -/
def DirEnt.records (e : DirEnt) (p : Nat) : Bool := e.ptr.contains (some p)

/-- A port can be recorded: it is, or a pointer is free (R101). -/
def DirEnt.recordable (e : DirEnt) (p : Nat) : Bool := e.records p || e.ptr.contains none

/-- The entry is free. -/
def DirEnt.free (e : DirEnt) : DirEnt := { e with st := .DI, ptr := [none, none, none, none], ovf := false, pf := none }

/-- An entry in DS with no pointer and OVF = 0, or in DX with no pointer, is free (R119). -/
def DirEnt.norm (e : DirEnt) : DirEnt :=
  if holdersOf e.ptr = [] ∧ (e.st = .DX ∨ !e.ovf) then e.free else e

/-- A holder's pointer is removed; PF goes with it (R98, R119). -/
def DirEnt.drop (e : DirEnt) (p : Nat) : DirEnt :=
  { e with ptr := dropPtr e.ptr p, pf := if e.prefect = some p then none else e.pf }.norm

/-- The only holder, exclusive (R98). -/
def DirEnt.exclusive (e : DirEnt) (p : Nat) : DirEnt :=
  { e with st := .DX, ptr := [some p, none, none, none], ovf := false, pf := none }

/-- A sharer is added, or OVF is set when no pointer is free (R100). -/
def DirEnt.share (e : DirEnt) (p : Nat) : DirEnt :=
  match addPtr e.ptr p with
  | some l => { e with st := .DS, ptr := l }
  | none => { e with st := .DS, ovf := true }

/-- PF names a recorded holder. -/
def DirEnt.setPf (e : DirEnt) (p : Nat) : DirEnt := { e with pf := e.ptr.findIdx? (fun x => x == some p) }

/-- PFV cleared. -/
def DirEnt.noPf (e : DirEnt) : DirEnt := { e with pf := none }

/-- The 64 bits of an entry (Table COH-5). What PTRk holds while PV[k] is 0, and PF while PFV is 0, the manual does not say: the
model reads 0 (log entry 100). -/
def DirEnt.pack (e : DirEnt) : Nat :=
  let ptrs := (List.range 4).foldl (fun a k =>
    match (e.ptr[k]?).getD none with
    | some p => a + p * 2 ^ (27 + 5 * k) + 2 ^ (47 + k)
    | none => a) 0
  e.line / 2 ^ 16 + (match e.st with | .DI => 0 | .DS => 1 | .DX => 2) * 2 ^ 25 + ptrs +
    (if e.ovf then 2 ^ 51 else 0) + (match e.pf with | some k => k * 2 ^ 52 + 2 ^ 54 | none => 0)

/-- A sector entry holds nothing. -/
def SdrEnt.none (sector : Nat) : SdrEnt := ⟨sector, .DI, [Option.none, Option.none, Option.none], false⟩

/-- A sector entry in SS with no pointer and OVF = 0, or in SX with none, is SI (R181). -/
def SdrEnt.norm (e : SdrEnt) : SdrEnt :=
  if holdersOf e.ptr = [] ∧ (e.st = .DX ∨ !e.ovf) then SdrEnt.none e.sector else e

/-- A slot's pointer is removed. -/
def SdrEnt.drop (e : SdrEnt) (k : Nat) : SdrEnt := { e with ptr := dropPtr e.ptr k }.norm

/-- SX{k}. -/
def SdrEnt.exclusive (e : SdrEnt) (k : Nat) : SdrEnt := { e with st := .DX, ptr := [some k, Option.none, Option.none], ovf := false }

/-- A slot is added as a sharer, or OVF is set (R182). -/
def SdrEnt.share (e : SdrEnt) (k : Nat) : SdrEnt :=
  match addPtr e.ptr k with
  | some l => { e with st := .DS, ptr := l }
  | Option.none => { e with st := .DS, ovf := true }

/-- A slot is recorded. -/
def SdrEnt.records (e : SdrEnt) (k : Nat) : Bool := e.ptr.contains (some k)

/-- The 32 bits of an entry (Table HIE-3). -/
def SdrEnt.pack (e : SdrEnt) : Nat :=
  (List.range 3).foldl (fun a k =>
    match (e.ptr[k]?).getD Option.none with
    | some p => a + p * 2 ^ (4 * k) + 2 ^ (12 + k)
    | Option.none => a) 0 +
  (if e.ovf then 2 ^ 15 else 0) + (match e.st with | .DI => 0 | .DS => 1 | .DX => 2) * 2 ^ 16

end Sys2Proof

namespace Sys2Proof.Machine

/-! ## The agent directory -/

/-- The entry whose tag is the line's, free or not. -/
def Dev.dirFind (d : Dev) (line : Nat) : Option DirEnt := d.dir.ents.find? (fun e => e.line == line)

/-- The tracked entry of a line (R97). -/
def Dev.dirEnt (d : Dev) (line : Nat) : Option DirEnt :=
  match d.dirFind line with
  | some e => if e.st = .DI then none else some e
  | none => none

/-- The line has a transaction: one of its own, one that back-invalidates it, or a manager snoop or DepBoard of its sector
(R127, R136, R192). -/
def Dev.lineTxn (d : Dev) (line : Nat) : Bool :=
  d.cnf.txns.any (fun t => t.line == line || t.victim == some line || (t.ofManager && sectorOf t.line == sectorOf line))

/-- The line has a transaction, or is being scrubbed (R127, R353). -/
def Dev.lineBusy (d : Dev) (line : Nat) : Bool := d.lineTxn line || d.scb.flight.any (fun f => f.2 == line)

/-- An entry in DI stays with its line only while the line has a transaction (R103). -/
def Dev.keepsEntry (d : Dev) (e : DirEnt) : Bool := e.st != .DI || d.lineTxn e.line

/-- An entry is written, in place of any other in its way, and becomes the most recently used of its set (R103); a mirror
item. -/
def Dev.putDir (d : Dev) (e : DirEnt) : Dev :=
  let rest := d.dir.ents.filter (fun x => x.line != e.line && !(x.line % 65536 == e.line % 65536 && x.way == e.way))
  ({ d with dir := { d.dir with ents := if d.keepsEntry e then e :: rest else rest } }).mirror (.dir e)

/-- A transaction reads the entry of a line: it becomes the most recently used of its set (R103). -/
def Dev.dirTouch (d : Dev) (line : Nat) : Dev :=
  { d with dir := { d.dir with
      ents := d.dir.ents.filter (fun x => x.line == line) ++ d.dir.ents.filter (fun x => x.line != line) } }

/-- The free entries of lines whose last transaction has ended give up their ways (R103). -/
def Dev.dirTidy (d : Dev) : Dev := { d with dir := { d.dir with ents := d.dir.ents.filter d.keepsEntry } }

/-- The entry of a line is changed, if the line has one. -/
def Dev.dirMap (d : Dev) (line : Nat) (f : DirEnt → DirEnt) : Dev :=
  match d.dirFind line with
  | some e => if f e = e then d.dirTouch line else d.putDir (f e)
  | none => d

/-- The entries of the DIR set of a line. -/
def Dev.dirSet (d : Dev) (line : Nat) : List DirEnt := d.dir.ents.filter (fun e => e.line % 65536 == line % 65536)

/-- The first unused way of a line's DIR set: no entry, or a free entry whose line has no transaction (R103). -/
def Dev.freeDirWay (d : Dev) (line : Nat) : Option Nat :=
  (List.range 16).find? (fun w => (d.dirSet line).all (fun e => e.way != w || (e.st == DirSt.DI && !d.lineTxn e.line)))

/-- The victim of a full DIR set: the least recently used entry whose line has no transaction (R127). -/
def Dev.dirVictim (d : Dev) (line : Nat) : Option DirEnt :=
  (d.dirSet line).reverse.find? (fun e => e.st != DirSt.DI && !d.lineBusy e.line)

/-- A way is given to a line, in place of whatever entry it held. -/
def Dev.dirAssign (d : Dev) (line w : Nat) : Dev :=
  d.putDir ⟨line, w, .DI, [none, none, none, none], false, none⟩

/-- A request of an agent treats the agent's own record as gone: DX{R} is free, PF = R is no prefect (R104). -/
def withoutReader (e : DirEnt) (r : Nat) : DirEnt :=
  if e.st = .DX ∧ e.records r then e.free else if e.prefect = some r then e.noPf else e

/-! ## The sector directory -/

/-- The entry of a sector. -/
def Dev.sdrEnt (d : Dev) (sector : Nat) : SdrEnt := (d.sdr.ents.find? (fun e => e.sector == sector)).getD (SdrEnt.none sector)

/-- The SDR line that holds a sector's entry. -/
def sdrLine (sector : Nat) : Nat := sector / 32

/-- Puts an entry in ascending sector order. -/
def insertSdr : List SdrEnt → SdrEnt → List SdrEnt
  | [], e => [e]
  | x :: l, e => if e.sector < x.sector then e :: x :: l else x :: insertSdr l e

/-- The data of an SDR line (R180). -/
def Dev.sdrData (d : Dev) (k : Nat) : LineData :=
  BitVec.ofNat 1024 ((d.sdr.ents.filter (fun e => sdrLine e.sector == k)).foldl
    (fun a e => a + e.pack * 2 ^ (32 * (e.sector % 32))) 0)

/-- The memory line of SDR line k (R180, R202). -/
def Dev.sdrMem (d : Dev) (k : Nat) : Nat := d.sdrBase / 128 + k

/-- The SDR cache holds line k. -/
def Dev.sdrCached (d : Dev) (k : Nat) : Bool := d.sdr.cache.contains k

/-- SDR line k becomes the most recently used. -/
def Dev.sdrUse (d : Dev) (k : Nat) : Dev :=
  { d with sdr := { d.sdr with cache := k :: d.sdr.cache.filter (· != k) } }

/-- A changed SDR line is written back; a FAILED port loses it, and one of a chunk that a join is copying waits in the write
buffer (R183, R229, R393). -/
def Dev.sdrWrite (d : Dev) (k : Nat) : Dev :=
  let line := d.sdrMem k
  let n := (d.memLoc (line * 128)).1
  if d.inChunk line then d.wbAdd line Mask.full ⟨d.sdrData k, false⟩ .clean none none true true
  else if Mp.dead (d.mp n) then d.report (R.MPn_EVT.WR_LOST n) n 0 (line * 128) 0
  else d.memWrite line Mask.full ⟨d.sdrData k, false⟩

/-- SDR line k enters the cache; the least recently used line of a full set leaves, written back if changed. The change of the
cache is a mirror item (R183, R210). -/
def Dev.sdrInstall (d : Dev) (k : Nat) : Dev :=
  let set := d.sdr.cache.filter (fun x => x % 4096 == k % 4096)
  let out := if set.length < 16 then none else set.getLast?
  let d := match out with
      | some v =>
        let d := if d.sdr.changed.contains v then d.sdrWrite v else d
        { d with sdr := { d.sdr with cache := d.sdr.cache.filter (· != v), changed := d.sdr.changed.filter (· != v) } }
      | none => d
  (d.sdr.ents.filter (fun e => sdrLine e.sector == k)).foldl (fun d e => d.mirror (.sdr e))
    ((d.sdrUse k).mirror (.sdrLine k out))

/-- The list of unknown sectors changes; a mirror item (R185). -/
def Dev.setUnknown (d : Dev) (l : List Nat) : Dev :=
  if l = d.sdr.unknown then d else ({ d with sdr := { d.sdr with unknown := l } }).mirror (.sdrUnknown l)

/-- An entry is written in the SDR cache, whose line enters again if it has left meanwhile; SI entries are not listed; a
mirror item (R180, R183). -/
def Dev.putSdr (d : Dev) (e : SdrEnt) : Dev :=
  let d := if d.sdrCached (sdrLine e.sector) then d else d.sdrInstall (sdrLine e.sector)
  let rest := d.sdr.ents.filter (fun x => x.sector != e.sector)
  let k := sdrLine e.sector
  (({ d with sdr := { d.sdr with
      ents := if e.st = DirSt.DI then rest else insertSdr rest e,
      changed := if d.sdr.changed.contains k then d.sdr.changed else d.sdr.changed ++ [k] } }).setUnknown
    (d.sdr.unknown.filter (· != e.sector))).mirror (.sdr e)

/-- The 32 entries of an SDR line become unknown, and the line is recorded (R185). -/
def Dev.sdrUnknown (d : Dev) (k sector : Nat) : Dev :=
  let l := (List.range 32).map (fun i => 32 * k + i)
  (({ d with sdr := { d.sdr with ents := d.sdr.ents.filter (fun e => sdrLine e.sector != k),
                                 changed := k :: d.sdr.changed.filter (· != k) } }).setUnknown
    (d.sdr.unknown ++ l.filter (fun x => !d.sdr.unknown.contains x))).report R.SDR_EVT.ENTRY_ERR 0 0 (sector * 1024) 0

end Sys2Proof.Machine
end

