-- ==== Sys2Proof/Machine/Fill.lean ====
section
/-! DEFINITION. Writes into the external cache: fills, write hits, victims, and where a WrBack's data goes (R58 to R67,
R112, R116, R321, R474). -/

namespace Sys2Proof.Machine

/-! ## Reading a way -/

/-- A valid line in a way of a set as the device itself reads it; a lost lane's line is the mirror side's copy in MIRRORED,
and else poisoned, its data not given (R320). -/
def Dev.readWay (d : Dev) (set w line : Nat) : Payload × Dev :=
  let l := d.lineLoc set w (line % 8)
  if (d.lane l.1).st = 5 then
    match (if d.twn.st = .mirrored ∧ !d.twn.mirror then d.heldLine line else none) with
    | some p => (p, d)
    | none => d.freePoison
  else
    let r := (d.driveRd l.1 l.2).laneRead l.1 l.2 0
    (r.1.payload, r.2)

/-- The dirty lines of a way. -/
def dirtyLines (x : Way) : List Nat := (List.range 8).filter (fun n => x.v.getLsbD n && x.dty.getLsbD n)

/-- The valid lines of a way. -/
def validLines (x : Way) : List Nat := (List.range 8).filter (fun n => x.v.getLsbD n)

/-- One line of a way goes to the write buffer, bound for the next level (R64, R71). -/
def Dev.copyOut (set w tag : Nat) (kind : WbKind) (d : Dev) (n : Nat) : Dev :=
  let r := d.readWay set w (d.lineAt set tag n)
  r.2.wbFullWrite (r.2.lineAt set tag n) r.1 kind none

/-- Every dirty line of a way goes to the write buffer. -/
def Dev.copyDirty (d : Dev) (set w : Nat) (x : Way) (kind : WbKind) : Dev :=
  (dirtyLines x).foldl (Dev.copyOut set w x.tag.toNat kind) d

/-! ## Allocation and fills -/

/-- A victim's dirty lines leave and the way is given to the sector of a line (R54, R55, R64). -/
def Dev.allocWay (d : Dev) (set : Nat) (h : Header) (w line : Nat) (stream exc : Bool) : Dev :=
  let x := h.way w
  let d := (d.copyDirty set w x .victim).pmu1 0x00C
  let d := if dirtyLines x = [] then d else d.pmu1 0x00D (dirtyLines x).length
  d.putHeader set (h.allocate w (d.tagOf line) stream (d.get R.PIP_CACHE_CFG.STRM_AGE) exc d.groupsOn)

/-- A transaction no longer fills a way. -/
def Dev.allocDone (d : Dev) (set w id : Nat) : Dev :=
  { d with pip := { d.pip with alloc := d.pip.alloc.filter (· != (set, w, id)) } }

/-- A transaction fills a way: the one that chose it, or a later one for another line of its sector (R63). -/
def Dev.allocFill (d : Dev) (set w id : Nat) : Dev :=
  if d.pip.alloc.contains (set, w, id) then d else { d with pip := { d.pip with alloc := d.pip.alloc ++ [(set, w, id)] } }

/-- A line's data is written to its way and the line is valid, dirty or clean (R36, R61). The mirror side has the data of a
dirty line before the header that shows it dirty (R210). -/
def Dev.fillLine (d : Dev) (set w line : Nat) (p : Payload) (dirty : Bool) : Dev :=
  match d.header? set with
  | none => d
  | some h =>
    let l := d.lineLoc set w (line % 8)
    let d := d.laneWrite l.1 l.2 p.data p.psn
    let d := if dirty then d.mirror (.dirtyLine line Mask.full p) else d
    let x := h.way w
    d.putHeader set (h.setWay w { x with v := set8 x.v (line % 8) true, dty := set8 x.dty (line % 8) dirty })

/-- A line of a way becomes invalid (R63, R321, R192). -/
def Dev.dropLine (d : Dev) (set w line : Nat) : Dev :=
  match d.header? set with
  | none => d
  | some h => d.putHeader set (d.dropFrom set h w (line % 8))

/-- A write that hits a valid line: in place and dirty; in Drain also to the next level, the line staying clean; in a lost
group to the next level, the line made invalid (R59, R60, R321, R474). -/
def Dev.writeHit (d : Dev) (set w line : Nat) (p : Payload) : Dev :=
  if d.pip.lost.getLsbD (w / 4) then (d.dropLine set w line).wbFullWrite line p .full none
  else if d.gcr.mode = .drain then (d.fillLine set w line p false).wbFullWrite line p .full none
  else d.fillLine set w line p true

/-- The clean marker of a line that is no longer dirty (Table TWN-2). -/
def Dev.cleanMark (d : Dev) (line : Nat) : Dev := d.mirror (.clean line)

/-! ## Where a WrBack goes (R112, Table CAC-8) -/

/-- What names a write-buffer entry among the allocations in progress; transactions have numbers below 4,096. -/
def wbWaiter (num : Nat) : Nat := 4096 + num

/-- An entry no longer waits for the victim chosen for it. -/
def Dev.dropWaiter (d : Dev) (e : WbEnt) : Dev :=
  { d with pip := { d.pip with alloc := d.pip.alloc.filter (fun a => a.2.2 != wbWaiter e.num),
                               copyWait := d.pip.copyWait.filter (· != wbWaiter e.num) } }

/-- An entry waits for a way, its line's set being at hand. -/
def WbEnt.waitsWay (e : WbEnt) : Bool := !e.bound && !e.sdr

/-- Another allocation for the sector of a line has chosen its victim and waits for shared entries, or an earlier one, whose
turn it is, waits for a victim (R63, R67). Before: an entry came before the allocation that asks. -/
def Dev.sectorWaits (d : Dev) (line who ord : Nat) (before : WbEnt → Bool) : Bool :=
  d.cnf.txns.any (fun u => u.id != who && sectorOf u.line == sectorOf line &&
    (u.phase == .waitCopy || (u.phase == .waitWay && u.ord < ord))) ||
  d.wbf.ents.any (fun e => wbWaiter e.num != who && sectorOf e.line == sectorOf line &&
    (e.way.isSome || (WbEnt.waitsWay e && before e)))

/-- An allocation copies its victim's n dirty lines now: the pool has room for them, and no earlier allocation waits
(R67). -/
def Dev.copyNow (d : Dev) (who n : Nat) : Bool :=
  n == 0 || ((d.pip.copyWait.head?.getD who == who) && n ≤ d.poolFree)

/-- An allocation fixes its victim and waits its turn for shared entries (R67). -/
def Dev.waitCopyOf (d : Dev) (set w who : Nat) : Dev :=
  { d with pip := { d.pip with alloc := d.pip.alloc ++ [(set, w, who)], copyWait := d.pip.copyWait ++ [who] } }

/-- An entry becomes bound for the next level, behind every entry bound before it (R71). -/
def Dev.wbBind (d : Dev) (e : WbEnt) : Dev :=
  ((d.dropWaiter e).setWb
    (dropFirst (fun x => x.num == e.num) d.wbf.ents ++ [{ e with bound := true, go := true, way := none }])).wbKick

/-- The way that an entry has chosen. -/
def Dev.setWbWay (d : Dev) (e : WbEnt) (w : Option Nat) : Dev :=
  d.setWb (mapIf (fun x => x.num == e.num) (fun x => { x with way := w }) d.wbf.ents)

/-- An entry's line goes into the way chosen for its sector, the victim's dirty lines leaving. -/
def Dev.wbFill (d : Dev) (e : WbEnt) (h : Header) (w : Nat) (stream : Bool) : Dev :=
  let set := d.setOf e.line
  ((((d.dropWaiter e).allocWay set h w e.line stream (d.gcr.role == .worker)).fillLine set w e.line e.pay true).wbFree
    e).wbPlaceAll

/-- An entry chooses the way for its absent sector: taken at once, or behind the allocations that wait for shared entries, its
victim fixed (R54, R63, R67). -/
def Dev.wbChoose (d : Dev) (e : WbEnt) (h : Header) (stream : Bool) : Dev :=
  let set := d.setOf e.line
  let who := wbWaiter e.num
  if d.sectorWaits e.line who e.ord (fun x => x.num < e.num) then d
  else match d.victim set h with
    | none => d
    | some w =>
      if d.copyNow who (dirtyLines (h.way w)).length then d.wbFill e h w stream
      else (d.setWbWay e (some w)).waitCopyOf set w who

/-- A WrBack or snooped line takes a way for its absent sector: the one it has fixed, unless that group is lost meanwhile, or
one it chooses (R54, R67, R320). -/
def Dev.wbAllocate (d : Dev) (e : WbEnt) (h : Header) (stream : Bool) : Dev :=
  match e.way with
  | none => d.wbChoose e h stream
  | some w =>
    if d.pip.lost.getLsbD (w / 4) then ((d.dropWaiter e).setWbWay e none).wbChoose { e with way := none } h stream
    else if d.copyNow (wbWaiter e.num) (dirtyLines (h.way w)).length then d.wbFill e h w stream
    else d

/-- A WrBack or snooped dirty line whose header is known: written to the cache, bound for the next level, or left waiting
for a way or for shared entries (R54, R58, R59, R67). A worker allocates with EXC, which its DX record gave it. -/
def Dev.wbLand (d : Dev) (e : WbEnt) (h : Header) : Dev :=
  let set := d.setOf e.line
  match d.hitWay h e.line with
  | some w => ((d.dropWaiter e).writeHit set w e.line e.pay).wbFree e
  | none =>
    match d.allocWith e.pol .write e.line with
    | none => d.wbBind e
    | some stream =>
      match d.wayOf h e.line with
      | some w =>
        if d.groupUsable (w / 4) then ((d.dropWaiter e).fillLine set w e.line e.pay true).wbFree e else d.wbBind e
      | none => d.wbAllocate e h stream

/-- Written-back data that misses HDC has its header fetched, and the next ones, as any request does (R49 to R51). -/
def Dev.wbLookup (d : Dev) (line : Nat) : Dev :=
  let set := d.setOf line
  if d.gcr.mode = .train || (d.hdrBlocked set).isSome || (d.header? set).isSome then d else d.missHeader set

/-- Lands an entry as far as its header allows: quarantined, unusable and unserved sets send it to the next level. -/
def Dev.wbSettle (d : Dev) (e : WbEnt) : Dev :=
  let set := d.setOf e.line
  if e.bound || e.sdr then d
  else if d.gcr.mode = .train || (d.hdrBlocked set).isSome then d.wbBind e
  else match d.header? set with
    | some h => d.wbLand e h
    | none => d.startFetch set false

/-- Lands every entry that still waits for its place. -/
def Dev.wbSettleAll (d : Dev) : Dev := (d.wbf.ents.filter (fun e => !e.bound)).foldl Dev.wbSettle d

/-- Dirty data taken as if its holder had sent a WrBack (R116, R117). -/
def Dev.takeDirty (d : Dev) (line : Nat) (p : Payload) : Dev :=
  ((d.wbAdd line Mask.full p .snooped none none false false).wbLookup line).wbSettleAll.wbKick

end Sys2Proof.Machine
end

