-- ==== Sys2Proof/Machine/Cnf.lean ====
section
/-! DEFINITION. The conflict unit: the transaction table and its pools, ordering keys, tickets, berth holds, responses, and
the sending of snoops (R92, R124, R129 to R154, R170 to R172, R187, R188). -/

namespace Sys2Proof

/-- The requester's port as DIR records it. -/
def Txn.reader (t : Txn) : Option Nat := match t.org with | .agent p => some p | _ => none

/-- The requester's slot as SDR records it (R172). -/
def Txn.slot (t : Txn) : Option Nat := match t.org with | .worker w _ => some (w / 2) | _ => none

/-- The port of the requester, for records and holds. -/
def Txn.port (t : Txn) : Nat := match t.org with | .agent p => p | .worker w _ => w | _ => 0

/-- The line a transaction snoops: its victim, or the line of its sector being worked on, else its own. -/
def Txn.snooped (t : Txn) : Nat := t.victim.getD t.line

end Sys2Proof

namespace Sys2Proof

/-- A boarding read whose entry is gone: its number leaves those of the timetable's indices. -/
def orphanRead (idx : Nat) (t : Txn) : Txn := if t.kind = .board ∧ t.aux = idx then { t with aux := 1024 + idx } else t

/-- The timetable index that a boarding read's messages carry. -/
def Txn.depIdx (t : Txn) : Nat := t.aux % 1024

end Sys2Proof

namespace Sys2Proof.Machine

/-! ## The transaction table (R132 to R134) -/

/-- What orders a line's work: the line, or its sector at a manager (R136, R187). -/
def Dev.key (d : Dev) (line : Nat) : Nat := if d.gcr.role = .manager then sectorOf line else line

/-- Size of the general pool for work other than manager snoops (R132). -/
def Dev.generalSize (d : Dev) : Nat := if d.gcr.role = .worker then 3552 else 3584

/-- The lowest free entry among n from k (R132). -/
def Dev.freeId (d : Dev) (n k : Nat) : Option Nat := freeFrom (d.cnf.txns.map (·.id)) n k

/-- The lowest free general-pool entry. -/
def Dev.generalId (d : Dev) : Option Nat := d.freeId d.generalSize 0

/-- Reserved-pool entries held by live tickets or admitted retries (Table ORD-10). -/
def Dev.rsvUsed (d : Dev) : Nat := d.cnf.tickets.length + (d.cnf.txns.filter (fun t => 3584 ≤ t.id)).length

/-- General-pool entries in use. -/
def Dev.generalUsed (d : Dev) : Nat := (d.cnf.txns.filter (fun t => t.id < d.generalSize)).length

/-- A transaction enters the table, with the allocation policy of its line at that moment (R57); TT_FULL latches on the
crossing. -/
def Dev.addTxn (d : Dev) (t : Txn) : Dev :=
  let t := { t with ord := d.cnf.ord, pol := d.policy t.line }
  let d := ({ d with cnf := { d.cnf with txns := d.cnf.txns ++ [t], ord := d.cnf.ord + 1 } }).mirror (.txn t)
  d.raiseIf (t.id < d.generalSize && d.generalUsed == d.generalSize) R.CNF_EVT.TT_FULL

/-- The transactions of a key. -/
def Dev.onKey (d : Dev) (k : Nat) : List Txn := d.cnf.txns.filter (fun t => d.key t.line == k)

/-- The queue of a key, in order of entry (R136). -/
def Dev.queueOf (d : Dev) (k : Nat) : List Txn := (d.onKey k).filter (fun t => t.phase == .queued)

/-- The line of a victim whose dirty lines still wait for shared entries (R67). -/
def Dev.victimHeld (d : Dev) (line : Nat) : Bool :=
  d.pip.alloc.any (fun a => a.1 == d.setOf line && d.pip.copyWait.contains a.2.2 &&
    match d.header? (d.setOf line) with
    | some h => (h.way a.2.1).occupied && (h.way a.2.1).tag.toNat == d.tagOf line
    | none => false)

/-- Something is active on the key: a transaction, a back-invalidation, a scrub read, a victim still to be copied, or a
manager snoop of the sector, which goes ahead of queued work (R127, R133, R353, R67, R194). -/
def Dev.keyActive (d : Dev) (k line : Nat) : Bool :=
  d.cnf.txns.any (fun t => (t.phase.active && d.key t.line == k) || (t.phase == .backInv && t.victim == some line)) ||
  d.scb.flight.any (fun f => d.key f.2 == k) || d.victimHeld line ||
  d.cnf.txns.any (fun t => t.ofManager && sectorOf t.line == sectorOf line)

/-- Retries in the standby list of a key (R145). -/
def Dev.standbyOf (d : Dev) (k : Nat) : List Txn := (d.onKey k).filter (fun t => t.phase == .standby)

/-- Ticket a is earlier than ticket b (R141). -/
def earlier (a b : Nat) : Bool := 32768 ≤ (a + 65536 - b) % 65536

/-- The waiting retry whose ticket is earliest (R146). -/
def earliest : List Txn → Option Txn
  | [] => none
  | t :: l =>
    match earliest l with
    | none => some t
    | some u => if earlier (u.ticket.getD 0) (t.ticket.getD 0) then some u else some t

/-- The order in which engines take a place (R135). -/
def engineRank : Kind → Nat
  | .board => 0
  | .apdLine => 1
  | _ => 2

/-- The engine issue that takes the next place of a key. -/
def Dev.nextEngine (d : Dev) (k : Nat) : Option Txn :=
  let w := (d.onKey k).filter (fun t => t.phase == .waitPlace)
  ([0, 1, 2].flatMap (fun r => w.filter (fun t => engineRank t.kind == r))).head?

/-- A transaction enters the queue of its key. -/
def Dev.enqueue (d : Dev) (t : Txn) : Dev :=
  let t := { t with phase := .queued, ord := d.cnf.ord }
  let d := { d with cnf := { d.cnf with ord := d.cnf.ord + 1 } }
  (d.setTxns (d.cnf.txns.filter (fun x => x.id != t.id) ++ [t])).mirror (.txn t)

/-- A place of a key has become free: the earliest waiting retry takes it, else an engine's issue (R135, R146). -/
def Dev.fillPlace (d : Dev) (k : Nat) : Dev :=
  if 8 ≤ (d.queueOf k).length then d
  else match earliest (d.standbyOf k) with
    | some t => d.enqueue t
    | none => match d.nextEngine k with
      | some t => d.enqueue t
      | none => d

/-- A request of this core cycle for the key still waits in a receive buffer: it goes ahead of append-engine line writes
and range-maintenance lines (R137). -/
def Dev.portsFirst (d : Dev) (t : Txn) : Bool :=
  engineRank t.kind != 0 && d.cnf.waiting.any (fun r => match r.body with
    | .append .. => false
    | _ => d.key (lineOf r.head.addr) == d.key t.line)

/-- Lookup slots of this core cycle that are still free: two, unless the purser withholds them or CORE is switching source
(R13, R407, R442). -/
def Dev.slotsLeft (d : Dev) : Nat :=
  if throttled d.pur.level d.pur.cyc || d.switchBusy .core then 0 else 2 - (d.cnf.took.length + d.cnf.used)

/-- The slot that a waiting probe is to get, behind boarding reads and ahead of everything else (R131). -/
def Dev.probeSlot (d : Dev) : Nat := if d.pip.probe then 1 else 0

/-- A lookup slot is free for an engine's issue: boarding reads go before the probe (R131, R254). -/
def Dev.engineSlot (d : Dev) (t : Txn) : Bool :=
  Nat.blt (if engineRank t.kind = 0 then 0 else d.probeSlot) d.slotsLeft

/-- The engine issue that goes next: boarding reads, then append-engine line writes, then maintenance lines, each in the order
they began to wait. R135 orders queue places alone: the same order for entries is the model's choice (log entry 62). -/
def Dev.nextIssue (d : Dev) : Option Txn :=
  ([0, 1, 2].flatMap (fun r => d.cnf.pool.filter (fun t => engineRank t.kind == r))).head?

/-- An engine's issue has its entry: its lookup takes a slot, and it takes a place or waits for one (R135, R137, R254). -/
def Dev.issueTxn (d : Dev) (t : Txn) (id : Nat) : Dev :=
  let k := d.key t.line
  let room := (d.queueOf k).length < 8 && (d.standbyOf k).isEmpty && !d.portsFirst t
  let d := ({ d with cnf := { d.cnf with used := d.cnf.used + 1 } }).slot ⟨0x004, 0, kindOpc t.kind, id, t.line⟩
  d.addTxn { t with id := id, phase := if room then .queued else .waitPlace }

/-- The next engine issue goes if a general-pool entry and a lookup slot are free (R135, R254). -/
def Dev.refill (d : Dev) : Dev :=
  match d.nextIssue, d.generalId with
  | some t, some id =>
    if d.engineSlot t then ({ d with cnf := { d.cnf with pool := dropFirst (· == t) d.cnf.pool } }).issueTxn t id else d
  | _, _ => d

/-- A transaction retires and frees its entry (R134); it fills no way any more, and a free DIR entry kept for its line is
given up (R103). -/
def Dev.freeTxn (d : Dev) (id : Nat) : Dev :=
  let d := { d with twn := { d.twn with unsent := d.twn.unsent.filter (· != id) },
                    pip := { d.pip with alloc := d.pip.alloc.filter (fun a => a.2.2 != id) } }
  ((d.setTxns (d.cnf.txns.filter (fun t => t.id != id))).mirror (.txnGone id)).dirTidy.refill

/-! ## Requesters and responses -/

/-- The port a requester's messages leave on, and the PORT field they carry on a downlink (R27, R170). -/
def destOf : Origin → Option (Nat × Nat)
  | .agent p => some (p, 0)
  | .worker w o => some (w, o)
  | _ => none

/-- Sends a response to a requester. -/
def Dev.respond (d : Dev) (o : Origin) (f : Nat → Msg) : Dev :=
  match destOf o with
  | some (n, oport) => d.tell n (f oport)
  | none => d

/-- Err with a sub-code: 0 TRAP, 1 HALT, 2 UNSUP (Table LNK-6). -/
def Dev.sendErr (d : Dev) (o : Origin) (tag sub : Nat) : Dev := d.respond o (fun q => .err q tag sub)

/-- A WrBack, WrFull, WrPart or Append has retired: the re-send log of a pair takes it, keeping the newest 32,768 (R224). -/
def Dev.logRetired (d : Dev) (e : LogEnt) : Dev :=
  if d.twn.st = .single ∧ d.gcr.role ≠ .manager then d
  else
    let l := d.twn.log ++ [e]
    ({ d with twn := { d.twn with log := if 32768 < l.length then l.drop 1 else l } }).mirror (.log e)

/-- The requester may still re-send what a takeover found open: any, or those of a worker slot that has taken over
(R224, R227). -/
def Dev.inWindow (d : Dev) (o : Origin) : Bool :=
  match o with
  | .agent _ => d.twn.window
  | .worker w _ => d.twn.window || d.twn.slotWin.contains (w / 2)
  | _ => false

/-- One requester: a worker's agents are the same on both sides of its pair (R227). -/
def sameRequester : Origin → Origin → Bool
  | .worker w o, .worker v q => w / 2 == v / 2 && o == q
  | a, b => a == b

/-- Who an Err of a refused request goes to: its sender on the port it arrived on, whatever index it claims (R171). -/
def Dev.senderOf (d : Dev) (h : Head) : Origin := if d.gcr.role = .manager then .worker h.port h.oport else .agent h.port

/-! ## Tickets (R140 to R149) -/

/-- Issues a ticket for a request (R141). -/
def Dev.ticketFor (d : Dev) (o : Origin) (port tag key : Nat) (apd : Bool) : Dev :=
  let n := d.cnf.nextTkt
  let t : Ticket := ⟨n, port, tag, key, apd⟩
  let d := { d with cnf := { d.cnf with tickets := d.cnf.tickets ++ [t], nextTkt := (n + 1) % 65536 } }
  let d := (d.mirror (.tickets d.cnf.tickets d.cnf.nextTkt)).bump64 R.CNF_STBY_CNT_LO.STBY_LO.ofs 1
  (d.pmu1 0x01D).respond o (fun q => .stby q tag n)

/-- A ticket ends. -/
def Dev.dropTicket (d : Dev) (n : Nat) : Dev :=
  let d := { d with cnf := { d.cnf with tickets := d.cnf.tickets.filter (fun t => t.num != n) } }
  d.mirror (.tickets d.cnf.tickets d.cnf.nextTkt)

/-- The ticket number of a Stby. -/
def stbyNumber : Msg → Option Nat
  | .stby _ _ n => some n
  | _ => none

/-- The Stby of a ticket has left its port: the ticket is live from then on (R142). -/
def Dev.ticketLive (d : Dev) (x : Ticket) : Bool :=
  !d.twn.held.any (fun e => e.2.1 == x.port && stbyNumber e.2.2 == some x.num) &&
  !(d.port x.port).txq.any (fun m => stbyNumber m == some x.num)

/-- A request that finds no place stays first in its port's receive buffer while every reservation is taken (R149). -/
def Dev.holdRequest (d : Dev) (r : Req) : Dev :=
  let c := d.cnf
  ({ d with cnf := { c with waiting := r :: c.waiting, stuck := r.head.port :: c.stuck.filter (· != r.head.port) } }).raise
    R.CNF_EVT.TKT_EXHAUSTED

/-! ## The order of a core cycle (R13, R137, R138) -/

/-- How far a port stands behind the rotating pointer: the port ahead is the first reached from it (R138). -/
def Dev.aheadOf (d : Dev) (port : Nat) : Nat := (port + 32 - d.cnf.ptr) % 32

/-- A lookup slot of this core cycle is open to the ports (R13, R131, R407, R442). -/
def Dev.slotOpen (d : Dev) : Bool := !d.pip.stopped && Nat.blt d.probeSlot d.slotsLeft

/-- The pipeline can take a request of the port in this core cycle: a lookup slot is open, and no port that stands behind
it in the rotating priority has been served before it (R13, R137). -/
def Dev.slotFor (d : Dev) (port : Nat) : Bool := d.slotOpen && d.cnf.took.all (fun q => d.aheadOf q < d.aheadOf port)

/-! ## Berth holds (R150 to R154, R188) -/

/-- The holder a berth hold names: a port, or a slot at a manager. -/
def Dev.holderId (d : Dev) (port : Nat) : Nat := if d.gcr.role = .manager then port / 2 else port

/-- A hold protects the holder of a key. -/
def Dev.onHold (d : Dev) (k port : Nat) : Bool := d.cnf.holds.any (fun h => h.key == k && h.holder == d.holderId port)

/-- Any hold of the key runs. -/
def Dev.keyHeld (d : Dev) (k : Nat) : Bool := d.cnf.holds.any (fun h => h.key == k)

/-- Replaces the holds; a mirror item. -/
def Dev.setHolds (d : Dev) (l : List Hold) : Dev := ({ d with cnf := { d.cnf with holds := l } }).mirror (.holds l)

/-- A hold begins; the 1,025th cuts the one that began earliest (R150, R153). -/
def Dev.beginHold (d : Dev) (k port : Nat) : Dev :=
  let n := d.get R.CNF_BERTH.BERTH
  if n = 0 then d
  else
    let full := decide (1024 ≤ d.cnf.holds.length)
    let l := if full then d.cnf.holds.drop 1 else d.cnf.holds
    let d := if full then (d.bumpSat R.CNF_HOLD_CUT_CNT.CUT 1).raise R.CNF_EVT.HOLD_CUT else d
    (d.pmu1 0x01E).setHolds (l ++ [⟨k, d.holderId port, n⟩])

/-- A transaction whose grant Ack has arrived retires; a grant of E or D begins a berth hold (R93, R150). -/
def Dev.retireGrant (d : Dev) (t : Txn) : Dev :=
  let d := d.freeTxn t.id
  match t.grant with
  | .E | .D => d.beginHold (d.key t.line) t.port
  | _ => d

/-! ## Snoops -/

/-- The ports of a roll call: every enabled agent port but the requester's (R124). -/
def Dev.rollCallPorts (d : Dev) (except : Option Nat) : List Nat :=
  (List.range 32).filter (fun n => d.portKind n == 0 && some n != except && !d.portDead n)

/-- The downlink of a slot's serving side (R172). -/
def Dev.slotPort (d : Dev) (k : Nat) : Nat := 2 * k + (if d.hie.serv.getLsbD k then 1 else 0)

/-- The slots of a broadcast (R182). -/
def Dev.broadcastSlots (d : Dev) (except : Option Nat) : List Nat :=
  (List.range 16).filter (fun k => (d.get R.HIE_SLOTS.SLOT_EN).testBit k && some k != except)

/-- What a snoop brings back. -/
inductive SnpAns where
  | data (dty : Bool) (rst : LState) (p : Payload)
  | ack
  | miss (wbp : Bool)
  deriving DecidableEq, Repr

/-- What a disabled port answers: a poisoned dirty line of zeros for a line it holds in DX, else Miss (R130). -/
def Dev.deadAnswer (d : Dev) (port line : Nat) : SnpAns :=
  match d.dirEnt line with
  | some e => if e.st = .DX ∧ e.records port then .data true .I ⟨0, true⟩ else .miss false
  | none => .miss false

/-- The lines of a sector as a mask. -/
def sectorMask (l : List Nat) : BitVec 8 := l.foldl (fun m x => putBit m (x % 8) true) 0

/-- Sends one snoop, or keeps it for the end of a berth hold (R151). A manager's boarding read of a sector that a worker
holds in X goes there as DepBoard; its broadcast for an unknown entry is one of snoops (R185, Table DEP-4). -/
def Dev.sendSnoop (d : Dev) (t : Txn) (port : Nat) (s : Snoop) : Txn × Dev :=
  if d.onHold (d.key t.snooped) port then ({ t with held := t.held ++ [(port, s)] }, d)
  else
    let u := { t with await := t.await ++ [(port, s)] }
    if d.gcr.role = .manager then
      if t.kind = .board ∧ t.phase ≠ .waitSdr then
        let l := t.line :: t.lines
        ({ u with owed := l, lines := [], tag := port + 1 },
         d.tell port (.depBoard t.depIdx (t.line / 8 * 8) (sectorMask l)))
      else (u, (d.bump64 R.HIE_SNP_CNT_LO.SNP_LO.ofs 1).tell port (.snp s t.id t.snooped))
    else (u, d.tell port (.snp s t.id t.snooped))

end Sys2Proof.Machine
end

