-- ==== Sys2Proof/Machine/Boarding.lean ====
section
/-! DEFINITION. Departures as the timetable holds them: entries, boarded lines, staging, release, dropped copies,
completion records and cancels (R235 to R273). -/

namespace Sys2Proof

/-- A port has started the departure's first flit. -/
def Dep.startedOn (e : Dep) (n : Nat) : Bool := e.started.any (fun x => x.1 == n)

/-- A port's copy is over: sent to its end, or dropped. -/
def Dep.overOn (e : Dep) (n : Nat) : Bool := e.ended.contains n || e.droppedPorts.contains n

/-- Every line is boarded, and in a twin pair mirrored (R255). -/
def Dep.fullyStaged (e : Dep) : Bool := e.boarded.length == e.count && e.waits.isEmpty

/-- A line's data is boarded. -/
def Dep.has (e : Dep) (k : Nat) : Bool := e.boarded.any (fun b => b.idx == k)

/-- A line is staged: boarded, and in a twin pair mirrored (R255). -/
def Dep.stagedLine (e : Dep) (k : Nat) : Bool := e.has k && e.waits.all (fun w => w.1 != k)

/-- The boarded lines after the first, in line order (R261). -/
def Dep.restLines (e : Dep) : List Boarded :=
  (List.range e.count).filterMap (fun k => if k = 0 then none else e.boarded.find? (fun b => b.idx == k))

/-- The OUT code of Table DEP-6. -/
def DepOut.code : DepOut → Nat
  | .onTime => 0 | .lateArrival => 1 | .lateStaged => 2 | .missed => 3 | .cancelled => 4 | .dropped => 5

/-- The PHASE code of DEP_PROBE_STAT. -/
def DepPhase.code : DepPhase → Nat
  | .announcing => 0 | .waiting => 1 | .boarding => 2 | .staged => 3 | .releasing => 4

/-- Bit n of BAD: line n carried POISON or FAIL (Table DEP-7). -/
def Dep.bad (e : Dep) : Nat := e.boarded.foldl (fun a b => if b.st = .ok then a else a + 2 ^ b.idx) 0

/-- The LATE flag of the header (Table DEP-6). -/
def Dep.flagLate (e : Dep) : Bool := e.out == .lateArrival || e.out == .lateStaged

/-- The entry can be cancelled: its first flit has started on no port (R272). -/
def Dep.cancellable (e : Dep) : Bool := e.started.isEmpty

/-- A departure comes before another: the earlier T, then the lower index (R263). -/
def Dep.before (a b : Dep) : Bool :=
  let x := (a.t - b.t).toInt
  x < 0 || (x == 0 && a.idx < b.idx)

end Sys2Proof

namespace Sys2Proof.Machine

/-! ## The timetable -/

/-- Bell time t is now or past. -/
def Dev.bellPast (d : Dev) (t : BitVec 64) : Bool := 0 ≤ (d.bel.now - t).toInt

/-- A departure of the timetable. -/
def Dev.dep? (d : Dev) (idx : Nat) : Option Dep := d.dep.table.find? (fun e => e.idx == idx)

/-- The newest entry with a coordinator's index (R268). -/
def Dev.depC? (d : Dev) (cidx : Nat) : Option Dep := (d.dep.table.filter (fun e => e.cidx == cidx)).getLast?

/-- Replaces the timetable. -/
def Dev.setDeps (d : Dev) (l : List Dep) : Dev := { d with dep := { d.dep with table := l } }

/-- An entry changes. -/
def Dev.putDep (d : Dev) (e : Dep) : Dev := d.setDeps (mapIf (fun x => x.idx == e.idx) (fun _ => e) d.dep.table)

/-- An entry changes, and the mirror side is told (R269). -/
def Dev.saveDep (d : Dev) (e : Dep) : Dev := (d.putDep e).mirror (.dep e)

/-- Sends what the ports of a departure may send. -/
def Dev.pumpDep (d : Dev) (e : Dep) : Dev :=
  if d.gcr.role = .manager then d else e.ports.foldl Dev.pump d

/-- Time from T to the latest start of a first flit, in ns (Table DEP-7). -/
def depDelay (e : Dep) (o : DepOut) : Nat :=
  match o with
  | .onTime | .lateArrival | .lateStaged =>
    min 1048575 (e.started.foldl (fun a x => max a (x.2 - e.t).toInt.toNat) 0)
  | _ => 0

/-- The words of a DLQ record (Table DEP-7). -/
def dlqWords (e : Dep) (o : DepOut) : List Word :=
  let w := e.bad + e.dtag * 2 ^ 64 + e.cidx * 2 ^ 80 + o.code * 2 ^ 90 + e.odev * 2 ^ 96 + e.oport * 2 ^ 102 +
    depDelay e o * 2 ^ 108
  [BitVec.ofNat 32 w, BitVec.ofNat 32 (w / 2 ^ 32), BitVec.ofNat 32 (w / 2 ^ 64), BitVec.ofNat 32 (w / 2 ^ 96)]

/-- An entry leaves the timetable; its reservations go with it, and what its boarding reads still bring goes nowhere. -/
def Dev.dropDep (d : Dev) (e : Dep) : Dev :=
  let d := { d with cnf := { d.cnf with txns := d.cnf.txns.map (orphanRead e.idx) } }
  (d.setDeps (d.dep.table.filter (fun x => x.idx != e.idx))).pumpDep e

/-- The device's record is written and the entry is freed (R242, R266, R270). -/
def Dev.recordDep (d : Dev) (e : Dep) (o : DepOut) : Dev :=
  let k : DepDone := ⟨e.org, e.tag, e.tph⟩
  let d := ((d.push 1 (dlqWords e o)).dropDep e).mirror (.depGone e.idx (some k))
  { d with dep := { d.dep with done := (k :: d.dep.done).take 1024 } }

/-! ## Release (R258 to R265) -/

/-- The slots of departure lines; at the first slot of each, the line's DLS entry (R383). -/
def depLineSlots (l : List Boarded) : List DepSlot :=
  l.flatMap (fun b => match lineSlots b.pay.data with
    | s :: r => ⟨s, true, some (b.idx % 64 + lineStCode b.st * 64)⟩ :: r.map (fun x => ⟨x, true, none⟩)
    | [] => [])

/-- Slots in flits of 15. -/
def chunk15 {α : Type} : Nat → List α → List (List α)
  | 0, _ => []
  | n + 1, l => if l.isEmpty then [] else l.take 15 :: chunk15 n (l.drop 15)

/-- DSM and DLS of a flit that carries slots of a departure (R383). -/
def depMark (l : List DepSlot) : Nat :=
  let e := l.filterMap (·.line)
  l.foldr (fun s a => flagBit s.mine + 2 * a) 0 * 2 ^ 48 + (e.getD 0 0xC0 + e.getD 1 0xC0 * 2 ^ 8) * 2 ^ 64

/-- One flit of a departure leaves a port; it is counted, and so are the departure's slots (R545). -/
def Dev.depFlit (n : Nat) (d : Dev) (l : List DepSlot) : Dev :=
  ((d.dataOut n (flitSlots (l.map (·.slot))) (depMark l)).pmu1 (0x100 + 8 * n + 1)).pmu1 (0x100 + 8 * n + 4)
    (l.filter (·.mine)).length

/-- Waiting SNP and RSP messages that take slots between two lines of a departure, at most so many, in order within each class;
on an agent port each is one slot (R261, R383). -/
def Dev.slotsBetween (n : Nat) : Nat → List Msg → List (Option Nat) → List DepSlot → Dev → List Msg → List DepSlot × Dev
  | _, [], _, s, d, keep => (s, d.setPort n { d.port n with txq := keep })
  | k, m :: l, blocked, s, d, keep =>
    if k != 0 && !blocked.contains (msgClass m) && (msgClass m == some 1 || msgClass m == some 2) && (d.port n).canSend m then
      Dev.slotsBetween n (k - 1) l blocked (s ++ (msgSlots (d.linkWidx n) m).map (fun x => ⟨x, false, none⟩)) (d.sendOff n m) keep
    else Dev.slotsBetween n k l (msgClass m :: blocked) s d (keep ++ [m])

/-- The slots that a departure always begins with: DepRel and line 0. -/
def depFirst (e : Dep) : List DepSlot :=
  ⟨depRelSlot e e.flagLate, true, none⟩ :: depLineSlots (e.boarded.filter (fun b => b.idx == 0))

/-- Line 1 of a departure, which its first flit begins where room is left. An immediate departure starts with its first line
alone: its other lines begin in its second flit. -/
def depSecond (e : Dep) : List DepSlot :=
  if e.imm then [] else depLineSlots (e.boarded.filter (fun b => b.idx == 1))

/-- The lines of a departure that begin after its first flit. -/
def depLater (e : Dep) : List DepSlot :=
  depLineSlots (if e.imm then e.restLines else e.restLines.filter (fun b => b.idx != 1))

/-- The lines of a departure as they leave a port. -/
def Dev.sendLines (d : Dev) (n : Nat) (e : Dep) (l : List Boarded) : Dev :=
  l.foldl (fun d b => d.emit (.msg n (.depData e.cidx b))) d

/-- A port starts the first flit: the header in slot 0 and line 0 behind it; then what waits to be sent between two lines, and
the beginning of line 1. -/
def Dev.startOn (d : Dev) (e : Dep) (n : Nat) : Dep × Dev :=
  let d := if e.started.isEmpty then d.mirror (.released e.idx) else d
  let m : Msg := .depRel e e.flagLate
  let r := Dev.slotsBetween n 6 (d.port n).txq [] [] (d.emit (.msg n m)) []
  let room := 6 - r.1.length
  let d := r.2.setPort n { r.2.port n with cut := (depSecond e).drop room }
  let d := (Dev.depFlit n d (depFirst e ++ r.1 ++ (depSecond e).take room)).pmu1 (0x080 + msgOpc m)
  let d := d.trace n true (msgOpc m) 0 (some e.line) 0 false
  ({ e with started := e.started ++ [(n, d.bel.now)], phase := .releasing },
   d.sendLines n e (e.boarded.filter (fun b => b.idx == 0)))

/-- A port drops its copy (R264). -/
def Dev.dropCopy (d : Dev) (e : Dep) (n : Nat) : Dep × Dev :=
  ({ e with droppedPorts := e.droppedPorts ++ [n] },
   (d.report R.DEP_EVT.PORT_DROP n 0 0 e.dtag).bumpSat R.DEP_DROP_CNT.DROP 1)

/-- A port cannot release: its EN reads 0, or its link is not ACTIVE (R264). -/
def Dev.mustDrop (d : Dev) (n : Nat) : Bool := !d.flag (portEN n) || (d.port n).st != 3

/-- The quiet window of a port in bell ticks (R258). -/
def Dev.quietTicks (d : Dev) (n : Nat) : Nat :=
  let p := d.port n
  let w := (4 / 2 ^ p.width) * (if p.rate = 0 then 32 else 16)
  (2080 + w - 1) / w

/-- The fresh quiet window of a late part has ended: it lasts the largest W of the listed ports from the bell time at which
staging completed (R258). -/
def Dev.freshOver (d : Dev) (e : Dep) : Bool :=
  !e.quiet.isEmpty && d.bellPast (e.qat + BitVec.ofNat 64 (e.ports.foldl (fun a n => max a (d.quietTicks n)) 0))

/-- The time at which a departure that has a quiet window is to start has come. -/
def Dev.windowOver (d : Dev) (e : Dep) : Bool := if e.late then d.freshOver e else d.bellPast e.t

/-- A departure is to start, or waits to: its time has come, or it has begun to release. -/
def Dev.releaseDue (d : Dev) (e : Dep) : Bool := e.phase == .releasing || (e.fullyStaged && !e.imm && d.windowOver e)

/-- Another departure goes first on the port: one in progress there, or an earlier one that is due (R263). -/
def Dev.behindOn (d : Dev) (e : Dep) (n : Nat) : Bool :=
  d.dep.table.any (fun x => x.idx != e.idx && x.ports.contains n && !x.overOn n &&
    (x.startedOn n || (x.before e && d.releaseDue x)))

/-- The quiet window of another departure runs on the port: an immediate or late one starts no flit in it (R258, R385). -/
def Dev.hushedOn (d : Dev) (e : Dep) (n : Nat) : Bool :=
  (e.imm || e.late) && d.dep.table.any (fun x => x.idx != e.idx && x.quiet.contains n && !x.startedOn n && !x.overOn n &&
    !d.windowOver x)

/-- 128 flits are unacknowledged: the port starts no new one (R370). -/
def Dev.bufferFull (d : Dev) (n : Nat) : Bool := Nat.ble 128 (d.port n).unacked

/-- The departure cannot start on the port yet. -/
def Dev.blockedOn (d : Dev) (e : Dep) (n : Nat) : Bool := d.behindOn e n || d.hushedOn e n || d.bufferFull n

/-- One listed port at the release of the device's part. -/
def Dev.releasePort (r : Dep × Dev) (n : Nat) : Dep × Dev :=
  let e := r.1
  let d := r.2
  if e.startedOn n || e.overOn n then r
  else if d.mustDrop n then d.dropCopy e n
  else if d.blockedOn e n then
    let late := d.behindOn e n
    ({ e with conflict := e.conflict || late, phase := .releasing }, d.raiseIf (late && !e.conflict) R.DEP_EVT.CONFLICT)
  else d.startOn e n

/-- The part is over on every listed port: its record is written, DROPPED if no port sent it (R266, Table DEP-6). -/
def Dev.closeDep (d : Dev) (e : Dep) : Dev :=
  if e.ports.all (fun n => e.overOn n) then d.recordDep e (if e.ended.isEmpty then .dropped else e.out) else d

/-- The earliest of the departures that wait for a port and may start now (R263). -/
def Dev.waiterOn (d : Dev) (n : Nat) : Option Dep :=
  (d.dep.table.filter (fun e => e.phase == .releasing && e.ports.contains n && !e.startedOn n && !e.overOn n &&
      e.stagedLine 0 && !d.blockedOn e n)).foldl
    (fun a e => match a with
      | some x => if x.before e then some x else some e
      | none => some e) none

/-- The next departure of a chain takes the port; one whose copy is dropped leaves it to the one after (R263, R264). -/
def Dev.startChain (n : Nat) : Nat → Dev → Dev
  | 0, d => d
  | k + 1, d =>
    match d.waiterOn n with
    | some e =>
      if d.mustDrop n then
        let r := d.dropCopy e n
        Dev.startChain n k ((r.2.putDep r.1).closeDep r.1)
      else
        let r := d.startOn e n
        r.2.putDep r.1
    | none => d

/-- The next departure that waits for a port takes it. -/
def Dev.startNext (d : Dev) (n : Nat) : Dev := Dev.startChain n d.dep.table.length d

/-- On its listed ports, the next departure that waits takes its turn. -/
def Dev.startNexts (d : Dev) (e : Dep) : Dev := if d.gcr.role = .manager then d else e.ports.foldl Dev.startNext d

/-- All listed ports act on the device's decision together. -/
def Dev.releaseAll (d : Dev) (e : Dep) : Dev :=
  let r := e.ports.foldl Dev.releasePort (e, d)
  ((r.2.putDep r.1).closeDep r.1).startNexts e

/-- A port's link leaves ACTIVE during a release: its copy is dropped, and the next departure takes its turn (R264). -/
def Dev.dropReleases (d : Dev) (n : Nat) : Dev :=
  match d.dep.table.find? (fun e => e.startedOn n && !e.overOn n) with
  | some e =>
    let r := d.dropCopy e n
    ((r.2.putDep r.1).closeDep r.1).startNext n
  | none => d

/-! ## Boarded lines (R251, R255, R256) -/

/-- A fully staged part that is late begins its fresh quiet window on every listed port (R258). -/
def Dev.stagedNow (d : Dev) (e : Dep) : Dev :=
  if e.late && e.fullyStaged && e.quiet.isEmpty then d.putDep { e with quiet := e.ports, qat := d.bel.now } else d

/-- Staging begins on the listed ports: one whose link is in LP trains again (R257). -/
def Dev.wakePorts (d : Dev) (e : Dep) : Dev :=
  if d.gcr.role = .manager then d
  else (e.ports.filter (fun n => (d.port n).st == 4)).foldl (fun d n => d.askToken 2 n) d

/-- A line is written into the buffers of the listed ports. -/
def Dev.stageLine (d : Dev) (e : Dep) (b : Boarded) : Dev :=
  let d := (if e.boarded.isEmpty then d.wakePorts e else d).mirror (.boarded e.idx b)
  let l := e.boarded ++ [b]
  let ph := if e.phase = .releasing then e.phase else if l.length = e.count then .staged else e.phase
  let e := { e with boarded := l, phase := ph, waits := e.waits ++ (d.awaits.map (fun k => (b.idx, k))).toList }
  (d.putDep e).stagedNow e

/-- The downlink of a slot's DepLine, and the acknowledgement it owes (R256). -/
def Dev.sendDepLine (e : Dep) (b : Boarded) (d : Dev) (k : Nat) : Dev :=
  d.tell (d.slotPort k) (.depLine e.cidx b (e.line + b.idx))

/-- Counts a line boarded POISON or FAIL (R251): at the departure's coordinator, not at a worker that boards or stages it (log
entry 107). -/
def Dev.badLine (d : Dev) (e : Dep) (b : Boarded) : Dev :=
  let d := d.bumpSat R.DEP_BADLINE_CNT.BAD (if b.st = .ok then 0 else 1)
  match b.st with
  | .ok => d
  | .poison => d.raise R.DEP_EVT.LINE_BAD
  | .fail => d.report R.DEP_EVT.LINE_BAD e.idx b.idx ((e.line + b.idx) * 128) e.dtag

/-- The coordinator has boarded a line; at a manager it goes to every listed worker that takes part. -/
def Dev.boardLine (d : Dev) (idx line : Nat) (st : LineSt) (p : Payload) : Dev :=
  match d.dep? idx with
  | none => d
  | some e =>
    let k := line - e.line
    if line < e.line ∨ e.count ≤ k ∨ e.has k then d
    else
      let b : Boarded := ⟨k, st, ⟨p.data, p.psn || st == .fail⟩⟩
      let d := (d.pmu1 0x021).badLine e b
      if d.gcr.role = .manager then
        let to_ := e.accepted.filter (fun s => !d.portDead (d.slotPort s))
        let e := { e with acks := e.acks ++ to_.map (fun s => (s, k)) }
        to_.foldl (Dev.sendDepLine e b) ((d.putDep e).stageLine e b)
      else d.stageLine e b

/-! ## Cancels (R272, R416) -/

/-- Replaces the announcements whose answer is awaited for no entry. -/
def Dev.setStale (d : Dev) (l : List (Nat × Nat × Bool)) : Dev :=
  ({ d with dep := { d.dep with stale := l } }).mirror (.depStale l)

/-- An answer to an earlier announcement of the index is still due from a slot. -/
def Dev.staleAt (d : Dev) (idx k : Nat) : Bool := d.dep.stale.any (fun x => x.1 == idx && x.2.1 == k)

/-- An announced departure goes: the workers that accepted are told, and those that have not answered are told once they
accept (R240, R272). -/
def Dev.unannounce (d : Dev) (e : Dep) (adm : Bool) : Dev :=
  let d := e.accepted.foldl (fun d k => d.tell (d.slotPort k) (.depCancel e.cidx adm)) d
  let late := (e.toAnswer.filter (fun k => !d.staleAt e.idx k)).map (fun k => (e.idx, k, adm))
  if late.isEmpty then d else d.setStale (d.dep.stale ++ late)

/-- An entry is cancelled: at a manager every worker that accepted it is told. A request whose announcements were still
unanswered is answered as Table DEP-6 has it for a cancel (log entry 27). -/
def Dev.cancelDep (d : Dev) (e : Dep) : Dev :=
  let d := if e.phase = .announcing then d.respond e.org (fun q => .ack q e.tag .I 0 none) else d
  let d := if d.gcr.role = .manager then d.unannounce e true else d
  d.recordDep e .cancelled

/-- Every entry whose first flit has not started is cancelled (R416). -/
def Dev.cancelUnstarted (d : Dev) : Dev := (d.dep.table.filter Dep.cancellable).foldl Dev.cancelDep d

end Sys2Proof.Machine
end

