-- ==== Sys2Proof/Machine/Serve.lean ====
section
/-! DEFINITION. Data for a transaction whose snoops are answered: where it is read, where it is filled, what is granted and
answered (R58 to R70, R105 to R111, R173 to R178, R189, R345 to R350, R453, R454). -/

namespace Sys2Proof.Machine

/-! ## Headers and standing -/

/-- What the transaction finds of its set: Train bypasses the cache; else its header, a quarantined set, or none that can
be used (R46, R453, R454). -/
inductive SetView where
  | bypass | quarantined | unusable | ok (h : Header)
  deriving DecidableEq, Repr

/-- The view of a set. -/
def Dev.view (d : Dev) (set : Nat) : SetView :=
  if d.gcr.mode = .train then .bypass
  else match d.hdrBlocked set with
    | some .quarantined => .quarantined
    | some _ => .unusable
    | none => match d.header? set with
      | some h => .ok h
      | none => .unusable

/-- A read of the line returns DataPoison: its set is quarantined, or its header cannot be used (R46, R454). -/
def Dev.noWay (d : Dev) (line : Nat) : Bool :=
  match d.view (d.setOf line) with
  | .quarantined | .unusable => true
  | _ => false

/-- A worker's standing for its own requests is X: EXC of the sector, or the line's DX entry (R173). Other roles own their
lines. -/
def Dev.hasX (d : Dev) (line : Nat) : Bool :=
  d.gcr.role != .worker ||
  (match d.header? (d.setOf line) with
   | some h => match h.find (d.tagOf line) with | some w => (h.way w).exc | none => false
   | none => false) ||
  (match d.dirEnt line with | some e => e.st == .DX | none => false)

/-- A transaction's standing is X: from when it became active, by the manager's grant since, or now (R173, R175). -/
def Dev.standsX (d : Dev) (t : Txn) : Bool := t.upX || t.hadX || d.hasX t.line

/-- Sets EXC of the sector's way when the manager has granted E or D (R175). -/
def Dev.setExc (d : Dev) (line : Nat) : Dev :=
  match d.header? (d.setOf line) with
  | some h => match d.wayOf h line with
    | some w => d.putHeader (d.setOf line) (h.setWay w { h.way w with exc := true })
    | none => d
  | none => d

/-! ## The next level -/

/-- Starts a read of a line on its memory port, two halves; a port that is not READY takes it later, and one that FAILED or was
removed will answer with an error (R201, R390, R391, R393). -/
def Dev.memRead (d : Dev) (line : Nat) : Dev :=
  let l := d.memLoc (line * 128)
  let m := d.mp l.1
  if Mp.dead m then d.setMp l.1 { m with reads := m.reads ++ [line] }
  else if m.st == 3 && Mp.takes m then
    let d := (d.setMp l.1 { m with reads := m.reads ++ [line] }).pmu1 (0x200 + 8 * l.1)
    (d.emit (.memRd l.1 l.2)).emit (.memRd l.1 (l.2 + 64))
  else d.setMp l.1 { m with waiting := m.waiting ++ [(line, false)] }

/-- Reads that wait for their port start while it takes more. -/
def Dev.mpNext (d : Dev) (n : Nat) : Dev :=
  match (d.mp n).waiting with
  | [] => d
  | e :: l => if Mp.takes (d.mp n) then (d.setMp n { d.mp n with waiting := l }).memRead e.1 else d

/-- Every waiting read of a port starts, as far as the port takes them. -/
def Dev.mpStart (d : Dev) (n : Nat) : Dev :=
  let l := (d.mp n).waiting
  l.foldl (fun d e => d.memRead e.1) (d.setMp n { d.mp n with waiting := [] })

/-- Sends an uplink request for a transaction, which then waits (R169). -/
def Dev.upRequest (d : Dev) (t : Txn) (k : Kind) (tkt : Option Nat) : Dev :=
  let q := Txn.upTag t
  let r := d.uplinkPhase q.1 q.2 t.tph false
  let d := (r.2.putTxn { t with phase := .uplink, up := some k, upTph := r.1 }).pmu1 0x024
  d.tell d.uplink (.upReq d.widx k q.1 q.2 r.1 t.snooped t.ch t.mask t.pay tkt)

/-- The uplink request that brings a transaction's data (Table HIE-2). The table has no row for a RdShared or RdFetch whose
standing is X, and names no request for the base of a WrPart that X lets the worker allocate: there the model asks with the
request's own type, and with RdOwn (log entry 63). -/
def upKind (t : Txn) : Kind :=
  match t.kind with
  | .rdShared => .rdShared
  | .rdFetch => .rdFetch
  | .rdOnce => if t.pol.2 then .rdShared else .rdOnce
  | .wrPart => .rdOwn
  | .rdOwn | .upgrade => .rdOwn
  | _ => .rdOnce

/-- Data is asked of the next level. -/
def Dev.askNext (d : Dev) (t : Txn) : Dev :=
  if d.gcr.role = .worker then d.upRequest t (upKind t) none
  else (d.putTxn { t with phase := .readMem }).memRead t.snooped

/-! ## A way for a line (R54, R58, R63, R67) -/

/-- The class of Table CAC-8 of a transaction. -/
def allocClass : Kind → Option AllocClass
  | .rdShared | .rdFetch | .rdOwn | .upgrade => some .read
  | .rdOnce => some .readOnce
  | .wrFull | .apdLine => some .write
  | .wrPart => some .part
  | _ => none

/-- The way a miss fills: none when Table CAC-8 allocates nothing; the transaction waits when no way is eligible or its
victim's dirty lines find no room. True: go on. -/
def Dev.reserveWay (d : Dev) (t : Txn) (h : Header) : Bool × Txn × Dev :=
  let set := d.setOf t.line
  match (match allocClass t.kind with | some c => d.allocWith t.pol c t.line | none => none) with
  | none => (true, { t with way := none }, d)
  | some stream =>
    match d.wayOf h t.line with
    | some w =>
      if d.groupUsable (w / 4) then (true, { t with way := some w }, d.allocFill set w t.id)
      else (true, { t with way := none }, d.allocDone set w t.id)
    | none =>
      let wait := d.putTxn { t with phase := .waitWay }
      if d.sectorWaits t.line t.id t.ord (fun e => e.ord ≤ t.ord) then (false, t, wait)
      else match d.victim set h with
        | none => (false, t, wait)
        | some w =>
          if d.copyNow t.id (dirtyLines (h.way w)).length then
            (true, { t with way := some w }, (d.allocFill set w t.id).allocWay set h w t.line stream false)
          else (false, t, (d.waitCopyOf set w t.id).putTxn { t with phase := .waitCopy, way := some w })

/-- A way reserved by a transaction that fills nothing is given up. -/
def Dev.giveUpWay (d : Dev) (t : Txn) : Dev :=
  match t.way with
  | none => d
  | some w =>
    let set := d.setOf t.line
    if d.pip.alloc.contains (set, w, t.id) then
      let d := d.allocDone set w t.id
      match d.header? set with
      | some h => if (h.way w).occupied || d.allocating set w then d else d.putHeader set (h.clearWay w)
      | none => d
    else d

/-- The line a transaction obtained is filled into its way: clean for a read, dirty for a write; nothing is filled in a group
that has been lost since (R61, R320). A read fill into an occupied way ages as a read hit (Table CAC-6). -/
def Dev.fillFor (d : Dev) (t : Txn) (p : Payload) (dirty : Bool) : Dev :=
  match t.way with
  | none => d
  | some w =>
    let set := d.setOf t.line
    if d.pip.lost.getLsbD (w / 4) then d.giveUpWay t
    else
      let d := match d.header? set with
        | some h => if !dirty && (h.way w).occupied then d.putHeader set (h.readHit w d.groupsOn) else d
        | none => d
      let d := (d.fillLine set w t.line p dirty).allocDone set w t.id
      if t.upX && d.gcr.role == .worker then d.setExc t.line else d

/-! ## Traps and halts (R347 to R350) -/

/-- A request is answered Err TRAP: nothing is granted or written (R348). -/
def Dev.trap (d : Dev) (t : Txn) : Dev :=
  let d := (d.giveUpWay t).report R.ECC_EVT.TRAP t.port 0 (t.line * 128) t.tag
  (d.sendErr t.org t.tag 0).freeTxn t.id

/-- A request halts its channel and is answered Err HALT (R349). -/
def Dev.haltChannel (d : Dev) (t : Txn) : Dev :=
  let d := ({ d with ecc := { d.ecc with haltNow := (t.port, t.ch) :: d.ecc.haltNow } }).set
    ⟨(R.ECC_CHAN_HALTn.HALT t.port).ofs, t.ch, t.ch⟩ 1
  let d := (d.giveUpWay t).report R.ECC_EVT.CHAN_HALT t.port t.ch (t.line * 128) 0
  (d.sendErr t.org t.tag 1).freeTxn t.id

/-- A WrPart that halts its channel writes nothing; dirty data that a holder returned for it is written as a WrBack (R117, R348;
log entry 98). -/
def Dev.haltWrite (d : Dev) (t : Txn) : Dev :=
  (match t.got with | some b => d.takeDirty t.line b | none => d).haltChannel { t with got := none }

/-- What poisoned data does to a request outside normal service (Table INT-7). -/
def Dev.refuseData (d : Dev) (t : Txn) : Dev :=
  match t.kind with
  | .rdOnce | .wrPart => d.haltChannel t
  | _ => d.trap t

/-! ## Grants (Tables COH-6, COH-7, HIE-4) -/

/-- The state granted to an agent, from its line's entry after the snoop answers: whether the requester can be recorded is
judged then, when a Miss may have freed a pointer (log entry 64). An entry that was shared and lost its only holder grants as
Table COH-6 gives for a prefect that answers Miss; one whose DX holder is a disabled port grants as for an untracked line (log
entry 102). -/
def Dev.agentGrant (d : Dev) (t : Txn) : LState :=
  match t.kind with
  | .rdOwn | .upgrade => if t.dirty then .D else .E
  | .rdShared | .rdFetch =>
    match d.dirEnt t.line, t.reader with
    | some e, some r =>
      if e.prefect.isSome && e.prefect != some r then .S else if e.recordable r then .P else .S
    | _, _ =>
      if t.kind = .rdShared && !t.wasShared && d.flag R.DIR_CFG.SHARED_E && d.standsX t then .E else .P
  | _ => .I

/-- The state granted to a worker, from its sector's entry after the snoop answers. -/
def Dev.workerGrant (d : Dev) (t : Txn) : LState :=
  let e := d.sdrEnt (sectorOf t.line)
  match t.kind with
  | .rdOwn | .upgrade => if t.dirty then .D else .E
  | .rdShared | .rdFetch =>
    if t.ownerGone then .S
    else match e.st with
      | .DX => .E
      | .DS => .S
      | .DI => if t.kind = .rdShared && d.flag R.SDR_CFG.SHARED_X then .E else .S
  | _ => .I

/-- The state granted to the requester. -/
def Dev.grantOf (d : Dev) (t : Txn) : LState := if d.gcr.role = .manager then d.workerGrant t else d.agentGrant t

/-- The directory records a grant (R100, R182). -/
def Dev.recordGrant (d : Dev) (t : Txn) (g : LState) : Dev :=
  match t.reader, t.slot with
  | some r, _ =>
    match g with
    | .I => d
    | .S => d.dirMap t.line (fun e => e.share r)
    | .P => d.dirMap t.line (fun e => (e.share r).setPf r)
    | .E | .D => d.dirMap t.line (fun e => e.exclusive r)
  | none, some k =>
    let e := d.sdrEnt (sectorOf t.line)
    match g with
    | .I => d
    | .S | .P => d.putSdr (e.share k)
    | .E | .D => d.putSdr (e.exclusive k)
  | none, none => d

/-- A grant is decided and then sent: the transaction as it stands from here on, waiting for the grant Ack, is mirrored before
the response leaves; a disabled port gives the Ack at once for its agent (R93, R130, R167, R211). -/
def Dev.granted (d : Dev) (t : Txn) (answer : Nat → Msg) : Dev :=
  let t := { t with phase := .grantAck }
  let d := (d.putTxn t).respond t.org answer
  if d.portDead t.port then d.retireGrant t else d

/-- Data goes to the requester with its grant; the transaction waits for the grant Ack, or retires (R93, R94, R110). A
transaction whose grant was decided before a takeover keeps it (R224). -/
def Dev.deliver (d : Dev) (t : Txn) (p : Payload) : Dev :=
  if p.psn && d.gcr.mode.traps then d.refuseData t
  else
    let g := if t.grant = .I then d.grantOf t else t.grant
    let d := if t.grant = .I then d.recordGrant t g else d
    let answer : Nat → Msg := fun q => .data q t.tag t.line g t.id p
    if g = .I then (d.respond t.org answer).freeTxn t.id else d.granted { t with grant := g, got := some p } answer

/-- An Upgrade is answered with Ack granting E (Table COH-8). -/
def Dev.deliverAck (d : Dev) (t : Txn) : Dev :=
  (d.recordGrant t .E).granted { t with grant := .E, got := none } (fun q => .ack q t.tag .E t.id none)

/-! ## Writes (Table COH-10) -/

/-- The directory after a write: no holder, or at a manager the requester's own record alone. -/
def Dev.recordWrite (d : Dev) (t : Txn) : Dev :=
  match t.slot with
  | some _ => d
  | none => d.dirMap t.line DirEnt.free

/-- A write is complete: Ack, the re-send log, and the entry is freed; an engine's line waits for its retirement. -/
def Dev.finishWrite (d : Dev) (t : Txn) : Dev :=
  let d := d.recordWrite t
  match t.kind with
  | .apdLine => d.putTxn { t with phase := .done }
  | _ =>
    let d := d.logRetired ⟨t.org, t.tag, t.tph, t.line, t.kind, 0⟩
    (d.respond t.org (fun q => .ack q t.tag .I 0 none)).freeTxn t.id

/-- A write through the write buffer whose end its transaction awaits: a worker's, which goes to the manager with its agent's
port and tag, and a stream's line, which is complete only when the next level has it (R170, R176, Table HIE-2, R287, R290;
log entry 104). -/
def Dev.awaitsEnd (d : Dev) (t : Txn) : Bool := t.kind == .apdLine || d.gcr.role == .worker

/-- A write without allocation: through the write buffer, once it has room (R58, R68). -/
def Dev.writeAround (d : Dev) (t : Txn) (m : Mask) (p : Payload) : Dev :=
  if !d.wbRoom t.line then d.putTxn { t with phase := .waitEntry }
  else if d.awaitsEnd t then
    (d.putTxn { t with phase := if t.ofAgent then .uplink else .waitAck, up := none }).wbPlace t.line m p (some t.id)
  else (d.wbPlace t.line m p none).finishWrite t

/-- A whole line to write: into its hit, its way, or around the cache. -/
def Dev.writeLine (d : Dev) (t : Txn) (p : Payload) : Dev :=
  match d.view (d.setOf t.line) with
  | .ok h =>
    match d.hitWay h t.line with
    | some w => (d.writeHit (d.setOf t.line) w t.line p).finishWrite t
    | none =>
      match t.way with
      | some w =>
        if d.pip.lost.getLsbD (w / 4) then (d.giveUpWay t).writeAround { t with way := none } Mask.full p
        else (d.fillFor t p true).finishWrite t
      | none => d.writeAround t Mask.full p
  | _ => d.writeAround t Mask.full p

/-- A WrPart whose base has come: merged, or its channel halted outside normal service (R344, Table INT-7). -/
def Dev.mergeBase (d : Dev) (t : Txn) (base : Payload) : Dev :=
  if base.psn && d.gcr.mode.traps then d.haltChannel t else d.writeLine t (mergePart t.mask t.pay base)

/-! ## Reads -/

/-- The status of a boarded line (R251). -/
def boardStatus (p : Payload) : LineSt := if p.psn then .poison else .ok

/-- A valid line of the cache is read from its lane; a line of a lost group is made invalid once read (R321). -/
def Dev.readHitLine (d : Dev) (t : Txn) (w : Nat) : Dev :=
  let line := t.snooped
  let set := d.setOf line
  let l := d.lineLoc set w (line % 8)
  let aged : Bool := match t.kind with | .rdShared | .rdFetch | .rdOwn | .upgrade | .rdOnce => true | _ => false
  let d := match d.header? set with
    | some h => if aged then d.putHeader set (h.readHit w d.groupsOn) else d
    | none => d
  (((d.pmu1 0x00A).useHeader set).driveRd l.1 l.2).putTxn { t with phase := .readLane, way := some w }

/-- A hit that Table DST-6 serves: any line of a group in service, and a dirty line of a lost group. -/
def Dev.servedHit (d : Dev) (h : Header) (line : Nat) : Option Nat :=
  match d.hitWay h line with
  | some w => if d.pip.lost.getLsbD (w / 4) && !(h.way w).dty.getLsbD (line % 8) then none else some w
  | none => none

/-- A line of a way of a lost group lies on a lost lane. -/
def Dev.onLostLane (d : Dev) (set w line : Nat) : Bool :=
  d.pip.lost.getLsbD (w / 4) && (d.lane (d.lineLoc set w (line % 8)).1).st == 5

/-- A dirty line on a lost lane, or the mirror side's copy of it, is used and written to the next level (Table DST-6). -/
def Dev.lostLine (d : Dev) (set w line : Nat) : Payload × Dev :=
  let r := d.readWay set w line
  (r.1, (r.2.dropLine set w line).wbFullWrite line r.1 .clean none)

/-- A line that has been read from a way of a group lost meanwhile leaves the way; a dirty one is written to the next level
(Table DST-6). -/
def Dev.leaveLost (d : Dev) (set w line : Nat) (p : Payload) : Dev :=
  if !d.pip.lost.getLsbD (w / 4) then d
  else match d.header? set with
    | some h =>
      let e := d.dropLine set w line
      if (h.way w).dty.getLsbD (line % 8) then e.wbFullWrite line p .clean none else e
    | none => d

/-- Data of the line a transaction works on, if it is at hand; else the transaction waits for it: a lane read, the
acknowledgement of a partial write, or the next level (R69, R70). Where the buffer holds both a partial entry and a full copy
of the line, the partial entry goes out first (log entry 65). -/
def Dev.readSource (d : Dev) (t : Txn) : Option Payload × Dev :=
  let line := t.snooped
  let set := d.setOf line
  let far (d : Dev) : Option Payload × Dev :=
    if d.wbPartial line then (none, (d.putTxn { t with phase := .waitWbf }).wbForce (fun e => e.line == line))
    else match d.wbFull line with
      | some e => (some e.pay, d)
      | none => (none, d.askNext t)
  match d.view set with
  | .bypass => far d
  | .quarantined | .unusable => (some d.freePoison.1, d.freePoison.2)
  | .ok h =>
    match d.servedHit h line with
    | some w =>
      if d.onLostLane set w line then
        let r := d.lostLine set w line
        (some r.1, r.2)
      else (none, d.readHitLine t w)
    | none =>
      let d := match d.hitWay h line with
        | some w => d.dropLine set w line
        | none => d
      far (d.pmu1 0x00B)

/-- A line of a boarding read is boarded; a worker that answered Miss for it is sent DepAck (R249). -/
def Dev.boardOne (d : Dev) (t : Txn) (l : Nat) (st : LineSt) (p : Payload) : Dev :=
  let d := d.boardLine t.aux l st p
  if t.tag = 0 then d else d.tell (t.tag - 1) (.depAck t.depIdx (l - t.line + t.ch))

/-- The lines of a boarding read, in ascending order: those at hand board at once; the next one that is not is asked for,
and the rest wait in `lines` (R245, R247). The read ends when no answer to DepBoard is owed either. -/
def Dev.boardLines : List Nat → Txn → Dev → Dev
  | [], t, d =>
    let t := { t with lines := [], victim := none }
    d.putTxn (if t.owed.isEmpty then { t with phase := .done, await := [] } else { t with phase := .snooping })
  | l :: ls, t, d =>
    let t := { t with victim := some l, lines := ls }
    match d.readSource t with
    | (some p, d) => Dev.boardLines ls t (d.boardOne t l (boardStatus p) p)
    | (none, d) => d

/-- A line of a boarding read has come. -/
def Dev.boarded (d : Dev) (t : Txn) (st : LineSt) (p : Payload) : Dev :=
  Dev.boardLines t.lines t (d.boardOne t t.snooped st p)

/-- Data that was not in the cache has come: filled where a way was reserved, and used (R61, R62). -/
def Dev.arrived (d : Dev) (t : Txn) (p : Payload) : Dev :=
  match t.kind with
  | .wrPart => d.mergeBase t p
  | .board => d.boarded t (boardStatus p) p
  | _ => if p.psn && d.gcr.mode.traps then d.refuseData t else (d.fillFor t p false).deliver t p

/-- A line has been read from its lane. -/
def Dev.laneArrived (d : Dev) (t : Txn) (p : Payload) : Dev :=
  let set := d.setOf t.snooped
  let w := t.way.getD 0
  match t.kind with
  | .wrPart => d.mergeBase t p
  | .depBoard => (d.leaveLost set w t.snooped p).putTxn { t with way := none, got := some p, phase := .snooping }
  | .board => (d.leaveLost set w t.snooped p).boarded { t with way := none } (boardStatus p) p
  | _ => (d.leaveLost set w t.snooped p).deliver { t with way := none } p

/-- A worker asks for X before it grants E or D (R176): with Upgrade where the line is in its cache, else with RdOwn. -/
def Dev.askX (d : Dev) (t : Txn) : Dev :=
  let hit := match d.view (d.setOf t.line) with
    | .ok h => (d.hitWay h t.line).isSome
    | _ => false
  d.upRequest t (if hit then .upgrade else .rdOwn) none

/-- A worker's ownership request without X: the write buffer's entries of the line go out and are acknowledged first, a full
copy serving as the line's data; then X is asked for (R69, R70, R169, R176). An Upgrade answered with Ack allocates nothing
(Table CAC-8). -/
def Dev.gatherX (d : Dev) (t : Txn) : Dev :=
  if d.wbf.ents.any (fun e => e.line == t.line) then
    let got := match t.got with
      | some p => some p
      | none => if d.wbPartial t.line then none else (d.wbFull t.line).map (·.pay)
    (d.putTxn { t with phase := .waitWbf, got := got }).wbForce (fun e => e.line == t.line)
  else if t.kind = .upgrade ∧ !t.asOwn then d.askX t
  else match d.view (d.setOf t.line), t.got with
    | .ok h, none =>
      if (d.hitWay h t.line).isSome then d.askX t
      else
        let r := d.reserveWay t h
        if r.1 then r.2.2.askX r.2.1 else r.2.2
    | _, _ => d.askX t

/-- A read whose snoops are answered. A read of a cached line that a snoop's data answers changes no AGE: the model does not
count it as a read hit (log entry 66). -/
def Dev.gatherRead (d : Dev) (t : Txn) : Dev :=
  let own : Bool := t.kind == .rdOwn || t.kind == .upgrade
  if own && !d.standsX t then d.gatherX t
  else if t.kind = .upgrade ∧ !t.asOwn then d.deliverAck t
  else match d.view (d.setOf t.line) with
    | .ok h =>
      if (d.servedHit h t.line).isSome && t.got.isNone then
        match d.readSource t with
        | (some p, d) => d.deliver { t with way := none } p
        | (none, d) => d
      else if t.dirty then d.deliver t (t.got.getD ⟨0, true⟩)
      else
        let r := if (d.hitWay h t.line).isSome then (true, { t with way := none }, d.giveUpWay t) else d.reserveWay t h
        if !r.1 then r.2.2
        else match t.got with
          | some p => if (d.hitWay h t.line).isSome then r.2.2.deliver r.2.1 p else r.2.2.arrived r.2.1 p
          | none => match r.2.2.readSource r.2.1 with
            | (some p, d) => d.arrived r.2.1 p
            | (none, d) => d
    | .quarantined | .unusable => (d.freePoison.2.giveUpWay t).arrived { t with way := none }
        ⟨(t.got.getD d.freePoison.1).data, true⟩
    | .bypass => match t.got with
      | some p => d.deliver t p
      | none => match d.readSource t with
        | (some p, d) => d.arrived t p
        | (none, d) => d

/-- A write whose snoops are answered. A WrPart that meets a clean line of a lost group merges at the next level, which holds
the line's current value; a dirty one merges over its data, or over a poisoned base (Table DST-6; R46, R58, R59, R68, R176, R453, R454). -/
def Dev.gatherWrite (d : Dev) (t : Txn) : Dev :=
  let full : Bool := t.kind != .wrPart || t.got.isSome
  let p := match t.got with
    | some b => if t.kind = .wrPart then mergePart t.mask t.pay b else t.pay
    | none => t.pay
  if t.kind = .wrPart ∧ t.got.any (·.psn) ∧ d.gcr.mode.traps then d.haltWrite t
  else match d.view (d.setOf t.line) with
  | .bypass | .quarantined => d.writeAround t (if full then Mask.full else t.mask) p
  | .unusable => if t.kind = .wrPart then d.haltWrite t else d.writeAround t Mask.full p
  | .ok h =>
    if !d.standsX t then d.writeAround t (if full then Mask.full else t.mask) p
    else match d.hitWay h t.line with
      | some w =>
        if full then (d.writeHit (d.setOf t.line) w t.line p).finishWrite t
        else if (d.servedHit h t.line).isNone then
          (d.dropLine (d.setOf t.line) w t.line).writeAround t t.mask p
        else if (d.lane (d.lineLoc (d.setOf t.line) w (t.line % 8)).1).st = 5 then
          let r := d.readWay (d.setOf t.line) w t.line
          r.2.mergeBase t r.1
        else d.readHitLine t w
      | none =>
        let r := d.reserveWay t h
        if !r.1 then r.2.2
        else if r.2.1.way.isNone then r.2.2.writeAround r.2.1 (if full then Mask.full else t.mask) p
        else if full then (r.2.2.fillFor r.2.1 p true).finishWrite r.2.1
        else match r.2.2.readSource r.2.1 with
          | (some b, d) => d.mergeBase r.2.1 b
          | (none, d) => d

/-! ## Range maintenance of one line (Table CAC-13) -/

/-- A line's write to the next level is acknowledged: its dirty bit clears, or the line is invalid (R78). -/
def Dev.maintAck (d : Dev) (t : Txn) (op : Nat) : Dev :=
  let set := d.setOf t.line
  let d := match d.header? set with
    | some h => match d.hitWay h t.line with
      | some w =>
        let x := h.way w
        if op = 3 then d.putHeader set (d.dropFrom set h w (t.line % 8))
        else d.putHeader set (h.setWay w { x with dty := set8 x.dty (t.line % 8) false })
      | none => d
    | none => d
  d.putTxn { t with phase := .done }

/-- A line's written-back data that has not found its place yet counts as in the cache: op 2 discards it, and ops 1 and 3
send it to the next level, whose acknowledgement completes the line (R78, R112). -/
def Dev.maintUnplaced (d : Dev) (t : Txn) (op : Nat) : Dev :=
  let l := d.wbf.ents.filter (fun e => e.line == t.line && !e.bound)
  if op = 2 then
    let d := l.foldl Dev.wbFree d
    (if l.isEmpty then d else d.cleanMark t.line).putTxn { t with phase := .done }
  else
    let d := d.putTxn { t with phase := .waitAck, dirty := true }
    l.foldl (fun (d : Dev) (e : WbEnt) => d.wbBind { e with txn := some t.id }) d

/-- A maintenance line whose snoops are answered. -/
def Dev.gatherMaint (d : Dev) (t : Txn) (op : Nat) : Dev :=
  let d := d.wbSettleAll
  let set := d.setOf t.line
  let send (d : Dev) (p : Payload) : Dev :=
    (d.putTxn { t with phase := .waitAck, got := some p }).wbFullWrite t.line p .maint (some t.id)
  let none' (d : Dev) : Dev :=
    if d.wbf.ents.any (fun e => e.line == t.line && !e.bound) then d.maintUnplaced t op
    else d.putTxn { t with phase := .done }
  match d.view set with
  | .ok h =>
    match d.hitWay h t.line with
    | some w =>
      let dirty := (h.way w).dty.getLsbD (t.line % 8)
      if op = 2 then none' ((d.dropLine set w t.line).cleanMark t.line)
      else match (if t.dirty then t.got else none) with
        | some p => send (d.fillLine set w t.line p true) p
        | none =>
          if dirty then
            let r := d.readWay set w t.line
            send r.2 r.1
          else if op = 3 then none' (d.dropLine set w t.line) else none' d
    | none => match t.got with
      | some p => if t.dirty && op != 2 then send d p else none' d
      | none => none' d
  | _ => match t.got with
    | some p => if t.dirty && op != 2 then send d p else none' d
    | none => none' d

/-- A transaction goes on once its snoops are answered; also the way it goes on after each wait for room. -/
def Dev.gather (d : Dev) (t : Txn) : Dev :=
  match t.kind with
  | .rdShared | .rdFetch | .rdOwn | .rdOnce | .upgrade => d.gatherRead t
  | .wrFull | .wrPart | .apdLine => d.gatherWrite t
  | .board =>
    match t.got with
    | some p =>
      let p := if d.noWay t.line then { p with psn := true } else p
      d.boarded { t with victim := some t.line } (boardStatus p) p
    | none => Dev.boardLines (t.line :: t.lines) t d
  | .maint op => d.gatherMaint t op
  | _ => d

end Sys2Proof.Machine
end

