-- ==== Sys2Proof/Machine/Home.lean ====
section
/-! DEFINITION. The home's decisions: which holders a transaction snoops, what each answer does, and how a transaction
becomes active (R103 to R130, R136, R150 to R152, R182, R185, R189, R198). -/

namespace Sys2Proof

/-- What a transaction that waits for the manager keeps of its sector after a manager snoop: under SnpShare X is gone, and
under SnpOwn and SnpInv every copy with it (R194). -/
def Txn.losesSector (t : Txn) (s : Snoop) : Txn :=
  match s with
  | .share _ => { t with hadX := false }
  | _ => { t with hadX := false, wasShared := false, lost := true, got := none, dirty := false }

/-- A transaction waits for a response of the manager: to its own request, to a write of its line that goes first, or, as
work of the device's own, to the line it has written there (R194). -/
def Txn.waitsUp (u : Txn) : Bool := u.phase == .uplink || u.phase == .waitWbf || (u.phase == .waitAck && !u.ofManager)

end Sys2Proof

namespace Sys2Proof.Machine

/-! ## What a snoop answer does to the directory (R116 to R119, R123) -/

/-- The entry of the snooped line after an answer of a holder. A DX holder that answers SnpShare with the resulting state I, as
a disabled port does (R130), is dropped: Table COH-6 has no row for it, and the grant is then as for an untracked line (log
entry 102). -/
def entryAfter (s : Snoop) (a : SnpAns) (p : Nat) (e : DirEnt) : DirEnt :=
  match s, a with
  | .share kp, .data _ rst _ =>
    if rst = .I then e.drop p
    else
      let e := { e with st := .DS }
      if kp then e.setPf p else if e.prefect = some p then e.noPf else e
  | .share _, .ack => if e.st = .DX then e.drop p else if e.prefect = some p then e.noPf else e
  | _, .miss true => if e.st = .DX ∧ e.records p then e else e.drop p
  | _, _ => e.drop p

/-- The entry of the snooped sector after an answer of a slot (Table HIE-4). -/
def sectorAfter (s : Snoop) (a : SnpAns) (k : Nat) (e : SdrEnt) : SdrEnt :=
  match s, a with
  | .share _, .data _ rst _ => if rst = .I then e.drop k else if e.st = .DX then { e with st := .DS } else e
  | .share _, .ack => if e.st = .DX then { e with st := .DS } else e
  | _, _ => e.drop k

/-- Whether a transaction takes the data of a dirty SnpInv answer, drops it, or leaves it to be written (R117). -/
inductive InvUse where
  | discard | base | write
  deriving DecidableEq, Repr

/-- R117 by kind; a back-invalidation and the broadcast for an unknown entry always write (R127, R185). -/
def invUse (t : Txn) : InvUse :=
  if t.phase = .backInv ∨ t.phase = .waitSdr then .write
  else match t.kind with
    | .wrFull | .apdLine => .discard
    | .wrPart => .base
    | .maint op => if op = 2 then .discard else .write
    | _ => .write

/-- What an answer brings the transaction and the device: relayed data, dirty data written as a WrBack (R116, R117), or a
WrBack to wait for (R118). -/
def Dev.useAnswer (d : Dev) (t : Txn) (p : Nat) (s : Snoop) (a : SnpAns) : Txn × Dev :=
  let line := t.snooped
  let maint : Bool := match t.kind with | .maint _ | .mgrSnoop _ => true | _ => false
  match s, a with
  | .share _, .data dty _ q =>
    if maint then ({ t with got := some q, dirty := dty, fromHolder := true }, d)
    else ({ t with got := some q, fromHolder := true }, if dty then d.takeDirty line q else d)
  | .own, .data dty _ q => ({ t with got := some q, dirty := dty, fromHolder := true }, d)
  | .inv, .data true _ q =>
    if t.ofManager then ({ t with got := some q, dirty := true }, d)
    else match invUse t with
    | .discard => (t, d)
    | .base => ({ t with got := some q }, d)
    | .write => (t, d.takeDirty line q)
  | _, .miss true =>
    match d.dirEnt line with
    | some e => if e.st = .DX ∧ e.records p then ({ t with wbFrom := t.wbFrom ++ [p] }, d) else (t, d)
    | none => (t, d)
  | _, _ => (t, d)

/-- One answer: the directory, then its data. -/
def Dev.takeAnswer (d : Dev) (t : Txn) (p : Nat) (s : Snoop) (a : SnpAns) : Txn × Dev :=
  let r := d.useAnswer t p s a
  if d.gcr.role = .manager then
    let e := r.2.sdrEnt (sectorOf t.snooped)
    let e2 := sectorAfter s a (p / 2) e
    (r.1, if e2 = e then r.2 else r.2.putSdr e2)
  else (r.1, r.2.dirMap t.snooped (entryAfter s a p))

/-! ## Disabled ports and downlinks (R130, R198) -/

/-- Lines of a sector are written poisoned, each of zeros, as WrBacks: all 8, or all but the target, which the answer's use
writes (R198). -/
def Dev.poisonSector (d : Dev) (line : Nat) (target : Bool) : Dev :=
  ((List.range 8).filter (fun n => target || n != line % 8)).foldl
    (fun d n => d.takeDirty (line / 8 * 8 + n) ⟨0, true⟩) d

/-- The use of an answer writes the target's data itself (R116, R117). -/
def answerWrites (t : Txn) (s : Snoop) : Bool :=
  match s, t.kind with
  | .share _, .maint _ => true
  | .share _, _ => true
  | .own, .maint _ => true
  | .own, _ => false
  | .inv, _ => invUse t == .write

/-- The answer that a disabled port or downlink gives in place of its peer. For a sector held exclusive there, all 8 lines
are written poisoned (R130, R198). -/
def Dev.standIn (d : Dev) (t : Txn) (port : Nat) (s : Snoop) : SnpAns × Dev :=
  if d.gcr.role = .manager then
    let e := d.sdrEnt (sectorOf t.snooped)
    if e.st = .DX ∧ e.records (port / 2) then (.data true .I ⟨0, true⟩, d.poisonSector t.snooped (!answerWrites t s))
    else (.miss false, d)
  else (d.deadAnswer port t.snooped, d)

/-- A sector held exclusive by the slot of a downlink is written poisoned, all 8 lines (R198). -/
def Dev.slotPoison (d : Dev) (port line : Nat) : Dev :=
  let e := d.sdrEnt (sectorOf line)
  if d.gcr.role = .manager ∧ e.st = .DX ∧ e.records (port / 2) then d.poisonSector line true else d

/-- Sends one snoop of a plan, or takes the stand-in answer of a disabled port; a snoop that a berth hold keeps from its
holder waits for the hold's end either way (R130, R151, Table ORD-8). -/
def Dev.snoopOne (r : Txn × Dev) (e : Nat × Snoop) : Txn × Dev :=
  if r.2.portDead e.1 && !r.2.onHold (r.2.key r.1.snooped) e.1 then
    let a := r.2.standIn r.1 e.1 e.2
    a.2.takeAnswer r.1 e.1 e.2 a.1
  else r.2.sendSnoop r.1 e.1 e.2

/-- Sends the snoops of a plan. -/
def Dev.snoopAll (d : Dev) (t : Txn) (l : List (Nat × Snoop)) : Txn × Dev := l.foldl Dev.snoopOne (t, d)

/-- Every answer is in: none awaited, none held, no WrBack owed. -/
def answered (t : Txn) : Bool := t.await.isEmpty && t.held.isEmpty && t.wbFrom.isEmpty

/-! ## Plans (Tables COH-6 to COH-10, CAC-13, HIE-4) -/

/-- The snoops of a transaction and whether they are a roll call. -/
structure Plan where
  snoops : List (Nat × Snoop)
  roll : Bool
  deriving DecidableEq, Repr

/-- No snoop. -/
def Plan.none : Plan := ⟨[], false⟩

/-- SnpInv to the recorded holders but one, or a roll call; a port that is snooped with SnpOwn is not sent SnpInv (R106,
R125). -/
def Dev.invPlan (d : Dev) (e : DirEnt) (except own : Option Nat) : Plan :=
  let ports := if e.ovf then d.rollCallPorts except else (holdersOf e.ptr).filter (fun p => some p != except)
  ⟨ports.map (fun p => (p, if some p = own then .own else .inv)) ++
     (match own with | some p => if ports.contains p then [] else [(p, .own)] | _ => []), e.ovf⟩

/-- The snoops an agent directory entry calls for. A shared read of an uncached line whose overflowed entry records a
prefect sends SnpShare there, as Table COH-6 has it: the model takes R125's first sentence to speak of the snoops that
invalidate (log entry 67). -/
def Dev.agentPlan (d : Dev) (t : Txn) (cached : Bool) : Plan :=
  match d.dirEnt t.line with
  | none => Plan.none
  | some e =>
    let r := t.reader
    let once : Bool := t.kind == .rdOnce || t.kind == .board
    match t.kind with
    | .rdShared | .rdFetch | .rdOnce | .board =>
      match e.st, e.prefect with
      | .DX, _ => ⟨(holdersOf e.ptr).map (fun p => (p, .share once)), false⟩
      | _, some p =>
        if cached then Plan.none
        else ⟨[(p, .share (once || !(match r with | some q => e.recordable q | _ => true)))], false⟩
      | _, _ => Plan.none
    | .rdOwn | .upgrade =>
      if e.st = .DX then
        ⟨((holdersOf e.ptr).filter (fun p => some p != r)).map (fun p => (p, .own)), false⟩
      else if t.kind = .upgrade ∧ !t.asOwn then d.invPlan e r none
      else d.invPlan e r (if cached || e.prefect == r then none else e.prefect)
    | .wrFull | .wrPart | .apdLine => d.invPlan e r none
    | .maint op =>
      if op = 1 then (if e.st = .DX then ⟨(holdersOf e.ptr).map (fun p => (p, .share true)), false⟩ else Plan.none)
      else if op = 3 ∧ e.st = .DX then ⟨(holdersOf e.ptr).map (fun p => (p, .own)), false⟩
      else d.invPlan e none none
    | _ => Plan.none

/-- SnpInv to every recorded slot but one, or a broadcast (R182). -/
def Dev.slotInv (d : Dev) (e : SdrEnt) (w : Option Nat) : Plan :=
  let ks := if e.ovf then d.broadcastSlots w else (holdersOf e.ptr).filter (fun k => some k != w)
  ⟨ks.map (fun k => (d.slotPort k, .inv)), e.ovf⟩

/-- The snoops a sector entry calls for (Table HIE-4; range maintenance as the device itself). -/
def Dev.workerPlan (d : Dev) (t : Txn) : Plan :=
  let e := d.sdrEnt (sectorOf t.line)
  let w := t.slot
  let other := (holdersOf e.ptr).filter (fun k => some k != w)
  match e.st, t.kind with
  | .DI, _ => Plan.none
  | .DX, .rdShared | .DX, .rdFetch => ⟨other.map (fun k => (d.slotPort k, .share false)), false⟩
  | .DX, .rdOnce | .DX, .board => ⟨other.map (fun k => (d.slotPort k, .share true)), false⟩
  | .DX, .rdOwn | .DX, .upgrade => ⟨other.map (fun k => (d.slotPort k, .own)), false⟩
  | .DX, .maint op => ⟨other.map (fun k => (d.slotPort k, if op = 1 then .share true else if op = 3 then .own else .inv)), false⟩
  | .DS, .rdOwn | .DS, .upgrade => d.slotInv e w
  | .DS, .maint op => if op = 1 then Plan.none else d.slotInv e none
  | _, .wrFull | _, .wrPart | _, .apdLine => d.slotInv e w
  | _, _ => Plan.none

/-- Counts a roll call or a broadcast (Tables COH-13, HIE-8). -/
def Dev.countRoll (d : Dev) : Dev :=
  if d.gcr.role = .manager then d.bump64 R.SDR_BCAST_CNT_LO.BC_LO.ofs 1
  else (d.bump64 R.DIR_RCALL_CNT_LO.RC_LO.ofs 1).pmu1 0x01A

/-- Once a roll call or broadcast completes, OVF and every pointer are cleared (R126, R182). After a worker's write the
broadcast has left out the requester, which may hold other lines of the sector: its record stays as it was, and OVF with it,
because the entry passes to neither SI nor SX (R181, R182, Table HIE-4). -/
def Dev.endRoll (d : Dev) (t : Txn) : Dev :=
  if !t.rollCall then d
  else if d.gcr.role = .manager then
    let e := d.sdrEnt (sectorOf t.snooped)
    let mine : Bool := t.slot.isSome && (t.kind == .wrFull || t.kind == .wrPart)
    d.putSdr (if mine then { e with ptr := e.ptr.map (fun x => if x == t.slot then x else none) } else SdrEnt.none e.sector)
  else d.dirMap t.snooped DirEnt.free

/-! ## Manager snoops and DepBoard at a worker (R192 to R194, R217, R248, R249) -/

/-- A worker's standing for a sector (Table HIE-1). -/
inductive Standing where
  | none | s | x
  deriving DecidableEq, Repr

/-- The header of a line's set, where the device can use it. -/
def Dev.usable (d : Dev) (line : Nat) : Option Header :=
  match d.view (d.setOf line) with
  | .ok h => some h
  | _ => Option.none

/-- The standing a manager snoop is judged by: the set header and the entries of all 8 lines (R174). -/
def Dev.standing (d : Dev) (line : Nat) : Standing :=
  let es := (List.range 8).filterMap (fun n => d.dirEnt (line / 8 * 8 + n))
  let w := (d.usable line).bind (fun h => (h.find (d.tagOf line)).map h.way)
  if es.any (fun e => e.st == DirSt.DX) || (w.map (·.exc)).getD false then .x
  else if !es.isEmpty || w.isSome then .s
  else .none

/-- The way of a sector. -/
def Dev.sectorWay (d : Dev) (line : Nat) : Option (Nat × Header × Nat) :=
  (d.usable line).bind (fun h => (h.find (d.tagOf line)).map (fun w => (d.setOf line, h, w)))

/-- A sector's way loses its lines; a way being given to the sector keeps its tag. -/
def Dev.emptySector (d : Dev) (line : Nat) : Dev :=
  match d.sectorWay line with
  | some (set, h, w) =>
    d.putHeader set (if d.allocating set w then h.setWay w { Way.empty with tag := (h.way w).tag } else h.clearWay w)
  | none => d

/-- A worker no longer holds the sector exclusive. -/
def Dev.clearExc (d : Dev) (line : Nat) : Dev :=
  match d.sectorWay line with
  | some (set, h, w) => d.putHeader set (h.setWay w { h.way w with exc := false })
  | none => d

/-- Write-backs of the sector that the manager has not acknowledged (R193). -/
def Dev.owesWrBack (d : Dev) (line : Nat) : Bool :=
  d.wbf.ents.any (fun e => sectorOf e.line == sectorOf line && e.bound && (match wbUpKind e with | .wrBack => true | _ => false))

/-- The snoops of one line under a manager snoop (Table HIE-5). -/
def Dev.mgrPlan (d : Dev) (t : Txn) (s : Snoop) (line : Nat) : Plan :=
  match d.dirEnt line with
  | none => Plan.none
  | some e =>
    match s with
    | .share _ =>
      if e.st = .DX ∧ d.standing t.line = .x then ⟨(holdersOf e.ptr).map (fun p => (p, .share true)), false⟩ else Plan.none
    | _ => d.invPlan e none none

/-- The newest dirty value of a line: its holder's, or the cache's. -/
def Dev.dirtyValue (d : Dev) (t : Txn) (line : Nat) : Option Payload × Dev :=
  if t.dirty then (t.got, d)
  else match d.sectorWay line with
    | some (set, h, w) =>
      if (h.way w).v.getLsbD (line % 8) && (h.way w).dty.getLsbD (line % 8) then
        let r := d.readWay set w line
        (some r.1, r.2)
      else (none, d)
    | none => (none, d)

/-- One line under a manager snoop is answered: dirty data goes to the manager, the target's with the answer and every
other line's as a WrBack (Table HIE-5, R217); a cached copy that stays is clean. -/
def Dev.mgrLineDone (d : Dev) (t : Txn) (line : Nat) : Txn × Dev :=
  match d.dirtyValue t line with
  | (none, d) => ({ t with got := none, dirty := false }, d)
  | (some p, d) =>
    let d := match d.sectorWay line with
      | some (set, h, w) => if (h.way w).v.getLsbD (line % 8) then d.fillLine set w line p false else d
      | none => d
    let t := { t with got := none, dirty := false }
    if line = t.line ∧ !d.flag R.HIE_CFG.MGR_PAIR then
      ({ t with pay := p, mask := Mask.full }, if d.wbf.ents.any (fun e => e.line == line) then d else d.cleanMark line)
    else (t, d.wbFullWrite line p .snooped none)

/-- The answer of a manager snoop: Miss, Data for a dirty target, or Ack (Table HIE-5). -/
def Dev.mgrAnswer (d : Dev) (t : Txn) (s : Snoop) : Dev :=
  let rst : LState := match s with | .share _ => .S | _ => .I
  let m : Msg :=
    if t.ownerGone then .miss t.tag t.line false false
    else if t.mask = Mask.full then .snpData t.tag t.line true rst t.pay
    else .ackA t.tag false
  (d.tell d.uplink m).freeTxn t.id

/-- A line's index in its departure, as the worker's timetable has it. A worker that answered EMPTY has no entry, and the
manual gives no index then: the model sends the line's number within its sector (log entry 68). -/
def Dev.lineIndex (d : Dev) (idx line : Nat) : Nat :=
  match d.depC? idx with
  | some e => line - e.line
  | none => line % 8

/-- The lines of a DepBoard that the worker does not have are answered Miss; each awaits DepAck (R249). -/
def Dev.depMisses (d : Dev) (t : Txn) : Dev :=
  let d := t.missed.foldl (fun d l => d.tell d.uplink (.miss t.aux l false true)) d
  if t.missed.isEmpty then d.freeTxn t.id
  else d.putTxn { t with owed := t.missed, missed := [], phase := .waitAck, victim := none }

/-- A manager snoop answers once the manager has acknowledged the sector's write-backs (R193). -/
def Dev.mgrDrained (d : Dev) (t : Txn) : Dev :=
  if t.phase ≠ .waitAck ∨ !t.owed.isEmpty ∨ d.owesWrBack t.line then d
  else match t.kind with
    | .mgrSnoop s => d.mgrAnswer t s
    | _ => if t.missed.isEmpty then d else d.depMisses t

/-- Every manager snoop that waits for acknowledgements looks again. -/
def Dev.mgrDrainAll (d : Dev) : Dev := (d.cnf.txns.filter Txn.ofManager).foldl Dev.mgrDrained d

/-- Entries of the sector that still wait for a place in the cache go to the manager. -/
def Dev.bindSector (d : Dev) (line : Nat) : Dev :=
  (d.wbf.ents.filter (fun e => !e.bound && sectorOf e.line == sectorOf line)).foldl Dev.wbBind d

/-- Transactions of a sector that wait for the manager lose what its snoop took. -/
def Dev.loseSector (d : Dev) (line : Nat) (s : Snoop) : Dev :=
  (d.cnf.txns.filter (fun u => !u.ofManager && sectorOf u.line == sectorOf line && Txn.waitsUp u &&
    u.phase != .waitAck)).foldl (fun d u => d.putTxn (Txn.losesSector u s)) d

/-- Every line of the sector is answered: the sector's own effect, then the answer. -/
def Dev.mgrFinish (d : Dev) (t : Txn) (s : Snoop) : Dev :=
  let d := if t.ownerGone then d else d.loseSector t.line s
  let d := if t.ownerGone then d
    else match s with
      | .share _ => d.clearExc t.line
      | _ => d.emptySector t.line
  let t := { t with phase := .waitAck, victim := none, lines := [] }
  ((d.bindSector t.line).putTxn t).mgrDrained t

/-- The lines of the sector, one after another. -/
def Dev.mgrLines (s : Snoop) : List Nat → Txn → Dev → Dev
  | [], t, d => d.mgrFinish t s
  | l :: ls, t, d =>
    let plan := d.mgrPlan t s l
    let t := { t with victim := some l, lines := ls, rollCall := plan.roll, got := none, dirty := false }
    let r := ((if plan.roll then d.countRoll else d).putTxn t).snoopAll t plan.snoops
    if answered r.1 then
      let x := (r.2.endRoll r.1).mgrLineDone r.1 l
      Dev.mgrLines s ls x.1 x.2
    else r.2.putTxn r.1

/-- A line of a DepBoard goes to the manager with its status. -/
def Dev.depSend (d : Dev) (t : Txn) (line : Nat) (p : Payload) : Dev :=
  d.tell d.uplink (.depLine t.aux ⟨d.lineIndex t.aux line, boardStatus p, p⟩ line)

/-- A line of a DepBoard as the worker has it at once: a holder's, a quarantined set's, one of a lost lane, or the write
buffer's (R46, R70, R321). -/
def Dev.depAtHand (d : Dev) (t : Txn) (line : Nat) : Option Payload × Dev :=
  let set := d.setOf line
  match t.got with
  | some p => (some (if d.noWay line then { p with psn := true } else p), d)
  | none =>
    if d.noWay line then (some d.freePoison.1, d.freePoison.2)
    else match (d.usable line).bind (fun h => d.servedHit h line) with
      | some w =>
        if d.onLostLane set w line then
          let r := d.lostLine set w line
          (some r.1, r.2)
        else ((d.wbFull line).map (·.pay), d)
      | none => ((d.wbFull line).map (·.pay), d)

/-- The masked lines of a DepBoard under standing X, one after another (Table DEP-5): DepLine, or Miss. A line that is not
cached and that no agent answers with data is answered Miss, though its row of the table says DepLine: the row names no source
(log entry 103). A partial entry of the write buffer is no data of the line (log entry 104). -/
def Dev.depBoardLines : List Nat → Txn → Dev → Dev
  | [], t, d =>
    let t := { t with phase := .waitAck, victim := none, lines := [] }
    if t.missed.isEmpty then d.freeTxn t.id else (d.putTxn t).mgrDrained t
  | l :: ls, t, d =>
    let t := { t with victim := some l, lines := ls, got := none }
    let hit := (d.usable l).bind (fun h => d.servedHit h l)
    let plan := d.agentPlan { t with kind := .board, line := l } hit.isSome
    let r := (d.putTxn t).snoopAll t plan.snoops
    if !answered r.1 then r.2.putTxn r.1
    else
      match r.2.depAtHand r.1 l with
      | (some p, d) => Dev.depBoardLines ls r.1 (d.depSend r.1 l p)
      | (none, d) => match hit with
        | some w => d.readHitLine r.1 w
        | none => Dev.depBoardLines ls { r.1 with missed := r.1.missed ++ [l] } d

/-- A line of a DepBoard has its snoop answers, or has been read. -/
def Dev.depBoardOn (d : Dev) (t : Txn) : Dev :=
  let l := t.snooped
  match d.depAtHand t l with
  | (some p, d) => Dev.depBoardLines t.lines t (d.depSend t l p)
  | (none, d) => match (d.usable l).bind (fun h => d.servedHit h l) with
    | some w => d.readHitLine t w
    | none => Dev.depBoardLines t.lines { t with missed := t.missed ++ [l] } d

/-- A manager snoop or DepBoard begins: it is judged by the entries of all 8 lines of its sector (R103, R174). -/
def Dev.mgrDecide (d : Dev) (t : Txn) : Dev :=
  let base := t.line / 8 * 8
  let d := ((List.range 8).map (base + ·)).foldl Dev.dirTouch d
  let t := { t with phase := .snooping }
  let st := d.standing t.line
  match t.kind with
  | .mgrSnoop s =>
    if st = .none then d.mgrFinish { t with ownerGone := true } s
    else Dev.mgrLines s ((List.range 8).map (fun n => base + n)) t d
  | _ =>
    if st = .x then Dev.depBoardLines t.lines t d
    else
      let t := { t with missed := t.lines, lines := [], phase := .waitAck }
      ((d.bindSector t.line).putTxn t).mgrDrained t

/-- The answers for one line of a manager snoop are in. -/
def Dev.mgrOn (d : Dev) (t : Txn) : Dev :=
  match t.kind with
  | .mgrSnoop s =>
    let x := (d.endRoll t).mgrLineDone t t.snooped
    Dev.mgrLines s t.lines x.1 x.2
  | _ => d.depBoardOn t

/-- Active work on the sector that a manager snoop waits for: any that does not itself wait for the manager (R194). -/
def Dev.mgrBlocked (d : Dev) (t : Txn) : Bool :=
  d.cnf.txns.any (fun u => u.id != t.id && u.phase.active && !Txn.waitsUp u &&
    (sectorOf u.line == sectorOf t.line || u.victim.map sectorOf == some (sectorOf t.line))) ||
  d.scb.flight.any (fun f => sectorOf f.2 == sectorOf t.line)

/-! ## Activation (R103, R127, R136) -/

/-- The transaction sends its snoops, or goes on at once when it has none. -/
def Dev.decide (d : Dev) (t : Txn) : Dev :=
  if t.ofManager then d.mgrDecide t
  else
  let cached := match d.view (d.setOf t.line) with
    | .ok h => (d.servedHit h t.line).isSome
    | _ => false
  let mgr : Bool := d.gcr.role == .manager
  let asOwn : Bool := t.kind == .upgrade && (t.asOwn ||
    (if mgr then !(match t.slot with | some k => (d.sdrEnt (sectorOf t.line)).records k | none => false)
     else !(match d.dirEnt t.line, t.reader with | some e, some r => e.st == .DS && e.records r | _, _ => false)))
  let shared : Bool := match d.dirEnt t.line with | some e => e.st == .DS | none => false
  let t := { t with asOwn := asOwn, wasShared := shared, hadX := d.gcr.role == Role.worker && d.hasX t.line }
  let d := match t.reader, t.kind with
    | some r, .rdShared | some r, .rdFetch | some r, .rdOnce => d.dirMap t.line (fun e => withoutReader e r)
    | some r, .wrFull | some r, .wrPart => d.dirMap t.line (fun e => e.drop r)
    | _, _ => d.dirTouch t.line
  let plan := if mgr then d.workerPlan t else d.agentPlan t cached
  let gone : Bool := mgr && (t.kind == .rdShared || t.kind == .rdFetch) && !plan.snoops.isEmpty
  let t := { t with phase := .snooping, rollCall := plan.roll, ownerGone := gone, victim := none }
  let d := (if plan.roll then d.countRoll else d).putTxn t
  let r := d.snoopAll t plan.snoops
  let d := r.2.putTxn r.1
  if answered r.1 then (d.endRoll r.1).gather r.1 else d

/-- The header is looked up; a miss fetches it, or waits for an unpinned HDC entry (R49, R50). -/
def Dev.headerStep (d : Dev) (t : Txn) : Dev :=
  let set := d.setOf t.line
  if d.gcr.mode = .train || (d.hdrBlocked set).isSome then d.decide t
  else match d.header? set with
    | some _ => ((d.pmu1 0x008).useHeader set).decide t
    | none =>
      let fetched := d.hdc.fetch.contains set || (d.makeRoom set false).isSome
      let e := d.putTxn { t with phase := if fetched then .waitHeader else .waitUnpin }
      if t.phase = .waitUnpin then e.startFetch set false else e.missHeader set

/-- Every way of the line's DIR set is pinned when a queued transaction becomes active: it receives a ticket and BI_PINNED
is raised. An admitted retry waits in its entry (R127, R145); so does a request that finds every reservation taken, since it
has left its receive buffer (log entry 69). -/
def Dev.dirPinned (d : Dev) (t : Txn) : Dev :=
  let d := d.raise R.DIR_EVT.BI_PINNED
  if t.ticket.isSome || Nat.ble 512 d.rsvUsed then d.putTxn { t with phase := .waitDir }
  else ((d.freeTxn t.id).fillPlace (d.key t.line)).ticketFor t.org t.port t.tag t.line false

/-- The way of a back-invalidated line is given to the requesting line (R127). -/
def Dev.endBackInv (d : Dev) (t : Txn) : Dev :=
  match t.victim with
  | some v =>
    let w := match d.dirFind v with | some e => e.way | none => 0
    let d := (d.endRoll t).dirAssign t.line w
    d.headerStep { t with victim := none, rollCall := false, wbFrom := [], got := none }
  | none => d.headerStep t

/-- Evicts an entry for a transaction: SnpInv to every holder, or a roll call that excludes no requester (R127). -/
def Dev.backInvalidate (d : Dev) (t : Txn) (e : DirEnt) : Dev :=
  let plan := d.invPlan e none none
  let t := { t with phase := .backInv, victim := some e.line, rollCall := plan.roll }
  let d := (d.bump64 R.DIR_BI_CNT_LO.BI_LO.ofs 1).pmu1 0x01B
  let d := if plan.roll then d.countRoll else d
  let r := (d.putTxn t).snoopAll t plan.snoops
  let d := r.2.putTxn r.1
  if answered r.1 then d.endBackInv r.1 else d

/-- A kind that records a holder (R103). -/
def recordsHolder : Kind → Bool
  | .rdShared | .rdFetch | .rdOwn | .upgrade => true
  | _ => false

/-- Every way of a line's DIR set is pinned: none is unused, and none can be evicted (R127). -/
def Dev.dirFull (d : Dev) (line : Nat) : Bool :=
  (d.dirFind line).isNone && (d.freeDirWay line).isNone && (d.dirVictim line).isNone

/-- A transaction whose grant will record a holder takes its DIR entry first (R103). -/
def Dev.dirStep (d : Dev) (t : Txn) : Dev :=
  match d.dirFind t.line with
  | some e => (d.putDir e).headerStep t
  | none => match d.freeDirWay t.line with
    | some w => (d.dirAssign t.line w).headerStep t
    | none => match d.dirVictim t.line with
      | some e => d.backInvalidate t e
      | none => d.dirPinned t

/-- The broadcast for an unknown entry is answered: the sector is SI, its line is written back with the entries that are
known, and the transaction goes on (R185). -/
def Dev.sdrKnown (d : Dev) (t : Txn) : Dev :=
  let k := sdrLine (sectorOf t.line)
  let d := (d.putSdr (SdrEnt.none (sectorOf t.line))).sdrWrite k
  let d := { d with sdr := { d.sdr with changed := d.sdr.changed.filter (· != k) } }
  d.headerStep { t with rollCall := false }

/-- SDR line k is looked up: in the SDR cache, in the region still to be cleared, which holds zeros, or in memory, whose
answer comes later (R183, R184). -/
def Dev.sdrFetch (d : Dev) (k : Nat) : Bool × Dev :=
  if d.sdrCached k then (true, d.sdrUse k)
  else
    let d := d.bump64 R.SDR_MISS_CNT_LO.MISS_LO.ofs 1
    if (d.sdr.clearing && d.sdr.prog ≤ k) || (d.wbFull (d.sdrMem k)).isSome then (true, d.sdrInstall k) else (false, d.memRead (d.sdrMem k))

/-- The sector's entry is needed: from the SDR cache, from the region still to be cleared, or from memory; an unknown entry
is resolved by a broadcast (R183 to R185). -/
def Dev.sdrStep (d : Dev) (t : Txn) : Dev :=
  let s := sectorOf t.line
  let k := sdrLine s
  match d.sdrFetch k with
  | (false, d) => d.putTxn { t with phase := .waitSdr, aux := if t.kind = .board then t.aux else k }
  | (true, d) =>
    if d.sdr.unknown.contains s then
      let t := { t with phase := .waitSdr, rollCall := true }
      let r := ((d.countRoll).putTxn t).snoopAll t ((d.broadcastSlots t.slot).map (fun k => (d.slotPort k, .inv)))
      let d := r.2.putTxn r.1
      if answered r.1 then d.sdrKnown r.1 else d
    else d.headerStep t

/-- A transaction becomes active (R136). -/
def Dev.activate (d : Dev) (t : Txn) : Dev :=
  if d.gcr.role = .manager then d.sdrStep t
  else if recordsHolder t.kind then d.dirStep t
  else d.headerStep t

/-- A transaction that may not become active yet: a request that a takeover found open and its requester has not sent again
(R224, R225). -/
def Dev.mustWait (d : Dev) (t : Txn) : Bool := d.twn.unsent.contains t.id

/-- A maintenance line under a berth hold waits until the hold ends (R81). -/
def Dev.heldBack (d : Dev) (t : Txn) : Bool := (match t.kind with | .maint _ => true | _ => false) && d.keyHeld (d.key t.line)

/-- A queued transaction becomes active if its key is free and it is the first in line; its place goes on (R136, R146). -/
def Dev.promote (d : Dev) (id : Nat) : Dev :=
  match d.txn? id with
  | none => d
  | some t =>
    let k := d.key t.line
    if t.phase = .waitDir then d.dirStep t
    else if t.ofManager then
      if t.phase = .queued && !d.mgrBlocked t then d.headerStep { t with phase := .snooping } else d
    else if t.phase = .queued && ((d.queueOf k).head?.map (·.id)) == some id && !d.keyActive k t.line && !d.mustWait t &&
        !d.heldBack t then
      let t := { t with phase := .snooping }
      ((d.putTxn t).activate t).fillPlace k
    else d

/-- All answers of a transaction are in: it goes on (R110, R127, R185). -/
def Dev.proceed (d : Dev) (t : Txn) : Dev :=
  if !answered t || d.twn.unsent.contains t.id then d
  else if t.phase = .backInv then d.endBackInv t
  else if t.phase = .waitSdr then d.sdrKnown t
  else if t.phase = .snooping then (if t.ofManager then d.mgrOn t else (d.endRoll t).gather t)
  else d

/-- An answer of a port to a transaction's snoop. -/
def Dev.answer (d : Dev) (t : Txn) (port : Nat) (a : SnpAns) : Dev :=
  match t.await.find? (fun e => e.1 == port) with
  | none => d
  | some e =>
    let t := { t with await := dropFirst (fun x => x.1 == port) t.await }
    let r := d.takeAnswer t port e.2 a
    (r.2.putTxn r.1).proceed r.1

/-- The next engine issue goes if it can, and starts if its key is free. -/
def Dev.issueNext (d : Dev) : Dev :=
  let r := d.refill
  match r.cnf.txns.getLast? with
  | some u => if d.cnf.ord < r.cnf.ord && u.ord + 1 = r.cnf.ord then r.promote u.id else r
  | none => r

/-- An engine issues work: at once, or once an entry and a lookup slot are free (R135, R254). -/
def Dev.issue (d : Dev) (t : Txn) : Dev := ({ d with cnf := { d.cnf with pool := d.cnf.pool ++ [t] } }).issueNext

end Sys2Proof.Machine
end

