-- ==== Sys2Proof/Machine/Departures.lean ====
section
/-! DEFINITION. The departure engine's commands: admission, announcements, boarding across the hierarchy, release, cancel
and disable (R232 to R273). -/

namespace Sys2Proof.Machine

/-! ## Requesters -/

/-- The requester of a head: the agent of its port, or a worker's agent behind a downlink (R27). -/
def Dev.orgOf (d : Dev) (h : Head) : Origin := if d.gcr.role = .manager then .worker h.widx h.oport else .agent h.port

/-- The worker index fits the downlink, and the slot is enabled (R171). -/
def Dev.indexOk (d : Dev) (h : Head) : Bool :=
  d.gcr.role != .manager || (h.widx == h.port && (d.get R.HIE_SLOTS.SLOT_EN).testBit (h.port / 2))

/-- The origin address R25 gives for the device's agents: a strap-B device uses its partner's (R260). -/
def Dev.originAddr (d : Dev) : Nat := if d.twinOn && d.gcr.side then d.twn.peer else d.chn.addr

/-! ## Manifests and reservations -/

/-- The usable bits of the device's copy of a manifest (Table DEP-2). -/
def Dev.manifest (d : Dev) (m : Nat) : List Nat :=
  let n := match d.gcr.role with | .worker => 30 | .manager => 16 | _ => 32
  (List.range n).filter (fun j => (d.get (R.DEP_MANm.PORTS m)).testBit j)

/-- Lines reserved in a port's departure buffer (R238). A manager keeps its reservation on the downlink of a slot that has
acknowledged every line until its own record is written (log entry 106). -/
def Dev.depRsv (d : Dev) (n : Nat) : Nat :=
  d.dep.table.foldl (fun a e =>
    let here : Bool := if d.gcr.role = .manager then
        d.slotPort (n / 2) == n && (e.toAnswer.contains (n / 2) || e.accepted.contains (n / 2))
      else e.ports.contains n && !e.overOn n
    if here then a + e.count else a) 0

/-- The ports of the device that a list of manifest bits names (R238). -/
def Dev.listedPorts (d : Dev) (l : List Nat) : List Nat := if d.gcr.role = .manager then l.map d.slotPort else l

/-- COUNT lines are free in the buffer of every listed port (check 7). -/
def Dev.depRoom (d : Dev) (l : List Nat) (count : Nat) : Bool :=
  (d.listedPorts l).all (fun n => d.depRsv n + count ≤ 2048)

/-- The lowest free timetable index (R242). -/
def Dev.depIndex (d : Dev) : Option Nat := freeFrom (d.dep.table.map (·.idx)) 1024 0

/-! ## Admission (R237, Table DEP-3) -/

/-- Check 1. -/
def Dev.depReady (d : Dev) : Bool :=
  d.flag depEN && d.gcr.mode.service58 && d.domOn 4 && d.bel.locked && d.bel.aligned

/-- Check 2 at a coordinator. -/
def Dev.depLines (d : Dev) (line count : Nat) : Bool :=
  1 ≤ count && count ≤ 64 && line + count ≤ 2 ^ 41 && (line + count) * 128 ≤ d.sdrBase

/-- Checks 1 to 7 of a Depart that arrived at a bell time (R567): none refuses; else whether the departure is immediate. -/
def Dev.depCheck (d : Dev) (e : Dep) (came : BitVec 64) : Option Bool :=
  let lead := (e.t - came).toInt
  let imm : Bool := lead < Int.ofNat (d.get R.DEP_LEAD_MIN.LEAD)
  if !d.depReady || !d.depLines e.line e.count || e.ports.isEmpty then none
  else if Int.ofNat (max 1 (d.get R.DEP_CFG.HORIZON) * 1000000) < lead then none
  else if imm && d.flag R.DEP_LATE_POLICY.POL then none
  else if 1024 ≤ d.dep.table.length || !d.depRoom e.ports e.count then none
  else some imm

/-- A departure is refused (R237). -/
def Dev.refuseDep (d : Dev) (e : Dep) : Dev :=
  ((d.raise R.DEP_EVT.REFUSED).bumpSat R.DEP_REFUSE_CNT.REF 1).sendErr e.org e.tag 2

/-- An entry enters the timetable; TIMETABLE_FULL latches on the crossing. -/
def Dev.enterDep (d : Dev) (e : Dep) : Dev :=
  let d := (d.setDeps (d.dep.table ++ [e])).mirror (.dep e)
  d.raiseIf (d.dep.table.length == 1024) R.DEP_EVT.TIMETABLE_FULL

/-- An admitted or accepted departure is counted; an immediate one is a late arrival (Table DEP-6). -/
def Dev.countDep (d : Dev) (e : Dep) : Dev :=
  let d := (d.bump64 R.DEP_ADMIT_CNT_LO.ADM_LO.ofs 1).pmu1 0x020
  if e.imm then (d.raise R.DEP_EVT.LATE_ARRIVAL).bumpSat R.DEP_LATE_CNT.LATE 1 else d

/-- The lines of a departure, by boarding read: one line each, or one sector each at a manager (R243, R245). -/
def Dev.boardReads (d : Dev) (e : Dep) : List (List Nat) :=
  let l := (List.range e.count).map (fun n => e.line + n)
  if d.gcr.role = .manager then
    (List.range (sectorOf (e.line + e.count - 1) + 1 - sectorOf e.line)).map (fun k =>
      l.filter (fun x => sectorOf x == sectorOf e.line + k))
  else l.map (fun x => [x])

/-- One boarding read is issued (R135). -/
def Dev.boardRead (e : Dep) (d : Dev) (l : List Nat) : Dev :=
  match l with
  | [] => d
  | x :: xs =>
    d.issue { id := 0, kind := .board, org := .board e.idx, line := x, phase := .queued, aux := e.idx,
              lines := xs, ch := x - e.line }

/-- Boarding starts: the reads are issued in ascending line order (R243). -/
def Dev.startBoarding (d : Dev) (e : Dep) : Dev :=
  let e := { e with phase := .boarding }
  (d.boardReads e).foldl (Dev.boardRead e) (d.saveDep e)

/-- Boarding is due: at once for an immediate departure or BOARD_AHEAD 0, else at T - BOARD_AHEAD µs (R243). -/
def Dev.boardDue (d : Dev) (e : Dep) : Bool :=
  let n := d.get R.DEP_CFG.BOARD_AHEAD
  e.imm || n == 0 || d.bellPast (e.t - BitVec.ofNat 64 (n * 1000))

/-- A departure is admitted: counted, acknowledged, boarded when due (R234, R243). -/
def Dev.admitDep (d : Dev) (e : Dep) : Dev :=
  let d := (d.countDep e).respond e.org (fun q => .ack q e.tag .I 0 none)
  if d.boardDue e then d.startBoarding e else d

/-- The entry a request asks for. -/
def Dev.depAsked (d : Dev) (x : Depart) : Dep :=
  let h := x.head
  let mgr : Bool := d.gcr.role == .manager
  { idx := 0, cidx := 0, org := d.orgOf h, tag := h.tag, tph := h.tph, line := lineOf h.addr, count := x.count, t := x.t,
    man := x.man, dtag := x.dtag, odev := if mgr then x.odev else d.originAddr, oport := if mgr then h.oport else h.port,
    ports := d.manifest x.man, imm := false, phase := .waiting, boarded := [], started := [], droppedPorts := [],
    ended := [], accepted := [], toAnswer := [], acks := [], out := .onTime, late := false, quiet := [], qat := 0,
    conflict := false, waits := [] }

/-- Two Departs are one, sent again: the requester, on either side of its pair, the tag and TPH match (R270). -/
def sameDepart (o p : Origin) (tag tag' : Nat) (tph tph' : Bool) : Bool := sameRequester o p && tag == tag' && tph == tph'

/-- A Depart sent again in the window after a takeover: the entry it asks for stands, and its answer goes to where it came
from; or it is done, and is answered at once (R227, R270). None: the departure is new. -/
def Dev.depKnown (d : Dev) (e : Dep) : Option Dev :=
  if !d.inWindow e.org then none
  else match d.dep.table.find? (fun x => sameDepart x.org e.org x.tag e.tag x.tph e.tph) with
    | some x =>
      let d := d.saveDep { x with org := e.org }
      some (if x.phase = .announcing then d else d.respond e.org (fun q => .ack q e.tag .I 0 none))
    | none =>
      if d.dep.done.any (fun k => sameDepart k.org e.org k.tag e.tag k.tph e.tph) then
        some (d.respond e.org (fun q => .ack q e.tag .I 0 none))
      else none

/-- A slot is told of a departure, unless an earlier announcement of its index is still unanswered there: then once that one
is. -/
def Dev.announceTo (e : Dep) (d : Dev) (k : Nat) : Dev :=
  if d.staleAt e.idx k then d else d.tell (d.slotPort k) (.depAnnounce e)

/-- A manager announces a departure that passed checks 1 to 7; a downlink that is disabled accepts nothing (R239, R240). -/
def Dev.announceDep (d : Dev) (e : Dep) : Dev :=
  if e.ports.any (fun k => d.portDead (d.slotPort k)) then d.refuseDep e
  else
    let e := { e with phase := .announcing, toAnswer := e.ports }
    e.ports.foldl (Dev.announceTo e) (d.enterDep e)

/-- The bell time of a departure whose admission completes now has passed: it is treated as immediate (R241). -/
def Dev.admittedLate (d : Dev) (e : Dep) : Bool := !e.imm && d.bellPast e.t && e.t != d.bel.now

/-- A departure whose admission completes: whether it is immediate, and its OUT (R241, Table DEP-6). -/
def Dev.dated (d : Dev) (e : Dep) : Dep :=
  let imm := e.imm || d.admittedLate e
  { e with imm := imm, out := if imm then .lateArrival else .onTime }

/-- A Depart at its coordinator (R237). -/
def Dev.coordinate (d : Dev) (e : Dep) (came : BitVec 64) : Dev :=
  match d.depKnown e with
  | some d => d
  | none => match d.depCheck e came, d.depIndex with
    | some imm, some k =>
      let e := { e with idx := k, cidx := k, imm := imm, out := if imm then .lateArrival else .onTime }
      if d.gcr.role = .manager then d.announceDep e else (d.enterDep (d.dated e)).admitDep (d.dated e)
    | _, _ => d.refuseDep e

/-- A worker forwards a Depart; one that its own engine, disabled or draining the device, takes no more of is refused there
(R161, R233, R273, Table MOD-1). Its REQ credit goes back once the uplink takes it (Table LNK-4). -/
def Dev.forwardDep (d : Dev) (x : Depart) (e : Dep) : Dev :=
  let h := x.head
  if !d.flag depEN || d.gcr.mode == .drain then (d.returnReq h.port).refuseDep e
  else
    let r := d.uplinkPhase h.port h.tag h.tph (d.inWindow e.org)
    let m : Msg := .upDepart r.2.widx h.port h.tag r.1 e.line x.count x.t x.man x.dtag e.odev
    let d := r.2
    let d := { d with hie := { d.hie with fwd := d.hie.fwd ++ [(h.port, h.tag, m)],
                                          depCredits := d.hie.depCredits ++ [(h.port, h.tag)] } }
    (d.pmu1 0x024).tell d.uplink m

/-- The departure engine takes a Depart from a receive buffer, or a worker forwards it (R233, R260). -/
def Dev.takeDepart (d : Dev) (x : Depart) : Dev :=
  let h := x.head
  let e := d.depAsked x
  if !d.portServes h.port then (d.returnReq h.port).sendErr (d.senderOf h) h.tag 2
  else if !d.indexOk h then ((d.returnReq h.port).raise R.HIE_EVT.IDX_MISMATCH).sendErr (d.senderOf h) h.tag 2
  else if d.gcr.role = .worker then d.forwardDep x e
  else if 2 ^ 48 ≤ h.addr then (d.returnReq h.port).refuseDep e
  else (d.returnReq h.port).coordinate e x.at_

/-- A Depart arrives on a port; while requests are stopped for Doze it stays in its receive buffer (R444). -/
def depart (h : Head) (count : Nat) (t : BitVec 64) (man dtag odev : Nat) (d : Dev) : Dev :=
  let x : Depart := ⟨h, count, t, man, dtag, odev, d.bel.now⟩
  if d.twn.mirror then d
  else if d.pip.stopped then { d with dep := { d.dep with held := d.dep.held ++ [x] } }
  else d.takeDepart x

/-- DEPART. -/
def execDepart (h : Head) (count : Nat) (t : BitVec 64) (man dtag odev : Nat) (s : State) :
    Host.Outcome State Fault Refusal := onCore s (depart h count t man dtag odev)

/-- Departs that a stop held are taken, in their order of arrival (R445). -/
def Dev.takeDeparts (d : Dev) : Dev :=
  let l := d.dep.held
  l.foldl Dev.takeDepart { d with dep := { d.dep with held := [] } }

/-! ## Announcements (R239 to R241, R268, R271) -/

/-- An announcement repeats an entry the worker holds (R268). -/
def depRepeats (e a : Dep) : Bool :=
  e.line == a.line && e.count == a.count && e.t == a.t && e.man == a.man && e.dtag == a.dtag

/-- The worker's own entry for an announcement. -/
def acceptDep (a : Dep) (k : Nat) (ports : List Nat) : Dep :=
  { a with idx := k, cidx := a.idx, ports := ports, phase := .boarding, boarded := [], started := [], droppedPorts := [],
           ended := [], accepted := [], toAnswer := [], acks := [], out := if a.imm then .lateArrival else .onTime,
           late := false, quiet := [], qat := 0, conflict := false, waits := [] }

/-- A repeated announcement: one that asks for an immediate departure makes the part immediate unless it is already
releasing, with its event and count (R241, R268, Table DEP-6). -/
def Dev.repeatDep (d : Dev) (e a : Dep) : Dev :=
  if a.imm && !e.imm && e.phase != .releasing then
    ((d.saveDep { e with imm := true, out := .lateArrival, late := false, quiet := [] }).raise
      R.DEP_EVT.LATE_ARRIVAL).bumpSat R.DEP_LATE_CNT.LATE 1
  else d

/-- DepAnnounce at a worker. One that answers DepRefuse raises and counts nothing of its own: R237 speaks of the coordinator
(log entry 27). -/
def depAnnounce (uplink : Nat) (a : Dep) (d : Dev) : Dev :=
  if d.gcr.role ≠ .worker ∨ uplink ≠ d.hie.upl ∨ d.twn.mirror then d
  else match (d.depC? a.idx).filter (fun e => depRepeats e a) with
    | some e => (d.repeatDep e a).tell d.uplink (.depAccept a.idx false)
    | none =>
      let ports := d.manifest a.man
      if ports.isEmpty then (d.raise R.DEP_EVT.MAN_EMPTY).tell d.uplink (.depAccept a.idx true)
      else match d.depIndex with
        | some k =>
          if d.depReady && d.dep.table.length < 1024 && d.depRoom ports a.count then
            let e := acceptDep a k ports
            ((d.enterDep e).countDep e).tell d.uplink (.depAccept a.idx false)
          else d.tell d.uplink (.depRefuse a.idx)
        | none => d.tell d.uplink (.depRefuse a.idx)

/-- DEPANNOUNCE. -/
def execDepAnnounce (uplink : Nat) (d : Dep) (s : State) : Host.Outcome State Fault Refusal :=
  onCore s (depAnnounce uplink d)

/-- An answer to an announcement whose departure was refused or cancelled meanwhile: a worker that accepted it is told, and
hears then of the departure that has the index now (R240, R272). -/
def Dev.takeStale (d : Dev) (port idx : Nat) (accepted : Bool) : Dev :=
  let k := port / 2
  let mine : Nat × Nat × Bool → Bool := fun x => x.1 == idx && x.2.1 == k
  match d.dep.stale.find? mine with
  | none => d
  | some x =>
    let d := d.setStale (dropFirst mine d.dep.stale)
    let d := if accepted then d.tell port (.depCancel idx x.2.2) else d
    match (d.dep? idx).filter (fun e => e.phase == .announcing && e.toAnswer.contains k) with
    | some e => Dev.announceTo e d k
    | none => d

/-- Every announced worker has accepted: the departure is admitted, late if its bell time has passed (R240, R241, R266). -/
def Dev.allAccepted (d : Dev) (e : Dep) : Dev :=
  let lately := d.admittedLate e
  let e := { d.dated e with phase := .waiting }
  let d := d.saveDep e
  if e.accepted.isEmpty then
    let d := (d.countDep e).respond e.org (fun q => .ack q e.tag .I 0 none)
    d.recordDep e .dropped
  else
    let d := if lately then e.accepted.foldl (fun d k => d.tell (d.slotPort k) (.depAnnounce e)) d else d
    d.admitDep e

/-- DepAccept at a manager. -/
def depAccept (port idx : Nat) (empty : Bool) (d : Dev) : Dev :=
  let k := port / 2
  if d.gcr.role ≠ .manager ∨ d.twn.mirror then d
  else if d.staleAt idx k then d.takeStale port idx (!empty)
  else match d.dep? idx with
    | some e =>
      if e.phase = .announcing ∧ e.toAnswer.contains k then
        let e := { e with toAnswer := e.toAnswer.filter (· != k), accepted := if empty then e.accepted else e.accepted ++ [k] }
        if e.toAnswer.isEmpty then d.allAccepted e else d.saveDep e
      else d
    | none => d

/-- DEPACCEPT. -/
def execDepAccept (port idx : Nat) (empty : Bool) (s : State) : Host.Outcome State Fault Refusal :=
  onCore s (depAccept port idx empty)

/-- An announced departure is refused: the workers that accepted are cancelled with ADM = 0 (R240). -/
def Dev.refuseAnnounced (d : Dev) (e : Dep) (k : Nat) : Dev :=
  let e := { e with toAnswer := e.toAnswer.filter (· != k) }
  let d := d.unannounce e false
  ((d.dropDep e).mirror (.depGone e.idx none)).refuseDep e

/-- DepRefuse at a manager. -/
def depRefuse (port idx : Nat) (d : Dev) : Dev :=
  let k := port / 2
  if d.gcr.role ≠ .manager ∨ d.twn.mirror then d
  else if d.staleAt idx k then d.takeStale port idx false
  else match d.dep? idx with
    | some e => if e.phase = .announcing ∧ e.toAnswer.contains k then d.refuseAnnounced e k else d
    | none => d

/-- DEPREFUSE. -/
def execDepRefuse (port idx : Nat) (s : State) : Host.Outcome State Fault Refusal := onCore s (depRefuse port idx)

/-- A worker heeds its manager's departure messages on its active uplink alone; what the other one brings is discarded
(R168, R222). -/
def Dev.heeds (d : Dev) (uplink : Nat) : Bool := d.gcr.role == .worker && !d.twn.mirror && uplink == d.hie.upl

/-- A worker part that has started completes although the departure is cancelled: of each line that has not come, it can
deliver only the failure (R251, R272, log entry 105). -/
def Dev.completeAlone (d : Dev) (e : Dep) : Dev :=
  ((List.range e.count).filter (fun k => !e.has k)).foldl (fun d k =>
    match d.dep? e.idx with
    | some x => let p := d.freePoison; p.2.stageLine x ⟨k, .fail, p.1⟩
    | none => d) d

/-- DepCancel at a worker: ADM = 0 frees everything without a record; ADM = 1 cancels its part unless a first flit has
started (R240, R272). -/
def depCancelMsg (uplink idx : Nat) (adm : Bool) (d : Dev) : Dev :=
  if !d.heeds uplink then d
  else match d.depC? idx with
    | some e =>
      if !adm then (d.dropDep e).mirror (.depGone e.idx none)
      else if e.cancellable then (d.cancelDep e).startNexts e
      else d.completeAlone e
    | none => d

/-- DEPCANCEL. -/
def execDepCancelMsg (uplink idx : Nat) (adm : Bool) (s : State) : Host.Outcome State Fault Refusal :=
  onCore s (depCancelMsg uplink idx adm)

/-! ## Boarding (R243 to R257) -/

/-- T - BOARD_AHEAD is reached (R243). -/
def boardingStart (idx : Nat) (d : Dev) : Dev :=
  match d.dep? idx with
  | some e => if e.phase == .waiting && d.boardDue e && !d.twn.mirror then d.startBoarding e else d
  | none => d

/-- BOARDING_START. -/
def execBoardingStart (idx : Nat) (s : State) : Host.Outcome State Fault Refusal := onCore s (boardingStart idx)

/-- The boarding read that waits for a downlink's answer about a line. -/
def Dev.boardTxn (d : Dev) (port idx line : Nat) : Option Txn :=
  d.cnf.txns.find? (fun t => t.kind == .board && t.depIdx == idx && t.tag == port + 1 && t.owed.contains line)

/-- An answer about one line: the read ends when no line is owed and none is being read. -/
def boardAnswered (t : Txn) (line : Nat) : Txn :=
  let t := { t with owed := t.owed.filter (· != line) }
  if t.owed.isEmpty && t.victim.isNone && t.lines.isEmpty then { t with phase := .done, await := [] } else t

/-- A worker answers Miss for a line of DepBoard: the manager reads it itself (R249). -/
def depBoardMiss (port idx line : Nat) (d : Dev) : Dev :=
  match d.boardTxn port idx line with
  | some t =>
    let t := { t with owed := t.owed.filter (· != line) }
    if t.victim.isSome then d.putTxn { t with lines := t.lines ++ [line] }
    else Dev.boardLines [line] t d
  | none => d

/-- DEPBOARD_MISS. -/
def execDepBoardMiss (port idx line : Nat) (s : State) : Host.Outcome State Fault Refusal :=
  onCore s (depBoardMiss port idx line)

/-- A worker answers DepLine for a line of DepBoard: the manager stages its data and changes nothing else (R250). -/
def depLineFromWorker (port idx : Nat) (b : Boarded) (d : Dev) : Dev :=
  match d.cnf.txns.find? (fun t => t.kind == .board && t.depIdx == idx && t.tag == port + 1 &&
      t.owed.contains (t.line - t.ch + b.idx)) with
  | some t =>
    let line := t.line - t.ch + b.idx
    (d.putTxn (boardAnswered t line)).boardLine t.aux line b.st b.pay
  | none => d

/-- DEPLINE_FROM_WORKER. -/
def execDepLineFromWorker (port idx : Nat) (b : Boarded) (s : State) : Host.Outcome State Fault Refusal :=
  onCore s (depLineFromWorker port idx b)

/-- DepLine at a worker: staged on its listed ports and acknowledged; a line that is already staged, or whose part is
over, is acknowledged again (R256). -/
def depLineToWorker (uplink idx : Nat) (b : Boarded) (d : Dev) : Dev :=
  if !d.heeds uplink then d
  else
    let d := match d.depC? idx with
      | some e => if e.has b.idx || e.count ≤ b.idx then d else d.stageLine e b
      | none => d
    d.tell d.uplink (.depAck idx b.idx)

/-- DEPLINE_TO_WORKER. -/
def execDepLineToWorker (uplink idx : Nat) (b : Boarded) (s : State) : Host.Outcome State Fault Refusal :=
  onCore s (depLineToWorker uplink idx b)

/-- Every listed worker that takes part has acknowledged every line: the manager's record (R266). -/
def Dev.managerDone (d : Dev) (e : Dep) : Dev :=
  if e.boarded.length ≠ e.count ∨ !e.acks.isEmpty then d
  else if e.imm then d.recordDep e .lateArrival
  else if d.bellPast e.t then
    ((d.raise R.DEP_EVT.LATE_STAGED).bumpSat R.DEP_LATE_CNT.LATE 1).recordDep e .lateStaged
  else d.recordDep e .onTime

/-- DepAck from a worker (R256). -/
def depAckAtManager (port idx lidx : Nat) (d : Dev) : Dev :=
  if d.gcr.role ≠ .manager ∨ d.twn.mirror then d
  else match d.dep? idx with
    | some e =>
      if e.acks.contains (port / 2, lidx) then
        let e := { e with acks := e.acks.filter (· != (port / 2, lidx)) }
        (d.saveDep e).managerDone e
      else d
    | none => d

/-- DEPACK_AT_MANAGER. -/
def execDepAckAtManager (port idx lidx : Nat) (s : State) : Host.Outcome State Fault Refusal :=
  onCore s (depAckAtManager port idx lidx)

/-! ## Release (R258 to R266) -/

/-- The listed ports whose T - W is reached (R258). -/
def Dev.quietDue (d : Dev) (e : Dep) : List Nat :=
  e.ports.filter (fun n => d.bellPast (e.t - BitVec.ofNat 64 (d.quietTicks n)))

/-- T - W is reached on some listed ports: each starts no new flit (R258). -/
def quietWindow (idx : Nat) (d : Dev) : Dev :=
  match d.dep? idx with
  | some e =>
    if d.gcr.role != .manager && !d.twn.mirror && !e.imm && !e.late && e.started.isEmpty then
      d.putDep { e with quiet := e.quiet ++ (d.quietDue e).filter (fun n => !e.quiet.contains n) }
    else d
  | none => d

/-- QUIET_WINDOW. -/
def execQuietWindow (idx : Nat) (s : State) : Host.Outcome State Fault Refusal := onCore s (quietWindow idx)

/-- A part that is not fully staged at T (R258, Table DEP-6). -/
def Dev.missDep (d : Dev) (e : Dep) : Dev :=
  if d.flag R.DEP_MISS_POLICY.POL then
    ((d.raise R.DEP_EVT.MISSED).bumpSat R.DEP_MISSED_CNT.MISSED 1).recordDep e .missed
  else
    let e := { e with late := true, imm := false, quiet := [], out := .lateStaged }
    (d.putDep e).pumpDep e

/-- Bell time T is reached: the device decides its part (R265). -/
def departureRelease (idx : Nat) (d : Dev) : Dev :=
  match d.dep? idx with
  | some e =>
    if d.gcr.role == .manager || d.twn.mirror || e.imm || e.late || e.phase == .releasing || !d.bellPast e.t then d
    else if e.fullyStaged then d.releaseAll e
    else (d.missDep e).startNexts e
  | none => d

/-- DEPARTURE_RELEASE. -/
def execDepartureRelease (idx : Nat) (s : State) : Host.Outcome State Fault Refusal := onCore s (departureRelease idx)

/-- After the fresh quiet window of a late part its listed ports release together, with LATE set (R258). -/
def lateStaged (idx : Nat) (d : Dev) : Dev :=
  match d.dep? idx with
  | some e =>
    if e.late && e.fullyStaged && d.freshOver e && e.phase != .releasing && !d.twn.mirror then
      let d := (d.raise R.DEP_EVT.LATE_STAGED).bumpSat R.DEP_LATE_CNT.LATE 1
      (d.pmu1 0x022).releaseAll e
    else d
  | none => d

/-- LATE_STAGED. -/
def execLateStaged (idx : Nat) (s : State) : Host.Outcome State Fault Refusal := onCore s (lateStaged idx)

/-- An immediate departure starts on a port once its first line is staged, without a quiet window (R385, Table DEP-6). -/
def immediateRelease (idx port : Nat) (d : Dev) : Dev :=
  match d.dep? idx with
  | some e =>
    if d.gcr.role != .manager && !d.twn.mirror && e.imm && e.ports.contains port && !e.startedOn port && !e.overOn port &&
        e.stagedLine 0 then
      let r := Dev.releasePort (e, d.pmu1 0x022 (if e.started.isEmpty then 1 else 0)) port
      ((r.2.putDep r.1).closeDep r.1).startNext port
    else d
  | none => d

/-- IMMEDIATE_RELEASE. -/
def execImmediateRelease (idx port : Nat) (s : State) : Host.Outcome State Fault Refusal :=
  onCore s (immediateRelease idx port)

/-- The last flit leaves a port that has started: the rest of line 1, what waits to be sent between two lines, then the other
lines in order (R261, R383). A port whose link is not in ACTIVE sends none (R264), and one whose replay buffer lacks the
room none yet (R370). -/
def Dev.endOn (r : Dep × Dev) (n : Nat) : Dep × Dev :=
  let e := r.1
  let p := r.2.port n
  if e.startedOn n && !e.overOn n && p.st == 3 && Nat.ble (p.unacked + (p.cut.length + (depLater e).length + 59) / 15) 128 then
    let x := Dev.slotsBetween n 45 p.txq [] [] r.2 []
    let d := x.2.setPort n { x.2.port n with cut := [] }
    ({ e with ended := e.ended ++ [n] },
     ((chunk15 64 (p.cut ++ x.1 ++ depLater e)).foldl (Dev.depFlit n) d).sendLines n e e.restLines)
  else r

/-- The last flits end: the ports are free for the next departure and for other traffic, and the record is written after
the last of them (R263, R266). -/
def releaseEnd (idx : Nat) (d : Dev) : Dev :=
  match d.dep? idx with
  | some e =>
    if e.fullyStaged && !e.started.isEmpty then
      let r := e.ports.foldl Dev.endOn (e, d)
      (((r.2.putDep r.1).closeDep r.1).startNexts e).pumpDep e
    else d
  | none => d

/-- RELEASE_END. -/
def execReleaseEnd (idx : Nat) (s : State) : Host.Outcome State Fault Refusal := onCore s (releaseEnd idx)

/-! ## Cancel and disable (R272, R273) -/

/-- A downlink counts as disabled: what is still announced to its slot counts as refused there, and no DepAck is awaited
from it (log entry 27). -/
def Dev.slotLost (d : Dev) (n : Nat) : Dev :=
  if d.gcr.role ≠ .manager ∨ d.slotPort (n / 2) ≠ n then d
  else
    let k := n / 2
    let d := if d.dep.stale.any (fun x => x.2.1 == k) then d.setStale (d.dep.stale.filter (fun x => x.2.1 != k)) else d
    d.dep.table.foldl (fun d e =>
      if e.phase = .announcing ∧ e.toAnswer.contains k then d.refuseAnnounced e k
      else if e.acks.any (fun a => a.1 == k) then
        let e := { e with acks := e.acks.filter (fun a => a.1 != k) }
        (d.saveDep e).managerDone e
      else d) d

/-- GO cancels the entry that DEP_CANCEL_IDX names; RESULT tells whether it did. -/
def depCancelGo (d : Dev) : Dev :=
  match (d.dep? (d.get R.DEP_CANCEL_IDX.IDX)).filter Dep.cancellable with
  | some e => ((d.cancelDep e).startNexts e).set R.DEP_CANCEL_CTRL.RESULT 1
  | none => d.set R.DEP_CANCEL_CTRL.RESULT 0

/-- DEP_CANCEL. -/
def execDepCancelGo (src : Src) (s : State) : Host.Outcome State Fault Refusal :=
  onDev s (fun d => d.write src R.DEP_CANCEL_CTRL.GO.ofs depCancelGo)

/-- EN = 0: the engine refuses new departures and drains its timetable (R161, R273). -/
def depDisable (d : Dev) : Dev :=
  if d.flag depEN then
    let d := d.set depEN 0
    { d with dep := { d.dep with draining := !d.dep.table.isEmpty } }
  else d

/-- DEP_DISABLE. -/
def execDepDisable (src : Src) (s : State) : Host.Outcome State Fault Refusal :=
  onDev s (fun d => d.write src depEN.ofs depDisable)

end Sys2Proof.Machine
end

