-- ==== Sys2Proof/Machine/Append.lean ====
section
/-! DEFINITION. The append engine: descriptors, records, combining, line writes and commit (R274 to R293). -/

namespace Sys2Proof.Machine

/-! ## Descriptors -/

/-- Offset of a descriptor register of stream n (Table APD-3). -/
def apdReg (n k : Nat) : Nat := 0x1D040 + 0x30 * n + k

/-- BASE of stream n. -/
def Dev.apdBase (d : Dev) (n : Nat) : Nat := d.get64 (apdReg n 0)

/-- SIZE_LOG2. -/
def Dev.apdLog (d : Dev) (n : Nat) : Nat := bits (d.raw (apdReg n 8)).toNat 5 0

/-- The ring's size in bytes. -/
def Dev.apdSize (d : Dev) (n : Nat) : Nat := 2 ^ d.apdLog n

/-- STOP: the stop policy. -/
def Dev.apdStop (d : Dev) (n : Nat) : Bool := (d.raw (apdReg n 8)).getLsbD 6

/-- HOME: the stream lives at the manager. -/
def Dev.apdHome (d : Dev) (n : Nat) : Bool := (d.raw (apdReg n 8)).getLsbD 7

/-- WM. -/
def Dev.apdWm (d : Dev) (n : Nat) : Nat := (d.raw (apdReg n 12)).toNat

/-- A stream. -/
def Dev.stream (d : Dev) (n : Nat) : Stream := (bankGet d.apd.streams n).getD Stream.idle

/-- A stream changes on this side alone, by a register write (R215, R293). -/
def Dev.putStream (d : Dev) (n : Nat) (s : Stream) : Dev :=
  { d with apd := { streams := if s = Stream.idle then bankErase d.apd.streams n else bankSet d.apd.streams n s } }

/-- The engine changes a stream; a mirror item (R293). -/
def Dev.setStream (d : Dev) (n : Nat) (s : Stream) : Dev := (d.putStream n s).mirror (.stream n s)

/-! ## Commit (R287, R289) -/

/-- The offset below which every line write has completed. -/
def streamBound (s : Stream) : Nat := s.lines.foldl (fun a l => min a l.off) (s.tail / 128 * 128)

/-- COMMIT advances over the contiguous prefix of complete lines. -/
def advanceCommit (s : Stream) : Stream :=
  let b := streamBound s
  { s with commit := (s.ends.filter (· ≤ b)).foldl max s.commit, ends := s.ends.filter (fun e => b < e) }

/-- A stream changes, and COMMIT - HEAD may cross the watermark upward. -/
def Dev.commitStream (d : Dev) (n : Nat) (s : Stream) : Dev :=
  let old := d.stream n
  let t := advanceCommit s
  let wm := d.apdWm n
  (d.setStream n t).raiseIf (wm != 0 && old.commit - old.head < wm && wm ≤ t.commit - t.head) R.APD_EVT.COMMIT_WM

/-! ## Line writes (R284) -/

/-- Line writes in flight. -/
def Dev.apdInFlight (d : Dev) : Nat :=
  d.apd.streams.foldl (fun a e => a + (e.2.lines.filter (fun l => l.issued && !l.failed)).length) 0

/-- A closed line waits for the engine. -/
def Dev.apdBacklog (d : Dev) : Bool := d.apd.streams.any (fun e => e.2.lines.any (fun l => !l.issued))

/-- The line address of a stream's offset (R275). -/
def Dev.apdLine (d : Dev) (n off : Nat) : Nat := (d.apdBase n + off % d.apdSize n) / 128

/-- One line write is issued, if fewer than 256 are in flight. -/
def Dev.issueLine (n : Nat) (d : Dev) (l : StreamLine) : Dev :=
  if l.issued || 256 ≤ d.apdInFlight then d
  else
    let s := d.stream n
    let d := d.setStream n { s with lines := mapIf (fun x => x.off == l.off) (fun x => { x with issued := true }) s.lines }
    d.issue { id := 0, kind := .apdLine, org := .stream n, line := d.apdLine n l.off, mask := Mask.full, pay := l.pay,
              phase := .queued, aux := l.off }

/-- Closed lines are issued in order. -/
def Dev.pumpStreams (d : Dev) : Dev :=
  d.apd.streams.foldl (fun d e => (d.stream e.1).lines.foldl (Dev.issueLine e.1) d) d

/-! ## Placing bytes (R279 to R285) -/

/-- Bytes placed at the tail of a stream: the combining buffer takes them, and a line that becomes full is closed. -/
def placeBytes (s : Stream) (data : Nat) (len : Nat) (psn : Bool) : Stream :=
  let o := s.tail % 128
  let line : Payload := ⟨s.open_.data ||| BitVec.ofNat 1024 (data * 2 ^ (8 * o)), s.open_.psn || psn⟩
  let t := s.tail + len
  if 128 ≤ o + len then
    { s with tail := t, ends := s.ends ++ [t], lines := s.lines ++ [⟨s.tail - o, line, false, false⟩],
             open_ := ⟨BitVec.ofNat 1024 (data / 2 ^ (8 * (128 - o))), psn && 128 < o + len⟩ }
  else { s with tail := t, ends := s.ends ++ [t], open_ := line }

/-- A pad record (R282). -/
def placePad (s : Stream) (len : Nat) : Stream := placeBytes s (240 + (len / 8 - 1)) len false

/-- The partial line is closed with a pad to its end. -/
def closeLine (s : Stream) : Stream := if s.tail % 128 = 0 then s else placePad s (128 - s.tail % 128)

/-- The pad a record needs before the end of the ring (R280). -/
def Dev.apdPad (d : Dev) (n len : Nat) : Nat :=
  let m := (d.stream n).tail % d.apdSize n
  if d.apdSize n < m + len then d.apdSize n - m else 0

/-- The stop policy refuses the record, by HEAD as it stood before any write of this core cycle (R281, R288). -/
def Dev.apdNoRoom (d : Dev) (n len : Nat) : Bool :=
  let s := d.stream n
  d.apdStop n && d.apdSize n < (s.tail + d.apdPad n len + len + 127) / 128 * 128 - s.headWas.getD s.head / 128 * 128

/-- Bytes of a record: LEN + 1 words of 8. -/
def recLen (len : Nat) : Nat := (len + 1) * 8

/-- A header word fits its record (R277). -/
def headerOk (len : Nat) (p : Payload) : Bool := bits p.data.toNat 3 0 == len && bits p.data.toNat 7 4 != 15

/-- A record is placed at the tail; the answer is its offset. -/
def Dev.placeRecord (d : Dev) (n len : Nat) (p : Payload) : Nat × Dev :=
  let k := recLen len
  let pad := d.apdPad n k
  let s := d.stream n
  let s := if pad = 0 then s else placePad s pad
  let off := s.tail
  let s := { placeBytes s (p.data.toNat % 2 ^ (8 * k)) k p.psn with full := false }
  let s := if d.get R.APD_ENG_CFG.FLUSH_TO = 0 then closeLine s else s
  let d := ((d.commitStream n s).bump64 R.APD_REC_CNT_LO.REC_LO.ofs 1).pmu1 0x023
  (off, (d.raiseIf p.psn R.APD_EVT.REC_POISON).pumpStreams)

/-! ## Append requests (R278, R286) -/

/-- An Append is refused (R278). -/
def Dev.refuseAppend (d : Dev) (o : Origin) (tag : Nat) (full : Option Nat) : Dev :=
  let d := match full with
    | some n => (d.setStream n { d.stream n with full := true }).raise R.APD_EVT.FULL
    | none => d
  ((d.raise R.APD_EVT.REC_REFUSED).bumpSat R.APD_REFUSE_CNT.REF 1).sendErr o tag 2

/-- The engine takes an Append: refused, placed and acknowledged; none while line writes leave no room (R284). -/
def Dev.takeAppend (d : Dev) (o : Origin) (tag : Nat) (tph : Bool) (n len : Nat) (p : Payload) : Option Dev :=
  let s := d.stream n
  if !s.en || s.fault || !headerOk len p then some (d.refuseAppend o tag none)
  else if d.apdNoRoom n (recLen len) then some (d.refuseAppend o tag (some n))
  else if 256 ≤ d.apdInFlight || d.apdBacklog then none
  else
    let r := d.placeRecord n len p
    let d := r.2.logRetired ⟨o, tag, tph, n, .append, r.1⟩
    some (d.respond o (fun q => .ack q tag .I 0 (some r.1)))

/-- Where an Append's transaction entry stands among line addresses: above every line. -/
def apdLineNo (n : Nat) : Nat := 2 ^ 41 + n

/-- The Append is for a stream that lives at the manager (R292). One whose header word breaks R277 is refused here, by R278,
and not forwarded: the manual does not say which of the two rules goes first (log entry 101). -/
def Dev.appendGoesUp (d : Dev) (t : Txn) : Bool :=
  let n := t.line - 2 ^ 41
  d.gcr.role == .worker && (d.stream n).en && d.apdHome n && headerOk t.ch t.pay

/-- A worker forwards an Append, its entry held for the manager's answer (R292). -/
def Dev.forwardAppend (d : Dev) (t : Txn) : Dev :=
  let t := (d.txn? t.id).getD t
  let q := Txn.upTag t
  let r := d.uplinkPhase q.1 q.2 t.tph false
  let d := (r.2.putTxn { t with phase := .uplink, up := some .append, upTph := r.1 }).pmu1 0x024
  d.tell d.uplink (.upAppend d.widx q.1 q.2 r.1 (t.line - 2 ^ 41) t.ch t.pay none)

/-- An Append of an entry already held is forwarded, taken by the engine, or waits for line writes (R284, R292). Table ORD-7
does not say what becomes of one whose stream has been disabled meanwhile: the model refuses it (log entry 101). -/
def Dev.retryAppend (d : Dev) (t : Txn) : Dev :=
  if t.phase ≠ .waitEntry then d
  else if d.appendGoesUp t then d.forwardAppend t
  else match d.takeAppend t.org t.tag t.tph (t.line - 2 ^ 41) t.ch t.pay with
    | some d => d.freeTxn t.id
    | none => d

/-- An Append sent again in the window after a takeover, whose entry is still open: it is handled from the start, unless the
manager already has it (R292, R293). -/
def Dev.appendAgain (d : Dev) (t : Txn) : Dev :=
  if t.phase = .uplink then d
  else
    let t := { t with phase := .waitEntry }
    (d.putTxn t).retryAppend t

/-- Every waiting Append is tried again. -/
def Dev.retryAppends (d : Dev) : Dev := (d.cnf.txns.filter (fun t => t.kind == .append)).foldl Dev.retryAppend d

/-- An admitted Append is taken by the engine, waits in its entry, or goes to the manager (R286, R292). -/
def Dev.admitAppend (d : Dev) (t : Txn) : Dev :=
  if d.appendGoesUp t then (d.addTxn { t with phase := .uplink, up := some .append }).forwardAppend t
  else match d.takeAppend t.org t.tag t.tph (t.line - 2 ^ 41) t.ch t.pay with
    | some d => d
    | none => d.addTxn { t with phase := .waitEntry }

/-! ## Completion (R287, R290) -/

/-- A line write completes: its transaction retires, COMMIT advances, the engine goes on. -/
def Dev.apdComplete (d : Dev) (t : Txn) (n off : Nat) : Dev :=
  let d := (d.freeTxn t.id).fillPlace (d.key t.line)
  let s := d.stream n
  let d := d.commitStream n { s with lines := s.lines.filter (fun l => l.off != off) }
  d.pumpStreams.retryAppends

/-- The transaction of a stream's line write. -/
def Dev.apdTxn (d : Dev) (n off : Nat) : Option Txn :=
  d.cnf.txns.find? (fun t => t.kind == .apdLine && t.org == .stream n && t.aux == off)

/-- The line write is done at its home. -/
def apdLineWriteDone (n off : Nat) (d : Dev) : Dev :=
  match d.apdTxn n off with
  | some t => if t.phase = .done then d.apdComplete t n off else d
  | none => d

/-- APD_LINE_WRITE_DONE. -/
def execApdLineWriteDone (n off : Nat) (s : State) : Host.Outcome State Fault Refusal :=
  onCore s (apdLineWriteDone n off)

/-- A line write ends in an error: the stream faults, and COMMIT stays below the line (R290). -/
def Dev.apdFail (d : Dev) (t : Txn) (n off : Nat) : Dev :=
  let d := ((d.giveUpWay t).freeTxn t.id).fillPlace (d.key t.line)
  let s := d.stream n
  let d := d.setStream n { s with fault := true,
                                  lines := mapIf (fun l => l.off == off) (fun l => { l with failed := true }) s.lines }
  ((d.report R.APD_EVT.LINE_FAIL n 0 (t.line * 128) 0).pumpStreams).retryAppends

/-- The next level answers a stream's line write with an error. -/
def lineFail (n off : Nat) (d : Dev) : Dev :=
  match d.apdTxn n off with
  | some t => if t.phase = .done ∨ t.phase = .uplink then d.apdFail t n off else d
  | none => d

/-- LINE_FAIL. -/
def execLineFail (n off : Nat) (s : State) : Host.Outcome State Fault Refusal := onCore s (lineFail n off)

/-! ## Closing partial lines (R283) -/

/-- A stream's partial line is closed and written, on the side that serves (R293). -/
def Dev.closeStream (d : Dev) (n : Nat) : Dev :=
  let s := d.stream n
  if !d.twn.mirror && s.en && s.tail % 128 != 0 then (d.commitStream n (closeLine s)).pumpStreams else d

/-- An Append of a stream. -/
def appendsTo (b : Body) (n : Nat) : Bool :=
  match b with
  | .append k _ _ => k == n
  | _ => false

/-- An Append of the stream reaches the engine in this core cycle: one waits for its lookup slot, or a later command of the
cycle brings one (R283). -/
def State.appendComes (s : State) (n : Nat) : Bool :=
  s.dev.cnf.waiting.any (fun r => appendsTo r.body n) ||
  s.thisCycle.any (fun c => match c with
    | .append _ k _ _ => k == n
    | .ticketRetry _ _ b => appendsTo b n
    | _ => false)

/-- The partial line is closed: at once, or behind the records that reach the engine in this core cycle (R283). -/
def Dev.closeSoon (d : Dev) (n : Nat) (wait : Bool) : Dev :=
  if wait then d.putStream n { d.stream n with closing := true } else d.closeStream n

/-- FLUSH writes the partial line. -/
def execApdFlush (src : Src) (n : Nat) (s : State) : Host.Outcome State Fault Refusal :=
  onDev s (fun d => d.write src (0x1C100 + 8 * n) (fun d => d.closeSoon n (s.appendComes n)))

/-- FLUSH_TO has passed since the line's first byte. -/
def execAppendCombineTimeout (n : Nat) (s : State) : Host.Outcome State Fault Refusal :=
  onCore s (fun d => d.closeSoon n (s.appendComes n))

/-- A stream at the end of a core cycle: the close that waited for its records is made, and HEAD counts as it stands (R283,
R288). -/
def Dev.streamCycle (d : Dev) (n : Nat) : Dev :=
  let s := d.stream n
  let d := if s.headWas.isSome || s.closing then d.putStream n { s with headWas := none, closing := false } else d
  if s.closing then d.closeStream n else d

/-- Every stream at the end of a core cycle. -/
def Dev.streamCycles (d : Dev) : Dev := (d.apd.streams.map (·.1)).foldl Dev.streamCycle d

/-! ## Enable, disable, descriptors (R274, R276, R288, R291) -/

/-- The checks of R274. -/
def Dev.streamOk (d : Dev) (n : Nat) : Bool :=
  16 ≤ d.apdLog n && d.apdLog n ≤ 40 && d.apdBase n % d.apdSize n == 0 &&
  (d.gcr.role == .worker || (d.apdBase n + d.apdSize n ≤ d.sdrBase && !d.apdHome n)) && !(d.stream n).draining

/-- EN = 1; FULL stays until a record is accepted (R281). -/
def streamEnable (n : Nat) (d : Dev) : Dev :=
  let s := d.stream n
  if s.en then d
  else if d.streamOk n then
    d.putStream n { Stream.idle with en := true, full := s.full, tail := s.tail, commit := s.tail, head := s.tail }
  else d.raise R.APD_EVT.CFG_BAD

/-- STREAM_ENABLE. -/
def execStreamEnable (src : Src) (n : Nat) (s : State) : Host.Outcome State Fault Refusal :=
  onDev s (fun d => d.write src (0x1C100 + 8 * n) (streamEnable n))

/-- Line writes of a stream still in flight or waiting for the engine. -/
def streamBusy (s : Stream) : Bool := s.lines.any (fun l => !l.failed)

/-- EN = 0: the partial line is closed, and the stream drains. -/
def streamDisable (n : Nat) (d : Dev) : Dev :=
  if (d.stream n).en then
    let d := d.closeStream n
    let s := d.stream n
    d.putStream n { s with en := false, draining := streamBusy s }
  else d

/-- STREAM_DISABLE. -/
def execStreamDisable (src : Src) (n : Nat) (s : State) : Host.Outcome State Fault Refusal :=
  onDev s (fun d => d.write src (0x1C100 + 8 * n) (streamDisable n))

/-- HEAD takes a value from HEAD to COMMIT (R288). -/
def apdHeadWrite (n : Nat) (h : BitVec 64) (d : Dev) : Dev :=
  let s := d.stream n
  if s.head ≤ h.toNat ∧ h.toNat ≤ s.commit then
    d.putStream n { s with head := h.toNat, headWas := some (s.headWas.getD s.head) }
  else d.raise R.APD_EVT.HEAD_BAD

/-- APD_HEAD_WRITE. -/
def execApdHeadWrite (src : Src) (n : Nat) (h : BitVec 64) (s : State) : Host.Outcome State Fault Refusal :=
  onDev s (fun d => d.write src (apdReg n 0x24) (apdHeadWrite n h))

/-- The offset a descriptor write reaches. -/
def descReg : ApdReg → Nat
  | .base => 0x4
  | .cfg => 0x8
  | .tail => 0x14

/-- BASE, CFG and TAIL are written while the stream is neither enabled nor draining (R275, R276). -/
def apdDescriptorWrite (n : Nat) (r : ApdReg) (v : BitVec 64) (d : Dev) : Dev :=
  let s := d.stream n
  if s.en || s.draining then d.raise R.APD_EVT.CFG_BAD
  else match r with
    | .base => d.set64 (apdReg n 0) (v.toNat % 2 ^ 48 / 65536 * 65536)
    | .cfg => d.setRaw (apdReg n 8) (BitVec.ofNat 32 (v.toNat % 256))
    | .tail => d.putStream n { s with tail := v.toNat / 128 * 128 }

/-- APD_DESCRIPTOR_WRITE. -/
def execApdDescriptorWrite (src : Src) (n : Nat) (r : ApdReg) (v : BitVec 64) (s : State) :
    Host.Outcome State Fault Refusal :=
  onDev s (fun d => d.write src (apdReg n (descReg r)) (apdDescriptorWrite n r v))

end Sys2Proof.Machine
end

