-- ==== Sys2Proof/Machine/Events.lean ====
section
/-! DEFINITION. The event controller's commands, the software queues, the chain requests a device originates, and the
performance monitor (R521 to R549). -/

namespace Sys2Proof.Machine

/-! ## Chain requests (R481, R482) -/

/-- Originates a request and remembers it until its answer. -/
def Dev.chainSend (d : Dev) (dst src : Nat) (use : ChnUse) (f : Frame) : Dev :=
  let m : ChainMsg := ⟨dst, src, d.chn.seq, false, f⟩
  let r : ChnReq := ⟨m, 0, use⟩
  ({ d with chn := { d.chn with seq := (d.chn.seq + 1) % 256, flight := d.chn.flight ++ [r] } }).emit (chainOut m)

/-- A request of a use is in flight. -/
def Dev.inFlight (d : Dev) (p : ChnUse → Bool) : Bool := d.chn.flight.any (fun r => p r.use)

/-- Whether a use is the event frame of a word. -/
def isEvt (w : Nat) : ChnUse → Bool
  | .evt v => v == w
  | _ => false

/-- Whether a use is the mailbox. -/
def isMbx : ChnUse → Bool
  | .mbx => true
  | _ => false

/-- Whether a use is the request of CHN_REQ. -/
def isReg : ChnUse → Bool
  | .reg => true
  | _ => false

/-- Sends or places one event frame with the bits given (R528, R530). -/
def Dev.sendEvt (d : Dev) (w bits : Nat) : Dev :=
  if d.chn.head then
    d.evqRaw (32 * w) d.addr d.gcr.mode.code true 0 0 bits (if d.gcr.fault then 1 else 0)
  else
    ({ d with evc := { d.evc with frames := min (d.evc.frames + 1) (2 ^ 32 - 1) } }).chainSend 0 d.addr (.evt w)
      (.evt d.addr w d.gcr.mode.code d.gcr.fault (BitVec.ofNat 32 bits))

/-- The pending bits of a chain-routed word that no frame has carried. -/
def Dev.freshBits (d : Dev) (w : Nat) : Nat :=
  if (d.route w).testBit 24 then d.pend w &&& ((bankGet d.evc.seen w).getD 0 ^^^ BitVec.allOnes 32).toNat else 0

/-- The frame of a word goes out when it is due, the device has an address and none is in flight (R528, R529). -/
def evtFrameSend (w : Nat) (d : Dev) : Dev :=
  if d.inFlight (isEvt w) || (d.addr == 0 && !d.chn.head) then d
  else if d.evc.owed.contains w then
    ({ d with evc := { d.evc with owed := d.evc.owed.erase w } }).sendEvt w (d.wordBits w false)
  else if d.freshBits w ≠ 0 then
    ({ d with evc := { d.evc with seen := bankSet d.evc.seen w (BitVec.ofNat 32 (d.pend w)) } }).sendEvt w (d.pend w)
  else d

/-- EVT_FRAME_SEND. -/
def execEvtFrameSend (word : Nat) (s : State) : Host.Outcome State Fault Refusal := onDev s (evtFrameSend word)

/-! ## MSI-X -/

/-- Arms the vectors of EVC_REARM0 or EVC_REARM1 (R525). -/
def evcRearm (word : Nat) (mask : Word) (d : Dev) : Dev :=
  { d with evc := { d.evc with armed := d.evc.armed ||| (mask.zeroExtend 64 <<< (32 * word)) } }

/-- EVC_REARM. -/
def execEvcRearm (src : Src) (word : Nat) (mask : Word) (s : State) : Host.Outcome State Fault Refusal :=
  onDev s (fun d => d.write src (R.EVC_REARM0.REARM.ofs + 4 * word) (evcRearm word mask))

/-- The last reason that blocked messages ends: the link is up, bus-master enable is 1, the function is unmasked; the
event controller then sends or clears every PBA bit (R526). The SerDes token of a link that comes up returns (R439). -/
def pbaRelease (d : Dev) : Dev :=
  let d := if d.hst.up then d
    else
      let x := Config.hostLink d.free
      { d with free := d.free + 1, hst := { d.hst with width := x.1 % 3, rate := 1 + x.2 % 5 } }
  ({ d with hst := { d.hst with up := true, busMaster := true, fmask := false } }).returnToken 2 hstOwner

/-- PBA_RELEASE. -/
def execPbaRelease (s : State) : Host.Outcome State Fault Refusal :=
  onDev s (fun d => if d.domOn 20 then pbaRelease d else d)

/-- The PCIe host link goes down (R526); it is brought up again with a token (R439). -/
def hstLinkDown (d : Dev) : Dev :=
  if d.hst.up then (({ d with hst := { d.hst with up := false } }).raise R.HST_EVT.LINK_DOWN).askToken 2 hstOwner else d

/-- HST_LINK_DOWN. -/
def execHstLinkDown (s : State) : Host.Outcome State Fault Refusal := onDev s hstLinkDown

/-! ## Queue reads (R532 to R536) -/

/-- The open record of a source. -/
def Queue.latch (q : Queue) : Src → List Word
  | .chain => q.latchC
  | _ => q.latchH

/-- Replaces a source's open record and the value last returned to it. -/
def Queue.setLatch (q : Queue) (src : Src) (l : List Word) (last : Word) : Queue :=
  match src with
  | .chain => { q with latchC := l, lastC := last }
  | _ => { q with latchH := l, lastH := last }

/-- The value the register last returned to a source. -/
def Queue.last (q : Queue) : Src → Word
  | .chain => q.lastC
  | _ => q.lastH

/-- One 4-byte read of QUE_n_DATA (R533, R534): the value and the device after it. -/
def Dev.queRead (d : Dev) (src : Src) (n : Nat) : Word × Dev :=
  let q := d.queue n
  match q.latch src with
  | w :: l => (w, d.setQueue n (q.setLatch src l w))
  | [] =>
    match q.recs with
    | (w :: l) :: rs => (w, d.setQueue n ({ q with recs := rs }.setLatch src l w))
    | _ => (q.last src, (d.set (R.QUEn_STAT.UNDERRUN n) 1).raise (evUnderrun n))

/-- A read of QUE_n_DATA of 4 bytes, or of 8 bytes as two reads (R509, R533). QUE_4_DATA reads 0: it is write-only. -/
def queDataRead (src : Src) (n size : Nat) (d : Dev) : Dev :=
  let ofs := 0xA104 + n * 0x20
  match d.unreachable ofs with
  | some c => d.busErr src ofs false c
  | none =>
    if n = 4 then d.emit (.regVal src 0)
    else if size = 1 ∨ size = 2 then d.busErr src ofs false 6
    else
      let r := d.queRead src n
      let d := r.2.emit (.regVal src r.1)
      if size = 8 then
        let r := d.queRead src n
        r.2.emit (.regVal src r.1)
      else d

/-- QUE_DATA_READ. -/
def execQueDataRead (src : Src) (n size : Nat) (s : State) : Host.Outcome State Fault Refusal :=
  onDev s (queDataRead src n size)

/-- DROP discards the rest of the writing source's open record, or its half-written MBO record (R535). -/
def queDrop (src : Src) (n : Nat) (d : Dev) : Dev :=
  if n = 4 then
    match src with
    | .chain => { d with que := { d.que with halfC := none } }
    | _ => { d with que := { d.que with halfH := none } }
  else d.setQueue n ((d.queue n).setLatch src [] ((d.queue n).last src))

/-- QUE_DROP. -/
def execQueDrop (src : Src) (n : Nat) (s : State) : Host.Outcome State Fault Refusal :=
  onDev s (fun d => d.write src (R.QUEn_DROP.DROP n).ofs (queDrop src n))

/-! ## The mailbox (R540) -/

/-- The half-written MBO record of a source. -/
def Dev.mboHalf (d : Dev) : Src → Option Word
  | .chain => d.que.halfC
  | _ => d.que.halfH

/-- Replaces it. -/
def Dev.setMboHalf (d : Dev) (src : Src) (w : Option Word) : Dev :=
  match src with
  | .chain => { d with que := { d.que with halfC := w } }
  | _ => { d with que := { d.que with halfH := w } }

/-- A write to QUE_4_DATA: word 0 waits, word 1 pushes the record with the destination sampled then (R540). -/
def mboWrite (src : Src) (v : Word) (d : Dev) : Dev :=
  match d.mboHalf src with
  | none => d.setMboHalf src (some v)
  | some w => (d.setMboHalf src none).push 4 [w, v, BitVec.ofNat 32 (d.get R.QUE_MBO_DST.DST)]

/-- MBO_WRITE. -/
def execMboWrite (src : Src) (v : Word) (s : State) : Host.Outcome State Fault Refusal :=
  onDev s (fun d => d.write src (R.QUEn_DATA.DATA 4).ofs (mboWrite src v))

/-- The oldest MBO record is sent once the one before is answered (R540). -/
def mboSend (d : Dev) : Dev :=
  if d.inFlight isMbx || d.addr == 0 then d
  else match (d.queue 4).recs with
    | (w0 :: w1 :: dst :: _) :: _ => d.chainSend dst.toNat d.addr .mbx (.mbx w0 w1)
    | _ => d

/-- MBO_SEND. -/
def execMboSend (s : State) : Host.Outcome State Fault Refusal := onCore s mboSend

/-- The answer to an MBX frame: the record leaves MBO; on any status but 0 it is lost (R540). -/
def Dev.mboAnswered (d : Dev) (ok : Bool) : Dev :=
  let q := d.queue 4
  let d := d.setQueue 4 { q with recs := q.recs.drop 1 }
  if ok then d else (d.raise R.QUE_EVT.MBO_FAIL).bumpSat (R.QUEn_LOST.LOST 4) 1

/-! ## Counters (R543 to R549) -/

/-- The counters are frozen. -/
def Dev.frozen (d : Dev) : Bool := d.flag R.PMU_GCTL.FREEZE

/-- CLEAR sets every counter and every sticky bit of the PMU to 0 (R548). -/
def pmuClear (d : Dev) : Dev :=
  { d with
    regs := d.regs.filter (fun e => !((0xB048 ≤ e.1 && e.1 < 0xB090) || (0xC040 ≤ e.1 && e.1 < 0xC240) ||
      (0xC400 ≤ e.1 && e.1 < 0xC410))),
    pmu := { d.pmu with wraps := [] } }

/-- PMU_CLEAR. -/
def execPmuClear (src : Src) (s : State) : Host.Outcome State Fault Refusal :=
  onDev s (fun d => d.write src R.PMU_GCTL.CLEAR.ofs pmuClear)

/-- Bit n of a 32-bit register. -/
def bitRef (ofs n : Nat) : FieldRef := ⟨ofs, n, n⟩

/-- A counter passes its end: OVF of a wrapping counter, SAT of a saturating one; FIX_OVF for a fixed counter; a
wrapping counter with SAMPLE asks for a sample (R546, R549). -/
def counterWrap (fixed : Bool) (n : Nat) (d : Dev) : Dev :=
  if !d.pmu.wraps.contains (fixed, n) then d
  else
    let d := { d with pmu := { d.pmu with wraps := d.pmu.wraps.erase (fixed, n) } }
    if fixed then
      let sat := (d.get R.PMU_FIX_CFG.SAT).testBit n
      (d.set (bitRef R.PMU_FIX_STAT.OVF.ofs (if sat then 8 + n else n)) 1).raise R.PMU_EVT.FIX_OVF
    else
      let sat := d.flag (R.PMU_SELn.SAT n)
      let d := d.set (bitRef ((if sat then 0xC408 else 0xC400) + 4 * (n / 32)) (n % 32)) 1
      if d.flag (R.PMU_SELn.SAMPLE n) && !sat then { d with pmu := { d.pmu with want := d.pmu.want ++ [n] } } else d

/-- COUNTER_WRAP. -/
def execCounterWrap (fixed : Bool) (n : Nat) (s : State) : Host.Outcome State Fault Refusal :=
  onCore s (counterWrap fixed n)

/-- A slot without a lookup. -/
def emptySlot (code : Nat) : SlotUse := ⟨code, 0, 0, 0, 0⟩

/-- The first sample that is due is captured, or lost while one is held (R549). -/
def sample (skid : Nat) (d : Dev) : Dev :=
  match d.pmu.want with
  | [] => d
  | n :: l =>
    let d := { d with pmu := { d.pmu with want := l } }
    if d.flag R.PMU_SMP_STAT.VALID then (d.bumpSat R.PMU_SMP_LOST.LOST 1).raise R.PMU_EVT.SMP_LOST
    else
      let u := (d.pmu.last.head?).getD (emptySlot 0x006)
      let lk := u.code == 0x004 || (0x016 ≤ u.code && u.code ≤ 0x018)
      let d := (((d.set R.PMU_SMP_STAT.VALID 1).set R.PMU_SMP_STAT.CTR n).set R.PMU_SMP_STAT.SKID skid).set
        R.PMU_SMP_STAT.CODE u.code
      let d := ((d.set R.PMU_SMP_ID.LKUP (if lk then 1 else 0)).set R.PMU_SMP_ID.PORT u.port).set R.PMU_SMP_ID.OPC u.opc
      let d := (d.set R.PMU_SMP_ID.TXID u.txid).set64 R.PMU_SMP_ADDR_LO.ADDR_LO.ofs (u.line * 128 % 2 ^ 48)
      let d := d.set64 R.PMU_SMP_TIME_LO.TIME_LO.ofs d.bel.now.toNat
      let d := if d.flag R.PMU_GCTL.FRZ_SMP then d.set R.PMU_GCTL.FREEZE 1 else d
      d.raise R.PMU_EVT.SAMPLE

/-- SAMPLE. -/
def execSample (skid : Nat) (s : State) : Host.Outcome State Fault Refusal := onCore s (sample skid)

/-- DONE releases the sample. -/
def pmuSmpDone (d : Dev) : Dev := d.set R.PMU_SMP_STAT.VALID 0

/-- PMU_SMP_DONE. -/
def execPmuSmpDone (src : Src) (s : State) : Host.Outcome State Fault Refusal :=
  onDev s (fun d => d.write src R.PMU_SMP_CTRL.DONE.ofs pmuSmpDone)

/-! ## One core cycle -/

/-- The class of a slot no lookup used (Table EVT-9, rows 3 to 7). The manual bounds no header-fetch queue, and a pass
takes a set within one command, so that rows 6 and 11 never apply (log entry 90). -/
def Dev.idleCode (d : Dev) : Nat :=
  if d.pip.stopped && !d.cnf.waiting.isEmpty then 0x015
  else if !d.cnf.waiting.isEmpty then 0x012
  else if !d.cnf.pool.isEmpty then 0x013
  else 0x006

/-- The two slots of a core cycle (R544): withheld by the purser, by a CORE switch, used by lookups, or idle. -/
def Dev.cycleSlots (d : Dev) : List SlotUse × List SlotUse :=
  if throttled d.pur.level d.pur.cyc then ([emptySlot 0x010, emptySlot 0x010], d.pmu.slots)
  else if d.switchBusy .core then ([emptySlot 0x011, emptySlot 0x011], d.pmu.slots)
  else
    let used := d.pmu.slots.take 2
    (used ++ List.replicate (2 - used.length) (emptySlot d.idleCode), d.pmu.slots.drop 2)

/-- Shared write-buffer entries in use. -/
def Dev.sharedUsed (d : Dev) : Nat := (d.wbf.ents.filter (fun e => e.rsv.isNone && e.placed)).length

/-- A port that is ACTIVE has a message waiting for which it holds no send credit (log entry 113). -/
def Port.noCredit (p : Port) : Bool := p.st == 3 && p.txq.any (fun m => p.credit (msgClass m) == 0)

/-- The value of an event code in this core cycle (Table EVT-10). -/
def Dev.eventValue (d : Dev) (slots : List SlotUse) (code : Nat) : Nat :=
  let n (p : SlotUse → Bool) := (slots.filter p).length
  if code = 0x000 then 1
  else if code = 0x003 then 2
  else if code = 0x005 then n (fun u => 0x016 ≤ u.code && u.code ≤ 0x018)
  else if code = 0x007 then n (fun u => 0x010 ≤ u.code && u.code ≤ 0x015)
  else if code = 0x004 ∨ code = 0x006 ∨ (0x010 ≤ code ∧ code ≤ 0x018) then n (fun u => u.code == code)
  else if code = 0x00E then (d.wbf.ents.filter (·.placed)).length
  else if code = 0x00F then
    (if d.sharedUsed + 32 * d.get R.WBF_CFG.PORT_RSV ≥ 1024 then 1 else 0)
  else if code = 0x01C then d.cnf.txns.length + d.cnf.tickets.length
  else if code = 0x01F then (d.cnf.txns.filter (fun t => !t.held.isEmpty)).length
  else if code = 0x027 then (if d.tw.st == 3 && d.tw.cReq == 0 then 1 else 0)
  else if code = 0x028 then d.pur.level
  else if 0x100 ≤ code ∧ code < 0x200 ∧ code % 8 = 6 then (if (d.port ((code - 0x100) / 8)).noCredit then 1 else 0)
  else if 0x100 ≤ code ∧ code < 0x200 ∧ code % 8 = 7 then (if (d.port ((code - 0x100) / 8)).st == 4 then 1 else 0)
  else if 0x200 ≤ code ∧ code < 0x240 ∧ code % 8 = 2 then (d.mp ((code - 0x200) / 8)).reads.length
  else if 0x200 ≤ code ∧ code < 0x240 ∧ code % 8 = 7 then (if (d.mp ((code - 0x200) / 8)).st == 3 then 0 else 1)
  else if 0x240 ≤ code ∧ code < 0x2D0 ∧ code % 8 = 7 then (if (d.lane ((code - 0x240) / 8)).st == 4 then 1 else 0)
  else (bankGet d.pmu.ev code).getD 0

/-- Adds to a counter pair; a pass beyond all ones wraps or saturates and is reported by COUNTER_WRAP (R546). -/
def Dev.count (d : Dev) (fixed : Bool) (n lo v : Nat) (sat : Bool) : Dev :=
  if v = 0 then d
  else
    let x := d.get64 lo + v
    if x < 2 ^ 64 then d.set64 lo x
    else ({ d with pmu := { d.pmu with wraps := d.pmu.wraps.erase (fixed, n) ++ [(fixed, n)] } }).set64 lo
      (if sat then 2 ^ 64 - 1 else x)

/-- Counts one core cycle in the fixed and the programmable counters (R543, R545). -/
def Dev.countCycle (d : Dev) (slots : List SlotUse) : Dev :=
  if d.frozen then d
  else
    let en := d.get R.PMU_FIX_CFG.EN
    let sat := d.get R.PMU_FIX_CFG.SAT
    let v := d.eventValue slots
    let prev := d.pmu.prev
    let d := (List.range 8).foldl
      (fun d f => if en.testBit f then d.count true f (R.PMU_FIXf_LO.CNT_LO f).ofs (v f) (sat.testBit f) else d) d
    (List.range 64).foldl
      (fun d n =>
        let sel := (d.raw0 (R.PMU_SELn.EVENT n).ofs).toNat
        if sel.testBit 12 then
          let c := sel % 1024
          let x := if sel.testBit 13 then (if v c != 0 && !prev.contains c then 1 else 0) else v c
          d.count false n (R.PMU_CTRn_LO.CNT_LO n).ofs x (sel.testBit 14)
        else d) d

/-- The selected codes whose value is not 0 in this cycle (R545). -/
def Dev.liveCodes (d : Dev) (slots : List SlotUse) : List Nat :=
  ((List.range 64).map (fun n => (d.raw0 (R.PMU_SELn.EVENT n).ofs).toNat % 1024)).filter
    (fun c => d.eventValue slots c != 0)

/-- What every core cycle counts: its slots, the purser's throttled cycles, and the counters (R442, R543). -/
def Dev.tally (d : Dev) : Dev :=
  let sl := d.cycleSlots
  let thr := throttled d.pur.level d.pur.cyc
  let live := d.liveCodes sl.1
  let d := d.countCycle sl.1
  let d := if thr then d.bump64 R.PUR_THR_CNT_LO.THR_LO.ofs 1 else d
  { d with pmu := { d.pmu with ev := [], prev := live, slots := sl.2, last := sl.1 },
           pur := { d.pur with cyc := (d.pur.cyc + 1) % 16 } }

end Sys2Proof.Machine
end

