-- ==== Sys2Proof/Machine/Refresh.lean ====
section
/-! DEFINITION. Refresh, calibration, polling and self-refresh of a lane's ranks: operations that several commands share
(R306 to R312). -/

namespace Sys2Proof.Machine

/-- The ranks of a lane, in order. -/
def Dev.ranksOf (d : Dev) (n : Nat) : List Nat := List.range (d.laneRanks n)

/-- A command to each rank of a lane. -/
def Dev.eachRank (d : Dev) (n : Nat) (cmd : String) (arg : Nat) : Dev :=
  (d.ranksOf n).foldl (fun d r => d.emit (.laneCmd n r cmd arg)) d

/-- ZQ calibration of each rank of a lane (R310). -/
def Dev.zqLane (d : Dev) (n : Nat) : Dev := d.eachRank n "ZQCAL" 0

/-! ## Refresh (R306, R307) -/

/-- Postponed refreshes of a rank. -/
def Lane.post (l : Lane) (rank : Nat) : Nat := if rank = 0 then l.post0 else l.post1

/-- Sets them. -/
def Lane.setPost (l : Lane) (rank v : Nat) : Lane := if rank = 0 then { l with post0 := v } else { l with post1 := v }

/-- The class of a rank: 0 1x, 1 2x, 2 beyond. -/
def Lane.temp (l : Lane) (rank : Nat) : Nat := if rank = 0 then l.temp0 else l.temp1

/-- The interval to a rank's next refresh. -/
def Lane.setDue (l : Lane) (rank v : Nat) : Lane := if rank = 0 then { l with due0 := v } else { l with due1 := v }

/-- The refresh interval of a rank in tCK: TREFI at 1x, half of it above; in fine-granularity mode refreshes come at half
intervals (R306, R309). -/
def Dev.refreshEvery (d : Dev) (n rank : Nat) : Nat :=
  let t := d.get R.DSC_TIM4.TREFI
  let t := if (d.lane n).temp rank = 0 then t else t / 2
  if d.flag R.DSC_CFG.REF_MODE then t / 2 else t

/-- The next refresh of a rank is due after its interval. -/
def Dev.armRefresh (d : Dev) (n rank : Nat) : Dev := d.setLane n ((d.lane n).setDue rank (d.refreshEvery n rank))

/-- The owner of a refresh-burst token. -/
def refreshOwner (n rank : Nat) : Nat := 2 * n + rank

/-- One refresh of a rank: REFab; in fine-granularity mode REFsb for banks 0 to 3 in turn. The banks refreshed are relieved
of the activates of one threshold (R306, R308; log entry 80). -/
def Dev.refreshOnce (d : Dev) (n rank : Nat) : Dev :=
  let d :=
    if d.flag R.DSC_CFG.REF_MODE then
      ([0, 1, 2, 3].foldl (fun d b => d.emit (.laneCmd n rank "REFsb" b)) d).pmu1 (0x243 + 8 * n) 4
    else (d.emit (.laneCmd n rank "REFab" 0)).pmu1 (0x243 + 8 * n)
  d.easeActs n (d.lane n).rfmAt (fun k => k / 32 == rank)

/-- k refreshes of a rank. -/
def Dev.issueRefresh (n rank : Nat) : Nat → Dev → Dev
  | 0, d => d
  | k + 1, d => Dev.issueRefresh n rank k (d.refreshOnce n rank)

/-- The postponed refreshes of a rank are issued; its token is returned (R307). -/
def Dev.burstRefresh (d : Dev) (n rank : Nat) : Dev :=
  let d := Dev.issueRefresh n rank ((d.lane n).post rank) d
  (d.setLane n ((d.lane n).setPost rank 0)).returnToken 0 (refreshOwner n rank)

/-! ## Self-refresh (R311, R312) -/

/-- A rank enters self-refresh: every postponed refresh, then SRE. -/
def Dev.rankSleeps (n : Nat) (d : Dev) (rank : Nat) : Dev :=
  let d := if (d.lane n).post rank = 0 then d else d.burstRefresh n rank
  d.emit (.laneCmd n rank "SRE" 0)

/-- A ready lane enters self-refresh: it is no longer refreshed or polled (R311). -/
def Dev.laneSleeps (d : Dev) (n : Nat) : Dev :=
  if (d.lane n).st = 3 then
    let d := (d.ranksOf n).foldl (Dev.rankSleeps n) d
    d.setLane n { d.lane n with st := 4, live := false, due0 := 0, due1 := 0 }
  else d

/-- Refresh and temperature polling of a lane run (R301, R312). -/
def Dev.laneLives (d : Dev) (n : Nat) : Dev :=
  let d := d.setLane n { d.lane n with live := true }
  (d.ranksOf n).foldl (fun d r => d.armRefresh n r) d

/-! ## Header fill (R304, R305) -/

/-- The line slots below one that lie in a bank: bits [7:3] of a slot give its bank (Table DST-4). -/
def slotsBelow (x slot : Nat) : Nat := slot / 256 * 8 + min 8 (slot % 256 - 8 * x)

/-- The line slots from one up to another that lie in a bank of a rank, the bank as bits [7:3] of a slot give it. -/
def Dev.bankSlots (d : Dev) (lane rank x first next : Nat) : Nat :=
  let n := d.laneGb lane * 2 ^ 23
  slotsBelow x (min next ((rank + 1) * n)) - slotsBelow x (max first (rank * n))

/-- A run of writes activates the rows it finds closed, at most one for each write to a bank (R308, R545). -/
def Dev.runActs (d : Dev) (lane first next : Nat) : Dev :=
  let places := (List.range (d.laneRanks lane)).flatMap (fun r => (List.range 32).map (fun x => (r, x)))
  let r := d.takeFree
  places.foldl (fun d p =>
    let n := min (Config.rowsOpened r.1 (bankAt p.1 p.2)) (d.bankSlots lane p.1 p.2 first next)
    if n = 0 then d
    else
      let d := d.pmu1 (0x242 + 8 * lane) n
      let l := d.lane lane
      let b := bankAt p.1 (4 * (p.2 % 8) + p.2 / 8)
      if l.rfm then d.setLane lane { l with acts := setActs l.acts b (actsAt l.acts b + n) } else d) r.2

/-- The fill goes on up to an index: both header lanes take zero headers in ascending order. The first of these writes to a
lane may take the flip mask (R304, R357); the others are one bulk write (log entry 81). -/
def Dev.fillTo (d : Dev) (next : Nat) : Dev :=
  let first := d.dsc.fillProg
  if next ≤ first then d
  else
    let d := { d with store := d.store.filter (fun e => !(slotKey 16 first ≤ e.1 && e.1 < slotKey 16 next) &&
                        !(slotKey 17 first ≤ e.1 && e.1 < slotKey 17 next)),
                      dsc := { d.dsc with fillProg := next } }
    let d := (d.laneWrite 16 first 0 false).laneWrite 17 first 0 false
    let more := next - first - 1
    let d := ((d.pmu1 0x2C1 more).pmu1 0x2C9 more).pmu1 0x02C (2 * more)
    let d := (d.runActs 16 (first + 1) next).runActs 17 (first + 1) next
    d.emit (.headerFill (first + 1) next)

/-- A core cycle of the fill writes as many headers as the lanes take in it, all but the last, which FILL_DONE reports
(R304; log entry 81). -/
def Dev.fillStep (d : Dev) : Dev :=
  if d.dsc.filling then
    let r := d.takeFree
    r.2.fillTo (d.dsc.fillProg + min (Config.fillRate r.1) (d.sets / 2 - 1 - d.dsc.fillProg))
  else d

end Sys2Proof.Machine
end

