-- ==== Sys2Proof/Machine/WakeFail.lean ====
section
/-! DEFINITION. Recovery on AON and the time-outs of the steps of a wake (R52, R450, R451). -/

namespace Sys2Proof.Machine

/-! ## Recovery on AON and wake-step timeouts (R450, R451) -/

/-- What survives the loss of every domain but AON: AON blocks, and the contents of the SDRAM. -/
def Dev.aonOnly (d : Dev) : Dev :=
  { gcr := d.gcr, regs := d.regs.filter (fun e => e.1 < 0x7000), accC := d.accC, clk := d.clk, bel := d.bel,
    pwr := { d.pwr with on := 1, step := none, nextTarget := none,
                        doze := none, tries := [], railEn := d.pwr.railEn, waking := 0 },
    pur := { d.pur with tokens := [], waiting := [] }, chn := d.chn, cfg := d.cfg, store := d.store, sent := d.sent,
    free := d.free }

/-- Every PLL but PLL_AON and PLL_BELL stops with its domain (R422, R451). -/
def Dev.stopPlls (d : Dev) : Dev :=
  [3, 4, 5, 7, 8, 9, 10, 11, 12, 13, 14, 15, 16, 17, 18].foldl Dev.stopPll d

/-- The changed headers of the header lanes that can still be reached go there, before these enter self-refresh (R52). -/
def Dev.flushReady (d : Dev) : Dev :=
  (d.hdc.ents.filter (fun e => e.changed && (d.lane (headerLoc e.set).1).st == 3)).foldl Dev.cleanHeader d

/-- The sequence that ends in Recovery: header lanes flushed, lanes in self-refresh, pads clamped or latched, every
domain but AON off, FAULT_N, a chain event (R424, R425, R451). -/
def Dev.recoverAon (d : Dev) : Dev :=
  let d := d.flushReady
  let d := { d with pur := { d.pur with tokens := [], waiting := [] } }
  let d := (List.range 18).foldl Dev.laneSleeps d
  let d := ([5, 6, 7, 8, 9, 19].filter d.domOn).foldl Dev.clampDom d
  let d := ((List.range 21).filter (fun k => k != 0 && d.domOn k)).foldl Dev.latchPads d
  ((d.outFalls (d.aonOnly.stopPlls)).toMode .recovery).faultN.oweFrame 0

/-- Attempts of a wake step that have timed out. -/
def Dev.wakeTries (d : Dev) (step unit : Nat) : Nat :=
  match d.pwr.tries.find? (fun e => e.1 == step && e.2.1 == unit) with
  | some e => e.2.2
  | none => 0

/-- What a repeat of a step does (Table PWR-8). A switch opened and closed again, and a PLL reset and started again, leave
the domain as it was: on, reset and held, or its PLL still to lock. -/
def Dev.wakeRepeat (d : Dev) (step dom : Nat) : Dev :=
  if step = 1 then d.voutCommand ((d.pwr.step.map (·.goalV)).getD d.pwr.vpt)
  else if step = 4 then (d.driveRail (dom - 5) false).driveRail (dom - 5) true
  else d

/-- A wake step times out: recorded and repeated up to 3 times, then Recovery on AON (R450, R451). -/
def Dev.wakeTimeout (d : Dev) (step dom unit : Nat) : Dev :=
  let n := d.wakeTries step unit
  let d := (((d.set R.PWR_WAKE_FAIL.DOM dom).set R.PWR_WAKE_FAIL.STEP step).set R.PWR_WAKE_FAIL.TRIES n).raise
    R.PWR_EVT.WAKE_TO
  if 3 ≤ n then d.recoverAon
  else
    let d := d.wakeDone step unit
    ({ d with pwr := { d.pwr with tries := d.pwr.tries ++ [(step, unit, n + 1)] } }).wakeRepeat step dom

/-- A PLL has not locked within 100 µs: PLL_TIMEOUT, and the time-out of a wake step (R398). -/
def Dev.pllTimedOut (d : Dev) (k : Nat) : Dev := (d.raise R.CLK_EVT.PLL_TIMEOUT).wakeTimeout 3 (pllDomain k) k

end Sys2Proof.Machine
end

