-- ==== Sys2Proof/Machine/Clocks.lean ====
section
/-! DEFINITION. Clocks and the bell: the commands of R397 to R419. -/

namespace Sys2Proof.Machine

/-! ## Crystal and PLLs -/

/-- The crystal is measured good: READY.XTAL, and REF switches to it (R400, start-up step 2). -/
def crystalReady (d : Dev) : Dev :=
  if d.srcReady 1 || d.clk.xtalFail || d.clk.fail.getLsbD 1 then d
  else (d.setSource 1 true false).startSwitch .ref 1

/-- CRYSTAL_READY. -/
def execCrystalReady (s : State) : Host.Outcome State Fault Refusal := onDev s crystalReady

/-- 50 ms pass without the crystal: REF stays on RCO / 2, PLL_AON starts, a chain event is sent (R401, R529). -/
def xtalFail (d : Dev) : Dev :=
  if d.srcReady 1 || d.clk.xtalFail || d.clk.fail.getLsbD 1 then d
  else ((({ d with clk := { d.clk with xtalFail := true } }).raise R.CLK_EVT.XTAL_FAIL).oweFrame 2).startPll 2

/-- XTAL_FAIL. -/
def execXtalFail (s : State) : Host.Outcome State Fault Refusal := onDev s xtalFail

/-- XTAL_RETRY clears XTAL_FAIL and repeats crystal start-up; no effect unless XTAL_FAIL is 1 (R401). -/
def xtalRetry (d : Dev) : Dev := { d with clk := { d.clk with xtalFail := false } }

/-- XTAL_RETRY. -/
def execXtalRetry (src : Src) (s : State) : Host.Outcome State Fault Refusal :=
  onDev s (fun d => d.write src R.CLK_CMD.XTAL_RETRY.ofs xtalRetry)

/-- The PLLs that take REF, PLL_AON apart (Table CLK-1). -/
def refPlls : List Nat := [3, 4, 5, 7, 8, 9, 10, 11, 12, 13, 14, 15, 16, 17, 18]

/-- The crystal is lost: REF goes to RCO / 2, PLL_AON relocks, the other PLLs of REF coast, Recovery (R402). -/
def xtalLost (d : Dev) : Dev :=
  if !d.srcReady 1 then d
  else
    let d := (d.setSource 1 false true).raise R.CLK_EVT.XTAL_LOST
    let d := { d with clk := { d.clk with switching := d.otherSwitches .ref ++ [(Selector.ref, 0)] } }
    let d := (d.setSource 2 false false).startPll 2
    (refPlls.foldl Dev.coast d).enterRecovery

/-- XTAL_LOST. -/
def execXtalLost (s : State) : Host.Outcome State Fault Refusal := onDev s xtalLost

/-- PLL_BELL locks to BELL_CLK: the counter starts counting (R410). -/
def bellLock (d : Dev) : Dev :=
  if d.bel.locked then d
  else
    let d := (d.setSource 6 true false).wakeDone 3 6
    { d with bel := { d.bel with locked := true, run := true } }

/-- BELL_LOCK. -/
def execBellLock (s : State) : Host.Outcome State Fault Refusal := onDev s bellLock

/-- The device takes an address; ADDR_CHANGED when it had another (R484). -/
def Dev.takeAddr (d : Dev) (a : Nat) : Dev :=
  ({ d with chn := { d.chn with addr := a } }).raiseIf (d.addr != 0 && d.addr != a) R.CHN_EVT.ADDR_CHANGED

/-- The head takes address 1 and sends ENUM with COUNT 1; the manual names no destination for ENUM, and the frame's is a
free value (R483; log entry 8). -/
def Dev.startRollCall (d : Dev) : Dev :=
  let dst := (Config.freeWord d.free).toNat % 64
  ({ d with free := d.free + 1 }.takeAddr 1).chainSend dst 1 .roll (.enum 1 false)

/-- PLL_AON locks in Boot: the chain can be used, and the head sends its roll call (R484, step 3 of Boot). -/
def Dev.chainUsable (d : Dev) : Dev := if d.gcr.mode == .boot && d.chn.head then d.startRollCall else d

/-- A started PLL locks: its READY bit is set, a core PLL takes CORE along (R398, R433), PLL_AON the chain, and PLL_MEM a
wake from Doze (R448). -/
def pllLock (k : Nat) (d : Dev) : Dev :=
  if k = 6 then bellLock d
  else if !d.clk.starting.contains k then d
  else
    let d := { d with clk := { d.clk with starting := d.clk.starting.filter (· != k) } }
    let d := (d.setSource k true false).wakeDone 3 k
    if k = 3 ∨ k = 4 then d.dvfsLocked k else if k = 2 then d.chainUsable else if k = 5 then d.wakeLocked else d

/-- PLL_LOCK. -/
def execPllLock (k : Nat) (s : State) : Host.Outcome State Fault Refusal := onDev s (pllLock k)

/-- A started PLL has not locked within 100 µs: PLL_TIMEOUT, handled as a wake-step timeout (R398, R450). -/
def pllTimeout (k : Nat) (d : Dev) : Dev :=
  if !(d.clk.starting.contains k || (k == 6 && !d.bel.locked)) then d
  else d.pllTimedOut k

/-- PLL_TIMEOUT. -/
def execPllTimeout (k : Nat) (s : State) : Host.Outcome State Fault Refusal := onDev s (pllTimeout k)

/-- PLL_BELL loses lock: the counter keeps counting, LOCKED and ALIGNED read 0, a record is placed, and entries whose
first flit has not started are cancelled (R416, R399). -/
def bellLost (d : Dev) : Dev :=
  if !d.bel.locked then d
  else
    let d := (d.setSource 6 false true).raise R.CLK_EVT.PLL_FAIL
    let d := { d with bel := { d.bel with locked := false, aligned := false, was := false } }
    let d := d.report R.BEL_EVT.BELL_LOST 0 0 d.bel.now.toNat 0
    d.cancelUnstarted

/-- BELL_LOST. -/
def execBellLost (s : State) : Host.Outcome State Fault Refusal := onDev s bellLost

/-- A PLL's reference fails: it coasts (R399). -/
def pllFail (k : Nat) (d : Dev) : Dev := if k = 6 then bellLost d else d.coast k

/-- PLL_FAIL. -/
def execPllFail (k : Nat) (s : State) : Host.Outcome State Fault Refusal := onDev s (pllFail k)

/-- A coasting PLL relocks by itself once its reference is back (R399); REF from a lost crystal is not back. -/
def pllRelock (k : Nat) (d : Dev) : Dev :=
  if k = 6 then bellLock d
  else if d.clk.fail.getLsbD k && (d.srcReady 1 || k == 2) then d.setSource k true false else d

/-- PLL_RELOCK. -/
def execPllRelock (k : Nat) (s : State) : Host.Outcome State Fault Refusal := onDev s (pllRelock k)

/-! ## Switches and gates -/

/-- The host port is brought up once REF is the crystal's: its SerDes takes a token, which starts PLL_HST (R439; log entry
89). -/
def Dev.hostStarts (d : Dev) : Dev := if d.domOn 20 && !d.hst.up then d.askToken 2 hstOwner else d

/-- A switch completes: the selector takes its target; the old core PLL stops; REF settled starts PLL_AON, and with
XTAL also PLL_CORE0 and the host port (R407, start-up steps 4 and 5). -/
def Dev.finishSwitch (d : Dev) (sel : Selector) (t : Nat) : Dev :=
  let d := { d with clk := { d.clk with switching := d.otherSwitches sel } }
  match sel with
  | .ref =>
    let d := ({ d with clk := { d.clk with refXtal := t == 1 } }).startPll 2
    if t = 1 ∧ d.clk.coreSrc = 0 then (d.startPll 3).hostStarts else d
  | .core =>
    let old := d.clk.coreSrc
    let d := { d with clk := { d.clk with coreSrc := t } }
    if old = 0 then d.dvfsStarted else (d.stopPll (2 + old)).dvfsSwitched
  | .out => d.outFalls { d with clk := { d.clk with outNow := t } }
  | .meas => { d with clk := { d.clk with measNow := t } }

/-- The code of the clock domain that a selector of CLK_OUT or of the measurement is switched to. -/
def Dev.oldCode (d : Dev) (sel : Selector) : Option Nat :=
  match sel with | .ref => some 1 | .core => none | .out => some d.clk.outNow | .meas => some d.clk.measNow

/-- The clock being switched away from has stopped; no source of CORE does (R409). -/
def Dev.oldStopped (d : Dev) (sel : Selector) : Bool :=
  match d.oldCode sel with | some c => d.clockStopped c | none => false

/-- The target of a switch in progress. -/
def Dev.switchTarget (d : Dev) (sel : Selector) : Option Nat :=
  (d.clk.switching.find? (fun e => e.1 = sel)).map (·.2)

/-- A switch in progress completes within 4 cycles of each clock (R407); away from a stopped clock it waits (R409). -/
def clockSwitch (sel : Selector) (d : Dev) : Dev :=
  match d.switchTarget sel with
  | some t => if d.oldStopped sel then d else d.finishSwitch sel t
  | none => d

/-- CLOCK_SWITCH. -/
def execClockSwitch (sel : Selector) (s : State) : Host.Outcome State Fault Refusal := onDev s (clockSwitch sel)

/-- The CLK_FORCED bit of a selector. -/
def forcedBit : Selector → FieldRef
  | .ref => R.CLK_FORCED.REF | .core => R.CLK_FORCED.CORE | .out => R.CLK_FORCED.OUT | .meas => R.CLK_FORCED.MEAS

/-- A switch away from a stopped clock completes after 64 RCO cycles; TCK may have stopped at any time (R409). -/
def forced (sel : Selector) (d : Dev) : Dev :=
  match d.switchTarget sel with
  | some t =>
    if d.oldStopped sel || d.oldCode sel == some 23 then ((d.finishSwitch sel t).set (forcedBit sel) 1).raise R.CLK_EVT.FORCED
    else d
  | none => d

/-- FORCED. -/
def execForced (sel : Selector) (s : State) : Host.Outcome State Fault Refusal := onDev s (forced sel)

/-- The port is enabled or draining. -/
def Dev.portBusy (d : Dev) (n : Nat) : Bool := d.flag (portEN n) || (d.port n).draining

/-- A domain whose ports carry traffic: bit b of CLK_FORCE.GATE may not be set (R405). -/
def Dev.gateInUse (d : Dev) (b : Nat) : Bool :=
  if b < 8 then (List.range 4).any (fun i => d.portBusy (4 * b + i))
  else if b < 10 then bits (d.get R.AMP_MEM_CFG.PORT_EN) (4 * (b - 8) + 3) (4 * (b - 8)) != 0
  else d.flag R.TWN_CFG.EN

/-- One bit of a write to CLK_FORCE.GATE (R405, R406). -/
def Dev.gateBit (v : BitVec 11) (d : Dev) (b : Nat) : Dev :=
  if !v.getLsbD b then
    { d with clk := { d.clk with gate := putBit d.clk.gate b false, closed := putBit d.clk.closed b false } }
  else if d.clk.gate.getLsbD b then d
  else if d.gateInUse b then d.raise R.CLK_EVT.GATE_REFUSED
  else { d with clk := { d.clk with gate := putBit d.clk.gate b true } }

/-- A write to CLK_FORCE.GATE requests and releases forced gates. -/
def clkForceGate (v : BitVec 11) (d : Dev) : Dev := (List.range 11).foldl (Dev.gateBit v) d

/-- CLK_FORCE_GATE. -/
def execClkForceGate (src : Src) (gate : BitVec 11) (s : State) : Host.Outcome State Fault Refusal :=
  onDev s (fun d => d.write src R.CLK_FORCE.GATE.ofs (clkForceGate gate))

/-- An accepted gate closes once no bus access to its pages is pending (R406). -/
def gateClose (b : Nat) (d : Dev) : Dev :=
  if b < 11 ∧ d.clk.gate.getLsbD b then d.outFalls { d with clk := { d.clk with closed := putBit d.clk.closed b true } } else d

/-- GATE_CLOSE. -/
def execGateClose (bit : Nat) (s : State) : Host.Outcome State Fault Refusal := onDev s (gateClose bit)

/-! ## CLK_OUT and the measurement -/

/-- DDR5 data rate in MT/s (Table DST-7). -/
def Dev.rateMT (d : Dev) : Nat := ([4800, 5600, 6400, 7200, 8000][d.get R.DSC_CFG.SPEED]?).getD 0

/-- Core frequency of a point in MHz (Table PWR-4). -/
def pointMHz (p : Nat) : Nat := ([2000, 1600, 1200, 600][p]?).getD 0

/-- A clock domain's stated frequency in MHz (Tables CLK-1, CLK-2). TCK is a pin: 0. -/
def Dev.domainMHz (d : Dev) (code : Nat) : Nat :=
  if code = 0 then 50
  else if code = 1 then 25
  else if code = 2 then 250
  else if code = 3 then 1000
  else if code = 4 then (if d.clk.coreSrc = 0 then 50 else pointMHz d.pwr.fpt)
  else if code = 5 then d.rateMT / 8
  else if code ≤ 10 then d.rateMT / 2
  else if code ≤ 18 then
    (if (List.range 4).all (fun i => (d.port (4 * (code - 11) + i)).rate == 1) then 500 else 1000)
  else if code ≤ 20 then (if (List.range 4).all (fun i => (d.mp (4 * (code - 19) + i)).slow) then 500 else 1000)
  else if code = 21 then (if d.tw.rate = 1 then 500 else 1000)
  else if code = 22 then (if d.hst.rate = 4 then 500 else 1000)
  else if code = 24 then 100
  else 0

/-- A write to CLK_OUT_CFG is accepted: a code of the table, at most 250 MHz, a running source (R418, R408). -/
def Dev.clkOutOk (d : Dev) (sel div : Nat) : Bool :=
  (sel ≤ 25 || sel == 31) && (25 ≤ sel || d.domainMHz sel ≤ 250 * (div + 1)) && d.switchOk .out sel

/-- A write to CLK_OUT_CFG selects and divides the source of CLK_OUT, or is refused and keeps its value (R418). -/
def clkOutCfgWrite (v : Word) (d : Dev) : Dev :=
  let sel := bits v.toNat 4 0
  let div := bits v.toNat 17 8
  if d.clkOutOk sel div then
    let change := sel != d.get R.CLK_OUT_CFG.SEL
    let d := (d.set R.CLK_OUT_CFG.SEL sel).set R.CLK_OUT_CFG.DIV_M1 div
    if change then d.startSwitch .out sel else d
  else d.raise R.CLK_EVT.OUT_REFUSED

/-- CLK_OUT_CFG_WRITE. -/
def execClkOutCfgWrite (src : Src) (v : Word) (s : State) : Host.Outcome State Fault Refusal :=
  onDev s (fun d => d.write src R.CLK_OUT_CFG.SEL.ofs (clkOutCfgWrite v))

/-- GO starts a 1 ms count of the domain SEL names; during a measurement it has no effect, and a switch to a source that
does not run is refused (R419, R408). SEL itself is RW. -/
def clkMeasGo (sel : Nat) (d : Dev) : Dev :=
  let d := d.set R.CLK_MEAS_CTRL.SEL sel
  if d.clk.measuring then d
  else if sel ≤ 24 ∧ d.switchOk .meas sel then
    let d := d.set R.CLK_MEAS.DONE 0
    ({ d with clk := { d.clk with measuring := true } }).startSwitch .meas sel
  else d.raise R.CLK_EVT.SWITCH_REFUSED

/-- CLK_MEAS_GO. -/
def execClkMeasGo (src : Src) (sel : Nat) (s : State) : Host.Outcome State Fault Refusal :=
  onDev s (fun d => d.write src R.CLK_MEAS_CTRL.GO.ofs (clkMeasGo sel))

/-- The 1 ms count ends: the result, DONE and MEAS_DONE (R419). -/
def measDone (khz : Nat) (d : Dev) : Dev :=
  if !d.clk.measuring then d
  else
    let d := { d with clk := { d.clk with measuring := false,
                                          switching := d.otherSwitches .meas } }
    ((d.set R.CLK_MEAS.KHZ khz).set R.CLK_MEAS.DONE 1).raise R.CLK_EVT.MEAS_DONE

/-- MEAS_DONE. -/
def execMeasDone (khz : Nat) (s : State) : Host.Outcome State Fault Refusal := onDev s (measDone khz)

/-! ## The bell -/

/-- DISARM ends an armed alignment without loading; ALIGNED takes its value from before (R412). -/
def belDisarm (d : Dev) : Dev :=
  if d.bel.armed then { d with bel := { d.bel with armed := false, aligned := d.bel.was } } else d

/-- BEL_DISARM. -/
def execBelDisarm (src : Src) (s : State) : Host.Outcome State Fault Refusal :=
  onDev s (fun d => d.write src R.BEL_CTRL.DISARM.ofs belDisarm)

/-- ARM arms an alignment; refused with LOCKED 0, ARMED 1 or a pending departure (R412). -/
def belArm (d : Dev) : Dev :=
  if !d.bel.locked || d.bel.armed || d.pendingDeps != 0 then d.raise R.BEL_EVT.ARM_REFUSED
  else { d with bel := { d.bel with armed := true, was := d.bel.aligned, aligned := false } }

/-- BEL_ARM. -/
def execBelArm (src : Src) (s : State) : Host.Outcome State Fault Refusal :=
  onDev s (fun d => d.write src R.BEL_CTRL.ARM.ofs belArm)

/-- BEL_LOAD + BEL_TRIM.COARSE, COARSE signed (R411). -/
def Dev.belLoad (d : Dev) : BitVec 64 :=
  BitVec.ofNat 64 (d.get64 R.BEL_LOAD_LO.LOAD_LO.ofs) + (BitVec.ofNat 8 (d.get R.BEL_TRIM.COARSE)).signExtend 64

/-- A rising BELL_SYNC edge: an armed alignment loads the counter; the counter is captured (R411, R413). -/
def syncSeen (d : Dev) : Dev :=
  let d :=
    if d.bel.armed then
      ({ d with bel := { d.bel with now := d.belLoad, armed := false, aligned := true } }).raise
        R.BEL_EVT.ALIGNED
    else d
  (d.set64 R.BEL_SYNC_CAP_LO.CAP_LO.ofs d.bel.now.toNat).raise R.BEL_EVT.SYNC_SEEN

/-- SYNC_SEEN. -/
def execSyncSeen (s : State) : Host.Outcome State Fault Refusal := onDev s syncSeen

/-- The bell has reached BEL_MARK. -/
def Dev.markReached (d : Dev) : Bool := d.get64 R.BEL_MARK_LO.MARK_LO.ofs ≤ d.bel.now.toNat

/-- CLK_OUT rises and, 8 ns later, falls; the mark is disarmed and MARK_DONE raised (R417). Where SEL has left 25 meanwhile,
CLK_OUT carries what SEL names, and the mark is not seen there (R418, log entry 109). -/
def Dev.fireMark (d : Dev) : Dev :=
  let d := { d with bel := { d.bel with markArmed := false } }
  let d := if d.get R.CLK_OUT_CFG.SEL = 25 then (d.emit (.pin "CLK_OUT" true)).emit (.pin "CLK_OUT" false) else d
  d.raise R.BEL_EVT.MARK_DONE

/-- MARK_ARM arms a mark with CLK_OUT_CFG.SEL at 25; a time already past fires at once (R417). -/
def markArm (d : Dev) : Dev :=
  if d.get R.CLK_OUT_CFG.SEL ≠ 25 then d
  else
    let d := { d with bel := { d.bel with markArmed := true } }
    if d.get64 R.BEL_MARK_LO.MARK_LO.ofs < d.bel.now.toNat then d.fireMark else d

/-- MARK_ARM. -/
def execMarkArm (src : Src) (s : State) : Host.Outcome State Fault Refusal :=
  onDev s (fun d => d.write src R.BEL_CTRL.MARK_ARM.ofs markArm)

/-- The counter reaches BEL_MARK. -/
def markDone (d : Dev) : Dev := if d.bel.markArmed && d.markReached then d.fireMark else d

/-- MARK_DONE. -/
def execMarkDone (s : State) : Host.Outcome State Fault Refusal := onDev s markDone

/-- One BEL cycle: the counter counts from the first lock on, coasting included (R410). -/
def bellTick (d : Dev) : Dev :=
  if d.bel.run then
    ({ d with bel := { d.bel with now := d.bel.now + 1, ticks := d.bel.ticks + 1 } }).pmu1 0x001
  else d

/-- BELL_TICK. -/
def execBellTick (s : State) : Host.Outcome State Fault Refusal := onDev s bellTick

end Sys2Proof.Machine
end

