-- ==== Sys2Proof/Machine/Power.lean ====
section
/-! DEFINITION. Power domains, pads, the core regulator, operating points and the purser: the commands of R420 to R443
and R450. -/

namespace Sys2Proof.Machine

/-! ## Domains and pads -/

/-- The domain of a bit of PWR_DOM_OFF (R421). -/
def offDomain (bit : Nat) : Nat := if bit < 8 then 10 + bit else if bit = 8 then 18 else if bit = 9 then 19 else 4

/-- A domain in use may not be switched off (R421). -/
def Dev.offInUse (d : Dev) (bit : Nat) : Bool :=
  if bit < 8 then (List.range 4).any (fun i => d.flag (portEN (4 * bit + i)) || (d.port (4 * bit + i)).draining)
  else if bit = 8 then d.get R.AMP_MEM_CFG.PORT_EN != 0
  else if bit = 9 then d.flag R.TWN_CFG.EN
  else d.flag depEN || d.pendingDeps != 0

/-- PWR_DOZE_CTRL.ACTIVE. -/
def Dev.dozeActive (d : Dev) : Bool := d.pwr.doze.isSome

/-- A bit of PWR_DOM_OFF. -/
def domOffBit (bit : Nat) : FieldRef := ⟨R.PWR_DOM_OFF.OFF.ofs, bit, bit⟩

/-- A write of 1 to a bit of PWR_DOM_OFF (R421, R449). -/
def domainOff (bit : Nat) (d : Dev) : Dev :=
  if bit ≥ 11 then d
  else if d.dozeActive then d.raise R.PWR_EVT.DOM_REFUSED
  else if d.flag (domOffBit bit) then d
  else if d.offInUse bit then d.raise R.PWR_EVT.DOM_REFUSED
  else (d.set (domOffBit bit) 1).turnOff (offDomain bit)

/-- DOMAIN_OFF. -/
def execDomainOff (src : Src) (bit : Nat) (s : State) : Host.Outcome State Fault Refusal :=
  onDev s (fun d => d.write src R.PWR_DOM_OFF.OFF.ofs (domainOff bit))

/-- A write of 0 to a bit of PWR_DOM_OFF powers the domain on (R421, R422, R449). -/
def domainOn (bit : Nat) (d : Dev) : Dev :=
  if bit ≥ 11 then d
  else if d.dozeActive then d.raise R.PWR_EVT.DOM_REFUSED
  else if !d.flag (domOffBit bit) then d
  else (d.set (domOffBit bit) 0).turnOn (offDomain bit)

/-- DOMAIN_ON. -/
def execDomainOn (src : Src) (bit : Nat) (s : State) : Host.Outcome State Fault Refusal :=
  onDev s (fun d => d.write src R.PWR_DOM_OFF.OFF.ofs (domainOn bit))

/-- A domain's latched pads follow its logic again. -/
def Dev.unlatch (d : Dev) (dom : Nat) : Dev :=
  ({ d with pwr := { d.pwr with latched := d.pwr.latched.filter (fun e => e.1 != dom) } }).emit (.pads dom none)

/-- Releases the latched pads of the domains that are on (R425). -/
def padRelease (rel : BitVec 21) (d : Dev) : Dev :=
  let go := rel &&& d.pwr.on &&& d.pwr.held
  ((List.range 21).filter go.getLsbD).foldl Dev.unlatch { d with pwr := { d.pwr with held := d.pwr.held &&& ~~~ go } }

/-- PAD_RELEASE. -/
def execPadRelease (src : Src) (rel : BitVec 21) (s : State) : Host.Outcome State Fault Refusal :=
  onDev s (fun d => d.write src R.PWR_PAD_RELEASE.REL.ofs (padRelease rel))

/-! ## The core regulator -/

/-- VOUT_MODE is read once after reset, with the first poll: PMB_OK is 1 if it was read and is linear, mode bits 0b000
(R427, R428). -/
def Dev.voutMode (d : Dev) (mode : Option (BitVec 8)) : Dev :=
  if d.pwr.pmbRead then d
  else
    let d := d.pmbus "VOUT_MODE" 0
    match mode with
    | some m =>
      { d with pwr := { d.pwr with pmbRead := true, pmbOk := m.toNat / 32 == 0, voutExp := m.truncate 5 } }
    | none => ({ d with pwr := { d.pwr with pmbRead := true } }).raise R.PWR_EVT.PMB_ERR

/-- Every 1 ms READ_VOUT, as a word, and READ_IOUT, in mA, are read; none: a read failed with every repeat (R427, R428). -/
def pmbusPoll (mode : Option (BitVec 8)) (ans : Option (Nat × Nat)) (d : Dev) : Dev :=
  let d := d.voutMode mode
  match ans with
  | none => d.raise R.PWR_EVT.PMB_ERR
  | some (w, ma) => d.vrRead w ma

/-- PMBUS_POLL. -/
def execPmbusPoll (mode : Option (BitVec 8)) (ans : Option (Nat × Nat)) (s : State) : Host.Outcome State Fault Refusal :=
  onDev s (pmbusPoll mode ans)

/-- PMB_ALERT_N falls: STATUS_WORD is read, VR_ALERT raised and a record placed (R429). -/
def vrAlert (status : Option Nat) (d : Dev) : Dev :=
  let d := d.pmbus "STATUS_WORD" 0
  let d := match status with
    | some w => d.set R.PWR_VR_STATUS.WORD w
    | none => d.raise R.PWR_EVT.PMB_ERR
  d.report R.PWR_EVT.VR_ALERT 0 0 (d.get R.PWR_VR_STATUS.WORD) 0

/-- VR_ALERT. -/
def execVrAlert (status : Option Nat) (s : State) : Host.Outcome State Fault Refusal := onDev s (vrAlert status)

/-- CLEAR sends CLEAR_FAULTS (Table PWR-3). -/
def vrClear (d : Dev) : Dev := d.pmbusWrite "CLEAR_FAULTS" 0

/-- VR_CLEAR. -/
def execVrClear (src : Src) (s : State) : Host.Outcome State Fault Refusal :=
  onDev s (fun d => d.write src R.PWR_VR_CMD.CLEAR.ofs vrClear)

/-- VR_CORE_PG is low for more than 2 µs while CORE is on: Recovery on AON (R430, R451). -/
def vrPgLost (d : Dev) : Dev := if d.coreOn then (d.raise R.PWR_EVT.VR_PG_LOST).recoverAon else d

/-- VR_PG_LOST. -/
def execVrPgLost (s : State) : Host.Outcome State Fault Refusal := onDev s vrPgLost

/-! ## Operating points -/

/-- A step toward a target starts, or waits behind the running one (R433, R435). -/
def Dev.stepTo (d : Dev) (t : Nat) : Dev :=
  if d.pwr.step.isSome then { d with pwr := { d.pwr with nextTarget := some t } }
  else if d.needsVolt t && !d.pwr.pmbOk then d.raise R.PWR_EVT.DVFS_REFUSED
  else (d.dvfsBegin t t true).grantTokens

/-- A write of TARGET starts a step, or waits behind the running one; before the image has been applied, and in Doze until
the wake steps CORE or entry aborts, the value alone is taken (R432, R433, R435, R448). -/
def dvfsTarget (t : Nat) (d : Dev) : Dev :=
  let d := d.set R.PWR_DVFS.TARGET t
  if d.gcr.mode = .boot then d
  else match d.pwr.doze.filter (fun z => !(d.pwr.step.isSome && z.stage == 0)) with
    | some z => if z.waking then d.stepTo t else { d with pwr := { d.pwr with doze := some { z with retarget := true } } }
    | none => d.stepTo t

/-- DVFS_TARGET. -/
def execDvfsTarget (src : Src) (t : Nat) (s : State) : Host.Outcome State Fault Refusal :=
  onDev s (fun d => d.write src R.PWR_DVFS.TARGET.ofs (dvfsTarget t))

/-- FGO moves FPT to FPT_REQ, or is refused (R436). -/
def dvfsFgo (d : Dev) : Dev :=
  let f := d.get R.PWR_DVFS_MAN.FPT_REQ
  if f < d.pwr.vpt ∨ d.pwr.step.isSome ∨ d.dozeActive then d.raise R.PWR_EVT.DVFS_REFUSED
  else (d.dvfsBegin f d.pwr.vpt true).grantTokens

/-- DVFS_FGO. -/
def execDvfsFgo (src : Src) (s : State) : Host.Outcome State Fault Refusal :=
  onDev s (fun d => d.write src R.PWR_DVFS_MAN.FGO.ofs dvfsFgo)

/-- VGO moves VPT to VPT_REQ, or is refused (R436). -/
def dvfsVgo (d : Dev) : Dev :=
  let v := d.get R.PWR_DVFS_MAN.VPT_REQ
  if d.pwr.fpt < v ∨ (d.needsVolt v && !d.pwr.pmbOk) ∨ d.pwr.step.isSome ∨ d.dozeActive then
    d.raise R.PWR_EVT.DVFS_REFUSED
  else (d.dvfsBegin d.pwr.fpt v true).grantTokens

/-- DVFS_VGO. -/
def execDvfsVgo (src : Src) (s : State) : Host.Outcome State Fault Refusal :=
  onDev s (fun d => d.write src R.PWR_DVFS_MAN.VGO.ofs dvfsVgo)

/-- A voltage lies within 2 % of that of a point (R434). -/
def nearPoint (mv p : Nat) : Bool := 98 * pointMv p ≤ 100 * mv && 100 * mv ≤ 102 * pointMv p

/-- The regulator is read after a VOUT_COMMAND; with power-good high, a READ_VOUT within 2 % of the commanded voltage has
reached it (R427, R434). None: a read failed with every repeat (R428). -/
def voltageReached (ans : Option (Nat × Nat)) (d : Dev) : Dev :=
  match d.pwr.step with
  | some st =>
    if st.voltWait then
      match ans with
      | none => d.raise R.PWR_EVT.PMB_ERR
      | some (w, ma) =>
        let d := d.vrRead w ma
        if nearPoint (linearMv d.pwr.voutExp w) st.goalV then d.dvfsVolt else d
    else d
  | none => d

/-- VOLTAGE_REACHED. -/
def execVoltageReached (ans : Option (Nat × Nat)) (s : State) : Host.Outcome State Fault Refusal :=
  onDev s (voltageReached ans)

/-- The step is under way: a voltage change, a domain whose switch has closed and whose pads are still held, or any at
start-up, a PLL lock, a way group's rails (Table PWR-8). -/
def Dev.wakeStep (d : Dev) (step dom : Nat) : Bool :=
  if step = 1 then dom == 1 && (d.pwr.step.map (·.voltWait)).getD false
  else if step = 2 then 1 ≤ dom && dom ≤ 20 && d.domOn dom && (d.padHeld dom || d.gcr.mode == .boot)
  else if step = 3 then d.clk.starting.any (fun k => pllDomain k == dom)
  else if step = 4 then 5 ≤ dom && dom ≤ 8 && d.pwr.railEn.getLsbD (dom - 5) && !d.pwr.railGood.getLsbD (dom - 5)
  else false

/-- What a step is told apart by: the PLL that locks, or the domain. -/
def Dev.wakeUnit (d : Dev) (step dom : Nat) : Nat :=
  if step = 3 then (d.clk.starting.find? (fun k => pllDomain k == dom)).getD dom else dom

/-- A wake step does not report ready within its timeout (R450). -/
def wakeTo (step dom : Nat) (d : Dev) : Dev :=
  if !d.wakeStep step dom then d
  else if step = 3 then d.pllTimedOut (d.wakeUnit step dom)
  else d.wakeTimeout step dom (d.wakeUnit step dom)

/-- WAKE_TO. -/
def execWakeTo (step dom : Nat) (s : State) : Host.Outcome State Fault Refusal := onDev s (wakeTo step dom)

/-! ## The purser -/

/-- Every 1 µs: EST takes its estimate, L steps, tokens are granted (R438, R439, R442). -/
def purserUpdate (d : Dev) : Dev :=
  let sum := d.pur.est + d.heldCost
  let est := (Config.freeEstimate d.free).toNat
  let d := { d with free := d.free + 1, pur := { d.pur with est := est, capNow := d.get R.PUR_CAP.CAP } }
  let new := est + d.heldCost
  let d := d.raiseIf (sum ≤ d.cap && d.cap < new) R.PUR_EVT.CAP_REACHED
  let l := d.pur.level
  let d := if d.cap < new then d.setLevel (min d.tmax (l + 1))
    else if new + d.get R.PUR_CFG.HYST ≤ d.cap then d.setLevel (min d.tmax (l - 1))
    else d.setLevel (min d.tmax l)
  d.grantTokens

/-- PURSER_UPDATE. -/
def execPurserUpdate (s : State) : Host.Outcome State Fault Refusal := onDev s purserUpdate

/-- Every 1 ms the core-rail model is rescaled to READ_VOUT × READ_IOUT (R438). -/
def purserRescale (d : Dev) : Dev := { d with pur := { d.pur with scale := d.get R.PWR_VR_POWER.QW } }

/-- PURSER_RESCALE. -/
def execPurserRescale (s : State) : Host.Outcome State Fault Refusal := onDev s purserRescale

/-- A token's activity ends and its cost leaves HELD (R439). -/
def tokenReturn (kind who : Nat) (d : Dev) : Dev := if d.hasToken kind who then d.returnToken kind who else d

/-- TOKEN_RETURN. -/
def execTokenReturn (kind who : Nat) (s : State) : Host.Outcome State Fault Refusal := onDev s (tokenReturn kind who)

/-- A token of kinds 1 to 4 has waited TOKEN_TO ms: granted whatever the budget; EST + HELD may cross CAP (R438, R440). -/
def overCap (kind who : Nat) (d : Dev) : Dev :=
  if 1 ≤ kind ∧ kind ≤ 4 ∧ d.pur.waiting.contains (kind, who) then
    let before := d.pur.est + d.heldCost
    let d := ((d.giveToken kind who).raise R.PUR_EVT.OVER_CAP).bumpSat R.PUR_OVER_CNT.OVER 1
    d.raiseIf (before ≤ d.cap && d.cap < d.pur.est + d.heldCost) R.PUR_EVT.CAP_REACHED
  else d

/-- OVER_CAP. -/
def execOverCap (kind who : Nat) (s : State) : Host.Outcome State Fault Refusal := onDev s (overCap kind who)

end Sys2Proof.Machine
end

