-- ==== Sys2Proof/Machine/Requests.lean ====
section
/-! DEFINITION. Requests of agents and workers, tickets, answers to snoops, grant Acks and write-backs: the commands of
R90 to R130 and R132 to R159. -/

namespace Sys2Proof

/-- The kind of transaction a request starts. -/
def Body.kind : Body → Kind
  | .rdShared => .rdShared
  | .rdFetch => .rdFetch
  | .rdOwn => .rdOwn
  | .rdOnce _ => .rdOnce
  | .upgrade => .upgrade
  | .wrFull .. => .wrFull
  | .wrPart .. => .wrPart
  | .append .. => .append

/-- The channel of a request that carries one. -/
def Body.channel : Body → Option Nat
  | .rdOnce c => some c
  | .wrFull c _ => some c
  | .wrPart c _ _ => some c
  | _ => none

end Sys2Proof

namespace Sys2Proof.Machine

/-! ## Admission of requests -/

/-- The transaction of a request, before it has an entry. -/
def Dev.txnOf (d : Dev) (r : Req) : Txn :=
  let t : Txn := { id := 0, kind := r.body.kind, org := d.orgOf r.head, tag := r.head.tag, tph := r.head.tph,
                   line := lineOf r.head.addr, phase := .queued }
  match r.body with
  | .rdOnce c => { t with ch := c }
  | .wrFull c p => { t with ch := c, mask := Mask.full, pay := p }
  | .wrPart c m p => { t with ch := c, mask := m, pay := p }
  | .append n len p => { t with line := apdLineNo n, ch := len, pay := p }
  | _ => t

/-- What a ticket records in place of a line address: the line, or an Append's stream (R141, R286). -/
def ticketKey (t : Txn) : Nat := if t.kind = .append then t.line - 2 ^ 41 else t.line

/-- Restricted service answers these types (R453). -/
def Kind.restricted : Kind → Bool
  | .rdFetch | .rdOnce | .wrFull | .wrPart => true
  | _ => false

/-- Requests of the type are served in the mode (R92, R453, R454). -/
def Dev.typeServed (d : Dev) (k : Kind) (port : Nat) : Bool :=
  if d.gcr.mode.serving then true
  else match d.gcr.mode with
    | .train => Kind.restricted k
    | .recovery => Kind.restricted k && d.twn.st != .detached && d.twn.st != .superseded && (d.port port).st == 3
    | _ => false

/-- The channel of a request is halted (R349). -/
def Dev.chanHalted (d : Dev) (r : Req) : Bool :=
  match r.body.channel with
  | some c => (d.get (R.ECC_CHAN_HALTn.HALT r.head.port)).testBit c
  | none => false

/-- A request is refused: Err UNSUP (2), or Err HALT (1) (R35, R92, R171, R202, R349). -/
def Dev.refusal (d : Dev) (r : Req) : Option Nat :=
  let apd : Bool := r.body.kind == .append
  if !d.portServes r.head.port || !d.indexOk r.head || !d.typeServed r.body.kind r.head.port then some 2
  else if !apd && (2 ^ 48 ≤ r.head.addr || (d.gcr.role != .worker && d.sdrBase ≤ r.head.addr)) then some 2
  else if d.chanHalted r then some 1
  else none

/-- A lookup slot of a request (R544). -/
def Dev.reqSlot (d : Dev) (code : Nat) (t : Txn) (port : Nat) : Dev := d.slot ⟨code, port, kindOpc t.kind, t.id, t.line⟩

/-- The live ticket a retry matches in port, tag and line address (R142, R145). -/
def Dev.ticketOf (d : Dev) (r : Req) (t : Txn) : Option Ticket :=
  match r.tkt with
  | some n => d.cnf.tickets.find? (fun x => x.num == n && x.port == r.head.port && x.tag == t.tag &&
      x.key == ticketKey t && x.apd == (t.kind == .append) && d.ticketLive x)
  | none => none

/-- A refused request is answered; a live ticket it presents ends (R142). -/
def Dev.refuse (d : Dev) (r : Req) (t : Txn) (sub : Nat) : Dev :=
  let d := match d.ticketOf r t with | some x => d.dropTicket x.num | none => d
  let d := d.raiseIf (!d.indexOk r.head) R.HIE_EVT.IDX_MISMATCH
  let d := d.reqSlot 0x017 t r.head.port
  if t.kind = .append ∧ d.portServes r.head.port ∧ d.indexOk r.head then d.refuseAppend t.org t.tag none
  else d.sendErr (d.senderOf r.head) t.tag sub

/-- A request without a place: a ticket, or the receive buffer while every reservation is taken (R140, R149). -/
def Dev.noPlace (d : Dev) (r : Req) (t : Txn) : Dev :=
  if d.rsvUsed < 512 then
    (d.reqSlot 0x016 t r.head.port).ticketFor t.org r.head.port t.tag (ticketKey t) (t.kind == .append)
  else d.holdRequest r

/-- Every way of the DIR set that a request needs an entry of is pinned (R127, R140). -/
def Dev.dirHeldUp (d : Dev) (t : Txn) : Bool := d.gcr.role != .manager && recordsHolder t.kind && d.dirFull t.line

/-- A new request takes a general entry and a place in its line's queue (R136, R140). -/
def Dev.admitNew (d : Dev) (r : Req) (t : Txn) : Dev :=
  match d.generalId with
  | none => d.noPlace r t
  | some id =>
    let t := { t with id := id }
    if t.kind = .append then (d.reqSlot 0x004 t r.head.port).admitAppend t
    else
      let k := d.key t.line
      if 8 ≤ (d.queueOf k).length || !(d.standbyOf k).isEmpty then d.noPlace r t
      else if d.dirHeldUp t then (d.raise R.DIR_EVT.BI_PINNED).noPlace r t
      else ((d.reqSlot 0x004 t r.head.port).addTxn t).promote id

/-- A retry takes its ticket's reserved entry, and a place or the standby list (R145). -/
def Dev.admitRetry (d : Dev) (r : Req) (t : Txn) (x : Ticket) : Dev :=
  let d := d.dropTicket x.num
  match d.freeId 512 3584 with
  | none => d
  | some id =>
    let t := { t with id := id, ticket := some x.num }
    let d := d.reqSlot 0x004 t r.head.port
    if t.kind = .append then d.admitAppend t
    else
      let k := d.key t.line
      if (d.queueOf k).length < 8 && (d.standbyOf k).isEmpty then (d.addTxn t).promote id
      else d.addTxn { t with phase := .standby }

/-- A decided response is sent again: relayed dirty data from the mirrored copy, clean data read again (R224). -/
def Dev.resendGrant (d : Dev) (t : Txn) : Dev :=
  match t.got with
  | none => d.respond t.org (fun q => .ack q t.tag t.grant t.id none)
  | some p =>
    if t.dirty then d.respond t.org (fun q => .data q t.tag t.line t.grant t.id p)
    else
      match d.readSource { t with got := none, way := none } with
      | (some p, d) => d.deliver t p
      | (none, d) => d

/-- The newest log entry of a requester and tag. -/
def newestLog (l : List LogEnt) (o : Origin) (tag : Nat) : Option LogEnt :=
  l.reverse.find? (fun e => sameRequester e.org o && e.tag == tag)

/-- A request re-sent in the window after a takeover: its open transaction resumes, or its logged answer is sent again
(R224); none when it is new. A worker's answers go to the side that sent the request again (R227). -/
def Dev.resentRequest (d : Dev) (t : Txn) : Option Dev :=
  if !d.inWindow t.org then none
  else match d.cnf.txns.find? (fun x => sameRequester x.org t.org && x.tag == t.tag && x.tph == t.tph && x.line == t.line) with
    | some x =>
      let x := { x with org := t.org }
      let d := d.putTxn x
      let d := { d with twn := { d.twn with unsent := d.twn.unsent.filter (· != x.id) } }
      some (if x.kind = .append then d.appendAgain x else match x.phase with
        | .grantAck => d.resendGrant x
        | .queued => d.promote x.id
        | _ => d.proceed x)
    | none => match newestLog d.twn.log t.org t.tag with
      | some e =>
        if e.tph == t.tph && e.line == ticketKey t && e.kind == t.kind then
          let d := d.bumpSat R.TWN_DUP_CNT.DUP 1
          some (d.respond t.org (fun q => .ack q t.tag .I 0 (if t.kind = .append then some e.offset else none)))
        else none
      | none => none

/-- The pipeline takes a request (R92, R140 to R147). -/
def Dev.take (d : Dev) (r : Req) : Dev :=
  let t := d.txnOf r
  match d.refusal r with
  | some sub => (d.raiseIf (r.tkt.isSome && (d.ticketOf r t).isNone) R.CNF_EVT.BAD_TICKET).refuse r t sub
  | none => match d.resentRequest t with
    | some d => d
    | none => match d.ticketOf r t with
      | some x => d.admitRetry r t x
      | none => (d.raiseIf r.tkt.isSome R.CNF_EVT.BAD_TICKET).admitNew r t

/-- A lookup slot takes a request, and its credit is returned unless it stays in the receive buffer (R13, R149, R377). -/
def Dev.takeIn (d : Dev) (r : Req) : Dev :=
  let c := d.cnf
  let d := ({ d with cnf := { c with took := c.took ++ [r.head.port], stuck := c.stuck.filter (· != r.head.port) } }).take r
  if d.cnf.stuck.contains r.head.port then d else d.returnReq r.head.port

/-- A request arrives on a port. It waits in the receive buffer behind those the port already holds, while requests are
stopped for Doze, until a core cycle has a lookup slot for its port, and where it gives way to what the cycle still brings
(R13, R137, R444). -/
def arrive (late : Bool) (r : Req) (d : Dev) : Dev :=
  if d.twn.mirror then d
  else if late || d.cnf.waiting.any (fun x => x.head.port == r.head.port) || !d.slotFor r.head.port then
    { d with cnf := { d.cnf with waiting := d.cnf.waiting ++ [r] } }
  else d.takeIn r

/-- A request in a receive buffer is handled, from the start where it was held before (R149). -/
def Dev.takeAgain (d : Dev) (r : Req) : Dev :=
  ({ d with cnf := { d.cnf with waiting := dropFirst (fun x => x == r) d.cnf.waiting, inOrder := d.cnf.inOrder - 1 } }).takeIn r

/-- The oldest request in a port's receive buffer; none while it waits for a reservation. -/
def Dev.offered (d : Dev) (port : Nat) : Option Req :=
  if d.cnf.stuck.contains port then none else d.cnf.waiting.find? (fun r => r.head.port == port)

/-- A port's oldest request is taken if the core cycle has a slot for it. -/
def Dev.takePort (d : Dev) (port : Nat) : Dev :=
  match d.offered port with
  | some r => if d.slotFor port then d.takeAgain r else d
  | none => d

/-- A request that an aborted Doze entry held is taken if a slot is open and its port has not been served (R445). -/
def Dev.takeHeld (d : Dev) (r : Req) : Dev :=
  if d.slotOpen && !d.cnf.took.contains r.head.port && d.offered r.head.port == some r then d.takeAgain r else d

/-- What the receive buffers hold is taken: the port ahead in the rotating priority first, or in order of arrival after an
aborted Doze entry (R137, R138, R445). -/
def Dev.takeWaiting (d : Dev) : Dev :=
  if d.twn.mirror then d
  else if d.cnf.inOrder = 0 then ((List.range 32).map (fun k => (d.cnf.ptr + k) % 32)).foldl Dev.takePort d
  else d.cnf.waiting.foldl Dev.takeHeld d

/-- The port a request command arrives on. -/
def requestPort : Instr → Option Nat
  | .rdShared h | .rdFetch h | .rdOwn h | .rdOnce h _ | .upgrade h | .wrFull h _ _ | .wrPart h _ _ _ | .append h _ _ _
  | .ticketRetry h _ _ => some h.port
  | _ => none

/-- A later command of the same core cycle goes before a request: a write-back of its line, one that lets the boarding reads of
a departure begin, which take the slots first, the disabling of its stream, or a request on a port ahead (R137, R254, R279). -/
def Dev.goesBefore (d : Dev) (r : Req) (c : Instr) : Bool :=
  match c with
  | .wrBack h _ => d.key (lineOf h.addr) == d.key (lineOf r.head.addr)
  | .depart .. | .depAccept .. | .boardingStart .. => true
  | .streamDisable _ n => appendsTo r.body n
  | c => (requestPort c).any (fun p => Nat.blt (d.aheadOf p) (d.aheadOf r.head.port))

/-- A request arrives: at once into a slot, unless a command of the same core cycle goes before it (R137). -/
def State.arrives (s : State) (r : Req) : Host.Outcome State Fault Refusal :=
  onCore s (arrive (s.thisCycle.any (s.dev.goesBefore r)) r)

/-- RDSHARED. -/
def execRdShared (h : Head) (s : State) : Host.Outcome State Fault Refusal := s.arrives ⟨h, .rdShared, none⟩

/-- RDFETCH. -/
def execRdFetch (h : Head) (s : State) : Host.Outcome State Fault Refusal := s.arrives ⟨h, .rdFetch, none⟩

/-- RDOWN. -/
def execRdOwn (h : Head) (s : State) : Host.Outcome State Fault Refusal := s.arrives ⟨h, .rdOwn, none⟩

/-- RDONCE. -/
def execRdOnce (h : Head) (ch : Nat) (s : State) : Host.Outcome State Fault Refusal := s.arrives ⟨h, .rdOnce ch, none⟩

/-- UPGRADE. -/
def execUpgrade (h : Head) (s : State) : Host.Outcome State Fault Refusal := s.arrives ⟨h, .upgrade, none⟩

/-- WRFULL. -/
def execWrFull (h : Head) (ch : Nat) (p : Payload) (s : State) : Host.Outcome State Fault Refusal :=
  s.arrives ⟨h, .wrFull ch p, none⟩

/-- WRPART. -/
def execWrPart (h : Head) (ch : Nat) (mask : Mask) (p : Payload) (s : State) : Host.Outcome State Fault Refusal :=
  s.arrives ⟨h, .wrPart ch mask p, none⟩

/-- APPEND. -/
def execAppend (h : Head) (stream len : Nat) (p : Payload) (s : State) : Host.Outcome State Fault Refusal :=
  s.arrives ⟨h, .append stream len p, none⟩

/-- TICKET_RETRY. -/
def execTicketRetry (h : Head) (tkt : Nat) (b : Body) (s : State) : Host.Outcome State Fault Refusal :=
  s.arrives ⟨h, b, some tkt⟩

/-! ## Tickets -/

/-- A retry of the ticket has arrived and waits in its port's receive buffer (R143). -/
def Dev.retryWaits (d : Dev) (tkt : Nat) : Bool :=
  d.cnf.waiting.any (fun r => (d.ticketOf r (d.txnOf r)).map (·.num) == some tkt)

/-- A ticket's window ends without its retry. The window runs from when the Stby left to when the retry arrives at the port
(R142, R143, R148). -/
def stbyExpired (tkt : Nat) (d : Dev) : Dev :=
  match d.cnf.tickets.find? (fun x => x.num == tkt) with
  | some x =>
    if !d.ticketLive x || d.retryWaits tkt then d
    else
    ((d.dropTicket tkt).report R.CNF_EVT.STBY_EXPIRED x.port 0 (if x.apd then x.key else x.key * 128)
      (x.tag + tkt * 65536)).bumpSat R.CNF_EXP_CNT.EXP 1
  | none => d

/-- STBY_EXPIRED. -/
def execStbyExpired (tkt : Nat) (s : State) : Host.Outcome State Fault Refusal := onCore s (stbyExpired tkt)

/-- A reservation is free: the port's oldest held request is handled again in the next slot for it (R149). -/
def reservationFreed (port : Nat) (d : Dev) : Dev :=
  if d.rsvUsed < 512 then
    ({ d with cnf := { d.cnf with stuck := d.cnf.stuck.filter (· != port) } }).takePort port
  else d

/-- RESERVATION_FREED. -/
def execReservationFreed (port : Nat) (s : State) : Host.Outcome State Fault Refusal := onCore s (reservationFreed port)

/-! ## Snoops that a hold kept (R151) -/

/-- A held snoop may go out now; a port disabled meanwhile is answered for (R130, R151). -/
def Dev.sendHeld (d : Dev) (t : Txn) : Dev :=
  let now := t.held.filter (fun e => !d.onHold (d.key t.snooped) e.1)
  if now.isEmpty then d
  else
    let t := { t with held := t.held.filter (fun e => d.onHold (d.key t.snooped) e.1) }
    let r := d.snoopAll t now
    (r.2.putTxn r.1).proceed r.1

/-- Every transaction sends the snoops that no hold keeps. -/
def Dev.sendAllHeld (d : Dev) : Dev := (d.cnf.txns.filter (fun t => !t.held.isEmpty)).foldl Dev.sendHeld d

/-! ## Answers to snoops and grants (R93, R115 to R119, R216) -/

/-- The transaction of an identifier that awaits a snoop answer of a port. -/
def Dev.awaiting (d : Dev) (port txid : Nat) : Option Txn :=
  (d.txn? txid).filter (fun t => t.await.any (fun e => e.1 == port) && t.owed.isEmpty)

/-- The transaction of an identifier as the mirror side has it: the newest in its apply queue, else the one applied. -/
def Dev.mirroredTxn (d : Dev) (txid : Nat) : Option Txn :=
  match ((d.twn.queue.flatMap (·.2)).filterMap (fun i => match i with
    | .txn t => if t.id = txid then some t else none
    | _ => none)).getLast? with
  | some t => some t
  | none => d.txn? txid

/-- The mirror side keeps an agent's second copy of a dirty answer, and reports its receipt (R216). -/
def Dev.keepCopy (d : Dev) (port txid : Nat) (p : Payload) : Dev :=
  let d := match d.mirroredTxn txid with
    | some t => { d with twn := { d.twn with lines := bankSet d.twn.lines t.snooped (Mask.full, p) } }
    | none => d
  d.emit (.twin 0 [.dirtyReport txid port])

/-- A dirty answer waits for the mirror side: for its report of the agent's second copy, or, where the agent's link there is
down, for the acknowledgement of the data sent as a mirror item (R216). The manual does not say how the serving side knows of
that link: it is a free value (log entry 76). -/
def Dev.awaitCopy (d : Dev) (t : Txn) (port : Nat) (rst : LState) (p : Payload) : Dev :=
  let down := Config.mirrorLinkDown d.free
  let d := { d with free := d.free + 1 }
  let d := if down then d.mirror (.dirtyLine t.snooped Mask.full p) else d
  { d with twn := { d.twn with
      dirtyWait := d.twn.dirtyWait ++ [(t.id, port, if down then d.awaits else none, rst, p)] } }

/-- SnpData: in a pair, dirty data is used once the mirror side has reported its copy (R216). -/
def snpData (port txid : Nat) (dty : Bool) (rst : LState) (p : Payload) (d : Dev) : Dev :=
  if d.twn.mirror then (if dty then d.keepCopy port txid p else d)
  else match d.awaiting port txid with
    | none => d.protoErr port (if p.psn then 0x33 else 0x32)
    | some t =>
      if dty && d.mirrors && !d.twn.reported.contains (txid, port) then
        d.awaitCopy t port rst p
      else
        let d := { d with twn := { d.twn with reported := d.twn.reported.erase (txid, port) } }
        d.answer t port (.data dty rst p)

/-- SNPDATA. -/
def execSnpData (port txid : Nat) (dty : Bool) (rst : LState) (p : Payload) (s : State) :
    Host.Outcome State Fault Refusal := onCore s (snpData port txid dty rst p)

/-- The mirror side has received its copy of a dirty answer (R216). -/
def dirtyCopyReport (txid port : Nat) (d : Dev) : Dev :=
  match d.twn.dirtyWait.find? (fun e => e.1 == txid && e.2.1 == port), d.awaiting port txid with
  | some e, some t =>
    let d := { d with twn := { d.twn with dirtyWait := dropFirst (fun x => x.1 == txid && x.2.1 == port) d.twn.dirtyWait } }
    d.answer t port (.data true e.2.2.2.1 e.2.2.2.2)
  | none, some _ =>
    if d.mirrors then { d with twn := { d.twn with reported := d.twn.reported ++ [(txid, port)] } } else d
  | _, none => d

/-- DIRTY_COPY_REPORT. -/
def execDirtyCopyReport (txid port : Nat) (s : State) : Host.Outcome State Fault Refusal :=
  onCore s (dirtyCopyReport txid port)

/-- An answer without data. -/
def plainAnswer (port txid opc : Nat) (a : SnpAns) (d : Dev) : Dev :=
  if d.twn.mirror then d
  else match d.awaiting port txid with
    | some t => d.answer t port a
    | none => d.protoErr port opc

/-- ACKA_SNOOP. -/
def execAckaSnoop (port txid : Nat) (s : State) : Host.Outcome State Fault Refusal := onCore s (plainAnswer port txid 0x23 .ack)

/-- MISS. -/
def execMiss (port txid : Nat) (wbp : Bool) (s : State) : Host.Outcome State Fault Refusal :=
  onCore s (plainAnswer port txid 0x24 (.miss wbp))

/-- The grant Ack. -/
def ackaGrant (port txid : Nat) (d : Dev) : Dev :=
  if d.twn.mirror then d
  else match d.txn? txid with
    | some t => if t.phase == .grantAck && t.port == port then (d.retireGrant t).sendAllHeld else d.protoErr port 0x23
    | none => d.protoErr port 0x23

/-- ACKA_GRANT. -/
def execAckaGrant (port txid : Nat) (s : State) : Host.Outcome State Fault Refusal := onCore s (ackaGrant port txid)

/-! ## Write-backs (R66, R68, R112, R113, R118, R152, R155) -/

/-- The holder of the line is recorded exclusive, or may be: the sector's entry is unknown (R185). -/
def Dev.ownsLine (d : Dev) (h : Head) : Bool :=
  if d.gcr.role = .manager then
    let e := d.sdrEnt (sectorOf (lineOf h.addr))
    (e.st == .DX && e.records (h.port / 2)) || d.sdr.unknown.contains (sectorOf (lineOf h.addr))
  else match d.dirEnt (lineOf h.addr) with
    | some e => e.st == .DX && e.records h.port
    | none => false

/-- A transaction that waited for this WrBack has its data (R118). -/
def Dev.wbReached (port : Nat) (p : Payload) (d : Dev) (t : Txn) : Dev :=
  let t := { t with wbFrom := t.wbFrom.filter (· != port), got := some p, fromHolder := true }
  (d.putTxn t).proceed t

/-- The write-back credit goes back with the answer that leaves for a requester (R113, R155). -/
def Dev.oweCredit (d : Dev) (o : Origin) (tag : Nat) : Dev :=
  match destOf o with
  | some (n, q) => d.oweWb n q tag
  | none => d

/-- A WrBack is answered and logged. -/
def Dev.ackWrBack (d : Dev) (h : Head) : Dev :=
  let o := d.orgOf h
  (d.logRetired ⟨o, h.tag, h.tph, lineOf h.addr, .wrBack, 0⟩).respond o (fun q => .ack q h.tag .I 0 none)

/-- A WrBack's data enters the write buffer, in a shared entry if one is free and else in its port's reserve, and is
acknowledged. The credit of a shared entry goes back with the Ack, that of a reserved one when the entry is freed (R66,
R112, R155). -/
def Dev.bufferWrBack (d : Dev) (h : Head) (p : Payload) : Dev :=
  let line := lineOf h.addr
  let shared : Bool := d.poolOpen != 0
  let d := d.wbForce (fun e => e.line == line && e.mask != Mask.full)
  let d := d.wbAdd line Mask.full p .wrBack (if shared then none else some h.port) none false false
  (if shared then d.oweCredit (d.orgOf h) h.tag else d).ackWrBack h

/-- The directory's record of the holder goes, and a hold that protects it ends (R119, R152). -/
def Dev.releaseHolder (d : Dev) (h : Head) : Dev :=
  let line := lineOf h.addr
  let k := d.key line
  let d := if d.gcr.role = .manager then d else d.dirMap line (fun e => e.drop h.port)
  if d.onHold k h.port then
    d.setHolds (d.cnf.holds.filter (fun x => !(x.key == k && x.holder == d.holderId h.port)))
  else d

/-- Written-back data in the buffer goes where it belongs, and to those that waited for it (R58, R118). -/
def Dev.settleWrBack (d : Dev) (h : Head) (p : Payload) : Dev :=
  let line := lineOf h.addr
  let d := (d.wbLookup line).wbSettleAll.wbKick
  ((d.cnf.txns.filter (fun t => t.snooped == line && t.wbFrom.contains h.port)).foldl (Dev.wbReached h.port p) d).sendAllHeld

/-- A WrBack of the recorded holder is held in the write buffer: its directory effect, its hold and its data. -/
def Dev.acceptWrBack (d : Dev) (h : Head) (p : Payload) : Dev := ((d.releaseHolder h).bufferWrBack h p).settleWrBack h p

/-- A stray WrBack: Ack, the data discarded, a record (R113, Table HIE-4). -/
def Dev.strayWrBack (d : Dev) (h : Head) : Dev :=
  let ev := if d.gcr.role = .manager then R.HIE_EVT.WB_STRAY else R.DIR_EVT.WB_STRAY
  ((d.report ev h.port 0 (lineOf h.addr * 128) h.tag).oweCredit (d.orgOf h) h.tag).ackWrBack h

/-- An entry waits for its sector's record. -/
def Dev.awaitRecord (d : Dev) (h : Head) (n : Nat) : Dev := { d with sdr := { d.sdr with wrBacks := d.sdr.wrBacks ++ [(h, n)] } }

/-- A WrBack whose holder's record is at hand is accepted or stray. -/
def Dev.landWrBack (d : Dev) (h : Head) (p : Payload) : Dev := if d.ownsLine h then d.acceptWrBack h p else d.strayWrBack h

/-- A WrBack at a manager needs its sector's SDR entry: from the SDR cache, from the region still to be cleared, or from
memory. It is accepted and acknowledged meanwhile, and its entry waits for the record ahead of the transactions that need the
same SDR line (R66, R112, R183, R184). -/
def Dev.sdrWrBack (d : Dev) (h : Head) (p : Payload) : Dev :=
  match d.sdrFetch (sdrLine (sectorOf (lineOf h.addr))) with
  | (true, d) => d.landWrBack h p
  | (false, d) =>
    let n := d.wbf.next
    let d := d.bufferWrBack h p
    (d.setWb (mapIf (fun e => e.num == n) (fun e => { e with sdr := true }) d.wbf.ents)).awaitRecord h n

/-- WrBacks are accepted in modes 4 to 9 and 11, on a port that is enabled or draining (R66, R163, R453). -/
def Dev.wrBackServed (d : Dev) (h : Head) : Bool :=
  (d.gcr.mode.serving || d.gcr.mode == .train || (d.gcr.mode == .recovery && d.typeServed .rdOnce h.port)) &&
  !d.portDead h.port && d.indexOk h && h.addr < 2 ^ 48 && (d.gcr.role == .worker || h.addr < d.sdrBase)

/-- A WrBack is taken: refused, answered as one re-sent after a takeover, or held against its line's record. -/
def takeWrBack (h : Head) (p : Payload) (d : Dev) : Dev :=
  if !d.wrBackServed h then
    ((d.raiseIf (!d.indexOk h) R.HIE_EVT.IDX_MISMATCH).oweCredit (d.senderOf h) h.tag).sendErr (d.senderOf h) h.tag 2
  else match (d.oweCredit (d.orgOf h) h.tag).resentRequest { d.txnOf ⟨h, .rdShared, none⟩ with kind := .wrBack } with
    | some d => d
    | none => if d.gcr.role = .manager then d.sdrWrBack h p else d.landWrBack h p

/-- Doze entry has emptied the write buffer, or the device sleeps: a write-back waits at its port (R444, R452, log entry
114). -/
def Dev.wbAsleep (d : Dev) : Bool := d.pip.stopped && d.pwr.doze.any (fun z => Nat.ble 6 z.stage)

/-- A WrBack arrives; without a write-back credit it is a protocol error (R155, R382). -/
def wrBack (h : Head) (p : Payload) (d : Dev) : Dev :=
  if d.twn.mirror then d
  else if (d.port h.port).lacks 4 then d.protoErr h.port 0x0A
  else
    let d := d.setPort h.port { d.port h.port with pWb := (d.port h.port).pWb - 1 }
    if d.wbAsleep then { d with cnf := { d.cnf with heldWb := d.cnf.heldWb ++ [(h, p)] } } else takeWrBack h p d

/-- Requests flow again after Doze: the write-backs held are taken, and the requests in order of arrival, two in a core
cycle (R137, R445). -/
def Dev.releaseWaiting (d : Dev) : Dev :=
  let l := d.cnf.heldWb
  let d := l.foldl (fun d e => takeWrBack e.1 e.2 d) { d with cnf := { d.cnf with heldWb := [], inOrder := d.cnf.waiting.length } }
  d.takeDeparts

/-- WRBACK. -/
def execWrBack (h : Head) (p : Payload) (s : State) : Host.Outcome State Fault Refusal := onCore s (wrBack h p)

/-! ## Activation, holds, timeouts, retirement -/

/-- Holds of a key whose cycles have passed end; the snoops they kept leave (R151). -/
def berthHoldEnd (key : Nat) (d : Dev) : Dev :=
  if d.cnf.holds.any (fun h => h.key == key && h.left == 0) then
    (d.setHolds (d.cnf.holds.filter (fun h => !(h.key == key && h.left == 0)))).sendAllHeld
  else d

/-- BERTH_HOLD_END. -/
def execBerthHoldEnd (key : Nat) (s : State) : Host.Outcome State Fault Refusal := onCore s (berthHoldEnd key)

/-- The opcode a response timeout records for a port: the snoop or DepBoard sent, or AckA for an owed grant Ack (R129). For
a transaction that waits for the uplink the manual gives no message: the model records the request sent there (R199, log
entry 70). -/
def Dev.awaitedOpc (d : Dev) (t : Txn) (port : Nat) : Option Nat :=
  if t.phase = .grantAck then (if t.port = port then some 0x23 else none)
  else if t.phase = .uplink then (if port = d.uplink then t.up.map kindOpc else none)
  else if t.phase = .waitAck ∧ t.waitsUp then
    (if d.gcr.role = .worker ∧ port = d.uplink then some (if t.kind = .apdLine then 0x06 else 0x0A) else none)
  else match t.await.find? (fun e => e.1 == port) with
    | some e => some (if d.gcr.role == .manager && t.kind == .board && t.phase != .waitSdr then 0x15 else snoopOpc e.2)
    | none => none

/-- RSP_TO has passed without an answer: reported once per transaction (R129, R197). For an unanswered DepBoard the manual
does not say which line the record gives: the model gives the line being read (log entry 70). -/
def rspTimeout (port txid : Nat) (d : Dev) : Dev :=
  if d.get R.DIR_CFG.RSP_TO = 0 ∨ d.twn.mirror then d
  else match d.txn? txid with
    | some t =>
      match d.awaitedOpc t port with
      | some opc =>
        if t.late then d
        else (d.report R.DIR_EVT.RSP_TIMEOUT port opc (t.snooped * 128) txid).putTxn { t with late := true }
      | none => d
    | none => d

/-- RSP_TIMEOUT. -/
def execRspTimeout (port txid : Nat) (s : State) : Host.Outcome State Fault Refusal := onCore s (rspTimeout port txid)

/-- The device's own work is complete: its entry is freed (R134). -/
def transactionRetire (txid : Nat) (d : Dev) : Dev :=
  match d.txn? txid with
  | some t =>
    if t.phase ≠ .done then d
    else match t.kind, t.org with
      | .apdLine, .stream n => d.apdComplete t n t.aux
      | _, _ => (d.freeTxn t.id).fillPlace (d.key t.line)
  | none => d

/-- TRANSACTION_RETIRE. -/
def execTransactionRetire (txid : Nat) (s : State) : Host.Outcome State Fault Refusal := onCore s (transactionRetire txid)

end Sys2Proof.Machine
end

