-- ==== Sys2Proof/Machine/CacheCmds.lean ====
section
/-! DEFINITION. Header fetches, lane and memory reads, write-buffer events, flushes and quarantine: the commands of R48 to
R71, R131, R331, R345 and R568. -/

namespace Sys2Proof.Machine

/-! ## Header fetches (R49, R50, R454) -/

/-- Waiting transactions of a set in a phase. -/
def Dev.waitingOn (d : Dev) (set : Nat) (ph : Phase) : List Txn :=
  d.cnf.txns.filter (fun t => t.phase == ph && d.setOf t.line == set)

/-- A set whose header cannot be read: its write-backs go to the next level (R46, R454). -/
def Dev.bindSet (d : Dev) (set : Nat) : Dev :=
  (d.wbf.ents.filter (fun e => !e.bound && d.setOf e.line == set)).foldl Dev.wbBind d

/-- The transactions that waited for a header go on (R50). -/
def Dev.resumeHeader (d : Dev) (set : Nat) : Dev := (d.waitingOn set .waitHeader).foldl Dev.decide d

/-- A fetched header arrives: checked, installed in the entry kept for it since the fetch began, and used by all that
waited for it (R45, R49, R50). -/
def headerFetchDone (set : Nat) (noise : Burst) (d : Dev) : Dev :=
  if !d.hdc.fetch.contains set then d
  else
    let d := { d with hdc := { d.hdc with fetch := d.hdc.fetch.filter (· != set) } }
    match d.readHeader set noise with
    | (some h, d) => ((d.installHeader set h).wbSettleAll.resumeHeader set).wbSettleAll
    | (none, d) => (d.bindSet set).resumeHeader set

/-- HEADER_FETCH_DONE. -/
def execHeaderFetchDone (set : Nat) (noise : Burst) (s : State) : Host.Outcome State Fault Refusal :=
  onCore s (headerFetchDone set noise)

/-- A header miss that found its HDC set fully pinned tries again. -/
def headerWaitUnpin (txid : Nat) (d : Dev) : Dev :=
  match d.txn? txid with
  | some t => if t.phase = .waitUnpin then d.headerStep t else d
  | none => d

/-- HEADER_WAIT_UNPIN. -/
def execHeaderWaitUnpin (txid : Nat) (s : State) : Host.Outcome State Fault Refusal := onCore s (headerWaitUnpin txid)

/-! ## Headers, and what waits for room or for a write -/

/-- A header lane's header as its read would give it; an uncorrectable one is the zero header that replaces it (R45). -/
def laneHeader (r : Decoded) : Header :=
  match r.out with
  | .clean | .corrected => Header.unpack r.data
  | _ => Header.zero

/-- The header of a set as HDC or its header lane holds it: what the device knows of the set, without a read of the
lane. -/
def Dev.headerNow (d : Dev) (set : Nat) : Header :=
  match d.header? set with
  | some h => h
  | none => laneHeader (decodeLine (d.burst (headerLoc set).1 (headerLoc set).2)
      (d.erased (headerLoc set).1 (d.rankOf (headerLoc set).1 (headerLoc set).2)))

/-- The lane that holds a cached line. -/
def Dev.scrubLane (d : Dev) (line : Nat) : Option (Nat × Nat) :=
  let set := d.setOf line
  (d.hitWay (d.headerNow set) line).map (fun w => d.lineLoc set w (line % 8))

/-- The line slots of a lane that are being read: by transactions, by header fetches, by the scrubber. -/
def Dev.slotsRead (d : Dev) (n : Nat) : List Nat :=
  let reads := d.cnf.txns.filter (fun t => t.phase == .readLane)
  let lines := reads.map (fun t => d.lineLoc (d.setOf t.snooped) (t.way.getD 0) (t.snooped % 8))
  let all := lines ++ d.hdc.fetch.map headerLoc ++ d.scb.flight.filterMap (fun f => d.scrubLane f.2)
  (all.filter (fun l => l.1 == n)).map (·.2)

/-- The header of a set as a pass or an engine takes it: from HDC, or read from its header lane (R45). -/
def Dev.passHeader (d : Dev) (set : Nat) : Option Header × Dev :=
  match d.hdrBlocked set, d.header? set with
  | some _, _ => (none, d)
  | none, some h => (some h, d)
  | none, none => (d.driveRd (headerLoc set).1 (headerLoc set).2).readHeader set 0

/-- A line is dirty in the external cache, by its header as HDC has it or its lane gives it (R45). -/
def Dev.cachedDirty (d : Dev) (line : Nat) : Bool × Dev :=
  let r := d.passHeader (d.setOf line)
  (match r.1.bind (fun h => (d.hitWay h line).map (fun w => (h.way w).dty.getLsbD (line % 8))) with
   | some b => b
   | none => false, r.2)

/-- A transaction that waited for a write goes on: a boarding read at its line, every other one from its answers. -/
def Dev.resume (d : Dev) (t : Txn) : Dev :=
  let t := { t with phase := .snooping }
  match t.kind with
  | .board => Dev.boardLines (t.snooped :: t.lines) t d
  | _ => d.gather t

/-- A write that waits for room in the write buffer goes on when it has some; an Append waits for line writes. -/
def Dev.resumeWrite (d : Dev) (t : Txn) : Dev :=
  if t.phase = .waitEntry ∧ t.kind ≠ .append ∧ d.wbRoom t.line then d.resume t else d

/-- Data and writes that wait for shared entries take those that are open, oldest first (R67). -/
def Dev.wakeRoom (d : Dev) : Dev := d.cnf.txns.foldl Dev.resumeWrite d.wbPlaceAll

/-- Reads that waited for the line's entries, then the writes that wait for room, oldest first. -/
def Dev.wakeWriters (d : Dev) (line : Nat) : Dev :=
  let d := if d.wbPartial line then d
    else (d.cnf.txns.filter (fun t => t.phase == .waitWbf && t.snooped == line)).foldl Dev.resume d
  d.wakeRoom.wbSettleAll.wbKick.mgrDrainAll

/-- A header that a mirror side changes itself: in HDC if it is there, else in its header lane with HSEQ one higher
(R43). -/
def Dev.keepHeader (d : Dev) (set : Nat) (h : Header) : Dev :=
  if (d.header? set).isSome then d.putHeader set h else d.writeHeader ⟨set, h, true⟩

/-- The mirror side drops its copy of a line once its own memory has acknowledged the line's last write (R213). -/
def Dev.dropMirrored (d : Dev) (line : Nat) : Dev :=
  let waits : Bool := d.gcr.role != .worker && d.wbf.ents.any (fun e => e.line == line)
  let rest := d.twn.cleaned.filter (· != line)
  if waits then { d with twn := { d.twn with cleaned := rest ++ [line] } }
  else
    let d := { d with twn := { d.twn with cleaned := rest, lines := bankErase d.twn.lines line } }
    match d.passHeader (d.setOf line) with
    | (some h, d) => match d.hitWay h line with
      | some w => d.keepHeader (d.setOf line) (h.dropLine w (line % 8))
      | none => d
    | (none, d) => d

/-- The clean marker once nothing of the line is dirty here any more (Table TWN-2); on a mirror side the end of a copy that
waited for it. -/
def Dev.markIfClean (d : Dev) (line : Nat) : Dev :=
  if d.isMirror then (if d.twn.cleaned.contains line then d.dropMirrored line else d)
  else if !d.mirrors || d.wbf.ents.any (fun e => e.line == line) then d
  else match d.cachedDirty line with
    | (true, d) => d
    | (false, d) => d.cleanMark line

/-! ## Lines read (R62, R331, R345) -/

/-- A line that DepBoard read goes to the manager. -/
def Dev.boardOn (d : Dev) (txid : Nat) : Dev :=
  match d.txn? txid with
  | some t => if t.kind = .depBoard ∧ t.phase = .snooping ∧ t.got.isSome then d.depBoardOn t else d
  | none => d

/-- The lane of a line being read has been lost: the transaction goes on as Table DST-6 has it, a clean line served as a
miss (R321). -/
def Dev.laneGone (d : Dev) (t : Txn) : Dev :=
  let t := { t with way := none, phase := .snooping }
  match t.kind with
  | .depBoard => d.depBoardOn t
  | _ => d.resume t

/-- A line of the data store has been read: checked and used; the lane may have been lost meanwhile. -/
def lineReadDone (txid : Nat) (noise : Burst) (d : Dev) : Dev :=
  match d.txn? txid with
  | some t =>
    if t.phase ≠ .readLane then d
    else
      let set := d.setOf t.snooped
      let w := t.way.getD 0
      let l := d.lineLoc set w (t.snooped % 8)
      if (d.lane l.1).st = 5 then d.laneGone t
      else
        let r := d.laneRead l.1 l.2 noise
        (r.2.laneArrived t r.1.payload).boardOn txid
  | none => d

/-- The 32 sector entries that the data of SDR line k holds (Table HIE-3). -/
def sdrUnpack (k : Nat) (data : LineData) : List SdrEnt :=
  (List.range 32).filterMap (fun i =>
    let x := data.toNat / 2 ^ (32 * i) % 2 ^ 32
    let st := x / 2 ^ 16 % 4
    if st = 0 then none
    else some ⟨32 * k + i, if st = 2 then .DX else .DS,
      (List.range 3).map (fun j => if x.testBit (12 + j) then some (x / 2 ^ (4 * j) % 16) else none), x.testBit 15⟩)

/-- SDR line k comes from memory into the SDR cache, unless it is there already; an error or poison makes its entries
unknown (R183, R185). -/
def Dev.sdrArrived (d : Dev) (k sector : Nat) (ans : MemAns) : Dev :=
  if d.sdrCached k then d
  else match ans with
  | .data w lo hi =>
    if lo || hi then (d.sdrInstall k).sdrUnknown k sector
    else
      let rest := d.sdr.ents.filter (fun e => sdrLine e.sector != k)
      ({ d with sdr := { d.sdr with ents := (sdrUnpack k w).foldl insertSdr rest } }).sdrInstall k
  | .error => (d.sdrInstall k).sdrUnknown k sector

/-- A transaction's memory read ended in an error: poisoned data that is not allocated, its data not given (R345). -/
def Dev.memError (d : Dev) (t : Txn) : Dev :=
  let r := (d.giveUpWay t).freePoison
  let t := { t with way := none }
  match t.kind with
  | .board => r.2.boarded t .fail r.1
  | _ => r.2.arrived t r.1

/-- Responses of memory port n that report overload are counted (R390). -/
def Dev.countLoad (d : Dev) (n loads : Nat) : Dev :=
  if loads = 0 then d else (d.bumpSat (R.MPn_DEVLOAD_CNT.LOAD n) loads).pmu1 (0x200 + 8 * n + 6) loads

/-- What memory port n answers to a read of a line is counted: poison, or an error, which is reported (R345, R390). -/
def Dev.memAnswer (d : Dev) (n line : Nat) (ans : MemAns) : Dev :=
  match ans with
  | .data _ lo hi => if lo || hi then (d.bumpSat (R.MPn_POISON_CNT.PSN n) 1).pmu1 (0x200 + 8 * n + 3) else d
  | .error => d.report R.ECC_EVT.MEM_RD_ERR n 0 (line * 128) 0

/-- The transactions that wait for SDR line k. -/
def Dev.waitingSdr (d : Dev) (k : Nat) : List Txn :=
  d.cnf.txns.filter (fun t => t.phase == .waitSdr && answered t && sdrLine (sectorOf t.line) == k)

/-- The sectors whose entries are awaited: of transactions, of write-backs and of a maintenance pass. -/
def Dev.sdrAwaited (d : Dev) : List Nat :=
  d.sdr.wrBacks.map (fun x => sectorOf (lineOf x.1.addr)) ++
  (d.cnf.txns.filter (fun t => t.phase == .waitSdr && answered t)).map (fun t => sectorOf t.line) ++
  d.pip.mnt.asked.toList.map (32 * ·)

/-- The record that a buffered WrBack waits for is at hand: its data settles, or it was stray and is discarded with a record of
its own (R113, R183). -/
def Dev.recordCame (d : Dev) (h : Head) (n : Nat) : Dev :=
  match d.wbf.ents.find? (fun e => e.num == n) with
  | none => d
  | some e =>
    if d.ownsLine h then
      ((d.setWb (mapIf (fun x => x.num == n) (fun x => { x with sdr := false }) d.wbf.ents)).releaseHolder h).settleWrBack h e.pay
    else ((d.wbFree e).report R.HIE_EVT.WB_STRAY h.port 0 (lineOf h.addr * 128) h.tag).markIfClean e.line

/-- SDR line k is at hand: write-backs that waited for it land first, then its transactions go on (R137, R183). -/
def Dev.sdrReady (d : Dev) (k : Nat) : Dev :=
  let mine : Head × Nat → Bool := fun x => sdrLine (sectorOf (lineOf x.1.addr)) == k
  let l := d.sdr.wrBacks.filter mine
  let m := d.pip.mnt
  let d := { d with sdr := { d.sdr with wrBacks := d.sdr.wrBacks.filter (fun x => !mine x) },
                    pip := { d.pip with mnt := { m with asked := m.asked.filter (· != k) } } }
  let d := l.foldl (fun d x => d.recordCame x.1 x.2) d
  (d.waitingSdr k).foldl Dev.sdrStep d

/-- No live flit waits, the last flit of the copy is acknowledged, and TW takes another: the copy may go on (R230). -/
def Dev.copyFree (d : Dev) : Bool :=
  d.mirrors && d.twn.st == .copy && d.tw.st == 3 && d.twn.items.isEmpty && d.twn.wait.isEmpty && d.twn.copyUn.isEmpty &&
  d.tw.cReq != 0 && Nat.blt d.tw.unacked 128

/-- A flit of the join copy leaves, marked with its phase; no message waits for it (R229). -/
def Dev.sendCopy (d : Dev) (l : List Item) : Dev :=
  let d := { d with twn := { d.twn with copyUn := d.twn.copyUn ++ [d.nextMseq], lines := l.foldl linesAfter d.twn.lines } }
  let d := (d.queueFlit (.copy d.twn.phase :: l)).pumpTw
  { d with twn := { d.twn with after := 0 } }

/-- A dirty line in the cache as it stands now. -/
def Dev.copyDirtyLine (d : Dev) (line : Nat) : Option Item × Dev :=
  let set := d.setOf line
  let r := d.passHeader set
  match r.1.bind (fun h => (r.2.hitWay h line).map (fun w => (h, w))) with
  | some (h, w) =>
    if (h.way w).dty.getLsbD (line % 8) then
      let p := r.2.readWay set w line
      (some (.dirtyLine line Mask.full p.1), p.2)
    else (none, r.2)
  | none => (none, r.2)

/-- The item of a copy's step, as things stand now; none where there is nothing to copy any more. -/
def Dev.jobItem (d : Dev) : CopyJob → Option Item × Dev
  | .dir line => ((d.dir.ents.find? (fun e => e.line == line)).map .dir, d)
  | .sdr k => (if d.sdrCached k then some (.sdrLine k none) else none, d)
  | .sdrEnt s => ((d.sdr.ents.find? (fun e => e.sector == s)).map .sdr, d)
  | .unknown => (some (.sdrUnknown d.sdr.unknown), d)
  | .dirty line => d.copyDirtyLine line
  | .header set =>
    let r := d.passHeader set
    (r.1.map (fun h => .header set h false), r.2)
  | .buffer n => ((d.wbf.ents.find? (fun e => e.num == n)).map (fun e => .dirtyLine e.line e.mask e.pay), d)
  | .txn id => ((d.txn? id).map .txn, d)
  | .tickets => (some (.tickets d.cnf.tickets d.cnf.nextTkt), d)
  | .holds => (some (.holds d.cnf.holds), d)
  | .upUse key => ((bankGet d.hie.phases key).map (fun u => .upUse key u.1 u.2), d)
  | .dep idx => ((d.dep.table.find? (fun e => e.idx == idx)).map .dep, d)
  | .stale => (some (.depStale d.dep.stale), d)
  | .done k => (some (.depDone k), d)
  | .stream n => ((bankGet d.apd.streams n).map (.stream n), d)
  | .log e => (some (.log e), d)
  | .clear => (some (.sdrClear d.sdr.prog d.sdr.initDone), d)
  | .memory line p => (some (.memWrite line Mask.full p), d)
  | .last => (none, d)

/-- The next flit of the present step leaves; what needs none is passed over. -/
def Dev.runJobs : List CopyJob → Dev → Dev
  | [], d => { d with twn := { d.twn with jobs := [] } }
  | .last :: l, d => ({ d with twn := { d.twn with jobs := l } }).sendCopy []
  | j :: l, d =>
    match d.jobItem j with
    | (some i, d) => ({ d with twn := { d.twn with jobs := l } }).sendCopy [i]
    | (none, d) => Dev.runJobs l d

/-- A chunk that has been read goes to the joining side, line by line (R229). -/
def Dev.chunkSend (d : Dev) : Dev :=
  match d.twn.chunk with
  | some c =>
    if c.left.isEmpty then
      let d := { d with twn := { d.twn with jobs := c.got.map (fun (e : Nat × Payload) => .memory e.1 e.2) } }
      if d.copyFree then Dev.runJobs d.twn.jobs d else d
    else d
  | none => d

/-- A line of the chunk being copied has been read. One whose read ended in an error is copied poisoned, its data not given
(R229, log entry 77). -/
def Dev.chunkRead (d : Dev) (line : Nat) (ans : MemAns) : Dev :=
  match d.twn.chunk with
  | some c =>
    if !c.left.contains line then d
    else
      let r : Payload × Dev := match ans with | .data w lo hi => (⟨w, lo || hi⟩, d) | .error => d.freePoison
      ({ r.2 with twn := { r.2.twn with
          chunk := some { c with left := c.left.erase line, got := c.got ++ [(line, r.1)] } } }).chunkSend
  | none => d

/-- A memory read returns: to those that wait for the SDR line, to the transaction that reads the line, or to the chunk being
copied to a joining side. -/
def memReadDone (line : Nat) (ans : MemAns) (loads : Nat) (d : Dev) : Dev :=
  let n := (d.memLoc (line * 128)).1
  let m := d.mp n
  if !m.reads.contains line then d
  else
    let ans := if Mp.dead m then .error else ans
    let d := (((d.setMp n { m with reads := m.reads.erase line }).mpNext n).countLoad n loads).memAnswer n line ans
    match d.sdrAwaited.find? (fun s => d.sdrMem (sdrLine s) == line) with
    | some s => (d.sdrArrived (sdrLine s) s ans).sdrReady (sdrLine s)
    | none =>
      match d.cnf.txns.find? (fun t => t.phase == .readMem && t.snooped == line) with
      | some t =>
        match ans with
        | .data w lo hi => d.arrived t ⟨w, lo || hi⟩
        | .error => d.memError t
      | none => d.chunkRead line ans

/-- MEM_READ_DONE. -/
def execMemReadDone (line : Nat) (ans : MemAns) (loads : Nat) (s : State) : Host.Outcome State Fault Refusal :=
  onCore s (memReadDone line ans loads)

/-! ## The next level answers a write (R69, R71, R78, R84, R568) -/

/-- The maintenance transaction whose line an entry wrote. -/
def Dev.maintOf (d : Dev) (e : WbEnt) : Option (Txn × Nat) :=
  match e.txn.bind d.txn? with
  | some t => match t.kind, t.phase with
    | .maint op, .waitAck => some (t, op)
    | _, _ => none
  | none => none

/-- The stream's line an entry wrote (R287). -/
def Dev.streamWrite (d : Dev) (e : WbEnt) : Option Txn :=
  (d.wbOwner e).filter (fun t => t.kind == .apdLine && t.phase == .waitAck)

/-- A write that the next level has taken is complete; a worker's cached copy, which the write went past, is invalid
(R176, Table HIE-2). -/
def Dev.writtenUp (d : Dev) (t : Txn) : Dev :=
  let d := match (d.usable t.line).bind (fun h => d.hitWay h t.line) with
    | some w => d.dropLine (d.setOf t.line) w t.line
    | none => d
  d.finishWrite t

/-- A write of an entry is acknowledged: the entry is freed, and what waited for it goes on. -/
def Dev.wbAcked (d : Dev) (e : WbEnt) : Dev :=
  let d := match d.maintOf e, d.streamWrite e with
    | some (t, op), _ => (d.maintAck t op).wbFree e
    | none, some t => (d.wbFree e).writtenUp t
    | none, none => d.wbFree e
  (d.markIfClean e.line).wakeWriters e.line

/-- The oldest issued entry of a line. -/
def Dev.issuedOf (d : Dev) (line : Nat) : Option WbEnt := d.wbf.ents.find? (fun e => e.issued && e.line == line)



/-- A maintenance line whose write failed: counted, recorded; data that only the agent had is kept as a dirty line where
a WrBack would be allocated (R84). -/
def Dev.maintFailed (d : Dev) (t : Txn) (p : Payload) : Dev :=
  let m := d.pip.mnt
  let d := { d with pip := { d.pip with mnt := { m with fails := min 65535 (m.fails + 1) } } }
  let d := d.evq 415 0 0 (t.line * 128) 0
  let d := d.putTxn { t with phase := .done }
  let r := d.passHeader (d.setOf t.line)
  let d := r.2
  let here := (r.1.bind (fun h => d.hitWay h t.line)).isSome
  if here || !t.dirty || (d.allocFor .write t.line).isNone then d else d.takeDirty t.line p

/-- A stream's line that failed at the next level: its stream faults (R290). -/
def Dev.streamFailed (d : Dev) (e : WbEnt) : Dev :=
  match d.streamWrite e with
  | some t => match t.org with
    | .stream n => d.apdFail t n t.aux
    | _ => d
  | none => d

/-- A write to the next level failed: its entry is discarded and reported (R84, R290, R568). -/
def Dev.wbFailed (d : Dev) (e : WbEnt) : Dev :=
  let d := match d.maintOf e with
    | some (t, _) => (d.wbFree e).maintFailed t e.pay
    | none => ((d.wbFree e).report R.WBF_EVT.WR_FAIL 0 0 (e.line * 128) 0).streamFailed e
  d.wakeWriters e.line

/-- The memory port of a line has FAILED. -/
def Dev.lineFailed (d : Dev) (line : Nat) : Bool := d.gcr.role != .worker && Mp.dead (d.mp (d.memLoc (line * 128)).1)

/-- A write to a FAILED port is discarded: WR_LOST, with a record (R393). -/
def Dev.wbLost (d : Dev) (e : WbEnt) : Dev :=
  let n := (d.memLoc (e.line * 128)).1
  let d := match d.maintOf e with
    | some (t, _) => (d.wbFree e).maintFailed t e.pay
    | none => (d.wbFree e).streamFailed e
  (d.report (R.MPn_EVT.WR_LOST n) n 0 (e.line * 128) 0).wakeWriters e.line

/-! ### The clear of the SDR region (R184, R186) -/

/-- Lines of the SDR region: M / 256 bytes. -/
def Dev.sdrLines (d : Dev) : Nat := d.memSize / 256 / 128

/-- Clear writes in flight on a memory port. -/
def Dev.clearsOn (d : Dev) (n : Nat) : Nat :=
  (d.sdr.flight.filter (fun k => (d.memLoc (d.sdrMem k * 128)).1 == n)).length

/-- One line of the clear: skipped where the SDR cache holds it, written with zeros where its port takes it, at most 64 in
flight on each port, and lost on a FAILED port; a chunk that a join is copying takes none (R184, R229, R393). False: it waits. -/
def Dev.sdrClearOne (d : Dev) : Bool × Dev :=
  let k := d.sdr.prog
  let n := (d.memLoc (d.sdrMem k * 128)).1
  let on : Dev := ({ d with sdr := { d.sdr with prog := k + 1 } }).mirror (.sdrClear (k + 1) false)
  if d.inChunk (d.sdrMem k) then (false, d)
  else if d.sdrCached k then (true, on)
  else if Mp.dead (d.mp n) then (true, on.report (R.MPn_EVT.WR_LOST n) n 0 (d.sdrMem k * 128) 0)
  else if (d.mp n).st = 3 ∧ d.clearsOn n < 64 then
    (true, ({ on with sdr := { on.sdr with flight := d.sdr.flight ++ [k] } }).memWrite (d.sdrMem k) Mask.full ⟨0, false⟩)
  else (false, d)

/-- The clear goes on in ascending order until a line waits. -/
def Dev.sdrClear : Nat → Dev → Dev
  | 0, d => d
  | n + 1, d =>
    if !d.sdr.clearing || d.sdrLines ≤ d.sdr.prog then d
    else
      let r := d.sdrClearOne
      if r.1 then Dev.sdrClear n r.2 else r.2

/-- The clear does what it can: no more than 64 writes on each of 8 ports, and the lines it skips. A mirror side takes the
clear's writes from the mirror stream (Table TWN-2). -/
def Dev.sdrPump (d : Dev) : Dev := if d.twn.mirror then d else Dev.sdrClear (d.sdr.cache.length + 513) d

/-- A clear write has been answered: the next ones go. -/
def Dev.clearAnswered (d : Dev) (line : Nat) : Dev :=
  match d.sdr.flight.find? (fun k => d.sdrMem k == line) with
  | some k => ({ d with sdr := { d.sdr with flight := d.sdr.flight.erase k } }).sdrPump
  | none => d

/-- The next level acknowledges the oldest issued write of a line; one that its port never sent is lost. -/
def nextLevelWriteAck (line loads : Nat) (d : Dev) : Dev :=
  let n := (d.memLoc (line * 128)).1
  match d.issuedOf line with
  | some e =>
    if d.lineFailed line then d.wbLost e
    else (if d.gcr.role = .worker then d else d.countLoad n loads).wbAcked e
  | none => if d.sdr.flight.any (fun k => d.sdrMem k == line) then (d.countLoad n loads).clearAnswered line else d

/-- NEXT_LEVEL_WRITE_ACK. -/
def execNextLevelWriteAck (line loads : Nat) (s : State) : Host.Outcome State Fault Refusal :=
  onCore s (nextLevelWriteAck line loads)

/-- A write to the next level ends in an error. The manual gives a failed clear write no effect of its own: the clear goes
on (log entry 15). -/
def wrFail (line : Nat) (d : Dev) : Dev :=
  match d.issuedOf line with
  | some e => if d.lineFailed line then d.wbLost e else d.wbFailed e
  | none => d.clearAnswered line

/-- WR_FAIL. -/
def execWrFail (line : Nat) (s : State) : Host.Outcome State Fault Refusal := onCore s (wrFail line)

/-! ## Victims (R54, R67) -/

/-- The earliest waiting allocation copies its victim's dirty lines once the shared pool has room for them all; one whose group
is lost meanwhile looks for another way (R67, R320). -/
def victimCopy (txid : Nat) (d : Dev) : Dev :=
  match d.txn? txid with
  | some t =>
    let set := d.setOf t.line
    let w := t.way.getD 0
    match d.header? set with
    | some h =>
      if t.phase ≠ .waitCopy ∨ d.pip.copyWait.head? ≠ some txid then d
      else if d.pip.lost.getLsbD (w / 4) then
        let d := { d with pip := { d.pip with copyWait := d.pip.copyWait.drop 1 } }
        (((d.allocDone set w txid).gather { t with phase := .snooping, way := none }).wbSettleAll).wakeRoom
      else if d.poolFree < (dirtyLines (h.way w)).length then d
      else
        let d := { d with pip := { d.pip with copyWait := d.pip.copyWait.drop 1 } }
        let stream := ((allocClass t.kind).bind (fun c => d.allocWith t.pol c t.line)).getD false
        (((d.allocWay set h w t.line stream false).gather { t with phase := .snooping }).wbSettleAll).wakeRoom
    | none => d
  | none => d

/-- VICTIM_COPY. -/
def execVictimCopy (txid : Nat) (s : State) : Host.Outcome State Fault Refusal := onCore s (victimCopy txid)

/-- A request that waits for a way looks again. -/
def victimWaitEligible (txid : Nat) (d : Dev) : Dev :=
  match d.txn? txid with
  | some t => if t.phase = .waitWay then d.gather { t with phase := .snooping } else d
  | none => d

/-- VICTIM_WAIT_ELIGIBLE. -/
def execVictimWaitEligible (txid : Nat) (s : State) : Host.Outcome State Fault Refusal := onCore s (victimWaitEligible txid)

/-! ## Combining and flushes (R52, R68) -/

/-- A partial entry whose COMB_TO × 256 cycles have passed goes out. -/
def combiningTimeout (line : Nat) (d : Dev) : Dev :=
  let n := 256 * d.get R.WBF_CFG.COMB_TO
  d.wbForce (fun e => e.line == line && e.bound && n ≤ e.age)

/-- COMBINING_TIMEOUT. -/
def execCombiningTimeout (line : Nat) (s : State) : Host.Outcome State Fault Refusal := onCore s (combiningTimeout line)

/-- FLUSH issues every partial entry. -/
def wbfFlush (d : Dev) : Dev := d.wbForce (fun e => e.bound)

/-- WBF_FLUSH. -/
def execWbfFlush (src : Src) (s : State) : Host.Outcome State Fault Refusal :=
  onDev s (fun d => d.write src R.WBF_FLUSH.FLUSH.ofs wbfFlush)

/-- Every changed header is written to its lane and stays in HDC unchanged. -/
def Dev.flushHeaders (d : Dev) : Dev := (d.hdc.ents.filter (·.changed)).foldl Dev.cleanHeader d

/-- FLUSH starts a flush; during a flush it has no further effect. -/
def hdcFlush (d : Dev) : Dev :=
  if d.hdc.flushing then d else ({ d with hdc := { d.hdc with flushing := true } }).flushHeaders

/-- HDC_FLUSH. -/
def execHdcFlush (src : Src) (s : State) : Host.Outcome State Fault Refusal :=
  onDev s (fun d => d.write src R.HDC_FLUSH.FLUSH.ofs hdcFlush)

/-- The last write of a flush is accepted by its lane. -/
def flushDone (d : Dev) : Dev :=
  if d.hdc.flushing then ({ d with hdc := { d.hdc with flushing := false } }).raise R.HDC_EVT.FLUSH_DONE else d

/-- FLUSH_DONE. -/
def execFlushDone (s : State) : Host.Outcome State Fault Refusal := onCore s flushDone

/-- CLR takes the oldest set off the quarantine list (R48). -/
def pipQuarClr (d : Dev) : Dev := { d with pip := { d.pip with quar := d.pip.quar.drop 1 } }

/-- PIP_QUAR_CLR. -/
def execPipQuarClr (src : Src) (s : State) : Host.Outcome State Fault Refusal :=
  onDev s (fun d => d.write src R.PIP_QUAR_CLR.CLR.ofs pipQuarClr)

/-! ## Probes (R131) -/

/-- GO asks for a lookup of the probe address; without effect while one is in progress. -/
def dirProbeGo (d : Dev) : Dev :=
  if d.pip.probe then d
  else ({ d with pip := { d.pip with probe := true } }).set R.DIR_PROBE_STAT.DONE 0

/-- DIR_PROBE_GO. -/
def execDirProbeGo (src : Src) (s : State) : Host.Outcome State Fault Refusal :=
  onDev s (fun d => d.write src R.DIR_PROBE_CTRL.GO.ofs dirProbeGo)

/-- The probe reads the entry in the next open slot, behind waiting boarding reads; until one is open nothing happens. The
manual does not say which address counts when DIR_PROBE_ADDR is rewritten after GO: the model takes the one that the register
holds at the lookup (log entry 100). -/
def dirProbeDone (d : Dev) : Dev :=
  if !d.pip.probe || d.slotsLeft == 0 then d
  else
    let line := d.get64 R.DIR_PROBE_ADDR_LO.ADDR_LO.ofs / 128
    let d := { d with pip := { d.pip with probe := false }, cnf := { d.cnf with used := d.cnf.used + 1 } }
    let d := d.slot ⟨0x015, 0, 0, 0, line⟩
    let d := d.set R.DIR_PROBE_STAT.DONE 1
    match d.dirEnt line with
    | some e => (d.set R.DIR_PROBE_STAT.HIT 1).set64 R.DIR_PROBE_DATA_LO.DATA_LO.ofs e.pack
    | none => (d.set R.DIR_PROBE_STAT.HIT 0).set64 R.DIR_PROBE_DATA_LO.DATA_LO.ofs 0

/-- DIR_PROBE_DONE. -/
def execDirProbeDone (s : State) : Host.Outcome State Fault Refusal := onCore s dirProbeDone

/-- The bitmap of a list of ports. -/
def portMap (l : List Nat) : Nat := bitsOf 32 (fun n => l.contains n)

/-- A timetable probe reads the entry of DEP_PROBE_IDX. -/
def depProbeGo (d : Dev) : Dev :=
  let d := d.set R.DEP_PROBE_STAT.DONE 1
  match d.dep? (d.get R.DEP_PROBE_IDX.IDX) with
  | none => d.set R.DEP_PROBE_STAT.VALID 0
  | some e =>
    let d := ((d.set R.DEP_PROBE_STAT.VALID 1).set R.DEP_PROBE_STAT.PHASE e.phase.code).set
      R.DEP_PROBE_STAT.BOARDED e.boarded.length
    let d := (d.set R.DEP_PROBE_STAT.IMM (if e.imm then 1 else 0)).set R.DEP_PROBE_STAT.COUNT e.count
    let d := (d.set64 R.DEP_PROBE_T_LO.T_LO.ofs e.t.toNat).set64 R.DEP_PROBE_ADDR_LO.ADDR_LO.ofs (e.line * 128)
    let d := (d.set R.DEP_PROBE_MAN.MAN e.man).set R.DEP_PROBE_MAN.DTAG e.dtag
    (d.set R.DEP_PROBE_PORTS.PORTS (portMap e.ports)).set R.DEP_PROBE_CIDX.CIDX e.cidx

/-- DEP_PROBE_GO. -/
def execDepProbeGo (src : Src) (s : State) : Host.Outcome State Fault Refusal :=
  onDev s (fun d => d.write src R.DEP_PROBE_CTRL.GO.ofs depProbeGo)

end Sys2Proof.Machine
end

