-- ==== Sys2Proof/Machine/Hier.lean ====
section
/-! DEFINITION. A worker toward its manager, a manager toward the twins of its workers, and the clear of the SDR region: the
commands of R168 to R199, R227, R228, R248 and R249. -/

namespace Sys2Proof.Machine

/-! ## Manager snoops and DepBoard arrive (R192, R194, R195, R248) -/

/-- The free entries of an uplink's manager-snoop reserve (R195). -/
def Dev.reserveId (d : Dev) (uplink : Nat) : Option Nat := d.freeId 16 (3552 + 16 * uplink)

/-- A manager's message takes its reserve entry and begins, or waits for active work on its sector. What arrives on the
uplink that is not the active one is discarded (R168, R222). -/
def Dev.fromManager (d : Dev) (uplink opc : Nat) (t : Txn) : Dev :=
  if d.gcr.role ≠ .worker ∨ d.twn.mirror ∨ uplink ≠ d.hie.upl then d
  else match d.reserveId uplink with
    | none => d.protoErr (30 + uplink) opc
    | some id => ((d.pmu1 0x025).addTxn { t with id := id }).promote id

/-- A snoop of the manager. -/
def managerSnoop (uplink : Nat) (sn : Snoop) (mtxid addr : Nat) (d : Dev) : Dev :=
  (if d.gcr.role = .worker ∧ uplink = d.hie.upl then d.bump64 R.HIE_SNP_CNT_LO.SNP_LO.ofs 1 else d).fromManager uplink (snoopOpc sn)
    { id := 0, kind := .mgrSnoop sn, org := .manager uplink, tag := mtxid, line := lineOf addr, phase := .queued }

/-- MANAGER_SNOOP. -/
def execManagerSnoop (uplink : Nat) (sn : Snoop) (mtxid addr : Nat) (s : State) : Host.Outcome State Fault Refusal :=
  onCore s (managerSnoop uplink sn mtxid addr)

/-- The masked lines of a sector. -/
def maskedLines (addr : Nat) (mask : BitVec 8) : List Nat :=
  ((List.range 8).filter (fun n => mask.getLsbD n)).map (fun n => lineOf addr / 8 * 8 + n)

/-- A DepBoard of the manager. -/
def depBoard (uplink idx addr : Nat) (mask : BitVec 8) (d : Dev) : Dev :=
  d.fromManager uplink 0x15
    { id := 0, kind := .depBoard, org := .manager uplink, line := lineOf addr / 8 * 8, phase := .queued, aux := idx,
      lines := maskedLines addr mask }

/-- DEPBOARD. -/
def execDepBoard (uplink idx addr : Nat) (mask : BitVec 8) (s : State) : Host.Outcome State Fault Refusal :=
  onCore s (depBoard uplink idx addr mask)

/-- The line a DepAck names: by the timetable's entry, else the first that awaits one (log entry 14). -/
def Dev.ackedLine (d : Dev) (t : Txn) (idx lidx : Nat) : Option Nat :=
  match d.depC? idx with
  | some e => t.owed.find? (fun l => l == e.line + lidx)
  | none => t.owed.head?

/-- DepAck arrives: the line may be written again, and DepBoard retires with its last one (R249). -/
def depAckAtWorker (uplink idx lidx : Nat) (d : Dev) : Dev :=
  if !d.heeds uplink then d
  else match d.cnf.txns.find? (fun t => t.kind == .depBoard && t.aux == idx && (d.ackedLine t idx lidx).isSome) with
  | some t =>
    let owed := t.owed.filter (fun l => some l != d.ackedLine t idx lidx)
    (if owed.isEmpty then d.freeTxn t.id else d.putTxn { t with owed := owed }).wbKick
  | none => d

/-- DEPACK_AT_WORKER. -/
def execDepAckAtWorker (uplink idx lidx : Nat) (s : State) : Host.Outcome State Fault Refusal :=
  onCore s (depAckAtWorker uplink idx lidx)

/-! ## Answers of the manager (R169 to R178, R292) -/

/-- The transaction an uplink response belongs to. -/
def Dev.upTxn (d : Dev) (oport tag : Nat) : Option Txn :=
  d.cnf.txns.find? (fun t => t.phase == .uplink && t.up.isSome && Txn.upTag t == (oport, tag))

/-- The own-work write an uplink response belongs to. -/
def Dev.upEnt (d : Dev) (oport tag : Nat) : Option WbEnt :=
  if oport = 30 then d.wbf.ents.find? (fun e => e.issued && e.tag == tag && (d.agentWrite e).isNone) else none

/-- The write-buffer entry that carries a transaction's own write leaves the buffer with its answer. -/
def Dev.freeOwned (d : Dev) (t : Txn) : Dev :=
  match d.wbf.ents.find? (fun e => e.issued && e.txn == some t.id) with
  | some e => d.wbFree e
  | none => d

/-- A grant of E or D. -/
def grantsX (g : LState) : Bool := g == .E || g == .D

/-- The worker's grant Ack to the manager (R93). -/
def Dev.upAck (d : Dev) (g : LState) (txid : Nat) : Dev := if g = .I then d else d.tell d.uplink (.ackA txid true)

/-- An Upgrade whose agent's copy has gone meanwhile, or which the manager has carried out as RdOwn, is one here too
(R107, R178, R194). -/
def upgradeNow (t : Txn) (data : Bool) : Txn :=
  { t with asOwn := t.asOwn || data || t.lost, phase := .snooping, up := none, upTkt := none, hadX := false }

/-- A cached copy takes the data received, a fill for a read into an occupied way (R178, Table CAC-6). -/
def Dev.replaceCopy (d : Dev) (t : Txn) (p : Payload) : Dev :=
  match (d.usable t.line).bind (fun h => (d.hitWay h t.line).map (fun w => (h, w))) with
  | some (h, w) =>
    let d := if t.kind = .wrPart then d else d.putHeader (d.setOf t.line) (h.readHit w d.groupsOn)
    d.fillLine (d.setOf t.line) w t.line p false
  | none => d

/-- Data from the manager: never allocated with the grant I; else filled, and granted on (R175 to R178). -/
def Dev.upData (d : Dev) (t : Txn) (g : LState) (txid : Nat) (p : Payload) : Dev :=
  let d := d.upAck g txid
  let own : Bool := t.up == some .upgrade || g == .D
  let keep : Bool := g != .D && (g != .I || t.kind == .wrPart)
  let d := if keep then d else d.giveUpWay t
  let t := upgradeNow { t with upX := t.upX || grantsX g, dirty := g == .D, way := none } own
  if g = .I ∧ t.kind ≠ .wrPart then d.deliver t p
  else
    let d := d.replaceCopy t p
    let d := if grantsX g then d.setExc t.line else d
    d.gather { t with got := some (if g = .D then p else t.got.getD p) }

/-- Ack from the manager: a write is done there, an Append has its offset, an Upgrade has X. -/
def Dev.upAcked (d : Dev) (t : Txn) (g : LState) (txid : Nat) (offset : Option Nat) : Dev :=
  match t.kind with
  | .wrFull | .wrPart => (((d.freeOwned t).writtenUp t).markIfClean t.line).wakeWriters t.line
  | .append =>
    let off := offset.getD 0
    let d := d.logRetired ⟨t.org, t.tag, t.tph, t.line - 2 ^ 41, .append, off⟩
    (d.respond t.org (fun q => .ack q t.tag .I 0 (some off))).freeTxn t.id
  | _ =>
    let d := (d.upAck g txid).setExc t.line
    d.gather (upgradeNow { t with upX := t.upX || grantsX g } false)

/-- Err from the manager is relayed to the agent; a write of the write buffer is also reported there (R171, R568). -/
def Dev.upErr (d : Dev) (t : Txn) (sub : Nat) : Dev :=
  match t.kind with
  | .wrFull | .wrPart =>
    let d := (d.freeOwned t).report R.WBF_EVT.WR_FAIL 0 0 (t.line * 128) 0
    (((d.giveUpWay t).sendErr t.org t.tag sub).freeTxn t.id).wakeWriters t.line
  | _ => ((d.giveUpWay t).sendErr t.org t.tag sub).freeTxn t.id

/-- Sends a transaction's uplink request again, with the ticket it holds (R144, R222). -/
def Dev.upAgain (d : Dev) (t : Txn) : Dev :=
  let q := Txn.upTag t
  match t.up with
  | some .append => d.tell d.uplink (.upAppend d.widx q.1 q.2 t.upTph (t.line - 2 ^ 41) t.ch t.pay t.upTkt)
  | some k => d.tell d.uplink (.upReq d.widx k q.1 q.2 t.upTph t.snooped t.ch t.mask t.pay t.upTkt)
  | none => d

/-- A Stby of the manager: the request is sent again with its ticket (R144). -/
def Dev.upStby (d : Dev) (t : Txn) (k : Nat) : Dev :=
  let t := { t with upTkt := some k }
  (d.putTxn t).upAgain t

/-- A Stby for an own-work write: it is sent again with its ticket. -/
def Dev.entStby (d : Dev) (e : WbEnt) (k : Nat) : Dev :=
  let e := { e with tkt := some k }
  (d.setWb (mapIf (fun x => x.num == e.num) (fun _ => e) d.wbf.ents)).ownWrite e

/-- The answer to a write-buffer write. -/
def Dev.entAnswered (d : Dev) (e : WbEnt) : UpAns → Dev
  | .err _ => d.wbFailed e
  | .stby k => d.entStby e k
  | _ => d.wbAcked e

/-- The answer to a forwarded Depart goes to its agent (R238). -/
def Dev.relayDepart (d : Dev) (oport tag : Nat) (ans : UpAns) : Dev :=
  if d.hie.fwd.any (fun f => f.1 == oport && f.2.1 == tag) then
    let d := { d with hie := { d.hie with fwd := dropFirst (fun f => f.1 == oport && f.2.1 == tag) d.hie.fwd } }
    match ans with
    | .err sub => d.tell oport (.err 0 tag sub)
    | .stby k => d.tell oport (.stby 0 tag k)
    | _ => d.tell oport (.ack 0 tag .I 0 none)
  else d

/-- The opcode of a manager's answer. -/
def upOpc : UpAns → Nat
  | .data _ _ p => if p.psn then 0x31 else 0x30
  | .ack .. => 0x20
  | .stby _ => 0x21
  | .err _ => 0x22

/-- A response arrives on an uplink; what the active uplink does not bring is discarded (R168, R222). -/
def uplinkResponse (uplink oport tag : Nat) (ans : UpAns) (d : Dev) : Dev :=
  if d.gcr.role ≠ .worker ∨ d.twn.mirror ∨ uplink ≠ d.hie.upl then d
  else match d.upTxn oport tag, d.upEnt oport tag with
    | some t, _ =>
      match ans with
      | .data g txid p => d.upData t g txid p
      | .ack g txid off => d.upAcked t g txid off
      | .stby k => d.upStby t k
      | .err sub => d.upErr t sub
    | none, some e => d.entAnswered e ans
    | none, none =>
      if d.hie.fwd.any (fun f => f.1 == oport && f.2.1 == tag) then d.relayDepart oport tag ans
      else d.protoErr (30 + uplink) (upOpc ans)

/-- UPLINK_RESPONSE. -/
def execUplinkResponse (uplink oport tag : Nat) (ans : UpAns) (s : State) : Host.Outcome State Fault Refusal :=
  onCore s (uplinkResponse uplink oport tag ans)

/-- The active uplink goes down: reported; its transactions and write-backs keep waiting (R199). -/
def uplinkDown (d : Dev) : Dev := if d.gcr.role = .worker then d.raise R.HIE_EVT.UPLINK_DOWN else d

/-- UPLINK_DOWN. -/
def execUplinkDown (s : State) : Host.Outcome State Fault Refusal := onCore s uplinkDown

/-! ## The clear of the SDR region (R184, R186) -/

/-- The clear begins with the end of Train; a mirror side follows the serving side's (R184, R186, R472). -/
def Dev.startSdrClear (d : Dev) : Dev :=
  if d.gcr.role = .worker ∨ d.sdr.initDone then d
  else ({ d with sdr := { d.sdr with clearing := true, prog := if d.twn.mirror then d.sdr.prog else 0 } }).sdrPump

/-- The clear has come to its end: every line is cleared or skipped, and no clear write is in flight; else it goes on as
far as it can. -/
def sdrInitDone (d : Dev) : Dev :=
  if d.sdr.clearing && d.sdrLines ≤ d.sdr.prog && d.sdr.flight.isEmpty && !d.twn.mirror then
    (({ d with sdr := { d.sdr with clearing := false, initDone := true } }).mirror (.sdrClear d.sdr.prog true)).raise
      R.SDR_EVT.INIT_DONE
  else d.sdrPump

/-- SDR_INIT_DONE. -/
def execSdrInitDone (s : State) : Host.Outcome State Fault Refusal := onCore s sdrInitDone

/-! ## Takeovers of a neighbour (R227, R228) -/

/-- A serving side's bit. -/
def Dev.setServ (d : Dev) (k sd : Nat) : Dev :=
  { d with hie := { d.hie with serv := putBit d.hie.serv k (sd == 1) } }

/-- One transaction sends its unanswered snoops of slot k again, to the slot's new serving side; those that a berth hold
keeps will go there. -/
def Dev.resendSlot (k : Nat) (d : Dev) (t : Txn) : Dev :=
  let mine : Nat × Snoop → Bool := fun e => e.1 / 2 == k
  let dn := d.slotPort k
  let held := mapIf mine (fun e => (dn, e.2)) t.held
  if !t.await.any mine then (if t.held.any mine then d.putTxn { t with held := held } else d)
  else
    let d := d.putTxn { t with held := held, await := mapIf mine (fun e => (dn, e.2)) t.await,
                               tag := if t.kind = .board ∧ t.phase ≠ .waitSdr then dn + 1 else t.tag }
    (t.await.filter mine).foldl (fun d e =>
      if t.kind = .board ∧ t.phase ≠ .waitSdr then d.tell dn (.depBoard t.depIdx (t.line / 8 * 8) (sectorMask t.owed))
      else d.tell dn (.snp e.2 t.id t.snooped)) d

/-- A departure goes again to the slot's new serving side: its announcement if unanswered, and every line not acknowledged
(R271, log entry 79). -/
def Dev.resendDep (k : Nat) (d : Dev) (e : Dep) : Dev :=
  if e.phase = .announcing ∧ e.toAnswer.contains k then Dev.announceTo e d k
  else (e.acks.filter (fun a => a.1 == k)).foldl (fun d a => match e.boarded.find? (fun b => b.idx == a.2) with
    | some b => Dev.sendDepLine e b d k
    | none => d) d

/-- An answer to an announcement for no entry comes no more: the slot's new serving side is told that it is cancelled. -/
def Dev.cancelStale (d : Dev) (k : Nat) : Dev :=
  let mine := d.dep.stale.filter (fun x => x.2.1 == k)
  mine.foldl (fun d x => d.tell (d.slotPort k) (.depCancel x.1 x.2.2)) (d.setStale (d.dep.stale.filter (fun x => x.2.1 != k)))

/-- TakeOver on the downlink of worker index 2k + s: that side serves slot k, and unanswered snoops go there; the worker's
re-sent requests are handled under R224. -/
def takeoverDownlink (port _epoch : Nat) (d : Dev) : Dev :=
  if d.gcr.role ≠ .manager then d
  else
    let k := port / 2
    let d := d.setServ k (port % 2)
    let mine := (d.cnf.txns.filter (fun t => t.slot == some k)).map (·.id)
    let d := { d with twn := { d.twn with
        slotWin := if d.twn.slotWin.contains k then d.twn.slotWin else d.twn.slotWin ++ [k],
        unsent := d.twn.unsent ++ mine.filter (fun n => !d.twn.unsent.contains n) } }
    let d := (d.cnf.txns.foldl (Dev.resendSlot k) d).cancelStale k
    d.dep.table.foldl (Dev.resendDep k) d

/-- TAKEOVER_DOWNLINK. -/
def execTakeoverDownlink (port epoch : Nat) (s : State) : Host.Outcome State Fault Refusal :=
  onCore s (takeoverDownlink port epoch)

/-- An EPOCH is later than another, modulo 2^16. -/
def laterEpoch (a b : Nat) : Bool := (a + 65536 - b) % 65536 != 0 && (a + 65536 - b) % 65536 < 32768

/-- Every outstanding uplink request goes out on the new active uplink, one that holds a ticket as its retry (R222). -/
def Dev.resendUplink (d : Dev) : Dev :=
  let d := (d.cnf.txns.filter (fun t => t.phase == .uplink)).foldl Dev.upAgain d
  let d := (d.wbf.ents.filter (fun e => e.issued && (d.agentWrite e).isNone)).foldl Dev.ownWrite d
  d.hie.fwd.foldl (fun d f => d.tell d.uplink f.2.2) d

/-- TakeOver with a later EPOCH on an uplink of a worker under a manager pair. HomeMoved goes out on the other uplink if that
link is up, in LP too, and nothing else leaves on it any more: what waited for it is sent again on the new one (R222, R228). -/
def takeoverUplink (uplink epoch : Nat) (d : Dev) : Dev :=
  if d.gcr.role ≠ .worker ∨ !d.flag R.HIE_CFG.MGR_PAIR ∨ !laterEpoch epoch d.hie.epoch then d
  else
    let d := { d with hie := { d.hie with upl := uplink, epoch := epoch } }
    let other := 31 - uplink
    let d := (d.setPort other { d.port other with txq := [] })
    let d := { d with twn := { d.twn with held := d.twn.held.filter (fun e => e.2.1 != other) } }
    let d := if 3 ≤ (d.port other).st then d.tell other (.homeMoved epoch) else d
    d.resendUplink

/-- TAKEOVER_UPLINK. -/
def execTakeoverUplink (uplink epoch : Nat) (s : State) : Host.Outcome State Fault Refusal :=
  onCore s (takeoverUplink uplink epoch)

end Sys2Proof.Machine
end

