-- ==== Sys2Proof/Machine/Sweeps.lean ====
section
/-! DEFINITION. Passes over the sets and ranges: way-group power-down and loss sweeps, the Drain pass, range maintenance
(R72 to R84, R320 to R325, R474, R569). -/

namespace Sys2Proof.Machine

/-! ## Taking a set (R73) -/

/-- A transaction is active on a line that a way of a set holds, for ways that satisfy a test. -/
def Dev.setInUse (d : Dev) (set : Nat) (h : Header) (p : Nat → Bool) : Bool :=
  d.cnf.txns.any (fun t => t.phase.active && t.line < 2 ^ 41 && (t.line :: t.victim.toList).any (fun l =>
    d.setOf l == set && (match d.wayOf h l with | some w => p w | none => false))) ||
  d.pip.alloc.any (fun a => a.1 == set && p a.2.1) ||
  d.scb.flight.any (fun f => d.setOf f.2 == set && (match d.hitWay h f.2 with | some w => p w | none => false))

/-- A pass writes a header to its lane. -/
def Dev.passWrite (d : Dev) (set : Nat) (h : Header) : Dev :=
  if (d.header? set).isSome then (d.putHeader set h).cleanHeader ⟨set, h, true⟩
  else (d.writeHeader ⟨set, h, true⟩).mirror (.header set h false)

/-- The dirty lines of ways that satisfy a test. -/
def dirtyIn (h : Header) (p : Nat → Bool) : Nat :=
  ((List.range 16).filter p).foldl (fun a w => a + (dirtyLines (h.way w)).length) 0

/-! ## Way-group sweeps -/

/-- The dirty lines of a set's ways that a loss sweep writes to the next level poisoned: those on lost lanes, without a
mirror side's copy (R320). -/
def Dev.poisonedIn (d : Dev) (set : Nat) (h : Header) (ws : List Nat) : Nat :=
  if d.twn.st = .mirrored ∧ !d.twn.mirror then 0
  else ws.foldl (fun a w =>
    a + ((dirtyLines (h.way w)).filter (fun n => (d.lane (d.lineLoc set w n).1).st == 5)).length) 0

/-- A sweep empties group g in a set (step 3, R320). -/
def Dev.emptyGroup (d : Dev) (set g : Nat) (h : Header) : Dev :=
  let ws := (List.range 4).map (fun k => 4 * g + k)
  let d := d.bumpSat R.DSC_LOSS_POISON_CNT.CNT (d.poisonedIn set h ws)
  let d := ws.foldl (fun d w => if (h.way w).occupied then d.copyDirty set w (h.way w) .clean else d) d
  let h2 := ws.foldl (fun h w => if (h.way w).occupied then h.clearWay w else h) h
  d.passWrite set { h2 with wgOff := putBit h2.wgOff g true }

/-- The sweep goes on to the next set. -/
def Dev.sweepOn (d : Dev) (w : Sweep) : Dev := { d with pip := { d.pip with sweep := some { w with next := w.next + 1 } } }

/-- The sweep takes its next set: once no active transaction uses a way of the group there and the write buffer has room
for its dirty lines. A set with WG_OFF set, or whose header cannot be used, is passed over. -/
def sweepSet (d : Dev) : Dev :=
  match d.pip.sweep with
  | none => d
  | some w =>
    if d.sets ≤ w.next then d
    else
      let inG : Nat → Bool := fun k => k / 4 == w.g
      match d.passHeader w.next with
      | (none, d) => d.sweepOn w
      | (some h, d) =>
        if h.wgOff.getLsbD w.g then d.sweepOn w
        else if d.setInUse w.next h inG || d.poolOpen < dirtyIn h inG then d
        else (d.emptyGroup w.next w.g h).sweepOn w

/-- SWEEP_SET. -/
def execSweepSet (s : State) : Host.Outcome State Fault Refusal := onCore s sweepSet

/-- Every set is swept and every write-back of the sweep acknowledged (step 4). -/
def Dev.sweepOver (d : Dev) (w : Sweep) : Bool :=
  (d.sets ≤ w.next) && !d.wbf.ents.any (fun e => e.kind == .clean)

/-- Before its rails go off every output of a lane is driven low; the lane is off, or stays lost (R313). -/
def Dev.laneOff (d : Dev) (n : Nat) : Dev :=
  let l := d.lane n
  let l := { l with low := true, live := false, due0 := 0, due1 := 0 }
  (d.setLane n (if l.st = 5 then l else { l with st := 1, step := 0 })).emit (.laneLow n)

/-- The lanes of a group go to self-refresh; or their outputs are driven low and clamped low, and then their rails switched
off (R311, R313, R317). -/
def Dev.sleepLanes (d : Dev) (g : Nat) (off : Bool) : Dev :=
  if off then (((d.groupLanes g).foldl Dev.laneOff d).clampPads (5 + g) .low).driveRail g false
  else (d.groupLanes g).foldl Dev.laneSleeps d

/-- The next loss that waited starts its sweep (R322). -/
def Dev.nextLoss (d : Dev) : Dev :=
  match d.pip.lossWait with
  | [] => d
  | g :: l => ({ d with pip := { d.pip with lossWait := l } }).startLossSweep g

/-- The end of a sweep: the group sleeps, its domain is switched off, SWEEP_DONE (steps 5 and 6, R320). -/
def Dev.endSweep (d : Dev) (g : Nat) (railsOff : Bool) : Dev :=
  let d := (d.sleepLanes g railsOff).turnOff (5 + g)
  let d := { d with pwr := { d.pwr with waking := putBit d.pwr.waking g false }, pip := { d.pip with sweep := none } }
  let d := ((d.dropToken 3 g).setWgReq g true).raise R.PIP_EVT.SWEEP_DONE
  let d := if (d.pip.lost ||| ~~~ d.groupsOn) = BitVec.allOnes 4 then d.enterRecovery else d
  d.nextLoss

/-- A power-down sweep ends. -/
def sweepDone (d : Dev) : Dev :=
  match d.pip.sweep with
  | some w =>
    if !w.loss && d.sweepOver w then d.endSweep w.g ((d.get R.PWR_WG_CFG.RAIL_OFF).testBit w.g) else d
  | none => d

/-- SWEEP_DONE. -/
def execSweepDone (s : State) : Host.Outcome State Fault Refusal := onCore s sweepDone

/-- A loss sweep ends: the group's rails are switched off whatever PWR_WG_CFG says, and the mode shows Degraded (R320). -/
def lossSweepDone (d : Dev) : Dev :=
  match d.pip.sweep with
  | some w => if w.loss && d.sweepOver w then (d.endSweep w.g true).remode else d
  | none => d

/-- LOSS_SWEEP_DONE. -/
def execLossSweepDone (s : State) : Host.Outcome State Fault Refusal := onCore s lossSweepDone

/-- PWR_WG_REQ[g] as it reads. -/
def Dev.wgReq (d : Dev) (g : Nat) : Bool := (d.get R.PWR_WG_REQ.REQ).testBit g

/-- A power-down of group g is refused: the last powered group, another sweep, or outside modes 5 to 9 (R72). -/
def Dev.sweepRefused (d : Dev) (g : Nat) : Bool :=
  (d.groupsOn &&& ~~~ d.pip.lost &&& ~~~ BitVec.ofNat 4 (2 ^ g)) == 0 || d.pip.sweep.isSome || !d.gcr.mode.serving

/-- A write of 1 to PWR_WG_REQ[g] (R72, R449). -/
def wayGroupPowerDown (g : Nat) (d : Dev) : Dev :=
  if d.dozeActive then d.raise R.PWR_EVT.WG_REFUSED
  else if d.wgReq g then d
  else if d.sweepRefused g then d.raise R.PIP_EVT.SWEEP_REFUSED
  else ({ d with pip := { d.pip with sweep := some ⟨g, 0, false⟩, lastGroup := g } }).setWgReq g true

/-- WAY_GROUP_POWER_DOWN. -/
def execWayGroupPowerDown (src : Src) (g : Nat) (s : State) : Host.Outcome State Fault Refusal :=
  onDev s (fun d => d.write src R.PWR_WG_REQ.REQ.ofs (wayGroupPowerDown g))

/-- A power-down sweep of group g stops after the set in progress; swept sets keep WG_OFF (R75). -/
def Dev.stopSweep (d : Dev) (g : Nat) : Dev :=
  match d.pip.sweep with
  | some w =>
    if w.g == g && !w.loss then ({ d with pip := { d.pip with sweep := none } }).setWgReq g false else d
  | none => d

/-- A write of 0 to PWR_WG_REQ[g] during the sweep. -/
def sweepStop (g : Nat) (d : Dev) : Dev := if d.dozeActive then d.raise R.PWR_EVT.WG_REFUSED else d.stopSweep g

/-- SWEEP_STOP. -/
def execSweepStop (src : Src) (g : Nat) (s : State) : Host.Outcome State Fault Refusal :=
  onDev s (fun d => d.write src R.PWR_WG_REQ.REQ.ofs (sweepStop g))

/-- A group that is off wakes: with rails off, its lanes return through the whole start-up; the wake takes a token of kind
3 (R76, R325, R439). -/
def Dev.wakeGroup (d : Dev) (g : Nat) : Dev :=
  if d.domOn (5 + g) || !d.wgReq g then d
  else (d.setWgReq g false).askToken 3 g

/-- A write of 0 to PWR_WG_REQ[g] while the group is off. -/
def wayGroupWake (g : Nat) (d : Dev) : Dev := if d.dozeActive then d.raise R.PWR_EVT.WG_REFUSED else d.wakeGroup g

/-- WAY_GROUP_WAKE. -/
def execWayGroupWake (src : Src) (g : Nat) (s : State) : Host.Outcome State Fault Refusal :=
  onDev s (fun d => d.write src R.PWR_WG_REQ.REQ.ofs (wayGroupWake g))

/-! ## The Drain pass (R474) -/

/-- A way whose dirty lines have become clean. -/
def cleanWay (x : Way) : Way := { x with dty := 0 }

/-- The Drain pass copies each dirty line of a set to the write buffer and clears its dirty bit. -/
def Dev.cleanSet (d : Dev) (set : Nat) (h : Header) : Dev :=
  let d := (List.range 16).foldl (fun d w =>
    if (h.way w).occupied then d.copyDirty set w (h.way w) .clean else d) d
  d.putHeader set { h with ways := h.ways.map cleanWay }

/-- The pass goes on to the next set. -/
def Dev.drainOn (d : Dev) : Dev := { d with pip := { d.pip with drainNext := d.pip.drainNext + 1 } }

/-- The clean pass takes its next set. -/
def drainSet (d : Dev) : Dev :=
  if !d.pip.drainOn || decide (d.sets ≤ d.pip.drainNext) then d
  else
    let set := d.pip.drainNext
    match d.passHeader set with
    | (none, d) => d.drainOn
    | (some h, d) =>
      if dirtyIn h (fun _ => true) = 0 then d.drainOn
      else if d.setInUse set h (fun _ => true) || d.poolOpen < dirtyIn h (fun _ => true) then d
      else if (d.header? set).isSome then (d.cleanSet set h).drainOn
      else match d.makeRoom set false with
        | none => d
        | some d => ((d.installHeader set h).cleanSet set h).drainOn

/-- DRAIN_SET. -/
def execDrainSet (s : State) : Host.Outcome State Fault Refusal := onCore s drainSet

/-! ## Range maintenance (R78 to R84, R569) -/

/-- Replaces the maintenance engine's state. -/
def Dev.setMnt (d : Dev) (m : Mnt) : Dev := { d with pip := { d.pip with mnt := m } }

/-- The sets that HDC or a header lane lists; every other set has a zero header. -/
def Dev.listedSets (d : Dev) : List Nat :=
  let inHdc := d.hdc.ents.map (·.set)
  let inLanes := (d.store.filter (fun e => 16 * 2 ^ 32 ≤ e.1)).map
    (fun e => 2 * (e.1 % 2 ^ 32) + (e.1 / 2 ^ 32 - 16))
  inHdc ++ inLanes.filter (fun s => !inHdc.contains s && (s < d.sets))

/-- The least number of a list that is not below k. -/
def leastFrom (k : Nat) (l : List Nat) : Option Nat := (l.filter (k ≤ ·)).min?

/-- The valid lines of a header's ways. -/
def Dev.linesOf (d : Dev) (set : Nat) (h : Header) : List Nat :=
  (List.range 16).flatMap (fun w =>
    (validLines (h.way w)).map (fun n => d.lineAt set (h.way w).tag.toNat n))

/-- The place of a tracked line in DIR: its set, then its way. -/
def dirPlace (e : DirEnt) : Nat := e.line % 65536 * 16 + e.way

/-- A WHOLE pass has come to the end of one of its parts. -/
def Mnt.nextStage (m : Mnt) : Mnt := { m with stage := m.stage + 1, cur := 0 }

/-- What a WHOLE pass acts on next (R79). It goes through the cache by set, then DIR by set and way, then at a manager the
SDR region in ascending order through the SDR cache. It acts once on each line it finds. -/
def Dev.mntWalk (d : Dev) : Dev :=
  let m := d.pip.mnt
  match m.stage with
  | 0 => match leastFrom m.cur d.listedSets with
    | some set =>
      let r := d.passHeader set
      r.2.setMnt { m with cur := set + 1, todo := (r.1.map (d.linesOf set)).getD [] }
    | none => d.setMnt m.nextStage
  | 1 =>
    let es := d.dir.ents.filter (fun e => e.st != DirSt.DI)
    match leastFrom m.cur (es.map dirPlace) with
    | some k => d.setMnt { m with cur := k + 1, todo := (es.filter (fun e => dirPlace e == k)).map (·.line) }
    | none => d.setMnt m.nextStage
  | 2 =>
    if d.gcr.role ≠ .manager ∨ d.sdrLines ≤ m.cur then d.setMnt m.nextStage
    else match d.sdrFetch m.cur with
      | (false, d) => d.setMnt { m with asked := some m.cur }
      | (true, d) =>
        let here := (List.range 32).map (fun i => 32 * m.cur + i)
        let held := here.filter (fun x => (d.sdrEnt x).st != DirSt.DI || d.sdr.unknown.contains x)
        d.setMnt { m with cur := m.cur + 1, todo := held.flatMap (fun x => (List.range 8).map (8 * x + ·)) }
  | _ => d

/-- A START is refused (R82). -/
def Dev.mntRefused (d : Dev) (op : Nat) : Bool := d.pip.mnt.busy || op == 0 || !d.gcr.mode.serving

/-- START begins a pass, or is refused; OP and WHOLE are taken by the same write. The pass keeps the OP, WHOLE and LIMIT of
its START whatever is written to the registers later, and PIP_MNT_PROG follows it: the manual does not say so (log entry
71). -/
def mntStart (op : Nat) (whole : Bool) (d : Dev) : Dev :=
  let d := (d.set R.PIP_MNT_CTRL.OP op).set R.PIP_MNT_CTRL.WHOLE (if whole then 1 else 0)
  if d.mntRefused op then d.raise R.PIP_EVT.MNT_REFUSED
  else
    let a := d.get64 R.PIP_MNT_BASE_LO.BASE_LO.ofs / 128
    let b := d.get64 R.PIP_MNT_LIMIT_LO.LIMIT_LO.ofs / 128
    d.setMnt { busy := true, op := op, whole := whole, next := a, last := b }

/-- MNT_START. -/
def execMntStart (src : Src) (op : Nat) (whole : Bool) (s : State) : Host.Outcome State Fault Refusal :=
  onDev s (fun d => d.write src R.PIP_MNT_CTRL.START.ofs (mntStart op whole))

/-- ABORT stops the issue of further lines; without a running operation it has no effect (R83). -/
def mntAbort (d : Dev) : Dev :=
  if d.pip.mnt.busy then d.setMnt { d.pip.mnt with aborting := true } else d

/-- MNT_ABORT. -/
def execMntAbort (src : Src) (s : State) : Host.Outcome State Fault Refusal :=
  onDev s (fun d => d.write src R.PIP_MNT_CTRL.ABORT.ofs mntAbort)

/-- Work of the maintenance engine. -/
def isMaint (t : Txn) : Bool := match t.kind with | .maint _ => true | _ => false

/-- Maintenance transactions in flight. -/
def Dev.mntFlight (d : Dev) : Nat := (d.cnf.txns.filter isMaint).length + (d.cnf.pool.filter isMaint).length

/-- A directory tracks the line, or a worker holds its sector (R80). -/
def Dev.mntTracked (d : Dev) (line : Nat) : Bool :=
  (d.dirEnt line).isSome ||
  (d.gcr.role == .manager && ((d.sdrEnt (sectorOf line)).st != DirSt.DI || d.sdr.unknown.contains (sectorOf line)))

/-- A line is valid in the cache, by its header as HDC or its lane gives it, or tracked by a directory (R45, R80). -/
def Dev.mntActs (d : Dev) (line : Nat) : Bool × Dev :=
  let r := d.passHeader (d.setOf line)
  ((r.1.bind (fun h => r.2.hitWay h line)).isSome || r.2.mntTracked line, r.2)

/-- A line is issued, or skipped. -/
def Dev.mntOne (d : Dev) (line : Nat) : Dev :=
  match d.mntActs line with
  | (true, d) =>
    let m := d.pip.mnt
    let d := d.setMnt { m with lines := min (2 ^ 32 - 1) (m.lines + 1), seen := if m.whole then line :: m.seen else m.seen }
    d.issue { id := 0, kind := .maint m.op, org := .maint, line := line, phase := .queued }
  | (false, d) => d

/-- The pass goes on past a line, which is issued or skipped; a manager reads its sector's SDR entry first, which no line
beyond its memory has (R80, R180, R183). -/
def Dev.mntConsider (d : Dev) (line : Nat) (on : Mnt) : Dev :=
  if d.gcr.role = .manager ∧ sdrLine (sectorOf line) < d.sdrLines then
    match d.sdrFetch (sdrLine (sectorOf line)) with
    | (true, d) => (d.setMnt on).mntOne line
    | (false, d) => d.setMnt { d.pip.mnt with asked := some (sdrLine (sectorOf line)) }
  else (d.setMnt on).mntOne line

/-- The pass considers its next line, or a WHOLE pass looks for the next ones. -/
def mntLine (d : Dev) : Dev :=
  let m := d.pip.mnt
  if !m.busy || m.aborting || m.asked.isSome || d.twn.mirror || Nat.blt (d.get R.PIP_MNT_CFG.DEPTH_M1) d.mntFlight then d
  else if m.whole then
    match m.todo with
    | [] => d.mntWalk
    | l :: ls => if m.seen.contains l then d.setMnt { m with todo := ls } else d.mntConsider l { m with todo := ls }
  else if m.next ≤ m.last then d.mntConsider m.next { m with next := m.next + 1 }
  else d

/-- MNT_LINE. -/
def execMntLine (s : State) : Host.Outcome State Fault Refusal := onCore s mntLine

/-- No line is left to consider. -/
def Mnt.over (m : Mnt) : Bool := if m.whole then m.todo.isEmpty && Nat.ble 3 m.stage else Nat.blt m.last m.next

/-- The operation ends once every line in flight is complete (R83, R569). -/
def mntDone (d : Dev) : Dev :=
  let m := d.pip.mnt
  if m.busy && (m.aborting || m.over) && d.mntFlight == 0 then
    (d.setMnt { m with busy := false, aborting := false, aborted := m.aborting,
                       next := if m.aborting then m.next else m.last + 1 }).raise R.PIP_EVT.MNT_DONE
  else d

/-- MNT_DONE. -/
def execMntDone (s : State) : Host.Outcome State Fault Refusal := onCore s mntDone

end Sys2Proof.Machine
end

