-- ==== Sys2Proof/Machine/Lanes.lean ====
section
/-! DEFINITION. The lanes of the data store, the scrubber, the flip mask and halted channels: the commands of R298 to R325
and R335 to R357. -/

namespace Sys2Proof.Machine

/-! ## Start-up of a lane (R301 to R303) -/

/-- A lane's pads are its own: its domain is on and released (R426). -/
def Dev.laneFree (d : Dev) (n : Nat) : Bool := d.domOn (laneDomain n) && !d.padHeld (laneDomain n)

/-- The rails of a lane are good; those of the header lanes always are (R315). -/
def Dev.laneGood (d : Dev) (n : Nat) : Bool := 16 ≤ n || d.pwr.railGood.getLsbD (n / 4)

/-- A lane at step 2: its devices are reset, so that nothing is refreshed, postponed or counted. -/
def Lane.inReset (l : Lane) : Lane :=
  { l with st := 2, step := 2, rfm := false, rfmAt := 0, acts := [], live := false, low := false, post0 := 0, post1 := 0,
           due0 := 0, due1 := 0 }

/-- A lane with good rails goes on to its reset hold and initialisation, and asks for its training token (steps 2 and 3). -/
def Dev.laneInit (d : Dev) (n : Nat) : Dev :=
  ((d.setLane n (d.lane n).inReset).emit (.laneCmd n 0 "RESET" (d.get R.DSC_VR_CFG.STABLE))).askToken 4 n

/-- Start-up begins in Train for every populated lane, and for the lanes of a waking group whose rails were off; step 1
drives the rails. FAIL_STEP of an earlier start-up is cleared (log entry 111). -/
def laneStartUp (n : Nat) (d : Dev) : Dev :=
  let l := d.lane n
  let due : Bool := (d.gcr.mode == .train && l.st ≤ 1) || (d.laneWaking n && (l.st == 1 || l.st == 5))
  if !d.populated n || !due || !d.laneFree n then d
  else
    let d := d.setLane n { l with st := 2, step := 1, tries := 0, failStep := 0 }
    if d.laneGood n then d.laneInit n
    else if d.pwr.railEn.getLsbD (n / 4) then d
    else d.driveRail (n / 4) true

/-- LANE_START_UP. -/
def execLaneStartUp (lane : Nat) (s : State) : Host.Outcome State Fault Refusal := onCore s (laneStartUp lane)

/-- DS_VR_PG[g] rises after its enable: the lanes of the group that wait go on (R301, R316). -/
def dsVrPgRise (g : Nat) (d : Dev) : Dev :=
  if !d.pwr.railEn.getLsbD g || d.pwr.railGood.getLsbD g then d
  else
    let d := ({ d with pwr := { d.pwr with railGood := putBit d.pwr.railGood g true } }).wakeDone 4 (5 + g)
    ((d.groupLanes g).filter (fun n => (d.lane n).st == 2 && (d.lane n).step == 1)).foldl Dev.laneInit d

/-- DS_VR_PG_RISE. -/
def execDsVrPgRise (g : Nat) (s : State) : Host.Outcome State Fault Refusal := onCore s (dsVrPgRise g)

/-- A lane that waits in step 2 takes the training token it holds or may now be granted (R303, R439). -/
def Dev.takeTraining (d : Dev) (n : Nat) : Bool × Dev :=
  let l := d.lane n
  if l.st ≠ 2 ∨ l.step ≠ 2 then (false, d)
  else
    let d := d.grantTokens
    (d.hasToken 4 n, d)

/-- A mode-register entry applies to a lane (R300). -/
def Dev.mrApplies (d : Dev) (n k : Nat) : Bool :=
  d.flag (R.DSC_MRk.VALID k) && d.get (R.DSC_MRk.MA k) != 0 && d.get (R.DSC_MRk.MA k) != 4 &&
  (if n < 16 then d.flag (R.DSC_MRk.DATA k) else d.flag (R.DSC_MRk.HDR k))

/-- A mode-register write: the register in the high byte of the argument, the value in the low one. -/
def Dev.mrw (d : Dev) (n rank ma op : Nat) : Dev := d.emit (.laneCmd n rank "MRW" (ma * 256 + op))

/-- MR0: BL32 in bits 1:0, and the CAS latency coded in steps of 2 from 22 in bits 6:2 (R300; the code is JEDEC's, log
entry 83). -/
def Dev.mr0 (d : Dev) : Nat := 2 + 4 * ((d.get R.DSC_TIM0.CL - 22) / 2 % 32)

/-- MR4: the refresh mode in bit 4 (R300; the place is JEDEC's, log entry 83). -/
def Dev.mr4 (d : Dev) : Nat := 16 * d.get R.DSC_CFG.REF_MODE

/-- Step 4: MR0 and MR4, then the valid entries in ascending order (R300). -/
def Dev.writeModes (d : Dev) (n : Nat) : Dev :=
  let d := (d.ranksOf n).foldl (fun d r => (d.mrw n r 0 d.mr0).mrw n r 4 d.mr4) d
  ((List.range 32).filter (d.mrApplies n)).foldl (fun d k =>
    (d.ranksOf n).foldl (fun d r =>
      if (if r = 0 then d.flag (R.DSC_MRk.RK0 k) else d.flag (R.DSC_MRk.RK1 k)) then
        d.mrw n r (d.get (R.DSC_MRk.MA k)) (d.get (R.DSC_MRk.OP k))
      else d) d) d

/-- Step 4, its end: the refresh-management parameters are read; whether the devices require it, and their threshold, are
theirs to say (R301, R308; log entry 80). -/
def Dev.readRfm (d : Dev) (n : Nat) : Dev :=
  let r := (d.eachRank n "MRR" 58).takeFree
  r.2.setLane n { r.2.lane n with rfm := Config.rfmRequired r.1, rfmAt := max 1 (Config.rfmThreshold r.1) }

/-- Step 11: a test pattern is written and read back in every bank of a rank (R301). -/
def Dev.testBanks (n : Nat) (d : Dev) (rank : Nat) : Dev :=
  (List.range 32).foldl (fun d b => d.emit (.laneCmd n rank "PATTERN" b)) d

/-- One step of a lane's start-up, from 4 to 11 (R301). -/
def Dev.startStep (n : Nat) (d : Dev) (k : Nat) : Dev :=
  if k = 4 then (d.writeModes n).readRfm n
  else if k = 5 then (d.zqLane n).laneLives n
  else if k = 6 then d.eachRank n "CSCA_TRAIN" 0
  else if k = 7 then d.eachRank n "READ_TRAIN" 0
  else if k = 8 then d.eachRank n "WRITE_LEVEL" 0
  else if k = 9 then d.eachRank n "WRITE_TRAIN" 0
  else if k = 10 then (if d.flag R.DSC_TRAIN_CFG.DFE_EN then d.eachRank n "DFE_TRAIN" 0 else d)
  else (d.ranksOf n).foldl (Dev.testBanks n) d

/-- Steps 4 to k of a lane's start-up. -/
def Dev.startSteps (d : Dev) (n k : Nat) : Dev := ((List.range (k - 3)).map (· + 4)).foldl (Dev.startStep n) d

/-- The wake of a way group is complete once each of its lanes is ready: its token is returned, and a lost group is back
in service (R76, R325). -/
def Dev.endWake (d : Dev) (g : Nat) : Dev :=
  if d.pwr.waking.getLsbD g && (d.groupLanes g).all (fun n => (d.lane n).st == 3) then
    let d := { d with pwr := { d.pwr with waking := putBit d.pwr.waking g false },
                      pip := { d.pip with lost := putBit d.pip.lost g false } }
    (d.returnToken 3 g).remode
  else d

/-- Steps 4 to 12: the lane is ready and returns its token. -/
def trainingTokenGrant (n us : Nat) (d : Dev) : Dev :=
  match d.takeTraining n with
  | (false, d) => d
  | (true, d) =>
    let d := d.startSteps n 11
    let d := (d.setLane n { d.lane n with st := 3, step := 12, lost := false }).set (R.DSLnn_TRAIN_TIME.US n) us
    let d := (d.returnToken 4 n).remode
    if n < 16 then d.endWake (n / 4) else d

/-- TRAINING_TOKEN_GRANT. -/
def execTrainingTokenGrant (lane us : Nat) (s : State) : Host.Outcome State Fault Refusal :=
  onCore s (trainingTokenGrant lane us)

/-- A step from 4 to 11 fails: the steps up to it have run; it is recorded, and the lane repeats from step 2, up to RETRY
times. A step that is skipped cannot fail (R301, R302). The lane's training token goes back, and the repeated step 3 asks for one
again (log entry 111). -/
def trainFail (n step : Nat) (d : Dev) : Dev :=
  if step < 4 ∨ 11 < step ∨ (step = 10 ∧ !d.flag R.DSC_TRAIN_CFG.DFE_EN) then d
  else match d.takeTraining n with
    | (false, d) => d
    | (true, d) =>
      let d := d.startSteps n step
      let l := d.lane n
      let d := (d.setLane n { l with failStep := step }).raise R.DSC_EVT.TRAIN_FAIL
      let d := d.returnToken 4 n
      if l.tries < d.get R.DSC_TRAIN_CFG.RETRY then (d.setLane n { d.lane n with tries := l.tries + 1 }).laneInit n
      else d.loseLane n 0

/-- TRAIN_FAIL. -/
def execTrainFail (lane step : Nat) (s : State) : Host.Outcome State Fault Refusal := onCore s (trainFail lane step)

/-! ## Header fill (R304, R305) -/

/-- Every header lane is ready in Train: the fill starts, once after each reset. -/
def headerFill (d : Dev) : Dev :=
  if d.gcr.mode == .train && (d.lane 16).st == 3 && (d.lane 17).st == 3 && !d.dsc.filling && !d.dsc.fillDone then
    { d with dsc := { d.dsc with filling := true, fillProg := 0 } }
  else d

/-- HEADER_FILL. -/
def execHeaderFill (s : State) : Host.Outcome State Fault Refusal := onCore s headerFill

/-- The rest of the fill, and its end. -/
def fillDone (d : Dev) : Dev :=
  if d.dsc.filling then
    let d := d.fillTo (d.sets / 2)
    ({ d with dsc := { d.dsc with filling := false, fillDone := true } }).raise R.DSC_EVT.FILL_DONE
  else d

/-- FILL_DONE. -/
def execFillDone (s : State) : Host.Outcome State Fault Refusal := onCore s fillDone

/-! ## Refresh, temperature, calibration (R306 to R310) -/

/-- A lane is refreshed and polled. -/
def Dev.refreshed (d : Dev) (n : Nat) : Bool := (d.lane n).live

/-- The postponement limit (Table DST-7). -/
def Dev.postLimit (d : Dev) : Nat := min 4 (d.get R.DSC_CFG.POSTPONE)

/-- Accesses to a rank are waiting. -/
def Dev.rankBusy (d : Dev) (n rank : Nat) : Bool := (d.slotsRead n).any (fun x => d.rankOf n x == rank)

/-- A rank's interval elapses. The rank is refreshed, or postpones while accesses to it wait, and then asks for a burst
token. The refresh that brings it to its limit is not postponed: all of them are issued at once, ahead of every waiting
access and without a token (R306, R307). -/
def refresh (n rank : Nat) (d : Dev) : Dev :=
  let l := d.lane n
  if !d.refreshed n || d.laneRanks n ≤ rank then d
  else if !d.rankBusy n rank then (d.refreshOnce n rank).armRefresh n rank
  else if l.post rank + 1 < d.postLimit then
    ((d.setLane n (l.setPost rank (l.post rank + 1))).armRefresh n rank).askToken 0 (refreshOwner n rank)
  else ((d.setLane n (l.setPost rank (l.post rank + 1))).burstRefresh n rank).armRefresh n rank

/-- REFRESH. -/
def execRefresh (lane rank : Nat) (s : State) : Host.Outcome State Fault Refusal := onCore s (refresh lane rank)

/-- The postponed refreshes of a rank are issued: under a granted token, or at the limit (R307). -/
def postponedRefreshBurst (n rank : Nat) (d : Dev) : Dev :=
  let l := d.lane n
  if !d.refreshed n || l.post rank = 0 then d
  else
    let d := d.grantTokens
    if d.hasToken 0 (refreshOwner n rank) || d.postLimit ≤ l.post rank then d.burstRefresh n rank else d

/-- POSTPONED_REFRESH_BURST. -/
def execPostponedRefreshBurst (lane rank : Nat) (s : State) : Host.Outcome State Fault Refusal :=
  onCore s (postponedRefreshBurst lane rank)

/-- A bank whose activates have reached the threshold its devices report takes an RFM, without a token; that relieves it of
as many activates (R308; log entry 80). -/
def rfm (n rank bank : Nat) (d : Dev) : Dev :=
  let l := d.lane n
  let b := bankAt rank bank
  if d.refreshed n && decide (rank < d.laneRanks n) && l.rfm && decide (l.rfmAt ≤ actsAt l.acts b) then
    ((d.easeActs n l.rfmAt (· == b)).emit (.laneCmd n rank "RFM" bank)).pmu1 (0x244 + 8 * n)
  else d

/-- RFM. -/
def execRfm (lane rank bank : Nat) (s : State) : Host.Outcome State Fault Refusal := onCore s (rfm lane rank bank)

/-- TEMP_HIGH has been raised for a rank. -/
def Lane.hot (l : Lane) (rank : Nat) : Bool := if rank = 0 then l.hot0 else l.hot1

/-- The class of a rank, and that it has risen to 2x. -/
def Lane.setTemp (l : Lane) (rank c : Nat) : Lane :=
  if rank = 0 then { l with temp0 := c, hot0 := l.hot0 || 1 ≤ c } else { l with temp1 := c, hot1 := l.hot1 || 1 ≤ c }

/-- MR4 of a rank is read: its class, TEMP_HIGH at its first rise to 2x, TEMP_CRIT and a record beyond it (R309). -/
def mr4Poll (n rank cls : Nat) (d : Dev) : Dev :=
  if !d.refreshed n || d.laneRanks n ≤ rank then d
  else
    let d := d.emit (.laneCmd n rank "MR4" 0)
    let c := min 2 cls
    let l := d.lane n
    let d := (d.setLane n (l.setTemp rank c)).raiseIf (1 ≤ c && !l.hot rank) R.DSC_EVT.TEMP_HIGH
    if c = 2 then d.report R.DSC_EVT.TEMP_CRIT n rank 0 0 else d

/-- MR4_POLL. -/
def execMr4Poll (lane rank cls : Nat) (s : State) : Host.Outcome State Fault Refusal := onCore s (mr4Poll lane rank cls)

/-- The ZQ period elapses: each rank of every ready lane is calibrated (R310). -/
def zqCalibration (d : Dev) : Dev := ((List.range 18).filter d.refreshed).foldl Dev.zqLane d

/-- ZQ_CALIBRATION. -/
def execZqCalibration (s : State) : Host.Outcome State Fault Refusal := onCore s zqCalibration

/-- A lane leaves self-refresh: SRX, tXS, ZQ calibration and an MR4 read, then access (R312). -/
def selfRefreshExit (n : Nat) (d : Dev) : Dev :=
  if (d.lane n).st ≠ 4 ∨ !d.laneFree n then d
  else
    let d := ((d.eachRank n "SRX" (d.get R.DSC_TIM4.TXS)).zqLane n).eachRank n "MR4" 0
    let d := (d.setLane n { d.lane n with st := 3 }).laneLives n
    if n < 16 then d.endWake (n / 4) else d

/-- SELF_REFRESH_EXIT. -/
def execSelfRefreshExit (lane : Nat) (s : State) : Host.Outcome State Fault Refusal := onCore s (selfRefreshExit lane)

/-! ## Rails (R316 to R318) -/

/-- DS_VR_PG[g] does not rise within PG_TO: a wake-step timeout (R316, R450). -/
def dsVrPgTimeout (g : Nat) (d : Dev) : Dev :=
  if d.pwr.railEn.getLsbD g && !d.pwr.railGood.getLsbD g then d.wakeTimeout 4 (5 + g) (5 + g) else d

/-- DS_VR_PG_TIMEOUT. -/
def execDsVrPgTimeout (g : Nat) (s : State) : Host.Outcome State Fault Refusal := onCore s (dsVrPgTimeout g)

/-- DS_VR_PG[g] stays high after its enable fell; the group is off all the same (R317). -/
def vrStuck (g : Nat) (d : Dev) : Dev := d.raiseIf (!d.pwr.railEn.getLsbD g) R.DSC_EVT.VR_STUCK

/-- VR_STUCK. -/
def execVrStuck (g : Nat) (s : State) : Host.Outcome State Fault Refusal := onCore s (vrStuck g)

/-- A power-good falls while its group is on: every lane of the group is lost; a lost group that was waking is lost again
(R318, R325). -/
def vrFault (g : Nat) (d : Dev) : Dev :=
  if d.pwr.railEn.getLsbD g && d.pwr.railGood.getLsbD g then
    let d := ({ d with pwr := { d.pwr with railGood := putBit d.pwr.railGood g false } }).raise R.DSC_EVT.VR_FAULT
    let d := (d.groupLanes g).foldl (fun d n => d.loseLane n 1) d
    if d.pwr.waking.getLsbD g then d.groupFails g else d
  else d

/-- VR_FAULT. -/
def execVrFault (g : Nat) (s : State) : Host.Outcome State Fault Refusal := onCore s (vrFault g)

/-! ## The scrubber (R335, R351 to R354) -/

/-- Stage 8 of Doze entry has come: the scrubber pauses until the wake resumes it (R444, R448). -/
def Dev.scrubPaused (d : Dev) : Bool := d.pip.stopped && d.pwr.doze.any (fun z => Nat.ble 7 z.stage)

/-- The scrubber runs (R351). -/
def Dev.scrubs (d : Dev) : Bool := d.flag scbEN && d.gcr.mode.serving && !d.scrubPaused

/-- WIN_S seconds pass while the scrubber is not running: the window closes (R335). -/
def correctionWindowClose (d : Dev) : Dev := if d.scrubs then d else d.closeWindow

/-- CORRECTION_WINDOW_CLOSE. -/
def execCorrectionWindowClose (s : State) : Host.Outcome State Fault Refusal := onCore s correctionWindowClose

/-- Replaces the scrubber's state. -/
def Dev.setScb (d : Dev) (x : Scb) : Dev := { d with scb := x }

/-- The end of a lap (R354). -/
def Dev.lapEnd (d : Dev) : Dev :=
  let d := (d.set64 R.SCB_LAP_LO.LAP_LO.ofs (d.elapsedUs d.scb.start.toNat)).bumpWrap R.SCB_LAPS.LAPS 1
  ((d.setScb { d.scb with lines := 0, start := BitVec.ofNat 64 d.bel.ticks }).raise R.SCB_EVT.LAP_DONE).closeWindow

/-- The scrubber has finished a set. -/
def Dev.setDone (d : Dev) : Dev :=
  let last : Bool := d.scb.pos + 1 == d.sets
  let d := d.setScb { d.scb with inSet := false, pos := if last then 0 else d.scb.pos + 1 }
  if last then d.lapEnd else d

/-- The first lap begins with the first set taken (R354). -/
def Dev.lapBegin (d : Dev) : Dev :=
  if d.scb.begun then d else d.setScb { d.scb with begun := true, start := BitVec.ofNat 64 d.bel.ticks }

/-- A header as the scrubber has it: from HDC, or read from its lane, which scrubs it, whether the set is quarantined or not
(R351). -/
def Dev.scrubHeader (d : Dev) (set : Nat) : Option Header × Dev :=
  match d.header? set with
  | some h => (some h, d)
  | none =>
    if (d.lane (headerLoc set).1).st = 5 then (none, d)
    else (d.driveRd (headerLoc set).1 (headerLoc set).2).readHeader set 0

/-- The scrubber takes a set: its header, and the valid lines of ways in groups that are powered and not lost (R351). -/
def Dev.takeSet (d : Dev) : Dev :=
  let d := d.lapBegin
  let set := d.scb.pos
  match d.scrubHeader set with
  | (none, d) => d.setScb { d.scb with inSet := true, todo := [] }
  | (some h, d) =>
    let ws := (List.range 16).filter (fun w => d.groupsOn.getLsbD (w / 4) && !d.pip.lost.getLsbD (w / 4))
    let l := ws.flatMap (fun w => (validLines (h.way w)).map (fun n => d.lineAt set (h.way w).tag.toNat n))
    d.setScb { d.scb with inSet := true, todo := l }

/-- A lane has an access in flight or waiting. -/
def Dev.laneBusy (d : Dev) (n : Nat) : Bool := d.scb.flight.any (fun f => f.1 == n) || !(d.slotsRead n).isEmpty

/-- The header of the scrubber's set must be read, and its lane is in use (R352). -/
def Dev.headerBusy (d : Dev) : Bool := (d.header? d.scb.pos).isNone && d.laneBusy (headerLoc d.scb.pos).1

/-- The scrubber has finished its set: no line of it is left to read, and no read of it is in flight (R354). -/
def Dev.endSet (d : Dev) : Dev := if d.scb.inSet && d.scb.todo.isEmpty && d.scb.flight.isEmpty then d.setDone else d

/-- A lane is read no more: its group is lost or off, or the header lane is lost (R319, R351). -/
def Dev.laneShut (d : Dev) (n : Nat) : Bool :=
  (d.lane n).st == 5 || (n < 16 && (!d.groupsOn.getLsbD (n / 4) || d.pip.lost.getLsbD (n / 4)))

/-- One step of a burst: a read is issued, a line that is gone or out of service is passed over, or the next set is taken; none
while the line or its lane is in use, or the set's last reads are in flight (R351 to R354). -/
def Dev.scrubStep (d : Dev) : Option Dev :=
  if !d.scb.inSet then (if d.headerBusy then none else some d.takeSet)
  else match d.scb.todo with
    | [] => if d.scb.flight.isEmpty then some d.setDone else none
    | l :: ls =>
      match d.scrubLane l with
      | none => some (d.setScb { d.scb with todo := ls })
      | some p =>
        if d.laneShut p.1 then some (d.setScb { d.scb with todo := ls })
        else if d.lineBusy l || d.laneBusy p.1 then none
        else some (((d.setScb { d.scb with todo := ls, flight := d.scb.flight ++ [(p.1, l)], left := d.scb.left - 1,
                                           lines := d.scb.lines + 1 }).pmu1 0x029).driveRd p.1 p.2)

/-- Steps of a burst until its reads are issued, one must wait, or the steps of this command are used up. -/
def Dev.scrubRun : Nat → Dev → Dev
  | 0, d => d
  | n + 1, d =>
    if d.scb.left = 0 then d
    else match d.scrubStep with
      | some d => Dev.scrubRun n d
      | none => d

/-- Lines of a burst; 0 acts as 1. -/
def Dev.burstLines (d : Dev) : Nat := max 1 (d.get R.SCB_CFG.BURST)

/-- The burst's token is held: its reads go out, at most BURST steps in one command (log entry 13). -/
def Dev.scrubGo (d : Dev) : Dev :=
  let d := if d.scb.token then d else d.setScb { d.scb with token := true, left := d.burstLines }
  (Dev.scrubRun d.burstLines d).endSet

/-- The scrubber obtains its token, or waits for it, and issues reads. -/
def scrubBurst (d : Dev) : Dev :=
  if !d.scrubs || d.scb.gap then d
  else
    let d := if d.scb.token then d else d.askToken 5 0
    if d.hasToken 5 0 then d.scrubGo else d

/-- SCRUB_BURST. -/
def execScrubBurst (s : State) : Host.Outcome State Fault Refusal := onCore s scrubBurst

/-- GAP µs have passed: the scrubber asks for its next token. -/
def scrubGapEnd (d : Dev) : Dev :=
  if d.scb.gap then
    let d := d.setScb { d.scb with gap := false }
    if d.scrubs then d.askToken 5 0 else d
  else d

/-- SCRUB_GAP_END. -/
def execScrubGapEnd (s : State) : Host.Outcome State Fault Refusal := onCore s scrubGapEnd

/-- The burst is over: its token is returned and the gap begins; a pause ends it likewise. -/
def Dev.burstOver (d : Dev) : Dev :=
  if d.scb.token && d.scb.flight.isEmpty && (d.scb.left == 0 || !d.scrubs) then
    (d.setScb { d.scb with token := false, left := 0, gap := true }).returnToken 5 0
  else d

/-- A scrub read completes: classed, written back or rewritten by its class, and reported if uncorrectable (R353). -/
def scrubReadDone (lane : Nat) (noise : Burst) (d : Dev) : Dev :=
  match d.scb.flight.find? (fun f => f.1 == lane) with
  | none => d
  | some f =>
    let loc := d.scrubLane f.2
    let d := d.setScb { d.scb with flight := d.scb.flight.filter (fun x => x.1 != lane) }
    let d := match loc with
      | none => d
      | some p =>
        if (d.lane p.1).st = 5 then d
        else
          let r := d.laneRead p.1 p.2 noise
          if r.1.out = LineOut.uncorrectable then
            r.2.report R.SCB_EVT.UE_SCRUB p.1 (d.rankOf p.1 p.2) (p.2 * 128) 0
          else r.2
    d.endSet.burstOver

/-- SCRUB_READ_DONE. -/
def execScrubReadDone (lane : Nat) (noise : Burst) (s : State) : Host.Outcome State Fault Refusal :=
  onCore s (scrubReadDone lane noise)

/-- A write of 0 to SCB_CTRL.EN pauses the scrubber; it drains while a read is in flight (R354, R161, R162). -/
def scbDisable (d : Dev) : Dev :=
  if d.scb.draining then d
  else
    let d := d.set scbEN 0
    (d.setScb { d.scb with draining := !d.scb.flight.isEmpty }).burstOver

/-- SCB_DISABLE. -/
def execScbDisable (src : Src) (s : State) : Host.Outcome State Fault Refusal :=
  onDev s (fun d => d.write src scbEN.ofs scbDisable)

/-! ## The flip mask and halted channels (R350, R357) -/

/-- ARM arms the flip mask while SEL is 1. -/
def flipArm (d : Dev) : Dev :=
  if d.flag R.ECC_TEST_SEL.SEL then { d with ecc := { d.ecc with armed := true } } else d

/-- FLIP_ARM. -/
def execFlipArm (src : Src) (s : State) : Host.Outcome State Fault Refusal :=
  onDev s (fun d => d.write src R.ECC_FLIP_CTRL.ARM.ofs flipArm)

/-- A write of 0 to SEL discards an armed flip. -/
def flipDiscard (d : Dev) : Dev := ({ d with ecc := { d.ecc with armed := false } }).set R.ECC_TEST_SEL.SEL 0

/-- FLIP_DISCARD. -/
def execFlipDiscard (src : Src) (s : State) : Host.Outcome State Fault Refusal :=
  onDev s (fun d => d.write src R.ECC_TEST_SEL.SEL.ofs flipDiscard)

/-- CLR ends the halts of the channels its bits name, but for those halted in this core cycle (R350). -/
def chanHaltClr (port : Nat) (mask : BitVec 16) (d : Dev) : Dev :=
  let f := R.ECC_CHAN_HALTn.HALT port
  let now := bitsOf 16 (fun c => d.ecc.haltNow.contains (port, c))
  d.set f (d.get f &&& ((65535 ^^^ mask.toNat) ||| now))

/-- CHAN_HALT_CLR. -/
def execChanHaltClr (src : Src) (port : Nat) (mask : BitVec 16) (s : State) : Host.Outcome State Fault Refusal :=
  onDev s (fun d => d.write src (R.ECC_CHAN_HALTn.CLR port).ofs (chanHaltClr port mask))

end Sys2Proof.Machine
end

