-- ==== Sys2Proof/Machine/RegView.lean ====
section
/-! DEFINITION. What a register reads: the values software sees of the state that is not held in the register bank
(R490 to R493, R502, R520, and the register tables of every block). -/

namespace Sys2Proof.Machine

/-- A word of fields, each at its lowest bit. -/
def packWord (l : List (Nat × Nat)) : Word := BitVec.ofNat 32 (l.foldl (fun a f => a + f.2 * 2 ^ f.1) 0)

/-- A truth value as a bit. -/
def b01 (b : Bool) : Nat := if b then 1 else 0

/-- Word 0 or 1 of a 64-bit value. -/
def half64 (v : Nat) (hi : Bool) : Word := BitVec.ofNat 32 (if hi then v / 2 ^ 32 else v)

/-- A held register with fields of the state put over its bank value. -/
def Dev.withLive (d : Dev) (ofs : Nat) (l : List (Nat × Nat)) : Word := d.raw ofs ||| packWord l

/-! ## Page headers (Table REG-2) -/

/-- The page of a block that holds its EN (R493). -/
def enPage : PageKind → Nat → Option Nat
  | .ap0, n | .ap1, n => some (PageKind.base .ap0 n)
  | .dep0, _ | .dep1, _ | .dep2, _ | .dep3, _ => some 0x17000
  | .scb, _ => some 0x22000
  | _, _ => none

/-- DRAINING of a page's function (R161). -/
def Dev.pageDraining (d : Dev) : PageKind → Nat → Bool
  | .ap0, n => (d.port n).draining
  | .dep0, _ => d.dep.draining
  | .scb, _ => d.scb.draining
  | .apd0, _ => d.apd.streams.any (fun e => e.2.draining)
  | _, _ => false

/-- A register of a page header. -/
def Dev.headerView (d : Dev) (p : PageKind) (n off : Nat) : Word :=
  let base := p.base n
  if off = 0x0 then packWord [(0, p.typeCode), (8, n), (13, p.pageNo), (16, 1)]
  else if off = 0x4 then (match enPage p n with | some b => d.raw (b + 4) | none => 1)
  else if off = 0x8 then packWord [(0, b01 (d.pageDraining p n)), (1, b01 (d.pageLocked base))]
  else if off = 0x14 then d.raw (base + 0xC)
  else d.raw (base + off)

/-! ## Blocks -/

/-- CLK_FORCE_STAT.CLOSED: a domain whose power is off reads as forced closed (R421). -/
def Dev.gatesClosed (d : Dev) : BitVec 11 :=
  d.clk.closed ||| BitVec.ofNat 11 (bitsOf 11 (fun b => !d.domOn (if b < 8 then 10 + b else if b < 10 then 18 else 19)))

/-- The AON blocks: GCR, CFG, CLK, PWR, PUR, BEL, CHN. -/
def Dev.aonView (d : Dev) (p : PageKind) (off : Nat) : Option Word :=
  match p, off with
  | .gcr, 0x40 => some (packWord [(0, 0x4096), (16, 0xB1), (24, b01 d.gcr.grade)])
  | .gcr, 0x44 => some (packWord [(0, d.gcr.mode.code), (8, d.gcr.prev)])
  | .gcr, 0x50 => some (d.withLive 0x50 [(0, b01 d.r340), (1, b01 d.gcr.drained), (2, b01 d.gcr.fault)])
  | .gcr, 0x54 =>
    let r := match d.gcr.role with | .standalone => 0 | .worker => 1 | .manager => 2 | .reserved => 3
    some (packWord [(0, r), (2, b01 d.gcr.side), (3, b01 d.gcr.headStrap)])
  | .cfg, 0x4C =>
    some (d.withLive 0x104C [(0, b01 d.cfg.refValid), (1, b01 d.cfg.committing), (2, b01 d.cfg.matching)])
  | .clk, 0x40 => some (BitVec.ofNat 32 d.clk.ready.toNat)
  | .clk, 0x44 => some (BitVec.ofNat 32 d.clk.fail.toNat)
  | .clk, 0x4C => some (packWord [(0, b01 d.clk.refXtal), (1, d.clk.coreSrc), (3, b01 d.clk.xtalFail)])
  | .clk, 0x58 => some (BitVec.ofNat 32 d.clk.gate.toNat)
  | .clk, 0x5C => some (packWord [(0, d.gatesClosed.toNat), (16, (d.clk.gate &&& ~~~ d.gatesClosed).toNat)])
  | .pwr, 0x48 => some (BitVec.ofNat 32 d.pwr.on.toNat)
  | .pwr, 0x4C => some (BitVec.ofNat 32 d.pwr.held.toNat)
  | .pwr, 0x58 =>
    some (packWord [(0, d.get R.PWR_DVFS.TARGET), (4, d.pwr.fpt), (6, d.pwr.vpt), (8, b01 d.pwr.step.isSome),
      (9, b01 d.pwr.pmbOk)])
  | .pwr, 0x74 => some (packWord [(8, b01 d.pwr.doze.isSome)])
  | .pur, 0x48 => some (packWord [(0, min 1023 d.pur.est), (16, min 1023 d.heldCost)])
  | .pur, 0x4C =>
    some (packWord [(0, d.pur.level), (16, bitsOf 6 (fun k => d.pur.waiting.any (fun t => t.1 == k)))])
  | .bel, 0x40 => some (packWord [(8, b01 d.bel.armed), (9, b01 d.bel.markArmed)])
  | .bel, 0x44 => some (packWord [(0, b01 d.bel.locked), (1, b01 d.bel.aligned)])
  | .bel, 0x58 => some (half64 d.bel.now.toNat false)
  | .bel, 0x5C => some (half64 d.bel.now.toNat true)
  | .chn, 0x44 => some (packWord [(0, d.chn.addr), (6, b01 d.chn.head), (7, b01 d.chn.inUp), (8, d.chn.count)])
  | .chn, 0x5C => some (d.withLive 0x605C [(0, b01 (d.chn.flight.any (fun r => r.use == .reg)))])
  | _, _ => none

/-- The event words, queues and the host port. -/
def Dev.eventView (d : Dev) (p : PageKind) (off : Nat) : Option Word :=
  match p, off with
  | .hst, 0x40 => some (packWord [(0, d.hst.width), (3, d.hst.rate), (6, b01 d.hst.up)])
  | .evc0, 0x40 => some (BitVec.ofNat 32 (bitsOf 32 (fun w => d.pend w != 0)))
  | .evc0, 0x44 => some (BitVec.ofNat 32 (bitsOf 4 (fun w => d.pend (32 + w) != 0)))
  | .evc0, 0x48 => some (half64 d.evc.armed.toNat false)
  | .evc0, 0x4C => some (half64 d.evc.armed.toNat true)
  | .evc0, 0x58 => some (BitVec.ofNat 32 d.evc.msgs)
  | .evc0, 0x5C => some (BitVec.ofNat 32 d.evc.frames)
  | .evc0, o => if 0x100 ≤ o ∧ o < 0x190 then some (BitVec.ofNat 32 (d.pend ((o - 0x100) / 4))) else none
  | .que, o =>
    if 0x100 ≤ o then
      let n := (o - 0x100) / 32
      let q := d.queue n
      match (o - 0x100) % 32 with
      | 0 => some (BitVec.ofNat 32 q.recs.length)
      | 4 => some 0
      | 12 => some (d.withLive (0xA000 + o) [(8, b01 (!q.latchH.isEmpty))])
      | _ => none
    else none
  | _, _ => none

/-- Write-buffer entries that are partial and wait. -/
def Dev.wbPartials (d : Dev) : Nat :=
  (d.wbf.ents.filter (fun e => e.mask != Mask.full && e.bound && !e.issued)).length

/-- The next line maintenance considers, as an address; 0 for WHOLE. -/
def Dev.mntProg (d : Dev) : Nat := if d.pip.mnt.whole then 0 else d.pip.mnt.next * 128 % 2 ^ 48

/-- The earliest T on the timetable; all ones when it is empty. -/
def Dev.nextT (d : Dev) : Nat :=
  match d.dep.table with
  | [] => 2 ^ 64 - 1
  | e :: l => ((l.foldl (fun a x => if (x.t - a.t).toInt < 0 then x else a) e).t).toNat

/-- Lines staged for a port, or at a manager held for transfer to the worker on that downlink. -/
def Dev.depStaged (d : Dev) (n : Nat) : Nat :=
  d.dep.table.foldl (fun a e =>
    let here : Bool := if d.gcr.role = .manager then d.slotPort (n / 2) == n && e.accepted.contains (n / 2)
      else e.ports.contains n && !e.overOn n
    if here then a + e.boarded.length else a) 0

/-- The pipeline, its caches and its directories. -/
def Dev.coreView (d : Dev) (p : PageKind) (off : Nat) : Option Word :=
  match p, off with
  | .pip, 0x100 => some (BitVec.ofNat 32 d.sets)
  | .pip, 0x108 => some (packWord [(0, b01 d.pip.sweep.isSome), (1, d.pip.lastGroup)])
  | .pip, 0x10C => some (BitVec.ofNat 32 ((d.pip.sweep.map (·.next)).getD 0))
  | .pip, 0x128 => some (packWord [(0, b01 d.pip.mnt.busy), (1, b01 d.pip.mnt.aborted), (16, d.pip.mnt.fails)])
  | .pip, 0x130 => some (half64 d.mntProg false)
  | .pip, 0x134 => some (half64 d.mntProg true)
  | .pip, 0x138 => some (BitVec.ofNat 32 d.pip.mnt.lines)
  | .pip, 0x140 => some (BitVec.ofNat 32 d.pip.quar.length)
  | .pip, 0x144 => some (BitVec.ofNat 32 (d.pip.quar.head?.getD 0))
  | .pip, 0x14C => some (BitVec.ofNat 32 d.pip.drainNext)
  | .amp, 0x308 => some (half64 d.memSize false)
  | .amp, 0x30C => some (half64 d.memSize true)
  | .amp, 0x310 => some (half64 d.sdrBase false)
  | .amp, 0x314 => some (half64 d.sdrBase true)
  | .hdc, 0x44 => some (packWord [(0, (d.hdc.ents.filter (·.changed)).length), (31, b01 d.hdc.flushing)])
  | .wbf, 0x44 => some (packWord [(0, d.wbUsed), (16, d.wbPartials)])
  | .dir, 0x44 => some (BitVec.ofNat 32 (d.dir.ents.filter (fun e => e.st != DirSt.DI)).length)
  | .dir, 0x48 => some (BitVec.ofNat 32 (d.dir.ents.filter (fun e => e.st != DirSt.DI && e.ovf)).length)
  | .sdr, 0x44 => some (BitVec.ofNat 32 (b01 d.sdr.initDone))
  | .sdr, 0x48 => some (half64 (d.sdr.prog * 128) false)
  | .sdr, 0x4C => some (half64 (d.sdr.prog * 128) true)
  | .cnf, 0x48 => some (packWord [(0, d.cnf.txns.length + d.cnf.tickets.length), (16, d.rsvUsed)])
  | .cnf, 0x4C => some (packWord [(0, (d.cnf.tickets.filter d.ticketLive).length), (16, d.cnf.nextTkt)])
  | .cnf, 0x50 => some (BitVec.ofNat 32 d.cnf.ptr)
  | .cnf, 0x54 => some (BitVec.ofNat 32 d.cnf.holds.length)
  | .dep0, 0x50 =>
    some (packWord [(0, d.pendingDeps), (16, (d.dep.table.filter (fun e => e.boarded.length != e.count)).length)])
  | .dep0, 0x58 => some (half64 d.nextT false)
  | .dep0, 0x5C => some (half64 d.nextT true)
  | .dep3, o =>
    if 0x40 ≤ o ∧ o < 0xC0 then
      let n := (o - 0x40) / 4
      some (packWord [(0, d.depRsv n), (16, d.depStaged n)])
    else none
  | .apd0, 0x44 => some (BitVec.ofNat 32 d.apdInFlight)
  | .apd0, o =>
    if 0x100 ≤ o ∧ o < 0x300 then
      let s := d.stream ((o - 0x100) / 8)
      some (if o % 8 = 0 then packWord [(0, b01 s.en)]
        else packWord [(0, b01 s.draining), (1, b01 s.fault), (2, b01 s.full)])
    else none
  | .apd1, o =>
    if 0x40 ≤ o then
      let s := d.stream ((o - 0x40) / 48)
      match (o - 0x40) % 48 with
      | 16 => some (half64 s.tail false)
      | 20 => some (half64 s.tail true)
      | 24 => some (half64 s.commit false)
      | 28 => some (half64 s.commit true)
      | 32 => some (half64 s.head false)
      | 36 => some (half64 s.head true)
      | _ => none
    else none
  | .hie, 0x44 =>
    let out := (d.cnf.txns.filter (fun t => t.phase == .uplink && t.up.isSome)).length + d.hie.fwd.length +
      (if d.gcr.role = .worker then (d.wbf.ents.filter (fun e => e.issued && (d.agentWrite e).isNone)).length else 0)
    some (packWord [(0, d.hie.upl), (16, min 4096 out)])
  | .hie, 0x4C => some (BitVec.ofNat 32 d.hie.serv.toNat)
  | _, _ => none

/-- Hard count and uncorrectable total that ECC_DEVQ_SEL selects. -/
def Dev.devQ (d : Dev) : Word :=
  let lane := d.get R.ECC_DEVQ_SEL.LANE
  let rank := d.get R.ECC_DEVQ_SEL.RANK
  packWord [(0, min 255 (d.hardCount lane rank (d.get R.ECC_DEVQ_SEL.DEV))), (16, min 255 (d.ueTotal lane rank))]

/-- The lanes that are lost, those whose start-up has not ended again among them (R319, R325). -/
def Dev.lostMap (d : Dev) : Word := BitVec.ofNat 32 (bitsOf 18 (fun n => (d.lane n).lost))

/-- Sums a bit for each lane in a state. -/
def Dev.laneMap (d : Dev) (st : Nat) : Word := BitVec.ofNat 32 (bitsOf 18 (fun n => (d.lane n).st == st))

/-- The data store, its checker and its scrubber. -/
def Dev.storeView (d : Dev) (p : PageKind) (n off : Nat) : Option Word :=
  match p, off with
  | .dsc, 0x68 =>
    let training : Bool := d.dsc.lanes.any (fun l => l.st == 2 && 2 ≤ l.step && l.step ≤ 11)
    let loss : Bool := (d.pip.sweep.map (·.loss)).getD false
    some (packWord [(0, b01 training), (1, b01 d.dsc.filling), (2, b01 d.dsc.fillDone), (3, b01 loss)])
  | .dsc, 0x6C => some (d.laneMap 3)
  | .dsc, 0x70 => some d.lostMap
  | .dsc, 0x74 => some (BitVec.ofNat 32 d.dsc.fillProg)
  | .ecc, 0x54 => some (packWord [(8, b01 d.ecc.armed)])
  | .ecc, 0x74 => some (packWord [(0, d.ecc.loc.length), (16, (d.ecc.loc.filter (·.hard)).length)])
  | .ecc, 0x84 => some d.devQ
  | .scb, 0x44 => some (BitVec.ofNat 32 d.scb.pos)
  | .scb, 0x58 => some (half64 d.scb.lines false)
  | .scb, 0x5C => some (half64 d.scb.lines true)
  | .dsl, 0x40 =>
    let l := d.lane n
    some (packWord [(0, l.st), (4, l.failStep), (8, l.tries), (10, b01 l.rfm), (12, l.temp0), (14, l.temp1)])
  | _, _ => none

/-- The percentage of the present phase of a join copy done (TWN_COPY_PROG.PCT). -/
def Dev.copyPct (d : Dev) : Nat :=
  let of (n : Nat) : Nat := if n = 0 then 0 else min 100 (d.twn.cur * 100 / n)
  match d.twn.phase with
  | 1 => of (65536 + d.sdrLines)
  | 2 => of d.sets
  | 4 => of (d.memSize / 4096)
  | 5 => 100
  | _ => 0

/-- The twin unit; with EN 0 every register but the header and TWN_CFG reads its reset value (Table TWN-9), and so do those of
the TWN clock while its domain is off (R502). -/
def Dev.twinView (d : Dev) (off : Nat) : Option Word :=
  if off = 0x40 then none
  else if !d.flag R.TWN_CFG.EN || (inTwnClock (0x1F000 + off) && !d.domOn 19) then some (resetAt d.gcr.role (0x1F000 + off))
  else match off with
    | 0x50 =>
      some (packWord [(0, b01 d.twn.mirror), (1, d.twn.st.code), (5, b01 (d.tw.st == 3 || d.tw.st == 4)), (8, d.twn.peer),
        (16, d.twn.epoch)])
    | 0x58 => some (BitVec.ofNat 32 d.twn.mseq)
    | 0x5C => some (packWord [(0, d.twn.unacked.length + d.twn.copyUn.length), (16, d.twn.queue.length)])
    | 0x60 => some (packWord [(0, d.twn.phase), (8, d.copyPct)])
    | 0x64 => some (BitVec.ofNat 32 d.twn.log.length)
    | 0x70 => some (packWord [(0, d.tw.st), (3, d.tw.width), (5, d.tw.rate)])
    | _ => none

/-- A Molile Link port. -/
def Dev.portView (d : Dev) (n off : Nat) : Option Word :=
  let p := d.port n
  match off with
  | 0x44 =>
    some (packWord [(0, p.st), (3, p.width), (5, p.rate), (6, d.portKind n), (8, p.peerKind), (11, p.peerAddr),
      (17, p.peerPort), (22, b01 p.lost)])
  | 0x48 => some (packWord [(0, min 255 p.cReq), (8, min 255 p.cSnp), (16, min 255 p.cRsp), (24, min 255 p.cDat)])
  | 0x4C => some (packWord [(0, min 16 p.pWb)])
  | _ => none

/-- A memory port; in the worker role every register but the header reads its reset value (Table LNK-14). -/
def Dev.mpView (d : Dev) (n off : Nat) : Option Word :=
  let m := d.mp n
  if d.gcr.role = .worker then some (resetAt d.gcr.role (PageKind.base .mp n + off))
  else match off with
    | 0x44 => some (packWord [(0, m.st), (3, m.width), (4, b01 m.slow)])
    | 0x48 => some (BitVec.ofNat 32 (m.cap % 65536))
    | 0x54 => some m.ioData
    | 0x58 => some (packWord [(0, b01 m.ioErr)])
    | _ => none

/-- The power domain whose loss makes the status of a page read its reset value (R502, Table CLK-2). -/
def phyDomain : PageKind → Nat → Option Nat
  | .ap0, n | .ap1, n => some (10 + n / 4)
  | .mp, _ => some 18
  | .dsl, n => some (if n < 16 then 5 + n / 4 else 9)
  | _, _ => none

/-- A status register of a page whose PHY is off: DOWN, a lane off or unpopulated, else the reset value. -/
def Dev.darkView (d : Dev) (p : PageKind) (n off : Nat) : Option Word :=
  match (phyDomain p n).map d.domOn with
  | some false =>
    match rowAt (p.base n + off) with
    | some r =>
      if !r.fields.all (fun f => f.acc = .ro) then none
      else match p, off with
        | .ap0, 0x44 => some (packWord [(6, d.portKind n)])
        | .dsl, 0x40 => some (BitVec.ofNat 32 (b01 (d.populated n)))
        | _, _ => some (resetAt d.gcr.role (p.base n + off))
    | none => none
  | _ => none

/-- A register of a block. -/
def Dev.blockView (d : Dev) (p : PageKind) (n off : Nat) : Option Word :=
  match d.darkView p n off with
  | some w => some w
  | none =>
    match p with
    | .gcr | .cfg | .clk | .pwr | .pur | .bel | .chn => d.aonView p off
    | .hst | .evc0 | .que => d.eventView p off
    | .dsc | .ecc | .scb | .dsl => d.storeView p n off
    | .twn => d.twinView off
    | .ap0 => d.portView n off
    | .mp => d.mpView n off
    | _ => d.coreView p off

/-- The value of a register, as a read without a side effect returns it. -/
def Dev.regValue (d : Dev) (ofs : Nat) : Word :=
  match pageAt ofs with
  | none => 0
  | some (p, n) =>
    let off := ofs % 0x1000
    if off < 0x40 then d.headerView p n off
    else match d.blockView p n off with
      | some w => w
      | none => d.raw ofs

end Sys2Proof.Machine
end

