-- ==== Sys2Proof/Machine/Integrity.lean ====
section
/-! DEFINITION. Configuration integrity: CRC-32, the configuration fields, passes, commits and drift (R462, R513 to R518). -/

namespace Sys2Proof.Machine

/-! ## CRC-32 (R462, R514) -/

/-- One byte of the reflected CRC-32. -/
def crcByte (c b : Nat) : Nat :=
  (List.range 8).foldl (fun c _ => if c % 2 = 1 then (c / 2) ^^^ 0xEDB88320 else c / 2) (c ^^^ b)

/-- The CRC-32 of a list of bytes. -/
def crc32 (l : List Nat) : Nat := l.foldl crcByte 0xFFFFFFFF ^^^ 0xFFFFFFFF

/-- The bytes of a word, least significant first. -/
def wordBytes (w : Nat) : List Nat := [w % 256, w / 256 % 256, w / 65536 % 256, w / 16777216 % 256]

/-! ## Configuration fields (R513) -/

/-- The bits of a field. -/
def fieldMask (hi lo : Nat) : Nat := (2 ^ (hi + 1 - lo) - 1) * 2 ^ lo

/-- The configuration bits of a register: its RWL and RWO fields. -/
def RRow.cfgMask (r : RRow) : Nat :=
  r.fields.foldl (fun m f => if f.acc = .rwl ∨ f.acc = .rwo then m + fieldMask f.hi f.lo else m) 0

/-- The page offsets of a row's registers. -/
def RRow.offsets (r : RRow) : List Nat := (List.range (max 1 r.count)).map (fun i => r.off + i * r.stride)

/-- ECC_ERASEn is no configuration field. -/
def isErase (p : PageKind) (off : Nat) : Bool := p == .ecc && 0x200 ≤ off && off < 0x248

/-- The configuration registers of a page in ascending offset, with their configuration bits. -/
def pageConfig (p : PageKind) : List (Nat × Nat) :=
  ((pageRows p).flatMap (fun r => r.offsets.map (fun o => (o, r.cfgMask)))).foldl
    (fun l e => if e.2 = 0 ∨ isErase p e.1 = true then l else bankInsert l e.1 e.2) []

/-- The configuration bits of a page, register by register. -/
def Dev.pageWords (d : Dev) (p : PageKind) (n : Nat) : List Nat :=
  (pageConfig p).map (fun e => (d.regValue (p.base n + e.1)).toNat &&& e.2)

/-- The CRC of a set of registers. -/
def crcWords (l : List Nat) : Nat := crc32 (l.flatMap wordBytes)

/-- The CRC of each page that has a configuration field, by page base; of one without, that of no byte. -/
def Dev.pageCrcs (d : Dev) : List (Nat × Word) :=
  allPages.map (fun q => (q.1.base q.2, BitVec.ofNat 32 (crcWords (d.pageWords q.1 q.2))))

/-- The CRC of every configuration register. -/
def Dev.cfgCrc (d : Dev) : Word := BitVec.ofNat 32 (crcWords (allPages.flatMap (fun q => d.pageWords q.1 q.2)))

/-- The pair digest: every configuration register but those of the TWN page, with HIE_CFG.WIDX as 0 (R207, R514). -/
def Dev.pairDigest (d : Dev) : Word :=
  let d0 := d.set R.HIE_CFG.WIDX 0
  BitVec.ofNat 32 (crcWords ((allPages.filter (fun q => q.1 ≠ .twn)).flatMap (fun q => d0.pageWords q.1 q.2)))

/-! ## Passes (R515, R517, R518) -/

/-- What every pass leaves: the CRCs of the pages and of all, and the pair digest. -/
def Dev.passResult (d : Dev) (us : Nat) : Dev :=
  let crcs := d.pageCrcs
  let now := d.cfgCrc
  let dig := d.pairDigest
  let d := crcs.foldl (fun d e => d.setRaw (e.1 + 0x1C) e.2) d
  ((d.setRaw R.CFG_CRC_NOW.CRC.ofs now).setRaw R.CFG_DIGEST.DIGEST.ofs dig).set R.CFG_CRC_STAT.PASS_US us

/-- The first page whose CRC differs from its reference. -/
def Dev.driftPage (d : Dev) : Nat :=
  match allPages.find? (fun q => bankGet d.cfg.pageRef (q.1.base q.2) != some (d.raw (q.1.base q.2 + 0x1C))) with
  | some q => q.1.base q.2
  | none => 0

/-- The last pass matched, or not. -/
def Dev.setMatch (d : Dev) (b : Bool) : Dev := { d with cfg := { d.cfg with matching := b } }

/-- A pass is compared with the reference (R518). -/
def Dev.comparePass (d : Dev) : Dev :=
  if !d.cfg.refValid then d
  else if d.raw R.CFG_CRC_NOW.CRC.ofs = d.raw R.CFG_CRC_REF.CRC.ofs then d.setMatch true
  else
    let was := d.cfg.matching
    let d := d.setMatch false
    if was then
      let b := d.driftPage
      (d.report R.CFG_EVT.CFG_DRIFT 0 0 b 0).set R.CFG_DRIFT_PAGE.BASE b
    else d

/-- A pass that is no commit pass ends. -/
def cfgPassEnd (us : Nat) (d : Dev) : Dev := if d.cfg.committing then d else (d.passResult us).comparePass

/-- CFG_PASS_END. -/
def execCfgPassEnd (us : Nat) (s : State) : Host.Outcome State Fault Refusal := onCore s (cfgPassEnd us)

/-- COMMIT starts a commit pass; during one it has no effect. -/
def cfgCommit (d : Dev) : Dev := { d with cfg := { d.cfg with committing := true } }

/-- CFG_COMMIT. -/
def execCfgCommit (src : Src) (s : State) : Host.Outcome State Fault Refusal :=
  onDev s (fun d => d.write src R.CFG_COMMIT.COMMIT.ofs cfgCommit)

/-- A commit pass ends: the references take its values. -/
def commitDone (us : Nat) (d : Dev) : Dev :=
  if !d.cfg.committing then d
  else
    let d := d.passResult us
    let d := d.setRaw R.CFG_CRC_REF.CRC.ofs (d.raw R.CFG_CRC_NOW.CRC.ofs)
    let refs := allPages.map (fun (q : PageKind × Nat) => (q.1.base q.2, d.raw (q.1.base q.2 + 0x1C)))
    ({ d with cfg := { pageRef := refs, refValid := true, committing := false, matching := true } }).raise
      R.CFG_EVT.COMMIT_DONE

/-- COMMIT_DONE. -/
def execCommitDone (us : Nat) (s : State) : Host.Outcome State Fault Refusal := onCore s (commitDone us)

end Sys2Proof.Machine
end

