-- ==== Sys2Proof/Machine/Copy.lean ====
section
/-! DEFINITION. The copy of a join: what the serving side sends a joining side besides the live stream, phase by phase, and
its end (R229, R230, TWN_COPY_PROG). -/

namespace Sys2Proof.Machine

/-- The copy is at a place of a phase. -/
def Dev.copyAt (d : Dev) (phase cur : Nat) : Dev := { d with twn := { d.twn with phase := phase, cur := cur } }

/-- The lines of a chunk. -/
def chunkLines (c : Nat) : List Nat := (List.range 32).map (fun n => 32 * c + n)

/-- A write of a chunk's line is on its way to memory. -/
def Dev.chunkWriting (d : Dev) (c : Nat) : Bool :=
  d.wbf.ents.any (fun e => e.issued && e.line / 32 == c) || d.sdr.flight.any (fun k => d.sdrMem k / 32 == c)

/-- The next step of the copy: its phase and place, and what it sends. -/
def Dev.copyStep (d : Dev) (phase cur : Nat) (l : List CopyJob) : Dev :=
  let d := d.copyAt phase cur
  { d with twn := { d.twn with jobs := l } }

/-- Phase 4: one chunk after another is read, while writes to it wait; at the end of memory the copy is done (R229). -/
def Dev.copyMemory (d : Dev) : Dev :=
  let c := d.twn.cur
  if d.memSize / 4096 ≤ c then d.copyStep 5 0 [.last]
  else if d.chunkWriting c then d
  else
    let d := { d with twn := { d.twn with cur := c + 1, chunk := some ⟨c, chunkLines c, []⟩ } }
    (chunkLines c).foldl Dev.memRead d

/-- Phase 3: transactions, tickets, holds, departures, streams, the re-send log from its newest entry, and how far the SDR
clear has come. -/
def Dev.copyTables (d : Dev) : Dev :=
  d.copyStep 4 0 (d.cnf.txns.map (fun (t : Txn) => .txn t.id) ++ [.tickets, .holds] ++
    d.hie.phases.map (fun (u : Nat × Bool × Bool) => .upUse u.1) ++
    d.dep.table.map (fun (e : Dep) => .dep e.idx) ++ [.stale] ++ d.dep.done.map .done ++
    d.apd.streams.map (fun (e : Nat × Stream) => .stream e.1) ++ d.twn.log.reverse.map .log ++ [.clear])

/-- The lines that the write buffer holds end phase 2. -/
def Dev.copyBuffer (d : Dev) : Dev := d.copyStep 3 0 (d.wbf.ents.map (fun (e : WbEnt) => .buffer e.num))

/-- The dirty lines of a set. -/
def Dev.setDirty (d : Dev) (set : Nat) (h : Header) : List CopyJob :=
  (List.range 16).flatMap (fun w => (dirtyLines (h.way w)).map (fun n => .dirty (d.lineAt set (h.way w).tag.toNat n)))

/-- Phase 2: the next set with a header, its dirty lines before its header. -/
def Dev.copySets (d : Dev) : Dev :=
  match leastFrom d.twn.cur d.listedSets with
  | none => d.copyBuffer
  | some set =>
    match d.passHeader set with
    | (none, d) => d.copyAt 2 (set + 1)
    | (some h, d) => d.copyStep 2 (set + 1) (d.setDirty set h ++ [.header set])

/-- The second part of phase 1: the next line of the SDR cache. -/
def Dev.copySdr (d : Dev) : Dev :=
  match leastFrom (d.twn.cur - 65536) d.sdr.cache with
  | none => d.copyAt 2 0
  | some k =>
    d.copyStep 1 (65536 + k + 1) (.sdr k ::
      (d.sdr.ents.filter (fun e => sdrLine e.sector == k)).map (fun (e : SdrEnt) => .sdrEnt e.sector) ++ [.unknown])

/-- Phase 1: the entries of the next DIR set, the least recently used first. -/
def Dev.copyDir (d : Dev) : Dev :=
  match (if d.twn.cur < 65536 then leastFrom d.twn.cur (d.dir.ents.map (fun e => e.line % 65536)) else none) with
  | none => (d.copyAt 1 (max d.twn.cur 65536)).copySdr
  | some n =>
    d.copyStep 1 (n + 1) ((d.dir.ents.filter (fun e => e.line % 65536 == n)).reverse.map (fun (e : DirEnt) => .dir e.line))

/-- The copy looks for its next step. -/
def Dev.copyNext (d : Dev) : Dev :=
  match d.twn.phase with
  | 1 => d.copyDir
  | 2 => d.copySets
  | 3 => d.copyTables
  | 4 => d.copyMemory
  | _ => d

/-- The joining side has written the chunk: its lines have been sent and acknowledged, and the TW credits of their flits, which
that side returns as it applies them, are back (R229, log entry 77). -/
def Dev.chunkApplied (d : Dev) : Bool :=
  match d.twn.chunk with
  | some c => c.left.isEmpty && d.twn.jobs.isEmpty && d.twn.copyUn.isEmpty &&
      Nat.ble (d.tw.adv.getD 0 255 - d.tw.cReq) d.twn.after
  | none => false

/-- Writes to a chunk that the joining side has written go out. -/
def Dev.chunkOver (d : Dev) : Dev :=
  if d.chunkApplied then (({ d with twn := { d.twn with chunk := none } }).wbKick).sdrPump else d

/-- The copy goes on by one flit, or by as many empty steps as it looks through. -/
def Dev.copyGo : Nat → Dev → Dev
  | 0, d => d
  | n + 1, d =>
    let d := d.chunkOver
    if !d.copyFree || d.twn.chunk.isSome && d.twn.jobs.isEmpty then d
    else if d.twn.jobs.isEmpty then Dev.copyGo n d.copyNext
    else Dev.copyGo n (Dev.runJobs d.twn.jobs d)

/-- The copy goes on, one flit after another, while no live flit waits (R230). -/
def Dev.copyPump (d : Dev) : Dev :=
  if d.twn.st ≠ .copy || d.twn.mirror then d else Dev.copyGo 8 d.flushTwin

/-- The joining side has a flit of the copy: the copy goes on (R229). -/
def Dev.copyAcked (d : Dev) (mseq : Nat) : Dev :=
  ({ d with twn := { d.twn with copyUn := d.twn.copyUn.erase mseq } }).copyPump

/-- The copy has been sent to its end, and the joining side has it. -/
def Dev.copySent (d : Dev) : Bool := d.twn.phase == 5 && d.twn.jobs.isEmpty && d.twn.copyUn.isEmpty

/-- A copy ends, done or not: writes that waited for its chunk go out. -/
def Dev.endCopy (d : Dev) : Dev :=
  let d := { d with twn := { d.twn with copyUn := [], chunk := none, jobs := [], cur := 0, liveLines := [],
                                        liveTxns := [] } }
  d.wbKick.sdrPump

end Sys2Proof.Machine
end

