-- ==== Sys2Proof/Machine/Twin.lean ====
section
/-! DEFINITION. Twin pairs: pairing, the mirror stream as the mirror side applies it, loss and its decisions, takeover,
re-sent requests, and joining (R204 to R231). -/

namespace Sys2Proof

/-- The partner serves: its role says so and it is neither in Cold nor in Recovery. -/
def Partner.serves (p : Partner) : Bool := p.serving && p.mode != 0 && p.mode != 11

/-- What a partner that has failed shows: GCR_MODE 0 or 11. -/
def Partner.failed (p : Partner) : Bool := p.mode == 0 || p.mode == 11

end Sys2Proof

namespace Sys2Proof.Machine

/-! ## Pair states (Table TWN-1) -/

/-- Changes the pair state and shows the mode it gives. -/
def Dev.toPair (d : Dev) (st : PairSt) (mirror : Bool) : Dev :=
  ({ d with twn := { d.twn with st := st, mirror := mirror } }).remode

/-- The chain address at which the partner is read: learned on TW, or TWN_CFG.PEER (R209, R219). -/
def Dev.partnerAddr (d : Dev) : Nat := if d.twn.peer = 0 then d.get R.TWN_CFG.PEER else d.twn.peer

/-- One read request toward the partner; PARTNER_READ, LOSS_WAIT_CONFIRM and FENCED_CHECK report the outcome. -/
def Dev.askPartner (d : Dev) (ofs : Nat) : Dev :=
  ({ d with chn := { d.chn with seq := (d.chn.seq + 1) % 256 } }).emit
    (chainOut ⟨d.partnerAddr, d.addr, d.chn.seq, false, .rd ofs⟩)

/-- Reads the partner's GCR_MODE and TWN_STATE over the chain. -/
def Dev.readPartner (d : Dev) : Dev := (d.askPartner R.GCR_MODE.MODE.ofs).askPartner R.TWN_STATE.ROLE.ofs

/-- Messages held under R211 leave in order. -/
def Dev.sendAll (d : Dev) (l : List (Nat × Nat × Msg)) : Dev := l.foldl (fun d h => d.txPush h.2.1 h.2.2) d

/-- No boarded line of a departure waits for the mirror side any more (R255). -/
def Dev.mirroredDeps (d : Dev) (p : Nat → Bool) : Dev :=
  (d.dep.table.filter (fun e => e.waits.any (fun w => p w.2))).foldl (fun d e =>
    let e := { e with waits := e.waits.filter (fun w => !p w.2) }
    (d.putDep e).stagedNow e) d

/-- A dirty answer that waited for the mirror side's report is used (R216). -/
def Dev.useWaiting (d : Dev) (e : Nat × Nat × Option Nat × LState × Payload) : Dev :=
  match d.awaiting e.2.1 e.1 with
  | some t => d.answer t e.2.1 (.data true e.2.2.2.1 e.2.2.2.2)
  | none => d

/-- A serving side goes on ALONE: nothing waits for a mirror side any more, and held messages are released (R220). -/
def Dev.toAlone (d : Dev) : Dev :=
  let held := d.twn.held
  let answers := d.twn.dirtyWait
  let d := { d with twn := { d.twn with held := [], dirtyWait := [], reported := [], unacked := [], items := [], wait := [],
                                        lines := [], alone := false, candidate := false, found := false,
                                        phase := 0 } }
  let d := (((d.toPair .alone false).sendAll held).mirroredDeps (fun _ => true)).endCopy
  answers.foldl Dev.useWaiting d

/-- A mirror side goes out of service (Table TWN-1). -/
def Dev.toDetached (d : Dev) : Dev :=
  ({ d with twn := { d.twn with st := .detached, mirror := true, fromCopy := false, candidate := false, found := false } }).enterRecovery

/-- A link is taken down; what it was sending of a departure is dropped (R264). -/
def Dev.takeDown (d : Dev) (n : Nat) : Dev :=
  let up : Bool := n < 32 && (d.port n).st != 0
  let d := (d.raiseIf up (R.APnn_EVT.LINK_DOWN n)).dropToken 2 n
  (d.setPort n { d.port n with st := 0, txq := [], keep := false, naked := false }).dropReleases n

/-- Every port is taken down: agent ports, uplinks or downlinks, memory ports, TW (R220, R221). -/
def Dev.takeAllDown (d : Dev) : Dev :=
  let d := (List.range 33).foldl Dev.takeDown d
  { d with mps := d.mps.map (fun m => { m with st := if m.st == 5 then 5 else 0, reads := [], waiting := [] }) }

/-- The partner has taken over: the device stops (Table TWN-4). -/
def Dev.supersede (d : Dev) : Dev :=
  let d := { d with twn := { d.twn with st := .superseded, mirror := false, held := [], wait := [], items := [], dirtyWait := [] } }
  (d.takeAllDown.raise R.TWN_EVT.PARTNER_TOOK).enterRecovery

/-- A serving side of a pair that has left PAIRING. -/
def Dev.serves (d : Dev) : Bool :=
  !d.twn.mirror && d.twinOn && d.twn.st != .single && d.twn.st != .pairing && d.twn.st != .superseded

/-! ## Loss (R218 to R220) -/

/-- Loss of the partner is declared: FENCED at the serving side, LOSS_WAIT at the mirror side, and the partner is read. -/
def Dev.declareLoss (d : Dev) : Dev :=
  if d.twn.st = .mirrored ∨ d.twn.st = .copy then
    let copy : Bool := d.twn.st == .copy
    let d := d.raise R.TWN_EVT.HB_LOSS
    if d.twn.mirror then
      (({ d with twn := { d.twn with fromCopy := copy } }).toPair .lossWait true).readPartner
    else ((d.toPair .fenced false).endCopy).readPartner
  else d

/-- HB_LOSS. -/
def execHbLoss (s : State) : Host.Outcome State Fault Refusal := onCore s Dev.declareLoss

/-- The heartbeat period elapses: role, pair state, EPOCH and MSEQ go to the partner (R218); a join copy goes on. -/
def heartbeat (d : Dev) : Dev :=
  if d.twinOn ∧ d.tw.st = 3 then
    d.heartbeatOut.copyPump
  else d

/-- HEARTBEAT. -/
def execHeartbeat (s : State) : Host.Outcome State Fault Refusal := onCore s heartbeat

/-! ## Pairing (R207 to R209) -/

/-- A strap-A device serves alone; a strap-B device stays in PAIRING. -/
def Dev.serveAlone (d : Dev) : Dev := if d.gcr.side then d else d.toAlone

/-- A side whose pair does not form reads its partner before it serves alone; with no address to read, it goes on at
once (R209). -/
def Dev.pairFails (d : Dev) : Dev :=
  if d.partnerAddr = 0 then d.serveAlone
  else ({ d with twn := { d.twn with alone := true } }).readPartner

/-- The partner is found serving: the device waits as a candidate mirror side (R209). -/
def Dev.markCandidate (d : Dev) : Dev :=
  let d := d.raiseIf (!d.twn.candidate) R.TWN_EVT.PEER_ALIVE
  ({ d with twn := { d.twn with candidate := true, found := true, alone := false } })

/-- The partner is found serving on TW: from now on the device reads it every CONF_TO while it stays in PAIRING (R209). -/
def Dev.becomeCandidate (d : Dev) : Dev :=
  let was := d.twn.found || d.twn.alone
  if was then d.markCandidate else d.markCandidate.readPartner

/-- The pair forms once the digests match and a heartbeat has told the partner's role and state: by strap when both sides
start, beside a partner that has formed it already, and not with one that serves (R204, R207, R209; log entry 74). -/
def Dev.formPair (d : Dev) : Dev :=
  if d.twn.st ≠ .pairing ∨ d.twn.candidate ∨ d.twn.matched ≠ some true then d
  else
    let paired (mirror : Bool) : Dev := ({ d with twn := { d.twn with alone := false, found := false } }).toPair .mirrored mirror
    match d.twn.heard with
    | some (serving, state) =>
      if state = PairSt.pairing.code then paired d.gcr.side
      else if state = PairSt.mirrored.code then paired serving
      else if serving then d.becomeCandidate
      else d
    | none => d

/-- The partner's digest, role strap and ordering code arrive on TW (R207). -/
def pairDigest (digest : Word) (role : Role) (grade : Bool) (addr : Nat) (d : Dev) : Dev :=
  if !d.twinOn || d.tw.st != 3 then d
  else
    let fits : Bool := digest == d.pairDigest && role == d.gcr.role && grade == d.gcr.grade
    let d := { d with twn := { d.twn with peer := addr, matched := some fits } }
    if !fits then
      let d := d.raise R.TWN_EVT.CFG_MISMATCH
      if d.twn.st = .pairing then d.pairFails else d
    else d.formPair

/-- PAIR_DIGEST. -/
def execPairDigest (digest : Word) (role : Role) (grade : Bool) (addr : Nat) (s : State) :
    Host.Outcome State Fault Refusal := onCore s (pairDigest digest role grade addr)

/-- TWN_GUARD has passed after training and the pair has not formed (R208). -/
def pairingGuardExpiry (d : Dev) : Dev := if d.twn.st = .pairing ∧ !d.twn.candidate then d.pairFails else d

/-- PAIRING_GUARD_EXPIRY. -/
def execPairingGuardExpiry (s : State) : Host.Outcome State Fault Refusal := onCore s pairingGuardExpiry

/-- The chain read of R209 completes or times out. Once the partner has been found serving, the read is repeated while the
device stays in PAIRING, and the latest answer counts. -/
def partnerRead (ans : Option Partner) (d : Dev) : Dev :=
  if d.twn.st ≠ .pairing ∨ !(d.twn.alone || d.twn.found) then d
  else match ans.filter Partner.serves with
    | some _ => d.markCandidate.readPartner
    | none =>
      let d := ({ d with twn := { d.twn with candidate := false, alone := false } }).serveAlone
      if d.twn.found then d.readPartner else d

/-- PARTNER_READ. -/
def execPartnerRead (ans : Option Partner) (s : State) : Host.Outcome State Fault Refusal := onCore s (partnerRead ans)

/-! ## The mirror side applies the stream (R210 to R213, R229) -/

/-- A way as the mirror side keeps it: V and DTY only for the lines it holds dirty (Table TWN-2). -/
def Dev.maskWay (d : Dev) (set : Nat) (w : Way) : Way :=
  let m := (List.range 8).foldl (fun (a : BitVec 8) n =>
    if w.v.getLsbD n && (d.heldLine (d.lineAt set w.tag.toNat n)).isSome then putBit a n true else a) 0
  { w with v := m, dty := m }

/-- HSEQ a is later than HSEQ b, modulo 2^32 within a half range (R212). -/
def laterSeq (a b : BitVec 32) : Bool := (a - b) != 0 && (a - b).toNat < 2 ^ 31

/-- The data of one dirty line goes to the way that now holds it. -/
def Dev.adoptLine (set w : Nat) (tag : Nat) (d : Dev) (n : Nat) : Dev :=
  match d.heldLine (d.lineAt set tag n) with
  | some p => d.laneWrite (d.lineLoc set w n).1 (d.lineLoc set w n).2 p.data p.psn
  | none => d

/-- The lines of a way that the old header did not show there. -/
def newLines (old new : Way) : List Nat :=
  (List.range 8).filter (fun n => new.v.getLsbD n && !(old.v.getLsbD n && old.tag == new.tag))

/-- A header is replaced by the zero header that R45 writes, HSEQ included (R212). -/
def Dev.zeroHeader (d : Dev) (set : Nat) : Dev :=
  let d := d.laneWrite (headerLoc set).1 (headerLoc set).2 0 false
  let d := d.setHdc (mapIf (fun e => e.set == set) (fun e => { e with hdr := Header.zero, changed := false }) d.hdc.ents)
  { d with twn := { d.twn with hseqs := bankSet d.twn.hseqs set 0 } }

/-- The HSEQ an item carries, the one that the header is next written with, lets it be applied: later than the HSEQ held for
the set. The changes that a header takes in HDC between two writes carry one HSEQ; a live one follows the stream's order
(R43, R210, R212; log entry 75). -/
def Dev.headerLater (d : Dev) (set : Nat) (q : BitVec 32) (copy : Bool) : Bool :=
  match bankGet d.twn.hseqs set with
  | some k => laterSeq q k || (!copy && q == k)
  | none => true

/-- A header change is applied (R212, Table TWN-2). -/
def Dev.applyHeader (d : Dev) (set : Nat) (h : Header) (replace copy : Bool) : Dev :=
  let q := h.hseq + 1
  if replace then d.zeroHeader set
  else if !d.headerLater set q copy then d
  else
    let r := d.passHeader set
    let old := r.1.getD Header.zero
    let d := r.2
    let new : Header := { ways := h.ways.map (d.maskWay set), hseq := h.hseq, wgOff := h.wgOff }
    let d := ({ d with twn := { d.twn with hseqs := bankSet d.twn.hseqs set q } }).keepHeader set new
    (List.range 16).foldl (fun d w =>
      (newLines (old.way w) (new.way w)).foldl (Dev.adoptLine set w (new.way w).tag.toNat) d) d

/-- Dirty data of a line: kept, and written to the way that shows the line. A clean marker applied before is over (R213). -/
def Dev.applyDirty (d : Dev) (line : Nat) (m : Mask) (p : Payload) : Dev :=
  let d := { d with twn := { d.twn with lines := bankSet d.twn.lines line (overHeld (bankGet d.twn.lines line) m p),
                                        cleaned := d.twn.cleaned.filter (· != line) } }
  let set := d.setOf line
  let r := d.passHeader set
  match r.1.bind (fun h => r.2.hitWay h line) with
  | some w => r.2.adoptLine set w (d.tagOf line) (line % 8)
  | none => r.2

/-- Notes a live change of a line or transaction during a copy (R229). -/
def Dev.noteLive (d : Dev) (copy : Bool) (line id : Option Nat) : Dev :=
  if copy || d.twn.st != .copy then d
  else
    let l := match line with | some k => if d.twn.liveLines.contains k then d.twn.liveLines else k :: d.twn.liveLines
                             | none => d.twn.liveLines
    let t := match id with | some k => if d.twn.liveTxns.contains k then d.twn.liveTxns else k :: d.twn.liveTxns
                           | none => d.twn.liveTxns
    { d with twn := { d.twn with liveLines := l, liveTxns := t } }

/-- A departure the serving side has released: sent on every listed port there. -/
def releasedDep (now : BitVec 64) (e : Dep) : Dep :=
  { e with started := e.ports.map (fun n => (n, now)), ended := e.ports, phase := .releasing }

/-- A completed departure is remembered. -/
def Dev.noteDone (d : Dev) : Option DepDone → Dev
  | some k => { d with dep := { d.dep with done := (k :: d.dep.done).take 1024 } }
  | none => d

/-- An SDR line is in the mirror side's SDR cache; an unchanged line of a full set leaves. -/
def Dev.keepSdr (d : Dev) (k : Nat) : Dev :=
  let set := d.sdr.cache.filter (fun x => x % 4096 == k % 4096)
  let d := if d.sdrCached k || set.length < 16 then d
    else match set.reverse.find? (fun x => !d.sdr.changed.contains x) with
      | some v => { d with sdr := { d.sdr with cache := d.sdr.cache.filter (· != v) } }
      | none => d
  d.sdrUse k

/-- An SDR line enters the mirror side's SDR cache as the serving side has it, in place of the line that left there. -/
def Dev.mirrorLine (d : Dev) (k : Nat) (out : Option Nat) : Dev :=
  let rest := d.sdr.ents.filter (fun e => sdrLine e.sector != k)
  let cache := d.sdr.cache.filter (fun x => some x != out)
  let changed := d.sdr.changed.filter (fun x => some x != out)
  ({ d with sdr := { d.sdr with ents := rest, cache := cache, changed := changed } }).keepSdr k

/-- A mirrored memory write of an SDR line leaves that line unchanged in the SDR cache. -/
def Dev.sdrWritten (d : Dev) (line : Nat) : Dev :=
  if d.gcr.role != .worker && d.sdrBase / 128 ≤ line then
    { d with sdr := { d.sdr with changed := d.sdr.changed.filter (fun k => d.sdrMem k != line) } }
  else d

/-- A stream as the mirror side takes it: EN, DRAINING and HEAD are this side's own (R215, R293). -/
def Dev.applyStream (d : Dev) (n : Nat) (s : Stream) : Dev :=
  let own := d.stream n
  d.putStream n { s with en := own.en, draining := own.draining, head := own.head }

/-- A transaction the serving side has retired. -/
def Dev.applyGone (d : Dev) (id : Nat) : Dev :=
  (d.setTxns (d.cnf.txns.filter (fun x => x.id != id))).dirTidy

/-- A departure with one more line boarded; a manager awaits the DepAck of every worker that takes part. -/
def Dev.boardedDep (d : Dev) (b : Boarded) (e : Dep) : Dep :=
  let owed := if d.gcr.role = .manager then e.accepted.map (fun s => (s, b.idx)) else []
  { e with boarded := e.boarded ++ [b], acks := e.acks ++ owed,
           phase := if e.boarded.length + 1 = e.count then .staged else e.phase }

/-- Applies one item (Table TWN-2); a copied directory entry or transaction yields to a live change (R229). -/
def Dev.applyItem (copy : Bool) (d : Dev) : Item → Dev
  | .dir e => if copy && d.twn.liveLines.contains e.line then d else (d.putDir e).noteLive copy (some e.line) none
  | .sdr e => (d.putSdr e).keepSdr (sdrLine e.sector)
  | .sdrLine k out => d.mirrorLine k out
  | .sdrUnknown l => d.setUnknown l
  | .sdrClear prog done => { d with sdr := { d.sdr with prog := prog, initDone := done, clearing := !done } }
  | .header set h r => d.applyHeader set h r copy
  | .dirtyLine line m p => d.applyDirty line m p
  | .clean line => d.dropMirrored line
  | .txn t =>
    if copy && d.twn.liveTxns.contains t.id then d
    else (d.setTxns (d.cnf.txns.filter (fun x => x.id != t.id) ++ [t])).noteLive copy none (some t.id)
  | .txnGone id => (d.applyGone id).noteLive copy none (some id)
  | .tickets l n => { d with cnf := { d.cnf with tickets := l, nextTkt := n } }
  | .holds l => { d with cnf := { d.cnf with holds := l } }
  | .log e => if copy then { d with twn := { d.twn with log := e :: d.twn.log } } else d.logRetired e
  | .dep e => d.setDeps (d.dep.table.filter (fun x => x.idx != e.idx) ++ [{ e with waits := [] }])
  | .depGone idx k => (d.setDeps (d.dep.table.filter (fun x => x.idx != idx))).noteDone k
  | .depDone k => { d with dep := { d.dep with done := d.dep.done ++ [k] } }
  | .depStale l => { d with dep := { d.dep with stale := l } }
  | .boarded idx b => d.setDeps (mapIf (fun e => e.idx == idx) (d.boardedDep b) d.dep.table)
  | .released idx => d.setDeps (mapIf (fun e => e.idx == idx) (releasedDep d.bel.now) d.dep.table)
  | .stream n st => d.applyStream n st
  | .memWrite line m p => ((if copy then d else d.sdrWritten line).wbAdd line m p .full none none true true).wbKick
  | .dirtyReport _ _ => d
  | .upUse key was is => { d with hie := { d.hie with phases := bankSet d.hie.phases key (was, is) } }
  | .copy n => { d with twn := { d.twn with phase := n } }

/-- Applies one flit, its items in their order; the TW credits of the flit go back (R210, R214). -/
def Dev.applyFlit (d : Dev) (f : Nat × List Item) : Dev :=
  let d := f.2.foldl (Dev.applyItem (isCopy f.2)) d
  let d := { d with twn := { d.twn with mseq := f.1 } }
  ({ d with tw := { d.tw with pReq := d.tw.pReq + flitCost f.2, outReq := d.tw.outReq + flitCost f.2 } }).idleOut twPort

/-- The next flit of the apply queue, in MSEQ order. -/
def mirrorApply (d : Dev) : Dev :=
  match d.twn.queue with
  | [] => d
  | f :: l => if d.twn.mirror then ({ d with twn := { d.twn with queue := l } }).applyFlit f else d

/-- MIRROR_APPLY. -/
def execMirrorApply (s : State) : Host.Outcome State Fault Refusal := onCore s mirrorApply

/-- A stream without what its engine held. -/
def quietStream (s : Stream) : Stream := { s with lines := [], ends := [], open_ := ⟨0, false⟩ }

/-- A joining side begins with none of what the serving side will send it: no tracked line, no dirty line, no transaction,
departure or record, whatever it held before it was detached (R229, log entry 78). -/
def Dev.forgetAll (d : Dev) : Dev :=
  { d with hdc := {}, store := d.store.filter (fun e => e.1 < 16 * 2 ^ 32), dir := {}, sdr := {},
           wbf := {}, cnf := { ptr := d.cnf.ptr }, dep := { draining := d.dep.draining },
           apd := { streams := d.apd.streams.map (fun (e : Nat × Stream) => (e.1, quietStream e.2)) },
           pip := { d.pip with alloc := [], copyWait := [], unread := [] } }

/-- A joining side is made the mirror side of a copy: a DETACHED device leaves Recovery (R229, R477). -/
def Dev.enterCopy (d : Dev) : Dev :=
  let d := d.forgetAll
  let d := { d with twn := { d.twn with candidate := false, alone := false, liveLines := [], liveTxns := [], lines := [],
                                        cleaned := [], queue := [], hseqs := [], log := [], phase := 1 } }
  let d := { d with twn := { d.twn with st := .copy, mirror := true } }
  if d.gcr.mode = .recovery then d.toMode d.serviceMode else d.remode

/-- A joining side may become the mirror side of a copy: out of DETACHED only with every lost group powered down on both sides
(R324). -/
def Dev.mayJoin (d : Dev) : Bool := d.twn.st == .pairing || (d.twn.st == .detached && d.lostDown)

/-- The ACK of a TW flit leaves once its items are in the apply queue (R388). -/
def Dev.ackPlaced (d : Dev) (mseq : Nat) : Dev :=
  if d.twn.arriving.contains mseq then
    ({ d with twn := { d.twn with arriving := d.twn.arriving.erase mseq },
              tw := { d.tw with unplaced := d.tw.unplaced - 1 } }).idleOut twPort
  else { d with twn := { d.twn with placed := some mseq } }

/-- The items of a mirror flit that arrived with a good CRC: placed in the apply queue, within the credits this side gave, and
acknowledged (R210, R214). The first flit of a copy reaches a joining side before it is a mirror side. -/
def mirrorFlit (mseq : Nat) (items : List Item) (d : Dev) : Dev :=
  if !d.twinOn || d.tw.st != 3 then d
  else
    let d := if isCopy items && d.mayJoin then d.enterCopy else d
    if d.isMirror && (d.twn.st == .mirrored || d.twn.st == .copy) && decide (flitCost items ≤ d.tw.pReq) then
      let d := { d with twn := { d.twn with queue := d.twn.queue ++ [(mseq, items)] },
                        tw := { d.tw with pReq := d.tw.pReq - flitCost items } }
      (d.emit (.twinAck mseq)).ackPlaced mseq
    else d

/-- MIRROR_FLIT. -/
def execMirrorFlit (mseq : Nat) (items : List Item) (s : State) : Host.Outcome State Fault Refusal :=
  onCore s (mirrorFlit mseq items)

/-- What waited for flits that are acknowledged now goes on: held messages, dirty answers sent as items, departures (R211,
R216, R255). -/
def Dev.ackedUpTo (d : Dev) (due : Nat → Bool) : Dev :=
  let free := d.twn.held.filter (fun h => due h.1)
  let mine : Nat × Nat × Option Nat × LState × Payload → Bool := fun e => match e.2.2.1 with | some k => due k | none => false
  let answers := d.twn.dirtyWait.filter mine
  let d := { d with twn := { d.twn with held := d.twn.held.filter (fun h => !due h.1),
                                        dirtyWait := d.twn.dirtyWait.filter (fun e => !mine e) } }
  answers.foldl Dev.useWaiting ((d.sendAll free).mirroredDeps due)

/-- The mirror side's acknowledgement of a flit (R210, R211); the copy of a join goes on behind the live stream (R230). -/
def mirrorAck (mseq : Nat) (d : Dev) : Dev :=
  if !d.mirrors then d
  else if d.twn.copyUn.contains mseq then d.copyAcked mseq
  else if !d.twn.unacked.contains mseq then d
  else
    let d := { d with twn := { d.twn with unacked := d.twn.unacked.erase mseq } }
    (d.ackedUpTo (fun k => !d.twn.unacked.contains k)).copyPump

/-- MIRROR_ACK. -/
def execMirrorAck (mseq : Nat) (s : State) : Host.Outcome State Fault Refusal := onCore s (mirrorAck mseq)

end Sys2Proof.Machine
end

