-- ==== Sys2Proof/Machine/Takeover.lean ====
section
/-! DEFINITION. Takeover, the re-send window, the decisions that lead to them, software's twin commands, and joins (R219
to R231). -/

namespace Sys2Proof.Machine

/-! ## Drain (R474) -/

/-- The device enters Drain and its clean pass starts at set 0. -/
def Dev.startDrain (d : Dev) : Dev :=
  ({ d with pip := { d.pip with drainOn := true, drainNext := 0 },
            gcr := { d.gcr with drained := false, drainAsked := false } }).toMode .drain

/-! ## Work in progress (Table TWN-6, R226) -/

/-- A transaction of a requester, which may send it again. -/
def Txn.mayReturn (t : Txn) : Bool := match t.org with | .agent _ | .worker .. => true | _ => false

/-- A transaction that had not come to its answer: its snoop answers stay, and what it waited for beyond them starts
again. -/
def restartTxn (t : Txn) : Txn :=
  match t.phase with
  | .standby | .queued | .grantAck => t
  | .snooping | .backInv => { t with late := false }
  | _ =>
    if t.await.isEmpty then { t with phase := .queued, way := none, up := none, upX := false, late := false }
    else { t with late := false }

/-- Every running berth hold starts again in full (R226). -/
def Dev.restartHolds (d : Dev) : Dev :=
  let n := d.get R.CNF_BERTH.BERTH
  { d with cnf := { d.cnf with holds := d.cnf.holds.map (fun h => { h with left := n }) } }

/-- One mirrored dirty line: in the way that shows it, else where a WrBack would go; bytes of a line that was only partly
written go to the next level (R68). -/
def Dev.adoptOne (d : Dev) (e : Nat × Mask × Payload) : Dev :=
  if e.2.1 ≠ Mask.full then d.wbPlace e.1 e.2.1 e.2.2 none
  else
    let set := d.setOf e.1
    let r := d.passHeader set
    match r.1.bind (fun h => r.2.hitWay h e.1) with
    | some w => r.2.laneWrite (r.2.lineLoc set w (e.1 % 8)).1 (r.2.lineLoc set w (e.1 % 8)).2 e.2.2.data e.2.2.psn
    | none => r.2.takeDirty e.1 e.2.2

/-- The mirrored dirty lines are the device's own. -/
def Dev.adoptDirty (d : Dev) : Dev :=
  let l := d.twn.lines
  l.foldl Dev.adoptOne { d with twn := { d.twn with lines := [], cleaned := [], hseqs := [] } }

/-- A transaction sends its unanswered snoops again, each with its identifier (step 6). -/
def Dev.resnoop (d : Dev) (id : Nat) : Dev :=
  match d.txn? id with
  | some t =>
    if t.await.isEmpty then d
    else
      let r := d.snoopAll { t with await := [] } t.await
      r.2.putTxn r.1
  | none => d

/-- A departure after the takeover: released ones only leave their record; one whose bell time has passed without a
release marker is completed under DEP_MISS_POLICY, fully boarded or not, immediate or not; the others board what they lack
(Table TWN-6). Lines a worker has not acknowledged go there again (R256). -/
def Dev.takeDep (d : Dev) (e : Dep) : Dev :=
  if !e.started.isEmpty then d.recordDep e e.out
  else if e.phase = .announcing then e.toAnswer.foldl (Dev.announceTo e) d
  else
    let d := if e.phase = .boarding ∧ d.gcr.role ≠ .worker then
        (d.boardReads e).foldl (fun d l => Dev.boardRead e d (l.filter (fun x => !e.has (x - e.line)))) d
      else d
    let d := e.acks.foldl (fun d (a : Nat × Nat) => match e.boarded.find? (fun b => b.idx == a.2) with
      | some b => Dev.sendDepLine e b d a.1
      | none => d) d
    match d.dep? e.idx with
    | some e =>
      if d.gcr.role != .manager && d.bellPast e.t then
        let d := d.missDep e
        match d.dep? e.idx with
        | some e => d.stagedNow e
        | none => d
      else d
    | none => d

/-- Streams go on from the mirrored tail and commit: line writes that had not completed are issued again. -/
def Dev.restartStreams (d : Dev) : Dev :=
  let l := d.apd.streams.map (fun (e : Nat × Stream) =>
    (e.1, { e.2 with lines := e.2.lines.map (fun x => { x with issued := x.failed }) }))
  ({ d with apd := { streams := l } }).pumpStreams

/-- A maintenance operation ends as aborted, and a sweep stops (Table TWN-6, R75, R83). -/
def Dev.stopPasses (d : Dev) : Dev :=
  let d := if d.pip.mnt.busy then
      ({ d with pip := { d.pip with mnt := { d.pip.mnt with busy := false, aborting := false, aborted := true } } }).raise
        R.PIP_EVT.MNT_DONE
    else d
  match d.pip.sweep with
  | some w => if w.loss then d else ({ d with pip := { d.pip with sweep := none } }).setWgReq w.g false
  | none => d

/-- The links that carry TakeOver: every enabled agent port, every enabled downlink, a worker's active uplink (step 4). -/
def Dev.takeOverPorts (d : Dev) : List Nat :=
  (List.range 32).filter (fun n => d.flag (portEN n) && (d.portKind n != 1 || n == d.uplink))

/-- The mirror side becomes the serving side (steps 2 to 7). -/
def Dev.takeover (d : Dev) : Dev :=
  let d := d.twn.queue.foldl Dev.applyFlit { d with twn := { d.twn with queue := [] } }
  let txns : List Txn := (d.cnf.txns.filter Txn.mayReturn).map restartTxn
  let d := { d with twn := { d.twn with epoch := (d.twn.epoch + 1) % 65536, window := true, slotWin := [],
                                        unsent := txns.map (fun (t : Txn) => t.id), fromCopy := false },
                    cnf := { d.cnf with txns := txns, pool := [] } }
  let d := (d.toPair .takeover false).setDeps (d.dep.table.map (fun e => { e with waits := [] }))
  let d := if d.gcr.drainAsked then d.startDrain else d
  let d := (d.adoptDirty.restartHolds).stopPasses
  let d := d.takeOverPorts.foldl (fun d n => d.tell n (.takeOver d.twn.epoch)) d
  let d := (txns.map (fun (t : Txn) => t.id)).foldl Dev.resnoop d
  ((d.dep.table.foldl Dev.takeDep d).restartStreams).sdrPump

/-! ## The end of the window (R225) -/

/-- An open transaction that was not sent again: decided, it is taken as delivered and acknowledged; else it is removed. -/
def Dev.endUnsent (d : Dev) (t : Txn) : Dev :=
  if t.grant ≠ .I then (d.retireGrant t).fillPlace (d.key t.line)
  else
    let d := d.report R.TWN_EVT.RESEND_MISSING t.port 0 (t.line * 128) t.tag
    ((d.giveUpWay t).freeTxn t.id).fillPlace (d.key t.line)

/-- Every transaction of a list of identifiers that was not sent again. -/
def Dev.endWindow (d : Dev) (l : List Nat) : Dev :=
  l.foldl (fun d id => match d.txn? id with | some t => d.endUnsent t | none => d) d

/-- The re-send window ends; after a takeover of this side the device serves ALONE (step 8). -/
def resendWindowEnd (ns : Nat) (d : Dev) : Dev :=
  if d.twn.st = .takeover then
    let d := d.endWindow d.twn.unsent
    let d := (({ d with twn := { d.twn with window := false, unsent := [] } }).toAlone).set R.TWN_TAKE_TIME.NS ns
    (d.report R.TWN_EVT.TAKEOVER_DONE 0 0 d.twn.epoch (ns % 2 ^ 32)).oweFrame 21
  else if d.twn.slotWin.isEmpty then d
  else
    let d := d.endWindow d.twn.unsent
    { d with twn := { d.twn with slotWin := [], unsent := [] } }

/-- RESEND_WINDOW_END. -/
def execResendWindowEnd (ns : Nat) (s : State) : Host.Outcome State Fault Refusal := onCore s (resendWindowEnd ns)

/-! ## Decisions (Tables TWN-3 and TWN-4, R231) -/

/-- The mirror side's read of its partner completes or times out. R231 can be read two ways for a joining side whose copy was
lost: the model lets it enter DETACHED whatever the chain shows, and takes "only if" with the event alone (DEDUCED, log entry
42). -/
def lossWaitConfirm (ans : Option Partner) (d : Dev) : Dev :=
  if d.twn.st ≠ .lossWait then d
  else if d.twn.fromCopy then
    (match ans.filter Partner.serves with
     | some _ => d.raise R.TWN_EVT.PEER_ALIVE
     | none => d.raise R.TWN_EVT.CONFIRM_SILENT).toDetached
  else match ans with
    | some p => if p.serves then (d.raise R.TWN_EVT.PEER_ALIVE).toDetached else d.takeover
    | none => if d.flag R.TWN_CFG.SILENT_TAKE then d.takeover else d.raise R.TWN_EVT.CONFIRM_SILENT

/-- LOSS_WAIT_CONFIRM. -/
def execLossWaitConfirm (ans : Option Partner) (s : State) : Host.Outcome State Fault Refusal :=
  onCore s (lossWaitConfirm ans)

/-- A FENCED side's read of its partner completes or times out. -/
def fencedCheck (ans : Option Partner) (d : Dev) : Dev :=
  if d.twn.st ≠ .fenced then d
  else match ans with
    | some p =>
      if p.failed || p.state == PairSt.detached.code then d.toAlone
      else if p.serves then d.supersede
      else d.readPartner
    | none => d.readPartner

/-- FENCED_CHECK. -/
def execFencedCheck (ans : Option Partner) (s : State) : Host.Outcome State Fault Refusal := onCore s (fencedCheck ans)

/-- TWN_GUARD has passed since the loss, without evidence that the partner serves. -/
def twnGuardExpiry (d : Dev) : Dev := if d.twn.st = .fenced then d.toAlone else d

/-- TWN_GUARD_EXPIRY. -/
def execTwnGuardExpiry (s : State) : Host.Outcome State Fault Refusal := onCore s twnGuardExpiry

/-- HomeMoved arrives at a serving side: its partner has taken over. -/
def homeMoved (d : Dev) : Dev := if d.serves then d.supersede else d

/-- HOMEMOVED. -/
def execHomeMoved (_port _epoch : Nat) (s : State) : Host.Outcome State Fault Refusal := onCore s homeMoved

/-! ## What a heartbeat tells (R209, R218, R220, R229, R230) -/

/-- A heartbeat of the partner: its role, state and EPOCH. -/
def Dev.heard (d : Dev) (serving : Bool) (state epoch : Nat) : Dev :=
  let d := { d with twn := { d.twn with heard := some (serving, state) } }
  if d.serves then
    if laterEpoch epoch d.twn.epoch then d.supersede
    else if state = PairSt.detached.code ∧ (d.twn.st = .mirrored ∨ d.twn.st = .copy ∨ d.twn.st = .fenced) then d.toAlone
    else d
  else if !d.twn.mirror then d
  else if !serving || state = PairSt.pairing.code then d.formPair
  else
    let d := { d with twn := { d.twn with epoch := epoch } }
    if state = PairSt.copy.code then
      (if d.mayJoin then d.enterCopy else d)
    else if state = PairSt.mirrored.code then
      (if d.twn.st = .copy then d.toPair .mirrored true else d.formPair)
    else if d.twn.st = .pairing then d.becomeCandidate
    else if state = PairSt.alone.code ∧ (d.twn.st = .mirrored ∨ d.twn.st = .copy) then d.toDetached
    else d

/-! ## Software (Table TWN-9) -/

/-- DETACH: a mirror side goes out of service; a serving side ends a copy or mirroring. -/
def detach (d : Dev) : Dev :=
  if d.isMirror then
    (if d.twn.st = .mirrored ∨ d.twn.st = .copy ∨ d.twn.st = .lossWait then d.toDetached else d)
  else if d.twn.st = .mirrored ∨ d.twn.st = .copy then d.toAlone
  else d

/-- DETACH. -/
def execDetach (src : Src) (s : State) : Host.Outcome State Fault Refusal :=
  onDev s (fun d => d.write src R.TWN_CMD.DETACH.ofs detach)

/-- FORCE_TAKE: a mirror side in LOSS_WAIT takes over; strap B in PAIRING serves alone with EPOCH 1 (R208, R219). -/
def forceTake (d : Dev) : Dev :=
  if d.twn.st = .lossWait ∧ !d.twn.fromCopy then d.takeover
  else if d.twn.st = .pairing ∧ d.gcr.side then ({ d with twn := { d.twn with epoch := 1 } }).toAlone
  else d

/-- FORCE_TAKE. -/
def execForceTake (src : Src) (s : State) : Host.Outcome State Fault Refusal :=
  onDev s (fun d => d.write src R.TWN_CMD.FORCE_TAKE.ofs forceTake)

/-- RESUME: a FENCED side enters ALONE. -/
def twnResume (d : Dev) : Dev := if d.twn.st = .fenced then d.toAlone else d

/-- TWN_RESUME. -/
def execTwnResume (src : Src) (s : State) : Host.Outcome State Fault Refusal :=
  onDev s (fun d => d.write src R.TWN_CMD.RESUME.ofs twnResume)

/-! ## Joining (R229) -/

/-- JOIN on a serving side in ALONE whose TW link is up, with no partner whose digest differs (R207), and with every lost group
powered down (R324): the copy begins, and
the live stream with it. -/
def join (d : Dev) : Dev :=
  if d.twn.st = .alone ∧ d.tw.st = 3 ∧ d.twn.matched ≠ some false ∧ d.lostDown = true then
    let d := { d with twn := { d.twn with phase := 1, cur := 0, copyUn := [], chunk := none, jobs := [], lines := [] } }
    (d.toPair .copy false).copyPump
  else d

/-- JOIN. -/
def execJoin (src : Src) (s : State) : Host.Outcome State Fault Refusal :=
  onDev s (fun d => d.write src R.TWN_CMD.JOIN.ofs join)

/-- The copy has come to its end on this side: sent and acknowledged, or received and applied. -/
def Dev.copyOver (d : Dev) : Bool := if d.twn.mirror then d.twn.phase == 5 && d.twn.queue.isEmpty else d.copySent

/-- The copy ends: both sides are MIRRORED. -/
def copyDone (d : Dev) : Dev :=
  if d.twn.st ≠ .copy ∨ d.copyOver = false then d
  else
    let d := { d with twn := { d.twn with liveLines := [], liveTxns := [] } }
    if d.twn.mirror then d.toPair .mirrored true else (d.toPair .mirrored false).raise R.TWN_EVT.COPY_DONE

/-- COPY_DONE. -/
def execCopyDone (s : State) : Host.Outcome State Fault Refusal := onCore s copyDone

/-! ## Leaving a pair (R206) -/

/-- A device that leaves its pair: what waited for the mirror side goes on, TW's lanes are in reset, and the pair state is
SINGLE; where it had not begun to pair, TW's lanes alone are. A superseded device stays so until its reset (R221). -/
def Dev.leavePair (d : Dev) : Dev :=
  if d.twn.st = .superseded then d
  else if d.twn.st = .single then d.takeDown twPort
  else
    let held := d.twn.held
    let answers := d.twn.dirtyWait
    let d := (d.takeDown twPort).endCopy
    let d := { d with twn := { ({} : Twn) with epoch := d.twn.epoch, mseq := d.twn.mseq,
                                               lines := if d.twn.mirror then d.twn.lines else [] } }
    let d := ((d.adoptDirty.remode).sendAll held).mirroredDeps (fun _ => true)
    answers.foldl Dev.useWaiting d

/-- TWN_CFG is written: with EN cleared the device leaves its pair (R206). -/
def Dev.twnCfgWrite (d : Dev) (was : Bool) : Dev := if was && !d.twinOn then d.leavePair else d

end Sys2Proof.Machine
end

