-- ==== Sys2Proof/Machine/Links.lean ====
section
/-! DEFINITION. Molile Link: detection, training, INIT, flits, replay, LP, loss of a link, enabling and disabling a port;
then the end of every draining function (R130, R161 to R164, R361 to R388). -/

namespace Sys2Proof.Machine

/-! ## Where a link may run -/

/-- The domain of a port's SerDes. -/
def linkDomain (n : Nat) : Nat := if n = twPort then 19 else 10 + n / 4

/-- The port's configuration enables it (R168, R206, R387). -/
def Dev.linkEnabled (d : Dev) (n : Nat) : Bool :=
  if n = twPort then d.twinOn
  else match d.portKind n with
    | 1 => n == 30 || d.flag R.HIE_CFG.MGR_PAIR
    | 2 => (d.get R.HIE_SLOTS.SLOT_EN).testBit (n / 2)
    | _ => true

/-- No forced gate has stopped the port's clock: a stopped one takes and sends nothing (R405). -/
def Dev.portClocked (d : Dev) (n : Nat) : Bool := !d.clk.closed.getLsbD (if n = twPort then 10 else n / 4)

/-- The port's pads and clocks run: from Train on, with its domain on and its pads released; TW comes
up once lane training is complete (R207, R422, R425, Table MOD-2). -/
def Dev.linkUsable (d : Dev) (n : Nat) : Bool :=
  let started : Bool := match d.gcr.mode with | .cold | .boot | .selfTest | .configure => false | _ => true
  started && d.portClocked n && d.domOn (linkDomain n) && !d.padHeld (linkDomain n) && d.linkEnabled n && d.twn.st != .superseded &&
  (n != twPort || (d.gcr.mode != .train || d.dsc.lanes.all (fun l => l.st == 0 || l.st == 3 || l.st == 5)))

/-- The next SEQ that an INIT says the port expects: a link that begins afresh expects 0 (R373). -/
def Port.nextRx (p : Port) : Nat := if p.keep then p.rxSeq else 0

/-- Sends an INIT flit (Table LNK-3). -/
def Dev.sendInit (d : Dev) (n : Nat) : Dev :=
  let p := d.port n
  let a := d.advertised n
  let kind := if n = twPort then 4 else match d.portKind n with | 1 => 1 | 2 => 2 | _ => 3
  (d.emit (.init n p.keep p.nextRx)).controlOut n 3 (packSlot
    [(0, 8, 0x3F), (8, 3, kind), (11, 6, d.chn.addr), (17, 5, n), (22, 5, if kind = 1 then d.widx else 0),
     (27, 1, flagBit d.gcr.side), (28, 1, flagBit p.keep), (29, 12, p.nextRx), (41, 8, a.1), (49, 8, a.2.1),
     (57, 8, a.2.2.1), (65, 8, a.2.2.2.1), (73, 5, a.2.2.2.2), (78, 8, 0xB1)])

/-! ## Work a port holds (R161, R163, R164) -/

/-- A transaction involves a port: its requester's, one whose answer, WrBack or grant Ack is awaited there. -/
def Dev.involves (d : Dev) (n : Nat) (t : Txn) : Bool :=
  (match t.org with | .agent p => p == n | .worker w _ => w == n && d.gcr.role == .manager | _ => false) ||
  t.await.any (fun e => e.1 == n) || t.held.any (fun e => e.1 == n) || t.wbFrom.contains n

/-- The port holds work. -/
def Dev.portBusyWith (d : Dev) (n : Nat) : Bool := d.cnf.txns.any (d.involves n)

/-- A transaction's awaited answer is supplied for the port (R130, R198). One that the port's agent has already given, and
that waits for the mirror side's copy, stands (R216). A boarding read goes on as after Miss (R249), once a sector held
exclusive there has been written poisoned (R198). -/
def Dev.supplyOne (n : Nat) (d : Dev) (t : Txn) : Dev :=
  match t.await.find? (fun e => e.1 == n) with
  | none => d
  | some e =>
    if d.twn.dirtyWait.any (fun x => x.1 == t.id && x.2.1 == n) then d
    else if !t.owed.isEmpty ∧ t.kind = .board then
      t.owed.foldl (fun d l => depBoardMiss n t.depIdx l d) (d.slotPoison n t.line)
    else
      let r := d.standIn t n e.2
      r.2.answer t n r.1

/-- Where dirty data goes that a port supplies in place of a WrBack: relayed or kept with its transaction, merged, written,
or dropped, as a holder's dirty answer would be (R116 to R118). -/
def suppliedUse (t : Txn) : InvUse :=
  match t.kind with
  | .rdOwn | .upgrade => if t.phase = .backInv ∨ t.phase = .waitSdr then .write else .base
  | .maint op => if op = 2 then invUse t else if t.phase = .backInv then .write else .base
  | .mgrSnoop _ => .base
  | _ => invUse t

/-- A line poisoned as under R130 in place of an awaited WrBack: the holder's dirty data (R118). -/
def Dev.supplyWrBack (n : Nat) (d : Dev) (t : Txn) : Dev :=
  if !t.wbFrom.contains n then d
  else
    let line := t.snooped
    let d := if d.gcr.role = .manager then d else d.dirMap line (fun e => e.drop n)
    match suppliedUse t with
    | .base => Dev.wbReached n ⟨0, true⟩ d { t with dirty := t.dirty || t.kind != .wrPart }
    | .write => Dev.wbReached n ⟨0, true⟩ (d.takeDirty line ⟨0, true⟩) t
    | .discard =>
      let t := { t with wbFrom := t.wbFrom.filter (· != n) }
      (d.putTxn t).proceed t

/-- The transaction as it stands now, if it still does. -/
def Dev.eachTxn (d : Dev) (f : Dev → Txn → Dev) : Dev :=
  (d.cnf.txns.map (fun t => t.id)).foldl (fun d id => match d.txn? id with | some t => f d t | none => d) d

/-- The port at once supplies every answer still owed to the device and from now on counts as disabled: DRAINING reads 0,
and what is asked of it next is answered for it too (R130, R164). A mirror side supplies none: the serving side's snoops are
no work of its own ports (R205). -/
def Dev.supplyAll (d : Dev) (n : Nat) : Dev :=
  let d := d.setPort n { d.port n with draining := false }
  if d.twn.mirror then d else
  let d := d.eachTxn (Dev.supplyOne n)
  let d := d.eachTxn (Dev.supplyWrBack n)
  let d := d.eachTxn (fun d t =>
    if t.phase == .grantAck && t.port == n then (d.retireGrant t).fillPlace (d.key t.line) else d)
  d.slotLost n

/-- A draining port with no work, or whose link is down, stops draining. -/
def Dev.drainNow (d : Dev) (n : Nat) : Dev :=
  if !(d.port n).draining then d
  else if (d.port n).st = 0 then d.supplyAll n
  else if d.portBusyWith n then d
  else d.setPort n { d.port n with draining := false }

/-! ## Training and INIT (R361, R362, R368, R373) -/

/-- A DOWN port's receivers detect a peer: training takes a SerDes token (R362, R439). -/
def peerDetect (n : Nat) (d : Dev) : Dev :=
  if (d.port n).st = 0 ∧ d.linkUsable n then d.askToken 2 n else d

/-- PEER_DETECT. -/
def execPeerDetect (port : Nat) (s : State) : Host.Outcome State Fault Refusal := onCore s (peerDetect port)

/-- The event of entering DOWN. -/
def Dev.downEvent (d : Dev) (n : Nat) : Dev := if n < 32 then d.raise (R.APnn_EVT.LINK_DOWN n) else d

/-- A port falls to DOWN: its state is kept for RESUME_TO, releases on it are dropped, a draining port answers for its
agent; a worker's active uplink is reported, and TW's loss is a loss of the partner (R164, R199, R218, R264, R373). -/
def Dev.linkFalls (d : Dev) (n : Nat) : Dev :=
  let p := d.port n
  if p.st = 0 then d
  else
    let d := d.setPort n { p with st := 0, keep := p.keep || p.st == 3, naked := false, proposed := false, fails := 0,
                                  crossRefused := false, peerBad := false, late := [], cut := [] }
    let d := ((d.downEvent n).returnToken 2 n).dropReleases n
    let d := if p.draining then d.supplyAll n else d
    if n = twPort then d.declareLoss
    else if d.gcr.role = .worker ∧ n = d.uplink then uplinkDown d else d

/-- LINK_DOWN. -/
def execLinkDown (port : Nat) (s : State) : Host.Outcome State Fault Refusal := onCore s (fun d => d.linkFalls port)

/-- The caps of a port's configuration on width and rate (R361, Table LNK-12). -/
def Dev.linkCaps (d : Dev) (n : Nat) : Nat × Nat :=
  if n = twPort then (0, 0) else (min 2 (d.get (R.APnn_CFG.MAXW n)), d.get (R.APnn_CFG.MAXRATE n))

/-- Electrical training ends: INIT, and the port's token is returned; or DOWN (Table PWR-5). -/
def linkTrained (n : Nat) (ok : Bool) (width rate : Nat) (d : Dev) : Dev :=
  let p := d.port n
  if p.st ≠ 1 ∨ !d.portClocked n then d
  else if ok then
    let d := d.setPort n { p with st := 2, width := max width (d.linkCaps n).1, rate := max rate (d.linkCaps n).2 }
    (d.returnToken 2 n).sendInit n
  else d.linkFalls n

/-- LINK_TRAINED. -/
def execLinkTrained (port : Nat) (ok : Bool) (width rate : Nat) (s : State) : Host.Outcome State Fault Refusal :=
  onCore s (linkTrained port ok width rate)

/-- The content of an INIT flit (Table LNK-3). -/
def initOf (f : Flit) : InitInfo :=
  let w := f.slot 0
  { kind := bits w 10 8, daddr := bits w 16 11, pport := bits w 21 17, widx := bits w 26 22, side := bits w 27 27 == 1,
    resume := bits w 28 28 == 1, nextRx := bits w 40 29, cReq := bits w 48 41, cSnp := bits w 56 49, cRsp := bits w 64 57,
    cDat := bits w 72 65, cWb := bits w 77 73, step := bits w 85 78 }

/-- The checks of R368 and, for an agent, R378. -/
def Dev.initOk (d : Dev) (n : Nat) (i : InitInfo) : Bool :=
  let k := d.peerKindWanted n
  i.kind == k &&
  (if k = 0 then 4 ≤ i.cSnp && 4 ≤ i.cRsp && 2 ≤ i.cDat && i.cReq == 0 && i.cWb == 0
   else if k = 1 then i.widx == n
   else if k = 4 then i.step == 0xB1 && i.side != d.gcr.side
   else true)

/-- The peer's NEXT_RX lies within the unacknowledged range or just past it (R373). -/
def Port.resumes (p : Port) (next : Nat) : Bool := (next + 4096 - (p.ackd + 1) % 4096) % 4096 ≤ p.unacked

/-- The peer a port has met. -/
def Port.meet (p : Port) (i : InitInfo) : Port :=
  { p with peerKind := i.kind, peerAddr := i.daddr, peerPort := i.pport, peerBad := false,
           adv := [i.cReq, i.cSnp, i.cRsp, i.cDat, i.cWb] }

/-- Sends everything a port that has become ACTIVE may send. -/
def Dev.pumpPort (d : Dev) (n : Nat) : Dev := if n = twPort then d.pumpTw else d.pump n

/-- The port is ACTIVE: LINK_UP. On TW the pair digest goes out (R207). -/
def Dev.linkActive (d : Dev) (n : Nat) (i : InitInfo) : Dev :=
  let d := if n < 32 then d.raise (R.APnn_EVT.LINK_UP n)
    else ({ d with twn := { d.twn with peer := i.daddr, heard := none, matched := none } }).emit
      (.digest d.pairDigest d.gcr.role d.gcr.grade)
  d.pumpPort n

/-- Reserved write-buffer entries that a port's peer still occupies. -/
def Dev.wbHeld (d : Dev) (n : Nat) : Nat := (d.wbf.ents.filter (fun e => e.rsv == some n)).length

/-- A worker's own writes whose answers a lost uplink took with it are sent again; write-backs are never discarded
(R199). -/
def Dev.ownAgain (d : Dev) (n : Nat) : Dev :=
  if d.portKind n = 1 ∧ n = d.uplink then
    (d.setWb (mapIf (fun e => e.issued && (d.agentWrite e).isNone) (fun e => { e with issued := false, tkt := none })
      d.wbf.ents)).wbKick
  else d

/-- What waits on an uplink for a fresh link: the requests of its agents. A worker's own writes are issued again from the write
buffer (R199). -/
def Dev.keptTx (d : Dev) (n : Nat) : List Msg :=
  if d.portKind n = 1 ∧ n = d.uplink then
    (d.port n).txq.filter (fun m => match m with
      | .upReq _ _ q .. => q != 30
      | .upAppend .. | .upDepart .. => true
      | _ => false)
  else []

/-- Service of a link begins afresh: sequence numbers, credits and counts begin again, the send credits from the peer's
last INIT; what waited for the old link is discarded, but a worker's write-backs and requests (R199, R373 to R375, R377). -/
def Dev.startAfresh (d : Dev) (n next : Nat) : Dev :=
  let a := d.advertised n
  let p := d.port n
  let seq := next % 4096
  let d := { d with cnf := { d.cnf with owedWb := d.cnf.owedWb.filter (fun x => x.1 != n) } }
  (d.setPort n { p with st := 3, lost := false, keep := false, txSeq := seq, ackd := (seq + 4095) % 4096, rxSeq := 0,
                        naked := false, lastNak := none, replays := 0, fails := 0, proposed := false, crossRefused := false,
                        cReq := p.adv.getD 0 0, cSnp := p.adv.getD 1 0, cRsp := p.adv.getD 2 0, cDat := p.adv.getD 3 0,
                        cWb := p.adv.getD 4 0, inReq := 0, inSnp := 0, inRsp := 0, inDat := 0, inWb := 0,
                        outReq := 0, outSnp := 0, outRsp := 0, outDat := 0, outWb := 0, told := {},
                        pReq := a.1, pSnp := a.2.1, pRsp := a.2.2.1, pDat := a.2.2.2.1, pWb := a.2.2.2.2 - d.wbHeld n,
                        txq := d.keptTx n, buf := [], late := [], unplaced := 0, more := 0, cut := [] }).ownAgain n

/-- A fresh link. Where the device's own INIT carried RESUME = 0 the first SEQ is 0, else the peer's NEXT_RX (R373). -/
def Dev.freshLink (d : Dev) (n : Nat) (i : InitInfo) : Dev :=
  let d := d.setPort n ((d.port n).meet i)
  (d.startAfresh n (if i.resume then 0 else i.nextRx)).linkActive n i

/-- A link resumes: it replays from the peer's NEXT_RX (R372, R373). -/
def Dev.resumeLink (d : Dev) (n : Nat) (i : InitInfo) : Dev :=
  let p := ((d.port n).meet i).acked ((i.nextRx + 4095) % 4096)
  let d := d.setPort n { p with st := 3, lastNak := none, replays := 0, fails := 0,
                                naked := false, keep := false }
  (d.resendFlits n).linkActive n i

/-- The port is lost: agent ports and downlinks stop and drain with the answers of R130 and R198 (R373, R374). -/
def Dev.loseLink (d : Dev) (n : Nat) : Dev :=
  let d := d.setPort n { d.port n with keep := false, lost := true, txq := d.keptTx n }
  let d := { d with twn := { d.twn with held := d.twn.held.filter (fun e => e.2.1 != n) } }
  if n = twPort then d.declareLoss
  else
    let d := d.raise (R.APnn_EVT.LOST n)
    if d.portKind n = 1 then d
    else if d.flag (portEN n) then (d.stopPort n).supplyAll n
    else if (d.port n).draining then d.supplyAll n
    else d

/-- RESUME_TO has passed without a link: the port is lost, and one in INIT sends INIT anew, with RESUME = 0 (R373). -/
def linkLost (n : Nat) (d : Dev) : Dev :=
  if !(d.port n).keep ∨ 2 < (d.port n).st then d
  else if (d.port n).st = 2 then (d.loseLink n).sendInit n
  else d.loseLink n

/-- LOST. -/
def execLost (port : Nat) (s : State) : Host.Outcome State Fault Refusal := onCore s (linkLost port)

/-- An INIT from a peer that fits, on a port in INIT. The device's own INIT carried RESUME = 0 unless it kept the link, so an
INIT with RESUME = 0 is exchanged in every case but that of two INITs that carry 1 (R373). -/
def Dev.initMeets (d : Dev) (n : Nat) (i : InitInfo) : Dev :=
  let p := d.port n
  if p.keep then
    if i.resume && p.resumes i.nextRx then d.resumeLink n i
    else
      let d := d.loseLink n
      if i.resume then d.sendInit n else d.freshLink n i
  else d.freshLink n i

/-! ## Flits (R364, R365, R370 to R372, R382) -/

/-- Flits reach a port once its link is trained (Table LNK-1), and its clock runs. -/
def Dev.hears (d : Dev) (n : Nat) : Bool := Nat.ble 2 (d.port n).st && d.portClocked n

/-- A flit with a bad CRC. -/
def Dev.badCrc (d : Dev) (n : Nat) : Dev :=
  if n < 32 then (d.raise (R.APnn_EVT.CRC_ERR n)).bumpSat (R.APnn_CRC_CNT.CRC n) 1 else d

/-- A running total moves on by this many credits (R377). -/
def crGain (now last : Nat) : Nat := (now % 16 + 16 - last % 16) % 16

/-- Every flit with a good CRC updates ACK and the send credits, whatever the link state (R365). -/
def Dev.viewFlit (d : Dev) (n : Nat) (f : Flit) : Dev :=
  let p := d.port n
  let ackd := if (f.ack + 4096 - p.ackd) % 4096 ≤ p.unacked then f.ack % 4096 else p.ackd
  let gReq := crGain f.crReq p.inReq
  let p := { p.acked ackd with
                    cReq := p.cReq + gReq, cSnp := p.cSnp + crGain f.crSnp p.inSnp,
                    cRsp := p.cRsp + crGain f.crRsp p.inRsp, cDat := p.cDat + crGain f.crDat p.inDat,
                    cWb := p.cWb + crGain f.crWb p.inWb,
                    inReq := f.crReq % 16, inSnp := f.crSnp % 16, inRsp := f.crRsp % 16, inDat := f.crDat % 16,
                    inWb := f.crWb % 16 }
  d.setPort n p

/-- What a flit with a good CRC lets go: a departure that waited for room in the replay buffer, then messages. -/
def Dev.seeFlit (d : Dev) (n : Nat) (f : Flit) : Dev :=
  let e := d.viewFlit n f
  (if d.bufferFull n && !e.bufferFull n && n != twPort then e.startNext n else e).pumpPort n

/-- An INIT from a peer that does not fit (R368). -/
def Dev.misfit (d : Dev) (n : Nat) : Dev :=
  let d := d.setPort n { d.port n with peerBad := true }
  if n < 32 then d.raise (R.APnn_EVT.PEER_BAD n) else d

/-- An INIT flit with a good CRC; TW learns its partner's chain address, whether or not the checks pass (R209). On a link that
runs, RESUME = 0 means that the peer began again: the port is lost and starts afresh. -/
def Dev.takeInit (d : Dev) (n : Nat) (i : InitInfo) : Dev :=
  let d := if n = twPort ∧ (d.port n).st = 2 then { d with twn := { d.twn with peer := i.daddr } } else d
  let p := d.port n
  if p.st = 2 then (if d.initOk n i then d.initMeets n i else d.misfit n)
  else if (p.st = 3 ∨ p.st = 4) ∧ !i.resume then
    let d := (d.dropReleases n).loseLink n
    let d := (d.setPort n { d.port n with st := 2 }).sendInit n
    if d.initOk n i then d.freshLink n i else d.misfit n
  else d

/-- An INIT flit arrives (R365, R368, R371). -/
def init (n : Nat) (f : Flit) (d : Dev) : Dev :=
  if !d.hears n then d
  else if !f.crcOk then d.badCrc n
  else (d.viewFlit n f).takeInit n (initOf f)

/-- INIT. -/
def execInit (port : Nat) (f : Flit) (s : State) : Host.Outcome State Fault Refusal := onCore s (init port f)

/-- A port held in INIT by a failed check sends INIT again (R368). -/
def initResend (n : Nat) (d : Dev) : Dev :=
  if (d.port n).st = 2 && (d.port n).peerBad then d.sendInit n else d

/-- INIT_RESEND. -/
def execInitResend (port : Nat) (s : State) : Host.Outcome State Fault Refusal := onCore s (initResend port)

/-! ## DATA flits and the others (R365, R370 to R372, R382) -/

/-- One NAK until the expected flit has been accepted (R371). -/
def Dev.nakOnce (d : Dev) (n : Nat) : Dev :=
  let p := d.port n
  if p.naked then d else (d.setPort n { p with naked := true }).controlSend n .nak

/-- A message of a class arrives: REQ credits come back when the pipeline takes the request, the others at once
(R377, Table LNK-4). False: it came without a credit. -/
def Dev.takeCredit (d : Dev) (n cls : Nat) : Bool × Dev :=
  let p := d.port n
  if p.lacks cls then (false, d)
  else (true, d.setPort n (match cls with
    | 0 => { p with pReq := p.pReq - 1 }
    | 1 => { p with outSnp := p.outSnp + 1 }
    | 2 => { p with outRsp := p.outRsp + 1 }
    | _ => { p with outDat := p.outDat + 1 }))

/-- One message of an accepted flit on an agent port, uplink or downlink: opcode, direction, credit, counts and trace
(R376, R382, R542). Its content arrives with its own command. -/
def Dev.slotIn (n : Nat) (d : Dev) (x : Slot) : Dev :=
  if x.opc = 0 ∨ n = twPort then d
  else if !d.opcAllowed n x.opc then d.protoErr n x.opc
  else
    let cls := opcClass x.opc
    let r := d.takeCredit n cls
    if !r.1 then r.2.protoErr n x.opc
    else
      let d := r.2.pmu1 (0x040 + x.opc)
      let d := if cls = 0 then d.pmu1 (0x100 + 8 * n + 2) else d
      d.trace n false x.opc x.id x.line x.st x.psn

/-- A DATA flit of mirror items: its ACK waits until they are placed in the apply queue (R388, R389). -/
def Dev.mirrorArrives (d : Dev) (f : Flit) : Dev :=
  let mseq := f.field 95 64
  if !(0x40 ≤ bits (f.slot 0) 7 0 && bits (f.slot 0) 7 0 ≤ 0x4C) then d.idleOut twPort
  else if d.twn.placed = some mseq then ({ d with twn := { d.twn with placed := none } }).idleOut twPort
  else { d with twn := { d.twn with arriving := d.twn.arriving ++ [mseq] }, tw := { d.tw with unplaced := d.tw.unplaced + 1 } }

/-- The flit a port expected is accepted: the messages that begin in it, or on TW its mirror items, and then its ACK. -/
def Dev.acceptFlit (d : Dev) (n : Nat) (f : Flit) : Dev :=
  let p := d.port n
  if n = twPort then
    ({ d with tw := { d.tw with rxSeq := (d.tw.rxSeq + 1) % 4096, naked := false } }).mirrorArrives f
  else
    let r := headersIn ((List.range 15).map f.slot) p.more
    let d := d.setPort n { p with rxSeq := (p.rxSeq + 1) % 4096, naked := false, more := r.2 }
    (r.1.foldl (Dev.slotIn n) (if n < 32 then d.pmu1 (0x100 + 8 * n) else d)).idleOut n

/-- A DATA flit arrives. Outside ACTIVE only its ACK and credits are seen, since its messages belong to no link in service
(Table LNK-1, log entry 108). -/
def dataFlit (n : Nat) (f : Flit) (d : Dev) : Dev :=
  if !d.hears n then d
  else if (d.port n).st ≠ 3 then (if f.crcOk then d.viewFlit n f else d.badCrc n)
  else if !f.crcOk then (d.badCrc n).nakOnce n
  else
    let d := d.seeFlit n f
    if f.seq % 4096 = (d.port n).rxSeq then d.acceptFlit n f
    else if ((d.port n).rxSeq + 4096 - f.seq % 4096) % 4096 ≤ 2048 then d
    else d.nakOnce n

/-- DATA_FLIT. -/
def execDataFlit (port : Nat) (f : Flit) (s : State) : Host.Outcome State Fault Refusal :=
  onCore s (dataFlit port f)

/-- A flit of another kind: discarded with a bad CRC or a reserved FK, else seen, and acted on in ACTIVE. -/
def Dev.otherFlit (d : Dev) (n : Nat) (f : Flit) (k : Dev → Dev) : Dev :=
  if !d.hears n then d
  else if !f.crcOk then d.badCrc n
  else if 6 ≤ f.kind then d
  else if (d.port n).st ≠ 3 then d.viewFlit n f
  else k (d.seeFlit n f)

/-- IDLE_FLIT. -/
def execIdleFlit (port : Nat) (f : Flit) (s : State) : Host.Outcome State Fault Refusal :=
  onCore s (fun d => d.otherFlit port f id)

/-- HEARTBEAT_RECEIVED. -/
def execHeartbeatReceived (f : Flit) (serving : Bool) (state epoch _mseq : Nat) (s : State) :
    Host.Outcome State Fault Refusal :=
  onCore s (fun d => d.otherFlit twPort f (fun d => d.heard serving state epoch))

/-- The link moves to RECOVER: replay buffers stay (R372). -/
def Dev.toRecover (d : Dev) (n : Nat) : Dev :=
  let d := (d.setPort n { d.port n with st := 5, keep := true, fails := 0, replays := 0, late := [] }).dropReleases n
  if n < 32 then (d.raise (R.APnn_EVT.RECOVER n)).bumpSat (R.APnn_RECOVER_CNT.RECOVER n) 1 else d

/-- A replay is counted. -/
def Dev.countReplay (d : Dev) (n : Nat) : Dev :=
  if n < 32 then (d.bumpSat (R.APnn_REPLAY_CNT.REPLAY n) 1).pmu1 (0x100 + 8 * n + 5)
  else d.bumpSat R.TWN_REPLAY_CNT.REPLAY 1

/-- A NAK flit: every unacknowledged flit after its ACK goes again; one that does not advance ACK counts a replay, and the
fourth in a row moves the link to RECOVER (R372). -/
def nak (n : Nat) (f : Flit) (d : Dev) : Dev :=
  d.otherFlit n f (fun d =>
    let p := d.port n
    let same : Bool := p.lastNak == some (f.ack % 4096)
    let k := if same then p.replays + 1 else 0
    let d := d.setPort n { p with lastNak := some (f.ack % 4096), replays := k }
    let d := if same then d.countReplay n else d
    if 4 ≤ k then d.toRecover n else d.controlSend n .replay)

/-- NAK. -/
def execNak (port : Nat) (f : Flit) (_exp : Nat) (s : State) : Host.Outcome State Fault Refusal := onCore s (nak port f)

/-- Retraining in RECOVER succeeds, or fails; the third failure in a row is DOWN. -/
def recoverDone (n : Nat) (ok : Bool) (d : Dev) : Dev :=
  let p := d.port n
  if p.st ≠ 5 then d
  else if ok then (d.setPort n { p with st := 2, fails := 0 }).sendInit n
  else if 2 ≤ p.fails then d.linkFalls n
  else d.setPort n { p with fails := p.fails + 1 }

/-- RECOVER_DONE. -/
def execRecoverDone (port : Nat) (ok : Bool) (s : State) : Host.Outcome State Fault Refusal :=
  onCore s (recoverDone port ok)

/-! ## LP (R363, R366) -/

/-- LP_IDLE µs without a message: the port proposes LP, unless a departure is staged there. -/
def lpIdle (n : Nat) (d : Dev) : Dev :=
  let p := d.port n
  if n < 32 && p.st == 3 && d.flag (R.APnn_CFG.LP_EN n) && !d.stagedOn n && !p.proposed && p.txq.isEmpty then
    (d.setPort n { p with proposed := true, crossRefused := false }).lpmOut n 0
  else d

/-- LP_IDLE. -/
def execLpIdle (port : Nat) (s : State) : Host.Outcome State Fault Refusal := onCore s (lpIdle port)

/-- Both ends have accepted: the link is in LP; it trains again at once where staging has begun meanwhile (R257). -/
def Dev.enterLp (d : Dev) (n : Nat) : Dev :=
  let d := (d.setPort n { d.port n with st := 4, proposed := false, crossRefused := false, keep := true }).dropReleases n
  if d.stagedOn n then d.askToken 2 n else d

/-- The peer proposes LP: refused while a departure is staged; a proposal that crosses ours waits for the answer to ours. -/
def Dev.lpProposed (d : Dev) (n : Nat) : Dev :=
  let p := d.port n
  if d.stagedOn n then (d.setPort n { p with crossRefused := p.proposed }).controlSend n (.lpm 2)
  else if p.proposed then d.lpmOut n 1
  else (d.lpmOut n 1).enterLp n

/-- An LPM flit. -/
def lpm (n : Nat) (f : Flit) (code : Nat) (d : Dev) : Dev :=
  d.otherFlit n f (fun d =>
    let p := d.port n
    if code = 0 then d.lpProposed n
    else if code = 3 ∨ !p.proposed then d.protoRaise n 0x3C
    else if code = 1 ∧ !p.crossRefused then d.enterLp n
    else d.setPort n { p with proposed := false, crossRefused := false })

/-- LPM. -/
def execLpm (port : Nat) (f : Flit) (code : Nat) (s : State) : Host.Outcome State Fault Refusal :=
  onCore s (lpm port f code)

/-- Either end has a message: the link trains again and resumes. -/
def lpExit (n : Nat) (d : Dev) : Dev :=
  if (d.port n).st = 4 then d.askToken 2 n else d

/-- LP_EXIT. -/
def execLpExit (port : Nat) (s : State) : Host.Outcome State Fault Refusal := onCore s (lpExit port)

/-! ## Enabling and disabling a port (R162, R386) -/

/-- EN = 0: the port drains. -/
def portDisable (n : Nat) (d : Dev) : Dev := if d.flag (portEN n) then (d.stopPort n).drainNow n else d

/-- PORT_DISABLE. -/
def execPortDisable (src : Src) (port : Nat) (s : State) : Host.Outcome State Fault Refusal :=
  onDev s (fun d => d.write src (portEN port).ofs (portDisable port))

/-- EN = 1 once DRAINING reads 0: INIT with RESUME = 0, and service starts afresh once the peer's INIT has come. The link stays
trained: it goes back to INIT, where INIT flits are exchanged (Table LNK-1, R386). -/
def portEnable (n : Nat) (d : Dev) : Dev :=
  let p := d.port n
  if d.flag (portEN n) || p.draining then d
  else
    let d := (d.set (portEN n) 1).setPort n { p with keep := false, txq := [] }
    if p.st = 3 then (d.setPort n { d.port n with st := 2 }).sendInit n
    else if p.st = 4 then d.askToken 2 n
    else d

/-- PORT_ENABLE. -/
def execPortEnable (src : Src) (port : Nat) (s : State) : Host.Outcome State Fault Refusal :=
  onDev s (fun d => d.write src (portEN port).ofs (portEnable port))

/-- The last work of a draining function completes (Table ORD-7, R354). -/
def drainingEnd (fn : DrainFn) (d : Dev) : Dev :=
  match fn with
  | .port n => d.drainNow n
  | .dep => if d.dep.table.isEmpty then { d with dep := { d.dep with draining := false } } else d
  | .stream n =>
    let x := d.stream n
    if x.draining && !streamBusy x then d.putStream n { x with draining := false } else d
  | .scb => if d.scb.flight.isEmpty then d.setScb { d.scb with draining := false } else d

/-- DRAINING_END. -/
def execDrainingEnd (fn : DrainFn) (s : State) : Host.Outcome State Fault Refusal := onCore s (drainingEnd fn)

end Sys2Proof.Machine
end

