-- ==== Sys2Proof/Machine/MemPort.lean ====
section
/-! DEFINITION. Memory ports and the host port: bring-up, loss, removal and addition, host access to the memory device, and
the resets of the host port (R203, R390 to R396). -/

namespace Sys2Proof.Machine

/-! ## Bring-up (R392, R203) -/

/-- The token owner of a memory port. -/
def mpOwner (n : Nat) : Nat := mpTokenBase + n

/-- The port is populated, in a role that uses it, with its domain on and its pads released. -/
def Dev.mpUsable (d : Dev) (n : Nat) : Bool :=
  d.gcr.role != .worker && (d.get R.AMP_MEM_CFG.PORT_EN).testBit n && d.domOn 18 && !d.padHeld 18 &&
  d.twn.st != .superseded

/-- Clear writes that were in flight on a port whose link has returned go out again (R184, R393). -/
def Dev.clearAgain (d : Dev) (n : Nat) : Dev :=
  (d.sdr.flight.filter (fun k => (d.memLoc (d.sdrMem k * 128)).1 == n)).foldl
    (fun d k => d.memWrite (d.sdrMem k) Mask.full ⟨0, false⟩) d

/-- Clear writes that were in flight on a port that FAILED are discarded (R393). -/
def Dev.clearLost (d : Dev) (n : Nat) : Dev :=
  let gone := d.sdr.flight.filter (fun k => (d.memLoc (d.sdrMem k * 128)).1 == n)
  let d := { d with sdr := { d.sdr with flight := d.sdr.flight.filter (fun k => !gone.contains k) } }
  (gone.foldl (fun d k => d.report (R.MPn_EVT.WR_LOST n) n 0 (d.sdrMem k * 128) 0) d).sdrPump

/-- A memory port's link trains to a width and a rate, within the caps of its configuration (Table LNK-10). -/
def Dev.mpLinked (d : Dev) (n width : Nat) (slow : Bool) : Mp :=
  { d.mp n with width := max width (d.get (R.MPn_CFG.MAXW n)), slow := slow || d.flag (R.MPn_CFG.MAXRATE n) }

/-- The port is READY, with its decoder committed: what waited for it starts, the clear of the SDR region last (R184, R392). -/
def Dev.mpReady (d : Dev) (n gib width : Nat) (slow : Bool) : Dev :=
  let d := d.setMp n { d.mpLinked n width slow with st := 3, cap := gib, down := false, hdmGib := gib, hdmOn := true }
  ((((d.returnToken 2 (mpOwner n)).mpStart n).wbKick).clearAgain n).sdrPump

/-- How the steps of R392 end: READY, or the event of the step that failed; a capacity other than CAP fails step 3. A link that
has trained returns its token, and is being enumerated. True: nothing has failed. -/
def Dev.mpSteps (d : Dev) (n : Nat) (r : BringUp) : Bool × Dev :=
  let fail (d : Dev) : Dev := (d.setMp n { d.mp n with st := 0, down := false }).returnToken 2 (mpOwner n)
  let wrong (gib : Nat) : Dev := (fail (d.setMp n { d.mp n with cap := gib })).raise (R.MPn_EVT.CAP_MISMATCH n)
  match r with
  | .ready gib width slow =>
    if gib = d.get R.AMP_MEM_CAP.CAP then (true, d.mpReady n gib width slow) else (false, wrong gib)
  | .trained width slow => (true, (d.setMp n { d.mpLinked n width slow with st := 2 }).returnToken 2 (mpOwner n))
  | .trainFail | .enumFail => (false, fail d)
  | .capMismatch gib => (false, wrong gib)
  | .hdmErr =>
    let d := d.setMp n { d.mp n with hdmGib := d.get R.AMP_MEM_CAP.CAP, hdmOn := false }
    (false, (fail d).raise (R.MPn_EVT.HDM_ERR n))

/-- A lane that Train had started is taken down (R203). -/
def laneDown (l : Lane) : Lane :=
  if l.st = 0 ∨ l.st = 5 then l else { l with st := 1, step := 0, live := false, due0 := 0, due1 := 0 }

/-- Train ends in Configure: every lane and port it had started is taken down (R203, Table MOD-2). -/
def Dev.backToConfigure (d : Dev) : Dev :=
  let d := d.takeAllDown
  let d := { d with dsc := { d.dsc with lanes := d.dsc.lanes.map laneDown, filling := false, fillDone := false, fillProg := 0 },
                    mps := d.mps.map (fun (m : Mp) => if m.st = 5 then m else {}),
                    twn := { d.twn with st := if d.twn.st = PairSt.pairing then PairSt.single else d.twn.st,
                                        mirror := false, alone := false, candidate := false, found := false },
                    pur := { d.pur with tokens := d.pur.tokens.filter (fun t => t.1 != 2 && t.1 != 5),
                                        waiting := d.pur.waiting.filter (fun t => t.1 != 2 && t.1 != 5) } }
  (d.raise R.GCR_EVT.CFG_ERR).toMode .configure

/-- Doze wakes the device. -/
def Dev.dozeWaking (d : Dev) : Bool := match d.pwr.doze with | some z => z.waking | none => false

/-- REMOVE and ADD are accepted in Configure and in DETACHED (R394). -/
def Dev.hotPlug (d : Dev) : Bool := d.gcr.mode == .configure || d.twn.st == .detached

/-- A port that a written ADD has started: HP_DONE once it is READY. -/
def Dev.addDone (d : Dev) (n : Nat) (r : BringUp) : Dev :=
  let x := d.mpSteps n r
  x.2.raiseIf ((x.2.mp n).st == 3) (R.MPn_EVT.HP_DONE n)

/-- The port's link has trained, or trains: with its SerDes token, which a wake from Doze does not take (R441), and on the clock
of its PLL (R397, R439). -/
def Dev.mpTrains (d : Dev) (n : Nat) : Bool :=
  (d.mp n).st == 2 || ((d.hasToken 2 (mpOwner n) || d.dozeWaking) && d.srcReady (serdesPll (mpOwner n)))

/-- A port that takes part asks for its SerDes token, which starts its PLL; as Doze wakes the PLL starts without one (R441). -/
def Dev.mpAsks (d : Dev) (n : Nat) : Dev :=
  if (d.mp n).st = 2 ∨ d.hasToken 2 (mpOwner n) then d
  else if d.dozeWaking then (d.startPll (serdesPll (mpOwner n))).setMp n { d.mp n with st := 1 }
  else d.askToken 2 (mpOwner n)

/-- A port enabled in PORT_EN is brought up in Train, or as Doze wakes (R448), once it has its SerDes token and its PLL runs; a
port that a written ADD has started likewise. -/
def memoryPortBringUp (n : Nat) (r : BringUp) (d : Dev) : Dev :=
  if !d.mpUsable n then d
  else if d.hotPlug then
    (if ((d.mp n).st == 1 || (d.mp n).st == 2) && !(d.mp n).down && d.mpTrains n then d.addDone n r else d)
  else if !(d.gcr.mode == .train || d.dozeWaking) ∨ 3 ≤ (d.mp n).st then d
  else
    let d := d.mpAsks n
    if !d.mpTrains n then d
    else
      let x := d.mpSteps n r
      if x.1 || x.2.gcr.mode != .train then x.2 else x.2.backToConfigure

/-- MEMORY_PORT_BRING_UP. -/
def execMemoryPortBringUp (mp : Nat) (r : BringUp) (s : State) : Host.Outcome State Fault Refusal :=
  onCore s (memoryPortBringUp mp r)

/-! ## Loss of a link (R393) -/

/-- Writes issued on a port that has gone down will be issued again. -/
def Dev.unissue (d : Dev) (n : Nat) : Dev :=
  if d.gcr.role = .worker then d
  else d.setWb (mapIf (fun e => (d.memLoc (e.line * 128)).1 == n) (fun e => { e with issued := false }) d.wbf.ents)

/-- A READY port's link goes down: it retrains, and its accesses wait. -/
def mpLinkDown (n : Nat) (d : Dev) : Dev :=
  let m := d.mp n
  if m.st ≠ 3 then d
  else
    let again := m.reads.map (fun l => (l, false))
    let d := d.setMp n { m with st := 0, down := true, reads := [], waiting := again ++ m.waiting }
    ((d.raise (R.MPn_EVT.LINK_DOWN n)).unissue n).askToken 2 (mpOwner n)

/-- MP_LINK_DOWN. -/
def execMpLinkDown (mp : Nat) (s : State) : Host.Outcome State Fault Refusal := onCore s (mpLinkDown mp)

/-- A port that was READY and has lost its link. -/
def Mp.waits (m : Mp) : Bool := m.st ≤ 2 && m.down

/-- The link returns within DOWN_TO: the waiting accesses go on. -/
def mpLinkReturn (n width : Nat) (slow : Bool) (d : Dev) : Dev :=
  if Mp.waits (d.mp n) ∧ d.mpUsable n then d.mpReady n (d.mp n).cap width slow else d

/-- MP_LINK_RETURN. -/
def execMpLinkReturn (mp width : Nat) (slow : Bool) (s : State) : Host.Outcome State Fault Refusal :=
  onCore s (mpLinkReturn mp width slow)

/-- A port is out of service: the reads it owes will end in errors. -/
def Mp.ends (m : Mp) (st : Nat) : Mp :=
  { m with st := st, down := false, waiting := [], reads := m.reads ++ m.waiting.map (·.1) }

/-- DOWN_TO has passed: the port has FAILED, and the device acts by its pair state. Alone, its waiting reads will end in
errors and its writes are discarded. -/
def mpFailed (n : Nat) (d : Dev) : Dev :=
  let m := d.mp n
  if !Mp.waits m then d
  else
    let d := (d.setMp n (Mp.ends m 4)).dropToken 2 (mpOwner n)
    let d := d.raise (R.MPn_EVT.FAILED n)
    if d.isMirror then d.toDetached
    else if d.twn.st = .mirrored then d.enterRecovery
    else d.wbKick.clearLost n

/-- MP_FAILED. -/
def execMpFailed (mp : Nat) (s : State) : Host.Outcome State Fault Refusal := onCore s (mpFailed mp)

/-! ## Hot-plug (R394) -/

/-- REMOVE: traffic stops, and the port is REMOVED; reads it owes end in errors and writes are discarded, as on a port that
FAILED (R345, R393). -/
def mpRemove (n : Nat) (d : Dev) : Dev :=
  if d.gcr.role = .worker then d
  else if d.hotPlug || (d.mp n).st == 4 then
    (((d.setMp n (Mp.ends (d.mp n) 5)).returnToken 2 (mpOwner n)).wbKick).clearLost n
  else d.raise (R.MPn_EVT.HP_REFUSED n)

/-- MP_REMOVE. -/
def execMpRemove (src : Src) (mp : Nat) (s : State) : Host.Outcome State Fault Refusal :=
  onDev s (fun d => d.write src (R.MPn_HP.REMOVE mp).ofs (mpRemove mp))

/-- A write of ADD is accepted: the port trains with its SerDes token, on the clock of its PLL; one that is not enabled, whose
domain is off or whose pads are held cannot, and stays out of service (R394, R426, R439). -/
def Dev.mpAddStart (d : Dev) (n : Nat) : Dev :=
  if d.gcr.role = .worker then d
  else if !d.hotPlug then d.raise (R.MPn_EVT.HP_REFUSED n)
  else if !d.mpUsable n || (d.mp n).st == 3 then d
  else (d.setMp n { d.mp n with st := 0 }).mpAsks n

/-- ADD: the steps of R392, HP_DONE, or the port out of service with the event of the failed step. Where the port must still wait
for its token or its PLL, MEMORY_PORT_BRING_UP reports how the steps end. -/
def mpAdd (n : Nat) (r : BringUp) (d : Dev) : Dev :=
  let e := d.mpAddStart n
  if d.gcr.role != .worker && d.hotPlug && d.mpUsable n && (e.mp n).st != 3 && e.mpTrains n then e.addDone n r else e

/-- MP_ADD. -/
def execMpAdd (src : Src) (mp : Nat) (r : BringUp) (s : State) : Host.Outcome State Fault Refusal :=
  onDev s (fun d => d.write src (R.MPn_HP.ADD mp).ofs (mpAdd mp r))

/-! ## Host access to the memory device (R395), viral (R390) -/

/-- The access MPn_IO_DATA performs, and the value a read returns: all ones after a completion error, which a link that is
not READY also gives; a superseded device sends nothing there (R221). -/
def Dev.mpAccess (d : Dev) (n : Nat) (write : Bool) (v : Word) (ans : Option Word) : Word × Dev :=
  if d.gcr.role = .worker then (0, d)
  else
    let addr := d.get (R.MPn_IO_ADDR.ADDR n) / 4 * 4
    let d := if d.twn.st = .superseded then d else d.emit (.memIo n addr (d.flag (R.MPn_IO_ADDR.SPACE n)) write v)
    match ans, (d.mp n).st == 3 && d.twn.st != .superseded with
    | some w, true => (w, d.setMp n { d.mp n with ioErr := false, ioData := if write then v else w })
    | _, _ => (BitVec.allOnes 32, d.setMp n { d.mp n with ioErr := true, ioData := if write then v else BitVec.allOnes 32 })

/-- A read or write of MPn_IO_DATA. -/
def mpIoData (src : Src) (n : Nat) (write : Bool) (v : Word) (ans : Option Word) (d : Dev) : Dev :=
  let ofs := (R.MPn_IO_DATA.DATA n).ofs
  if write then d.write src ofs (fun d => (d.mpAccess n true v ans).2)
  else match d.unreachable ofs with
    | some c => d.busErr src ofs false c
    | none =>
      let r := d.mpAccess n false 0 ans
      r.2.emit (.regVal src r.1)

/-- MP_IO_DATA. -/
def execMpIoData (src : Src) (mp : Nat) (write : Bool) (v : Word) (ans : Option Word) (s : State) :
    Host.Outcome State Fault Refusal := onDev s (mpIoData src mp write v ans)

/-- VIRAL. -/
def execViral (mp : Nat) (s : State) : Host.Outcome State Fault Refusal :=
  onCore s (fun d => if (d.mp mp).st = 3 then d.raise (R.MPn_EVT.VIRAL mp) else d)

/-! ## The host port (R396, R519) -/

/-- The host port's own reset: its registers and its MSI-X state. -/
def Dev.resetHost (d : Dev) (up : Bool) : Dev :=
  { d with regs := d.regs.filter (fun e => e.1 < 0x7000 || 0x8000 ≤ e.1),
           hst := { up := up && d.hst.up, width := if up then d.hst.width else 0, rate := if up then d.hst.rate else 0 } }

/-- A function-level reset; HST_PERST_N takes the link down as well. -/
def flr (perst : Bool) (d : Dev) : Dev :=
  if !d.domOn 20 then d
  else if perst then
    let was := d.hst.up
    (d.resetHost false).raiseIf was R.HST_EVT.LINK_DOWN
  else (d.resetHost true).raise R.HST_EVT.FLR

/-- FLR. -/
def execFlr (perst : Bool) (s : State) : Host.Outcome State Fault Refusal := onDev s (flr perst)

end Sys2Proof.Machine
end

