-- ==== Sys2Proof/Machine/Doze.lean ====
section
/-! DEFINITION. Doze: the entry stages, an abort, wake events and the wake (R444 to R448). -/

namespace Sys2Proof.Machine

/-- Replaces the Doze state. -/
def Dev.setDoze (d : Dev) (z : Option Doze) : Dev := { d with pwr := { d.pwr with doze := z } }

/-- PWR_DOZE_CTRL.REQ: entry begins, or is refused while ACTIVE is 1. -/
def dozeReq (d : Dev) : Dev :=
  if d.dozeActive then d.raise R.PWR_EVT.DOZE_ABORT
  else d.setDoze (some { prevMode := d.gcr.mode, prevPt := d.pwr.fpt, prevV := d.pwr.vpt, prevOn := d.pwr.on })

/-- DOZE_REQ. -/
def execDozeReq (src : Src) (s : State) : Host.Outcome State Fault Refusal :=
  onDev s (fun d => d.write src R.PWR_DOZE_CTRL.REQ.ofs dozeReq)

/-- A refusal at a stage aborts entry; requests held by stage 2 are taken in their order of arrival (R445), and a TARGET written
meanwhile takes its step (R433). -/
def Dev.abortDoze (d : Dev) (stage block : Nat) : Dev :=
  let d := (d.set R.PWR_REFUSE.STAGE stage).set R.PWR_REFUSE.BLOCK block
  let asked : Bool := match d.pwr.doze with | some z => z.retarget | none => false
  let d := (d.raise R.PWR_EVT.DOZE_ABORT).setDoze none
  let d := if asked then d.stepTo (d.get R.PWR_DVFS.TARGET) else d
  if 2 < stage then ({ d with pip := { d.pip with stopped := false } }).releaseWaiting else d

/-- The stage is over. -/
def Dev.stageDone (d : Dev) (z : Doze) : Dev := d.setDoze (some { z with stage := z.stage + 1 })

/-- The block that refuses at stage 1. -/
def Dev.firstRefusal (d : Dev) : Option Nat :=
  if !d.gcr.mode.serving || d.pwr.step.isSome || d.pip.sweep.isSome || d.pwr.waking != 0 ||
      d.pur.waiting.any (fun t => t.1 == 3) then some 1
  else if d.gcr.role != .standalone then some 8
  else if d.twinOn then some 9
  else none

/-- Stage 7: HDC is flushed, and the SDR cache written back. -/
def Dev.writeBackAll (d : Dev) : Dev :=
  let l := d.sdr.changed
  let d := l.foldl Dev.sdrWrite d.flushHeaders
  { d with sdr := { d.sdr with changed := [] } }

/-- Switches off those of a list of domains that are on. -/
def Dev.turnAllOff (d : Dev) (l : List Nat) : Dev := (l.filter d.domOn).foldl Dev.turnOff d

/-- CORE goes to a frequency and a voltage point, by the step of R433 without a token (R441, R448). A change of the voltage
that R428 refuses leaves the points as they are. -/
def Dev.toPoint (d : Dev) (f v : Nat) : Dev :=
  if d.needsVolt v && !d.pwr.pmbOk then d.raise R.PWR_EVT.DVFS_REFUSED
  else if f = d.pwr.fpt ∧ v = d.pwr.vpt then d
  else d.dvfsBegin f v false

/-- Stage 9: the header and departure buffers and the memory ports lose power, and the twin link, which Table PWR-1 has off in
Doze; the wake switches on what was on before (log entry 110). -/
def Dev.powerDownMem (d : Dev) : Dev :=
  let d := d.turnAllOff [18, 3, 4, 19]
  { d with hdc := {}, sdr := { d.sdr with cache := [] } }

/-- The wake begins with the step of CORE; PLL_MEM and the domains that were on follow (R448, steps 1 to 3). -/
def Dev.wakeDoze (d : Dev) (z : Doze) : Dev :=
  let d := d.setDoze (some { z with asleep := false, waking := true, wakeStep := 1 })
  let t := d.get R.PWR_DVFS.TARGET
  let d := if z.retarget then d.toPoint t t else d.toPoint z.prevPt z.prevV
  if d.pwr.step.isSome then d else d.wakeStepped

/-- The end of stage 10: PLL_MEM stops, the device is in Doze; a wake event that fired during entry wakes it at once
(R446). -/
def Dev.fallAsleep (d : Dev) (z : Doze) : Dev :=
  let d := (((d.stopPll 5).toMode .doze).raise R.PWR_EVT.DOZE_IN)
  let z := { z with stage := 10, asleep := true }
  if z.woken then d.wakeDoze z else d.setDoze (some z)

/-- Stage 10: CORE steps to P3, and then the device falls asleep (R444). -/
def Dev.lastStage (d : Dev) (z : Doze) : Dev :=
  if z.slowing then (if d.pwr.step.isSome then d else d.fallAsleep z)
  else
    let z := { z with slowing := true }
    let d := (d.setDoze (some z)).toPoint 3 3
    if d.pwr.step.isSome then d else d.fallAsleep z

/-- The next stage finishes, refuses, or still waits. -/
def Dev.stage (d : Dev) (z : Doze) : Dev :=
  match z.stage + 1 with
  | 1 => match d.firstRefusal with
    | some b => d.abortDoze 1 b
    | none => d.stageDone z
  | 2 => if d.pip.mnt.busy || d.pip.sweep.isSome then d.abortDoze 2 2
    else ({ d with pip := { d.pip with stopped := true } }).stageDone z
  | 3 => if !d.cnf.tickets.isEmpty then d.abortDoze 3 3
    else if d.cnf.txns.isEmpty && d.cnf.pool.isEmpty then d.stageDone z else d
  | 4 => if d.pendingDeps != 0 then d.abortDoze 4 4 else d.stageDone z
  | 5 =>
    let d := (d.apd.streams.map (fun (e : Nat × Stream) => e.1)).foldl Dev.closeStream d
    if d.apd.streams.any (fun e => streamBusy e.2) || !d.cnf.txns.isEmpty || !d.cnf.pool.isEmpty then d else d.stageDone z
  | 6 =>
    let d := d.wbForce (fun _ => true)
    if d.wbf.ents.isEmpty then d.stageDone z else d
  | 7 => d.writeBackAll.stageDone z
  | 8 => if !d.scb.flight.isEmpty then d
    else (((List.range 18).foldl Dev.laneSleeps d.burstOver).turnAllOff [5, 6, 7, 8, 9]).stageDone z
  | 9 => d.powerDownMem.stageDone z
  | _ => d.lastStage z

/-- DOZE_STAGE. -/
def execDozeStage (s : State) : Host.Outcome State Fault Refusal :=
  onCore s (fun d => match d.pwr.doze with
    | some z => if z.asleep || z.waking then d else d.stage z
    | none => d)

/-- QUIESCE has passed in a stage that waits: its block refuses. -/
def dozeQuiesceTimeout (d : Dev) : Dev :=
  match d.pwr.doze with
  | some z =>
    let k := z.stage + 1
    if !z.asleep && !z.waking && (k == 3 || k == 5 || k == 6 || k == 7) then d.abortDoze k k else d
  | none => d

/-- DOZE_QUIESCE_TIMEOUT. -/
def execDozeQuiesceTimeout (s : State) : Host.Outcome State Fault Refusal := onCore s dozeQuiesceTimeout

/-- A wake event is recorded; asleep, the device wakes (R446, R447). -/
def Dev.wakeBy (d : Dev) (bit : Nat) : Dev :=
  match d.pwr.doze with
  | some z =>
    let d := d.set ⟨R.PWR_WAKE_SRC.SRC.ofs, bit, bit⟩ 1
    let z := { z with woken := true }
    if z.asleep then d.wakeDoze z else d.setDoze (some z)
  | none => d

/-- An enabled event of PWR_WAKE_EN; BELL comes once the bell counter has reached PWR_WAKE_T (R447). -/
def wakeEvent (bit : Nat) (d : Dev) : Dev :=
  if bit < 4 && (d.get R.PWR_WAKE_EN.EN).testBit bit &&
      (bit != 3 || Nat.ble (d.get64 R.PWR_WAKE_T_LO.T_LO.ofs) d.bel.now.toNat) then d.wakeBy bit else d

/-- WAKE_EVENT. -/
def execWakeEvent (bit : Nat) (s : State) : Host.Outcome State Fault Refusal := onDev s (wakeEvent bit)

/-- DOZE_WAKE. -/
def execDozeWake (src : Src) (s : State) : Host.Outcome State Fault Refusal :=
  onDev s (fun d => d.write src R.PWR_DOZE_CTRL.WAKE.ofs (fun d => d.wakeBy 4))

/-- The domains of the wake are on and released, and none of their lanes is left in self-refresh (R448). -/
def Dev.dozeReady (d : Dev) (z : Doze) : Bool :=
  z.wakeStep == 3 && ([3, 4, 5, 6, 7, 8, 9, 18].filter z.prevOn.getLsbD).all (fun k => d.domOn k && !d.padHeld k) &&
  (List.range 18).all (fun n => !d.domOn (laneDomain n) || (d.lane n).st != 4)

/-- The pipeline and the scrubber go on, in the mode held before entry. -/
def Dev.dozeServes (d : Dev) (z : Doze) : Dev :=
  let d := if d.gcr.mode = .doze then d.toMode (if z.prevMode.service58 then d.serviceMode else z.prevMode) else d
  ({ d with pip := { d.pip with stopped := false } }).releaseWaiting

/-- Every enabled memory port is READY. -/
def Dev.mpsReady (d : Dev) : Bool := d.memPorts.all (fun n => 3 ≤ (d.mp n).st)

/-- The end of the wake: PIP resumes once the lanes are ready, and ACTIVE clears once the memory ports are (R448, steps 5
and 6). -/
def dozeOut (d : Dev) : Dev :=
  match d.pwr.doze with
  | some z =>
    if z.waking && d.dozeReady z then
      let d := if d.pip.stopped then d.dozeServes z else d
      if d.mpsReady then (d.setDoze none).raise R.PWR_EVT.DOZE_OUT else d
    else d
  | none => d

/-- DOZE_OUT. -/
def execDozeOut (s : State) : Host.Outcome State Fault Refusal := onCore s dozeOut

end Sys2Proof.Machine
end

