-- ==== Sys2Proof/Machine/Modes.lean ====
section
/-! DEFINITION. The modes of start-up and service: GO, self-test, Train, SERVE and Drain (R452 to R475). -/

namespace Sys2Proof.Machine

/-! ## GO (R467, R468) -/

/-- The timing fields of DSC_TIM0 to DSC_TIM4 (Table DST-7). -/
def timingFields : List FieldRef := [
  R.DSC_TIM0.CL, R.DSC_TIM0.CWL, R.DSC_TIM0.TRCD, R.DSC_TIM0.TRP, R.DSC_TIM1.TRAS, R.DSC_TIM1.TWR, R.DSC_TIM1.TRTP,
  R.DSC_TIM1.TFAW, R.DSC_TIM2.TRRD_S, R.DSC_TIM2.TRRD_L, R.DSC_TIM2.TCCD_L, R.DSC_TIM2.TWTR_L, R.DSC_TIM3.TRFC1,
  R.DSC_TIM3.TRFCSB, R.DSC_TIM4.TREFI, R.DSC_TIM4.TXS]

/-- The highest SPEED code of the ordering code (Table SCO-1). -/
def maxSpeed (grade : Bool) : Nat := if grade then 2 else 4

/-- DSC_CFG or DSC_TIMn fails R299. -/
def Dev.dscBad (d : Dev) : Bool :=
  (maxSpeed d.gcr.grade < d.get R.DSC_CFG.SPEED) || d.get R.DSC_CFG.DLANES == 3 || d.get R.DSC_CFG.DDENS == 3 ||
  d.get R.DSC_CFG.HDENS == 3 || timingFields.any (fun f => d.get f == 0)

/-- The memory configuration fails the checks of R203 on CAP, PORT_EN and M, M at most 16 TiB. -/
def Dev.memBad (d : Dev) : Bool :=
  let c := d.get R.AMP_MEM_CAP.CAP
  d.gcr.role != .worker && (c == 0 || 2048 < c || d.get R.AMP_MEM_CFG.PORT_EN == 0 || 2 ^ 44 < d.memSize)

/-- A worker's index does not match R21. -/
def Dev.widxBad (d : Dev) : Bool :=
  let odd : Bool := d.get R.HIE_CFG.WIDX % 2 == 1
  d.gcr.role == .worker && (if d.twinOn then odd != d.gcr.side else odd)

/-- The reason for which GO is refused, as GCR_STAT.GO_ERR codes it; 0 when it is accepted. -/
def Dev.goErr (d : Dev) : Nat :=
  if d.clk.xtalFail then 1 else if d.gcr.role == .reserved then 2 else if d.dscBad then 3 else if d.memBad then 4
  else if d.widxBad then 5 else 0

/-- A GCR_CMD write that is not open is refused (R455). -/
def Dev.cmdRefused (d : Dev) : Dev := d.raise R.GCR_EVT.CMD_REFUSED

/-- GO in Configure: Self-test with a commit pass, or a refusal with its reason. -/
def goCmd (d : Dev) : Dev :=
  if d.gcr.mode ≠ .configure ∨ d.dozeActive then d.cmdRefused
  else
    let e := d.goErr
    if e = 0 then (cfgCommit d).toMode .selfTest
    else
      let d := (d.set R.GCR_STAT.GO_ERR e).raise R.GCR_EVT.CFG_ERR
      (d.raiseIf (e == 2) R.GCR_EVT.STRAP_BAD).raiseIf (e == 3) R.DSC_EVT.CFG_ERR

/-- GO. -/
def execGo (src : Src) (s : State) : Host.Outcome State Fault Refusal :=
  onDev s (fun d => d.write src R.GCR_CMD.GO.ofs goCmd)

/-- The image's AUTOSTART: its last record is applied and the step of R432 has ended. -/
def autostart (d : Dev) : Dev :=
  if d.gcr.autostart && d.gcr.mode == .configure && d.pwr.step.isNone then
    goCmd { d with gcr := { d.gcr with autostart := false } }
  else d

/-- AUTOSTART. -/
def execAutostart (s : State) : Host.Outcome State Fault Refusal := onDev s autostart

/-! ## Self-test and Train (R469 to R472) -/

/-- Self-test has run: whether anything failed, and the outcome of the array test, when it is enabled (R470). -/
def Dev.bistResult (d : Dev) (bad : Bool) (failArr us : Nat) : Dev :=
  let d := ((d.set R.TST_STAT.DONE 1).set R.TST_STAT.PASS (if bad then 0 else 1)).set R.TST_TIME.US us
  if d.flag R.TST_CFG.BIST_EN && failArr != 0 then (d.set R.TST_STAT.FAIL_ARR failArr).raise R.TST_EVT.TST_FAIL else d

/-- The outcome of the checker self-test, when SEL is 0: the mismatches of its patterns (R356). -/
def Dev.checkerResult (d : Dev) (fails : Nat) : Dev :=
  if d.flag R.ECC_TEST_SEL.SEL then d
  else
    let d := ((d.set R.ECC_TEST_STAT.DONE 1).set R.ECC_TEST_STAT.PASS (if fails = 0 then 1 else 0)).set
      R.ECC_TEST_STAT.FAILS (min fails 4095)
    d.raiseIf (fails != 0) R.ECC_EVT.CHK_FAIL

/-- Every on-die array is zero again (R359, R469). -/
def Dev.initArrays (d : Dev) : Dev :=
  { d with hdc := {}, wbf := {}, dir := {}, sdr := {}, cnf := { ptr := d.cnf.ptr }, dep := {}, apd := { streams := d.apd.streams },
           que := { seq := d.que.seq }, twn := { d.twn with log := [], queue := [] } }

/-- Train begins: every populated lane is to be started, and with EN 1 the pair is to form (R301, R206). -/
def Dev.enterTrain (d : Dev) : Dev :=
  let lanes := (List.range 18).map (fun n => if d.populated n then ({ st := 1 } : Lane) else {})
  let d := { d with dsc := { lanes := lanes } }
  let d := if d.twinOn then { d with twn := { d.twn with st := .pairing, mirror := true, alone := false, candidate := false,
                                                                              found := false } }
    else d
  (d.startPll 5).toMode .train

/-- Self-test completes: Train, or FAULT_N in Self-test. The patterns pass through encoder and decoder; fails are the mismatches
that a faulty lane adds to theirs (log entry 99). -/
def selfTestDone (failArr fails us : Nat) (d : Dev) : Dev :=
  if d.gcr.mode ≠ .selfTest then d
  else
    let wrong := checkerFails + fails
    let bad : Bool := (d.flag R.TST_CFG.BIST_EN && failArr != 0) || (!d.flag R.ECC_TEST_SEL.SEL && wrong != 0)
    let d := (d.bistResult bad failArr us).checkerResult wrong
    if bad then d.faultN else d.initArrays.enterTrain

/-- SELF_TEST_DONE. -/
def execSelfTestDone (failArr fails us : Nat) (s : State) : Host.Outcome State Fault Refusal :=
  onCore s (selfTestDone failArr fails us)

/-- A lane is as far as Train can bring it. -/
def laneTrained (l : Lane) : Bool := l.st == 0 || l.st == 3 || l.st == 5

/-- Train is complete (R471). -/
def Dev.trained (d : Dev) : Bool :=
  d.dsc.lanes.all laneTrained && (d.lane 16).st == 3 && (d.lane 17).st == 3 && d.dsc.fillDone &&
  (d.groupsOn &&& ~~~ d.pip.lost) != 0 &&
  (d.gcr.role == .worker || d.memPorts.all (fun n => (d.mp n).st == 3)) &&
  (!d.twinOn || d.twn.st != .pairing)

/-- Train completes: service in the mode R456 gives, and the SDR clear begins. -/
def trainComplete (d : Dev) : Dev :=
  if d.gcr.mode == .train && d.trained then
    let d := d.toMode d.serviceMode
    if d.gcr.role = .worker then d else d.startSdrClear
  else d

/-- TRAIN_COMPLETE. -/
def execTrainComplete (s : State) : Host.Outcome State Fault Refusal := onCore s trainComplete

/-! ## SERVE and Drain (R473 to R475) -/

/-- A write to GCR_CFG.SERVE. -/
def serve (v : Bool) (d : Dev) : Dev := (d.set R.GCR_CFG.SERVE (if v then 1 else 0)).remode

/-- SERVE. -/
def execServe (src : Src) (v : Bool) (s : State) : Host.Outcome State Fault Refusal :=
  onDev s (fun d => d.write src R.GCR_CFG.SERVE.ofs (serve v))

/-- DRAIN: entered in modes 5 to 8; recorded on the mirror side. -/
def drain (d : Dev) : Dev :=
  if !d.gcr.mode.service58 || d.dozeActive then d.cmdRefused
  else if d.isMirror then { d with gcr := { d.gcr with drainAsked := true } }
  else d.startDrain

/-- DRAIN. -/
def execDrain (src : Src) (s : State) : Host.Outcome State Fault Refusal :=
  onDev s (fun d => d.write src R.GCR_CMD.DRAIN.ofs drain)

/-- The pass has taken its last set, and what it wrote back has been acknowledged. -/
def Dev.passOver (d : Dev) : Bool :=
  d.gcr.mode == .drain && d.pip.drainOn && (d.sets ≤ d.pip.drainNext) && d.wbf.ents.all (fun e => e.kind != .clean)

/-- The pass is over: HDC is flushed, and Drain is complete. -/
def drainDone (d : Dev) : Dev :=
  if d.passOver && !d.gcr.drained then
    let d := d.flushHeaders
    ({ d with gcr := { d.gcr with drained := true } }).raise R.GCR_EVT.DRAIN_DONE
  else d

/-- DRAIN_DONE. -/
def execDrainDone (s : State) : Host.Outcome State Fault Refusal := onCore s drainDone

/-- RESUME in Drain restores service; on the mirror side it withdraws a recorded DRAIN. -/
def drainResume (d : Dev) : Dev :=
  if d.dozeActive then d.cmdRefused
  else if d.isMirror && d.gcr.drainAsked then { d with gcr := { d.gcr with drainAsked := false } }
  else if d.gcr.mode = .drain then
    ({ d with pip := { d.pip with drainOn := false }, gcr := { d.gcr with drained := false } }).toMode d.serviceMode
  else d.cmdRefused

/-- DRAIN_RESUME. -/
def execDrainResume (src : Src) (s : State) : Host.Outcome State Fault Refusal :=
  onDev s (fun d => d.write src R.GCR_CMD.RESUME.ofs drainResume)

end Sys2Proof.Machine
end

