-- ==== Sys2Proof/Machine/Reset.lean ====
section
/-! DEFINITION. Reset, straps and restart, and the chain requests software starts (R457 to R460, R476, R482 to R484,
R519). -/

namespace Sys2Proof.Machine

/-! ## Reset (R457 to R460, R519) -/

/-- What a reset of every block leaves: reset values, the straps in force, the chain address, and what has already been
driven. The contents of the SDRAM are not kept: Train writes every header anew (R304). -/
def Dev.held (d : Dev) (mode : Mode) (keepAddr : Bool) : Dev :=
  { gcr := { rstN := d.gcr.rstN, pwrOk := d.gcr.pwrOk, mode := mode, role := d.gcr.role, side := d.gcr.side,
             headStrap := d.gcr.headStrap, grade := d.gcr.grade, tap := d.gcr.tap },
    chn := { addr := if keepAddr then d.chn.addr else 0, head := d.gcr.headStrap, inUp := d.chn.inUp && keepAddr },
    sent := d.sent, free := d.free }

/-- What the pins show while RST_N is low and PWR_OK is high: FAULT_N and INT_N are released (Table PKG-4). A restart resets them
alike, but for a host link that it keeps (R476). -/
def resetPins (host : Bool) : List Out :=
  [.pin "DS_VR_EN0" false, .pin "DS_VR_EN1" false, .pin "DS_VR_EN2" false, .pin "DS_VR_EN3" false, .pin "CLK_OUT" false,
   .pin "SPI_CS_N" true, .serdesIdle host] ++ (List.range 18).map Out.laneReset

/-- The pins take their states of Table PKG-4 (R562). -/
def Dev.pinsReset (d : Dev) (host : Bool) : Dev := (resetPins host).foldl Dev.emit d

/-- RST_N falls, or PWR_OK falls: Cold. PWR_OK low clears the chain address and stops the repeater. -/
def rstNLow (pwrOk : Bool) (d : Dev) : Dev :=
  let ok : Bool := pwrOk && d.gcr.pwrOk
  let d := d.held .cold ok
  let d := { d with gcr := { d.gcr with rstN := false, pwrOk := ok } }
  if ok then d.pinsReset true else d

/-- RST_N_LOW. -/
def execRstNLow (pwrOk : Bool) (s : State) : Host.Outcome State Fault Refusal := onDevAlways s (rstNLow pwrOk)

/-- PWR_OK rises while RST_N is low: the repeater forwards frames and counts in roll calls, and the pins take their states of
Table PKG-4 (R459, R562). -/
def pwrOkRise (d : Dev) : Dev :=
  if d.gcr.mode = .cold then ({ d with gcr := { d.gcr with pwrOk := true } }).pinsReset true else d

/-- PWR_OK_RISE. -/
def execPwrOkRise (s : State) : Host.Outcome State Fault Refusal := onDevAlways s pwrOkRise

/-- RST_N rises with PWR_OK high: the straps are sampled and Boot begins. -/
def resetRelease (role : Role) (side head : Bool) (d : Dev) : Dev :=
  if d.gcr.mode = .cold ∧ d.gcr.pwrOk then
    let d := { d with gcr := { d.gcr with rstN := true, role := role, side := side, headStrap := head } }
    d.held .boot true
  else d

/-- RESET_RELEASE. -/
def execResetRelease (role : Role) (side head : Bool) (s : State) : Host.Outcome State Fault Refusal :=
  onDevAlways s (resetRelease role side head)

/-- The HST page, the MSI-X table and the link, kept across a RESTART written while the HST domain is on. -/
def Dev.keepHost (old d : Dev) : Dev :=
  if old.domOn 20 then
    { d with hst := old.hst, regs := old.regs.filter (fun e => 0x7000 ≤ e.1 && e.1 < 0x8000) }
  else d

/-- RESTART in Recovery or Self-test: Boot, with every other register at its reset value (R476). -/
def restart (d : Dev) : Dev :=
  if (d.gcr.mode == .recovery || d.gcr.mode == .selfTest) && !d.dozeActive then
    (Dev.keepHost d (d.held .boot true)).pinsReset (!d.domOn 20)
  else d.cmdRefused

/-- RESTART. -/
def execRestart (src : Src) (s : State) : Host.Outcome State Fault Refusal :=
  onDev s (fun d => d.write src R.GCR_CMD.RESTART.ofs restart)

/-! ## Chain requests software starts (R482 to R484) -/

/-- CHN_CMD.ENUM starts a roll call at the head; no effect in a member. -/
def chnEnum (d : Dev) : Dev := if d.chn.head then d.startRollCall else d

/-- CHN_ENUM. -/
def execChnEnum (src : Src) (s : State) : Host.Outcome State Fault Refusal :=
  onDev s (fun d => d.write src R.CHN_CMD.ENUM.ofs chnEnum)

/-- The request CHN_REQ holds; TYPE 3 is none. -/
def Dev.chnFrame (d : Dev) : Option Frame :=
  let o := d.get R.CHN_OFS.OFFSET
  let v := d.raw R.CHN_WDATA.DATA.ofs
  match d.get R.CHN_REQ.TYPE with
  | 0 => some (.rd o)
  | 1 => some (.wr o v)
  | 2 => some (.bwr o v 0)
  | _ => none

/-- CHN_CMD.GO sends the request of CHN_REQ, from the head with SRC 0; no effect while one is in flight. -/
def chnGo (d : Dev) : Dev :=
  if d.inFlight isReg then d
  else match d.chnFrame with
    | none => d
    | some f =>
      (d.set R.CHN_RSTAT.DONE 0).chainSend (d.get R.CHN_REQ.DST) (if d.chn.head then 0 else d.addr) .reg f

/-- CHN_GO. -/
def execChnGo (src : Src) (s : State) : Host.Outcome State Fault Refusal :=
  onDev s (fun d => d.write src R.CHN_CMD.GO.ofs chnGo)

/-- CHN_IN loses its signal. -/
def inLost (d : Dev) : Dev :=
  if d.chn.inUp then ({ d with chn := { d.chn with inUp := false } }).raise R.CHN_EVT.IN_LOST else d

/-- IN_LOST. -/
def execInLost (s : State) : Host.Outcome State Fault Refusal := onDev s inLost

/-- CHN_IN carries a signal again: the head starts a roll call (R484). -/
def chnInRegain (d : Dev) : Dev :=
  if d.chn.inUp then d else chnEnum { d with chn := { d.chn with inUp := true } }

/-- CHN_IN_REGAIN. -/
def execChnInRegain (s : State) : Host.Outcome State Fault Refusal := onDev s chnInRegain

end Sys2Proof.Machine
end

