-- ==== Sys2Proof/Machine/RegAccess.lean ====
section
/-! DEFINITION. Register accesses: the effect of a write on every register of the map, reads with and without a side
effect, 64-bit pairs, bit aliases, and the bus errors of Table REG-5 (R488 to R511). -/

namespace Sys2Proof.Machine

/-! ## Offsets with a behaviour of their own -/

/-- The MSI-X table and the PBA (R510). -/
def isMsix (ofs : Nat) : Bool := 0x7400 ≤ ofs && ofs < 0x7808

/-- The queue of a QUE_n_DATA register. -/
def queOf (ofs : Nat) : Option Nat :=
  if 0xA104 ≤ ofs ∧ ofs < 0xA1A4 ∧ ofs % 32 = 4 then some ((ofs - 0xA104) / 32) else none

/-- The memory port of an MPn_IO_DATA register. -/
def ioOf (ofs : Nat) : Option Nat :=
  if 0xC0000 ≤ ofs ∧ ofs < 0xD0000 ∧ ofs % 0x2000 = 0x54 then some ((ofs - 0xC0000) / 0x2000) else none

/-- The stream of a descriptor register, and the register's place among those of a stream (Table APD-3). -/
def apdOf (ofs : Nat) : Option (Nat × Nat) :=
  if 0x1D040 ≤ ofs ∧ ofs < 0x1DC40 then some ((ofs - 0x1D040) / 48, (ofs - 0x1D040) % 48) else none

/-- The row's fields with one of two access codes. -/
def RRow.maskOf (r : RRow) (p : Acc → Bool) : Nat :=
  r.fields.foldl (fun m f => if p f.acc then m + fieldMask f.hi f.lo else m) 0

/-- Fields that take a written value (R495). -/
def takesValue (a : Acc) : Bool := a == .rw || a == .rwl || a == .rwo

/-- Fields a write can act on. -/
def writable (a : Acc) : Bool := takesValue a || a == .wt || a == .wo

/-- The written value in the fields that take one; every other bit stays. -/
def Dev.plainWrite (d : Dev) (ofs : Nat) (v : Word) : Dev :=
  match rowAt ofs with
  | some r =>
    let m := r.maskOf takesValue
    d.setRaw ofs (BitVec.ofNat 32 (((d.raw ofs).toNat &&& (m ^^^ 0xFFFFFFFF)) + (v.toNat &&& m)))
  | none => d

/-- Performs an action where a bit is written as 1. -/
def onBit (v : Word) (k : Nat) (f : Dev → Dev) (d : Dev) : Dev := if v.getLsbD k then f d else d

/-! ## Writes, block by block -/

/-- A write of GCR_CMD: each command in turn (R455). -/
def gcrCmd (v : Word) (d : Dev) : Dev :=
  onBit v 3 restart (onBit v 2 drainResume (onBit v 1 drain (onBit v 0 goCmd d)))

/-- A write of PWR_WG_REQ: each bit that changes; none in Doze (R72, R75, R76, R449). The manual gives no order for the bits of one write: the
model takes them from bit 0 up, so the first power-down begins its sweep and later ones are refused (log entry 72). -/
def wgReqWrite (v : Word) (d : Dev) : Dev :=
  if d.dozeActive then d.raise R.PWR_EVT.WG_REFUSED
  else (List.range 4).foldl (fun d g =>
    if v.getLsbD g = d.wgReq g then d
    else if v.getLsbD g then wayGroupPowerDown g d
    else if d.domOn (5 + g) then sweepStop g d else wayGroupWake g d) d

/-- A write of PWR_DOM_OFF: each bit that changes (R421, R422). -/
def domOffWrite (v : Word) (d : Dev) : Dev :=
  (List.range 11).foldl (fun d b => if v.getLsbD b then domainOff b d else domainOn b d) d

/-- A write of PWR_DVFS; the image sets TARGET alone, and the step follows its last record (R432). -/
def dvfsWrite (src : Src) (v : Word) (d : Dev) : Dev :=
  let t := v.toNat % 4
  if src = .image then d.set R.PWR_DVFS.TARGET t else dvfsTarget t d

/-- Registers of the AON blocks whose writes start something. -/
def Dev.actAon (d : Dev) (src : Src) (ofs : Nat) (v : Word) : Option Dev :=
  if ofs = R.GCR_CMD.GO.ofs then some (gcrCmd v d)
  else if ofs = R.GCR_CFG.SERVE.ofs then some (serve (v.getLsbD 0) d)
  else if ofs = R.CFG_COMMIT.COMMIT.ofs then some (onBit v 0 cfgCommit d)
  else if ofs = R.CLK_CMD.XTAL_RETRY.ofs then some (onBit v 0 xtalRetry d)
  else if ofs = R.CLK_FORCE.GATE.ofs then some (clkForceGate (v.truncate 11) d)
  else if ofs = R.CLK_OUT_CFG.SEL.ofs then some (clkOutCfgWrite v d)
  else if ofs = R.CLK_MEAS_CTRL.GO.ofs then some (onBit v 8 (clkMeasGo (bits v.toNat 4 0)) (d.plainWrite ofs v))
  else if ofs = R.PWR_WG_REQ.REQ.ofs then some (wgReqWrite v d)
  else if ofs = R.PWR_PAD_RELEASE.REL.ofs then some (padRelease (v.truncate 21) d)
  else if ofs = R.PWR_DOM_OFF.OFF.ofs then some (domOffWrite v d)
  else if ofs = R.PWR_DVFS.TARGET.ofs then some (dvfsWrite src v d)
  else if ofs = R.PWR_DVFS_MAN.FGO.ofs then some (onBit v 5 dvfsVgo (onBit v 4 dvfsFgo (d.plainWrite ofs v)))
  else if ofs = R.PWR_VR_CMD.CLEAR.ofs then some (onBit v 0 vrClear d)
  else if ofs = R.PWR_DOZE_CTRL.REQ.ofs then some (onBit v 1 (fun d => d.wakeBy 4) (onBit v 0 dozeReq d))
  else if ofs = R.BEL_CTRL.ARM.ofs then some (onBit v 1 markArm (onBit v 0 belArm (onBit v 2 belDisarm d)))
  else if ofs = R.CHN_CMD.ENUM.ofs then some (onBit v 1 chnGo (onBit v 0 chnEnum d))
  else none

/-- One word of an MSI-X entry; PBA bits are read-only. -/
def Dev.msixWrite (d : Dev) (ofs : Nat) (v : Word) : Dev :=
  if 0x7800 ≤ ofs then d
  else
    let n := (ofs - 0x7400) / 16
    let e := d.msixEnt n
    let e := match (ofs % 16) / 4 with
      | 0 => { e with addrLo := v }
      | 1 => { e with addrHi := v }
      | 2 => { e with data := v }
      | _ => { e with masked := v.getLsbD 0 }
    { d with hst := { d.hst with table := if e = {} then bankErase d.hst.table n else bankSet d.hst.table n e } }

/-- One word of the MSI-X table or the PBA. -/
def Dev.msixWord (d : Dev) (ofs : Nat) : Word :=
  if 0x7800 ≤ ofs then half64 d.hst.pba.toNat (ofs == 0x7804)
  else
    let e := d.msixEnt ((ofs - 0x7400) / 16)
    match (ofs % 16) / 4 with
    | 0 => e.addrLo
    | 1 => e.addrHi
    | 2 => e.data
    | _ => if e.masked then 1 else 0

/-- Registers of the event blocks whose writes start something. -/
def Dev.actEvent (d : Dev) (src : Src) (ofs : Nat) (v : Word) : Option Dev :=
  if isMsix ofs then some (d.msixWrite ofs v)
  else if ofs = R.EVC_REARM0.REARM.ofs then some (evcRearm 0 v d)
  else if ofs = R.EVC_REARM1.REARM.ofs then some (evcRearm 1 v d)
  else if queOf ofs = some 4 then some (mboWrite src v d)
  else if 0xA108 ≤ ofs ∧ ofs < 0xA1A8 ∧ ofs % 32 = 8 then some (onBit v 0 (queDrop src ((ofs - 0xA108) / 32)) d)
  else if ofs = R.PMU_GCTL.CLEAR.ofs then some (onBit v 8 pmuClear (d.plainWrite ofs v))
  else if ofs = R.PMU_SMP_CTRL.DONE.ofs then some (onBit v 0 pmuSmpDone d)
  else none

/-- A write of PIP_MNT_CTRL: START and ABORT are both judged by BUSY from before the write (R82, R83). -/
def mntCtrlWrite (ofs : Nat) (v : Word) (d : Dev) : Dev :=
  let busy := d.pip.mnt.busy
  let d := onBit v 8 (mntStart (v.toNat % 4) (v.getLsbD 2)) (d.plainWrite ofs v)
  if busy then onBit v 9 mntAbort d else d

/-- A write of APD_CTRL_n: EN, then FLUSH (R274, R283, R291). -/
def apdCtrlWrite (n : Nat) (v : Word) (d : Dev) : Dev :=
  onBit v 1 (fun d => d.closeSoon n (d.cnf.waiting.any (fun r => appendsTo r.body n)))
    (if v.getLsbD 0 then streamEnable n d else streamDisable n d)

/-- A write of 1 to DEP_CTRL.EN or SCB_CTRL.EN; without effect while the function drains (R162). -/
def enableUnless (draining : Bool) (f : FieldRef) (d : Dev) : Dev := if draining then d else d.set f 1

/-- Registers of the pipeline and its directories whose writes start something. -/
def Dev.actCore (d : Dev) (ofs : Nat) (v : Word) : Option Dev :=
  if ofs = R.PIP_QUAR_CLR.CLR.ofs then some (onBit v 0 pipQuarClr d)
  else if ofs = R.PIP_MNT_CTRL.START.ofs then
    some (mntCtrlWrite ofs v d)
  else if ofs = R.HDC_FLUSH.FLUSH.ofs then some (onBit v 0 hdcFlush d)
  else if ofs = R.WBF_FLUSH.FLUSH.ofs then some (onBit v 0 wbfFlush d)
  else if ofs = R.DIR_PROBE_CTRL.GO.ofs then some (onBit v 0 dirProbeGo d)
  else if ofs = R.DEP_PROBE_CTRL.GO.ofs then some (onBit v 0 depProbeGo d)
  else if ofs = R.DEP_CANCEL_CTRL.GO.ofs then some (onBit v 0 depCancelGo d)
  else if ofs = R.TWN_CMD.JOIN.ofs then
    some (onBit v 3 twnResume (onBit v 2 forceTake (onBit v 1 detach (onBit v 0 join d))))
  else if ofs = R.TWN_CFG.EN.ofs then some ((d.plainWrite ofs v).twnCfgWrite d.twinOn)
  else if ofs = depEN.ofs then
    some (if v.getLsbD 0 then enableUnless d.dep.draining depEN d else depDisable d)
  else if ofs = scbEN.ofs then
    some (if v.getLsbD 0 then enableUnless d.scb.draining scbEN d else scbDisable d)
  else if 0x1C100 ≤ ofs ∧ ofs < 0x1C300 ∧ ofs % 8 = 0 then some (apdCtrlWrite ((ofs - 0x1C100) / 8) v d)
  else none

/-- The answer of the memory device to an access that the command does not report: a free value (log entry 8). -/
def Dev.freeIo (d : Dev) : Option Word × Dev :=
  let w := Config.freeWord d.free
  (if (Config.freeWord (d.free + 1)).getLsbD 0 then some w else none, { d with free := d.free + 2 })

/-- The outcome a memory device reports for an ADD is not known from the write alone; the port trains. -/
def mpHpWrite (n : Nat) (v : Word) (d : Dev) : Dev :=
  onBit v 1 (fun d => d.mpAddStart n) (onBit v 0 (mpRemove n) d)

/-- A write of ECC_ERASEn changes whether a condition of R340 holds (R456). -/
def isEraseReg (ofs : Nat) : Bool := 0x21200 ≤ ofs && ofs < 0x21248

/-- Registers of the ports and the data store whose writes start something. -/
def Dev.actPort (d : Dev) (ofs : Nat) (v : Word) : Option Dev :=
  if ofs = R.ECC_TEST_SEL.SEL.ofs then some (if v.getLsbD 0 then d.plainWrite ofs v else flipDiscard d)
  else if ofs = R.ECC_FLIP_CTRL.ARM.ofs then some (onBit v 0 flipArm d)
  else if 0x21100 ≤ ofs ∧ ofs < 0x21180 then some (chanHaltClr ((ofs - 0x21100) / 4) (BitVec.ofNat 16 (v.toNat / 65536)) d)
  else if isEraseReg ofs then some ((d.plainWrite ofs v).remode)
  else match ioOf ofs with
    | some n =>
      let a := d.freeIo
      some (a.2.mpAccess n true v a.1).2
    | none =>
      match pageAt ofs with
      | some (.ap0, n) => if ofs % 0x1000 = 4 then some (if v.getLsbD 0 then portEnable n d else portDisable n d) else none
      | some (.mp, n) => if ofs % 0x1000 = 0x4C then some (mpHpWrite n v d) else none
      | _ => none

/-- A write that meets no bus error takes effect (R495). -/
def Dev.regEffect (d : Dev) (src : Src) (ofs : Nat) (v : Word) : Dev :=
  match d.actAon src ofs v with
  | some d => d
  | none => match d.actEvent src ofs v with
    | some d => d
    | none => match d.actCore ofs v with
      | some d => d
      | none => match d.actPort ofs v with
        | some d => d
        | none => d.plainWrite ofs v

/-! ## Which accesses end in a bus error (Table REG-5) -/

/-- The half of a pair a register is. -/
def halfAt (ofs : Nat) : Half := match rowAt ofs with | some r => r.half | none => .no

/-- The cause for which a 4-byte access at a multiple of 4 fails, whatever it does. -/
def Dev.accessCause (d : Dev) (ofs : Nat) : Option Nat :=
  if (rowAt ofs).isNone && !isMsix ofs then some 1 else d.unreachable ofs

/-- The write would change a _LOCK that has been set (R511). -/
def Dev.rwoUsed (d : Dev) (ofs : Nat) (v : Word) : Bool :=
  match rowAt ofs with
  | some r =>
    let m := r.maskOf (fun a => a == .rwo)
    (d.raw ofs).toNat &&& m != 0 && (d.raw ofs).toNat &&& m != v.toNat &&& m
  | none => false

/-- A register with no field a write can act on (R496). -/
def noWritable (ofs : Nat) : Bool :=
  match rowAt ofs with
  | some r => !r.fields.any (fun f => writable f.acc)
  | none => false

/-- The cause for which a 4-byte write fails. -/
def Dev.writeCause (d : Dev) (ofs : Nat) (v : Word) : Option Nat :=
  match d.accessCause ofs with
  | some c => some c
  | none =>
    if isMsix ofs then none
    else if noWritable ofs then some 2
    else if d.regLocked ofs then some 3
    else if d.rwoUsed ofs v then some 4
    else none

/-- A read of the register has a side effect (R508). -/
def readEffect (ofs : Nat) : Bool :=
  (match queOf ofs with | some n => n != 4 | none => false) || (ioOf ofs).isSome || halfAt ofs == .lo ||
  (match rowAt ofs with | some r => r.fields.any (fun f => f.acc == .rc) | none => false)

/-! ## Pairs: staging and shadows (R505, R506) -/

/-- The access registers of a source. -/
def Dev.acc (d : Dev) : Src → Acc1
  | .host => d.accH | .chain => d.accC | .image => d.accI

/-- Replaces them. -/
def Dev.setAcc (d : Dev) (src : Src) (a : Acc1) : Dev :=
  match src with
  | .host => { d with accH := a }
  | .chain => { d with accC := a }
  | .image => { d with accI := a }

/-- The pair of a stream descriptor takes a 64-bit value; any other pair, the fields of both halves. -/
def Dev.pairWrite (d : Dev) (lo : Nat) (v : Nat) : Dev :=
  match apdOf lo with
  | some (n, 0) => apdDescriptorWrite n .base (BitVec.ofNat 64 v) d
  | some (n, 16) => apdDescriptorWrite n .tail (BitVec.ofNat 64 v) d
  | some (n, 32) => apdHeadWrite n (BitVec.ofNat 64 v) d
  | _ => (d.plainWrite lo (BitVec.ofNat 32 v)).plainWrite (lo + 4) (BitVec.ofNat 32 (v / 2 ^ 32))

/-- A write of _LO commits what the source has staged for the pair, or leaves _HI as it is. -/
def Dev.loWrite (d : Dev) (src : Src) (ofs : Nat) (v : Word) : Dev :=
  let hi := match (d.acc src).staged with
    | some (p, w) => if p = ofs then w else d.regValue (ofs + 4)
    | none => d.regValue (ofs + 4)
  let d := match (d.acc src).staged with
    | some (p, _) => if p = ofs then d.setAcc src { d.acc src with staged := none } else d
    | none => d
  d.pairWrite ofs (v.toNat + hi.toNat * 2 ^ 32)

/-- A stream's configuration register, another register, or one half of a pair. -/
def Dev.doWrite (d : Dev) (src : Src) (ofs : Nat) (v : Word) : Dev :=
  match halfAt ofs with
  | .hi => d.setAcc src { d.acc src with staged := some (ofs - 4, v) }
  | .lo => d.loWrite src ofs v
  | .no => match apdOf ofs with
    | some (n, 8) => apdDescriptorWrite n .cfg (v.zeroExtend 64) d
    | _ => d.regEffect src ofs v

/-- A 4-byte write: whether it succeeds, and what it does. -/
def Dev.write4 (d : Dev) (src : Src) (ofs : Nat) (v : Word) : Bool × Dev :=
  if 0x400000 ≤ ofs then (false, d.busErr src ofs true 1)
  else if ofs % 4 ≠ 0 then (false, d.busErr src ofs true 7)
  else match d.writeCause ofs v with
    | some c => (false, d.busErr src ofs true c)
    | none => (true, d.doWrite src ofs v)

/-! ## Reads -/

/-- The value a 4-byte read returns and what it changes (R495, R505, R533, R395). -/
def Dev.doRead (d : Dev) (src : Src) (ofs : Nat) : Word × Dev :=
  if isMsix ofs then (d.msixWord ofs, d)
  else match queOf ofs with
  | some n => if n = 4 then (0, d) else d.queRead src n
  | none => match ioOf ofs with
    | some n =>
      let a := d.freeIo
      a.2.mpAccess n false 0 a.1
    | none =>
      let v := d.regValue ofs
      match halfAt ofs with
      | .lo => (v, d.setAcc src { d.acc src with shadow := some (ofs, d.regValue (ofs + 4)) })
      | .hi => match (d.acc src).shadow with
        | some (p, w) => (if p + 4 = ofs then w else v, d)
        | none => (v, d)
      | .no =>
        let m := match rowAt ofs with | some r => r.maskOf (fun a => a == .rc) | none => 0
        if m = 0 then (v, d) else (v, d.setRaw ofs (BitVec.ofNat 32 ((d.raw ofs).toNat &&& (m ^^^ 0xFFFFFFFF))))

/-- A 4-byte read: none after a bus error. -/
def Dev.read4 (d : Dev) (src : Src) (ofs : Nat) : Option Word × Dev :=
  if 0x400000 ≤ ofs then (none, d.busErr src ofs false 1)
  else if ofs % 4 ≠ 0 then (none, d.busErr src ofs false 7)
  else match d.accessCause ofs with
    | some c => (none, d.busErr src ofs false c)
    | none => let r := d.doRead src ofs; (some r.1, r.2)

/-- A 4-byte read completes at its source. -/
def Dev.readOut (d : Dev) (src : Src) (ofs : Nat) : Dev :=
  match d.read4 src ofs with
  | (some v, d) => d.emit (.regVal src v)
  | (none, d) => d

/-- A 4-byte write completes at its source. -/
def Dev.writeOut (d : Dev) (src : Src) (ofs : Nat) (v : Word) : Dev :=
  match d.write4 src ofs v with
  | (true, d) => d.emit (.regOk src)
  | (false, d) => d

/-! ## Sizes (R507 to R510) -/

/-- An access to the MSI-X table or the PBA that the PCIe rules allow: 4 or 8 bytes, aligned. -/
def msixSizeOk (ofs size : Nat) : Bool := (size == 4 || size == 8) && ofs % size == 0

/-- The cause for which an access fails before any register is reached: too long, outside the map, unaligned. -/
def sizeCause (write : Bool) (ofs size : Nat) : Option Nat :=
  if 8 < size then some 11
  else if 0x400000 ≤ ofs then some 1
  else if isMsix ofs then none
  else if size = 8 ∧ !write ∧ (queOf ofs).isSome then none
  else if size = 0 ∨ ofs % size ≠ 0 ∨ size = 3 ∨ size = 5 ∨ size = 6 ∨ size = 7 then some 7
  else none

/-- The cause for which a narrow access fails (R508). -/
def Dev.narrowCause (d : Dev) (write : Bool) (ofs : Nat) : Option Nat :=
  let o := ofs / 4 * 4
  match d.accessCause o with
  | some c => some c
  | none => if write then some 5 else if readEffect o then some 6 else none

/-- The addressed bytes of a register. -/
def narrowBytes (w : Word) (ofs size : Nat) : Word :=
  BitVec.ofNat 32 (w.toNat / 2 ^ (8 * (ofs % 4)) % 2 ^ (8 * size))

/-- An access to the MSI-X table in a size PCIe leaves undefined: a read gives a free value, a write leaves one (log
entry 8). -/
def Dev.msixOdd (d : Dev) (src : Src) (write : Bool) (ofs : Nat) : Dev :=
  match d.unreachable ofs with
  | some c => d.busErr src ofs write c
  | none =>
    let w := Config.freeWord d.free
    let d := { d with free := d.free + 1 }
    if write then (d.msixWrite ofs w).emit (.regOk src) else d.emit (.regVal src w)

/-- A write of any size. -/
def Dev.writeSized (d : Dev) (src : Src) (ofs size : Nat) (v : BitVec 64) : Dev :=
  match sizeCause true ofs size with
  | some c => d.busErr src ofs true c
  | none =>
    let lo := BitVec.ofNat 32 v.toNat
    if isMsix ofs && !msixSizeOk ofs size then d.msixOdd src true ofs
    else if size = 4 then d.writeOut src ofs lo
    else if size = 8 then (d.writeOut src ofs lo).writeOut src (ofs + 4) (BitVec.ofNat 32 (v.toNat / 2 ^ 32))
    else match d.narrowCause true ofs with
      | some c => d.busErr src ofs true c
      | none => d

/-- A read of any size. -/
def Dev.readSized (d : Dev) (src : Src) (ofs size : Nat) : Dev :=
  match sizeCause false ofs size with
  | some c => d.busErr src ofs false c
  | none =>
    if isMsix ofs && !msixSizeOk ofs size then d.msixOdd src false ofs
    else if size = 4 then d.readOut src ofs
    else if size = 8 then
      if (queOf ofs).isSome then (d.readOut src ofs).readOut src ofs else (d.readOut src ofs).readOut src (ofs + 4)
    else match d.narrowCause false ofs with
      | some c => d.busErr src ofs false c
      | none => d.emit (.regVal src (narrowBytes (d.regValue (ofs / 4 * 4)) ofs size))

/-- Whether a read ends in a bus error, in whole or in a half. -/
def Dev.readFails (d : Dev) (ofs size : Nat) : Bool :=
  (sizeCause false ofs size).isSome ||
  (if isMsix ofs then (d.unreachable ofs).isSome
   else if size = 4 then (d.accessCause ofs).isSome
   else if size = 8 then (d.accessCause ofs).isSome || ((queOf ofs).isNone && (d.accessCause (ofs + 4)).isSome)
   else (d.narrowCause false ofs).isSome)

/-! ## The commands -/

/-- LOCK: a write of 1 to a page's _LOCK (R511). -/
def execLock (src : Src) (page : Nat) (s : State) : Host.Outcome State Fault Refusal :=
  onDev s (fun d => d.writeOut src (page + 0x18) 1)

/-- EVT_READ: a read of a page's _EVT (R494). -/
def execEvtRead (src : Src) (page : Nat) (s : State) : Host.Outcome State Fault Refusal :=
  onDev s (fun d => d.readOut src (page + 0xC))

/-- RC_READ. -/
def execRcRead (src : Src) (ofs : Nat) (s : State) : Host.Outcome State Fault Refusal :=
  onDev s (fun d => d.readOut src ofs)

/-- LO_READ. -/
def execLoRead (src : Src) (ofs : Nat) (s : State) : Host.Outcome State Fault Refusal :=
  onDev s (fun d => d.readOut src ofs)

/-- HI_WRITE. -/
def execHiWrite (src : Src) (ofs : Nat) (v : Word) (s : State) : Host.Outcome State Fault Refusal :=
  onDev s (fun d => d.writeOut src ofs v)

/-- LO_WRITE. -/
def execLoWrite (src : Src) (ofs : Nat) (v : Word) (s : State) : Host.Outcome State Fault Refusal :=
  onDev s (fun d => d.writeOut src ofs v)

/-- An access has not completed 4 µs after it started: cause 8 with the target's domain off, else 9 (R501). -/
def watchdogTimeout (src : Src) (ofs : Nat) (write : Bool) (d : Dev) : Dev :=
  match pageAt ofs with
  | some (p, _) => d.busErr src ofs write (if d.domOn (pageDomain p) then 9 else 8)
  | none => d

/-- WATCHDOG_TIMEOUT. -/
def execWatchdogTimeout (src : Src) (ofs : Nat) (write : Bool) (s : State) : Host.Outcome State Fault Refusal :=
  onDev s (watchdogTimeout src ofs write)

/-! ## Bit aliases (R503, R504) -/

/-- The register and the bit of an alias address: bit b of the register at o lies at 2^27 + o × 32 + b × 4, and a register
has 32 bits. -/
def aliasOf (ofs : Nat) : Nat × Nat := ((ofs - 2 ^ 27) / 128 * 4, (ofs - 2 ^ 27) % 128 / 4)

/-- The cause for which an alias access fails, whatever it does. -/
def Dev.aliasCause (d : Dev) (ofs size : Nat) : Option Nat :=
  let o := (aliasOf ofs).1
  if size ≠ 4 ∨ ofs % 4 ≠ 0 then some 10
  else if isMsix o then some 10
  else d.accessCause o

/-- A bit lies in a field of the register. -/
def inField (o b : Nat) : Bool :=
  match rowAt o with
  | some r => (r.maskOf (fun _ => true)).testBit b
  | none => false

/-- The cause for which an alias write fails. -/
def Dev.aliasWriteCause (d : Dev) (ofs size : Nat) (one : Bool) : Option Nat :=
  match d.aliasCause ofs size with
  | some c => some c
  | none =>
    let p := aliasOf ofs
    if halfAt p.1 ≠ .no then some 10
    else if one && !inField p.1 p.2 then some 10
    else none

/-- The word an alias write writes: the one bit, every other bit of the fields that hold a value as it is. -/
def Dev.aliasWord (d : Dev) (o b : Nat) (one : Bool) : Word :=
  let m := match rowAt o with | some r => r.maskOf takesValue | none => 0
  let w := (d.regValue o).toNat &&& m
  BitVec.ofNat 32 (w - (if w.testBit b then 2 ^ b else 0) + (if one then 2 ^ b else 0))

/-- A read of an alias: the live bit; an RC bit is cleared, and nothing is latched. The bit of a register whose read has
an effect of its own is a free value (log entry 8). -/
def aliasRead (src : Src) (ofs size : Nat) (d : Dev) : Dev :=
  match d.aliasCause ofs size with
  | some c => d.busErr src ofs false c
  | none =>
    let p := aliasOf ofs
    if (queOf p.1).any (· != 4) || (ioOf p.1).isSome then
      let w := Config.freeWord d.free
      ({ d with free := d.free + 1 }).emit (.regVal src (w &&& 1))
    else
      let one := (d.regValue p.1).getLsbD p.2
      let rc : Bool := match rowAt p.1 with | some r => (r.maskOf (fun a => a == .rc)).testBit p.2 | none => false
      let d := if one && rc then d.set ⟨p.1, p.2, p.2⟩ 0 else d
      d.emit (.regVal src (if one then 1 else 0))

/-- ALIAS_READ. -/
def execAliasRead (src : Src) (ofs size : Nat) (s : State) : Host.Outcome State Fault Refusal :=
  onDev s (aliasRead src ofs size)

/-- A bit lies in a field that a write can act on. -/
def inWritable (o b : Nat) : Bool :=
  match rowAt o with
  | some r => (r.maskOf writable).testBit b
  | none => false

/-- A write of an alias acts on the one bit, as a write of its register would; a reserved bit ignores a 0, a read-only bit any
value (R503). -/
def aliasWrite (src : Src) (ofs size : Nat) (v : Word) (d : Dev) : Dev :=
  let one := v.getLsbD 0
  let p := aliasOf ofs
  match d.aliasWriteCause ofs size one with
  | some c => d.busErr src ofs true c
  | none =>
    let w := d.aliasWord p.1 p.2 one
    match d.writeCause p.1 w with
    | some c => d.busErr src ofs true c
    | none => if inWritable p.1 p.2 then (d.doWrite src p.1 w).emit (.regOk src) else d.emit (.regOk src)

/-- ALIAS_WRITE. -/
def execAliasWrite (src : Src) (ofs size : Nat) (v : Word) (s : State) : Host.Outcome State Fault Refusal :=
  onDev s (aliasWrite src ofs size v)

/-- The offset lies in the alias window (Table REG-1). -/
def inAliases (ofs : Nat) : Bool := Nat.ble (2 ^ 27) ofs && Nat.blt ofs (2 ^ 28)

/-- READ_BUS_ERROR: a read that ends in a bus error, in the alias window one of an alias (R488); one that does not is no such
command. -/
def readBusError (src : Src) (ofs size : Nat) (d : Dev) : Dev :=
  if inAliases ofs && Nat.ble size 8 then
    match d.aliasCause ofs size with
    | some c => d.busErr src ofs false c
    | none => d
  else if d.readFails ofs size then d.readSized src ofs size else d

/-- READ_BUS_ERROR. -/
def execReadBusError (src : Src) (ofs size : Nat) (s : State) : Host.Outcome State Fault Refusal :=
  onDev s (readBusError src ofs size)

/-- A write of any size to BAR0: in the alias window it is a write of an alias (R488). -/
def registerWrite (src : Src) (ofs size : Nat) (v : BitVec 64) (d : Dev) : Dev :=
  if inAliases ofs && Nat.ble size 8 then aliasWrite src ofs size (v.truncate 32) d else d.writeSized src ofs size v

/-- REGISTER_WRITE. -/
def execRegisterWrite (src : Src) (ofs size : Nat) (v : BitVec 64) (s : State) : Host.Outcome State Fault Refusal :=
  onDev s (registerWrite src ofs size v)

end Sys2Proof.Machine
end

