-- ==== Sys2Proof/Machine/Boot.lean ====
section
/-! DEFINITION. The configuration copies in flash: validity, choice and application (R461 to R466). -/

namespace Sys2Proof

/-! ## A copy (Table MOD-5, R462) -/

/-- The bytes the CRC covers: 0 to 27 and every record. -/
def Image.bytes (i : Image) : List Nat :=
  leBytes 4 i.magic ++ leBytes 4 i.seq ++ leBytes 4 i.len ++ [i.flags, i.ver, i.step] ++ leBytes 13 i.rsv ++
    i.records.flatMap (fun r => leBytes 4 r.1 ++ leBytes 4 r.2.toNat)

/-- The header is well formed: its records are read and its CRC checked (step 4 of Boot). -/
def Image.headerOk (i : Image) : Bool :=
  i.magic == 0x4D5A1B00 && i.ver == 1 && i.step == 0xB1 && 1 ≤ i.len && i.len ≤ 16384

/-- AUTOSTART, QUAD and ADDR4 of FLAGS. -/
def Image.autostart (i : Image) : Bool := i.flags.testBit 0

/-- The command that reads the records (R464). -/
def Image.readCmd (i : Image) : Nat :=
  match i.flags.testBit 1, i.flags.testBit 2 with
  | true, true => 0x6C
  | true, false => 0x6B
  | false, true => 0x13
  | false, false => 0x03

/-- Copy B is newer: its SEQ minus that of A lies from 1 to 2^31 - 1 modulo 2^32 (R463). -/
def newerB (a b : Nat) : Bool :=
  let x := (b + 2 ^ 32 - a) % 2 ^ 32
  1 ≤ x && x < 2 ^ 31

end Sys2Proof

namespace Sys2Proof.Machine

/-- A copy is valid (R462). -/
def imageValid (i : Image) : Bool := Image.headerOk i && i.records.length == i.len && i.crc == crc32 (Image.bytes i)

/-- The slots to apply, the chosen one first: 1 for A, 2 for B (R463). -/
def imageOrder (a b : Image) : List (Nat × Image) :=
  match imageValid a, imageValid b with
  | true, true => if newerB a.seq b.seq then [(2, b), (1, a)] else [(1, a), (2, b)]
  | true, false => [(1, a)]
  | false, true => [(2, b)]
  | false, false => []

/-- Applies records as register writes; the index of the first that ends in a bus error (R465). -/
def Dev.applyRecords (d : Dev) : Nat → List (Nat × Word) → Option Nat × Dev
  | _, [] => (none, d)
  | k, r :: rs =>
    match d.write4 .image r.1 r.2 with
    | (true, d) => d.applyRecords (k + 1) rs
    | (false, d) => (some k, d)

/-- Registers that stay when a failed copy is taken back: event latches and the record of the bus error. -/
def staysOnFailure (ofs : Nat) : Bool := ofs % 0x1000 == 0xC || ofs == 0x60 || ofs == 0x64

/-- A configuration register: one with a field that takes a written value (R495). -/
def isConfig (ofs : Nat) : Bool :=
  match rowAt ofs with
  | some r => r.maskOf takesValue != 0
  | none => false

/-- A failed copy: its bus error and its events stay, every configuration register returns to its reset value, and all else
is as it was before its first record. -/
def Dev.takeBack (old new : Dev) : Dev :=
  { old with
    regs := (new.regs.filter (fun e => staysOnFailure e.1)).foldl (fun l e => bankSet l e.1 e.2)
      (old.regs.filter (fun e => !staysOnFailure e.1 && !isConfig e.1)),
    sent := new.sent, free := new.free }

/-- A copy has been applied: GCR_IMG_STAT, GCR_IMG_SEQ, the step of R432, and AUTOSTART. -/
def Dev.imageApplied (d : Dev) (slot : Nat) (i : Image) (fallback : Bool) : Dev :=
  let d := ((d.set R.GCR_IMG_STAT.SLOT slot).set R.GCR_IMG_STAT.FALLBACK (b01 fallback)).setRaw R.GCR_IMG_SEQ.SEQ.ofs
    (BitVec.ofNat 32 i.seq)
  let d := dvfsTarget (d.get R.PWR_DVFS.TARGET) d
  { d with gcr := { d.gcr with autostart := Image.autostart i } }

/-- A record fails: IMG_REC_ERR and its index. -/
def Dev.recordFailed (d : Dev) (k : Nat) : Dev :=
  ((d.set R.GCR_IMG_STAT.REC_ERR 1).set R.GCR_IMG_STAT.REC_IDX k).raise R.GCR_EVT.IMG_REC_ERR

/-- Applies the chosen copy, and the other valid one if that fails. -/
def Dev.applyCopies (d : Dev) : Bool → List (Nat × Image) → Dev
  | _, [] => d
  | fallback, p :: ps =>
    let d := d.raiseIf fallback R.GCR_EVT.SLOT_FALLBACK
    match d.applyRecords 0 p.2.records with
    | (none, d) => d.imageApplied p.1 p.2 fallback
    | (some k, e) => ((Dev.takeBack d e).recordFailed k).applyCopies true ps

/-- The flash reads of Boot: both headers, and the records of each slot whose header is well formed (R464). -/
def Dev.flashReads (d : Dev) (slot : Nat) (i : Image) : Dev :=
  let d := d.emit (.flash slot 0x03)
  if Image.headerOk i then d.emit (.flash slot (Image.readCmd i)) else d

/-- Boot is complete: a copy is chosen and the device enters Configure, where the copy is applied; a reserved role is
reported then (R458). -/
def flashReadDone (a b : Image) (d : Dev) : Dev :=
  if d.gcr.mode ≠ .boot then d
  else
    let d := (d.flashReads 1 a).flashReads 2 b
    let d := (d.set R.GCR_IMG_STAT.VALID_A (b01 (imageValid a))).set R.GCR_IMG_STAT.VALID_B (b01 (imageValid b))
    let order := imageOrder a b
    let d := (d.raiseIf order.isEmpty R.GCR_EVT.NO_IMAGE).toMode .configure
    let d := d.applyCopies false order
    d.raiseIf (d.gcr.role == .reserved) R.GCR_EVT.STRAP_BAD

/-- FLASH_READ_DONE. -/
def execFlashReadDone (a b : Image) (s : State) : Host.Outcome State Fault Refusal := onDev s (flashReadDone a b)

end Sys2Proof.Machine
end

