-- ==== Sys2Proof/Machine/Chain.lean ====
section
/-! DEFINITION. The Noist chain: frames that arrive, requests and their answers, roll calls, and boundary scan (R478 to
R487, R528 to R530, R541, R563). -/

namespace Sys2Proof.Machine

/-! ## Forwarding and kept answers (R481, R482) -/

/-- The repeater runs: PWR_OK is high (R459). -/
def Dev.repeats (d : Dev) : Bool := d.gcr.pwrOk

/-- The device takes a frame off the ring: its own, or at the head one from or to address 0 (R481). -/
def Dev.removes (d : Dev) (m : ChainMsg) : Bool :=
  (d.addr != 0 && m.src == d.addr) || (d.chn.head && (m.src == 0 || m.dst == 0))

/-- Forwards a frame, unless the device removes it. -/
def Dev.forward (d : Dev) (m : ChainMsg) : Dev := if d.removes m then d else d.emit (chainOut m)

/-- A frame addressed to the device: by its address, or at the head by 0. -/
def Dev.addressed (d : Dev) (m : ChainMsg) : Bool := (d.addr != 0 && m.dst == d.addr) || (d.chn.head && m.dst == 0)

/-- The answer kept for a source's last request, when this frame is a re-send of it. -/
def Dev.keptAnswer (d : Dev) (m : ChainMsg) : Option Frame :=
  if m.rty then (d.chn.kept.find? (fun e => e.1 == m.src && e.2.1 == m.seq)).map (·.2.2) else none

/-- Remembers the answer to a source's request. -/
def Dev.keep (d : Dev) (m : ChainMsg) (f : Frame) : Dev :=
  { d with chn := { d.chn with kept := d.chn.kept.filter (fun e => e.1 != m.src) ++ [(m.src, m.seq, f)] } }

/-- Answers a request with RSP. -/
def Dev.answerTo (d : Dev) (m : ChainMsg) (f : Frame) : Dev := d.emit (chainOut ⟨m.src, d.addr, m.seq, false, f⟩)

/-- A request addressed to the device: acted on once, and answered; a re-send gets the kept answer. -/
def Dev.serveRequest (d : Dev) (m : ChainMsg) (act : Dev → Frame × Dev) : Dev :=
  let d := d.forward m
  if !d.addressed m then d
  else match d.keptAnswer m with
    | some f => d.answerTo m f
    | none =>
      let r := act d
      (r.2.keep m r.1).answerTo m r.1

/-- A device in Cold answers a read of GCR_MODE with 0, and every other access with error status (R459). -/
def Dev.coldAnswer (d : Dev) (m : ChainMsg) : Dev :=
  let d := d.forward m
  if d.addr = 0 ∨ m.dst ≠ d.addr then d
  else match m.frame with
    | .rd o => d.answerTo m (.rsp (if o = R.GCR_MODE.MODE.ofs then 0 else 1) 0)
    | .wr .. => d.answerTo m (.rsp 1 0)
    | _ => d

/-- Forwards the bytes of a frame, unless the device removes it by its DST and SRC (R481). -/
def Dev.forwardRaw (d : Dev) (bytes : List Nat) (crc : Nat) : Dev :=
  if d.removes ⟨bytes.getD 1 0 % 64, bytes.getD 2 0 % 64, 0, false, .rd 0⟩ then d else d.emit (.chainRaw bytes crc)

/-- A frame that is not acted on is forwarded, and counted, with CRC_ERR for a bad CRC (R480, R481). -/
def Dev.badFrame (d : Dev) (bytes : List Nat) (crc : Nat) : Dev :=
  let d := d.forwardRaw bytes crc
  if d.gcr.mode = .cold then d
  else (d.bumpSat R.CHN_CRC_CNT.CRC 1).raiseIf (crc != crc16 bytes) R.CHN_EVT.CRC_ERR

/-- What a chain frame does: nothing with the repeater stopped; with a bad CRC it is not acted on; a device in Cold answers
for itself. -/
def onChain (s : State) (m : ChainMsg) (crc : Nat) (f : Dev → Dev) : Host.Outcome State Fault Refusal :=
  onDevAlways s (fun d =>
    if !d.repeats then d
    else if crc ≠ m.crc then d.badFrame m.bytes crc
    else if d.gcr.mode = .cold then d.coldAnswer m else f d)

/-! ## Register access over the chain (R486, R487) -/

/-- A chain read: the value, or bus-error status. -/
def chainRead (o : Nat) (d : Dev) : Frame × Dev :=
  match d.read4 .chain o with
  | (some v, d) => (.rsp 0 v, d)
  | (none, d) => (.rsp 1 0, d)

/-- A chain write. -/
def chainWrite (o : Nat) (v : Word) (d : Dev) : Frame × Dev :=
  let r := d.write4 .chain o v
  (.rsp (if r.1 then 0 else 1) 0, r.2)

/-- A request whose destination is a register of the device; address 0 is the head's master, not a register access. -/
def Dev.serveRegister (d : Dev) (m : ChainMsg) (act : Dev → Frame × Dev) : Dev :=
  if m.dst = 0 then d.forward m else d.serveRequest m act

/-- CHAIN_RD. -/
def execChainRd (m : ChainMsg) (crc : Nat) (s : State) : Host.Outcome State Fault Refusal :=
  onChain s m crc (fun d => match m.frame with
    | .rd o => d.serveRegister m (chainRead o)
    | _ => d)

/-- CHAIN_WR. -/
def execChainWr (m : ChainMsg) (crc : Nat) (s : State) : Host.Outcome State Fault Refusal :=
  onChain s m crc (fun d => match m.frame with
    | .wr o v => d.serveRegister m (chainWrite o v)
    | _ => d)

/-- The outcome of a broadcast write here: done once per request. -/
def Dev.bwrHere (d : Dev) (m : ChainMsg) (o : Nat) (v : Word) : Bool × Dev :=
  match d.keptAnswer m with
  | some (.rsp st _) => (st == 0, d)
  | _ =>
    let r := d.write4 .chain o v
    (r.1, r.2.keep m (.rsp (if r.1 then 0 else 1) 0))

/-- ACKMAP with the device's bit set when its write completed. -/
def Dev.ackBit (d : Dev) (ack : BitVec 64) (ok : Bool) : BitVec 64 := if ok then setBit64 ack d.addr true else ack

/-! ## Answers (R482) -/

/-- The end of the request of CHN_REQ. -/
def Dev.regDone (d : Dev) (status : Nat) : Dev := (d.set R.CHN_RSTAT.STATUS status).set R.CHN_RSTAT.DONE 1

/-- The request of a sequence number that is in flight. -/
def Dev.flightOf (d : Dev) (seq : Nat) : Option ChnReq := d.chn.flight.find? (fun r => r.msg.seq == seq)

/-- A request is no longer in flight. -/
def Dev.landed (d : Dev) (seq : Nat) : Dev :=
  { d with chn := { d.chn with flight := d.chn.flight.filter (fun r => r.msg.seq != seq) } }

/-- The device's own request is answered: a read returns its value, a mailbox record leaves MBO. -/
def Dev.answered (d : Dev) (r : ChnReq) (status : Nat) (v : Word) : Dev :=
  match r.use with
  | .reg =>
    let d := match r.msg.frame with
      | .rd _ => if status = 0 then d.setRaw R.CHN_RDATA.DATA.ofs v else d
      | _ => d
    d.regDone (if status = 0 then 0 else 1)
  | .mbx => d.mboAnswered (status == 0)
  | .evt _ | .roll => d

/-- The device's own broadcast write has returned: the originator applies it too and reports ACKMAP (R486). -/
def Dev.bwrReturned (d : Dev) (o : Nat) (v : Word) (ack : BitVec 64) : Dev :=
  let r := if d.addr = 0 then (false, d) else d.write4 .chain o v
  (r.2.set64 R.CHN_ACK_LO.ACK_LO.ofs (r.2.ackBit ack r.1).toNat).regDone 0

/-- An RSP, or a returning BWR, reaches its originator. -/
def chainReturn (m : ChainMsg) (d : Dev) : Dev :=
  match d.flightOf m.seq with
  | none => d
  | some r =>
    match m.frame with
    | .rsp st v => (d.landed m.seq).answered r st v
    | .bwr o v ack => (match r.use with | .reg => (d.landed m.seq).bwrReturned o v ack | _ => d)
    | _ => d

/-- The frame is the device's own broadcast write come back. -/
def Dev.ownBwr (d : Dev) (m : ChainMsg) : Bool :=
  (d.addr != 0 && m.src == d.addr) || (d.chn.head && m.src == 0)

/-- CHAIN_BWR. -/
def execChainBwr (m : ChainMsg) (crc : Nat) (s : State) : Host.Outcome State Fault Refusal :=
  onChain s m crc (fun d => match m.frame with
    | .bwr o v ack =>
      if d.addr = 0 then d.forward m
      else if d.ownBwr m then chainReturn m d
      else
        let r := d.bwrHere m o v
        r.2.emit (chainOut { m with frame := .bwr o v (r.2.ackBit ack r.1) })
    | _ => d)

/-- CHAIN_RSP. -/
def execChainRsp (m : ChainMsg) (crc : Nat) (s : State) : Host.Outcome State Fault Refusal :=
  onChain s m crc (fun d => match m.frame with
    | .rsp .. => if d.addressed m then chainReturn m (d.forward m) else d.forward m
    | .bwr .. => if d.ownBwr m then chainReturn m d else d
    | _ => d)

/-- A request's answer timeout ends: re-sent with RTY, or given up; an event frame given up raises CHAIN_FAIL, and what is
pending by then is sent no more (R482, R528). -/
def noAnswer (seq : Nat) (d : Dev) : Dev :=
  match d.flightOf seq with
  | none => d
  | some r =>
    if r.tries < d.get R.CHN_CFG.RETRY then
      let m := { r.msg with rty := true }
      let d := (d.bumpSat R.CHN_RESEND_CNT.RESEND 1).emit (chainOut m)
      { d with chn := { d.chn with
          flight := mapIf (fun x => x.msg.seq == seq) (fun _ => { r with msg := m, tries := r.tries + 1 }) d.chn.flight } }
    else
      let d := (d.landed seq).raise R.CHN_EVT.NO_ANSWER
      match r.use with
      | .reg => d.regDone 2
      | .mbx => d.mboAnswered false
      | .evt w => ({ d with evc := { d.evc with seen := bankSet d.evc.seen w (BitVec.ofNat 32 (d.pend w)) } }).raiseIf d.coreOn
          R.EVC_EVT.CHAIN_FAIL
      | .roll => d

/-- NO_ANSWER. -/
def execNoAnswer (seq : Nat) (s : State) : Host.Outcome State Fault Refusal := onDev s (noAnswer seq)

/-! ## Events and mailbox records (R530, R541) -/

/-- An EVT frame at the head: a relayed record, and RSP with STATUS 0, the record placed or not. -/
def evtArrived (dev w mode : Nat) (fault : Bool) (b : Word) (d : Dev) : Frame × Dev :=
  (.rsp 0 0, if d.coreOn then d.evqRaw (32 * w) dev mode true 0 0 b.toNat (b01 fault) else d)

/-- CHAIN_EVT. -/
def execChainEvt (m : ChainMsg) (crc : Nat) (s : State) : Host.Outcome State Fault Refusal :=
  onChain s m crc (fun d => match m.frame with
    | .evt dev w mode fault b => d.serveRequest m (evtArrived dev w mode fault b)
    | _ => d)

/-- An MBX frame pushes its payload into MBI; refused, it answers STATUS 1. -/
def mbxArrived (w0 w1 : Word) (d : Dev) : Frame × Dev :=
  if !d.coreOn then (.rsp 1 0, d)
  else
    let full : Bool := queueDepth 3 ≤ (d.queue 3).recs.length
    (.rsp (b01 full) 0, d.push 3 [w0, w1])

/-- MBX. -/
def execMbx (m : ChainMsg) (crc : Nat) (s : State) : Host.Outcome State Fault Refusal :=
  onChain s m crc (fun d => match m.frame with
    | .mbx w0 w1 => d.serveRequest m (mbxArrived w0 w1)
    | _ => d)

/-! ## Roll calls (R483 to R485) -/

/-- A member counts itself and forwards the frame; with COUNT at 63 it takes no address. -/
def Dev.enumMember (d : Dev) (m : ChainMsg) (count : Nat) (ovr : Bool) : Dev :=
  if 63 ≤ count then
    ((d.takeAddr 0).raise R.CHN_EVT.ENUM_OVER).emit (chainOut { m with frame := .enum count true })
  else (d.takeAddr (count + 1)).emit (chainOut { m with frame := .enum (count + 1) ovr })

/-- Whether a use is a roll call. -/
def isRoll : ChnUse → Bool
  | .roll => true
  | _ => false

/-- The head's roll call has returned. -/
def Dev.enumReturned (d : Dev) (count : Nat) : Dev :=
  ({ d with chn := { d.chn with count := count, flight := d.chn.flight.filter (fun r => !isRoll r.use) } }).raise
    R.CHN_EVT.ENUM_DONE

/-- ENUM arrives: at the head its own returns, or another head is found, and the head becomes a member. An ENUM is the
head's own only while its roll call is out. -/
def enumArrived (m : ChainMsg) (count : Nat) (ovr own : Bool) (d : Dev) : Dev :=
  if !d.chn.head then d.enumMember m count ovr
  else if own && d.inFlight isRoll then d.enumReturned count
  else
    (({ d with chn := { d.chn with head := false } }).raise R.CHN_EVT.HEAD_CONFLICT).enumMember m count ovr

/-- A device in Cold counts and keeps its address; its registers are in reset. -/
def Dev.enumCold (d : Dev) (m : ChainMsg) (count : Nat) (ovr : Bool) : Dev :=
  if 63 ≤ count then ({ d with chn := { d.chn with addr := 0 } }).emit (chainOut { m with frame := .enum count true })
  else ({ d with chn := { d.chn with addr := count + 1 } }).emit (chainOut { m with frame := .enum (count + 1) ovr })

/-- ENUM. -/
def execEnum (m : ChainMsg) (crc : Nat) (own : Bool) (s : State) : Host.Outcome State Fault Refusal :=
  onDevAlways s (fun d => match m.frame with
    | .enum count ovr =>
      if !d.repeats then d
      else if crc ≠ m.crc then d.badFrame m.bytes crc
      else if d.gcr.mode = .cold then d.enumCold m count ovr else enumArrived m count ovr own d
    | _ => d)

/-- A frame with a bad CRC or a reserved TYPE is counted and not acted on; CRC_ERR for the first kind (R480). -/
def chainBadFrame (bytes : List Nat) (crc : Nat) (d : Dev) : Dev :=
  if d.repeats && (crc != crc16 bytes || Nat.ble 7 (bytes.getD 0 0 % 16)) then d.badFrame bytes crc else d

/-- CHAIN_BAD_FRAME. -/
def execChainBadFrame (bytes : List Nat) (crc : Nat) (s : State) : Host.Outcome State Fault Refusal :=
  onDevAlways s (chainBadFrame bytes crc)

/-! ## Boundary scan (R563) -/

/-- IDCODE: one, the manufacturer, the part number and the version. -/
def idcode : Nat := 1 + Config.jedecId.toNat * 2 + 0x4096 * 2 ^ 12 + 0x1 * 2 ^ 28

/-- What the register that an instruction selects shifts out on TDO: the identity, or the 0 a bypass register captures;
a boundary register shifts what the pins show, which no command reports. -/
def tapShift : Tap → Option Nat
  | .idcode => some idcode
  | .bypass | .clamp | .highz => some 0
  | .samplePreload | .extest | .extestPulse | .extestTrain => none

/-- The instruction register takes an instruction. -/
def boundaryScan (t : Tap) (d : Dev) : Dev :=
  let d := { d with gcr := { d.gcr with tap := t } }
  match tapShift t with
  | some v => d.emit (.tdo v)
  | none => d

/-- BOUNDARY_SCAN. -/
def execBoundaryScan (t : Tap) (s : State) : Host.Outcome State Fault Refusal := onDevAlways s (boundaryScan t)

end Sys2Proof.Machine
end

