-- ==== Sys2Proof/Machine/Cycle.lean ====
section
/-! DEFINITION. One core cycle: what it counts, and what the conflict unit and the write buffer do in it (R13, R68, R135,
R137, R138, R150, R543). -/

namespace Sys2Proof.Machine

/-- Berth holds count a core cycle; they keep counting across a switch of CORE (R150, R437). -/
def Dev.countHolds (d : Dev) : Dev :=
  { d with cnf := { d.cnf with holds := d.cnf.holds.map (fun h => { h with left := h.left - 1 }) } }

/-- A core cycle of the conflict unit and the write buffer: the rotating pointer advances, every port has its lookup slot
again, and berth holds and combining entries count (R13, R68, R138). -/
def Dev.turn (d : Dev) : Dev :=
  let d := d.countHolds
  { d with ecc := { d.ecc with haltNow := [] },
           cnf := { d.cnf with ptr := (d.cnf.ptr + 1) % 32, took := [], used := 0 },
           wbf := { d.wbf with ents := d.wbf.ents.map (fun e => if e.issued then e else { e with age := e.age + 1 }) } }

/-- An engine's issue that waits for a place of its key tries to take one, behind the requests of the cycle (R135, R137). -/
def Dev.enginePlace (d : Dev) (t : Txn) : Dev := if d.portsFirst t then d else d.fillPlace (d.key t.line)

/-- The engine issues that wait for a place, in the order of their engines (R135). -/
def Dev.enginePlaces (d : Dev) : Dev := (d.cnf.txns.filter (fun t => t.phase == .waitPlace)).foldl Dev.enginePlace d

/-- A waiting boarding read goes if a slot is free (R254). -/
def Dev.boardSlot (d : Dev) : Dev :=
  if d.nextIssue.any (fun t => engineRank t.kind == 0) then d.issueNext else d

/-- The lookups of a core cycle: waiting boarding reads first, then the ports' requests, then the other engines' issues. The
slot of a waiting probe is kept (R131, R137, R254). -/
def Dev.lookups (d : Dev) : Dev := d.boardSlot.boardSlot.takeWaiting.issueNext.issueNext

/-- The lanes that have an access waiting count the cycle (R545). -/
def Dev.laneWaits (d : Dev) : Dev :=
  (List.range 18).foldl (fun d n => if (d.slotsRead n).isEmpty then d else d.pmu1 (0x246 + 8 * n)) d

/-- Each core cycle: what reached the pipeline in the cycle that ends takes the slots left of it, the counters add, and the
next cycle's lookups begin; while the CORE source is being switched nothing happens but that the counters add and berth holds
count (R407, R437). Register accesses are not of one cycle with each other (log entry 112). -/
def coreCycle (d : Dev) : Dev :=
  let stopped := d.switchBusy .core
  let d := (if stopped then d else d.lookups.streamCycles).laneWaits.tally
  if stopped then d.countHolds else d.turn.lookups.enginePlaces.fillStep

/-- CORE_CYCLE. -/
def execCoreCycle (s : State) : Host.Outcome State Fault Refusal := onCore s coreCycle

end Sys2Proof.Machine
end

