-- ==== Sys2Proof/Machine/Sram.lean ====
section
/-! DEFINITION. Errors in the on-die arrays, corrected or with the outcomes of Table INT-8, and the two commands whose reads
of the arrays find them (R331, R136, R358). -/

namespace Sys2Proof.Machine

/-- The array code of a word (TST_STAT.FAIL_ARR). -/
def arrayCode : SramWord → Nat
  | .hdcData _ | .hdcTag => 1
  | .dir => 2
  | .sdrTag | .sdrData _ => 3
  | .txn => 4
  | .wbf _ => 5
  | .depBuf _ _ => 6
  | .timetable _ => 7
  | .append _ _ => 8
  | .queue _ _ => 9
  | .log _ => 10
  | .apply => 11
  | .other => 12

/-- A transaction is of a set. -/
def Dev.ofSet (d : Dev) (set : Nat) (t : Txn) : Bool := Nat.blt t.line (2 ^ 41) && d.setOf t.line == set

/-- A transaction of a set whose header is gone: it has no way there, unless its line is being read from one. -/
def Dev.loseWay (d : Dev) (set : Nat) (t : Txn) : Txn :=
  if d.ofSet set t && t.phase != .readLane then { t with way := none } else t

/-- HDC's copy of a header is uncorrectable: the set is quarantined, or in Recovery its header cannot be used from then on, and
the transactions active there go on without it (R45, R46, R454, Table INT-8; log entry 84). -/
def Dev.loseHeader (d : Dev) (set : Nat) : Dev :=
  let mine := (d.pip.alloc.filter (fun a => a.1 == set)).map (fun a => a.2.2)
  let d := d.setHdc (d.hdc.ents.filter (fun e => e.set != set))
  let d := { d with pip := { d.pip with alloc := d.pip.alloc.filter (fun a => a.1 != set),
                                        copyWait := d.pip.copyWait.filter (fun k => !mine.contains k) },
                    cnf := { d.cnf with txns := d.cnf.txns.map (d.loseWay set) } }
  let d := if d.gcr.mode.serving then d.badHeader set
    else { d with pip := { d.pip with unread := d.pip.unread.filter (· != set) ++ [set] } }
  let stuck := d.cnf.txns.filter (fun t => d.ofSet set t && (t.phase == .waitCopy || t.phase == .waitWay))
  (stuck.foldl Dev.resume d).wbSettleAll

/-- The set has a header in HDC that such an error can lose, in modes 5 to 9 or in Recovery (R45, R454). -/
def Dev.headerLosable (d : Dev) (set : Nat) : Bool :=
  (d.header? set).isSome && (d.gcr.mode.serving || d.gcr.mode == .recovery)

/-- A write-buffer line that has not gone out goes out poisoned with a full mask; the manual gives no data (log entry 8). -/
def Dev.poisonEntry (d : Dev) (num : Nat) : Dev :=
  if d.wbf.ents.any (fun e => e.num == num && !e.issued) then
    let p := d.freePoison
    (p.2.setWb (mapIf (fun e => e.num == num && !e.issued) (fun e => { e with mask := Mask.full, pay := p.1, go := true })
      p.2.wbf.ents)).wbKick
  else d

/-- A boarded line with its status made POISON. -/
def spoilt (b : Boarded) : Boarded := { b with st := .poison, pay := { b.pay with psn := true } }

/-- A line of a departure departs poisoned with status POISON, and counts as one boarded so (R251). -/
def Dev.spoilBoarded (d : Dev) (idx line : Nat) : Dev :=
  match d.dep? idx with
  | none => d
  | some e =>
    match e.boarded.find? (fun b => b.idx == line) with
    | none => d
    | some b =>
      let d := d.putDep { e with boarded := mapIf (fun x => x.idx == line) spoilt e.boarded }
      if b.st = .ok then d.badLine e (spoilt b) else d

/-- The device's part of a departure ends as MISSED. -/
def Dev.loseDep (d : Dev) (idx : Nat) : Dev :=
  match d.dep? idx with
  | none => d
  | some e => ((d.raise R.DEP_EVT.MISSED).bumpSat R.DEP_MISSED_CNT.MISSED 1).recordDep e .missed

/-- The line of a stream that is being combined, or that waits to be written, is written poisoned (R285). -/
def Dev.spoilLine (d : Dev) (n off : Nat) : Dev :=
  let s := d.stream n
  let s := if s.tail / 128 * 128 = off then { s with open_ := { s.open_ with psn := true } } else s
  let lines := mapIf (fun l => l.off == off && !l.issued) (fun l => { l with pay := { l.pay with psn := true } }) s.lines
  let s := { s with lines := lines }
  (d.putStream n s).raise R.APD_EVT.REC_POISON

/-- A record of a software queue is discarded (R532). -/
def Dev.loseRecord (d : Dev) (q k : Nat) : Dev :=
  { d with que := { d.que with q := d.que.q.mapIdx (fun i x => if i = q then { x with recs := x.recs.eraseIdx k } else x) } }

/-- The outcome of a double-bit error (Table INT-8). An array the table does not list has none. -/
def Dev.arrayLost (d : Dev) (w : SramWord) : Dev :=
  match w with
  | .hdcData set => if d.headerLosable set then d.loseHeader set else d
  | .hdcTag | .dir | .sdrTag | .txn => d.enterRecovery
  | .sdrData k => if d.sdr.cache.contains k then d.sdrUnknown k (32 * k) else d
  | .wbf num => d.poisonEntry num
  | .depBuf idx line => d.spoilBoarded idx line
  | .timetable idx => d.loseDep idx
  | .append n off => d.spoilLine n off
  | .queue q k => d.loseRecord q k
  | .log k => { d with twn := { d.twn with log := d.twn.log.eraseIdx k } }
  | .apply => if d.isMirror then d.toDetached else d
  | .other => d

/-- What a command's reads of the on-die arrays found: nothing, a corrected bit, or two bits (R358). -/
def Dev.arrayRead (d : Dev) (u : Option Upset) : Dev :=
  match u with
  | none => d
  | some u =>
    if u.double then
      ((d.bumpSat R.ECC_SRAM_UE_CNT.UE 1).report R.ECC_EVT.SRAM_UE (arrayCode u.word) 0 0 0).arrayLost u.word
    else (d.bumpSat R.ECC_SRAM_CE_CNT.CE 1).raise R.ECC_EVT.SRAM_CE

/-- A queued transaction becomes active (R136). -/
def transactionActivate (txid : Nat) (d : Dev) : Dev := if d.twn.mirror then d else d.promote txid

/-- TRANSACTION_ACTIVATE. -/
def execTransactionActivate (txid : Nat) (upset : Option Upset) (s : State) : Host.Outcome State Fault Refusal :=
  onCore s (fun d => transactionActivate txid (d.arrayRead upset))

/-- LINE_READ_DONE. -/
def execLineReadDone (txid : Nat) (noise : Burst) (upset : Option Upset) (s : State) : Host.Outcome State Fault Refusal :=
  onCore s (fun d => lineReadDone txid noise (d.arrayRead upset))

end Sys2Proof.Machine
end

