-- ==== Sys2Proof/Machine/Dispatch.lean ====
section
/-! DEFINITION. The dispatch of the commands to their meanings, one arm per row of spec/opcode_table.json. -/

namespace Sys2Proof.Machine

def exec (i : Instr) (s : State) : Host.Outcome State Fault Refusal :=
  match i with
  | .rdShared h => Sys2Proof.Machine.execRdShared h s
  | .rdFetch h => Sys2Proof.Machine.execRdFetch h s
  | .rdOwn h => Sys2Proof.Machine.execRdOwn h s
  | .rdOnce h ch => Sys2Proof.Machine.execRdOnce h ch s
  | .upgrade h => Sys2Proof.Machine.execUpgrade h s
  | .wrBack h p => Sys2Proof.Machine.execWrBack h p s
  | .wrFull h ch p => Sys2Proof.Machine.execWrFull h ch p s
  | .wrPart h ch mask p => Sys2Proof.Machine.execWrPart h ch mask p s
  | .depart h count t man dtag odev => Sys2Proof.Machine.execDepart h count t man dtag odev s
  | .append h stream len p => Sys2Proof.Machine.execAppend h stream len p s
  | .ticketRetry h tkt b => Sys2Proof.Machine.execTicketRetry h tkt b s
  | .stbyExpired tkt => Sys2Proof.Machine.execStbyExpired tkt s
  | .reservationFreed port => Sys2Proof.Machine.execReservationFreed port s
  | .snpData port txid dty rst p => Sys2Proof.Machine.execSnpData port txid dty rst p s
  | .ackaSnoop port txid => Sys2Proof.Machine.execAckaSnoop port txid s
  | .ackaGrant port txid => Sys2Proof.Machine.execAckaGrant port txid s
  | .miss port txid wbp => Sys2Proof.Machine.execMiss port txid wbp s
  | .transactionActivate txid upset => Sys2Proof.Machine.execTransactionActivate txid upset s
  | .berthHoldEnd key => Sys2Proof.Machine.execBerthHoldEnd key s
  | .rspTimeout port txid => Sys2Proof.Machine.execRspTimeout port txid s
  | .transactionRetire txid => Sys2Proof.Machine.execTransactionRetire txid s
  | .headerFetchDone set noise => Sys2Proof.Machine.execHeaderFetchDone set noise s
  | .headerWaitUnpin txid => Sys2Proof.Machine.execHeaderWaitUnpin txid s
  | .lineReadDone txid noise upset => Sys2Proof.Machine.execLineReadDone txid noise upset s
  | .memReadDone line ans loads => Sys2Proof.Machine.execMemReadDone line ans loads s
  | .nextLevelWriteAck line loads => Sys2Proof.Machine.execNextLevelWriteAck line loads s
  | .wrFail line => Sys2Proof.Machine.execWrFail line s
  | .victimCopy txid => Sys2Proof.Machine.execVictimCopy txid s
  | .victimWaitEligible txid => Sys2Proof.Machine.execVictimWaitEligible txid s
  | .combiningTimeout line => Sys2Proof.Machine.execCombiningTimeout line s
  | .wbfFlush src => Sys2Proof.Machine.execWbfFlush src s
  | .hdcFlush src => Sys2Proof.Machine.execHdcFlush src s
  | .flushDone => Sys2Proof.Machine.execFlushDone s
  | .pipQuarClr src => Sys2Proof.Machine.execPipQuarClr src s
  | .wayGroupPowerDown src g => Sys2Proof.Machine.execWayGroupPowerDown src g s
  | .sweepSet => Sys2Proof.Machine.execSweepSet s
  | .sweepDone => Sys2Proof.Machine.execSweepDone s
  | .sweepStop src g => Sys2Proof.Machine.execSweepStop src g s
  | .wayGroupWake src g => Sys2Proof.Machine.execWayGroupWake src g s
  | .mntStart src op whole => Sys2Proof.Machine.execMntStart src op whole s
  | .mntAbort src => Sys2Proof.Machine.execMntAbort src s
  | .mntLine => Sys2Proof.Machine.execMntLine s
  | .mntDone => Sys2Proof.Machine.execMntDone s
  | .dirProbeGo src => Sys2Proof.Machine.execDirProbeGo src s
  | .dirProbeDone => Sys2Proof.Machine.execDirProbeDone s
  | .depProbeGo src => Sys2Proof.Machine.execDepProbeGo src s
  | .managerSnoop uplink sn mtxid addr => Sys2Proof.Machine.execManagerSnoop uplink sn mtxid addr s
  | .uplinkResponse uplink oport tag ans => Sys2Proof.Machine.execUplinkResponse uplink oport tag ans s
  | .uplinkDown => Sys2Proof.Machine.execUplinkDown s
  | .sdrInitDone => Sys2Proof.Machine.execSdrInitDone s
  | .takeoverDownlink port epoch => Sys2Proof.Machine.execTakeoverDownlink port epoch s
  | .takeoverUplink uplink epoch => Sys2Proof.Machine.execTakeoverUplink uplink epoch s
  | .homeMoved port epoch => Sys2Proof.Machine.execHomeMoved port epoch s
  | .pairDigest digest role grade addr => Sys2Proof.Machine.execPairDigest digest role grade addr s
  | .pairingGuardExpiry => Sys2Proof.Machine.execPairingGuardExpiry s
  | .partnerRead ans => Sys2Proof.Machine.execPartnerRead ans s
  | .heartbeat => Sys2Proof.Machine.execHeartbeat s
  | .hbLoss => Sys2Proof.Machine.execHbLoss s
  | .lossWaitConfirm ans => Sys2Proof.Machine.execLossWaitConfirm ans s
  | .fencedCheck ans => Sys2Proof.Machine.execFencedCheck ans s
  | .twnGuardExpiry => Sys2Proof.Machine.execTwnGuardExpiry s
  | .resendWindowEnd ns => Sys2Proof.Machine.execResendWindowEnd ns s
  | .join src => Sys2Proof.Machine.execJoin src s
  | .detach src => Sys2Proof.Machine.execDetach src s
  | .forceTake src => Sys2Proof.Machine.execForceTake src s
  | .twnResume src => Sys2Proof.Machine.execTwnResume src s
  | .copyDone => Sys2Proof.Machine.execCopyDone s
  | .mirrorFlit mseq items => Sys2Proof.Machine.execMirrorFlit mseq items s
  | .mirrorApply => Sys2Proof.Machine.execMirrorApply s
  | .mirrorAck mseq => Sys2Proof.Machine.execMirrorAck mseq s
  | .dirtyCopyReport txid port => Sys2Proof.Machine.execDirtyCopyReport txid port s
  | .depAnnounce uplink d => Sys2Proof.Machine.execDepAnnounce uplink d s
  | .depAccept port idx empty => Sys2Proof.Machine.execDepAccept port idx empty s
  | .depRefuse port idx => Sys2Proof.Machine.execDepRefuse port idx s
  | .depCancelMsg uplink idx adm => Sys2Proof.Machine.execDepCancelMsg uplink idx adm s
  | .depBoard uplink idx addr mask => Sys2Proof.Machine.execDepBoard uplink idx addr mask s
  | .depBoardMiss port idx line => Sys2Proof.Machine.execDepBoardMiss port idx line s
  | .depLineFromWorker port idx b => Sys2Proof.Machine.execDepLineFromWorker port idx b s
  | .depLineToWorker uplink idx b => Sys2Proof.Machine.execDepLineToWorker uplink idx b s
  | .depAckAtManager port idx lidx => Sys2Proof.Machine.execDepAckAtManager port idx lidx s
  | .depAckAtWorker uplink idx lidx => Sys2Proof.Machine.execDepAckAtWorker uplink idx lidx s
  | .boardingStart idx => Sys2Proof.Machine.execBoardingStart idx s
  | .quietWindow idx => Sys2Proof.Machine.execQuietWindow idx s
  | .departureRelease idx => Sys2Proof.Machine.execDepartureRelease idx s
  | .lateStaged idx => Sys2Proof.Machine.execLateStaged idx s
  | .immediateRelease idx port => Sys2Proof.Machine.execImmediateRelease idx port s
  | .releaseEnd idx => Sys2Proof.Machine.execReleaseEnd idx s
  | .depCancelGo src => Sys2Proof.Machine.execDepCancelGo src s
  | .depDisable src => Sys2Proof.Machine.execDepDisable src s
  | .streamEnable src n => Sys2Proof.Machine.execStreamEnable src n s
  | .streamDisable src n => Sys2Proof.Machine.execStreamDisable src n s
  | .apdFlush src n => Sys2Proof.Machine.execApdFlush src n s
  | .appendCombineTimeout n => Sys2Proof.Machine.execAppendCombineTimeout n s
  | .apdLineWriteDone n off => Sys2Proof.Machine.execApdLineWriteDone n off s
  | .lineFail n off => Sys2Proof.Machine.execLineFail n off s
  | .apdHeadWrite src n h => Sys2Proof.Machine.execApdHeadWrite src n h s
  | .apdDescriptorWrite src n r v => Sys2Proof.Machine.execApdDescriptorWrite src n r v s
  | .laneStartUp lane => Sys2Proof.Machine.execLaneStartUp lane s
  | .trainingTokenGrant lane us => Sys2Proof.Machine.execTrainingTokenGrant lane us s
  | .trainFail lane step => Sys2Proof.Machine.execTrainFail lane step s
  | .headerFill => Sys2Proof.Machine.execHeaderFill s
  | .fillDone => Sys2Proof.Machine.execFillDone s
  | .refresh lane rank => Sys2Proof.Machine.execRefresh lane rank s
  | .postponedRefreshBurst lane rank => Sys2Proof.Machine.execPostponedRefreshBurst lane rank s
  | .rfm lane rank bank => Sys2Proof.Machine.execRfm lane rank bank s
  | .mr4Poll lane rank cls => Sys2Proof.Machine.execMr4Poll lane rank cls s
  | .zqCalibration => Sys2Proof.Machine.execZqCalibration s
  | .selfRefreshExit lane => Sys2Proof.Machine.execSelfRefreshExit lane s
  | .dsVrPgTimeout g => Sys2Proof.Machine.execDsVrPgTimeout g s
  | .vrStuck g => Sys2Proof.Machine.execVrStuck g s
  | .vrFault g => Sys2Proof.Machine.execVrFault g s
  | .lossSweepDone => Sys2Proof.Machine.execLossSweepDone s
  | .correctionWindowClose => Sys2Proof.Machine.execCorrectionWindowClose s
  | .scrubBurst => Sys2Proof.Machine.execScrubBurst s
  | .scrubGapEnd => Sys2Proof.Machine.execScrubGapEnd s
  | .scrubReadDone lane noise => Sys2Proof.Machine.execScrubReadDone lane noise s
  | .scbDisable src => Sys2Proof.Machine.execScbDisable src s
  | .flipArm src => Sys2Proof.Machine.execFlipArm src s
  | .flipDiscard src => Sys2Proof.Machine.execFlipDiscard src s
  | .chanHaltClr src port mask => Sys2Proof.Machine.execChanHaltClr src port mask s
  | .peerDetect port => Sys2Proof.Machine.execPeerDetect port s
  | .linkTrained port ok width rate => Sys2Proof.Machine.execLinkTrained port ok width rate s
  | .init port f => Sys2Proof.Machine.execInit port f s
  | .initResend port => Sys2Proof.Machine.execInitResend port s
  | .dataFlit port f => Sys2Proof.Machine.execDataFlit port f s
  | .nak port f exp => Sys2Proof.Machine.execNak port f exp s
  | .recoverDone port ok => Sys2Proof.Machine.execRecoverDone port ok s
  | .lpIdle port => Sys2Proof.Machine.execLpIdle port s
  | .lpm port f code => Sys2Proof.Machine.execLpm port f code s
  | .lpExit port => Sys2Proof.Machine.execLpExit port s
  | .linkDown port => Sys2Proof.Machine.execLinkDown port s
  | .lost port => Sys2Proof.Machine.execLost port s
  | .portDisable src port => Sys2Proof.Machine.execPortDisable src port s
  | .portEnable src port => Sys2Proof.Machine.execPortEnable src port s
  | .drainingEnd fn => Sys2Proof.Machine.execDrainingEnd fn s
  | .memoryPortBringUp mp r => Sys2Proof.Machine.execMemoryPortBringUp mp r s
  | .mpLinkDown mp => Sys2Proof.Machine.execMpLinkDown mp s
  | .mpFailed mp => Sys2Proof.Machine.execMpFailed mp s
  | .mpRemove src mp => Sys2Proof.Machine.execMpRemove src mp s
  | .mpAdd src mp r => Sys2Proof.Machine.execMpAdd src mp r s
  | .mpIoData src mp write v ans => Sys2Proof.Machine.execMpIoData src mp write v ans s
  | .flr perst => Sys2Proof.Machine.execFlr perst s
  | .rstNLow pwrOk => Sys2Proof.Machine.execRstNLow pwrOk s
  | .resetRelease role side head => Sys2Proof.Machine.execResetRelease role side head s
  | .crystalReady => Sys2Proof.Machine.execCrystalReady s
  | .xtalFail => Sys2Proof.Machine.execXtalFail s
  | .xtalRetry src => Sys2Proof.Machine.execXtalRetry src s
  | .xtalLost => Sys2Proof.Machine.execXtalLost s
  | .pllLock k => Sys2Proof.Machine.execPllLock k s
  | .pllTimeout k => Sys2Proof.Machine.execPllTimeout k s
  | .pllFail k => Sys2Proof.Machine.execPllFail k s
  | .pllRelock k => Sys2Proof.Machine.execPllRelock k s
  | .clockSwitch sel => Sys2Proof.Machine.execClockSwitch sel s
  | .forced sel => Sys2Proof.Machine.execForced sel s
  | .clkForceGate src gate => Sys2Proof.Machine.execClkForceGate src gate s
  | .gateClose bit => Sys2Proof.Machine.execGateClose bit s
  | .clkOutCfgWrite src v => Sys2Proof.Machine.execClkOutCfgWrite src v s
  | .clkMeasGo src sel => Sys2Proof.Machine.execClkMeasGo src sel s
  | .measDone khz => Sys2Proof.Machine.execMeasDone khz s
  | .bellLock => Sys2Proof.Machine.execBellLock s
  | .belArm src => Sys2Proof.Machine.execBelArm src s
  | .belDisarm src => Sys2Proof.Machine.execBelDisarm src s
  | .syncSeen => Sys2Proof.Machine.execSyncSeen s
  | .markArm src => Sys2Proof.Machine.execMarkArm src s
  | .markDone => Sys2Proof.Machine.execMarkDone s
  | .bellLost => Sys2Proof.Machine.execBellLost s
  | .domainOff src bit => Sys2Proof.Machine.execDomainOff src bit s
  | .domainOn src bit => Sys2Proof.Machine.execDomainOn src bit s
  | .padRelease src rel => Sys2Proof.Machine.execPadRelease src rel s
  | .pmbusPoll mode ans => Sys2Proof.Machine.execPmbusPoll mode ans s
  | .vrAlert status => Sys2Proof.Machine.execVrAlert status s
  | .vrClear src => Sys2Proof.Machine.execVrClear src s
  | .vrPgLost => Sys2Proof.Machine.execVrPgLost s
  | .dvfsTarget src t => Sys2Proof.Machine.execDvfsTarget src t s
  | .dvfsFgo src => Sys2Proof.Machine.execDvfsFgo src s
  | .dvfsVgo src => Sys2Proof.Machine.execDvfsVgo src s
  | .voltageReached ans => Sys2Proof.Machine.execVoltageReached ans s
  | .wakeTo step dom => Sys2Proof.Machine.execWakeTo step dom s
  | .purserUpdate => Sys2Proof.Machine.execPurserUpdate s
  | .purserRescale => Sys2Proof.Machine.execPurserRescale s
  | .tokenReturn kind who => Sys2Proof.Machine.execTokenReturn kind who s
  | .overCap kind who => Sys2Proof.Machine.execOverCap kind who s
  | .dozeReq src => Sys2Proof.Machine.execDozeReq src s
  | .dozeStage => Sys2Proof.Machine.execDozeStage s
  | .dozeQuiesceTimeout => Sys2Proof.Machine.execDozeQuiesceTimeout s
  | .wakeEvent bit => Sys2Proof.Machine.execWakeEvent bit s
  | .dozeWake src => Sys2Proof.Machine.execDozeWake src s
  | .dozeOut => Sys2Proof.Machine.execDozeOut s
  | .flashReadDone a b => Sys2Proof.Machine.execFlashReadDone a b s
  | .go src => Sys2Proof.Machine.execGo src s
  | .autostart => Sys2Proof.Machine.execAutostart s
  | .selfTestDone failArr fails us => Sys2Proof.Machine.execSelfTestDone failArr fails us s
  | .trainComplete => Sys2Proof.Machine.execTrainComplete s
  | .serve src v => Sys2Proof.Machine.execServe src v s
  | .drain src => Sys2Proof.Machine.execDrain src s
  | .drainSet => Sys2Proof.Machine.execDrainSet s
  | .drainDone => Sys2Proof.Machine.execDrainDone s
  | .drainResume src => Sys2Proof.Machine.execDrainResume src s
  | .restart src => Sys2Proof.Machine.execRestart src s
  | .chainRd m crc => Sys2Proof.Machine.execChainRd m crc s
  | .chainWr m crc => Sys2Proof.Machine.execChainWr m crc s
  | .chainBwr m crc => Sys2Proof.Machine.execChainBwr m crc s
  | .chainRsp m crc => Sys2Proof.Machine.execChainRsp m crc s
  | .chainEvt m crc => Sys2Proof.Machine.execChainEvt m crc s
  | .mbx m crc => Sys2Proof.Machine.execMbx m crc s
  | .enum m crc own => Sys2Proof.Machine.execEnum m crc own s
  | .noAnswer seq => Sys2Proof.Machine.execNoAnswer seq s
  | .chnEnum src => Sys2Proof.Machine.execChnEnum src s
  | .chnGo src => Sys2Proof.Machine.execChnGo src s
  | .inLost => Sys2Proof.Machine.execInLost s
  | .chnInRegain => Sys2Proof.Machine.execChnInRegain s
  | .registerWrite src ofs size v => Sys2Proof.Machine.execRegisterWrite src ofs size v s
  | .lock src page => Sys2Proof.Machine.execLock src page s
  | .evtRead src page => Sys2Proof.Machine.execEvtRead src page s
  | .rcRead src ofs => Sys2Proof.Machine.execRcRead src ofs s
  | .loRead src ofs => Sys2Proof.Machine.execLoRead src ofs s
  | .hiWrite src ofs v => Sys2Proof.Machine.execHiWrite src ofs v s
  | .loWrite src ofs v => Sys2Proof.Machine.execLoWrite src ofs v s
  | .aliasRead src ofs size => Sys2Proof.Machine.execAliasRead src ofs size s
  | .aliasWrite src ofs size v => Sys2Proof.Machine.execAliasWrite src ofs size v s
  | .watchdogTimeout src ofs write => Sys2Proof.Machine.execWatchdogTimeout src ofs write s
  | .cfgPassEnd us => Sys2Proof.Machine.execCfgPassEnd us s
  | .cfgCommit src => Sys2Proof.Machine.execCfgCommit src s
  | .commitDone us => Sys2Proof.Machine.execCommitDone us s
  | .evcRearm src word mask => Sys2Proof.Machine.execEvcRearm src word mask s
  | .pbaRelease => Sys2Proof.Machine.execPbaRelease s
  | .evtFrameSend word => Sys2Proof.Machine.execEvtFrameSend word s
  | .queDataRead src n size => Sys2Proof.Machine.execQueDataRead src n size s
  | .queDrop src n => Sys2Proof.Machine.execQueDrop src n s
  | .mboWrite src v => Sys2Proof.Machine.execMboWrite src v s
  | .mboSend => Sys2Proof.Machine.execMboSend s
  | .pmuClear src => Sys2Proof.Machine.execPmuClear src s
  | .counterWrap fixed n => Sys2Proof.Machine.execCounterWrap fixed n s
  | .sample skid => Sys2Proof.Machine.execSample skid s
  | .pmuSmpDone src => Sys2Proof.Machine.execPmuSmpDone src s
  | .coreCycle => Sys2Proof.Machine.execCoreCycle s
  | .bellTick => Sys2Proof.Machine.execBellTick s
  | .pwrOkRise => Sys2Proof.Machine.execPwrOkRise s
  | .dsVrPgRise g => Sys2Proof.Machine.execDsVrPgRise g s
  | .idleFlit port f => Sys2Proof.Machine.execIdleFlit port f s
  | .heartbeatReceived f serving state epoch mseq => Sys2Proof.Machine.execHeartbeatReceived f serving state epoch mseq s
  | .mpLinkReturn mp width slow => Sys2Proof.Machine.execMpLinkReturn mp width slow s
  | .viral mp => Sys2Proof.Machine.execViral mp s
  | .hstLinkDown => Sys2Proof.Machine.execHstLinkDown s
  | .chainBadFrame bytes crc => Sys2Proof.Machine.execChainBadFrame bytes crc s
  | .readBusError src ofs size => Sys2Proof.Machine.execReadBusError src ofs size s
  | .boundaryScan t => Sys2Proof.Machine.execBoundaryScan t s

end Sys2Proof.Machine
end

