-- ==== Sys2Proof/Safety.lean ====
section
/-! DEFINITION. The terms in which claims are stated: when a command reaches its block, which register a command writes,
the canonical form of the lanes' contents, and the invariant of the device. -/

namespace Sys2Proof

/-- The source and the offset of the register a command writes; none for a command that is no write of one register. -/
def Instr.target : Instr → Option (Src × Nat)
  | .apdFlush src n | .streamEnable src n | .streamDisable src n => some (src, 0x1C100 + 8 * n)
  | .apdHeadWrite src n _ => some (src, Machine.apdReg n 0x24)
  | .apdDescriptorWrite src n r _ => some (src, Machine.apdReg n (Machine.descReg r))
  | .wbfFlush src => some (src, Machine.R.WBF_FLUSH.FLUSH.ofs)
  | .hdcFlush src => some (src, Machine.R.HDC_FLUSH.FLUSH.ofs)
  | .pipQuarClr src => some (src, Machine.R.PIP_QUAR_CLR.CLR.ofs)
  | .dirProbeGo src => some (src, Machine.R.DIR_PROBE_CTRL.GO.ofs)
  | .depProbeGo src => some (src, Machine.R.DEP_PROBE_CTRL.GO.ofs)
  | .xtalRetry src => some (src, Machine.R.CLK_CMD.XTAL_RETRY.ofs)
  | .clkForceGate src _ => some (src, Machine.R.CLK_FORCE.GATE.ofs)
  | .clkOutCfgWrite src _ => some (src, Machine.R.CLK_OUT_CFG.SEL.ofs)
  | .clkMeasGo src _ => some (src, Machine.R.CLK_MEAS_CTRL.GO.ofs)
  | .belDisarm src => some (src, Machine.R.BEL_CTRL.DISARM.ofs)
  | .belArm src => some (src, Machine.R.BEL_CTRL.ARM.ofs)
  | .markArm src => some (src, Machine.R.BEL_CTRL.MARK_ARM.ofs)
  | .depCancelGo src => some (src, Machine.R.DEP_CANCEL_CTRL.GO.ofs)
  | .depDisable src => some (src, Machine.depEN.ofs)
  | .dozeReq src => some (src, Machine.R.PWR_DOZE_CTRL.REQ.ofs)
  | .dozeWake src => some (src, Machine.R.PWR_DOZE_CTRL.WAKE.ofs)
  | .evcRearm src word _ => some (src, Machine.R.EVC_REARM0.REARM.ofs + 4 * word)
  | .queDrop src n => some (src, (Machine.R.QUEn_DROP.DROP n).ofs)
  | .mboWrite src _ => some (src, (Machine.R.QUEn_DATA.DATA 4).ofs)
  | .pmuClear src => some (src, Machine.R.PMU_GCTL.CLEAR.ofs)
  | .pmuSmpDone src => some (src, Machine.R.PMU_SMP_CTRL.DONE.ofs)
  | .cfgCommit src => some (src, Machine.R.CFG_COMMIT.COMMIT.ofs)
  | .scbDisable src => some (src, Machine.scbEN.ofs)
  | .flipArm src => some (src, Machine.R.ECC_FLIP_CTRL.ARM.ofs)
  | .flipDiscard src => some (src, Machine.R.ECC_TEST_SEL.SEL.ofs)
  | .chanHaltClr src port _ => some (src, (Machine.R.ECC_CHAN_HALTn.CLR port).ofs)
  | .portDisable src port | .portEnable src port => some (src, (Machine.portEN port).ofs)
  | .mpRemove src mp => some (src, (Machine.R.MPn_HP.REMOVE mp).ofs)
  | .mpAdd src mp _ => some (src, (Machine.R.MPn_HP.ADD mp).ofs)
  | .go src => some (src, Machine.R.GCR_CMD.GO.ofs)
  | .serve src _ => some (src, Machine.R.GCR_CFG.SERVE.ofs)
  | .drain src => some (src, Machine.R.GCR_CMD.DRAIN.ofs)
  | .drainResume src => some (src, Machine.R.GCR_CMD.RESUME.ofs)
  | .domainOff src _ | .domainOn src _ => some (src, Machine.R.PWR_DOM_OFF.OFF.ofs)
  | .padRelease src _ => some (src, Machine.R.PWR_PAD_RELEASE.REL.ofs)
  | .vrClear src => some (src, Machine.R.PWR_VR_CMD.CLEAR.ofs)
  | .dvfsTarget src _ => some (src, Machine.R.PWR_DVFS.TARGET.ofs)
  | .dvfsFgo src => some (src, Machine.R.PWR_DVFS_MAN.FGO.ofs)
  | .dvfsVgo src => some (src, Machine.R.PWR_DVFS_MAN.VGO.ofs)
  | .restart src => some (src, Machine.R.GCR_CMD.RESTART.ofs)
  | .chnEnum src => some (src, Machine.R.CHN_CMD.ENUM.ofs)
  | .chnGo src => some (src, Machine.R.CHN_CMD.GO.ofs)
  | .wayGroupPowerDown src _ | .sweepStop src _ | .wayGroupWake src _ => some (src, Machine.R.PWR_WG_REQ.REQ.ofs)
  | .mntStart src _ _ => some (src, Machine.R.PIP_MNT_CTRL.START.ofs)
  | .mntAbort src => some (src, Machine.R.PIP_MNT_CTRL.ABORT.ofs)
  | .detach src => some (src, Machine.R.TWN_CMD.DETACH.ofs)
  | .forceTake src => some (src, Machine.R.TWN_CMD.FORCE_TAKE.ofs)
  | .twnResume src => some (src, Machine.R.TWN_CMD.RESUME.ofs)
  | .join src => some (src, Machine.R.TWN_CMD.JOIN.ofs)
  | _ => none

/-- The commands that act on a device in Cold: its reset pins, PWR_OK, boundary scan, and the chain's frames, which its
repeater forwards or answers (R459, R563). -/
def Instr.actsInCold : Instr → Bool
  | .rstNLow _ | .resetRelease .. | .pwrOkRise | .boundaryScan _ | .chainRd .. | .chainWr .. | .chainBwr .. | .chainRsp ..
  | .chainEvt .. | .mbx .. | .enum .. | .chainBadFrame .. => true
  | _ => false

/-- The resets that end a lock: the reset pins, RESTART, and the reset of the host port's page (R459, R476, R519). -/
def Instr.resets : Instr → Bool
  | .rstNLow _ | .resetRelease .. | .restart _ | .flr _ => true
  | _ => false

/-- The commands by which software writes configuration fields: register writes, chain writes, the image's records, a
page's lock, and ECC_TEST_SEL.SEL. -/
def Instr.configures : Instr → Bool
  | .registerWrite .. | .hiWrite .. | .loWrite .. | .aliasWrite .. | .lock .. | .chainWr .. | .chainBwr ..
  | .flashReadDone .. | .flipDiscard _ => true
  | _ => false

/-- Commands of the clock, power, chain, event, refresh and link-layer blocks, and those that only start or stop an engine:
none of them serves, moves or writes a line. -/
def Instr.keepsCaches : Instr → Bool
  | .crystalReady | .xtalFail | .xtalRetry _ | .xtalLost | .pllLock _ | .pllRelock _ | .clockSwitch _ | .forced _
  | .clkForceGate .. | .gateClose _ | .clkOutCfgWrite .. | .clkMeasGo .. | .measDone _ | .bellLock | .belArm _
  | .belDisarm _ | .syncSeen | .markArm _ | .markDone | .bellTick | .padRelease .. | .pmbusPoll .. | .vrAlert _
  | .vrClear _ | .dvfsTarget .. | .dvfsFgo _ | .dvfsVgo _ | .voltageReached .. | .purserUpdate | .purserRescale
  | .tokenReturn .. | .overCap .. | .chainRsp .. | .chainEvt .. | .mbx .. | .enum .. | .noAnswer _ | .chnEnum _
  | .chnGo _ | .inLost | .chnInRegain | .evtRead .. | .rcRead .. | .watchdogTimeout .. | .cfgPassEnd _
  | .cfgCommit _ | .commitDone _ | .evcRearm .. | .pbaRelease | .evtFrameSend _ | .queDataRead .. | .queDrop ..
  | .mboWrite .. | .mboSend | .pmuClear _ | .counterWrap .. | .sample _ | .pmuSmpDone _ | .lock .. | .hstLinkDown
  | .flr _ | .mntStart .. | .mntAbort _ | .mntDone | .dirProbeGo _ | .dirProbeDone | .depProbeGo _
  | .wayGroupPowerDown .. | .sweepStop .. | .wayGroupWake .. | .headerFill | .refresh ..
  | .postponedRefreshBurst .. | .rfm .. | .mr4Poll .. | .zqCalibration | .selfRefreshExit _ | .vrStuck _
  | .dsVrPgRise _ | .laneStartUp _ | .trainingTokenGrant .. | .correctionWindowClose | .scrubGapEnd | .scbDisable _
  | .flipArm _ | .flipDiscard _ | .chanHaltClr .. | .peerDetect _ | .initResend _ | .lpIdle _ | .lpm ..
  | .idleFlit .. | .lpExit _ | .heartbeat | .viral _ | .mpIoData .. | .mpRemove .. | .quietWindow _ | .depDisable _
  | .pipQuarClr _ => true
  | _ => false

/-- A chain frame that asks for a register's value (R487). -/
def Frame.isRead : Frame → Bool
  | .rd _ => true
  | _ => false

/-- A chain frame of a roll call (R483). -/
def Frame.isRoll : Frame → Bool
  | .enum .. => true
  | _ => false

end Sys2Proof

namespace Sys2Proof.Machine

/-! ## Reaching a block -/

/-- The device is not held in reset by Cold (R459). -/
def Dev.awake (d : Dev) : Bool := d.gcr.mode != .cold

/-- The blocks of CORE run: the device is not in Cold, and CORE is on. -/
def Dev.runs (d : Dev) : Bool := d.awake && d.coreOn

/-- A write of the register at an offset meets no bus error: its page exists, is powered and not held closed by a forced
gate, and the register is not locked (R497, R499). -/
def Dev.reaches (d : Dev) (ofs : Nat) : Bool := d.awake && (d.unreachable ofs).isNone && !d.regLocked ofs

/-! ## What a command shows of itself -/

/-- The device has driven an output since an earlier state of it. -/
def Dev.drove (after before : Dev) (o : Out) : Prop := o ∈ after.sent.take (after.sent.length - before.sent.length)

/-- A write of the register at an offset starts nothing: it stores its value alone (R495). -/
def Dev.startsNothing (d : Dev) (src : Src) (ofs : Nat) (v : Word) : Bool :=
  (d.actAon src ofs v).isNone && (d.actEvent src ofs v).isNone && (d.actCore ofs v).isNone && (d.actPort ofs v).isNone

/-- A bit of the register at an offset takes the value written to it. -/
def takesBit (ofs b : Nat) : Bool :=
  match rowAt ofs with
  | some r => (r.maskOf takesValue).testBit b
  | none => false

/-- A bit of the register at an offset is cleared by the read that returns it (R494, R495). -/
def clearsOnRead (ofs b : Nat) : Bool :=
  match rowAt ofs with
  | some r => (r.maskOf (fun a => a == .rc)).testBit b
  | none => false

/-- Copies of a message that wait for a port's credits or for the mirror side. -/
def Dev.waitingCopies (d : Dev) (n : Nat) (m : Msg) : Nat :=
  ((d.port n).txq.filter (· == m)).length + (d.twn.held.filter (fun e => e.2 == (n, m))).length

/-- A message has been given to a port since an earlier state: driven, or waiting for credits or for the mirror side
(R211, R376). -/
def Dev.told (after before : Dev) (n : Nat) (m : Msg) : Prop :=
  before.waitingCopies n m < after.waitingCopies n m +
    ((after.sent.take (after.sent.length - before.sent.length)).filter (· == Out.msg n m)).length

/-! ## Requests of agents at a standalone device -/

/-- The read that a lane is given for a line slot (R297). -/
def Dev.laneRdOut (d : Dev) (loc : Nat × Nat) : Out := .laneRd loc.1 (d.devAddr loc.1 loc.2)

/-- The write that a lane is given for a line slot (R297). -/
def Dev.laneWrOut (d : Dev) (loc : Nat × Nat) (b : Burst) : Out := .laneWr loc.1 (d.devAddr loc.1 loc.2) b

/-- A standalone device in service, without a twin. -/
def Dev.plain (d : Dev) : Bool :=
  d.runs && d.gcr.role == .standalone && d.gcr.mode.serving && d.twn.st == .single && !d.twn.mirror &&
  d.ports.length == 32

/-- A worker that is in service, without a twin. -/
def Dev.worker (d : Dev) : Bool :=
  d.runs && d.gcr.role == .worker && d.gcr.mode.serving && d.twn.st == .single && !d.twn.mirror &&
  d.ports.length == 32 && d.hie.upl < 2

/-- A manager that is in service, without a twin. -/
def Dev.manager (d : Dev) : Bool :=
  d.runs && d.gcr.role == .manager && d.gcr.mode.serving && d.twn.st == .single && !d.twn.mirror &&
  d.ports.length == 32

/-- The request is taken at once as transaction id, the only work of its line (R92, R136, R140). -/
def Dev.takesNow (d : Dev) (h : Head) (b : Body) (id : Nat) : Bool :=
  d.plain && h.port < 32 && !d.pip.stopped && !d.cnf.waiting.any (fun x => x.head.port == h.port) && d.slotFor h.port &&
  (d.refusal ⟨h, b, none⟩).isNone && (d.resentRequest (d.txnOf ⟨h, b, none⟩)).isNone && d.generalId == some id &&
  (d.onKey (lineOf h.addr)).isEmpty && !d.keyActive (lineOf h.addr) (lineOf h.addr) && !d.twn.unsent.contains id &&
  (d.hdrBlocked (d.setOf (lineOf h.addr))).isNone &&
  ((d.dirFind (lineOf h.addr)).isSome || (d.freeDirWay (lineOf h.addr)).isSome)

/-- No later command of the same core cycle goes before a request (R137, R254, R279). -/
def State.first (s : State) (r : Req) : Bool := !s.thisCycle.any (s.dev.goesBefore r)

/-- The request is taken at once as transaction id, and no command of its core cycle goes before it. -/
def State.takesNow (s : State) (h : Head) (b : Body) (id : Nat) : Bool := s.dev.takesNow h b id && s.first ⟨h, b, none⟩

/-- The line's set header is neither resident nor being fetched, and its HDC set has room for it: a free entry, or an
unpinned one to evict (R49). -/
def Dev.headerAway (d : Dev) (line : Nat) : Bool :=
  (d.header? (d.setOf line)).isNone && !d.hdc.fetch.contains (d.setOf line) && (d.makeRoom (d.setOf line) false).isSome

/-- A request has become the transaction id in a phase, with its type, line, tag and requester. -/
def Dev.opened (t : Dev) (id : Nat) (ph : Phase) (k : Kind) (h : Head) : Prop :=
  (t.txn? id).map (fun x => (x.phase, x.kind, x.line, x.tag, x.org)) =
    some (ph, k, lineOf h.addr, h.tag, .agent h.port)

/-- A request has become the transaction id, which waits for its set header, whose fetch has begun (R49, R50). -/
def Dev.fetchesFor (t d : Dev) (id : Nat) (k : Kind) (h : Head) : Prop :=
  t.opened id .waitHeader k h ∧ d.setOf (lineOf h.addr) ∈ t.hdc.fetch ∧
  t.drove d (d.laneRdOut (headerLoc (d.setOf (lineOf h.addr))))

/-- A request has become the transaction id, which reads its line from way w of the data store (R61, R62). -/
def Dev.readsWay (t d : Dev) (id w : Nat) (k : Kind) (h : Head) : Prop :=
  t.opened id .readLane k h ∧ (t.txn? id).bind (·.way) = some w ∧
  t.drove d (d.laneRdOut (d.lineLoc (d.setOf (lineOf h.addr)) w (lineOf h.addr % 8)))

/-- A write is answered with Ack, and its transaction is not in the table. -/
def Dev.ackedWrite (t d : Dev) (id : Nat) (h : Head) : Prop :=
  t.txn? id = none ∧ t.told d h.port (.ack 0 h.tag .I 0 none)

/-! ## Canonical forms -/

/-- The keys of a bank strictly rise. -/
def Bank.rising {α : Type} : List (Nat × α) → Bool
  | [] => true
  | [_] => true
  | a :: b :: l => a.1 < b.1 && Bank.rising (b :: l)

/-- The canonical form of the lanes' contents: keys strictly rise, and no zero burst is listed (an unlisted line slot holds
a zero burst, R359). -/
def Memory.wf (m : List (Nat × Burst)) : Bool := Bank.rising m && m.all (fun e => e.2 != 0)

/-! ## The invariant -/

/-- What every command keeps: the lanes' contents and the register bank are in canonical form, every instance the manual
counts is there, no queue holds more than its depth (R532), QUAR_CNT stays in range (R47) and LOC holds at most 1,024
entries (R336). -/
structure Dev.Inv (d : Dev) : Prop where
  store : Memory.wf d.store = true
  regs : Bank.rising d.regs = true
  ports : d.ports.length = 32
  mps : d.mps.length = 8
  lanes : d.dsc.lanes.length = 18
  queues : d.que.q.length = 5
  depth : ∀ n, (d.queue n).recs.length ≤ queueDepth n
  quar : d.pip.quar.length ≤ 64
  loc : d.ecc.loc.length ≤ 1024

end Sys2Proof.Machine
end

