-- ==== Sys2Proof/Certificates/Slice0/Obligations.lean ====
section
/-! DEFINITION. The statements for the provers: what a step does, what every command keeps, and what the commands of each
family do. A statement about a command names the state and operands it needs; its conclusion is the next state. -/

open Sys2Proof Sys2Proof.Machine

/-! ## The step -/

/-- A step with a command at the front of the queue is exec of that command on the state with the rest of the queue. -/
def Obligations.StepRunsFrontCommand : Prop :=
  ∀ (c : Instr) (rest : List Instr) (s : State), s.pending = c :: rest → step s = exec c (s.setPending rest)

/-- Every command answers a next state, in every state, and leaves the queue of waiting commands as it is. -/
def Obligations.EveryCommandCompletes : Prop :=
  ∀ (c : Instr) (s : State), ∃ t, exec c s = .next t ∧ t.pending = s.pending

/-- The invariant of the device holds after reset. -/
def Obligations.ResetInvariant : Prop := State.reset.dev.Inv

/-- Every step keeps the invariant of the device. -/
def Obligations.StepKeepsInvariant : Prop :=
  ∀ (s t : State), s.dev.Inv → step s = .next t → t.dev.Inv

/-- Parts of R457, R519 and R359: the state after reset; Boot, nothing waiting, nothing driven, every array empty. -/
def Obligations.ResetState : Prop :=
  State.reset.pending = [] ∧ State.reset.dev.gcr.mode = .boot ∧ State.reset.dev.regs = [] ∧ State.reset.dev.store = [] ∧
  State.reset.dev.cnf.txns = [] ∧ State.reset.dev.dir.ents = [] ∧ State.reset.dev.wbf.ents = [] ∧
  State.reset.dev.hdc.ents = [] ∧ State.reset.dev.dep.table = [] ∧ State.reset.dev.sent = [] ∧
  (∀ n, n ≤ 32 → (State.reset.dev.port n).st = 0) ∧ (∀ n, n < 8 → (State.reset.dev.mp n).st = 0)

/-- Parts of R459: a device in Cold holds every block in reset: a command other than the reset pins, PWR_OK, the chain's
frames and the boundary-scan port changes nothing in it. -/
def Obligations.ColdHoldsEveryBlock : Prop :=
  ∀ (c : Instr) (s : State), s.dev.gcr.mode = .cold → c.actsInCold = false → exec c s = .next (s.setDev (settle s.dev))

/-! ## Register writes -/

/-- Parts of R497, R499, R501: a command that writes a register of a page whose domain is off or whose clock is gated ends
in a bus error with that cause, and one that writes a locked page's RWL register ends in one with cause 3; it has no other
effect. -/
def Obligations.RefusedWriteCommands : Prop :=
  (∀ (c : Instr) (src : Src) (ofs : Nat) (s : State), c.target = some (src, ofs) → s.dev.awake = true →
    s.dev.unreachable ofs = none → s.dev.regLocked ofs = true →
    exec c s = .next (s.setDev (settle (s.dev.busErr src ofs true 3)))) ∧
  (∀ (c : Instr) (src : Src) (ofs k : Nat) (s : State), c.target = some (src, ofs) → s.dev.awake = true →
    s.dev.unreachable ofs = some k → exec c s = .next (s.setDev (settle (s.dev.busErr src ofs true k))))

/-- Parts of R499: what a bus error records: address, cause, source and direction; COUNT grows by 1 unless it is at its
maximum; BUS_ERR is raised, and LOCK_VIOL for causes 3 and 4; the arrays, the transactions, the mode and the ports are as
before, and the source is told the cause. -/
def Obligations.BusErrorRecord : Prop :=
  ∀ (d : Dev) (src : Src) (ofs k : Nat) (w : Bool), ofs < 2 ^ 28 → k < 16 →
    let e := d.busErr src ofs w k
    e.get R.GCR_BUSERR_ADDR.ADDR = ofs ∧ e.get R.GCR_BUSERR_INFO.CAUSE = k ∧
    e.get R.GCR_BUSERR_INFO.SRC = srcCode src ∧ e.get R.GCR_BUSERR_INFO.WRITE = (if w then 1 else 0) ∧
    e.get R.GCR_BUSERR_INFO.COUNT = min (d.get R.GCR_BUSERR_INFO.COUNT + 1) 65535 ∧
    e.flag R.GCR_EVT.BUS_ERR = true ∧ (k = 3 ∨ k = 4 → e.flag R.GCR_EVT.LOCK_VIOL = true) ∧
    e.sent = .busErr src k :: d.sent ∧ e.store = d.store ∧ e.cnf = d.cnf ∧ e.gcr = d.gcr ∧ e.ports = d.ports

/-! ## Clocks -/

/-- Parts of R398 to R402: the crystal and the PLLs. -/
def Obligations.CrystalAndPlls : Prop :=
  (∀ s : State, s.dev.awake = true → s.dev.srcReady 1 = false → s.dev.clk.xtalFail = false →
    s.dev.clk.fail.getLsbD 1 = false →
    ∃ t, exec .crystalReady s = .next t ∧ t.dev.srcReady 1 = true ∧
      (s.dev.switchBusy .ref = false → (Selector.ref, 1) ∈ t.dev.clk.switching)) ∧
  (∀ s : State, s.dev.awake = true → s.dev.srcReady 1 = false → s.dev.clk.xtalFail = false →
    s.dev.clk.fail.getLsbD 1 = false →
    ∃ t, exec .xtalFail s = .next t ∧ t.dev.clk.xtalFail = true ∧ t.dev.flag R.CLK_EVT.XTAL_FAIL = true ∧
      2 ∈ t.dev.evc.owed ∧ t.dev.clk.refXtal = s.dev.clk.refXtal ∧
      (s.dev.srcReady 2 = false → s.dev.clk.fail.getLsbD 2 = false → 2 ∈ t.dev.clk.starting)) ∧
  (∀ (src : Src) (s : State), s.dev.reaches R.CLK_CMD.XTAL_RETRY.ofs = true →
    ∃ t, exec (.xtalRetry src) s = .next t ∧ t.dev.clk.xtalFail = false) ∧
  (∀ s : State, s.dev.awake = true → s.dev.srcReady 1 = true →
    ∃ t, exec .xtalLost s = .next t ∧ t.dev.srcReady 1 = false ∧ t.dev.clk.fail.getLsbD 1 = true ∧
      (Selector.ref, 0) ∈ t.dev.clk.switching ∧ t.dev.flag R.CLK_EVT.XTAL_LOST = true ∧ t.dev.gcr.mode = .recovery ∧
      (s.dev.gcr.mode ≠ .recovery → t.dev.gcr.fault = true ∧ 0 ∈ t.dev.evc.owed) ∧ t.dev.srcReady 2 = false ∧
      2 ∈ t.dev.clk.starting ∧
      (∀ k, k ∈ refPlls → s.dev.srcReady k = true ∨ k ∈ s.dev.clk.starting →
        t.dev.srcReady k = false ∧ t.dev.clk.fail.getLsbD k = true)) ∧
  (∀ (k : Nat) (s : State), s.dev.awake = true → k < 19 → k ≠ 6 → k ∈ s.dev.clk.starting →
    ∃ t, exec (.pllLock k) s = .next t ∧ t.dev.srcReady k = true) ∧
  (∀ (k : Nat) (s : State), s.dev.awake = true → k ∈ s.dev.clk.starting ∨ (k = 6 ∧ s.dev.bel.locked = false) →
    ∃ t, exec (.pllTimeout k) s = .next t ∧ t.dev.flag R.CLK_EVT.PLL_TIMEOUT = true ∧
      t.dev.flag R.PWR_EVT.WAKE_TO = true ∧ t.dev.get R.PWR_WAKE_FAIL.STEP = 3 ∧
      (if 3 ≤ s.dev.wakeTries 3 k then t.dev.gcr.mode = .recovery ∧ t.dev.gcr.fault = true ∧ t.dev.pwr.on = 1
       else t.dev.wakeTries 3 k = s.dev.wakeTries 3 k + 1 ∧ t.dev.clk = s.dev.clk)) ∧
  (∀ (k : Nat) (s : State), s.dev.awake = true → k < 19 → k ≠ 6 → s.dev.srcReady k = true →
    ∃ t, exec (.pllFail k) s = .next t ∧ t.dev.srcReady k = false ∧ t.dev.clk.fail.getLsbD k = true ∧
      t.dev.flag R.CLK_EVT.PLL_FAIL = true) ∧
  (∀ (k : Nat) (s : State), s.dev.awake = true → k < 19 → k ≠ 6 → s.dev.clk.fail.getLsbD k = true →
    s.dev.srcReady 1 = true ∨ k = 2 →
    ∃ t, exec (.pllRelock k) s = .next t ∧ t.dev.srcReady k = true ∧ t.dev.clk.fail.getLsbD k = false)

/-- Parts of R405 to R409, R418, R419: switches, forced gates, CLK_OUT and the measurement. -/
def Obligations.SwitchesAndGates : Prop :=
  (∀ (sel : Selector) (k : Nat) (s : State), s.dev.awake = true → s.dev.switchTarget sel = some k →
    s.dev.oldStopped sel = false →
    ∃ t, exec (.clockSwitch sel) s = .next t ∧ t.dev.switchBusy sel = false ∧
      (sel = .ref → t.dev.clk.refXtal = (k == 1)) ∧ (sel = .core → t.dev.clk.coreSrc = k) ∧
      (sel = .out → t.dev.clk.outNow = k) ∧ (sel = .meas → t.dev.clk.measNow = k)) ∧
  (∀ (sel : Selector) (k : Nat) (s : State), s.dev.awake = true → s.dev.switchTarget sel = some k →
    s.dev.oldStopped sel = true ∨ s.dev.oldCode sel = some 23 →
    ∃ t, exec (.forced sel) s = .next t ∧ t.dev.switchBusy sel = false ∧ t.dev.flag R.CLK_EVT.FORCED = true ∧
      t.dev.flag (forcedBit sel) = true) ∧
  (∀ (src : Src) (gate : BitVec 11) (s : State), s.dev.reaches R.CLK_FORCE.GATE.ofs = true →
    ∃ t, exec (.clkForceGate src gate) s = .next t ∧ ∀ b, b < 11 →
      (gate.getLsbD b = false → t.dev.clk.gate.getLsbD b = false ∧ t.dev.clk.closed.getLsbD b = false) ∧
      (gate.getLsbD b = true → s.dev.gateInUse b = false → t.dev.clk.gate.getLsbD b = true)) ∧
  (∀ (b : Nat) (s : State), s.dev.awake = true → b < 11 → s.dev.clk.gate.getLsbD b = true →
    ∃ t, exec (.gateClose b) s = .next t ∧ t.dev.clk.closed.getLsbD b = true) ∧
  (∀ (src : Src) (v : Word) (s : State), s.dev.reaches R.CLK_OUT_CFG.SEL.ofs = true →
    ∃ t, exec (.clkOutCfgWrite src v) s = .next t ∧
      (if s.dev.clkOutOk (bits v.toNat 4 0) (bits v.toNat 17 8) then
        t.dev.get R.CLK_OUT_CFG.SEL = bits v.toNat 4 0 ∧ t.dev.get R.CLK_OUT_CFG.DIV_M1 = bits v.toNat 17 8
       else t.dev.get R.CLK_OUT_CFG.SEL = s.dev.get R.CLK_OUT_CFG.SEL ∧
        t.dev.get R.CLK_OUT_CFG.DIV_M1 = s.dev.get R.CLK_OUT_CFG.DIV_M1 ∧ t.dev.flag R.CLK_EVT.OUT_REFUSED = true)) ∧
  (∀ (src : Src) (sel : Nat) (s : State), s.dev.reaches R.CLK_MEAS_CTRL.GO.ofs = true → s.dev.clk.measuring = false →
    sel ≤ 24 → s.dev.switchOk .meas sel = true →
    ∃ t, exec (.clkMeasGo src sel) s = .next t ∧ t.dev.clk.measuring = true ∧ t.dev.get R.CLK_MEAS.DONE = 0) ∧
  (∀ (khz : Nat) (s : State), s.dev.awake = true → s.dev.clk.measuring = true →
    ∃ t, exec (.measDone khz) s = .next t ∧ t.dev.clk.measuring = false ∧ t.dev.get R.CLK_MEAS.DONE = 1 ∧
      t.dev.get R.CLK_MEAS.KHZ = khz % 2 ^ (R.CLK_MEAS.KHZ.hi + 1) ∧ t.dev.flag R.CLK_EVT.MEAS_DONE = true)

/-! ## The bell -/

/-- Parts of R410 to R417: the bell counter, its alignment and its mark. -/
def Obligations.BellCommands : Prop :=
  (∀ s : State, s.dev.awake = true → s.dev.bel.locked = false →
    ∃ t, exec .bellLock s = .next t ∧ t.dev.bel.locked = true ∧ t.dev.bel.run = true ∧ t.dev.srcReady 6 = true) ∧
  (∀ (src : Src) (s : State), s.dev.reaches R.BEL_CTRL.ARM.ofs = true →
    ∃ t, exec (.belArm src) s = .next t ∧
      (if s.dev.bel.locked = false ∨ s.dev.bel.armed = true ∨ s.dev.pendingDeps ≠ 0 then
        t.dev.bel = s.dev.bel ∧ t.dev.flag R.BEL_EVT.ARM_REFUSED = true
       else t.dev.bel = { s.dev.bel with armed := true, was := s.dev.bel.aligned, aligned := false })) ∧
  (∀ (src : Src) (s : State), s.dev.reaches R.BEL_CTRL.DISARM.ofs = true →
    ∃ t, exec (.belDisarm src) s = .next t ∧
      t.dev.bel = (if s.dev.bel.armed then { s.dev.bel with armed := false, aligned := s.dev.bel.was } else s.dev.bel)) ∧
  (∀ s : State, s.dev.awake = true →
    ∃ t, exec .syncSeen s = .next t ∧ t.dev.bel.armed = false ∧ t.dev.flag R.BEL_EVT.SYNC_SEEN = true ∧
      t.dev.bel.now = (if s.dev.bel.armed then s.dev.belLoad else s.dev.bel.now) ∧
      t.dev.bel.aligned = (s.dev.bel.armed || s.dev.bel.aligned) ∧
      (s.dev.bel.armed = true → t.dev.flag R.BEL_EVT.ALIGNED = true) ∧
      t.dev.get64 R.BEL_SYNC_CAP_LO.CAP_LO.ofs = t.dev.bel.now.toNat) ∧
  (∀ (src : Src) (s : State), s.dev.reaches R.BEL_CTRL.MARK_ARM.ofs = true → s.dev.get R.CLK_OUT_CFG.SEL = 25 →
    ∃ t, exec (.markArm src) s = .next t ∧
      (if s.dev.get64 R.BEL_MARK_LO.MARK_LO.ofs < s.dev.bel.now.toNat then
        t.dev.bel.markArmed = false ∧ t.dev.flag R.BEL_EVT.MARK_DONE = true ∧
        t.dev.drove s.dev (.pin "CLK_OUT" true)
       else t.dev.bel.markArmed = true)) ∧
  (∀ s : State, s.dev.awake = true → s.dev.bel.markArmed = true →
    s.dev.get64 R.BEL_MARK_LO.MARK_LO.ofs ≤ s.dev.bel.now.toNat →
    ∃ t, exec .markDone s = .next t ∧ t.dev.bel.markArmed = false ∧ t.dev.flag R.BEL_EVT.MARK_DONE = true ∧
      (s.dev.get R.CLK_OUT_CFG.SEL = 25 → t.dev.drove s.dev (.pin "CLK_OUT" true))) ∧
  (∀ s : State, s.dev.awake = true → s.dev.bel.locked = true →
    ∃ t, exec .bellLost s = .next t ∧ t.dev.bel.locked = false ∧ t.dev.bel.aligned = false ∧
      t.dev.bel.now = s.dev.bel.now ∧ t.dev.srcReady 6 = false ∧ t.dev.clk.fail.getLsbD 6 = true ∧
      t.dev.flag R.BEL_EVT.BELL_LOST = true) ∧
  (∀ s : State, s.dev.awake = true → s.dev.bel.run = true →
    ∃ t, exec .bellTick s = .next t ∧ t.dev.bel.now = s.dev.bel.now + 1)

/-- R413: at every BELL_SYNC edge the counter is captured into BEL_SYNC_CAP and SYNC_SEEN is raised, whether or not ARMED
is 1; when it is, the value captured is the loaded one. -/
def Obligations.SyncEdgeCaptured : Prop :=
  ∀ s : State, s.dev.awake = true →
    ∃ t, exec .syncSeen s = .next t ∧ t.dev.flag R.BEL_EVT.SYNC_SEEN = true ∧
      t.dev.get64 R.BEL_SYNC_CAP_LO.CAP_LO.ofs = (if s.dev.bel.armed then s.dev.belLoad else s.dev.bel.now).toNat ∧
      t.dev.bel.now = (if s.dev.bel.armed then s.dev.belLoad else s.dev.bel.now)

/-! ## Power, operating points and the purser -/

/-- Parts of R421 to R426, R438 to R442: power domains, pads, wakes, and the purser. -/
def Obligations.PowerAndPurser : Prop :=
  (∀ (src : Src) (bit : Nat) (s : State), s.dev.reaches R.PWR_DOM_OFF.OFF.ofs = true → bit < 11 →
    s.dev.flag (domOffBit bit) = false →
    ∃ t, exec (.domainOff src bit) s = .next t ∧
      (if s.dev.dozeActive = true ∨ s.dev.offInUse bit = true then
        t.dev.pwr = s.dev.pwr ∧ t.dev.flag (domOffBit bit) = false ∧ t.dev.flag R.PWR_EVT.DOM_REFUSED = true
       else t.dev.domOn (offDomain bit) = false ∧ t.dev.padHeld (offDomain bit) = true ∧
        t.dev.flag (domOffBit bit) = true)) ∧
  (∀ (src : Src) (bit : Nat) (s : State), s.dev.reaches R.PWR_DOM_OFF.OFF.ofs = true → bit < 11 →
    s.dev.flag (domOffBit bit) = true →
    ∃ t, exec (.domainOn src bit) s = .next t ∧
      (if s.dev.dozeActive = true then t.dev.pwr = s.dev.pwr ∧ t.dev.flag R.PWR_EVT.DOM_REFUSED = true
       else t.dev.domOn (offDomain bit) = true ∧ t.dev.flag (domOffBit bit) = false)) ∧
  (∀ (src : Src) (rel : BitVec 21) (s : State), s.dev.reaches R.PWR_PAD_RELEASE.REL.ofs = true →
    ∃ t, exec (.padRelease src rel) s = .next t ∧
      t.dev.pwr.held = s.dev.pwr.held &&& ~~~ (rel &&& s.dev.pwr.on) ∧ t.dev.pwr.on = s.dev.pwr.on) ∧
  (∀ (step dom : Nat) (s : State), s.dev.awake = true → s.dev.wakeStep step dom = true → step < 16 → dom < 32 →
    ∃ t, exec (.wakeTo step dom) s = .next t ∧ t.dev.flag R.PWR_EVT.WAKE_TO = true ∧
      t.dev.get R.PWR_WAKE_FAIL.STEP = step % 2 ^ (R.PWR_WAKE_FAIL.STEP.hi + 1 - R.PWR_WAKE_FAIL.STEP.lo) ∧
      (step = 3 → t.dev.flag R.CLK_EVT.PLL_TIMEOUT = true) ∧
      (3 ≤ s.dev.wakeTries step (s.dev.wakeUnit step dom) → t.dev.gcr.mode = .recovery ∧ t.dev.gcr.fault = true ∧
      t.dev.pwr.on = 1)) ∧
  (∀ s : State, s.dev.awake = true →
    ∃ t, exec .purserUpdate s = .next t ∧ t.dev.pur.capNow = s.dev.get R.PUR_CAP.CAP ∧
      t.dev.pur.est = (Config.freeEstimate s.dev.free).toNat ∧ t.dev.pur.level ≤ 12) ∧
  (∀ s : State, s.dev.awake = true →
    ∃ t, exec .purserRescale s = .next t ∧ t.dev.pur.scale = s.dev.get R.PWR_VR_POWER.QW) ∧
  (∀ (kind who : Nat) (s : State), s.dev.awake = true → s.dev.hasToken kind who = true →
    ∃ t, exec (.tokenReturn kind who) s = .next t ∧ t.dev.hasToken kind who = false) ∧
  (∀ (kind who : Nat) (s : State), s.dev.awake = true → 1 ≤ kind → kind ≤ 4 → (kind, who) ∈ s.dev.pur.waiting →
    ∃ t, exec (.overCap kind who) s = .next t ∧ t.dev.hasToken kind who = true ∧
      t.dev.flag R.PUR_EVT.OVER_CAP = true)

/-- R429: when PMB_ALERT_N falls, STATUS_WORD is read into PWR_VR_STATUS, VR_ALERT is raised, and an EVQ record with the
status word is placed; a full queue refuses it (R537), and a mirror side writes none (R531). -/
def Obligations.AlertIsRecorded : Prop :=
  ∀ (w : Nat) (s : State), s.dev.awake = true → w < 2 ^ 16 → s.dev.que.q.length = 5 →
    ∃ t, exec (.vrAlert (some w)) s = .next t ∧ t.dev.get R.PWR_VR_STATUS.WORD = w ∧
      t.dev.flag R.PWR_EVT.VR_ALERT = true ∧
      (t.dev.queue 0).recs = (if s.dev.isMirror = false ∧ (s.dev.queue 0).recs.length < 512 then
        (s.dev.queue 0).recs ++ [evqWords s.dev.bel.now (srcOf R.PWR_EVT.VR_ALERT) s.dev.addr s.dev.gcr.mode.code false
          0 0 w 0 s.dev.que.seq] else (s.dev.queue 0).recs)

/-- Parts of R427 to R437: the core regulator and the operating points. -/
def Obligations.RegulatorAndPoints : Prop :=
  (∀ (mode : Option (BitVec 8)) (s : State), s.dev.awake = true →
    ∃ t, exec (.pmbusPoll mode none) s = .next t ∧ t.dev.flag R.PWR_EVT.PMB_ERR = true ∧ t.dev.pwr.pmbRead = true) ∧
  (∀ (mode : Option (BitVec 8)) (w ma : Nat) (s : State), s.dev.awake = true →
    ∃ t, exec (.pmbusPoll mode (some (w, ma))) s = .next t ∧
      t.dev.get R.PWR_VR_MEAS.MV = linearMv t.dev.pwr.voutExp w % 2 ^ (R.PWR_VR_MEAS.MV.hi + 1) ∧
      t.dev.get R.PWR_VR_POWER.QW =
        linearMv t.dev.pwr.voutExp w * ma / 250000 % 2 ^ (R.PWR_VR_POWER.QW.hi + 1)) ∧
  (∀ (m : BitVec 8) (ans : Option (Nat × Nat)) (s : State), s.dev.awake = true → s.dev.pwr.pmbRead = false →
    ∃ t, exec (.pmbusPoll (some m) ans) s = .next t ∧ t.dev.pwr.pmbOk = (m.toNat / 32 == 0) ∧
      t.dev.drove s.dev (.pmbus (s.dev.get R.PWR_VR_CFG.ADDR) (s.dev.flag R.PWR_VR_CFG.PEC) "VOUT_MODE" 0)) ∧
  (∀ (w : Nat) (s : State), s.dev.awake = true →
    ∃ t, exec (.vrAlert (some w)) s = .next t ∧ t.dev.flag R.PWR_EVT.VR_ALERT = true ∧
      t.dev.get R.PWR_VR_STATUS.WORD = w % 2 ^ (R.PWR_VR_STATUS.WORD.hi + 1)) ∧
  (∀ s : State, s.dev.awake = true →
    ∃ t, exec (.vrAlert none) s = .next t ∧ t.dev.flag R.PWR_EVT.VR_ALERT = true ∧ t.dev.flag R.PWR_EVT.PMB_ERR = true) ∧
  (∀ (src : Src) (s : State), s.dev.reaches R.PWR_VR_CMD.CLEAR.ofs = true →
    ∃ t, exec (.vrClear src) s = .next t ∧
      (if Config.pmbusFails s.dev.free < 4 then t.dev.regs = s.dev.regs else t.dev.flag R.PWR_EVT.PMB_ERR = true) ∧
      t.dev.drove s.dev (.pmbus (s.dev.get R.PWR_VR_CFG.ADDR) (s.dev.flag R.PWR_VR_CFG.PEC) "CLEAR_FAULTS" 0)) ∧
  (∀ s : State, s.dev.awake = true → s.dev.coreOn = true →
    ∃ t, exec .vrPgLost s = .next t ∧ t.dev.gcr.mode = .recovery ∧ t.dev.gcr.fault = true ∧ t.dev.pwr.on = 1) ∧
  (∀ (src : Src) (p : Nat) (s : State), s.dev.reaches R.PWR_DVFS.TARGET.ofs = true →
    ∃ t, exec (.dvfsTarget src p) s = .next t ∧ t.dev.get R.PWR_DVFS.TARGET = p % 4 ∧
      (s.dev.gcr.mode = .boot → t.dev.pwr = s.dev.pwr) ∧
      (s.dev.gcr.mode ≠ .boot → s.dev.pwr.doze = none → s.dev.pwr.step.isSome = true → t.dev.pwr.nextTarget = some p) ∧
      (s.dev.gcr.mode ≠ .boot → s.dev.pwr.doze.all (fun z => !z.waking) = true → s.dev.pwr.doze.isSome = true →
        s.dev.pwr.step = none →
        t.dev.pwr.doze = s.dev.pwr.doze.map (fun z => { z with retarget := true })) ∧
      (s.dev.gcr.mode ≠ .boot → s.dev.pwr.doze = none → s.dev.pwr.step = none → p ≠ s.dev.pwr.vpt →
        s.dev.pwr.pmbOk = false → t.dev.pwr = s.dev.pwr ∧ t.dev.flag R.PWR_EVT.DVFS_REFUSED = true) ∧
      (s.dev.gcr.mode ≠ .boot → s.dev.pwr.doze = none → s.dev.pwr.step = none → p ≠ s.dev.pwr.fpt →
        s.dev.pwr.pmbOk = true → t.dev.pwr.step.isSome = true)) ∧
  (∀ (src : Src) (s : State), s.dev.reaches R.PWR_DVFS_MAN.FGO.ofs = true →
    ∃ t, exec (.dvfsFgo src) s = .next t ∧
      (if s.dev.get R.PWR_DVFS_MAN.FPT_REQ < s.dev.pwr.vpt ∨ s.dev.pwr.step.isSome ∨ s.dev.dozeActive then
        t.dev.pwr = s.dev.pwr ∧ t.dev.flag R.PWR_EVT.DVFS_REFUSED = true
       else s.dev.get R.PWR_DVFS_MAN.FPT_REQ ≠ s.dev.pwr.fpt → t.dev.pwr.step.isSome = true)) ∧
  (∀ (src : Src) (s : State), s.dev.reaches R.PWR_DVFS_MAN.VGO.ofs = true →
    ∃ t, exec (.dvfsVgo src) s = .next t ∧
      (if s.dev.pwr.fpt < s.dev.get R.PWR_DVFS_MAN.VPT_REQ ∨
          (s.dev.get R.PWR_DVFS_MAN.VPT_REQ ≠ s.dev.pwr.vpt ∧ s.dev.pwr.pmbOk = false) ∨ s.dev.pwr.step.isSome ∨
          s.dev.dozeActive then
        t.dev.pwr = s.dev.pwr ∧ t.dev.flag R.PWR_EVT.DVFS_REFUSED = true
       else s.dev.get R.PWR_DVFS_MAN.VPT_REQ ≠ s.dev.pwr.vpt → t.dev.pwr.step.isSome = true)) ∧
  (∀ (w ma : Nat) (x : Dvfs) (s : State), s.dev.awake = true → s.dev.pwr.step = some x → x.voltWait = true →
    nearPoint (linearMv s.dev.pwr.voutExp w) x.goalV = true →
    ∃ t, exec (.voltageReached (some (w, ma))) s = .next t ∧ t.dev.pwr.vpt = x.goalV ∧
      t.dev.get R.PWR_VR_MEAS.MV = linearMv s.dev.pwr.voutExp w % 2 ^ (R.PWR_VR_MEAS.MV.hi + 1)) ∧
  (∀ (w ma : Nat) (x : Dvfs) (s : State), s.dev.awake = true → s.dev.pwr.step = some x → x.voltWait = true →
    nearPoint (linearMv s.dev.pwr.voutExp w) x.goalV = false →
    ∃ t, exec (.voltageReached (some (w, ma))) s = .next t ∧ t.dev.pwr = s.dev.pwr ∧
      t.dev.get R.PWR_VR_MEAS.MV = linearMv s.dev.pwr.voutExp w % 2 ^ (R.PWR_VR_MEAS.MV.hi + 1)) ∧
  (∀ (x : Dvfs) (s : State), s.dev.awake = true → s.dev.pwr.step = some x → x.voltWait = true →
    ∃ t, exec (.voltageReached none) s = .next t ∧ t.dev.pwr = s.dev.pwr ∧ t.dev.flag R.PWR_EVT.PMB_ERR = true)

/-- Parts of R444 to R448: Doze. -/
def Obligations.DozeCommands : Prop :=
  (∀ (src : Src) (s : State), s.dev.reaches R.PWR_DOZE_CTRL.REQ.ofs = true →
    ∃ t, exec (.dozeReq src) s = .next t ∧
      (if s.dev.dozeActive = true then t.dev.pwr = s.dev.pwr ∧ t.dev.flag R.PWR_EVT.DOZE_ABORT = true
       else t.dev.pwr.doze =
         some { prevMode := s.dev.gcr.mode, prevPt := s.dev.pwr.fpt, prevV := s.dev.pwr.vpt, prevOn := s.dev.pwr.on })) ∧
  (∀ (z : Doze) (s : State), s.dev.runs = true → s.dev.pwr.doze = some z → z.stage = 0 → z.asleep = false →
    z.waking = false →
    ∃ t, exec .dozeStage s = .next t ∧
      (match s.dev.firstRefusal with
       | none => t.dev.pwr.doze = some { z with stage := 1 }
       | some b => t.dev.pwr.doze = none ∧ t.dev.get R.PWR_REFUSE.STAGE = 1 ∧ t.dev.get R.PWR_REFUSE.BLOCK = b ∧
          t.dev.flag R.PWR_EVT.DOZE_ABORT = true)) ∧
  (∀ (z : Doze) (s : State), s.dev.runs = true → s.dev.pwr.doze = some z → z.stage = 9 → z.asleep = false →
    z.waking = false → z.slowing = true → z.woken = false → s.dev.pwr.step = none →
    ∃ t, exec .dozeStage s = .next t ∧ t.dev.gcr.mode = .doze ∧ t.dev.flag R.PWR_EVT.DOZE_IN = true ∧
      t.dev.srcReady 5 = false ∧ t.dev.pwr.doze = some { z with stage := 10, asleep := true }) ∧
  (∀ (z : Doze) (s : State), s.dev.runs = true → s.dev.pwr.doze = some z → z.stage = 2 → z.asleep = false →
    z.waking = false →
    ∃ t, exec .dozeQuiesceTimeout s = .next t ∧ t.dev.pwr.doze = none ∧ t.dev.pip.stopped = false ∧
      t.dev.get R.PWR_REFUSE.STAGE = 3 ∧ t.dev.flag R.PWR_EVT.DOZE_ABORT = true) ∧
  (∀ (bit : Nat) (z : Doze) (s : State), s.dev.awake = true → bit < 4 → (s.dev.get R.PWR_WAKE_EN.EN).testBit bit = true →
    s.dev.pwr.doze = some z → bit ≠ 3 ∨ s.dev.get64 R.PWR_WAKE_T_LO.T_LO.ofs ≤ s.dev.bel.now.toNat →
    ∃ t z', exec (.wakeEvent bit) s = .next t ∧ t.dev.pwr.doze = some z' ∧ z'.woken = true ∧
      (z.asleep = true → z'.waking = true ∧ z'.asleep = false)) ∧
  (∀ (src : Src) (z : Doze) (s : State), s.dev.reaches R.PWR_DOZE_CTRL.WAKE.ofs = true → s.dev.pwr.doze = some z →
    ∃ t z', exec (.dozeWake src) s = .next t ∧ t.dev.pwr.doze = some z' ∧ z'.woken = true ∧
      (z.asleep = true → z'.waking = true ∧ z'.asleep = false)) ∧
  (∀ (z : Doze) (s : State), s.dev.runs = true → s.dev.pwr.doze = some z → z.waking = true → s.dev.dozeReady z = true →
    s.dev.mpsReady = true →
    ∃ t, exec .dozeOut s = .next t ∧ t.dev.pwr.doze = none ∧ t.dev.pip.stopped = false ∧
    t.dev.flag R.PWR_EVT.DOZE_OUT = true)

/-! ## Boot, modes and reset -/

/-- Parts of R461 to R472: Boot without a valid copy, GO, AUTOSTART, Self-test and the end of Train. -/
def Obligations.StartUpCommands : Prop :=
  (∀ (a b : Image) (s : State), s.dev.gcr.mode = .boot → imageValid a = false → imageValid b = false →
    ∃ t, exec (.flashReadDone a b) s = .next t ∧ t.dev.gcr.mode = .configure ∧ t.dev.flag R.GCR_EVT.NO_IMAGE = true ∧
      t.dev.get R.GCR_IMG_STAT.VALID_A = 0 ∧ t.dev.get R.GCR_IMG_STAT.VALID_B = 0 ∧
      (s.dev.gcr.role = .reserved → t.dev.flag R.GCR_EVT.STRAP_BAD = true)) ∧
  (∀ (src : Src) (s : State), s.dev.reaches R.GCR_CMD.GO.ofs = true → s.dev.gcr.mode = .configure →
    s.dev.dozeActive = false →
    ∃ t, exec (.go src) s = .next t ∧
      (if s.dev.goErr = 0 then t.dev.gcr.mode = .selfTest ∧ t.dev.cfg.committing = true
       else t.dev.gcr.mode = .configure ∧ t.dev.get R.GCR_STAT.GO_ERR = s.dev.goErr ∧
        t.dev.flag R.GCR_EVT.CFG_ERR = true)) ∧
  (∀ (src : Src) (s : State), s.dev.reaches R.GCR_CMD.GO.ofs = true → s.dev.gcr.mode ≠ .configure →
    ∃ t, exec (.go src) s = .next t ∧ t.dev.gcr = s.dev.gcr ∧ t.dev.cfg = s.dev.cfg ∧
      t.dev.flag R.GCR_EVT.CMD_REFUSED = true) ∧
  (∀ s : State, s.dev.gcr.mode = .configure → s.dev.gcr.autostart = true → s.dev.pwr.step = none →
    s.dev.dozeActive = false → s.dev.goErr = 0 →
    ∃ t, exec .autostart s = .next t ∧ t.dev.gcr.mode = .selfTest ∧ t.dev.gcr.autostart = false ∧
      t.dev.cfg.committing = true) ∧
  (∀ (arr fails us : Nat) (s : State), s.dev.runs = true → s.dev.gcr.mode = .selfTest →
    s.dev.flag R.TST_CFG.BIST_EN = false ∨ arr = 0 → s.dev.flag R.ECC_TEST_SEL.SEL = true ∨ fails = 0 →
    ∃ t, exec (.selfTestDone arr fails us) s = .next t ∧ t.dev.gcr.mode = .train ∧ t.dev.get R.TST_STAT.DONE = 1 ∧
      t.dev.get R.TST_STAT.PASS = 1 ∧ (s.dev.twinOn = true → t.dev.twn.st = .pairing) ∧
      ∀ n, n < 18 → (t.dev.lane n).st = (if s.dev.populated n then 1 else 0)) ∧
  (∀ (arr fails us : Nat) (s : State), s.dev.runs = true → s.dev.gcr.mode = .selfTest →
    s.dev.flag R.TST_CFG.BIST_EN = true → 0 < arr → arr < 16 →
    ∃ t, exec (.selfTestDone arr fails us) s = .next t ∧ t.dev.gcr.mode = .selfTest ∧ t.dev.gcr.fault = true ∧
      t.dev.get R.TST_STAT.PASS = 0 ∧ t.dev.get R.TST_STAT.FAIL_ARR = arr ∧ t.dev.flag R.TST_EVT.TST_FAIL = true) ∧
  (∀ s : State, s.dev.runs = true → s.dev.gcr.mode = .train → s.dev.trained = true →
    ∃ t, exec .trainComplete s = .next t ∧ t.dev.gcr.mode = s.dev.serviceMode ∧
      (s.dev.gcr.role ≠ .worker → s.dev.sdr.initDone = false → t.dev.sdr.clearing = true))

/-- Parts of R455, R473 to R476: service, Drain, its end and RESTART. -/
def Obligations.ServiceAndDrain : Prop :=
  (∀ (src : Src) (v : Bool) (s : State), s.dev.reaches R.GCR_CFG.SERVE.ofs = true →
    ∃ t, exec (.serve src v) s = .next t ∧ t.dev.flag R.GCR_CFG.SERVE = v ∧
      t.dev.gcr.mode = (if s.dev.gcr.mode.service58 then t.dev.serviceMode else s.dev.gcr.mode)) ∧
  (∀ (src : Src) (s : State), s.dev.reaches R.GCR_CMD.DRAIN.ofs = true →
    ∃ t, exec (.drain src) s = .next t ∧
      (if s.dev.gcr.mode.service58 = false ∨ s.dev.dozeActive = true then
        t.dev.gcr = s.dev.gcr ∧ t.dev.flag R.GCR_EVT.CMD_REFUSED = true
       else if s.dev.isMirror = true then t.dev.gcr = { s.dev.gcr with drainAsked := true }
       else t.dev.gcr.mode = .drain ∧ t.dev.gcr.drained = false ∧ t.dev.pip.drainOn = true ∧
        t.dev.pip.drainNext = 0)) ∧
  (∀ (h : Header) (s : State), s.dev.runs = true → s.dev.pip.drainOn = true → s.dev.pip.drainNext < s.dev.sets →
    s.dev.hdrBlocked s.dev.pip.drainNext = none → s.dev.header? s.dev.pip.drainNext = some h →
    s.dev.setInUse s.dev.pip.drainNext h (fun _ => true) = false → dirtyIn h (fun _ => true) ≤ s.dev.poolOpen →
    ∃ t, exec .drainSet s = .next t ∧ t.dev.pip.drainNext = s.dev.pip.drainNext + 1) ∧
  (∀ s : State, s.dev.runs = true → s.dev.passOver = true → s.dev.gcr.drained = false →
    ∃ t, exec .drainDone s = .next t ∧ t.dev.gcr.drained = true ∧ t.dev.flag R.GCR_EVT.DRAIN_DONE = true ∧
      t.dev.gcr.mode = .drain) ∧
  (∀ (src : Src) (s : State), s.dev.reaches R.GCR_CMD.RESUME.ofs = true → s.dev.dozeActive = false →
    s.dev.gcr.mode = .drain → s.dev.isMirror = false →
    ∃ t, exec (.drainResume src) s = .next t ∧ t.dev.gcr.mode = s.dev.serviceMode ∧ t.dev.gcr.drained = false ∧
      t.dev.pip.drainOn = false) ∧
  (∀ (src : Src) (s : State), s.dev.reaches R.GCR_CMD.RESTART.ofs = true →
    s.dev.gcr.mode = .recovery ∨ s.dev.gcr.mode = .selfTest → s.dev.dozeActive = false →
    ∃ t, exec (.restart src) s = .next t ∧ t.dev.gcr.mode = .boot ∧ t.dev.gcr.role = s.dev.gcr.role ∧
      t.dev.gcr.fault = false ∧ t.dev.chn.addr = s.dev.chn.addr ∧ t.dev.cnf.txns = [] ∧
      (∀ ofs, ofs < 0x7000 → bankGet t.dev.regs ofs = none) ∧
      (s.dev.domOn 20 = true → bankGet t.dev.regs 0x7010 = bankGet s.dev.regs 0x7010)) ∧
  (∀ (src : Src) (s : State), s.dev.reaches R.GCR_CMD.RESTART.ofs = true → s.dev.gcr.mode ≠ .recovery →
    s.dev.gcr.mode ≠ .selfTest →
    ∃ t, exec (.restart src) s = .next t ∧ t.dev.gcr = s.dev.gcr ∧ t.dev.flag R.GCR_EVT.CMD_REFUSED = true)

/-- Parts of R457 to R459, R519, R563: the reset pins and boundary scan act in every mode. -/
def Obligations.ResetPins : Prop :=
  (∀ (ok : Bool) (s : State),
    ∃ t, exec (.rstNLow ok) s = .next t ∧ t.dev.gcr.mode = .cold ∧ t.dev.gcr.rstN = false ∧
      t.dev.gcr.pwrOk = (ok && s.dev.gcr.pwrOk) ∧ t.dev.regs = [] ∧ t.dev.cnf.txns = [] ∧ t.dev.store = [] ∧
      t.dev.chn.addr = (if ok && s.dev.gcr.pwrOk then s.dev.chn.addr else 0)) ∧
  (∀ s : State, s.dev.gcr.mode = .cold →
    ∃ t, exec .pwrOkRise s = .next t ∧ t.dev.gcr = { s.dev.gcr with pwrOk := true }) ∧
  (∀ (role : Role) (side head : Bool) (s : State), s.dev.gcr.mode = .cold → s.dev.gcr.pwrOk = true →
    ∃ t, exec (.resetRelease role side head) s = .next t ∧ t.dev.gcr.mode = .boot ∧ t.dev.gcr.rstN = true ∧
      t.dev.gcr.role = role ∧ t.dev.gcr.side = side ∧ t.dev.gcr.headStrap = head ∧ t.dev.chn.head = head ∧
      t.dev.chn.addr = s.dev.chn.addr ∧ t.dev.regs = [] ∧ t.dev.dir.ents = []) ∧
  (∀ (k : Tap) (s : State),
    ∃ t, exec (.boundaryScan k) s = .next t ∧ t.dev.gcr = { s.dev.gcr with tap := k } ∧ t.dev.regs = s.dev.regs ∧
      (k = .idcode → t.dev.drove s.dev (.tdo idcode)) ∧ (k = .bypass → t.dev.drove s.dev (.tdo 0)))

/-! ## The chain -/

/-- Parts of R459, R480, R481, R482, R486, R487: register accesses over the chain, acted on once and answered. -/
def Obligations.ChainAccess : Prop :=
  (∀ (m : ChainMsg) (crc : Nat) (o : Nat) (s : State), s.dev.repeats = true → crc = m.crc → s.dev.awake = true →
    m.frame = .rd o → m.rty = false →
    m.dst ≠ 0 → m.dst = s.dev.addr →
    ∃ t, exec (.chainRd m crc) s = .next t ∧
      t.dev.drove s.dev (chainOut ⟨m.src, s.dev.addr, m.seq, false,
        .rsp (if (((s.dev.forward m).read4 .chain o).1).isSome then 0 else 1)
          ((((s.dev.forward m).read4 .chain o).1).getD 0)⟩)) ∧
  (∀ (m : ChainMsg) (crc : Nat) (o : Nat) (v : Word) (s : State), s.dev.repeats = true → crc = m.crc →
    s.dev.awake = true → m.frame = .wr o v →
    m.rty = false → m.dst ≠ 0 → m.dst = s.dev.addr →
    ∃ t, exec (.chainWr m crc) s = .next t ∧ t.dev.regs = ((s.dev.forward m).write4 .chain o v).2.regs ∧
      t.dev.drove s.dev (chainOut ⟨m.src, t.dev.addr, m.seq, false,
        .rsp (if ((s.dev.forward m).write4 .chain o v).1 then 0 else 1) 0⟩)) ∧
  (∀ (m : ChainMsg) (crc : Nat) (o : Nat) (v : Word) (a : Frame) (s : State), s.dev.repeats = true → crc = m.crc →
    s.dev.awake = true →
    m.frame = .wr o v → m.dst ≠ 0 → m.dst = s.dev.addr → s.dev.keptAnswer m = some a →
    ∃ t, exec (.chainWr m crc) s = .next t ∧ t.dev.regs = s.dev.regs ∧ t.dev.chn = s.dev.chn ∧
      t.dev.drove s.dev (chainOut ⟨m.src, s.dev.addr, m.seq, false, a⟩)) ∧
  (∀ (m : ChainMsg) (crc : Nat) (o : Nat) (s : State), s.dev.repeats = true → crc = m.crc → s.dev.gcr.mode = .cold →
    m.frame = .rd o →
    m.dst ≠ 0 → m.dst = s.dev.addr →
    ∃ t, exec (.chainRd m crc) s = .next t ∧ t.dev.regs = s.dev.regs ∧
      t.dev.drove s.dev (chainOut ⟨m.src, s.dev.addr, m.seq, false, .rsp (if o = 0x44 then 0 else 1) 0⟩)) ∧
  (∀ (m : ChainMsg) (crc : Nat) (o : Nat) (v : Word) (ack : BitVec 64) (s : State), s.dev.repeats = true → crc = m.crc →
    s.dev.awake = true →
    m.frame = .bwr o v ack → m.rty = false → s.dev.addr ≠ 0 → s.dev.ownBwr m = false →
    ∃ t, exec (.chainBwr m crc) s = .next t ∧ t.dev.regs = (s.dev.write4 .chain o v).2.regs ∧
      t.dev.drove s.dev (chainOut { m with
        frame := .bwr o v (if (s.dev.write4 .chain o v).1 then setBit64 ack t.dev.addr true else ack) })) ∧
  (∀ (m : ChainMsg) (crc : Nat) (st : Nat) (v : Word) (r : ChnReq) (s : State), s.dev.repeats = true → crc = m.crc →
    s.dev.awake = true →
    m.frame = .rsp st v → s.dev.addressed m = true → s.dev.flightOf m.seq = some r →
    ∃ t, exec (.chainRsp m crc) s = .next t ∧ t.dev.flightOf m.seq = none ∧
      (r.use = .reg → t.dev.get R.CHN_RSTAT.DONE = 1 ∧ t.dev.get R.CHN_RSTAT.STATUS = (if st = 0 then 0 else 1)) ∧
      (r.use = .reg → r.msg.frame.isRead = true → st = 0 → t.dev.raw R.CHN_RDATA.DATA.ofs = v)) ∧
  (∀ (seq : Nat) (r : ChnReq) (s : State), s.dev.awake = true → s.dev.flightOf seq = some r →
    ∃ t, exec (.noAnswer seq) s = .next t ∧
      (if r.tries < s.dev.get R.CHN_CFG.RETRY then
        t.dev.drove s.dev (chainOut { r.msg with rty := true }) ∧
        t.dev.flightOf seq = some { r with msg := { r.msg with rty := true }, tries := r.tries + 1 }
       else t.dev.flightOf seq = none ∧ t.dev.flag R.CHN_EVT.NO_ANSWER = true ∧
        (r.use = .reg → t.dev.get R.CHN_RSTAT.DONE = 1 ∧ t.dev.get R.CHN_RSTAT.STATUS = 2))) ∧
  (∀ (src : Src) (f : Frame) (s : State), s.dev.reaches R.CHN_CMD.GO.ofs = true → s.dev.inFlight isReg = false →
    s.dev.chnFrame = some f →
    ∃ t, exec (.chnGo src) s = .next t ∧ t.dev.get R.CHN_RSTAT.DONE = 0 ∧ t.dev.inFlight isReg = true ∧
      t.dev.drove s.dev (chainOut ⟨s.dev.get R.CHN_REQ.DST, if s.dev.chn.head then 0 else s.dev.addr, s.dev.chn.seq, false,
        f⟩)) ∧
  (∀ (m : ChainMsg) (crc : Nat) (s : State), s.dev.repeats = true → s.dev.awake = true → crc ≠ m.crc →
    ∃ t, exec (.chainRd m crc) s = .next t ∧ t.dev.chn = s.dev.chn ∧ t.dev.que = s.dev.que ∧
    t.dev.flag R.CHN_EVT.CRC_ERR = true ∧
      t.dev.get R.CHN_CRC_CNT.CRC = min (s.dev.get R.CHN_CRC_CNT.CRC + 1) (2 ^ (R.CHN_CRC_CNT.CRC.hi + 1) - 1) ∧
      (s.dev.removes m = false → t.dev.drove s.dev (.chainRaw m.bytes crc))) ∧
  (∀ (m : ChainMsg) (crc : Nat) (s : State), s.dev.repeats = true → s.dev.awake = true → crc ≠ m.crc →
    ∃ t, exec (.chainWr m crc) s = .next t ∧ t.dev.chn = s.dev.chn ∧ t.dev.que = s.dev.que ∧
    t.dev.flag R.CHN_EVT.CRC_ERR = true ∧
      t.dev.get R.CHN_CRC_CNT.CRC = min (s.dev.get R.CHN_CRC_CNT.CRC + 1) (2 ^ (R.CHN_CRC_CNT.CRC.hi + 1) - 1) ∧
      (s.dev.removes m = false → t.dev.drove s.dev (.chainRaw m.bytes crc))) ∧
  (∀ (m : ChainMsg) (crc : Nat) (s : State), s.dev.repeats = true → s.dev.awake = true → crc ≠ m.crc →
    ∃ t, exec (.chainBwr m crc) s = .next t ∧ t.dev.chn = s.dev.chn ∧ t.dev.que = s.dev.que ∧
    t.dev.flag R.CHN_EVT.CRC_ERR = true ∧
      t.dev.get R.CHN_CRC_CNT.CRC = min (s.dev.get R.CHN_CRC_CNT.CRC + 1) (2 ^ (R.CHN_CRC_CNT.CRC.hi + 1) - 1) ∧
      (s.dev.removes m = false → t.dev.drove s.dev (.chainRaw m.bytes crc))) ∧
  (∀ (m : ChainMsg) (crc : Nat) (s : State), s.dev.repeats = true → s.dev.awake = true → crc ≠ m.crc →
    ∃ t, exec (.chainRsp m crc) s = .next t ∧ t.dev.chn = s.dev.chn ∧ t.dev.que = s.dev.que ∧
    t.dev.flag R.CHN_EVT.CRC_ERR = true ∧
      t.dev.get R.CHN_CRC_CNT.CRC = min (s.dev.get R.CHN_CRC_CNT.CRC + 1) (2 ^ (R.CHN_CRC_CNT.CRC.hi + 1) - 1) ∧
      (s.dev.removes m = false → t.dev.drove s.dev (.chainRaw m.bytes crc))) ∧
  (∀ (bytes : List Nat) (crc : Nat) (s : State), s.dev.repeats = true → s.dev.awake = true → crc ≠ crc16 bytes →
    ∃ t, exec (.chainBadFrame bytes crc) s = .next t ∧ t.dev.flag R.CHN_EVT.CRC_ERR = true ∧ t.dev.chn = s.dev.chn ∧
      t.dev.get R.CHN_CRC_CNT.CRC = min (s.dev.get R.CHN_CRC_CNT.CRC + 1) (2 ^ (R.CHN_CRC_CNT.CRC.hi + 1) - 1)) ∧
  (∀ (bytes : List Nat) (crc : Nat) (s : State), s.dev.repeats = true → s.dev.awake = true → crc = crc16 bytes →
    7 ≤ bytes.getD 0 0 % 16 →
    ∃ t, exec (.chainBadFrame bytes crc) s = .next t ∧ t.dev.chn = s.dev.chn ∧
      t.dev.flag R.CHN_EVT.CRC_ERR = s.dev.flag R.CHN_EVT.CRC_ERR ∧
      t.dev.get R.CHN_CRC_CNT.CRC = min (s.dev.get R.CHN_CRC_CNT.CRC + 1) (2 ^ (R.CHN_CRC_CNT.CRC.hi + 1) - 1))

/-- Parts of R483 to R485, R530, R541: roll calls, event frames and mailbox frames. -/
def Obligations.ChainMessages : Prop :=
  (∀ (m : ChainMsg) (crc : Nat) (count : Nat) (ovr own : Bool) (s : State), s.dev.repeats = true → crc = m.crc →
    s.dev.awake = true →
    m.frame = .enum count ovr → s.dev.chn.head = false →
    ∃ t, exec (.enum m crc own) s = .next t ∧
      (if 63 ≤ count then t.dev.chn.addr = 0 ∧ t.dev.flag R.CHN_EVT.ENUM_OVER = true ∧
        t.dev.drove s.dev (chainOut { m with frame := .enum count true })
       else t.dev.chn.addr = count + 1 ∧ t.dev.drove s.dev (chainOut { m with frame := .enum (count + 1) ovr }) ∧
        (s.dev.chn.addr ≠ 0 → s.dev.chn.addr ≠ count + 1 → t.dev.flag R.CHN_EVT.ADDR_CHANGED = true))) ∧
  (∀ (m : ChainMsg) (crc : Nat) (count : Nat) (ovr : Bool) (s : State), s.dev.repeats = true → crc = m.crc →
    s.dev.awake = true →
    m.frame = .enum count ovr → s.dev.chn.head = true → s.dev.inFlight isRoll = true →
    ∃ t, exec (.enum m crc true) s = .next t ∧ t.dev.chn.count = count ∧ t.dev.flag R.CHN_EVT.ENUM_DONE = true ∧
      t.dev.inFlight isRoll = false ∧ t.dev.chn.addr = s.dev.chn.addr) ∧
  (∀ (m : ChainMsg) (crc : Nat) (count : Nat) (ovr : Bool) (s : State), s.dev.repeats = true → crc = m.crc →
    s.dev.awake = true →
    m.frame = .enum count ovr → s.dev.chn.head = true →
    ∃ t, exec (.enum m crc false) s = .next t ∧ t.dev.chn.head = false ∧ t.dev.flag R.CHN_EVT.HEAD_CONFLICT = true) ∧
  (∀ (src : Src) (s : State), s.dev.reaches R.CHN_CMD.ENUM.ofs = true →
    ∃ t, exec (.chnEnum src) s = .next t ∧
      (if s.dev.chn.head = true then t.dev.chn.addr = 1 ∧ t.dev.inFlight isRoll = true
       else t.dev.chn = s.dev.chn)) ∧
  (∀ s : State, s.dev.awake = true → s.dev.chn.inUp = true →
    ∃ t, exec .inLost s = .next t ∧ t.dev.chn.inUp = false ∧ t.dev.flag R.CHN_EVT.IN_LOST = true) ∧
  (∀ s : State, s.dev.awake = true → s.dev.chn.inUp = false →
    ∃ t, exec .chnInRegain s = .next t ∧ t.dev.chn.inUp = true ∧
      (s.dev.chn.head = true → t.dev.inFlight isRoll = true ∧ t.dev.chn.addr = 1)) ∧
  (∀ (m : ChainMsg) (crc : Nat) (dev w mode : Nat) (f : Bool) (b : Word) (s : State), s.dev.repeats = true →
    crc = m.crc → s.dev.runs = true →
    m.frame = .evt dev w mode f b → s.dev.addressed m = true → m.rty = false → s.dev.que.q.length = 5 →
    ∃ t, exec (.chainEvt m crc) s = .next t ∧
      t.dev.drove s.dev (chainOut ⟨m.src, s.dev.addr, m.seq, false, .rsp 0 0⟩) ∧
      (if s.dev.isMirror = true ∧ ¬ (w = 21 ∧ dev = s.dev.addr) then t.dev.que = s.dev.que
       else t.dev.que.seq = (s.dev.que.seq + 1) % 2 ^ 32 ∧
        (if (s.dev.queue 0).recs.length < 512 then
          (t.dev.queue 0).recs = (s.dev.queue 0).recs ++
            [evqWords s.dev.bel.now (32 * w) dev mode true 0 0 b.toNat (b01 f) s.dev.que.seq]
         else (t.dev.queue 0).recs = (s.dev.queue 0).recs ∧ t.dev.flag (evOverflow 0) = true))) ∧
  (∀ (m : ChainMsg) (crc : Nat) (w0 w1 : Word) (s : State), s.dev.repeats = true → crc = m.crc → s.dev.runs = true →
    m.frame = .mbx w0 w1 →
    s.dev.addressed m = true → m.rty = false → s.dev.que.q.length = 5 →
    ∃ t, exec (.mbx m crc) s = .next t ∧
      (if (s.dev.queue 3).recs.length < 256 then (t.dev.queue 3).recs = (s.dev.queue 3).recs ++ [[w0, w1]] ∧
        t.dev.drove s.dev (chainOut ⟨m.src, s.dev.addr, m.seq, false, .rsp 0 0⟩)
       else (t.dev.queue 3).recs = (s.dev.queue 3).recs ∧
        t.dev.drove s.dev (chainOut ⟨m.src, s.dev.addr, m.seq, false, .rsp 1 0⟩))) ∧
  (∀ (m : ChainMsg) (crc : Nat) (s : State), s.dev.repeats = true → s.dev.awake = true → crc ≠ m.crc →
    ∃ t, exec (.chainEvt m crc) s = .next t ∧ t.dev.chn = s.dev.chn ∧ t.dev.que = s.dev.que ∧
    t.dev.flag R.CHN_EVT.CRC_ERR = true ∧
      t.dev.get R.CHN_CRC_CNT.CRC = min (s.dev.get R.CHN_CRC_CNT.CRC + 1) (2 ^ (R.CHN_CRC_CNT.CRC.hi + 1) - 1) ∧
      (s.dev.removes m = false → t.dev.drove s.dev (.chainRaw m.bytes crc))) ∧
  (∀ (m : ChainMsg) (crc : Nat) (s : State), s.dev.repeats = true → s.dev.awake = true → crc ≠ m.crc →
    ∃ t, exec (.mbx m crc) s = .next t ∧ t.dev.chn = s.dev.chn ∧ t.dev.que = s.dev.que ∧
    t.dev.flag R.CHN_EVT.CRC_ERR = true ∧
      t.dev.get R.CHN_CRC_CNT.CRC = min (s.dev.get R.CHN_CRC_CNT.CRC + 1) (2 ^ (R.CHN_CRC_CNT.CRC.hi + 1) - 1) ∧
      (s.dev.removes m = false → t.dev.drove s.dev (.chainRaw m.bytes crc))) ∧
  (∀ (m : ChainMsg) (crc : Nat) (own : Bool) (s : State), s.dev.repeats = true → s.dev.awake = true →
    crc ≠ m.crc → m.frame.isRoll = true →
    ∃ t, exec (.enum m crc own) s = .next t ∧ t.dev.chn = s.dev.chn ∧ t.dev.que = s.dev.que ∧
    t.dev.flag R.CHN_EVT.CRC_ERR = true ∧
      t.dev.get R.CHN_CRC_CNT.CRC = min (s.dev.get R.CHN_CRC_CNT.CRC + 1) (2 ^ (R.CHN_CRC_CNT.CRC.hi + 1) - 1) ∧
      (s.dev.removes m = false → t.dev.drove s.dev (.chainRaw m.bytes crc)))

/-! ## Register accesses -/

/-- Parts of R495 to R499, R507, R511 to R518: writes of any size, locks, and the configuration passes. -/
def Obligations.RegisterWritesAndPasses : Prop :=
  (∀ (src : Src) (ofs size : Nat) (v : BitVec 64) (c : Nat) (s : State), s.dev.awake = true →
    sizeCause true ofs size = some c →
    ∃ t, exec (.registerWrite src ofs size v) s = .next t ∧ t.dev.drove s.dev (.busErr src c) ∧
      t.dev.regs = (s.dev.busErr src ofs true c).regs) ∧
  (∀ (src : Src) (ofs : Nat) (v : BitVec 64) (c : Nat) (s : State), s.dev.awake = true → ofs < 0x400000 → ofs % 4 = 0 →
    s.dev.writeCause ofs (BitVec.ofNat 32 v.toNat) = some c →
    ∃ t, exec (.registerWrite src ofs 4 v) s = .next t ∧ t.dev.drove s.dev (.busErr src c) ∧
      t.dev.regs = (s.dev.busErr src ofs true c).regs) ∧
  (∀ (src : Src) (ofs : Nat) (v : BitVec 64) (s : State), s.dev.awake = true → ofs < 0x400000 → ofs % 4 = 0 →
    s.dev.writeCause ofs (BitVec.ofNat 32 v.toNat) = none → s.dev.startsNothing src ofs (BitVec.ofNat 32 v.toNat) = true →
    halfAt ofs = .no → apdOf ofs = none →
    ∃ t, exec (.registerWrite src ofs 4 v) s = .next t ∧ t.dev.drove s.dev (.regOk src) ∧
      (∀ b, b < 32 → (t.dev.raw ofs).getLsbD b =
        (if takesBit ofs b then v.getLsbD b else (s.dev.raw ofs).getLsbD b))) ∧
  (∀ (src : Src) (page : Nat) (s : State), s.dev.awake = true → page < 0x400000 → page % 0x1000 = 0 →
    s.dev.writeCause (page + 0x18) 1 = none →
    ∃ t, exec (.lock src page) s = .next t ∧ t.dev.pageLocked page = true) ∧
  (∀ (us : Nat) (s : State), s.dev.runs = true → s.dev.cfg.committing = false →
    ∃ t, exec (.cfgPassEnd us) s = .next t ∧ t.dev.raw R.CFG_CRC_NOW.CRC.ofs = s.dev.cfgCrc ∧
      (s.dev.cfg.refValid = true →
        t.dev.cfg.matching = (s.dev.cfgCrc == s.dev.raw R.CFG_CRC_REF.CRC.ofs)) ∧
      (s.dev.cfg.refValid = true → s.dev.cfg.matching = true → s.dev.cfgCrc ≠ s.dev.raw R.CFG_CRC_REF.CRC.ofs →
        t.dev.flag R.CFG_EVT.CFG_DRIFT = true)) ∧
  (∀ (src : Src) (s : State), s.dev.reaches R.CFG_COMMIT.COMMIT.ofs = true →
    ∃ t, exec (.cfgCommit src) s = .next t ∧ t.dev.cfg = { s.dev.cfg with committing := true }) ∧
  (∀ (us : Nat) (s : State), s.dev.runs = true → s.dev.cfg.committing = true →
    ∃ t, exec (.commitDone us) s = .next t ∧ t.dev.raw R.CFG_CRC_REF.CRC.ofs = s.dev.cfgCrc ∧
      t.dev.cfg.refValid = true ∧ t.dev.cfg.matching = true ∧ t.dev.cfg.committing = false ∧
      t.dev.flag R.CFG_EVT.COMMIT_DONE = true)

/-- Parts of R494, R495, R499, R505, R508: reads, what they clear and what they latch. -/
def Obligations.RegisterReads : Prop :=
  (∀ (src : Src) (page : Nat) (s : State), s.dev.awake = true → page < 0x400000 → page % 0x1000 = 0 →
    s.dev.accessCause (page + 0xC) = none →
    ∃ t, exec (.evtRead src page) s = .next t ∧ t.dev.drove s.dev (.regVal src (s.dev.raw (page + 0xC))) ∧
      ∀ b, b < 32 → (t.dev.raw (page + 0xC)).getLsbD b =
        ((s.dev.raw (page + 0xC)).getLsbD b && !clearsOnRead (page + 0xC) b)) ∧
  (∀ (src : Src) (ofs : Nat) (s : State), s.dev.awake = true → ofs < 0x400000 → ofs % 4 = 0 →
    s.dev.accessCause ofs = none → isMsix ofs = false → queOf ofs = none → ioOf ofs = none → halfAt ofs = .no →
    ∃ t, exec (.rcRead src ofs) s = .next t ∧ t.dev.drove s.dev (.regVal src (s.dev.regValue ofs)) ∧
      ∀ b, b < 32 → (t.dev.raw ofs).getLsbD b = ((s.dev.raw ofs).getLsbD b && !clearsOnRead ofs b)) ∧
  (∀ (src : Src) (ofs : Nat) (s : State), s.dev.awake = true → ofs < 0x400000 → ofs % 4 = 0 →
    s.dev.accessCause ofs = none → isMsix ofs = false → queOf ofs = none → ioOf ofs = none → halfAt ofs = .lo →
    ∃ t, exec (.loRead src ofs) s = .next t ∧ t.dev.drove s.dev (.regVal src (s.dev.regValue ofs)) ∧
      (t.dev.acc src).shadow = some (ofs, s.dev.regValue (ofs + 4)) ∧ t.dev.regs = s.dev.regs) ∧
  (∀ (src : Src) (ofs size c : Nat) (s : State), s.dev.awake = true →
    (if inAliases ofs && Nat.ble size 8 then s.dev.aliasCause ofs size else sizeCause false ofs size) = some c →
    ∃ t, exec (.readBusError src ofs size) s = .next t ∧ t.dev.drove s.dev (.busErr src c) ∧
      t.dev.regs = (s.dev.busErr src ofs false c).regs) ∧
  (∀ (src : Src) (ofs c : Nat) (s : State), s.dev.awake = true → sizeCause false ofs 4 = none → isMsix ofs = false →
    s.dev.accessCause ofs = some c →
    ∃ t, exec (.readBusError src ofs 4) s = .next t ∧ t.dev.drove s.dev (.busErr src c) ∧
      t.dev.regs = (s.dev.busErr src ofs false c).regs) ∧
  (∀ (src : Src) (ofs : Nat) (w : Bool) (p : PageKind) (n : Nat) (s : State), s.dev.awake = true →
    pageAt ofs = some (p, n) →
    ∃ t, exec (.watchdogTimeout src ofs w) s = .next t ∧
      t.dev.drove s.dev (.busErr src (if s.dev.domOn (pageDomain p) then 9 else 8)) ∧
      t.dev.regs = (s.dev.busErr src ofs w (if s.dev.domOn (pageDomain p) then 9 else 8)).regs)

/-- Parts of R503 to R506: pairs and bit aliases. -/
def Obligations.PairsAndAliases : Prop :=
  (∀ (src : Src) (ofs : Nat) (v : Word) (s : State), s.dev.awake = true → ofs < 0x400000 → ofs % 4 = 0 →
    s.dev.writeCause ofs v = none → halfAt ofs = .hi →
    ∃ t, exec (.hiWrite src ofs v) s = .next t ∧ (t.dev.acc src).staged = some (ofs - 4, v) ∧
      t.dev.regs = s.dev.regs) ∧
  (∀ (src : Src) (ofs : Nat) (v w : Word) (s : State), s.dev.awake = true → ofs < 0x400000 → ofs % 4 = 0 →
    s.dev.writeCause ofs v = none → halfAt ofs = .lo → apdOf ofs = none → (s.dev.acc src).staged = some (ofs, w) →
    ∃ t, exec (.loWrite src ofs v) s = .next t ∧ (t.dev.acc src).staged = none ∧
      ∀ b, b < 32 → (takesBit ofs b = true → (t.dev.raw ofs).getLsbD b = v.getLsbD b) ∧
        (takesBit (ofs + 4) b = true → (t.dev.raw (ofs + 4)).getLsbD b = w.getLsbD b)) ∧
  (∀ (src : Src) (ofs size : Nat) (s : State), s.dev.awake = true → s.dev.aliasCause ofs size = none →
    queOf (aliasOf ofs).1 = none → ioOf (aliasOf ofs).1 = none →
    ∃ t, exec (.aliasRead src ofs size) s = .next t ∧
      t.dev.drove s.dev (.regVal src (if (s.dev.regValue (aliasOf ofs).1).getLsbD (aliasOf ofs).2 then 1 else 0)) ∧
      t.dev.acc src = s.dev.acc src ∧
      ((s.dev.regValue (aliasOf ofs).1).getLsbD (aliasOf ofs).2 = true →
        clearsOnRead (aliasOf ofs).1 (aliasOf ofs).2 = true →
        (t.dev.raw (aliasOf ofs).1).getLsbD (aliasOf ofs).2 = false)) ∧
  (∀ (src : Src) (ofs size : Nat) (v : Word) (s : State), s.dev.awake = true →
    s.dev.aliasWriteCause ofs size (v.getLsbD 0) = none → apdOf (aliasOf ofs).1 = none →
    takesBit (aliasOf ofs).1 (aliasOf ofs).2 = true →
    s.dev.writeCause (aliasOf ofs).1 (s.dev.aliasWord (aliasOf ofs).1 (aliasOf ofs).2 (v.getLsbD 0)) = none →
    s.dev.startsNothing src (aliasOf ofs).1 (s.dev.aliasWord (aliasOf ofs).1 (aliasOf ofs).2 (v.getLsbD 0)) = true →
    ∃ t, exec (.aliasWrite src ofs size v) s = .next t ∧ t.dev.drove s.dev (.regOk src) ∧
      (t.dev.raw (aliasOf ofs).1).getLsbD (aliasOf ofs).2 = v.getLsbD 0) ∧
  (∀ (src : Src) (ofs size c : Nat) (v : Word) (s : State), s.dev.awake = true →
    s.dev.aliasWriteCause ofs size (v.getLsbD 0) = some c →
    ∃ t, exec (.aliasWrite src ofs size v) s = .next t ∧ t.dev.drove s.dev (.busErr src c) ∧
      t.dev.regs = (s.dev.busErr src ofs true c).regs)

/-! ## Events, queues and the performance monitor -/

/-- Parts of R525 to R530: messages and event frames. -/
def Obligations.EventMessages : Prop :=
  (∀ (src : Src) (word : Nat) (mask : Word) (s : State), word < 2 →
    s.dev.reaches (R.EVC_REARM0.REARM.ofs + 4 * word) = true →
    ∃ t, exec (.evcRearm src word mask) s = .next t ∧
      ∀ b, b < 32 → mask.getLsbD b = true → t.dev.evc.armed.getLsbD (32 * word + b) = true ∨
        t.dev.hst.pba.getLsbD (32 * word + b) = true ∨ t.dev.drove s.dev (.msix (32 * word + b))) ∧
  (∀ s : State, s.dev.awake = true → s.dev.domOn 20 = true →
    ∃ t, exec .pbaRelease s = .next t ∧ t.dev.hst.up = true ∧ t.dev.hst.busMaster = true ∧ t.dev.hst.fmask = false ∧
      ∀ v, v < 64 → s.dev.hst.pba.getLsbD v = true → (s.dev.msixEnt v).masked = false →
        t.dev.hst.pba.getLsbD v = false ∧ (s.dev.conditions.testBit v = true → t.dev.drove s.dev (.msix v))) ∧
  (∀ (w : Nat) (s : State), s.dev.awake = true → s.dev.inFlight (isEvt w) = false → s.dev.addr ≠ 0 →
    s.dev.chn.head = false →
    ∃ t, exec (.evtFrameSend w) s = .next t ∧
      (w ∈ s.dev.evc.owed → t.dev.evc.owed = s.dev.evc.owed.erase w ∧ t.dev.inFlight (isEvt w) = true ∧
        t.dev.drove s.dev (chainOut ⟨0, s.dev.addr, s.dev.chn.seq, false, .evt s.dev.addr w s.dev.gcr.mode.code
          s.dev.gcr.fault (BitVec.ofNat 32 (s.dev.wordBits w false))⟩)) ∧
      (w ∉ s.dev.evc.owed → s.dev.freshBits w ≠ 0 → t.dev.inFlight (isEvt w) = true ∧
        t.dev.drove s.dev (chainOut ⟨0, s.dev.addr, s.dev.chn.seq, false, .evt s.dev.addr w s.dev.gcr.mode.code
          s.dev.gcr.fault (BitVec.ofNat 32 (s.dev.pend w))⟩))) ∧
  (∀ s : State, s.dev.awake = true → s.dev.hst.up = true →
    ∃ t, exec .hstLinkDown s = .next t ∧ t.dev.hst.up = false ∧ t.dev.flag R.HST_EVT.LINK_DOWN = true)

/-- Parts of R532 to R536, R540: the software queues and the mailbox. -/
def Obligations.QueueCommands : Prop :=
  (∀ (src : Src) (n : Nat) (w : Word) (l : List Word) (s : State), s.dev.awake = true → n < 4 →
    s.dev.que.q.length = 5 → s.dev.unreachable (0xA104 + n * 0x20) = none → (s.dev.queue n).latch src = w :: l →
    ∃ t, exec (.queDataRead src n 4) s = .next t ∧ t.dev.drove s.dev (.regVal src w) ∧
      (t.dev.queue n).latch src = l ∧ (t.dev.queue n).recs = (s.dev.queue n).recs) ∧
  (∀ (src : Src) (n : Nat) (w : Word) (l : List Word) (rs : List (List Word)) (s : State), s.dev.awake = true → n < 4 →
    s.dev.que.q.length = 5 → s.dev.unreachable (0xA104 + n * 0x20) = none → (s.dev.queue n).latch src = [] →
    (s.dev.queue n).recs = (w :: l) :: rs →
    ∃ t, exec (.queDataRead src n 4) s = .next t ∧ t.dev.drove s.dev (.regVal src w) ∧
      (t.dev.queue n).latch src = l ∧ (t.dev.queue n).recs = rs) ∧
  (∀ (src : Src) (n : Nat) (s : State), s.dev.awake = true → n < 4 → s.dev.unreachable (0xA104 + n * 0x20) = none →
    (s.dev.queue n).latch src = [] → (s.dev.queue n).recs = [] →
    ∃ t, exec (.queDataRead src n 4) s = .next t ∧ t.dev.drove s.dev (.regVal src ((s.dev.queue n).last src)) ∧
      t.dev.flag (evUnderrun n) = true ∧ t.dev.flag (R.QUEn_STAT.UNDERRUN n) = true) ∧
  (∀ (src : Src) (n : Nat) (s : State), s.dev.reaches (R.QUEn_DROP.DROP n).ofs = true → n < 4 →
    s.dev.que.q.length = 5 →
    ∃ t, exec (.queDrop src n) s = .next t ∧ (t.dev.queue n).latch src = [] ∧
      (t.dev.queue n).recs = (s.dev.queue n).recs) ∧
  (∀ (src : Src) (s : State), s.dev.reaches (R.QUEn_DROP.DROP 4).ofs = true →
    ∃ t, exec (.queDrop src 4) s = .next t ∧ t.dev.mboHalf src = none ∧ t.dev.que.q = s.dev.que.q) ∧
  (∀ (src : Src) (v : Word) (s : State), s.dev.reaches (R.QUEn_DATA.DATA 4).ofs = true → s.dev.mboHalf src = none →
    ∃ t, exec (.mboWrite src v) s = .next t ∧ t.dev.mboHalf src = some v ∧ t.dev.que.q = s.dev.que.q) ∧
  (∀ (src : Src) (v w : Word) (s : State), s.dev.reaches (R.QUEn_DATA.DATA 4).ofs = true → s.dev.que.q.length = 5 →
    s.dev.mboHalf src = some w →
    ∃ t, exec (.mboWrite src v) s = .next t ∧ t.dev.mboHalf src = none ∧
      (if (s.dev.queue 4).recs.length < 256 then (t.dev.queue 4).recs = (s.dev.queue 4).recs ++
        [[w, v, BitVec.ofNat 32 (s.dev.get R.QUE_MBO_DST.DST)]]
       else (t.dev.queue 4).recs = (s.dev.queue 4).recs ∧ t.dev.flag (evOverflow 4) = true)) ∧
  (∀ (r : List Word) (s : State), s.dev.runs = true → s.dev.inFlight isMbx = false → s.dev.addr ≠ 0 →
    (s.dev.queue 4).recs.head? = some r → r.length = 3 →
    ∃ t, exec .mboSend s = .next t ∧ t.dev.inFlight isMbx = true ∧ (t.dev.queue 4).recs = (s.dev.queue 4).recs ∧
      t.dev.drove s.dev (chainOut ⟨(r.getD 2 0).toNat, s.dev.addr, s.dev.chn.seq, false, .mbx (r.getD 0 0) (r.getD 1 0)⟩))

/-- R485: a head that receives an ENUM it did not send raises HEAD_CONFLICT; it then acts as a member until its next reset:
no command but a reset makes it a head again, and a member takes its place in the next roll call. -/
def Obligations.StrayRollCallAtHead : Prop :=
  (∀ (m : ChainMsg) (crc : Nat) (count : Nat) (ovr : Bool) (s : State), s.dev.repeats = true → crc = m.crc →
    s.dev.awake = true →
    m.frame = .enum count ovr → s.dev.chn.head = true →
    ∃ t, exec (.enum m crc false) s = .next t ∧ t.dev.flag R.CHN_EVT.HEAD_CONFLICT = true ∧ t.dev.chn.head = false) ∧
  (∀ (c : Instr) (s t : State), exec c s = .next t → c.resets = false → s.dev.chn.head = false → t.dev.chn.head = false) ∧
  (∀ (m : ChainMsg) (crc : Nat) (count : Nat) (ovr own : Bool) (s : State), s.dev.repeats = true → crc = m.crc →
    s.dev.awake = true →
    m.frame = .enum count ovr → s.dev.chn.head = false → count < 63 →
    ∃ t, exec (.enum m crc own) s = .next t ∧ t.dev.chn.addr = count + 1 ∧
      t.dev.drove s.dev (chainOut { m with frame := .enum (count + 1) ovr }))

/-! ## Requests of agents -/

/-- Parts of R49, R50, R92, R106, R107, R110, R136: a request taken at an idle line whose header is not resident opens a
transaction of its type and the header's fetch begins; RdOwn snoops the exclusive holder with SnpOwn, and an Upgrade of
the only sharer is granted E at once. -/
def Obligations.RequestsOpenTransactions : Prop :=
  (∀ (h : Head) (id : Nat) (s : State), s.takesNow h .rdShared id = true → s.dev.headerAway (lineOf h.addr) = true →
    ∃ t, exec (.rdShared h) s = .next t ∧ t.dev.fetchesFor s.dev id .rdShared h) ∧
  (∀ (h : Head) (id : Nat) (s : State), s.takesNow h .rdFetch id = true → s.dev.headerAway (lineOf h.addr) = true →
    ∃ t, exec (.rdFetch h) s = .next t ∧ t.dev.fetchesFor s.dev id .rdFetch h) ∧
  (∀ (h : Head) (id : Nat) (s : State), s.takesNow h .rdOwn id = true → s.dev.headerAway (lineOf h.addr) = true →
    ∃ t, exec (.rdOwn h) s = .next t ∧ t.dev.fetchesFor s.dev id .rdOwn h) ∧
  (∀ (h : Head) (ch id : Nat) (s : State), s.takesNow h (.rdOnce ch) id = true →
    s.dev.headerAway (lineOf h.addr) = true →
    ∃ t, exec (.rdOnce h ch) s = .next t ∧ t.dev.fetchesFor s.dev id .rdOnce h) ∧
  (∀ (h : Head) (id : Nat) (s : State), s.takesNow h .upgrade id = true → s.dev.headerAway (lineOf h.addr) = true →
    ∃ t, exec (.upgrade h) s = .next t ∧ t.dev.fetchesFor s.dev id .upgrade h) ∧
  (∀ (h : Head) (ch id : Nat) (p : Payload) (s : State), s.takesNow h (.wrFull ch p) id = true →
    s.dev.headerAway (lineOf h.addr) = true →
    ∃ t, exec (.wrFull h ch p) s = .next t ∧ t.dev.fetchesFor s.dev id .wrFull h) ∧
  (∀ (h : Head) (ch id : Nat) (m : Mask) (p : Payload) (s : State), s.takesNow h (.wrPart ch m p) id = true →
    s.dev.headerAway (lineOf h.addr) = true →
    ∃ t, exec (.wrPart h ch m p) s = .next t ∧ t.dev.fetchesFor s.dev id .wrPart h) ∧
  (∀ (h : Head) (id q : Nat) (x : Header) (e : DirEnt) (s : State), s.takesNow h .rdOwn id = true →
    s.dev.header? (s.dev.setOf (lineOf h.addr)) = some x → s.dev.dirEnt (lineOf h.addr) = some e → e.st = .DX →
    holdersOf e.ptr = [q] → q ≠ h.port → q < 32 → s.dev.portDead q = false → s.dev.onHold (lineOf h.addr) q = false →
    ∃ t, exec (.rdOwn h) s = .next t ∧ t.dev.opened id .snooping .rdOwn h ∧
      t.dev.told s.dev q (.snp .own id (lineOf h.addr))) ∧
  (∀ (h : Head) (id : Nat) (x : Header) (e : DirEnt) (s : State), s.takesNow h .upgrade id = true →
    s.dev.header? (s.dev.setOf (lineOf h.addr)) = some x → s.dev.dirEnt (lineOf h.addr) = some e → e.st = .DS →
    e.ovf = false → holdersOf e.ptr = [h.port] →
    ∃ t, exec (.upgrade h) s = .next t ∧ t.dev.opened id .grantAck .upgrade h ∧
      t.dev.told s.dev h.port (.ack 0 h.tag .E id none) ∧
      (t.dev.dirEnt (lineOf h.addr)).map (fun y => (y.st, holdersOf y.ptr)) = some (.DX, [h.port]))

/-- Parts of R61, R62, R105 to R111: with the header resident and no holder recorded, a line that hits is read from its
way, and a full write that hits is stored there, dirty, and acknowledged. -/
def Obligations.HitsAreServed : Prop :=
  (∀ (h : Head) (id w : Nat) (x : Header) (s : State), s.takesNow h .rdShared id = true →
    s.dev.header? (s.dev.setOf (lineOf h.addr)) = some x → s.dev.servedHit x (lineOf h.addr) = some w →
    s.dev.pip.lost.getLsbD (w / 4) = false → s.dev.dirEnt (lineOf h.addr) = none →
    ∃ t, exec (.rdShared h) s = .next t ∧ t.dev.readsWay s.dev id w .rdShared h) ∧
  (∀ (h : Head) (id w : Nat) (x : Header) (s : State), s.takesNow h .rdFetch id = true →
    s.dev.header? (s.dev.setOf (lineOf h.addr)) = some x → s.dev.servedHit x (lineOf h.addr) = some w →
    s.dev.pip.lost.getLsbD (w / 4) = false → s.dev.dirEnt (lineOf h.addr) = none →
    ∃ t, exec (.rdFetch h) s = .next t ∧ t.dev.readsWay s.dev id w .rdFetch h) ∧
  (∀ (h : Head) (id w : Nat) (x : Header) (s : State), s.takesNow h .rdOwn id = true →
    s.dev.header? (s.dev.setOf (lineOf h.addr)) = some x → s.dev.servedHit x (lineOf h.addr) = some w →
    s.dev.pip.lost.getLsbD (w / 4) = false → s.dev.dirEnt (lineOf h.addr) = none →
    ∃ t, exec (.rdOwn h) s = .next t ∧ t.dev.readsWay s.dev id w .rdOwn h) ∧
  (∀ (h : Head) (ch id w : Nat) (x : Header) (s : State), s.takesNow h (.rdOnce ch) id = true →
    s.dev.header? (s.dev.setOf (lineOf h.addr)) = some x → s.dev.servedHit x (lineOf h.addr) = some w →
    s.dev.pip.lost.getLsbD (w / 4) = false → s.dev.dirEnt (lineOf h.addr) = none →
    ∃ t, exec (.rdOnce h ch) s = .next t ∧ t.dev.readsWay s.dev id w .rdOnce h) ∧
  (∀ (h : Head) (ch id w : Nat) (m : Mask) (p : Payload) (x : Header) (s : State),
    s.takesNow h (.wrPart ch m p) id = true →
    s.dev.header? (s.dev.setOf (lineOf h.addr)) = some x → s.dev.servedHit x (lineOf h.addr) = some w →
    s.dev.pip.lost.getLsbD (w / 4) = false → s.dev.dirEnt (lineOf h.addr) = none →
    ∃ t, exec (.wrPart h ch m p) s = .next t ∧ t.dev.readsWay s.dev id w .wrPart h) ∧
  (∀ (h : Head) (ch id w : Nat) (p : Payload) (x : Header) (s : State), s.takesNow h (.wrFull ch p) id = true →
    s.dev.header? (s.dev.setOf (lineOf h.addr)) = some x → s.dev.servedHit x (lineOf h.addr) = some w →
    s.dev.pip.lost.getLsbD (w / 4) = false → s.dev.dirEnt (lineOf h.addr) = none → s.dev.gcr.mode ≠ .drain →
    s.dev.ecc.armed = false → (s.dev.lane (s.dev.lineLoc (s.dev.setOf (lineOf h.addr)) w (lineOf h.addr % 8)).1).st ≠ 5 →
    s.dev.cnf.pool = [] →
    ∃ t, exec (.wrFull h ch p) s = .next t ∧ t.dev.ackedWrite s.dev id h ∧
      t.dev.burst (s.dev.lineLoc (s.dev.setOf (lineOf h.addr)) w (lineOf h.addr % 8)).1
        (s.dev.lineLoc (s.dev.setOf (lineOf h.addr)) w (lineOf h.addr % 8)).2 = encodeLine p.data p.psn ∧
      (t.dev.header? (s.dev.setOf (lineOf h.addr))).map (fun y => (y.way w).dty.getLsbD (lineOf h.addr % 8)) = some true)

/-- Parts of R92, R140 to R149: refusals, tickets, retries and their end. -/
def Obligations.TicketCommands : Prop :=
  (∀ (h : Head) (sub : Nat) (s : State), s.dev.plain = true → h.port < 32 → s.dev.slotFor h.port = true →
    s.dev.cnf.waiting.all (fun y => y.head.port != h.port) = true → s.first ⟨h, .rdShared, none⟩ = true →
    s.dev.refusal ⟨h, .rdShared, none⟩ = some sub →
    ∃ t, exec (.rdShared h) s = .next t ∧ t.dev.told s.dev h.port (.err 0 h.tag sub) ∧
      t.dev.cnf.txns = s.dev.cnf.txns) ∧
  (∀ (h : Head) (id : Nat) (s : State), s.dev.plain = true → h.port < 32 → s.dev.slotFor h.port = true →
    s.dev.cnf.waiting.all (fun y => y.head.port != h.port) = true → s.first ⟨h, .rdShared, none⟩ = true →
    s.dev.refusal ⟨h, .rdShared, none⟩ = none →
    s.dev.resentRequest (s.dev.txnOf ⟨h, .rdShared, none⟩) = none → s.dev.generalId = some id →
    8 ≤ (s.dev.queueOf (lineOf h.addr)).length → s.dev.rsvUsed < 512 →
    ∃ t, exec (.rdShared h) s = .next t ∧ t.dev.cnf.txns = s.dev.cnf.txns ∧
      t.dev.cnf.tickets = s.dev.cnf.tickets ++ [⟨s.dev.cnf.nextTkt, h.port, h.tag, lineOf h.addr, false⟩] ∧
      t.dev.cnf.nextTkt = (s.dev.cnf.nextTkt + 1) % 65536 ∧
      t.dev.told s.dev h.port (.stby 0 h.tag s.dev.cnf.nextTkt)) ∧
  (∀ (h : Head) (tkt id : Nat) (b : Body) (x : Ticket) (s : State), s.dev.plain = true → h.port < 32 →
    s.dev.slotFor h.port = true → s.dev.cnf.waiting.all (fun y => y.head.port != h.port) = true → b.kind ≠ .append →
    s.first ⟨h, b, some tkt⟩ = true → s.dev.refusal ⟨h, b, some tkt⟩ = none →
    s.dev.resentRequest (s.dev.txnOf ⟨h, b, some tkt⟩) = none →
    s.dev.ticketOf ⟨h, b, some tkt⟩ (s.dev.txnOf ⟨h, b, some tkt⟩) = some x → s.dev.freeId 512 3584 = some id →
    s.dev.keyActive (lineOf h.addr) (lineOf h.addr) = true → (s.dev.queueOf (lineOf h.addr)).length < 8 →
    s.dev.standbyOf (lineOf h.addr) = [] →
    ∃ t, exec (.ticketRetry h tkt b) s = .next t ∧ t.dev.opened id .queued b.kind h ∧
      t.dev.cnf.tickets = s.dev.cnf.tickets.filter (fun y => y.num != x.num)) ∧
  (∀ (tkt : Nat) (x : Ticket) (s : State), s.dev.runs = true →
    s.dev.cnf.tickets.find? (fun y => y.num == tkt) = some x →
    s.dev.ticketLive x = true → s.dev.retryWaits tkt = false →
    ∃ t, exec (.stbyExpired tkt) s = .next t ∧ t.dev.flag R.CNF_EVT.STBY_EXPIRED = true ∧
      t.dev.cnf.tickets = s.dev.cnf.tickets.filter (fun y => y.num != tkt) ∧ t.dev.cnf.txns = s.dev.cnf.txns) ∧
  (∀ (port : Nat) (r : Req) (s : State), s.dev.runs = true → s.dev.rsvUsed < 512 → s.dev.slotFor port = true →
    s.dev.cnf.waiting.find? (fun y => y.head.port == port) = some r →
    ∃ t, exec (.reservationFreed port) s = .next t ∧
      t.dev.cnf.waiting = dropFirst (fun y => y == r) s.dev.cnf.waiting) ∧
  (∀ (h : Head) (s : State), s.dev.runs = true → s.dev.twn.mirror = false → s.dev.slotFor h.port = false →
    ∃ t, exec (.rdShared h) s = .next t ∧
      t.dev.cnf = { s.dev.cnf with waiting := s.dev.cnf.waiting ++ [⟨h, .rdShared, none⟩] } ∧ t.dev.dir = s.dev.dir)

/-! ## Answers to snoops, grants and write-backs -/

/-- Parts of R66, R110 to R119, R155: what an answer to a snoop does, and what a WrBack does: of the recorded holder, a
stray one, and one without a credit. -/
def Obligations.SnoopAndWriteBackAnswers : Prop :=
  (∀ (port txid q : Nat) (p : Payload) (x : Txn) (s : State), s.dev.plain = true → s.dev.awaiting port txid = some x →
    x.kind = .rdOwn → x.phase = .snooping → x.victim = none → x.await = [(port, .own)] → x.held = [] → x.wbFrom = [] →
    x.grant = .I → x.org = .agent q → q < 32 → s.dev.portDead q = false → s.dev.twn.unsent = [] →
    s.dev.hdrBlocked (s.dev.setOf x.line) = none → (s.dev.header? (s.dev.setOf x.line)).isSome = true →
    ∃ t, exec (.snpData port txid true .I p) s = .next t ∧ t.dev.told s.dev q (.data 0 x.tag x.line .D txid p) ∧
      (t.dev.txn? txid).map (fun y => (y.phase, y.grant)) = some (.grantAck, .D)) ∧
  (∀ (port txid : Nat) (x : Txn) (s : State), s.dev.runs = true → s.dev.twn.mirror = false → s.dev.gcr.role ≠ .manager →
    s.dev.awaiting port txid = some x → (port, Snoop.inv) ∈ x.await.head?.toList → 1 < x.await.length →
    ∃ t, exec (.ackaSnoop port txid) s = .next t ∧ (t.dev.txn? txid).map (·.await) = some x.await.tail ∧
      (t.dev.dirEnt x.snooped).all (fun e => !e.records port) = true) ∧
  (∀ (port txid : Nat) (x : Txn) (s : State), s.dev.runs = true → s.dev.twn.mirror = false → s.dev.gcr.role ≠ .manager →
    s.dev.awaiting port txid = some x → (port, Snoop.own) ∈ x.await.head?.toList → 1 < x.await.length →
    ∃ t, exec (.miss port txid false) s = .next t ∧ (t.dev.txn? txid).map (·.await) = some x.await.tail ∧
      (t.dev.dirEnt x.snooped).all (fun e => !e.records port) = true) ∧
  (∀ (port txid : Nat) (s : State), s.dev.runs = true → s.dev.twn.mirror = false → port < 32 →
    s.dev.awaiting port txid = none → s.dev.portDead port = false →
    ∃ t, exec (.ackaSnoop port txid) s = .next t ∧ t.dev.flag (R.APnn_EVT.PROTO_ERR port) = true ∧
      t.dev.cnf = s.dev.cnf ∧ t.dev.dir = s.dev.dir) ∧
  (∀ (h : Head) (p : Payload) (s : State), s.dev.plain = true → h.port < 32 → (s.dev.port h.port).lacks 4 = false →
    s.dev.wbAsleep = false → s.dev.wrBackServed h = true →
    s.dev.resentRequest { s.dev.txnOf ⟨h, .rdShared, none⟩ with kind := .wrBack } = none → s.dev.ownsLine h = true →
    s.dev.cnf.txns.all (fun x => x.line != lineOf h.addr && x.snooped != lineOf h.addr) = true →
    ∃ t, exec (.wrBack h p) s = .next t ∧ t.dev.told s.dev h.port (.ack 0 h.tag .I 0 none) ∧
      (t.dev.dirEnt (lineOf h.addr)).all (fun e => !e.records h.port) = true) ∧
  (∀ (h : Head) (p : Payload) (s : State), s.dev.plain = true → h.port < 32 → (s.dev.port h.port).lacks 4 = false →
    s.dev.wbAsleep = false → s.dev.wrBackServed h = true →
    s.dev.resentRequest { s.dev.txnOf ⟨h, .rdShared, none⟩ with kind := .wrBack } = none → s.dev.ownsLine h = false →
    ∃ t, exec (.wrBack h p) s = .next t ∧ t.dev.told s.dev h.port (.ack 0 h.tag .I 0 none) ∧
      t.dev.flag R.DIR_EVT.WB_STRAY = true ∧ t.dev.wbf = s.dev.wbf ∧ t.dev.dir = s.dev.dir ∧
      t.dev.store = s.dev.store ∧ t.dev.hdc = s.dev.hdc) ∧
  (∀ (h : Head) (p : Payload) (s : State), s.dev.runs = true → s.dev.twn.mirror = false → h.port < 32 →
    (s.dev.port h.port).lacks 4 = true → s.dev.portDead h.port = false →
    ∃ t, exec (.wrBack h p) s = .next t ∧ t.dev.flag (R.APnn_EVT.PROTO_ERR h.port) = true ∧
      t.dev.wbf = s.dev.wbf ∧ t.dev.dir = s.dev.dir)

/-- Parts of R93, R129, R134, R136, R150, R151: activation, grant Acks, holds, response timeouts and retirement. -/
def Obligations.TransactionCommands : Prop :=
  (∀ (port txid : Nat) (x : Txn) (s : State), s.dev.runs = true → s.dev.twn.mirror = false →
    s.dev.txn? txid = some x → x.phase = .grantAck → x.port = port → s.dev.cnf.pool = [] →
    ∃ t, exec (.ackaGrant port txid) s = .next t ∧ t.dev.txn? txid = none ∧
      (x.grant = .E ∨ x.grant = .D → s.dev.get R.CNF_BERTH.BERTH ≠ 0 →
        t.dev.onHold (s.dev.key x.line) port = true) ∧
      (x.grant ≠ .E → x.grant ≠ .D → t.dev.cnf.holds = s.dev.cnf.holds)) ∧
  (∀ (txid : Nat) (x : Txn) (s : State), s.dev.runs = true → s.dev.twn.mirror = false → s.dev.txn? txid = some x →
    x.phase = .queued → x.ofManager = false → ((s.dev.queueOf (s.dev.key x.line)).head?.map (·.id)) = some txid →
    s.dev.keyActive (s.dev.key x.line) x.line = false → s.dev.mustWait x = false → s.dev.cnf.pool = [] →
    ∃ t, exec (.transactionActivate txid none) s = .next t ∧
      (t.dev.txn? txid).all (fun y => y.phase != .queued) = true) ∧
  (∀ (key : Nat) (s : State), s.dev.runs = true → s.dev.cnf.holds.any (fun h => h.key == key && h.left == 0) = true →
    ∃ t, exec (.berthHoldEnd key) s = .next t ∧
      t.dev.cnf.holds = s.dev.cnf.holds.filter (fun h => !(h.key == key && h.left == 0))) ∧
  (∀ (port txid opc : Nat) (x : Txn) (s : State), s.dev.runs = true → s.dev.twn.mirror = false →
    s.dev.get R.DIR_CFG.RSP_TO ≠ 0 → s.dev.txn? txid = some x → s.dev.awaitedOpc x port = some opc → x.late = false →
    ∃ t, exec (.rspTimeout port txid) s = .next t ∧ t.dev.flag R.DIR_EVT.RSP_TIMEOUT = true ∧
      t.dev.txn? txid = some { x with late := true }) ∧
  (∀ (txid : Nat) (x : Txn) (s : State), s.dev.runs = true → s.dev.txn? txid = some x → x.phase = .done →
    x.kind ≠ .apdLine → s.dev.cnf.pool = [] →
    ∃ t, exec (.transactionRetire txid) s = .next t ∧ t.dev.txn? txid = none)

/-! ## The external cache -/

/-- Parts of R45 to R52, R62, R110, R345: header fetches and flushes, and the lines read from a lane or from memory. -/
def Obligations.HeadersAndLines : Prop :=
  (∀ (set : Nat) (noise : Burst) (s : State), s.dev.runs = true → set ∈ s.dev.hdc.fetch →
    (s.dev.laneRead (headerLoc set).1 (headerLoc set).2 noise).1.out = .clean ∨
      (s.dev.laneRead (headerLoc set).1 (headerLoc set).2 noise).1.out = .corrected →
    s.dev.wbf.ents.all (fun e => e.bound) = true →
    ∃ t, exec (.headerFetchDone set noise) s = .next t ∧ (t.dev.header? set).isSome = true ∧
      t.dev.hdc.fetch.contains set = false ∧ t.dev.waitingOn set .waitHeader = []) ∧
  (∀ (set : Nat) (noise : Burst) (h : Header) (s : State), s.dev.runs = true → set ∈ s.dev.hdc.fetch →
    (s.dev.readHeader set noise).1 = some h → s.dev.wbf.ents.all (fun e => e.bound) = true →
    s.dev.waitingOn set .waitHeader = [] →
    ∃ t, exec (.headerFetchDone set noise) s = .next t ∧ t.dev.header? set = some h ∧
      t.dev.hdc.fetch = s.dev.hdc.fetch.filter (· != set) ∧ t.dev.cnf.txns = s.dev.cnf.txns ∧ t.dev.dir = s.dev.dir) ∧
  (∀ (set : Nat) (noise : Burst) (s : State), s.dev.runs = true → set ∈ s.dev.hdc.fetch →
    s.dev.gcr.mode.serving = true → (s.dev.laneRead (headerLoc set).1 (headerLoc set).2 noise).1.out ≠ .clean →
    (s.dev.laneRead (headerLoc set).1 (headerLoc set).2 noise).1.out ≠ .corrected →
    ∃ t, exec (.headerFetchDone set noise) s = .next t ∧ t.dev.flag R.PIP_EVT.HDR_QUAR = true ∧
      (if s.dev.pip.quar.length < 64 then t.dev.pip.quar = s.dev.pip.quar ++ [set]
       else t.dev.gcr.mode = .recovery ∧ t.dev.pip.quar = s.dev.pip.quar)) ∧
  (∀ (txid : Nat) (x : Txn) (s : State), s.dev.runs = true → s.dev.txn? txid = some x → x.phase = .waitUnpin →
    s.dev.gcr.mode ≠ .train → s.dev.hdrBlocked (s.dev.setOf x.line) = none → s.dev.headerAway x.line = true →
    ∃ t, exec (.headerWaitUnpin txid) s = .next t ∧ (t.dev.txn? txid).map (·.phase) = some .waitHeader ∧
      s.dev.setOf x.line ∈ t.dev.hdc.fetch ∧
      t.dev.drove s.dev (s.dev.laneRdOut (headerLoc (s.dev.setOf x.line)))) ∧
  (∀ (src : Src) (s : State), s.dev.reaches R.HDC_FLUSH.FLUSH.ofs = true → s.dev.hdc.flushing = false →
    ∃ t, exec (.hdcFlush src) s = .next t ∧ t.dev.hdc.flushing = true ∧ t.dev.hdc.fetch = s.dev.hdc.fetch ∧
      (t.dev.hdc.ents.all (fun e => !e.changed)) = true) ∧
  (∀ s : State, s.dev.runs = true → s.dev.hdc.flushing = true →
    ∃ t, exec .flushDone s = .next t ∧ t.dev.hdc.flushing = false ∧ t.dev.flag R.HDC_EVT.FLUSH_DONE = true ∧
      t.dev.hdc.fetch = s.dev.hdc.fetch ∧ t.dev.store = s.dev.store) ∧
  (∀ (src : Src) (s : State), s.dev.reaches R.PIP_QUAR_CLR.CLR.ofs = true →
    ∃ t, exec (.pipQuarClr src) s = .next t ∧ t.dev.pip.quar = s.dev.pip.quar.drop 1) ∧
  (∀ (txid q : Nat) (noise : Burst) (x : Txn) (s : State), s.dev.plain = true → s.dev.txn? txid = some x →
    x.phase = .readLane → x.kind = .rdOnce → x.grant = .I → x.org = .agent q → q < 32 → s.dev.cnf.pool = [] →
    s.dev.pip.lost = 0 → (s.dev.lane (s.dev.lineLoc (s.dev.setOf x.snooped) (x.way.getD 0) (x.snooped % 8)).1).st ≠ 5 →
    (s.dev.laneRead (s.dev.lineLoc (s.dev.setOf x.snooped) (x.way.getD 0) (x.snooped % 8)).1
      (s.dev.lineLoc (s.dev.setOf x.snooped) (x.way.getD 0) (x.snooped % 8)).2 noise).1.payload.psn = false →
    ∃ t, exec (.lineReadDone txid noise none) s = .next t ∧ t.dev.txn? txid = none ∧
      t.dev.told s.dev q (.data 0 x.tag x.line .I txid
        (s.dev.laneRead (s.dev.lineLoc (s.dev.setOf x.snooped) (x.way.getD 0) (x.snooped % 8)).1
          (s.dev.lineLoc (s.dev.setOf x.snooped) (x.way.getD 0) (x.snooped % 8)).2 noise).1.payload)) ∧
  (∀ (txid q : Nat) (noise : Burst) (x : Txn) (s : State), s.dev.plain = true → s.dev.txn? txid = some x →
    x.phase = .readLane → x.kind = .rdShared ∨ x.kind = .rdFetch ∨ x.kind = .rdOwn → x.grant = .I → x.org = .agent q →
    q < 32 → s.dev.portDead q = false → s.dev.pip.lost = 0 →
    (s.dev.lane (s.dev.lineLoc (s.dev.setOf x.snooped) (x.way.getD 0) (x.snooped % 8)).1).st ≠ 5 →
    (s.dev.laneRead (s.dev.lineLoc (s.dev.setOf x.snooped) (x.way.getD 0) (x.snooped % 8)).1
      (s.dev.lineLoc (s.dev.setOf x.snooped) (x.way.getD 0) (x.snooped % 8)).2 noise).1.payload.psn = false →
    ∃ t, exec (.lineReadDone txid noise none) s = .next t ∧
      t.dev.told s.dev q (.data 0 x.tag x.line (s.dev.grantOf x) txid
        (s.dev.laneRead (s.dev.lineLoc (s.dev.setOf x.snooped) (x.way.getD 0) (x.snooped % 8)).1
          (s.dev.lineLoc (s.dev.setOf x.snooped) (x.way.getD 0) (x.snooped % 8)).2 noise).1.payload) ∧
      (t.dev.txn? txid).map (fun y => (y.phase, y.grant)) = some (.grantAck, s.dev.grantOf x)) ∧
  (∀ (line q loads : Nat) (w : LineData) (x : Txn) (s : State), s.dev.plain = true →
    line ∈ (s.dev.mp (s.dev.memLoc (line * 128)).1).reads → (s.dev.mp (s.dev.memLoc (line * 128)).1).st = 3 →
    s.dev.mps.length = 8 → s.dev.sdrAwaited.all (fun k => s.dev.sdrMem (sdrLine k) != line) = true →
    s.dev.cnf.txns.find? (fun y => y.phase == .readMem && y.snooped == line) = some x → s.dev.txn? x.id = some x →
    x.kind = .rdShared ∨ x.kind = .rdFetch ∨ x.kind = .rdOwn → x.grant = .I → x.org = .agent q → q < 32 →
    s.dev.portDead q = false →
    ∃ t, exec (.memReadDone line (.data w false false) loads) s = .next t ∧
      t.dev.told s.dev q (.data 0 x.tag x.line (s.dev.grantOf x) x.id ⟨w, false⟩) ∧
      (t.dev.txn? x.id).map (fun y => (y.phase, y.grant)) = some (.grantAck, s.dev.grantOf x)) ∧
  (∀ (line q loads : Nat) (w : LineData) (x : Txn) (s : State), s.dev.plain = true →
    line ∈ (s.dev.mp (s.dev.memLoc (line * 128)).1).reads → (s.dev.mp (s.dev.memLoc (line * 128)).1).st = 3 →
    s.dev.mps.length = 8 → s.dev.sdrAwaited.all (fun k => s.dev.sdrMem (sdrLine k) != line) = true →
    s.dev.cnf.txns.find? (fun y => y.phase == .readMem && y.snooped == line) = some x →
    x.kind = .rdOnce → x.grant = .I → x.org = .agent q → q < 32 → s.dev.cnf.pool = [] →
    ∃ t, exec (.memReadDone line (.data w false false) loads) s = .next t ∧ t.dev.txn? x.id = none ∧
      t.dev.told s.dev q (.data 0 x.tag x.line .I x.id ⟨w, false⟩)) ∧
  (∀ (line loads : Nat) (s : State), s.dev.runs = true →
    line ∈ (s.dev.mp (s.dev.memLoc (line * 128)).1).reads →
    ∃ t, exec (.memReadDone line .error loads) s = .next t ∧ t.dev.flag R.ECC_EVT.MEM_RD_ERR = true)

/-- Parts of R67 to R71, R568: the write buffer's entries leave, are acknowledged or fail. -/
def Obligations.WriteBufferCommands : Prop :=
  (∀ (line loads : Nat) (e : WbEnt) (s : State), s.dev.runs = true → s.dev.issuedOf line = some e →
    (s.dev.wbf.ents.filter (fun y => y.num == e.num)) = [e] →
    (s.dev.wbf.ents.all (fun y => y.num < s.dev.wbf.next)) = true →
    ∃ t, exec (.nextLevelWriteAck line loads) s = .next t ∧ (t.dev.wbf.ents.all (fun y => y.num != e.num)) = true) ∧
  (∀ (line loads k : Nat) (s : State), s.dev.runs = true → s.dev.issuedOf line = none → s.dev.sdr.flight = [k] →
    s.dev.sdrMem k = line → s.dev.sdrLines ≤ s.dev.sdr.prog →
    ∃ t, exec (.nextLevelWriteAck line loads) s = .next t ∧ t.dev.sdr = { s.dev.sdr with flight := [] } ∧
      t.dev.wbf = s.dev.wbf ∧ t.dev.cnf = s.dev.cnf ∧ t.dev.dir = s.dev.dir) ∧
  (∀ (line : Nat) (e : WbEnt) (s : State), s.dev.runs = true → s.dev.issuedOf line = some e →
    (s.dev.wbf.ents.filter (fun y => y.num == e.num)) = [e] →
    (s.dev.wbf.ents.all (fun y => y.num < s.dev.wbf.next)) = true →
    ∃ t, exec (.wrFail line) s = .next t ∧ (t.dev.wbf.ents.all (fun y => y.num != e.num)) = true ∧
      (s.dev.lineFailed line = false → s.dev.maintOf e = none → t.dev.flag R.WBF_EVT.WR_FAIL = true) ∧
      (s.dev.lineFailed line = true → t.dev.flag (R.MPn_EVT.WR_LOST (s.dev.memLoc (line * 128)).1) = true)) ∧
  (∀ (line : Nat) (s : State), s.dev.runs = true →
    ∃ t, exec (.combiningTimeout line) s = .next t ∧
      (t.dev.wbf.ents.all (fun e => e.go || !(e.line == line && e.bound &&
        decide (256 * s.dev.get R.WBF_CFG.COMB_TO ≤ e.age)))) = true ∧
      t.dev.dir = s.dev.dir ∧ t.dev.hdc = s.dev.hdc ∧ t.dev.store = s.dev.store) ∧
  (∀ (src : Src) (s : State), s.dev.reaches R.WBF_FLUSH.FLUSH.ofs = true →
    ∃ t, exec (.wbfFlush src) s = .next t ∧ (t.dev.wbf.ents.all (fun e => e.go || !e.bound)) = true ∧
      t.dev.dir = s.dev.dir ∧ t.dev.hdc = s.dev.hdc ∧ t.dev.store = s.dev.store) ∧
  (∀ (txid : Nat) (x : Txn) (h : Header) (s : State), s.dev.runs = true → s.dev.txn? txid = some x →
    x.phase = .waitCopy → (allocClass x.kind).isSome = true → s.dev.header? (s.dev.setOf x.line) = some h →
    s.dev.pip.copyWait.head? = some txid →
    s.dev.pip.lost.getLsbD (x.way.getD 0 / 4) = false →
    (dirtyLines (h.way (x.way.getD 0))).length ≤ s.dev.poolFree →
    (s.dev.hdc.ents.filter (fun e => e.set == s.dev.setOf x.line)).length = 1 →
    ∃ t, exec (.victimCopy txid) s = .next t ∧
      (t.dev.txn? txid).all (fun y => y.phase != .waitCopy) = true ∧
      ((dirtyLines (h.way (x.way.getD 0))).all (fun n => t.dev.wbf.ents.any (fun e => e.kind == .victim &&
        e.line == s.dev.lineAt (s.dev.setOf x.line) (h.way (x.way.getD 0)).tag.toNat n))) = true ∧
      (x.kind = .rdShared →
        (t.dev.header? (s.dev.setOf x.line)).map (fun y => (y.way (x.way.getD 0)).tag.toNat) = some (s.dev.tagOf x.line))) ∧
  (∀ (txid : Nat) (x : Txn) (h : Header) (w : Nat) (s : State), s.dev.plain = true → s.dev.txn? txid = some x →
    x.phase = .waitWay → x.kind = .rdShared → x.got = none → s.dev.view (s.dev.setOf x.line) = .ok h →
    s.dev.hitWay h x.line = none → s.dev.wayOf h x.line = none → s.dev.allocWith x.pol .read x.line = some false →
    s.dev.sectorWaits x.line txid x.ord (fun e => e.ord ≤ x.ord) = false →
    s.dev.victim (s.dev.setOf x.line) h = some w → (h.way w).occupied = false → (h.way w).v = 0 →
    s.dev.wbPartial x.line = false → s.dev.wbFull x.line = none → x.dirty = false →
    ∃ t, exec (.victimWaitEligible txid) s = .next t ∧
      (t.dev.txn? txid).map (fun y => (y.phase, y.way)) = some (.readMem, some w) ∧
      (s.dev.setOf x.line, w, txid) ∈ t.dev.pip.alloc)

/-- Parts of R131, R543 to R549: the directory and timetable probes, counters and samples. -/
def Obligations.ObservationCommands : Prop :=
  (∀ (src : Src) (s : State), s.dev.reaches R.DIR_PROBE_CTRL.GO.ofs = true → s.dev.pip.probe = false →
    ∃ t, exec (.dirProbeGo src) s = .next t ∧ t.dev.pip.probe = true ∧ t.dev.get R.DIR_PROBE_STAT.DONE = 0) ∧
  (∀ (e : DirEnt) (s : State), s.dev.runs = true → s.dev.pip.probe = true → s.dev.slotsLeft ≠ 0 →
    s.dev.dirEnt (s.dev.get64 R.DIR_PROBE_ADDR_LO.ADDR_LO.ofs / 128) = some e →
    ∃ t, exec .dirProbeDone s = .next t ∧ t.dev.pip.probe = false ∧ t.dev.get R.DIR_PROBE_STAT.DONE = 1 ∧
      t.dev.get R.DIR_PROBE_STAT.HIT = 1 ∧ t.dev.get64 R.DIR_PROBE_DATA_LO.DATA_LO.ofs = e.pack % 2 ^ 64) ∧
  (∀ s : State, s.dev.runs = true → s.dev.pip.probe = true → s.dev.slotsLeft ≠ 0 →
    s.dev.dirEnt (s.dev.get64 R.DIR_PROBE_ADDR_LO.ADDR_LO.ofs / 128) = none →
    ∃ t, exec .dirProbeDone s = .next t ∧ t.dev.pip.probe = false ∧ t.dev.get R.DIR_PROBE_STAT.DONE = 1 ∧
      t.dev.get R.DIR_PROBE_STAT.HIT = 0 ∧ t.dev.get64 R.DIR_PROBE_DATA_LO.DATA_LO.ofs = 0) ∧
  (∀ (src : Src) (e : Dep) (s : State), s.dev.reaches R.DEP_PROBE_CTRL.GO.ofs = true →
    s.dev.dep? (s.dev.get R.DEP_PROBE_IDX.IDX) = some e →
    ∃ t, exec (.depProbeGo src) s = .next t ∧ t.dev.get R.DEP_PROBE_STAT.DONE = 1 ∧
      t.dev.get R.DEP_PROBE_STAT.VALID = 1 ∧ t.dev.get64 R.DEP_PROBE_T_LO.T_LO.ofs = e.t.toNat ∧ t.dev.dep = s.dev.dep) ∧
  (∀ (src : Src) (s : State), s.dev.reaches R.DEP_PROBE_CTRL.GO.ofs = true →
    s.dev.dep? (s.dev.get R.DEP_PROBE_IDX.IDX) = none →
    ∃ t, exec (.depProbeGo src) s = .next t ∧ t.dev.get R.DEP_PROBE_STAT.DONE = 1 ∧
      t.dev.get R.DEP_PROBE_STAT.VALID = 0 ∧ t.dev.dep = s.dev.dep) ∧
  (∀ (src : Src) (s : State), s.dev.reaches R.PMU_GCTL.CLEAR.ofs = true →
    ∃ t, exec (.pmuClear src) s = .next t ∧ t.dev.pmu.wraps = [] ∧
      (∀ n, n < 64 → t.dev.get64 (R.PMU_CTRn_LO.CNT_LO n).ofs = 0) ∧
      (∀ n, n < 8 → t.dev.get64 (R.PMU_FIXf_LO.CNT_LO n).ofs = 0)) ∧
  (∀ (n : Nat) (s : State), s.dev.runs = true → n < 8 → (true, n) ∈ s.dev.pmu.wraps →
    ∃ t, exec (.counterWrap true n) s = .next t ∧ t.dev.flag R.PMU_EVT.FIX_OVF = true ∧
      t.dev.flag (bitRef R.PMU_FIX_STAT.OVF.ofs (if (s.dev.get R.PMU_FIX_CFG.SAT).testBit n then 8 + n else n)) = true) ∧
  (∀ (n : Nat) (s : State), s.dev.runs = true → n < 64 → (false, n) ∈ s.dev.pmu.wraps →
    ∃ t, exec (.counterWrap false n) s = .next t ∧
      t.dev.flag (bitRef ((if s.dev.flag (R.PMU_SELn.SAT n) then 0xC408 else 0xC400) + 4 * (n / 32)) (n % 32)) = true ∧
      (s.dev.flag (R.PMU_SELn.SAMPLE n) = true → s.dev.flag (R.PMU_SELn.SAT n) = false →
        t.dev.pmu.want = s.dev.pmu.want ++ [n])) ∧
  (∀ (skid n : Nat) (l : List Nat) (s : State), s.dev.runs = true → s.dev.pmu.want = n :: l → n < 64 → skid < 128 →
    ∃ t, exec (.sample skid) s = .next t ∧ t.dev.pmu.want = l ∧
      (if s.dev.flag R.PMU_SMP_STAT.VALID = true then t.dev.flag R.PMU_EVT.SMP_LOST = true
       else t.dev.flag R.PMU_SMP_STAT.VALID = true ∧ t.dev.get R.PMU_SMP_STAT.CTR = n ∧
        t.dev.get R.PMU_SMP_STAT.SKID = skid ∧ t.dev.flag R.PMU_EVT.SAMPLE = true ∧
        t.dev.get64 R.PMU_SMP_TIME_LO.TIME_LO.ofs = s.dev.bel.now.toNat ∧
        (s.dev.flag R.PMU_GCTL.FRZ_SMP = true → t.dev.flag R.PMU_GCTL.FREEZE = true))) ∧
  (∀ (src : Src) (s : State), s.dev.reaches R.PMU_SMP_CTRL.DONE.ofs = true →
    ∃ t, exec (.pmuSmpDone src) s = .next t ∧ t.dev.flag R.PMU_SMP_STAT.VALID = false) ∧
  (∀ s : State, s.dev.runs = true → s.dev.switchBusy .core = false → s.dev.cnf.waiting = [] → s.dev.cnf.pool = [] →
    s.dev.dsc.filling = false → s.dev.cnf.txns.all (fun x => x.phase != .waitPlace) = true →
    s.dev.apd.streams.all (fun e => !e.2.closing) = true →
    ∃ t, exec .coreCycle s = .next t ∧ t.dev.cnf.ptr = (s.dev.cnf.ptr + 1) % 32 ∧ t.dev.cnf.took = [] ∧
    t.dev.cnf.used = 0 ∧
      t.dev.cnf.holds = s.dev.cnf.holds.map (fun h => { h with left := h.left - 1 }) ∧ t.dev.cnf.txns = s.dev.cnf.txns ∧
      t.dev.store = s.dev.store ∧ t.dev.dir = s.dev.dir ∧
      ((s.dev.get R.PMU_FIX_CFG.EN).testBit 0 = true → s.dev.flag R.PMU_GCTL.FREEZE = false →
        s.dev.get64 (R.PMU_FIXf_LO.CNT_LO 0).ofs < 2 ^ 64 - 1 →
        t.dev.get64 (R.PMU_FIXf_LO.CNT_LO 0).ofs = s.dev.get64 (R.PMU_FIXf_LO.CNT_LO 0).ofs + 1)) ∧
  (∀ s : State, s.dev.runs = true → s.dev.switchBusy .core = true →
    ∃ t, exec .coreCycle s = .next t ∧ t.dev.cnf.ptr = s.dev.cnf.ptr ∧ t.dev.cnf.txns = s.dev.cnf.txns ∧
      t.dev.cnf.waiting = s.dev.cnf.waiting ∧
      t.dev.cnf.holds = s.dev.cnf.holds.map (fun h => { h with left := h.left - 1 }))

/-! ## Way groups and range maintenance -/

/-- Parts of R72 to R76, R320: way-group power-down, its sweep, its stop, and the wake of a group. -/
def Obligations.WayGroupCommands : Prop :=
  (∀ (src : Src) (g : Nat) (s : State), s.dev.reaches R.PWR_WG_REQ.REQ.ofs = true → g < 4 →
    s.dev.dozeActive = false → s.dev.wgReq g = false →
    ∃ t, exec (.wayGroupPowerDown src g) s = .next t ∧
      (if s.dev.sweepRefused g then t.dev.flag R.PIP_EVT.SWEEP_REFUSED = true ∧ t.dev.pip = s.dev.pip
       else t.dev.pip.sweep = some ⟨g, 0, false⟩ ∧ t.dev.pip.lastGroup = g ∧ t.dev.wgReq g = true) ∧
      t.dev.store = s.dev.store ∧ t.dev.cnf = s.dev.cnf ∧ t.dev.wbf = s.dev.wbf ∧ t.dev.hdc = s.dev.hdc) ∧
  (∀ (w : Sweep) (h : Header) (s : State), s.dev.runs = true → s.dev.pip.sweep = some w → w.g < 4 →
    w.next < s.dev.sets → s.dev.hdrBlocked w.next = none → s.dev.header? w.next = some h →
    h.wgOff.getLsbD w.g = false → s.dev.setInUse w.next h (fun k => k / 4 == w.g) = false →
    dirtyIn h (fun k => k / 4 == w.g) ≤ s.dev.poolFree →
    ∃ t, exec .sweepSet s = .next t ∧ t.dev.pip.sweep = some { w with next := w.next + 1 } ∧
      (t.dev.header? w.next).map (fun y => y.wgOff.getLsbD w.g) = some true) ∧
  (∀ (w : Sweep) (s : State), s.dev.runs = true → s.dev.pip.sweep = some w → w.g < 4 → w.loss = false →
    s.dev.sweepOver w = true → s.dev.pip.lossWait = [] →
    ∃ t, exec .sweepDone s = .next t ∧ t.dev.pip.sweep = none ∧ t.dev.domOn (5 + w.g) = false ∧
      t.dev.flag R.PIP_EVT.SWEEP_DONE = true ∧ t.dev.wgReq w.g = true) ∧
  (∀ (w : Sweep) (s : State), s.dev.runs = true → s.dev.pip.sweep = some w → w.g < 4 → w.loss = true →
    s.dev.sweepOver w = true → s.dev.pip.lossWait = [] →
    ∃ t, exec .lossSweepDone s = .next t ∧ t.dev.pip.sweep = none ∧ t.dev.domOn (5 + w.g) = false ∧
      t.dev.flag R.PIP_EVT.SWEEP_DONE = true ∧ t.dev.pwr.railEn.getLsbD w.g = false ∧
      t.dev.drove s.dev (.pin (["DS_VR_EN0", "DS_VR_EN1", "DS_VR_EN2", "DS_VR_EN3"][w.g]?.getD "") false)) ∧
  (∀ (src : Src) (g : Nat) (w : Sweep) (s : State), s.dev.reaches R.PWR_WG_REQ.REQ.ofs = true → g < 4 →
    s.dev.dozeActive = false → s.dev.pip.sweep = some w → w.g = g → w.loss = false →
    ∃ t, exec (.sweepStop src g) s = .next t ∧ t.dev.pip.sweep = none ∧ t.dev.wgReq g = false ∧
      t.dev.hdc = s.dev.hdc ∧ t.dev.store = s.dev.store ∧ t.dev.pwr = s.dev.pwr) ∧
  (∀ (src : Src) (g : Nat) (s : State), s.dev.reaches R.PWR_WG_REQ.REQ.ofs = true → g < 4 →
    s.dev.dozeActive = false → s.dev.domOn (5 + g) = false → s.dev.wgReq g = true →
    ∃ t, exec (.wayGroupWake src g) s = .next t ∧ t.dev.wgReq g = false ∧
      (t.dev.hasToken 3 g = true ∨ (3, g) ∈ t.dev.pur.waiting))

/-- Parts of R78 to R84, R569: a maintenance pass starts, skips or issues its lines, and ends. -/
def Obligations.MaintenanceCommands : Prop :=
  (∀ (src : Src) (op : Nat) (s : State), s.dev.reaches R.PIP_MNT_CTRL.START.ofs = true → op < 4 →
    ∃ t, exec (.mntStart src op false) s = .next t ∧
      (if s.dev.mntRefused op then t.dev.flag R.PIP_EVT.MNT_REFUSED = true ∧ t.dev.pip = s.dev.pip
       else t.dev.pip.mnt = { busy := true, op := op, next := s.dev.get64 R.PIP_MNT_BASE_LO.BASE_LO.ofs / 128,
                              last := s.dev.get64 R.PIP_MNT_LIMIT_LO.LIMIT_LO.ofs / 128 }) ∧
      t.dev.get R.PIP_MNT_CTRL.OP = op ∧ t.dev.cnf = s.dev.cnf ∧ t.dev.store = s.dev.store) ∧
  (∀ (src : Src) (op : Nat) (s : State), s.dev.reaches R.PIP_MNT_CTRL.START.ofs = true → op < 4 →
    s.dev.mntRefused op = false →
    ∃ t, exec (.mntStart src op true) s = .next t ∧ t.dev.cnf = s.dev.cnf ∧
      t.dev.pip.mnt = { busy := true, op := op, whole := true, next := s.dev.get64 R.PIP_MNT_BASE_LO.BASE_LO.ofs / 128,
                        last := s.dev.get64 R.PIP_MNT_LIMIT_LO.LIMIT_LO.ofs / 128 }) ∧
  (∀ (src : Src) (s : State), s.dev.reaches R.PIP_MNT_CTRL.ABORT.ofs = true →
    ∃ t, exec (.mntAbort src) s = .next t ∧ t.dev.cnf = s.dev.cnf ∧
      t.dev.pip.mnt = (if s.dev.pip.mnt.busy then { s.dev.pip.mnt with aborting := true } else s.dev.pip.mnt)) ∧
  (∀ s : State, s.dev.runs = true → s.dev.pip.mnt.busy = true → s.dev.pip.mnt.aborting = false →
    s.dev.twn.mirror = false → s.dev.mntFlight ≤ s.dev.get R.PIP_MNT_CFG.DEPTH_M1 → s.dev.pip.mnt.whole = false →
    s.dev.pip.mnt.asked = none → s.dev.pip.mnt.next ≤ s.dev.pip.mnt.last →
    s.dev.gcr.role ≠ .manager ∨ s.dev.sdrCached (sdrLine (sectorOf s.dev.pip.mnt.next)) = true →
    (s.dev.mntActs s.dev.pip.mnt.next).1 = false →
    ∃ t, exec .mntLine s = .next t ∧ t.dev.pip.mnt = { s.dev.pip.mnt with next := s.dev.pip.mnt.next + 1 } ∧
      t.dev.cnf = s.dev.cnf) ∧
  (∀ (id : Nat) (s : State), s.dev.runs = true → s.dev.pip.mnt.busy = true → s.dev.pip.mnt.aborting = false →
    s.dev.twn.mirror = false → s.dev.mntFlight ≤ s.dev.get R.PIP_MNT_CFG.DEPTH_M1 → s.dev.pip.mnt.whole = false →
    s.dev.pip.mnt.asked = none → s.dev.pip.mnt.next ≤ s.dev.pip.mnt.last →
    s.dev.gcr.role ≠ .manager ∨ s.dev.sdrCached (sdrLine (sectorOf s.dev.pip.mnt.next)) = true →
    (s.dev.mntActs s.dev.pip.mnt.next).1 = true → s.dev.cnf.waiting = [] → s.dev.cnf.pool = [] →
    s.dev.probeSlot < s.dev.slotsLeft → s.dev.generalId = some id →
    s.dev.keyActive (s.dev.key s.dev.pip.mnt.next) s.dev.pip.mnt.next = true →
    (s.dev.queueOf (s.dev.key s.dev.pip.mnt.next)).length < 8 → s.dev.standbyOf (s.dev.key s.dev.pip.mnt.next) = [] →
    ∃ t, exec .mntLine s = .next t ∧ t.dev.pip.mnt.next = s.dev.pip.mnt.next + 1 ∧
      t.dev.pip.mnt.lines = min (2 ^ 32 - 1) (s.dev.pip.mnt.lines + 1) ∧
      (t.dev.txn? id).map (fun x => (x.kind, x.line, x.phase)) =
        some (.maint s.dev.pip.mnt.op, s.dev.pip.mnt.next, .queued)) ∧
  (∀ s : State, s.dev.runs = true → s.dev.pip.mnt.busy = true →
    s.dev.pip.mnt.aborting = true ∨ s.dev.pip.mnt.over = true → s.dev.mntFlight = 0 →
    ∃ t, exec .mntDone s = .next t ∧ t.dev.pip.mnt.busy = false ∧ t.dev.pip.mnt.aborted = s.dev.pip.mnt.aborting ∧
      t.dev.flag R.PIP_EVT.MNT_DONE = true ∧ t.dev.cnf = s.dev.cnf)

/-! ## The hierarchy -/

/-- Parts of R168 to R195, R248, R249: what a manager sends its worker. -/
def Obligations.ManagerMessages : Prop :=
  (∀ (uplink : Nat) (sn : Snoop) (mtxid addr id : Nat) (s : State), s.dev.worker = true →
    uplink = s.dev.hie.upl → s.dev.reserveId uplink = some id →
    s.dev.mgrBlocked { id := id, kind := .mgrSnoop sn, org := .manager uplink, line := lineOf addr, phase := .queued } =
      false →
    s.dev.hdrBlocked (s.dev.setOf (lineOf addr)) = none → (s.dev.header? (s.dev.setOf (lineOf addr))).isSome = true →
    s.dev.standing (lineOf addr) = .none → s.dev.cnf.pool = [] →
    s.dev.wbf.ents.all (fun e => sectorOf e.line != sectorOf (lineOf addr)) = true →
    ∃ t, exec (.managerSnoop uplink sn mtxid addr) s = .next t ∧ t.dev.txn? id = none ∧
      t.dev.told s.dev s.dev.uplink (.miss mtxid (lineOf addr) false false)) ∧
  (∀ (uplink : Nat) (sn : Snoop) (mtxid addr id : Nat) (s : State), s.dev.worker = true →
    uplink = s.dev.hie.upl → s.dev.reserveId uplink = some id →
    s.dev.mgrBlocked { id := id, kind := .mgrSnoop sn, org := .manager uplink, line := lineOf addr, phase := .queued } =
      true →
    ∃ t, exec (.managerSnoop uplink sn mtxid addr) s = .next t ∧
      (t.dev.txn? id).map (fun x => (x.kind, x.tag, x.line, x.phase)) = some (.mgrSnoop sn, mtxid, lineOf addr, .queued) ∧
      t.dev.dir = s.dev.dir ∧ t.dev.store = s.dev.store) ∧
  (∀ (uplink : Nat) (sn : Snoop) (mtxid addr : Nat) (s : State), s.dev.worker = true → uplink ≠ s.dev.hie.upl →
    ∃ t, exec (.managerSnoop uplink sn mtxid addr) s = .next t ∧ t.dev.cnf = s.dev.cnf ∧ t.dev.dir = s.dev.dir ∧
      t.dev.sent = s.dev.sent) ∧
  (∀ (uplink : Nat) (sn : Snoop) (mtxid addr : Nat) (s : State), s.dev.worker = true → uplink = s.dev.hie.upl →
    s.dev.reserveId uplink = none → s.dev.portDead (30 + uplink) = false →
    ∃ t, exec (.managerSnoop uplink sn mtxid addr) s = .next t ∧ t.dev.cnf = s.dev.cnf ∧ t.dev.dir = s.dev.dir ∧
      t.dev.flag (R.APnn_EVT.PROTO_ERR (30 + uplink)) = true) ∧
  (∀ (uplink idx addr id : Nat) (mask : BitVec 8) (s : State), s.dev.worker = true →
    uplink = s.dev.hie.upl → s.dev.reserveId uplink = some id →
    s.dev.mgrBlocked { id := id, kind := .depBoard, org := .manager uplink, line := lineOf addr, phase := .queued } =
      true →
    ∃ t, exec (.depBoard uplink idx addr mask) s = .next t ∧
      (t.dev.txn? id).map (fun x => (x.kind, x.aux, x.lines, x.phase)) =
        some (.depBoard, idx, maskedLines addr mask, .queued)) ∧
  (∀ (uplink idx addr id : Nat) (mask : BitVec 8) (s : State), s.dev.worker = true →
    uplink = s.dev.hie.upl → s.dev.reserveId uplink = some id →
    s.dev.mgrBlocked { id := id, kind := .depBoard, org := .manager uplink, line := lineOf addr, phase := .queued } =
      false →
    s.dev.hdrBlocked (s.dev.setOf (lineOf addr)) = none → (s.dev.header? (s.dev.setOf (lineOf addr))).isSome = true →
    s.dev.wbf.ents.all (fun e => sectorOf e.line != sectorOf (lineOf addr)) = true →
    s.dev.standing (lineOf addr / 8 * 8) = .none → mask ≠ 0 →
    ∃ t, exec (.depBoard uplink idx addr mask) s = .next t ∧
      (t.dev.txn? id).map (fun x => (x.kind, x.owed, x.phase)) = some (.depBoard, maskedLines addr mask, .waitAck) ∧
      ∀ l, l ∈ maskedLines addr mask → t.dev.told s.dev s.dev.uplink (.miss idx l false true)) ∧
  (∀ (uplink idx lidx l : Nat) (x : Txn) (s : State), s.dev.worker = true → s.dev.cnf.pool = [] →
    s.dev.depC? idx = none → s.dev.cnf.txns = [x] → x.kind = .depBoard → x.aux = idx → x.owed = [l] →
    uplink = s.dev.hie.upl →
    ∃ t, exec (.depAckAtWorker uplink idx lidx) s = .next t ∧ t.dev.txn? x.id = none)

/-- Parts of R169 to R178, R199: the manager's answers on a worker's uplink, and the loss of the active uplink. -/
def Obligations.UplinkCommands : Prop :=
  (∀ (uplink oport tag sub q : Nat) (x : Txn) (s : State), s.dev.worker = true →
    uplink = s.dev.hie.upl → s.dev.upTxn oport tag = some x →
    x.kind ≠ .apdLine → x.org = .agent q → q < 32 → s.dev.cnf.pool = [] →
    ∃ t, exec (.uplinkResponse uplink oport tag (.err sub)) s = .next t ∧ t.dev.txn? x.id = none ∧
      t.dev.told s.dev q (.err 0 x.tag sub)) ∧
  (∀ (uplink oport tag k : Nat) (u : Kind) (x : Txn) (s : State), s.dev.worker = true →
    uplink = s.dev.hie.upl → s.dev.upTxn oport tag = some x → s.dev.txn? x.id = some x → x.up = some u → u ≠ .append →
    ∃ t, exec (.uplinkResponse uplink oport tag (.stby k)) s = .next t ∧
      t.dev.txn? x.id = some { x with upTkt := some k } ∧ t.dev.dir = s.dev.dir ∧
      t.dev.told s.dev s.dev.uplink (.upReq s.dev.widx u (Txn.upTag x).1 (Txn.upTag x).2 x.upTph x.snooped x.ch x.mask
        x.pay (some k))) ∧
  (∀ (uplink oport tag txid q : Nat) (p : Payload) (x : Txn) (s : State), s.dev.worker = true →
    uplink = s.dev.hie.upl → s.dev.upTxn oport tag = some x → s.dev.txn? x.id = some x →
    x.kind = .rdOnce → x.org = .agent q → q < 32 → x.way = none → x.grant = .I → s.dev.cnf.pool = [] →
    ∃ t, exec (.uplinkResponse uplink oport tag (.data .I txid p)) s = .next t ∧ t.dev.txn? x.id = none ∧
      t.dev.told s.dev q (.data 0 x.tag x.line .I x.id p)) ∧
  (∀ (uplink oport tag : Nat) (ans : UpAns) (s : State), s.dev.worker = true → uplink ≠ s.dev.hie.upl →
    ∃ t, exec (.uplinkResponse uplink oport tag ans) s = .next t ∧ t.dev.cnf = s.dev.cnf ∧ t.dev.dir = s.dev.dir ∧
      t.dev.wbf = s.dev.wbf ∧ t.dev.sent = s.dev.sent) ∧
  (∀ (uplink oport tag : Nat) (ans : UpAns) (s : State), s.dev.worker = true → uplink = s.dev.hie.upl →
    s.dev.upTxn oport tag = none → s.dev.upEnt oport tag = none → s.dev.hie.fwd = [] →
    s.dev.portDead (30 + uplink) = false →
    ∃ t, exec (.uplinkResponse uplink oport tag ans) s = .next t ∧ t.dev.cnf = s.dev.cnf ∧
      t.dev.flag (R.APnn_EVT.PROTO_ERR (30 + uplink)) = true) ∧
  (∀ (uplink oport tag sub : Nat) (m : Msg) (s : State), s.dev.worker = true →
    uplink = s.dev.hie.upl → oport < 32 → s.dev.upTxn oport tag = none →
    s.dev.upEnt oport tag = none → s.dev.hie.fwd = [(oport, tag, m)] →
    ∃ t, exec (.uplinkResponse uplink oport tag (.err sub)) s = .next t ∧ t.dev.hie.fwd = [] ∧
      t.dev.told s.dev oport (.err 0 tag sub)) ∧
  (∀ s : State, s.dev.runs = true → s.dev.gcr.role = .worker →
    ∃ t, exec .uplinkDown s = .next t ∧ t.dev.flag R.HIE_EVT.UPLINK_DOWN = true ∧ t.dev.cnf = s.dev.cnf ∧
      t.dev.wbf = s.dev.wbf) ∧
  (∀ s : State, s.dev.runs = true → s.dev.sdr.clearing = true → s.dev.sdrLines ≤ s.dev.sdr.prog →
    s.dev.sdr.flight = [] → s.dev.twn.mirror = false →
    ∃ t, exec .sdrInitDone s = .next t ∧ t.dev.sdr.clearing = false ∧ t.dev.sdr.initDone = true ∧
      t.dev.sdr.prog = s.dev.sdr.prog ∧ t.dev.dir = s.dev.dir ∧ t.dev.flag R.SDR_EVT.INIT_DONE = true) ∧
  (∀ (port epoch : Nat) (s : State), s.dev.manager = true → port < 32 →
    ∃ t, exec (.takeoverDownlink port epoch) s = .next t ∧ t.dev.hie.serv.getLsbD (port / 2) = (port % 2 == 1) ∧
      port / 2 ∈ t.dev.twn.slotWin) ∧
  (∀ (uplink epoch : Nat) (s : State), s.dev.worker = true → uplink < 2 → s.dev.flag R.HIE_CFG.MGR_PAIR = true →
    (s.dev.port (31 - uplink)).txq = [] → s.dev.twn.held = [] →
    ∃ t, exec (.takeoverUplink uplink epoch) s = .next t ∧
      (if laterEpoch epoch s.dev.hie.epoch then t.dev.hie.upl = uplink ∧ t.dev.hie.epoch = epoch ∧
        ((s.dev.port (31 - uplink)).st = 3 → t.dev.told s.dev (31 - uplink) (.homeMoved epoch))
       else t.dev.hie = s.dev.hie ∧ t.dev.cnf = s.dev.cnf))

/-! ## Twin pairs -/

/-- Parts of R207 to R209, R218, R229: a pair forms, beats and joins. -/
def Obligations.PairingCommands : Prop :=
  (∀ s : State, s.dev.runs = true → s.dev.twinOn = true → s.dev.tw.st = 3 →
    ∃ t, exec .heartbeat s = .next t ∧ t.dev.twn.st = s.dev.twn.st ∧
      t.dev.drove s.dev (.heartbeat (!s.dev.twn.mirror) s.dev.twn.st.code s.dev.twn.epoch s.dev.twn.mseq) ∧
      (s.dev.twn.st ≠ .copy → t.dev.cnf = s.dev.cnf ∧ t.dev.dir = s.dev.dir ∧ t.dev.store = s.dev.store)) ∧
  (∀ (f : Flit) (serving : Bool) (state epoch mseq : Nat) (s : State), s.dev.runs = true → s.dev.tw.st = 3 →
    s.dev.portClocked twPort = true → f.crcOk = true → f.kind < 6 → s.dev.serves = true →
    laterEpoch epoch s.dev.twn.epoch = true →
    ∃ t, exec (.heartbeatReceived f serving state epoch mseq) s = .next t ∧ t.dev.twn.st = .superseded ∧
      t.dev.gcr.mode = .recovery) ∧
  (∀ (f : Flit) (epoch mseq : Nat) (s : State), s.dev.runs = true → s.dev.tw.st = 3 →
    s.dev.portClocked twPort = true → f.crcOk = true → f.kind < 6 → s.dev.twn.mirror = true → s.dev.twn.st = .copy →
    ∃ t, exec (.heartbeatReceived f true 2 epoch mseq) s = .next t ∧ t.dev.twn.st = .mirrored ∧
      t.dev.twn.mirror = true ∧ t.dev.twn.epoch = epoch) ∧
  (∀ (digest : Word) (role : Role) (grade : Bool) (addr : Nat) (s : State), s.dev.runs = true → s.dev.twinOn = true →
    s.dev.tw.st = 3 → s.dev.twn.st = .pairing → s.dev.twn.candidate = false →
    ∃ t, exec (.pairDigest digest role grade addr) s = .next t ∧ t.dev.twn.peer = addr ∧
      (if digest = s.dev.pairDigest ∧ role = s.dev.gcr.role ∧ grade = s.dev.gcr.grade then
        t.dev.twn.matched = some true ∧
        (∀ serving, s.dev.twn.heard = some (serving, PairSt.pairing.code) →
          t.dev.twn.st = .mirrored ∧ t.dev.twn.mirror = s.dev.gcr.side) ∧
        (∀ serving, s.dev.twn.heard = some (serving, PairSt.mirrored.code) →
          t.dev.twn.st = .mirrored ∧ t.dev.twn.mirror = serving) ∧
        (s.dev.twn.heard = none → t.dev.twn.st = .pairing)
       else t.dev.twn.matched = some false ∧ t.dev.flag R.TWN_EVT.CFG_MISMATCH = true ∧ t.dev.twn.st ≠ .mirrored)) ∧
  (∀ s : State, s.dev.runs = true → s.dev.twn.st = .pairing → s.dev.twn.candidate = false →
    ∃ t, exec .pairingGuardExpiry s = .next t ∧
      (if s.dev.partnerAddr ≠ 0 then t.dev.twn.alone = true ∧ t.dev.twn.st = .pairing ∧
        t.dev.chn.seq = (s.dev.chn.seq + 2) % 256
       else if s.dev.gcr.side then t.dev.twn.st = .pairing else t.dev.twn.st = .alone)) ∧
  (∀ s : State, s.dev.runs = true → s.dev.twn.st = .pairing → s.dev.twn.alone = true →
    ∃ t, exec (.partnerRead none) s = .next t ∧ t.dev.twn.candidate = false ∧
      t.dev.twn.st = (if s.dev.gcr.side then .pairing else .alone)) ∧
  (∀ (p : Partner) (s : State), s.dev.runs = true → s.dev.twn.st = .pairing → s.dev.twn.alone = true →
    p.serves = true →
    ∃ t, exec (.partnerRead (some p)) s = .next t ∧ t.dev.twn.st = .pairing ∧ t.dev.twn.candidate = true ∧
      (s.dev.twn.candidate = false → t.dev.flag R.TWN_EVT.PEER_ALIVE = true)) ∧
  (∀ (src : Src) (s : State), s.dev.reaches R.TWN_CMD.JOIN.ofs = true → s.dev.twn.st = .alone → s.dev.tw.st = 3 →
    s.dev.twn.matched ≠ some false → s.dev.pip.lost = 0 →
    ∃ t, exec (.join src) s = .next t ∧ t.dev.twn.st = .copy ∧ t.dev.twn.mirror = false ∧ 1 ≤ t.dev.twn.phase ∧
      t.dev.dir = s.dev.dir) ∧
  (∀ s : State, s.dev.runs = true → s.dev.twn.st = .copy → s.dev.copyOver = true →
    ∃ t, exec .copyDone s = .next t ∧ t.dev.twn.st = .mirrored ∧ t.dev.twn.mirror = s.dev.twn.mirror ∧
      t.dev.dir = s.dev.dir ∧ t.dev.store = s.dev.store ∧ t.dev.cnf.txns = s.dev.cnf.txns ∧
      (s.dev.twn.mirror = false → t.dev.flag R.TWN_EVT.COPY_DONE = true))

/-- Parts of R210 to R216: the mirror stream. -/
def Obligations.MirrorStream : Prop :=
  (∀ (mseq : Nat) (items : List Item) (s : State), s.dev.runs = true → s.dev.twinOn = true → s.dev.tw.st = 3 →
    s.dev.isMirror = true → s.dev.twn.st = .mirrored → isCopy items = false → flitCost items ≤ s.dev.tw.pReq →
    ∃ t, exec (.mirrorFlit mseq items) s = .next t ∧ t.dev.twn.queue = s.dev.twn.queue ++ [(mseq, items)] ∧
      t.dev.tw.pReq = s.dev.tw.pReq - flitCost items ∧ t.dev.drove s.dev (.twinAck mseq) ∧ t.dev.cnf = s.dev.cnf ∧
      t.dev.dir = s.dev.dir ∧ t.dev.store = s.dev.store) ∧
  (∀ (n : Nat) (e : DirEnt) (l : List (Nat × List Item)) (s : State), s.dev.runs = true → s.dev.twn.mirror = true →
    s.dev.twn.items = [] → s.dev.twn.queue = (n, [.dir e]) :: l →
    ∃ t, exec .mirrorApply s = .next t ∧ t.dev.twn.queue = l ∧ t.dev.twn.mseq = n ∧ t.dev.dir = (s.dev.putDir e).dir) ∧
  (∀ (n : Nat) (x : Txn) (l : List (Nat × List Item)) (s : State), s.dev.runs = true → s.dev.twn.mirror = true →
    s.dev.twn.items = [] → s.dev.twn.queue = (n, [.txn x]) :: l →
    ∃ t, exec .mirrorApply s = .next t ∧ t.dev.twn.queue = l ∧ t.dev.twn.mseq = n ∧
      t.dev.cnf.txns = s.dev.cnf.txns.filter (fun y => y.id != x.id) ++ [x]) ∧
  (∀ (mseq : Nat) (s : State), s.dev.runs = true → s.dev.mirrors = true → s.dev.twn.items = [] →
    s.dev.twn.unacked = [mseq] → s.dev.twn.copyUn = [] → s.dev.twn.st = .mirrored → s.dev.dep.table = [] →
    s.dev.twn.dirtyWait = [] →
    ∃ t, exec (.mirrorAck mseq) s = .next t ∧ t.dev.twn.unacked = [] ∧ t.dev.twn.held = []) ∧
  (∀ (txid port : Nat) (x : Txn) (s : State), s.dev.runs = true → s.dev.mirrors = true →
    s.dev.twn.dirtyWait = [] → s.dev.awaiting port txid = some x →
    ∃ t, exec (.dirtyCopyReport txid port) s = .next t ∧
      t.dev.twn.reported = s.dev.twn.reported ++ [(txid, port)] ∧ t.dev.cnf = s.dev.cnf) ∧
  (∀ (txid port : Nat) (dty : Bool) (rst : LState) (p : Payload) (x : Txn) (s : State), s.dev.runs = true →
    s.dev.mirrors = true → s.dev.awaiting port txid = some x → s.dev.twn.reported = [] → dty = true →
    ∃ t, exec (.snpData port txid dty rst p) s = .next t ∧
      t.dev.twn.dirtyWait.map (fun e => (e.1, e.2.1, e.2.2.2)) =
        s.dev.twn.dirtyWait.map (fun e => (e.1, e.2.1, e.2.2.2)) ++ [(txid, port, rst, p)] ∧
      t.dev.cnf = s.dev.cnf)

/-- Parts of R218 to R231: loss of the partner, the decisions that follow, takeover and its end, and software's commands.
-/
def Obligations.LossCommands : Prop :=
  (∀ s : State, s.dev.runs = true → s.dev.twn.st = .mirrored →
    ∃ t, exec .hbLoss s = .next t ∧ t.dev.flag R.TWN_EVT.HB_LOSS = true ∧ t.dev.twn.mirror = s.dev.twn.mirror ∧
      t.dev.twn.st = (if s.dev.twn.mirror then .lossWait else .fenced) ∧ t.dev.chn.seq = (s.dev.chn.seq + 2) % 256) ∧
  (∀ (p : Partner) (s : State), s.dev.runs = true → s.dev.twn.st = .lossWait → p.serves = true →
    ∃ t, exec (.lossWaitConfirm (some p)) s = .next t ∧ t.dev.twn.st = .detached ∧ t.dev.gcr.mode = .recovery ∧
      t.dev.flag R.TWN_EVT.PEER_ALIVE = true) ∧
  (∀ s : State, s.dev.runs = true → s.dev.twn.st = .lossWait → s.dev.twn.fromCopy = false →
    s.dev.flag R.TWN_CFG.SILENT_TAKE = false →
    ∃ t, exec (.lossWaitConfirm none) s = .next t ∧ t.dev.twn.st = .lossWait ∧
      t.dev.flag R.TWN_EVT.CONFIRM_SILENT = true) ∧
  (∀ (p : Partner) (s : State), s.dev.runs = true → s.dev.twn.st = .lossWait → s.dev.twn.fromCopy = false →
    p.serves = false →
    ∃ t, exec (.lossWaitConfirm (some p)) s = .next t ∧ t.dev.twn.st = .takeover ∧ t.dev.twn.mirror = false ∧
      t.dev.twn.epoch = (s.dev.twn.epoch + 1) % 65536 ∧ t.dev.twn.window = true) ∧
  (∀ (p : Partner) (s : State), s.dev.runs = true → s.dev.twn.st = .fenced →
    ∃ t, exec (.fencedCheck (some p)) s = .next t ∧
      t.dev.twn.st = (if p.failed ∨ p.state = PairSt.detached.code then .alone
        else if p.serves then .superseded else .fenced)) ∧
  (∀ s : State, s.dev.runs = true → s.dev.twn.st = .fenced →
    ∃ t, exec .twnGuardExpiry s = .next t ∧ t.dev.twn.st = .alone ∧ t.dev.twn.held = [] ∧ t.dev.twn.unacked = []) ∧
  (∀ (ns : Nat) (s : State), s.dev.runs = true → s.dev.twn.st = .takeover →
    ∃ t, exec (.resendWindowEnd ns) s = .next t ∧ t.dev.twn.st = .alone ∧ t.dev.twn.window = false ∧
      t.dev.flag R.TWN_EVT.TAKEOVER_DONE = true ∧ t.dev.get R.TWN_TAKE_TIME.NS = ns % 2 ^ 32) ∧
  (∀ (src : Src) (s : State), s.dev.reaches R.TWN_CMD.DETACH.ofs = true → s.dev.twn.st = .mirrored →
    ∃ t, exec (.detach src) s = .next t ∧
      (if s.dev.twn.mirror then t.dev.twn.st = .detached ∧ t.dev.gcr.mode = .recovery else t.dev.twn.st = .alone)) ∧
  (∀ (src : Src) (s : State), s.dev.reaches R.TWN_CMD.FORCE_TAKE.ofs = true → s.dev.twn.st = .pairing →
    s.dev.gcr.side = true →
    ∃ t, exec (.forceTake src) s = .next t ∧ t.dev.twn.st = .alone ∧ t.dev.twn.epoch = 1) ∧
  (∀ (src : Src) (s : State), s.dev.reaches R.TWN_CMD.RESUME.ofs = true → s.dev.twn.st = .fenced →
    ∃ t, exec (.twnResume src) s = .next t ∧ t.dev.twn.st = .alone) ∧
  (∀ (port epoch : Nat) (s : State), s.dev.runs = true → s.dev.serves = true →
    ∃ t, exec (.homeMoved port epoch) s = .next t ∧ t.dev.twn.st = .superseded ∧ t.dev.gcr.mode = .recovery ∧
      t.dev.flag R.TWN_EVT.PARTNER_TOOK = true ∧ (s.dev.gcr.mode ≠ .recovery → t.dev.gcr.fault = true) ∧
      ∀ n, n < 33 → (t.dev.port n).st = 0)

/-! ## Departures -/

/-- Parts of R235 to R254: Depart requests and announcements. -/
def Obligations.DepartCommands : Prop :=
  (∀ (h : Head) (count man dtag odev k : Nat) (bt : BitVec 64) (imm : Bool) (s : State), s.dev.plain = true →
    s.dev.pip.stopped = false → h.port < 32 → s.dev.portServes h.port = true → h.addr < 2 ^ 48 →
    s.dev.inWindow (.agent h.port) = false → s.dev.depIndex = some k → s.dev.bellPast bt = false →
    s.dev.depCheck (s.dev.depAsked ⟨h, count, bt, man, dtag, odev, s.dev.bel.now⟩) s.dev.bel.now = some imm →
    s.dev.boardDue { s.dev.depAsked ⟨h, count, bt, man, dtag, odev, s.dev.bel.now⟩ with imm := imm } = false →
    ∃ t, exec (.depart h count bt man dtag odev) s = .next t ∧
      (t.dev.dep? k).map (fun e => (e.phase, e.line, e.count, e.t, e.man, e.dtag, e.org, e.ports)) =
        some (.waiting, lineOf h.addr, count, bt, man, dtag, .agent h.port, s.dev.manifest man) ∧
      t.dev.dep.table.length = s.dev.dep.table.length + 1 ∧ t.dev.told s.dev h.port (.ack 0 h.tag .I 0 none) ∧
      t.dev.store = s.dev.store ∧ t.dev.cnf = s.dev.cnf) ∧
  (∀ (h : Head) (count man dtag odev : Nat) (bt : BitVec 64) (s : State), s.dev.plain = true →
    s.dev.pip.stopped = false → h.port < 32 → s.dev.portServes h.port = true →
    s.dev.inWindow (.agent h.port) = false →
    s.dev.depCheck (s.dev.depAsked ⟨h, count, bt, man, dtag, odev, s.dev.bel.now⟩) s.dev.bel.now = none →
    ∃ t, exec (.depart h count bt man dtag odev) s = .next t ∧ t.dev.flag R.DEP_EVT.REFUSED = true ∧
      t.dev.dep = s.dev.dep ∧ t.dev.told s.dev h.port (.err 0 h.tag 2) ∧ t.dev.cnf = s.dev.cnf) ∧
  (∀ (h : Head) (count man dtag odev : Nat) (bt : BitVec 64) (s : State), s.dev.worker = true →
    s.dev.pip.stopped = false → h.port < 30 → s.dev.portServes h.port = true → s.dev.flag depEN = true →
    s.dev.gcr.mode ≠ .drain →
    ∃ t, exec (.depart h count bt man dtag odev) s = .next t ∧ t.dev.dep = s.dev.dep ∧
      t.dev.told s.dev s.dev.uplink
        (.upDepart s.dev.widx h.port h.tag
          (s.dev.uplinkPhase h.port h.tag h.tph (s.dev.inWindow (.agent h.port))).1
          (lineOf h.addr) count bt man dtag s.dev.originAddr)) ∧
  (∀ (h : Head) (count man dtag odev : Nat) (bt : BitVec 64) (s : State), s.dev.worker = true →
    s.dev.pip.stopped = false → h.port < 30 → s.dev.portServes h.port = true →
    s.dev.flag depEN = false ∨ s.dev.gcr.mode = .drain →
    ∃ t, exec (.depart h count bt man dtag odev) s = .next t ∧ t.dev.dep = s.dev.dep ∧ t.dev.hie = s.dev.hie ∧
      t.dev.flag R.DEP_EVT.REFUSED = true ∧ t.dev.told s.dev h.port (.err 0 h.tag 2)) ∧
  (∀ (h : Head) (count man dtag odev : Nat) (bt : BitVec 64) (s : State), s.dev.runs = true →
    s.dev.twn.mirror = false → s.dev.pip.stopped = true →
    ∃ t, exec (.depart h count bt man dtag odev) s = .next t ∧ t.dev.dep.table = s.dev.dep.table ∧
      t.dev.dep.held = s.dev.dep.held ++ [⟨h, count, bt, man, dtag, odev, s.dev.bel.now⟩] ∧ t.dev.cnf = s.dev.cnf) ∧
  (∀ (uplink k : Nat) (a : Dep) (s : State), s.dev.worker = true → uplink = s.dev.hie.upl →
    s.dev.depC? a.idx = none → s.dev.manifest a.man ≠ [] →
    s.dev.depIndex = some k → s.dev.depReady = true → s.dev.dep.table.length < 1024 →
    s.dev.depRoom (s.dev.manifest a.man) a.count = true →
    ∃ t, exec (.depAnnounce uplink a) s = .next t ∧
      t.dev.dep? k = some (acceptDep a k (s.dev.manifest a.man)) ∧
      t.dev.told s.dev s.dev.uplink (.depAccept a.idx false)) ∧
  (∀ (uplink : Nat) (a : Dep) (s : State), s.dev.worker = true → uplink = s.dev.hie.upl →
    s.dev.depC? a.idx = none → s.dev.manifest a.man ≠ [] →
    s.dev.depReady = false →
    ∃ t, exec (.depAnnounce uplink a) s = .next t ∧ t.dev.dep = s.dev.dep ∧
      t.dev.told s.dev s.dev.uplink (.depRefuse a.idx)) ∧
  (∀ (uplink : Nat) (a : Dep) (s : State), s.dev.worker = true → uplink = s.dev.hie.upl →
    s.dev.depC? a.idx = none → s.dev.manifest a.man = [] →
    ∃ t, exec (.depAnnounce uplink a) s = .next t ∧ t.dev.dep = s.dev.dep ∧
      t.dev.flag R.DEP_EVT.MAN_EMPTY = true ∧ t.dev.told s.dev s.dev.uplink (.depAccept a.idx true)) ∧
  (∀ (port idx w o : Nat) (e : Dep) (s : State), s.dev.manager = true → s.dev.dep.stale = [] →
    s.dev.dep? idx = some e → e.phase = .announcing → e.toAnswer = [port / 2] → e.accepted = [] →
    e.org = .worker w o → w < 32 →
    ∃ t, exec (.depAccept port idx false) s = .next t ∧
      (t.dev.dep? idx).map (fun x => (x.toAnswer, x.accepted)) = some ([], [port / 2]) ∧
      (t.dev.dep? idx).all (fun x => x.phase != .announcing) = true ∧
      t.dev.told s.dev w (.ack o e.tag .I 0 none)) ∧
  (∀ (port idx w o : Nat) (e : Dep) (s : State), s.dev.manager = true → s.dev.dep.stale = [] →
    s.dev.dep? idx = some e → e.phase = .announcing → e.toAnswer = [port / 2] → e.accepted = [] →
    e.org = .worker w o → w < 32 →
    ∃ t, exec (.depRefuse port idx) s = .next t ∧ t.dev.dep? idx = none ∧ t.dev.flag R.DEP_EVT.REFUSED = true ∧
      t.dev.told s.dev w (.err o e.tag 2)) ∧
  (∀ (uplink idx : Nat) (e : Dep) (s : State), s.dev.worker = true → uplink = s.dev.hie.upl → s.dev.depC? idx = some e →
    ∃ t, exec (.depCancelMsg uplink idx false) s = .next t ∧ t.dev.dep? e.idx = none ∧ t.dev.dep.done = s.dev.dep.done) ∧
  (∀ (uplink idx : Nat) (e : Dep) (s : State), s.dev.worker = true → uplink = s.dev.hie.upl → s.dev.depC? idx = some e →
    e.cancellable = true → s.dev.dep.table.all (fun x => x.idx == e.idx || x.phase != .releasing) = true →
    s.dev.que.q.length = 5 → (s.dev.queue 1).recs.length < 1024 →
    ∃ t, exec (.depCancelMsg uplink idx true) s = .next t ∧ t.dev.dep? e.idx = none ∧
      (t.dev.queue 1).recs = (s.dev.queue 1).recs ++ [dlqWords e .cancelled])

/-- Parts of R243 to R257: boarding reads, the lines of other devices, and their acknowledgements. -/
def Obligations.BoardingCommands : Prop :=
  (∀ (idx id : Nat) (e : Dep) (s : State), s.dev.runs = true → s.dev.gcr.role ≠ .manager → s.dev.twn.mirror = false →
    s.dev.dep? idx = some e → e.phase = .waiting → s.dev.boardDue e = true → e.count = 1 →
    s.dev.cnf.pool = [] → s.dev.slotsLeft ≠ 0 → s.dev.generalId = some id →
    s.dev.keyActive (s.dev.key e.line) e.line = true →
    (s.dev.queueOf (s.dev.key e.line)).length < 8 → s.dev.standbyOf (s.dev.key e.line) = [] →
    ∃ t, exec (.boardingStart idx) s = .next t ∧ (t.dev.dep? idx).map (·.phase) = some .boarding ∧
      (t.dev.txn? id).map (fun x => (x.kind, x.aux, x.line, x.phase)) = some (.board, idx, e.line, .queued)) ∧
  (∀ (port idx line : Nat) (x : Txn) (s : State), s.dev.runs = true → s.dev.boardTxn port idx line = some x →
    s.dev.txn? x.id = some x → x.victim.isSome = true →
    ∃ t, exec (.depBoardMiss port idx line) s = .next t ∧
      t.dev.txn? x.id = some { x with owed := x.owed.filter (· != line), lines := x.lines ++ [line] }) ∧
  (∀ (port idx line : Nat) (x : Txn) (s : State), s.dev.runs = true → s.dev.boardTxn port idx line = some x →
    s.dev.txn? x.id = some x → x.victim = none →
    ∃ t, exec (.depBoardMiss port idx line) s = .next t ∧
      (t.dev.txn? x.id).all (fun y => !y.owed.contains line) = true) ∧
  (∀ (port idx : Nat) (b : Boarded) (x : Txn) (e : Dep) (s : State), s.dev.manager = true →
    s.dev.dep? idx = some e → e.has b.idx = false → b.idx < e.count → e.accepted = [] →
    s.dev.cnf.txns.find? (fun y => y.kind == .board && y.depIdx == idx && y.tag == port + 1 &&
      y.owed.contains (y.line - y.ch + b.idx)) = some x → x.aux = idx → x.line - x.ch = e.line →
    ∃ t, exec (.depLineFromWorker port idx b) s = .next t ∧
      (t.dev.dep? idx).map (·.boarded) =
        some (e.boarded ++ [⟨b.idx, b.st, ⟨b.pay.data, b.pay.psn || b.st == .fail⟩⟩]) ∧
      t.dev.hdc = s.dev.hdc ∧ t.dev.sdr = s.dev.sdr ∧ t.dev.store = s.dev.store) ∧
  (∀ (uplink idx : Nat) (b : Boarded) (e : Dep) (s : State), s.dev.worker = true → uplink = s.dev.hie.upl →
    s.dev.depC? idx = some e →
    s.dev.dep? e.idx = some e → e.has b.idx = false → b.idx < e.count →
    ∃ t, exec (.depLineToWorker uplink idx b) s = .next t ∧ (t.dev.dep? e.idx).map (·.boarded) = some (e.boarded ++ [b]) ∧
      t.dev.told s.dev s.dev.uplink (.depAck idx b.idx)) ∧
  (∀ (port idx lidx : Nat) (e : Dep) (s : State), s.dev.manager = true → s.dev.dep? idx = some e →
    e.acks = [(port / 2, lidx)] → e.boarded.length = e.count → e.imm = false → s.dev.bellPast e.t = false →
    s.dev.que.q.length = 5 → (s.dev.queue 1).recs.length < 1024 →
    ∃ t, exec (.depAckAtManager port idx lidx) s = .next t ∧ t.dev.dep? idx = none ∧
      (t.dev.queue 1).recs = (s.dev.queue 1).recs ++ [dlqWords e .onTime]) ∧
  (∀ (port idx lidx : Nat) (e : Dep) (s : State), s.dev.manager = true → s.dev.dep? idx = some e →
    e.acks = [(port / 2, lidx)] → e.boarded.length < e.count →
    ∃ t, exec (.depAckAtManager port idx lidx) s = .next t ∧ (t.dev.dep? idx).map (·.acks) = some [])

/-- Parts of R258 to R273: the quiet window, release, its end, cancel and disable. -/
def Obligations.ReleaseCommands : Prop :=
  (∀ (idx : Nat) (e : Dep) (s : State), s.dev.runs = true → s.dev.gcr.role ≠ .manager → s.dev.twn.mirror = false →
    s.dev.dep? idx = some e → e.imm = false → e.late = false → e.started = [] →
    ∃ t, exec (.quietWindow idx) s = .next t ∧
      t.dev.dep? idx = some { e with quiet := e.quiet ++ (s.dev.quietDue e).filter (fun n => !e.quiet.contains n) } ∧
      t.dev.cnf = s.dev.cnf ∧ t.dev.store = s.dev.store) ∧
  (∀ (idx n : Nat) (e : Dep) (s : State), s.dev.runs = true → s.dev.gcr.role ≠ .manager → s.dev.twn.mirror = false →
    s.dev.dep? idx = some e → e.imm = false → e.late = false → e.phase = .staged → s.dev.bellPast e.t = true →
    e.fullyStaged = true → e.ports = [n] → n < 32 → s.dev.ports.length = 32 → e.started = [] → e.ended = [] →
    e.droppedPorts = [] → s.dev.mustDrop n = false → s.dev.blockedOn e n = false →
    ∃ t, exec (.departureRelease idx) s = .next t ∧
      (t.dev.dep? idx).map (fun y => (y.phase, y.started)) = some (.releasing, [(n, s.dev.bel.now)]) ∧
      t.dev.drove s.dev (.msg n (.depRel e e.flagLate))) ∧
  (∀ (idx : Nat) (e : Dep) (s : State), s.dev.runs = true → s.dev.gcr.role ≠ .manager → s.dev.twn.mirror = false →
    s.dev.dep? idx = some e → e.imm = false → e.late = false → e.phase ≠ .releasing → s.dev.bellPast e.t = true →
    e.fullyStaged = false →
    ∃ t, exec (.departureRelease idx) s = .next t ∧
      (if s.dev.flag R.DEP_MISS_POLICY.POL then t.dev.dep? idx = none ∧ t.dev.flag R.DEP_EVT.MISSED = true
       else (t.dev.dep? idx).map (fun y => (y.late, y.out)) = some (true, .lateStaged))) ∧
  (∀ (idx n : Nat) (e : Dep) (s : State), s.dev.runs = true → s.dev.twn.mirror = false → s.dev.dep? idx = some e →
    e.late = true → e.phase = .staged → e.fullyStaged = true → s.dev.freshOver e = true → e.ports = [n] → n < 32 →
    s.dev.ports.length = 32 →
    e.started = [] → e.ended = [] → e.droppedPorts = [] → s.dev.mustDrop n = false → s.dev.blockedOn e n = false →
    ∃ t, exec (.lateStaged idx) s = .next t ∧ t.dev.flag R.DEP_EVT.LATE_STAGED = true ∧
      (t.dev.dep? idx).map (fun y => (y.phase, y.started)) = some (.releasing, [(n, s.dev.bel.now)]) ∧
      t.dev.drove s.dev (.msg n (.depRel e e.flagLate))) ∧
  (∀ (idx n : Nat) (e : Dep) (s : State), s.dev.runs = true → s.dev.gcr.role ≠ .manager → s.dev.twn.mirror = false →
    s.dev.dep? idx = some e → e.imm = true → n ∈ e.ports → e.startedOn n = false → e.overOn n = false →
    e.stagedLine 0 = true → n < 32 → s.dev.ports.length = 32 → s.dev.mustDrop n = false →
    s.dev.blockedOn e n = false →
    ∃ t, exec (.immediateRelease idx n) s = .next t ∧ t.dev.drove s.dev (.msg n (.depRel e e.flagLate)) ∧
      (t.dev.dep? idx).map (fun y => (y.phase, y.started)) = some (.releasing, e.started ++ [(n, s.dev.bel.now)])) ∧
  (∀ (idx n : Nat) (bt : BitVec 64) (e : Dep) (s : State), s.dev.runs = true → s.dev.dep? idx = some e →
    e.fullyStaged = true → e.ports = [n] → e.started = [(n, bt)] → e.ended = [] → e.droppedPorts = [] →
    (s.dev.port n).st = 3 → (s.dev.port n).unacked + ((s.dev.port n).cut.length + (depLater e).length + 59) / 15 ≤ 128 →
    s.dev.isMirror = false → s.dev.que.q.length = 5 → (s.dev.queue 1).recs.length < 1024 →
    ∃ t, exec (.releaseEnd idx) s = .next t ∧ t.dev.dep? idx = none ∧ dlqWords e e.out ∈ (t.dev.queue 1).recs) ∧
  (∀ (src : Src) (e : Dep) (s : State), s.dev.reaches R.DEP_CANCEL_CTRL.GO.ofs = true →
    s.dev.dep? (s.dev.get R.DEP_CANCEL_IDX.IDX) = some e → e.cancellable = true →
    ∃ t, exec (.depCancelGo src) s = .next t ∧ t.dev.get R.DEP_CANCEL_CTRL.RESULT = 1 ∧ t.dev.dep? e.idx = none) ∧
  (∀ (src : Src) (s : State), s.dev.reaches R.DEP_CANCEL_CTRL.GO.ofs = true →
    (s.dev.dep? (s.dev.get R.DEP_CANCEL_IDX.IDX)).all (fun e => !e.cancellable) = true →
    ∃ t, exec (.depCancelGo src) s = .next t ∧ t.dev.get R.DEP_CANCEL_CTRL.RESULT = 0 ∧ t.dev.dep = s.dev.dep) ∧
  (∀ (src : Src) (s : State), s.dev.reaches depEN.ofs = true → s.dev.flag depEN = true →
    ∃ t, exec (.depDisable src) s = .next t ∧ t.dev.flag depEN = false ∧ t.dev.dep.table = s.dev.dep.table ∧
      t.dev.dep.draining = !s.dev.dep.table.isEmpty)

/-! ## Append streams -/

/-- Parts of R274 to R291: Append requests, and the streams' lines, enables and descriptors. -/
def Obligations.AppendCommands : Prop :=
  (∀ (h : Head) (n len id : Nat) (p : Payload) (s : State), s.dev.plain = true → h.port < 32 → n < 64 →
    s.dev.pip.stopped = false → s.dev.slotFor h.port = true →
    s.dev.cnf.waiting.any (fun x => x.head.port == h.port) = false → s.dev.refusal ⟨h, .append n len p, none⟩ = none →
    s.first ⟨h, .append n len p, none⟩ = true →
    s.dev.resentRequest (s.dev.txnOf ⟨h, .append n len p, none⟩) = none → s.dev.generalId = some id →
    (s.dev.stream n).en = true → (s.dev.stream n).fault = false → headerOk len p = true →
    s.dev.apdNoRoom n (recLen len) = false → s.dev.apdInFlight < 256 → s.dev.apdBacklog = false →
    s.dev.get R.APD_ENG_CFG.FLUSH_TO ≠ 0 →
    ∃ t, exec (.append h n len p) s = .next t ∧
      (t.dev.stream n).tail = (s.dev.stream n).tail + s.dev.apdPad n (recLen len) + recLen len ∧
      t.dev.told s.dev h.port (.ack 0 h.tag .I 0 (some ((s.dev.stream n).tail + s.dev.apdPad n (recLen len)))) ∧
      (p.psn = true → t.dev.flag R.APD_EVT.REC_POISON = true)) ∧
  (∀ (h : Head) (n len id : Nat) (p : Payload) (s : State), s.dev.plain = true → h.port < 32 → n < 64 →
    s.dev.pip.stopped = false → s.dev.slotFor h.port = true →
    s.dev.cnf.waiting.any (fun x => x.head.port == h.port) = false → s.dev.refusal ⟨h, .append n len p, none⟩ = none →
    s.first ⟨h, .append n len p, none⟩ = true →
    s.dev.resentRequest (s.dev.txnOf ⟨h, .append n len p, none⟩) = none → s.dev.generalId = some id →
    (s.dev.stream n).en = false ∨ (s.dev.stream n).fault = true ∨ headerOk len p = false →
    ∃ t, exec (.append h n len p) s = .next t ∧ t.dev.apd = s.dev.apd ∧ t.dev.flag R.APD_EVT.REC_REFUSED = true ∧
      t.dev.told s.dev h.port (.err 0 h.tag 2)) ∧
  (∀ (h : Head) (n len id : Nat) (p : Payload) (s : State), s.dev.plain = true → h.port < 32 → n < 64 →
    s.dev.pip.stopped = false → s.dev.slotFor h.port = true →
    s.dev.cnf.waiting.any (fun x => x.head.port == h.port) = false → s.dev.refusal ⟨h, .append n len p, none⟩ = none →
    s.first ⟨h, .append n len p, none⟩ = true →
    s.dev.resentRequest (s.dev.txnOf ⟨h, .append n len p, none⟩) = none → s.dev.generalId = some id →
    (s.dev.stream n).en = true → (s.dev.stream n).fault = false → headerOk len p = true →
    s.dev.apdNoRoom n (recLen len) = true →
    ∃ t, exec (.append h n len p) s = .next t ∧ (t.dev.stream n) = { s.dev.stream n with full := true } ∧
      t.dev.flag R.APD_EVT.FULL = true ∧ t.dev.told s.dev h.port (.err 0 h.tag 2)) ∧
  (∀ (src : Src) (n : Nat) (s : State), s.dev.reaches (0x1C100 + 8 * n) = true → n < 64 → (s.dev.stream n).en = false →
    ∃ t, exec (.streamEnable src n) s = .next t ∧
      (if s.dev.streamOk n then
        t.dev.stream n = { Stream.idle with en := true, full := (s.dev.stream n).full, tail := (s.dev.stream n).tail, 
                                            commit := (s.dev.stream n).tail, head := (s.dev.stream n).tail }
       else t.dev.apd = s.dev.apd ∧ t.dev.flag R.APD_EVT.CFG_BAD = true)) ∧
  (∀ (src : Src) (n : Nat) (s : State), s.dev.reaches (0x1C100 + 8 * n) = true → n < 64 → (s.dev.stream n).en = true →
    (s.dev.stream n).tail % 128 = 0 →
    ∃ t, exec (.streamDisable src n) s = .next t ∧
      t.dev.stream n = { s.dev.stream n with en := false, draining := streamBusy (s.dev.stream n) }) ∧
  (∀ (src : Src) (n : Nat) (s : State), s.dev.reaches (0x1C100 + 8 * n) = true → n < 64 → 
    s.dev.twn.mirror = false → (s.dev.stream n).en = true → s.appendComes n = false →
    ∃ t, exec (.apdFlush src n) s = .next t ∧ (t.dev.stream n).tail = ((s.dev.stream n).tail + 127) / 128 * 128) ∧
  (∀ (src : Src) (n : Nat) (s : State), s.dev.reaches (0x1C100 + 8 * n) = true → n < 64 → s.appendComes n = true →
    ∃ t, exec (.apdFlush src n) s = .next t ∧ t.dev.stream n = { s.dev.stream n with closing := true }) ∧
  (∀ (n : Nat) (s : State), s.dev.runs = true → n < 64 → s.dev.twn.mirror = false → (s.dev.stream n).en = true →
    s.appendComes n = false →
    ∃ t, exec (.appendCombineTimeout n) s = .next t ∧
      (t.dev.stream n).tail = ((s.dev.stream n).tail + 127) / 128 * 128) ∧
  (∀ (n off : Nat) (x : Txn) (s : State), s.dev.runs = true → s.dev.apdTxn n off = some x → x.phase = .done →
    s.dev.txn? x.id = some x → s.dev.cnf.txns.all (fun y => y.kind != .append) = true → s.dev.cnf.waiting = [] →
    s.dev.cnf.pool = [] → s.dev.apdBacklog = false →
    ∃ t, exec (.apdLineWriteDone n off) s = .next t ∧ t.dev.txn? x.id = none ∧
      (t.dev.stream n).lines = (s.dev.stream n).lines.filter (fun l => l.off != off) ∧
      (t.dev.stream n).commit = (advanceCommit { s.dev.stream n with
        lines := (s.dev.stream n).lines.filter (fun l => l.off != off) }).commit) ∧
  (∀ (n off : Nat) (x : Txn) (s : State), s.dev.runs = true → s.dev.apdTxn n off = some x → x.phase = .done →
    s.dev.txn? x.id = some x → s.dev.cnf.txns.all (fun y => y.kind != .append) = true → s.dev.cnf.waiting = [] →
    s.dev.cnf.pool = [] → s.dev.apdBacklog = false →
    ∃ t, exec (.lineFail n off) s = .next t ∧ t.dev.txn? x.id = none ∧ (t.dev.stream n).fault = true ∧
      (t.dev.stream n).commit = (s.dev.stream n).commit ∧ t.dev.flag R.APD_EVT.LINE_FAIL = true) ∧
  (∀ (src : Src) (n : Nat) (h : BitVec 64) (s : State), s.dev.reaches (apdReg n 0x24) = true → n < 64 →
    ∃ t, exec (.apdHeadWrite src n h) s = .next t ∧
      (if (s.dev.stream n).head ≤ h.toNat ∧ h.toNat ≤ (s.dev.stream n).commit then
        t.dev.stream n = { s.dev.stream n with
          head := h.toNat, headWas := some ((s.dev.stream n).headWas.getD (s.dev.stream n).head) }
       else t.dev.apd = s.dev.apd ∧ t.dev.flag R.APD_EVT.HEAD_BAD = true)) ∧
  (∀ (src : Src) (n : Nat) (r : ApdReg) (v : BitVec 64) (s : State), s.dev.reaches (apdReg n (descReg r)) = true →
    n < 64 → (s.dev.stream n).en = true ∨ (s.dev.stream n).draining = true →
    ∃ t, exec (.apdDescriptorWrite src n r v) s = .next t ∧ t.dev.apd = s.dev.apd ∧
      t.dev.flag R.APD_EVT.CFG_BAD = true) ∧
  (∀ (src : Src) (n : Nat) (v : BitVec 64) (s : State), s.dev.reaches (apdReg n (descReg .base)) = true →
    n < 64 → (s.dev.stream n).en = false → (s.dev.stream n).draining = false →
    ∃ t, exec (.apdDescriptorWrite src n .base v) s = .next t ∧ t.dev.apd = s.dev.apd ∧
      t.dev.apdBase n = v.toNat % 2 ^ 48 / 65536 * 65536) ∧
  (∀ (src : Src) (n : Nat) (v : BitVec 64) (s : State), s.dev.reaches (apdReg n (descReg .tail)) = true →
    n < 64 → (s.dev.stream n).en = false → (s.dev.stream n).draining = false →
    ∃ t, exec (.apdDescriptorWrite src n .tail v) s = .next t ∧
      t.dev.stream n = { s.dev.stream n with tail := v.toNat / 128 * 128 })

/-- R276: a write to APD_BASE_n, APD_CFG_n or APD_TAIL_n while EN or DRAINING reads 1 is ignored and raises CFG_BAD; it
returns no bus error. -/
def Obligations.StreamSetupWhileActive : Prop :=
  (∀ (src : Src) (n : Nat) (r : ApdReg) (v : BitVec 64) (s : State), s.dev.reaches (apdReg n (descReg r)) = true →
    n < 64 → (s.dev.stream n).en = true ∨ (s.dev.stream n).draining = true →
    ∃ t, exec (.apdDescriptorWrite src n r v) s = .next t ∧ t.dev.apd = s.dev.apd ∧
      t.dev.apdBase n = s.dev.apdBase n ∧ t.dev.raw (apdReg n 8) = s.dev.raw (apdReg n 8) ∧
      t.dev.flag R.APD_EVT.CFG_BAD = true ∧ t.dev.drove s.dev (.regOk src)) ∧
  (∀ (src : Src) (ofs : Nat) (q : Nat × Nat) (v : BitVec 64) (s : State), s.dev.awake = true →
    s.dev.writeCause ofs (BitVec.ofNat 32 v.toNat) = none → apdOf ofs = some q → q.2 = 0 ∨ q.2 = 8 ∨ q.2 = 16 →
    (s.dev.stream q.1).en = true ∨ (s.dev.stream q.1).draining = true →
    ∃ t, exec (.registerWrite src ofs 4 v) s = .next t ∧ t.dev.apd = s.dev.apd ∧
      t.dev.apdBase q.1 = s.dev.apdBase q.1 ∧ t.dev.raw (apdReg q.1 8) = s.dev.raw (apdReg q.1 8) ∧
      t.dev.flag R.APD_EVT.CFG_BAD = true ∧ t.dev.drove s.dev (.regOk src))

/-! ## The data store -/

/-- Parts of R301 to R305, R312, R316 to R319: start-up, training, header fill, self-refresh exit and the rails of the
lanes. -/
def Obligations.LaneCommands : Prop :=
  (∀ (n : Nat) (s : State), s.dev.runs = true → n < 18 → s.dev.dsc.lanes.length = 18 → s.dev.populated n = true →
    s.dev.laneFree n = true → s.dev.gcr.mode = .train → (s.dev.lane n).st ≤ 1 →
    ∃ t, exec (.laneStartUp n) s = .next t ∧ (t.dev.lane n).st = 2 ∧ (t.dev.lane n).tries = 0 ∧
      (if s.dev.laneGood n then (t.dev.lane n).step = 2 ∧
        t.dev.drove s.dev (.laneCmd n 0 "RESET" (s.dev.get R.DSC_VR_CFG.STABLE))
       else (t.dev.lane n).step = 1 ∧ t.dev.pwr.railEn.getLsbD (n / 4) = true)) ∧
  (∀ (g : Nat) (s : State), s.dev.runs = true → g < 4 → s.dev.dsc.lanes.length = 18 →
    s.dev.pwr.railEn.getLsbD g = true → s.dev.pwr.railGood.getLsbD g = false →
    ∃ t, exec (.dsVrPgRise g) s = .next t ∧ t.dev.pwr.railGood.getLsbD g = true ∧
      ∀ n, n < 18 → n ∈ s.dev.groupLanes g → (s.dev.lane n).st = 2 → (s.dev.lane n).step = 1 →
        (t.dev.lane n).step = 2) ∧
  (∀ (n us : Nat) (s : State), s.dev.runs = true → n < 18 → s.dev.dsc.lanes.length = 18 → (s.dev.lane n).st = 2 →
    (s.dev.lane n).step = 2 → s.dev.hasToken 4 n = true →
    ∃ t, exec (.trainingTokenGrant n us) s = .next t ∧ (t.dev.lane n).st = 3 ∧ (t.dev.lane n).step = 12 ∧
      t.dev.hasToken 4 n = false ∧
      t.dev.get (R.DSLnn_TRAIN_TIME.US n) = us % 2 ^ ((R.DSLnn_TRAIN_TIME.US n).hi + 1) ∧
      (∀ r, r < s.dev.laneRanks n → t.dev.drove s.dev (.laneCmd n r "MRW" s.dev.mr0) ∧
        t.dev.drove s.dev (.laneCmd n r "MRW" (1024 + s.dev.mr4)) ∧ t.dev.drove s.dev (.laneCmd n r "MRR" 58) ∧
        t.dev.drove s.dev (.laneCmd n r "ZQCAL" 0) ∧ t.dev.drove s.dev (.laneCmd n r "CSCA_TRAIN" 0) ∧
        t.dev.drove s.dev (.laneCmd n r "READ_TRAIN" 0) ∧ t.dev.drove s.dev (.laneCmd n r "WRITE_LEVEL" 0) ∧
        t.dev.drove s.dev (.laneCmd n r "WRITE_TRAIN" 0) ∧
        (s.dev.flag R.DSC_TRAIN_CFG.DFE_EN = true → t.dev.drove s.dev (.laneCmd n r "DFE_TRAIN" 0)) ∧
        ∀ b, b < 32 → t.dev.drove s.dev (.laneCmd n r "PATTERN" b))) ∧
  (∀ (n step : Nat) (s : State), s.dev.runs = true → n < 18 → s.dev.dsc.lanes.length = 18 → (s.dev.lane n).st = 2 →
    (s.dev.lane n).step = 2 → s.dev.hasToken 4 n = true → 4 ≤ step → step ≤ 11 →
    step ≠ 10 ∨ s.dev.flag R.DSC_TRAIN_CFG.DFE_EN = true →
    ∃ t, exec (.trainFail n step) s = .next t ∧ t.dev.flag R.DSC_EVT.TRAIN_FAIL = true ∧
      (t.dev.lane n).failStep = step ∧
      (if (s.dev.lane n).tries < s.dev.get R.DSC_TRAIN_CFG.RETRY then
        (t.dev.lane n).st = 2 ∧ (t.dev.lane n).tries = (s.dev.lane n).tries + 1
       else (t.dev.lane n).st = 5)) ∧
  (∀ s : State, s.dev.runs = true → s.dev.gcr.mode = .train → (s.dev.lane 16).st = 3 → (s.dev.lane 17).st = 3 →
    s.dev.dsc.filling = false → s.dev.dsc.fillDone = false →
    ∃ t, exec .headerFill s = .next t ∧ t.dev.dsc.filling = true ∧ t.dev.dsc.fillProg = 0 ∧ t.dev.store = s.dev.store) ∧
  (∀ s : State, s.dev.runs = true → s.dev.dsc.filling = true → s.dev.ecc.armed = false →
    ∃ t, exec .fillDone s = .next t ∧ t.dev.dsc.filling = false ∧ t.dev.dsc.fillDone = true ∧
      t.dev.dsc.fillProg = max s.dev.dsc.fillProg (s.dev.sets / 2) ∧ t.dev.flag R.DSC_EVT.FILL_DONE = true ∧
      ∀ k, k < s.dev.sets / 2 → s.dev.dsc.fillProg ≤ k → t.dev.burst 16 k = 0 ∧ t.dev.burst 17 k = 0) ∧
  (∀ (n : Nat) (s : State), s.dev.runs = true → n < 18 → s.dev.dsc.lanes.length = 18 → (s.dev.lane n).st = 4 →
    s.dev.laneFree n = true →
    ∃ t, exec (.selfRefreshExit n) s = .next t ∧ (t.dev.lane n).st = 3 ∧ t.dev.store = s.dev.store ∧
      ∀ r, r < s.dev.laneRanks n → t.dev.drove s.dev (.laneCmd n r "SRX" (s.dev.get R.DSC_TIM4.TXS)) ∧
        t.dev.drove s.dev (.laneCmd n r "ZQCAL" 0) ∧ t.dev.drove s.dev (.laneCmd n r "MR4" 0)) ∧
  (∀ (g : Nat) (s : State), s.dev.runs = true → g < 4 → s.dev.pwr.railEn.getLsbD g = true →
    s.dev.pwr.railGood.getLsbD g = false →
    ∃ t, exec (.dsVrPgTimeout g) s = .next t ∧ t.dev.flag R.PWR_EVT.WAKE_TO = true ∧
      t.dev.get R.PWR_WAKE_FAIL.STEP = 4 ∧ t.dev.get R.PWR_WAKE_FAIL.DOM = 5 + g) ∧
  (∀ (g : Nat) (s : State), s.dev.runs = true → s.dev.pwr.railEn.getLsbD g = false →
    ∃ t, exec (.vrStuck g) s = .next t ∧ t.dev.flag R.DSC_EVT.VR_STUCK = true ∧ t.dev.dsc = s.dev.dsc ∧
      t.dev.pwr = s.dev.pwr) ∧
  (∀ (g : Nat) (s : State), s.dev.runs = true → g < 4 → s.dev.dsc.lanes.length = 18 →
    s.dev.pwr.railEn.getLsbD g = true → s.dev.pwr.railGood.getLsbD g = true →
    ∃ t, exec (.vrFault g) s = .next t ∧ t.dev.flag R.DSC_EVT.VR_FAULT = true ∧
      t.dev.pwr.railGood.getLsbD g = false ∧ ∀ n, n < 18 → n ∈ s.dev.groupLanes g → (t.dev.lane n).st = 5)

/-- Parts of R306 to R310: refresh, refresh management, temperature and calibration; none of them writes a line. -/
def Obligations.RefreshCommands : Prop :=
  (∀ (n rank : Nat) (s : State), s.dev.runs = true → n < 18 → s.dev.dsc.lanes.length = 18 → (s.dev.lane n).live = true →
    rank < s.dev.laneRanks n → rank < 2 → s.dev.rankBusy n rank = false →
    ∃ t, exec (.refresh n rank) s = .next t ∧ (t.dev.lane n).post rank = (s.dev.lane n).post rank ∧
      (if rank = 0 then (t.dev.lane n).due0 else (t.dev.lane n).due1) = s.dev.refreshEvery n rank ∧
      t.dev.store = s.dev.store ∧
      (if s.dev.flag R.DSC_CFG.REF_MODE then ∀ b, b < 4 → t.dev.drove s.dev (.laneCmd n rank "REFsb" b)
       else t.dev.drove s.dev (.laneCmd n rank "REFab" 0))) ∧
  (∀ (n rank : Nat) (s : State), s.dev.runs = true → n < 18 → s.dev.dsc.lanes.length = 18 → (s.dev.lane n).live = true →
    rank < s.dev.laneRanks n → rank < 2 → s.dev.rankBusy n rank = true →
    ∃ t, exec (.refresh n rank) s = .next t ∧ t.dev.store = s.dev.store ∧
      (if (s.dev.lane n).post rank + 1 < s.dev.postLimit then
        (t.dev.lane n).post rank = (s.dev.lane n).post rank + 1 ∧
        (t.dev.hasToken 0 (refreshOwner n rank) = true ∨ (0, refreshOwner n rank) ∈ t.dev.pur.waiting)
       else (t.dev.lane n).post rank = 0 ∧
        (if s.dev.flag R.DSC_CFG.REF_MODE then ∀ b, b < 4 → t.dev.drove s.dev (.laneCmd n rank "REFsb" b)
         else t.dev.drove s.dev (.laneCmd n rank "REFab" 0)))) ∧
  (∀ (n rank : Nat) (s : State), s.dev.runs = true → n < 18 → s.dev.dsc.lanes.length = 18 → (s.dev.lane n).live = true →
    rank < 2 → (s.dev.lane n).post rank ≠ 0 →
    s.dev.hasToken 0 (refreshOwner n rank) = true ∨ s.dev.postLimit ≤ (s.dev.lane n).post rank →
    ∃ t, exec (.postponedRefreshBurst n rank) s = .next t ∧ (t.dev.lane n).post rank = 0 ∧ t.dev.store = s.dev.store ∧
      (if s.dev.flag R.DSC_CFG.REF_MODE then ∀ b, b < 4 → t.dev.drove s.dev (.laneCmd n rank "REFsb" b)
       else t.dev.drove s.dev (.laneCmd n rank "REFab" 0))) ∧
  (∀ (n rank bank : Nat) (s : State), s.dev.runs = true → n < 18 → s.dev.dsc.lanes.length = 18 →
    (s.dev.lane n).live = true → rank < s.dev.laneRanks n → (s.dev.lane n).rfm = true →
    (s.dev.lane n).rfmAt ≤ actsAt (s.dev.lane n).acts (bankAt rank bank) →
    ∃ t, exec (.rfm n rank bank) s = .next t ∧ t.dev.store = s.dev.store ∧
      t.dev.drove s.dev (.laneCmd n rank "RFM" bank) ∧
      t.dev.lane n = { s.dev.lane n with
        acts := ((s.dev.lane n).acts.map (fun e =>
          if e.1 = bankAt rank bank then (e.1, e.2 - (s.dev.lane n).rfmAt) else e)).filter (fun e => e.2 != 0) }) ∧
  (∀ (n rank bank : Nat) (s : State), s.dev.runs = true →
    (s.dev.lane n).rfm = false ∨ actsAt (s.dev.lane n).acts (bankAt rank bank) < (s.dev.lane n).rfmAt →
    ∃ t, exec (.rfm n rank bank) s = .next t ∧ t.dev.dsc = s.dev.dsc ∧ t.dev.store = s.dev.store) ∧
  (∀ (n rank cls : Nat) (s : State), s.dev.runs = true → n < 18 → s.dev.dsc.lanes.length = 18 →
    (s.dev.lane n).live = true → rank < s.dev.laneRanks n →
    ∃ t, exec (.mr4Poll n rank cls) s = .next t ∧ t.dev.lane n = (s.dev.lane n).setTemp rank (min 2 cls) ∧
      (1 ≤ cls → (s.dev.lane n).hot rank = false → t.dev.flag R.DSC_EVT.TEMP_HIGH = true) ∧
      (2 ≤ cls → t.dev.flag R.DSC_EVT.TEMP_CRIT = true)) ∧
  (∀ s : State, s.dev.runs = true →
    ∃ t, exec .zqCalibration s = .next t ∧ t.dev.dsc = s.dev.dsc ∧ t.dev.store = s.dev.store ∧
      ∀ n, n < 18 → (s.dev.lane n).live = true → t.dev.drove s.dev (.laneCmd n 0 "ZQCAL" 0))

/-- Parts of R335, R350 to R358: the correction window, the scrubber, the flip mask, halted channels, and what a command's
reads of the on-die arrays find. -/
def Obligations.CheckerCommands : Prop :=
  (∀ s : State, s.dev.runs = true → s.dev.scrubs = false →
    ∃ t, exec .correctionWindowClose s = .next t ∧ t.dev.ecc.loc = s.dev.ecc.loc.filter (·.hard) ∧ t.dev.ecc.ue = [] ∧
      t.dev.ecc.hard = s.dev.ecc.hard ∧ t.dev.store = s.dev.store) ∧
  (∀ (l : Nat) (ls : List Nat) (p : Nat × Nat) (s : State), s.dev.runs = true → s.dev.scrubs = true →
    s.dev.scb.gap = false → s.dev.scb.token = true → s.dev.hasToken 5 0 = true → s.dev.scb.left ≠ 0 →
    s.dev.burstLines = 1 → s.dev.scb.inSet = true → s.dev.scb.todo = l :: ls → s.dev.scrubLane l = some p →
    s.dev.laneShut p.1 = false → s.dev.lineBusy l = false → s.dev.laneBusy p.1 = false →
    ∃ t, exec .scrubBurst s = .next t ∧ t.dev.scb.flight = s.dev.scb.flight ++ [(p.1, l)] ∧ t.dev.scb.todo = ls ∧
      t.dev.scb.left = s.dev.scb.left - 1 ∧ t.dev.scb.lines = s.dev.scb.lines + 1 ∧
      t.dev.drove s.dev (s.dev.laneRdOut p)) ∧
  (∀ s : State, s.dev.runs = true → s.dev.scb.gap = true →
    ∃ t, exec .scrubGapEnd s = .next t ∧ t.dev.scb.gap = false ∧
      (s.dev.scrubs = true → t.dev.hasToken 5 0 = true ∨ (5, 0) ∈ t.dev.pur.waiting)) ∧
  (∀ (lane : Nat) (noise : Burst) (f p : Nat × Nat) (s : State), s.dev.runs = true →
    s.dev.scb.flight.find? (fun x => x.1 == lane) = some f → s.dev.scrubLane f.2 = some p → (s.dev.lane p.1).st ≠ 5 →
    ∃ t, exec (.scrubReadDone lane noise) s = .next t ∧
      t.dev.scb.flight = s.dev.scb.flight.filter (fun x => x.1 != lane) ∧
      ((s.dev.laneRead p.1 p.2 noise).1.out = .uncorrectable → t.dev.flag R.SCB_EVT.UE_SCRUB = true) ∧
      ((s.dev.laneRead p.1 p.2 noise).1.out = .corrected → t.dev.flag R.ECC_EVT.CE = true)) ∧
  (∀ (src : Src) (s : State), s.dev.reaches scbEN.ofs = true → s.dev.scb.draining = false →
    ∃ t, exec (.scbDisable src) s = .next t ∧ t.dev.flag scbEN = false ∧
      t.dev.scb.draining = !s.dev.scb.flight.isEmpty ∧ t.dev.scb.pos = s.dev.scb.pos) ∧
  (∀ (src : Src) (s : State), s.dev.reaches R.ECC_FLIP_CTRL.ARM.ofs = true →
    ∃ t, exec (.flipArm src) s = .next t ∧ t.dev.ecc.armed = (s.dev.ecc.armed || s.dev.flag R.ECC_TEST_SEL.SEL) ∧
      t.dev.ecc.loc = s.dev.ecc.loc ∧ t.dev.store = s.dev.store) ∧
  (∀ (src : Src) (s : State), s.dev.reaches R.ECC_TEST_SEL.SEL.ofs = true →
    ∃ t, exec (.flipDiscard src) s = .next t ∧ t.dev.ecc.armed = false ∧ t.dev.flag R.ECC_TEST_SEL.SEL = false ∧
      t.dev.store = s.dev.store) ∧
  (∀ (src : Src) (port : Nat) (mask : BitVec 16) (s : State), s.dev.reaches (R.ECC_CHAN_HALTn.CLR port).ofs = true →
    port < 32 →
    ∃ t, exec (.chanHaltClr src port mask) s = .next t ∧
      t.dev.get (R.ECC_CHAN_HALTn.HALT port) =
        s.dev.get (R.ECC_CHAN_HALTn.HALT port) &&& (65535 ^^^ mask.toNat)) ∧
  (∀ (txid : Nat) (u : Upset) (s : State), s.dev.runs = true → u.double = false →
    ∃ t, exec (.transactionActivate txid (some u)) s = .next t ∧ t.dev.flag R.ECC_EVT.SRAM_CE = true ∧
      t.dev.get R.ECC_SRAM_CE_CNT.CE = min (2 ^ 32 - 1) (s.dev.get R.ECC_SRAM_CE_CNT.CE + 1) ∧
      t.dev.get R.ECC_SRAM_UE_CNT.UE = s.dev.get R.ECC_SRAM_UE_CNT.UE) ∧
  (∀ (txid : Nat) (noise : Burst) (u : Upset) (s : State), s.dev.runs = true → u.double = true →
    ∃ t, exec (.lineReadDone txid noise (some u)) s = .next t ∧ t.dev.flag R.ECC_EVT.SRAM_UE = true ∧
      t.dev.get R.ECC_SRAM_UE_CNT.UE = min (2 ^ 32 - 1) (s.dev.get R.ECC_SRAM_UE_CNT.UE + 1) ∧
      (u.word = .hdcTag ∨ u.word = .dir ∨ u.word = .sdrTag ∨ u.word = .txn → t.dev.gcr.mode = .recovery))

/-! ## Molile Link -/

/-- Parts of R362 to R374, R386: a link trains, exchanges INIT, falls, is lost, and is enabled and disabled. -/
def Obligations.LinkCommands : Prop :=
  (∀ (n : Nat) (s : State), s.dev.runs = true → (s.dev.port n).st = 0 → s.dev.linkUsable n = true →
    ∃ t, exec (.peerDetect n) s = .next t ∧ (t.dev.hasToken 2 n = true ∨ (2, n) ∈ t.dev.pur.waiting)) ∧
  (∀ (n width rate : Nat) (s : State), s.dev.runs = true → n ≤ 32 → s.dev.ports.length = 32 → (s.dev.port n).st = 1 →
    s.dev.portClocked n = true →
    ∃ t, exec (.linkTrained n true width rate) s = .next t ∧
      ((t.dev.port n).st, (t.dev.port n).width, (t.dev.port n).rate) =
        (2, max width (s.dev.linkCaps n).1, max rate (s.dev.linkCaps n).2) ∧
      (t.dev.port n).keep = (s.dev.port n).keep ∧ (t.dev.port n).rxSeq = (s.dev.port n).rxSeq ∧
      t.dev.drove s.dev (.init n (s.dev.port n).keep (s.dev.port n).nextRx)) ∧
  (∀ (n width rate : Nat) (s : State), s.dev.runs = true → n < 32 → s.dev.ports.length = 32 → (s.dev.port n).st = 1 →
    s.dev.portClocked n = true →
    ∃ t, exec (.linkTrained n false width rate) s = .next t ∧ (t.dev.port n).st = 0 ∧
      t.dev.flag (R.APnn_EVT.LINK_DOWN n) = true) ∧
  (∀ (n : Nat) (f : Flit) (i : InitInfo) (s : State), s.dev.runs = true → n < 32 → s.dev.ports.length = 32 →
    (s.dev.port n).st = 2 → (s.dev.port n).keep = false → s.dev.portClocked n = true → f.crcOk = true → initOf f = i →
    s.dev.initOk n i = true → s.dev.portKind n ≠ 1 ∨ (s.dev.wbf.ents = [] ∧ (s.dev.port n).txq = []) →
    ∃ t, exec (.init n f) s = .next t ∧ t.dev.flag (R.APnn_EVT.LINK_UP n) = true ∧
      ((t.dev.port n).st, (t.dev.port n).rxSeq, (t.dev.port n).txSeq) =
        (3, 0, (if i.resume then 0 else i.nextRx) % 4096) ∧
      ((t.dev.port n).cReq, (t.dev.port n).cSnp, (t.dev.port n).cRsp, (t.dev.port n).cDat, (t.dev.port n).cWb) =
        (i.cReq, i.cSnp, i.cRsp, i.cDat, i.cWb) ∧
      ((t.dev.port n).peerKind, (t.dev.port n).peerAddr, (t.dev.port n).peerPort) = (i.kind, i.daddr, i.pport)) ∧
  (∀ (n : Nat) (f : Flit) (s : State), s.dev.runs = true → n < 32 → s.dev.ports.length = 32 →
    (s.dev.port n).st = 2 → s.dev.portClocked n = true → f.crcOk = true → s.dev.initOk n (initOf f) = false →
    ∃ t, exec (.init n f) s = .next t ∧ t.dev.port n = { (s.dev.viewFlit n f).port n with peerBad := true } ∧
      t.dev.flag (R.APnn_EVT.PEER_BAD n) = true) ∧
  (∀ (n : Nat) (f : Flit) (s : State), s.dev.runs = true → n < 32 → s.dev.hears n = true → f.crcOk = false →
    ∃ t, exec (.init n f) s = .next t ∧ t.dev.ports = s.dev.ports ∧ t.dev.flag (R.APnn_EVT.CRC_ERR n) = true) ∧
  (∀ (n : Nat) (s : State), s.dev.runs = true → (s.dev.port n).st = 2 → (s.dev.port n).peerBad = true →
    ∃ t, exec (.initResend n) s = .next t ∧ (t.dev.port n).st = 2 ∧ t.dev.cnf = s.dev.cnf ∧ t.dev.store = s.dev.store ∧
      t.dev.drove s.dev (.init n (s.dev.port n).keep (s.dev.port n).nextRx)) ∧
  (∀ (n : Nat) (s : State), s.dev.runs = true → n < 32 → s.dev.ports.length = 32 → (s.dev.port n).st ≠ 0 →
    ∃ t, exec (.linkDown n) s = .next t ∧ (t.dev.port n).st = 0 ∧ t.dev.flag (R.APnn_EVT.LINK_DOWN n) = true ∧
      (t.dev.port n).keep = ((s.dev.port n).keep || (s.dev.port n).st == 3)) ∧
  (∀ (n : Nat) (s : State), s.dev.runs = true → n < 32 → s.dev.ports.length = 32 → (s.dev.port n).keep = true →
    (s.dev.port n).st ≤ 2 → s.dev.portKind n ≠ 1 → s.dev.flag (portEN n) = true →
    ∃ t, exec (.lost n) s = .next t ∧ (t.dev.port n).lost = true ∧ (t.dev.port n).keep = false ∧
      (t.dev.port n).draining = false ∧ t.dev.flag (R.APnn_EVT.LOST n) = true ∧ t.dev.flag (portEN n) = false) ∧
  (∀ (src : Src) (n : Nat) (s : State), s.dev.reaches (portEN n).ofs = true → n < 32 → s.dev.ports.length = 32 →
    s.dev.flag (portEN n) = true → (s.dev.port n).st ≠ 0 →
    ∃ t, exec (.portDisable src n) s = .next t ∧ t.dev.flag (portEN n) = false ∧
      (t.dev.port n).draining = s.dev.portBusyWith n) ∧
  (∀ (src : Src) (n : Nat) (s : State), s.dev.reaches (portEN n).ofs = true → n < 32 → s.dev.ports.length = 32 →
    s.dev.flag (portEN n) = false → (s.dev.port n).draining = false →
    ∃ t, exec (.portEnable src n) s = .next t ∧ t.dev.flag (portEN n) = true ∧ (t.dev.port n).keep = false ∧
      ((s.dev.port n).st = 3 → (t.dev.port n).st = 2 ∧ t.dev.drove s.dev (.init n false 0))) ∧
  (∀ (n : Nat) (s : State), s.dev.runs = true → n < 32 → s.dev.ports.length = 32 → (s.dev.port n).draining = true →
    (s.dev.port n).st ≠ 0 →
    ∃ t, exec (.drainingEnd (.port n)) s = .next t ∧ (t.dev.port n).draining = s.dev.portBusyWith n ∧
      t.dev.cnf = s.dev.cnf) ∧
  (∀ s : State, s.dev.runs = true → s.dev.dep.table = [] →
    ∃ t, exec (.drainingEnd .dep) s = .next t ∧ t.dev.dep.draining = false) ∧
  (∀ (n : Nat) (s : State), s.dev.runs = true → (s.dev.stream n).draining = true → streamBusy (s.dev.stream n) = false →
    ∃ t, exec (.drainingEnd (.stream n)) s = .next t ∧ t.dev.stream n = { s.dev.stream n with draining := false }) ∧
  (∀ s : State, s.dev.runs = true → s.dev.scb.flight = [] →
    ∃ t, exec (.drainingEnd .scb) s = .next t ∧ t.dev.scb = { s.dev.scb with draining := false } ∧
      t.dev.store = s.dev.store)

/-- Parts of R364 to R372, R382: flits, replay, recovery and LP. -/
def Obligations.FlitCommands : Prop :=
  (∀ (n : Nat) (f : Flit) (s : State), s.dev.runs = true → n < 32 → s.dev.ports.length = 32 →
    (s.dev.port n).st = 3 → s.dev.portClocked n = true → f.crcOk = false →
    ∃ t, exec (.dataFlit n f) s = .next t ∧ t.dev.flag (R.APnn_EVT.CRC_ERR n) = true ∧
      (t.dev.port n).naked = true ∧ (t.dev.port n).rxSeq = (s.dev.port n).rxSeq ∧
      ((s.dev.port n).naked = false → s.dev.quietOn n = false → t.dev.drove s.dev (.nak n (s.dev.port n).rxSeq))) ∧
  (∀ (n : Nat) (f : Flit) (s : State), s.dev.runs = true → n < 32 → s.dev.ports.length = 32 →
    (s.dev.port n).st = 3 → s.dev.portClocked n = true → f.crcOk = true → f.seq = (s.dev.port n).rxSeq → f.seq < 4096 →
    ∃ t, exec (.dataFlit n f) s = .next t ∧ (t.dev.port n).rxSeq = (f.seq + 1) % 4096 ∧
      (t.dev.port n).naked = false ∧ (t.dev.port n).st = 3) ∧
  (∀ (n : Nat) (f : Flit) (s : State), s.dev.runs = true → n < 32 → s.dev.ports.length = 32 →
    (s.dev.port n).st = 3 → s.dev.portClocked n = true → f.crcOk = true → f.seq % 4096 ≠ (s.dev.port n).rxSeq →
    ∃ t, exec (.dataFlit n f) s = .next t ∧ (t.dev.port n).rxSeq = (s.dev.port n).rxSeq ∧
      ((s.dev.port n).naked = false → s.dev.quietOn n = false →
      2048 < ((s.dev.port n).rxSeq + 4096 - f.seq % 4096) % 4096 →
        t.dev.drove s.dev (.nak n (s.dev.port n).rxSeq))) ∧
  (∀ (n : Nat) (f : Flit) (s : State), s.dev.runs = true → n < 32 → s.dev.ports.length = 32 →
    (s.dev.port n).st = 3 → s.dev.portClocked n = true → f.crcOk = true → f.kind < 6 → (s.dev.port n).txq = [] →
    ∃ t, exec (.idleFlit n f) s = .next t ∧ (t.dev.port n).rxSeq = (s.dev.port n).rxSeq ∧
      (t.dev.port n).cReq = (s.dev.port n).cReq + crGain f.crReq (s.dev.port n).inReq ∧
      (t.dev.port n).cDat = (s.dev.port n).cDat + crGain f.crDat (s.dev.port n).inDat) ∧
  (∀ (n exp : Nat) (f : Flit) (s : State), s.dev.runs = true → n < 32 → s.dev.ports.length = 32 →
    (s.dev.port n).st = 3 → s.dev.portClocked n = true → f.crcOk = true → f.kind < 6 →
    (s.dev.port n).lastNak = some (f.ack % 4096) →
    (s.dev.port n).replays = 3 → (s.dev.port n).txq = [] →
    ∃ t, exec (.nak n f exp) s = .next t ∧ (t.dev.port n).st = 5 ∧ (t.dev.port n).keep = true ∧
      t.dev.flag (R.APnn_EVT.RECOVER n) = true) ∧
  (∀ (n exp : Nat) (f : Flit) (s : State), s.dev.runs = true → n < 32 → s.dev.ports.length = 32 →
    (s.dev.port n).st = 3 → s.dev.portClocked n = true → f.crcOk = true → f.kind < 6 →
    s.dev.bufferFull n = false ∨ s.dev.dep.table = [] → (s.dev.port n).lastNak ≠ some (f.ack % 4096) →
    (s.dev.port n).txq = [] → s.dev.quietOn n = false → (s.dev.port n).ackd < 4096 →
    ∃ t, exec (.nak n f exp) s = .next t ∧ (t.dev.port n).st = 3 ∧ (t.dev.port n).replays = 0 ∧
      (t.dev.port n).lastNak = some (f.ack % 4096) ∧
      (t.dev.port n).pendingSeqs.length ≤ (s.dev.port n).pendingSeqs.length ∧
      ((t.dev.port n).pendingSeqs ≠ [] → t.dev.drove s.dev (.replay n (t.dev.port n).pendingSeqs))) ∧
  (∀ (n : Nat) (s : State), s.dev.runs = true → n < 32 → s.dev.ports.length = 32 → (s.dev.port n).st = 5 →
    ∃ t, exec (.recoverDone n true) s = .next t ∧ (t.dev.port n).st = 2 ∧ (t.dev.port n).fails = 0 ∧
      (t.dev.port n).rxSeq = (s.dev.port n).rxSeq ∧ (t.dev.port n).buf = (s.dev.port n).buf ∧
      t.dev.drove s.dev (.init n (s.dev.port n).keep (s.dev.port n).nextRx)) ∧
  (∀ (n : Nat) (s : State), s.dev.runs = true → n < 32 → s.dev.ports.length = 32 → (s.dev.port n).st = 5 →
    ∃ t, exec (.recoverDone n false) s = .next t ∧
      (if 2 ≤ (s.dev.port n).fails then (t.dev.port n).st = 0 ∧ t.dev.flag (R.APnn_EVT.LINK_DOWN n) = true
       else t.dev.port n = { s.dev.port n with fails := (s.dev.port n).fails + 1 })) ∧
  (∀ (n : Nat) (s : State), s.dev.runs = true → n < 32 → s.dev.ports.length = 32 → (s.dev.port n).st = 3 →
    s.dev.flag (R.APnn_CFG.LP_EN n) = true → s.dev.stagedOn n = false → (s.dev.port n).proposed = false →
    (s.dev.port n).txq = [] →
    ∃ t, exec (.lpIdle n) s = .next t ∧ (t.dev.port n).proposed = true ∧ t.dev.drove s.dev (.lpm n 0)) ∧
  (∀ (n : Nat) (f : Flit) (s : State), s.dev.runs = true → n < 32 → s.dev.ports.length = 32 →
    (s.dev.port n).st = 3 → s.dev.portClocked n = true → f.crcOk = true → f.kind < 6 → (s.dev.port n).proposed = false →
    ∃ t, exec (.lpm n f 0) s = .next t ∧
      (if s.dev.stagedOn n then (t.dev.port n).st = 3 ∧ (s.dev.quietOn n = false → t.dev.drove s.dev (.lpm n 2))
       else (t.dev.port n).st = 4 ∧ t.dev.drove s.dev (.lpm n 1))) ∧
  (∀ (n : Nat) (f : Flit) (s : State), s.dev.runs = true → n < 32 → s.dev.ports.length = 32 →
    (s.dev.port n).st = 3 → s.dev.portClocked n = true → f.crcOk = true → f.kind < 6 → (s.dev.port n).proposed = true →
    (s.dev.port n).crossRefused = false →
    ∃ t, exec (.lpm n f 1) s = .next t ∧ (t.dev.port n).st = 4 ∧ (t.dev.port n).proposed = false) ∧
  (∀ (n : Nat) (s : State), s.dev.runs = true → (s.dev.port n).st = 4 →
    ∃ t, exec (.lpExit n) s = .next t ∧ (t.dev.hasToken 2 n = true ∨ (2, n) ∈ t.dev.pur.waiting))

/-! ## Memory ports and the host port -/

/-- Parts of R203, R392 to R396: memory ports and the resets of the host port. -/
def Obligations.MemoryPortCommands : Prop :=
  (∀ (n gib width : Nat) (slow : Bool) (s : State), s.dev.runs = true → n < 8 → s.dev.mps.length = 8 →
    s.dev.hotPlug = false → s.dev.gcr.mode = .train → s.dev.mpUsable n = true → (s.dev.mp n).st < 3 →
    s.dev.mpTrains n = true → gib = s.dev.get R.AMP_MEM_CAP.CAP →
    ∃ t, exec (.memoryPortBringUp n (.ready gib width slow)) s = .next t ∧ (t.dev.mp n).st = 3 ∧
      (t.dev.mp n).cap = gib ∧ (t.dev.mp n).width = max width (s.dev.get (R.MPn_CFG.MAXW n)) ∧
      t.dev.hasToken 2 (mpOwner n) = false) ∧
  (∀ (n : Nat) (s : State), s.dev.runs = true → n < 8 → s.dev.mps.length = 8 →
    s.dev.hotPlug = false → s.dev.gcr.mode = .train → s.dev.mpUsable n = true → (s.dev.mp n).st < 3 →
    s.dev.mpTrains n = true →
    ∃ t, exec (.memoryPortBringUp n .hdmErr) s = .next t ∧ t.dev.gcr.mode = .configure ∧
      t.dev.flag R.GCR_EVT.CFG_ERR = true ∧ t.dev.flag (R.MPn_EVT.HDM_ERR n) = true) ∧
  (∀ (n : Nat) (s : State), s.dev.runs = true → n < 8 → s.dev.mps.length = 8 → (s.dev.mp n).st = 3 →
    ∃ t, exec (.mpLinkDown n) s = .next t ∧ (t.dev.mp n).st < 2 ∧ Mp.waits (t.dev.mp n) = true ∧ (t.dev.mp n).reads = [] ∧
      (t.dev.mp n).waiting = (s.dev.mp n).reads.map (fun l => (l, false)) ++ (s.dev.mp n).waiting ∧
      t.dev.flag (R.MPn_EVT.LINK_DOWN n) = true) ∧
  (∀ (n width : Nat) (slow : Bool) (s : State), s.dev.runs = true → n < 8 → s.dev.mps.length = 8 →
    Mp.waits (s.dev.mp n) = true → s.dev.mpUsable n = true →
    ∃ t, exec (.mpLinkReturn n width slow) s = .next t ∧ (t.dev.mp n).st = 3 ∧ (t.dev.mp n).cap = (s.dev.mp n).cap) ∧
  (∀ (n : Nat) (s : State), s.dev.runs = true → n < 8 → s.dev.mps.length = 8 → Mp.waits (s.dev.mp n) = true →
    s.dev.twn.st = .single → s.dev.twn.mirror = false →
    ∃ t, exec (.mpFailed n) s = .next t ∧ (t.dev.mp n).st = 4 ∧ t.dev.flag (R.MPn_EVT.FAILED n) = true) ∧
  (∀ (n : Nat) (s : State), s.dev.runs = true → n < 8 → s.dev.mps.length = 8 → Mp.waits (s.dev.mp n) = true →
    s.dev.twn.st = .mirrored → s.dev.twn.mirror = false →
    ∃ t, exec (.mpFailed n) s = .next t ∧ t.dev.gcr.mode = .recovery ∧ t.dev.flag (R.MPn_EVT.FAILED n) = true) ∧
  (∀ (src : Src) (n : Nat) (s : State), s.dev.reaches (R.MPn_HP.REMOVE n).ofs = true → n < 8 → s.dev.mps.length = 8 →
    s.dev.gcr.role ≠ .worker →
    ∃ t, exec (.mpRemove src n) s = .next t ∧
      (if s.dev.hotPlug ∨ (s.dev.mp n).st = 4 then (t.dev.mp n).st = 5 ∧ (t.dev.mp n).waiting = [] ∧
        (t.dev.mp n).reads = (s.dev.mp n).reads ++ (s.dev.mp n).waiting.map (·.1)
       else t.dev.mps = s.dev.mps ∧ t.dev.flag (R.MPn_EVT.HP_REFUSED n) = true)) ∧
  (∀ (src : Src) (n gib width : Nat) (slow : Bool) (s : State), s.dev.reaches (R.MPn_HP.ADD n).ofs = true → n < 8 →
    s.dev.mps.length = 8 → s.dev.gcr.role ≠ .worker → gib = s.dev.get R.AMP_MEM_CAP.CAP →
    s.dev.hotPlug = true → s.dev.mpUsable n = true → (s.dev.mp n).st ≠ 3 → (s.dev.mpAddStart n).mpTrains n = true →
    ∃ t, exec (.mpAdd src n (.ready gib width slow)) s = .next t ∧
      (t.dev.mp n).st = 3 ∧ t.dev.flag (R.MPn_EVT.HP_DONE n) = true) ∧
  (∀ (src : Src) (n : Nat) (r : BringUp) (s : State), s.dev.reaches (R.MPn_HP.ADD n).ofs = true → n < 8 →
    s.dev.gcr.role ≠ .worker → s.dev.hotPlug = false →
    ∃ t, exec (.mpAdd src n r) s = .next t ∧ t.dev.mps = s.dev.mps ∧ t.dev.flag (R.MPn_EVT.HP_REFUSED n) = true) ∧
  (∀ (src : Src) (n : Nat) (r : BringUp) (s : State), s.dev.reaches (R.MPn_HP.ADD n).ofs = true → n < 8 →
    s.dev.mps.length = 8 → s.dev.gcr.role ≠ .worker → s.dev.hotPlug = true → s.dev.mpUsable n = true →
    (s.dev.mp n).st ≠ 3 → (s.dev.mpAddStart n).mpTrains n = false →
    s.dev.dozeWaking = false →
    ∃ t, exec (.mpAdd src n r) s = .next t ∧ (t.dev.mp n).st ≤ 1 ∧
      (t.dev.hasToken 2 (mpOwner n) = true ∨ (2, mpOwner n) ∈ t.dev.pur.waiting)) ∧
  (∀ (src : Src) (n : Nat) (v w : Word) (s : State), s.dev.awake = true → n < 8 → s.dev.mps.length = 8 →
    s.dev.gcr.role ≠ .worker → s.dev.unreachable (R.MPn_IO_DATA.DATA n).ofs = none → (s.dev.mp n).st = 3 →
    ∃ t, exec (.mpIoData src n false v (some w)) s = .next t ∧
      t.dev.mp n = { s.dev.mp n with ioErr := false, ioData := w } ∧ t.dev.drove s.dev (.regVal src w)) ∧
  (∀ (src : Src) (n : Nat) (v : Word) (s : State), s.dev.awake = true → n < 8 → s.dev.mps.length = 8 →
    s.dev.gcr.role ≠ .worker → s.dev.unreachable (R.MPn_IO_DATA.DATA n).ofs = none →
    ∃ t, exec (.mpIoData src n false v none) s = .next t ∧ (t.dev.mp n).ioErr = true ∧
      t.dev.drove s.dev (.regVal src (BitVec.allOnes 32))) ∧
  (∀ (n : Nat) (s : State), s.dev.runs = true → n < 8 → (s.dev.mp n).st = 3 →
    ∃ t, exec (.viral n) s = .next t ∧ t.dev.flag (R.MPn_EVT.VIRAL n) = true ∧ t.dev.mps = s.dev.mps ∧
      t.dev.store = s.dev.store) ∧
  (∀ s : State, s.dev.awake = true → s.dev.domOn 20 = true →
    ∃ t, exec (.flr false) s = .next t ∧ t.dev.flag R.HST_EVT.FLR = true ∧ t.dev.hst.up = s.dev.hst.up ∧
      t.dev.cnf = s.dev.cnf ∧ t.dev.store = s.dev.store) ∧
  (∀ s : State, s.dev.awake = true → s.dev.domOn 20 = true →
    ∃ t, exec (.flr true) s = .next t ∧ t.dev.hst.up = false ∧
      (s.dev.hst.up = true → t.dev.flag R.HST_EVT.LINK_DOWN = true) ∧ t.dev.cnf = s.dev.cnf ∧ t.dev.store = s.dev.store)

/-! ## Rules of the whole device -/

/-- R497: a locked register stays locked, and its RWL fields keep their values, under every command but the resets, for as
long as CORE stays on; ECC_ERASEn is the one register hardware writes. -/
def Obligations.LockedRegistersHold : Prop :=
  ∀ (c : Instr) (s t : State) (ofs b : Nat) (r : RRow), exec c s = .next t → c.resets = false → t.dev.coreOn = true →
    s.dev.regLocked ofs = true → rowAt ofs = some r → (r.maskOf (fun a => a == .rwl)).testBit b = true →
    ¬(0x21200 ≤ ofs ∧ ofs < 0x21248) →
    t.dev.regLocked ofs = true ∧ (t.dev.raw ofs).getLsbD b = (s.dev.raw ofs).getLsbD b

/-- R513: no command but software's writes and the resets changes a configuration field of any page while CORE stays on. -/
def Obligations.ConfigurationHolds : Prop :=
  ∀ (c : Instr) (s t : State), exec c s = .next t → c.resets = false → c.configures = false →
    (s.dev.coreOn = true → t.dev.coreOn = true) →
    ∀ q ∈ allPages, t.dev.pageWords q.1 q.2 = s.dev.pageWords q.1 q.2

/-- The frame of the commands that serve no line: every burst of every lane, the headers, the directories, the write buffer,
the transactions, the tickets and the streams are as before. -/
def Obligations.CachesUntouched : Prop :=
  ∀ (c : Instr) (s t : State), exec c s = .next t → c.keepsCaches = true →
    (∀ lane slot, t.dev.burst lane slot = s.dev.burst lane slot) ∧ t.dev.hdc = s.dev.hdc ∧ t.dev.dir = s.dev.dir ∧
    t.dev.sdr = s.dev.sdr ∧ t.dev.wbf = s.dev.wbf ∧ t.dev.cnf = s.dev.cnf ∧ t.dev.apd = s.dev.apd

/-! ## The data store's laws -/

/-- Parts of Table CAC-3, Table CAC-4, R327, R328, R331: a burst stored in a line slot is read there, and every other line
slot of the lanes keeps its burst; a set header read back from its line is the header written; a line written and read
without an error is clean, or Poison where it was written so, with its data. -/
def Obligations.StoreReadsBack : Prop :=
  (∀ (d : Dev) (lane slot lane2 slot2 : Nat) (b : Burst), slot < 2 ^ 32 → slot2 < 2 ^ 32 →
    (d.putBurst lane slot b).burst lane2 slot2 = (if lane2 = lane ∧ slot2 = slot then b else d.burst lane2 slot2)) ∧
  (∀ h : Header, h.ways.length = 16 → Header.unpack h.pack = h) ∧
  (∀ (data : LineData) (psn : Bool),
    decodeLine (encodeLine data psn) none = ⟨if psn then .poison else .clean, data, []⟩)

/-- Parts of R328 to R330, Tables INT-2 and INT-3: a codeword written without poison is restored whichever one of its
symbols is in error, and restored with a device erased whatever that device returns; a poisoned codeword is found Poison,
with a device erased too. -/
def Obligations.CodewordsDecode : Prop :=
  (∀ (data : List Nat) (i v : Nat), data.length = 8 → (∀ x ∈ data, x < 256) → i < 10 → 0 < v → v < 256 →
    decodeWord (addAt (encodeWord data false) i v) = (.corrected i, encodeWord data false)) ∧
  (∀ data : List Nat, data.length = 8 → (∀ x ∈ data, x < 256) →
    decodeWord (encodeWord data true) = (.poison, encodeWord data true)) ∧
  (∀ (data : List Nat) (k v : Nat), data.length = 8 → (∀ x ∈ data, x < 256) → k < 10 → v < 256 →
    decodeErased k (addAt (encodeWord data false) k v) = (.clean, encodeWord data false)) ∧
  (∀ (data : List Nat) (k v : Nat), data.length = 8 → (∀ x ∈ data, x < 256) → k < 10 → v < 256 →
    (decodeErased k (addAt (encodeWord data true) k v)).1 = .poison)

/-- R537, R538: a record pushed on a queue with room stands last, and the watermark is raised when the count crosses LEVEL; a
full queue keeps its records, counts the lost one and raises its overflow. -/
def Obligations.QueuesKeepOrder : Prop :=
  ∀ (d : Dev) (n : Nat) (r : List Word), n < 5 → d.que.q.length = 5 →
    ((d.queue n).recs.length < queueDepth n → ((d.push n r).queue n).recs = (d.queue n).recs ++ [r] ∧
      (d.get (R.QUEn_WM.LEVEL n) ≠ 0 → (d.queue n).recs.length < d.get (R.QUEn_WM.LEVEL n) →
        d.get (R.QUEn_WM.LEVEL n) ≤ ((d.push n r).queue n).recs.length → (d.push n r).flag (evWm n) = true)) ∧
    (queueDepth n ≤ (d.queue n).recs.length → ((d.push n r).queue n).recs = (d.queue n).recs ∧
      (d.push n r).get (R.QUEn_LOST.LOST n) = min (d.get (R.QUEn_LOST.LOST n) + 1) (2 ^ 32 - 1) ∧
      (d.push n r).flag (evOverflow n) = true ∧ (d.push n r).flag (R.QUEn_STAT.OVERFLOW n) = true)

/-- R340, R455, R456: while a device is in one of modes 5 to 8, GCR_MODE is the one that the lost lanes, the erased devices,
the pair's state and SERVE give, and it stays so under every command; with a lost lane or an erased device it is 8. The
change of mode leaves the pair's state as it is. -/
def Obligations.ModeFollowsState : Prop :=
  (∀ (c : Instr) (s t : State), exec c s = .next t →
    (s.dev.gcr.mode.service58 = true → s.dev.gcr.mode = s.dev.serviceMode) →
    (t.dev.gcr.mode.service58 = true → t.dev.gcr.mode = t.dev.serviceMode)) ∧
  (∀ d : Dev, d.gcr.mode.service58 = true → d.r340 = true → d.remode.gcr.mode = .degraded ∧ d.remode.twn = d.twn)
end

