-- ==== Sys2Proof/Laws/Checker.lean ====
section
/-! SUPPORT. The checker self-test over the model's own encoder and decoder: no pattern has a mismatch (R356). -/

namespace Sys2Proof.Machine

set_option Elab.async false

/-- Every clean codeword of the self-test decodes as clean. -/
theorem clean_patterns :
    mismatches ((List.range 256).map (fun b => ((decodeWord (encodeWord (List.replicate 8 b) false)).1, .clean))) = 0 := by
  decide +kernel

/-- Every single-symbol error is corrected at its position. -/
theorem single_patterns :
    mismatches (singleErrors.map (fun e => ((decodeWord (addAt zeroWord e.1 e.2)).1, .corrected e.1))) = 0 := by
  decide +kernel

/-- The poison pattern is recognised, alone and with every single-symbol error. -/
theorem poison_patterns :
    mismatches (((decodeWord poisonWord).1, .poison) ::
      singleErrors.map (fun e => ((decodeWord (addAt poisonWord e.1 e.2)).1, poisonedClass e.1 e.2))) = 0 := by
  decide +kernel

/-- With any one position erased the zero codeword is clean and the poison pattern poison. -/
theorem erased_patterns :
    mismatches ((List.range 10).flatMap (fun k =>
      [((decodeErased k zeroWord).1, .clean), ((decodeErased k poisonWord).1, .poison)])) = 0 := by
  decide +kernel

/-- Every double-symbol error of the self-test is uncorrectable. -/
theorem double_patterns :
    mismatches (doubleErrors.map (fun p => ((decodeWord (doubleWord p)).1, .uncorrectable))) = 0 := by
  decide +kernel

/-- The self-test of a checker without fault finds no mismatch (R356). -/
theorem checkerFails_zero : checkerFails = 0 := by
  unfold checkerFails
  rw [clean_patterns, single_patterns, poison_patterns, erased_patterns, double_patterns]

end Sys2Proof.Machine
end

