-- ==== Sys2Proof/Laws/State.lean ====
section
/-! SUPPORT. The fields of the state after each named update: one lemma per field per update, so that no later proof unfolds
a record update. -/

namespace Sys2Proof.Machine

set_option Elab.async false

@[simp] theorem State.setDev_dev (s : State) (d : Dev) : (s.setDev d).dev = d := rfl
@[simp] theorem State.setDev_pending (s : State) (d : Dev) : (s.setDev d).pending = s.pending := rfl
@[simp] theorem State.setPending_dev (s : State) (q : List Instr) : (s.setPending q).dev = s.dev := rfl
@[simp] theorem State.setPending_pending (s : State) (q : List Instr) : (s.setPending q).pending = q := rfl

section
variable (d : Dev) (ofs : Nat) (w : Word)
@[simp] theorem Dev.setRaw_gcr : (d.setRaw ofs w).gcr = d.gcr := rfl
@[simp] theorem Dev.setRaw_accH : (d.setRaw ofs w).accH = d.accH := rfl
@[simp] theorem Dev.setRaw_accC : (d.setRaw ofs w).accC = d.accC := rfl
@[simp] theorem Dev.setRaw_accI : (d.setRaw ofs w).accI = d.accI := rfl
@[simp] theorem Dev.setRaw_clk : (d.setRaw ofs w).clk = d.clk := rfl
@[simp] theorem Dev.setRaw_bel : (d.setRaw ofs w).bel = d.bel := rfl
@[simp] theorem Dev.setRaw_pwr : (d.setRaw ofs w).pwr = d.pwr := rfl
@[simp] theorem Dev.setRaw_pur : (d.setRaw ofs w).pur = d.pur := rfl
@[simp] theorem Dev.setRaw_chn : (d.setRaw ofs w).chn = d.chn := rfl
@[simp] theorem Dev.setRaw_cfg : (d.setRaw ofs w).cfg = d.cfg := rfl
@[simp] theorem Dev.setRaw_hst : (d.setRaw ofs w).hst = d.hst := rfl
@[simp] theorem Dev.setRaw_evc : (d.setRaw ofs w).evc = d.evc := rfl
@[simp] theorem Dev.setRaw_que : (d.setRaw ofs w).que = d.que := rfl
@[simp] theorem Dev.setRaw_pmu : (d.setRaw ofs w).pmu = d.pmu := rfl
@[simp] theorem Dev.setRaw_hdc : (d.setRaw ofs w).hdc = d.hdc := rfl
@[simp] theorem Dev.setRaw_pip : (d.setRaw ofs w).pip = d.pip := rfl
@[simp] theorem Dev.setRaw_wbf : (d.setRaw ofs w).wbf = d.wbf := rfl
@[simp] theorem Dev.setRaw_dir : (d.setRaw ofs w).dir = d.dir := rfl
@[simp] theorem Dev.setRaw_sdr : (d.setRaw ofs w).sdr = d.sdr := rfl
@[simp] theorem Dev.setRaw_cnf : (d.setRaw ofs w).cnf = d.cnf := rfl
@[simp] theorem Dev.setRaw_dep : (d.setRaw ofs w).dep = d.dep := rfl
@[simp] theorem Dev.setRaw_apd : (d.setRaw ofs w).apd = d.apd := rfl
@[simp] theorem Dev.setRaw_hie : (d.setRaw ofs w).hie = d.hie := rfl
@[simp] theorem Dev.setRaw_twn : (d.setRaw ofs w).twn = d.twn := rfl
@[simp] theorem Dev.setRaw_dsc : (d.setRaw ofs w).dsc = d.dsc := rfl
@[simp] theorem Dev.setRaw_ecc : (d.setRaw ofs w).ecc = d.ecc := rfl
@[simp] theorem Dev.setRaw_scb : (d.setRaw ofs w).scb = d.scb := rfl
@[simp] theorem Dev.setRaw_store : (d.setRaw ofs w).store = d.store := rfl
@[simp] theorem Dev.setRaw_ports : (d.setRaw ofs w).ports = d.ports := rfl
@[simp] theorem Dev.setRaw_tw : (d.setRaw ofs w).tw = d.tw := rfl
@[simp] theorem Dev.setRaw_mps : (d.setRaw ofs w).mps = d.mps := rfl
@[simp] theorem Dev.setRaw_sent : (d.setRaw ofs w).sent = d.sent := rfl
@[simp] theorem Dev.setRaw_free : (d.setRaw ofs w).free = d.free := rfl
end

section
variable (d : Dev) (f : FieldRef) (v : Nat)
@[simp] theorem Dev.set_gcr : (d.set f v).gcr = d.gcr := rfl
@[simp] theorem Dev.set_accH : (d.set f v).accH = d.accH := rfl
@[simp] theorem Dev.set_accC : (d.set f v).accC = d.accC := rfl
@[simp] theorem Dev.set_accI : (d.set f v).accI = d.accI := rfl
@[simp] theorem Dev.set_clk : (d.set f v).clk = d.clk := rfl
@[simp] theorem Dev.set_bel : (d.set f v).bel = d.bel := rfl
@[simp] theorem Dev.set_pwr : (d.set f v).pwr = d.pwr := rfl
@[simp] theorem Dev.set_pur : (d.set f v).pur = d.pur := rfl
@[simp] theorem Dev.set_chn : (d.set f v).chn = d.chn := rfl
@[simp] theorem Dev.set_cfg : (d.set f v).cfg = d.cfg := rfl
@[simp] theorem Dev.set_hst : (d.set f v).hst = d.hst := rfl
@[simp] theorem Dev.set_evc : (d.set f v).evc = d.evc := rfl
@[simp] theorem Dev.set_que : (d.set f v).que = d.que := rfl
@[simp] theorem Dev.set_pmu : (d.set f v).pmu = d.pmu := rfl
@[simp] theorem Dev.set_hdc : (d.set f v).hdc = d.hdc := rfl
@[simp] theorem Dev.set_pip : (d.set f v).pip = d.pip := rfl
@[simp] theorem Dev.set_wbf : (d.set f v).wbf = d.wbf := rfl
@[simp] theorem Dev.set_dir : (d.set f v).dir = d.dir := rfl
@[simp] theorem Dev.set_sdr : (d.set f v).sdr = d.sdr := rfl
@[simp] theorem Dev.set_cnf : (d.set f v).cnf = d.cnf := rfl
@[simp] theorem Dev.set_dep : (d.set f v).dep = d.dep := rfl
@[simp] theorem Dev.set_apd : (d.set f v).apd = d.apd := rfl
@[simp] theorem Dev.set_hie : (d.set f v).hie = d.hie := rfl
@[simp] theorem Dev.set_twn : (d.set f v).twn = d.twn := rfl
@[simp] theorem Dev.set_dsc : (d.set f v).dsc = d.dsc := rfl
@[simp] theorem Dev.set_ecc : (d.set f v).ecc = d.ecc := rfl
@[simp] theorem Dev.set_scb : (d.set f v).scb = d.scb := rfl
@[simp] theorem Dev.set_store : (d.set f v).store = d.store := rfl
@[simp] theorem Dev.set_ports : (d.set f v).ports = d.ports := rfl
@[simp] theorem Dev.set_tw : (d.set f v).tw = d.tw := rfl
@[simp] theorem Dev.set_mps : (d.set f v).mps = d.mps := rfl
@[simp] theorem Dev.set_sent : (d.set f v).sent = d.sent := rfl
@[simp] theorem Dev.set_free : (d.set f v).free = d.free := rfl
end

section
variable (d : Dev) (f : FieldRef) (n : Nat)
@[simp] theorem Dev.bumpSat_gcr : (d.bumpSat f n).gcr = d.gcr := rfl
@[simp] theorem Dev.bumpSat_accH : (d.bumpSat f n).accH = d.accH := rfl
@[simp] theorem Dev.bumpSat_accC : (d.bumpSat f n).accC = d.accC := rfl
@[simp] theorem Dev.bumpSat_accI : (d.bumpSat f n).accI = d.accI := rfl
@[simp] theorem Dev.bumpSat_clk : (d.bumpSat f n).clk = d.clk := rfl
@[simp] theorem Dev.bumpSat_bel : (d.bumpSat f n).bel = d.bel := rfl
@[simp] theorem Dev.bumpSat_pwr : (d.bumpSat f n).pwr = d.pwr := rfl
@[simp] theorem Dev.bumpSat_pur : (d.bumpSat f n).pur = d.pur := rfl
@[simp] theorem Dev.bumpSat_chn : (d.bumpSat f n).chn = d.chn := rfl
@[simp] theorem Dev.bumpSat_cfg : (d.bumpSat f n).cfg = d.cfg := rfl
@[simp] theorem Dev.bumpSat_hst : (d.bumpSat f n).hst = d.hst := rfl
@[simp] theorem Dev.bumpSat_evc : (d.bumpSat f n).evc = d.evc := rfl
@[simp] theorem Dev.bumpSat_que : (d.bumpSat f n).que = d.que := rfl
@[simp] theorem Dev.bumpSat_pmu : (d.bumpSat f n).pmu = d.pmu := rfl
@[simp] theorem Dev.bumpSat_hdc : (d.bumpSat f n).hdc = d.hdc := rfl
@[simp] theorem Dev.bumpSat_pip : (d.bumpSat f n).pip = d.pip := rfl
@[simp] theorem Dev.bumpSat_wbf : (d.bumpSat f n).wbf = d.wbf := rfl
@[simp] theorem Dev.bumpSat_dir : (d.bumpSat f n).dir = d.dir := rfl
@[simp] theorem Dev.bumpSat_sdr : (d.bumpSat f n).sdr = d.sdr := rfl
@[simp] theorem Dev.bumpSat_cnf : (d.bumpSat f n).cnf = d.cnf := rfl
@[simp] theorem Dev.bumpSat_dep : (d.bumpSat f n).dep = d.dep := rfl
@[simp] theorem Dev.bumpSat_apd : (d.bumpSat f n).apd = d.apd := rfl
@[simp] theorem Dev.bumpSat_hie : (d.bumpSat f n).hie = d.hie := rfl
@[simp] theorem Dev.bumpSat_twn : (d.bumpSat f n).twn = d.twn := rfl
@[simp] theorem Dev.bumpSat_dsc : (d.bumpSat f n).dsc = d.dsc := rfl
@[simp] theorem Dev.bumpSat_ecc : (d.bumpSat f n).ecc = d.ecc := rfl
@[simp] theorem Dev.bumpSat_scb : (d.bumpSat f n).scb = d.scb := rfl
@[simp] theorem Dev.bumpSat_store : (d.bumpSat f n).store = d.store := rfl
@[simp] theorem Dev.bumpSat_ports : (d.bumpSat f n).ports = d.ports := rfl
@[simp] theorem Dev.bumpSat_tw : (d.bumpSat f n).tw = d.tw := rfl
@[simp] theorem Dev.bumpSat_mps : (d.bumpSat f n).mps = d.mps := rfl
@[simp] theorem Dev.bumpSat_sent : (d.bumpSat f n).sent = d.sent := rfl
@[simp] theorem Dev.bumpSat_free : (d.bumpSat f n).free = d.free := rfl
end

section
variable (d : Dev) (lo v : Nat)
@[simp] theorem Dev.set64_gcr : (d.set64 lo v).gcr = d.gcr := rfl
@[simp] theorem Dev.set64_accH : (d.set64 lo v).accH = d.accH := rfl
@[simp] theorem Dev.set64_accC : (d.set64 lo v).accC = d.accC := rfl
@[simp] theorem Dev.set64_accI : (d.set64 lo v).accI = d.accI := rfl
@[simp] theorem Dev.set64_clk : (d.set64 lo v).clk = d.clk := rfl
@[simp] theorem Dev.set64_bel : (d.set64 lo v).bel = d.bel := rfl
@[simp] theorem Dev.set64_pwr : (d.set64 lo v).pwr = d.pwr := rfl
@[simp] theorem Dev.set64_pur : (d.set64 lo v).pur = d.pur := rfl
@[simp] theorem Dev.set64_chn : (d.set64 lo v).chn = d.chn := rfl
@[simp] theorem Dev.set64_cfg : (d.set64 lo v).cfg = d.cfg := rfl
@[simp] theorem Dev.set64_hst : (d.set64 lo v).hst = d.hst := rfl
@[simp] theorem Dev.set64_evc : (d.set64 lo v).evc = d.evc := rfl
@[simp] theorem Dev.set64_que : (d.set64 lo v).que = d.que := rfl
@[simp] theorem Dev.set64_pmu : (d.set64 lo v).pmu = d.pmu := rfl
@[simp] theorem Dev.set64_hdc : (d.set64 lo v).hdc = d.hdc := rfl
@[simp] theorem Dev.set64_pip : (d.set64 lo v).pip = d.pip := rfl
@[simp] theorem Dev.set64_wbf : (d.set64 lo v).wbf = d.wbf := rfl
@[simp] theorem Dev.set64_dir : (d.set64 lo v).dir = d.dir := rfl
@[simp] theorem Dev.set64_sdr : (d.set64 lo v).sdr = d.sdr := rfl
@[simp] theorem Dev.set64_cnf : (d.set64 lo v).cnf = d.cnf := rfl
@[simp] theorem Dev.set64_dep : (d.set64 lo v).dep = d.dep := rfl
@[simp] theorem Dev.set64_apd : (d.set64 lo v).apd = d.apd := rfl
@[simp] theorem Dev.set64_hie : (d.set64 lo v).hie = d.hie := rfl
@[simp] theorem Dev.set64_twn : (d.set64 lo v).twn = d.twn := rfl
@[simp] theorem Dev.set64_dsc : (d.set64 lo v).dsc = d.dsc := rfl
@[simp] theorem Dev.set64_ecc : (d.set64 lo v).ecc = d.ecc := rfl
@[simp] theorem Dev.set64_scb : (d.set64 lo v).scb = d.scb := rfl
@[simp] theorem Dev.set64_store : (d.set64 lo v).store = d.store := rfl
@[simp] theorem Dev.set64_ports : (d.set64 lo v).ports = d.ports := rfl
@[simp] theorem Dev.set64_tw : (d.set64 lo v).tw = d.tw := rfl
@[simp] theorem Dev.set64_mps : (d.set64 lo v).mps = d.mps := rfl
@[simp] theorem Dev.set64_sent : (d.set64 lo v).sent = d.sent := rfl
@[simp] theorem Dev.set64_free : (d.set64 lo v).free = d.free := rfl
end

section
variable (d : Dev) (lo n : Nat)
@[simp] theorem Dev.bump64_gcr : (d.bump64 lo n).gcr = d.gcr := rfl
@[simp] theorem Dev.bump64_accH : (d.bump64 lo n).accH = d.accH := rfl
@[simp] theorem Dev.bump64_accC : (d.bump64 lo n).accC = d.accC := rfl
@[simp] theorem Dev.bump64_accI : (d.bump64 lo n).accI = d.accI := rfl
@[simp] theorem Dev.bump64_clk : (d.bump64 lo n).clk = d.clk := rfl
@[simp] theorem Dev.bump64_bel : (d.bump64 lo n).bel = d.bel := rfl
@[simp] theorem Dev.bump64_pwr : (d.bump64 lo n).pwr = d.pwr := rfl
@[simp] theorem Dev.bump64_pur : (d.bump64 lo n).pur = d.pur := rfl
@[simp] theorem Dev.bump64_chn : (d.bump64 lo n).chn = d.chn := rfl
@[simp] theorem Dev.bump64_cfg : (d.bump64 lo n).cfg = d.cfg := rfl
@[simp] theorem Dev.bump64_hst : (d.bump64 lo n).hst = d.hst := rfl
@[simp] theorem Dev.bump64_evc : (d.bump64 lo n).evc = d.evc := rfl
@[simp] theorem Dev.bump64_que : (d.bump64 lo n).que = d.que := rfl
@[simp] theorem Dev.bump64_pmu : (d.bump64 lo n).pmu = d.pmu := rfl
@[simp] theorem Dev.bump64_hdc : (d.bump64 lo n).hdc = d.hdc := rfl
@[simp] theorem Dev.bump64_pip : (d.bump64 lo n).pip = d.pip := rfl
@[simp] theorem Dev.bump64_wbf : (d.bump64 lo n).wbf = d.wbf := rfl
@[simp] theorem Dev.bump64_dir : (d.bump64 lo n).dir = d.dir := rfl
@[simp] theorem Dev.bump64_sdr : (d.bump64 lo n).sdr = d.sdr := rfl
@[simp] theorem Dev.bump64_cnf : (d.bump64 lo n).cnf = d.cnf := rfl
@[simp] theorem Dev.bump64_dep : (d.bump64 lo n).dep = d.dep := rfl
@[simp] theorem Dev.bump64_apd : (d.bump64 lo n).apd = d.apd := rfl
@[simp] theorem Dev.bump64_hie : (d.bump64 lo n).hie = d.hie := rfl
@[simp] theorem Dev.bump64_twn : (d.bump64 lo n).twn = d.twn := rfl
@[simp] theorem Dev.bump64_dsc : (d.bump64 lo n).dsc = d.dsc := rfl
@[simp] theorem Dev.bump64_ecc : (d.bump64 lo n).ecc = d.ecc := rfl
@[simp] theorem Dev.bump64_scb : (d.bump64 lo n).scb = d.scb := rfl
@[simp] theorem Dev.bump64_store : (d.bump64 lo n).store = d.store := rfl
@[simp] theorem Dev.bump64_ports : (d.bump64 lo n).ports = d.ports := rfl
@[simp] theorem Dev.bump64_tw : (d.bump64 lo n).tw = d.tw := rfl
@[simp] theorem Dev.bump64_mps : (d.bump64 lo n).mps = d.mps := rfl
@[simp] theorem Dev.bump64_sent : (d.bump64 lo n).sent = d.sent := rfl
@[simp] theorem Dev.bump64_free : (d.bump64 lo n).free = d.free := rfl
end

section
variable (d : Dev) (f : FieldRef)
@[simp] theorem Dev.raise_gcr : (d.raise f).gcr = d.gcr := rfl
@[simp] theorem Dev.raise_accH : (d.raise f).accH = d.accH := rfl
@[simp] theorem Dev.raise_accC : (d.raise f).accC = d.accC := rfl
@[simp] theorem Dev.raise_accI : (d.raise f).accI = d.accI := rfl
@[simp] theorem Dev.raise_clk : (d.raise f).clk = d.clk := rfl
@[simp] theorem Dev.raise_bel : (d.raise f).bel = d.bel := rfl
@[simp] theorem Dev.raise_pwr : (d.raise f).pwr = d.pwr := rfl
@[simp] theorem Dev.raise_pur : (d.raise f).pur = d.pur := rfl
@[simp] theorem Dev.raise_chn : (d.raise f).chn = d.chn := rfl
@[simp] theorem Dev.raise_cfg : (d.raise f).cfg = d.cfg := rfl
@[simp] theorem Dev.raise_hst : (d.raise f).hst = d.hst := rfl
@[simp] theorem Dev.raise_evc : (d.raise f).evc = d.evc := rfl
@[simp] theorem Dev.raise_que : (d.raise f).que = d.que := rfl
@[simp] theorem Dev.raise_pmu : (d.raise f).pmu = d.pmu := rfl
@[simp] theorem Dev.raise_hdc : (d.raise f).hdc = d.hdc := rfl
@[simp] theorem Dev.raise_pip : (d.raise f).pip = d.pip := rfl
@[simp] theorem Dev.raise_wbf : (d.raise f).wbf = d.wbf := rfl
@[simp] theorem Dev.raise_dir : (d.raise f).dir = d.dir := rfl
@[simp] theorem Dev.raise_sdr : (d.raise f).sdr = d.sdr := rfl
@[simp] theorem Dev.raise_cnf : (d.raise f).cnf = d.cnf := rfl
@[simp] theorem Dev.raise_dep : (d.raise f).dep = d.dep := rfl
@[simp] theorem Dev.raise_apd : (d.raise f).apd = d.apd := rfl
@[simp] theorem Dev.raise_hie : (d.raise f).hie = d.hie := rfl
@[simp] theorem Dev.raise_twn : (d.raise f).twn = d.twn := rfl
@[simp] theorem Dev.raise_dsc : (d.raise f).dsc = d.dsc := rfl
@[simp] theorem Dev.raise_ecc : (d.raise f).ecc = d.ecc := rfl
@[simp] theorem Dev.raise_scb : (d.raise f).scb = d.scb := rfl
@[simp] theorem Dev.raise_store : (d.raise f).store = d.store := rfl
@[simp] theorem Dev.raise_ports : (d.raise f).ports = d.ports := rfl
@[simp] theorem Dev.raise_tw : (d.raise f).tw = d.tw := rfl
@[simp] theorem Dev.raise_mps : (d.raise f).mps = d.mps := rfl
@[simp] theorem Dev.raise_sent : (d.raise f).sent = d.sent := rfl
@[simp] theorem Dev.raise_free : (d.raise f).free = d.free := rfl
end

section
variable (d : Dev) (o : Out)
@[simp] theorem Dev.emit_gcr : (d.emit o).gcr = d.gcr := rfl
@[simp] theorem Dev.emit_regs : (d.emit o).regs = d.regs := rfl
@[simp] theorem Dev.emit_accH : (d.emit o).accH = d.accH := rfl
@[simp] theorem Dev.emit_accC : (d.emit o).accC = d.accC := rfl
@[simp] theorem Dev.emit_accI : (d.emit o).accI = d.accI := rfl
@[simp] theorem Dev.emit_clk : (d.emit o).clk = d.clk := rfl
@[simp] theorem Dev.emit_bel : (d.emit o).bel = d.bel := rfl
@[simp] theorem Dev.emit_pwr : (d.emit o).pwr = d.pwr := rfl
@[simp] theorem Dev.emit_pur : (d.emit o).pur = d.pur := rfl
@[simp] theorem Dev.emit_chn : (d.emit o).chn = d.chn := rfl
@[simp] theorem Dev.emit_cfg : (d.emit o).cfg = d.cfg := rfl
@[simp] theorem Dev.emit_hst : (d.emit o).hst = d.hst := rfl
@[simp] theorem Dev.emit_evc : (d.emit o).evc = d.evc := rfl
@[simp] theorem Dev.emit_que : (d.emit o).que = d.que := rfl
@[simp] theorem Dev.emit_pmu : (d.emit o).pmu = d.pmu := rfl
@[simp] theorem Dev.emit_hdc : (d.emit o).hdc = d.hdc := rfl
@[simp] theorem Dev.emit_pip : (d.emit o).pip = d.pip := rfl
@[simp] theorem Dev.emit_wbf : (d.emit o).wbf = d.wbf := rfl
@[simp] theorem Dev.emit_dir : (d.emit o).dir = d.dir := rfl
@[simp] theorem Dev.emit_sdr : (d.emit o).sdr = d.sdr := rfl
@[simp] theorem Dev.emit_cnf : (d.emit o).cnf = d.cnf := rfl
@[simp] theorem Dev.emit_dep : (d.emit o).dep = d.dep := rfl
@[simp] theorem Dev.emit_apd : (d.emit o).apd = d.apd := rfl
@[simp] theorem Dev.emit_hie : (d.emit o).hie = d.hie := rfl
@[simp] theorem Dev.emit_twn : (d.emit o).twn = d.twn := rfl
@[simp] theorem Dev.emit_dsc : (d.emit o).dsc = d.dsc := rfl
@[simp] theorem Dev.emit_ecc : (d.emit o).ecc = d.ecc := rfl
@[simp] theorem Dev.emit_scb : (d.emit o).scb = d.scb := rfl
@[simp] theorem Dev.emit_store : (d.emit o).store = d.store := rfl
@[simp] theorem Dev.emit_ports : (d.emit o).ports = d.ports := rfl
@[simp] theorem Dev.emit_tw : (d.emit o).tw = d.tw := rfl
@[simp] theorem Dev.emit_mps : (d.emit o).mps = d.mps := rfl
@[simp] theorem Dev.emit_free : (d.emit o).free = d.free := rfl
end

section
variable (d : Dev) (n : Nat) (l : Lane)
@[simp] theorem Dev.setLane_gcr : (d.setLane n l).gcr = d.gcr := rfl
@[simp] theorem Dev.setLane_regs : (d.setLane n l).regs = d.regs := rfl
@[simp] theorem Dev.setLane_accH : (d.setLane n l).accH = d.accH := rfl
@[simp] theorem Dev.setLane_accC : (d.setLane n l).accC = d.accC := rfl
@[simp] theorem Dev.setLane_accI : (d.setLane n l).accI = d.accI := rfl
@[simp] theorem Dev.setLane_clk : (d.setLane n l).clk = d.clk := rfl
@[simp] theorem Dev.setLane_bel : (d.setLane n l).bel = d.bel := rfl
@[simp] theorem Dev.setLane_pwr : (d.setLane n l).pwr = d.pwr := rfl
@[simp] theorem Dev.setLane_pur : (d.setLane n l).pur = d.pur := rfl
@[simp] theorem Dev.setLane_chn : (d.setLane n l).chn = d.chn := rfl
@[simp] theorem Dev.setLane_cfg : (d.setLane n l).cfg = d.cfg := rfl
@[simp] theorem Dev.setLane_hst : (d.setLane n l).hst = d.hst := rfl
@[simp] theorem Dev.setLane_evc : (d.setLane n l).evc = d.evc := rfl
@[simp] theorem Dev.setLane_que : (d.setLane n l).que = d.que := rfl
@[simp] theorem Dev.setLane_pmu : (d.setLane n l).pmu = d.pmu := rfl
@[simp] theorem Dev.setLane_hdc : (d.setLane n l).hdc = d.hdc := rfl
@[simp] theorem Dev.setLane_pip : (d.setLane n l).pip = d.pip := rfl
@[simp] theorem Dev.setLane_wbf : (d.setLane n l).wbf = d.wbf := rfl
@[simp] theorem Dev.setLane_dir : (d.setLane n l).dir = d.dir := rfl
@[simp] theorem Dev.setLane_sdr : (d.setLane n l).sdr = d.sdr := rfl
@[simp] theorem Dev.setLane_cnf : (d.setLane n l).cnf = d.cnf := rfl
@[simp] theorem Dev.setLane_dep : (d.setLane n l).dep = d.dep := rfl
@[simp] theorem Dev.setLane_apd : (d.setLane n l).apd = d.apd := rfl
@[simp] theorem Dev.setLane_hie : (d.setLane n l).hie = d.hie := rfl
@[simp] theorem Dev.setLane_twn : (d.setLane n l).twn = d.twn := rfl
@[simp] theorem Dev.setLane_ecc : (d.setLane n l).ecc = d.ecc := rfl
@[simp] theorem Dev.setLane_scb : (d.setLane n l).scb = d.scb := rfl
@[simp] theorem Dev.setLane_store : (d.setLane n l).store = d.store := rfl
@[simp] theorem Dev.setLane_ports : (d.setLane n l).ports = d.ports := rfl
@[simp] theorem Dev.setLane_tw : (d.setLane n l).tw = d.tw := rfl
@[simp] theorem Dev.setLane_mps : (d.setLane n l).mps = d.mps := rfl
@[simp] theorem Dev.setLane_sent : (d.setLane n l).sent = d.sent := rfl
@[simp] theorem Dev.setLane_free : (d.setLane n l).free = d.free := rfl
end

section
variable (d : Dev) (n : Nat) (m : Mp)
@[simp] theorem Dev.setMp_gcr : (d.setMp n m).gcr = d.gcr := rfl
@[simp] theorem Dev.setMp_regs : (d.setMp n m).regs = d.regs := rfl
@[simp] theorem Dev.setMp_accH : (d.setMp n m).accH = d.accH := rfl
@[simp] theorem Dev.setMp_accC : (d.setMp n m).accC = d.accC := rfl
@[simp] theorem Dev.setMp_accI : (d.setMp n m).accI = d.accI := rfl
@[simp] theorem Dev.setMp_clk : (d.setMp n m).clk = d.clk := rfl
@[simp] theorem Dev.setMp_bel : (d.setMp n m).bel = d.bel := rfl
@[simp] theorem Dev.setMp_pwr : (d.setMp n m).pwr = d.pwr := rfl
@[simp] theorem Dev.setMp_pur : (d.setMp n m).pur = d.pur := rfl
@[simp] theorem Dev.setMp_chn : (d.setMp n m).chn = d.chn := rfl
@[simp] theorem Dev.setMp_cfg : (d.setMp n m).cfg = d.cfg := rfl
@[simp] theorem Dev.setMp_hst : (d.setMp n m).hst = d.hst := rfl
@[simp] theorem Dev.setMp_evc : (d.setMp n m).evc = d.evc := rfl
@[simp] theorem Dev.setMp_que : (d.setMp n m).que = d.que := rfl
@[simp] theorem Dev.setMp_pmu : (d.setMp n m).pmu = d.pmu := rfl
@[simp] theorem Dev.setMp_hdc : (d.setMp n m).hdc = d.hdc := rfl
@[simp] theorem Dev.setMp_pip : (d.setMp n m).pip = d.pip := rfl
@[simp] theorem Dev.setMp_wbf : (d.setMp n m).wbf = d.wbf := rfl
@[simp] theorem Dev.setMp_dir : (d.setMp n m).dir = d.dir := rfl
@[simp] theorem Dev.setMp_sdr : (d.setMp n m).sdr = d.sdr := rfl
@[simp] theorem Dev.setMp_cnf : (d.setMp n m).cnf = d.cnf := rfl
@[simp] theorem Dev.setMp_dep : (d.setMp n m).dep = d.dep := rfl
@[simp] theorem Dev.setMp_apd : (d.setMp n m).apd = d.apd := rfl
@[simp] theorem Dev.setMp_hie : (d.setMp n m).hie = d.hie := rfl
@[simp] theorem Dev.setMp_twn : (d.setMp n m).twn = d.twn := rfl
@[simp] theorem Dev.setMp_dsc : (d.setMp n m).dsc = d.dsc := rfl
@[simp] theorem Dev.setMp_ecc : (d.setMp n m).ecc = d.ecc := rfl
@[simp] theorem Dev.setMp_scb : (d.setMp n m).scb = d.scb := rfl
@[simp] theorem Dev.setMp_store : (d.setMp n m).store = d.store := rfl
@[simp] theorem Dev.setMp_ports : (d.setMp n m).ports = d.ports := rfl
@[simp] theorem Dev.setMp_tw : (d.setMp n m).tw = d.tw := rfl
@[simp] theorem Dev.setMp_sent : (d.setMp n m).sent = d.sent := rfl
@[simp] theorem Dev.setMp_free : (d.setMp n m).free = d.free := rfl
end

section
variable (d : Dev) (c v : Nat)
@[simp] theorem Dev.pmu1_gcr : (d.pmu1 c v).gcr = d.gcr := rfl
@[simp] theorem Dev.pmu1_regs : (d.pmu1 c v).regs = d.regs := rfl
@[simp] theorem Dev.pmu1_accH : (d.pmu1 c v).accH = d.accH := rfl
@[simp] theorem Dev.pmu1_accC : (d.pmu1 c v).accC = d.accC := rfl
@[simp] theorem Dev.pmu1_accI : (d.pmu1 c v).accI = d.accI := rfl
@[simp] theorem Dev.pmu1_clk : (d.pmu1 c v).clk = d.clk := rfl
@[simp] theorem Dev.pmu1_bel : (d.pmu1 c v).bel = d.bel := rfl
@[simp] theorem Dev.pmu1_pwr : (d.pmu1 c v).pwr = d.pwr := rfl
@[simp] theorem Dev.pmu1_pur : (d.pmu1 c v).pur = d.pur := rfl
@[simp] theorem Dev.pmu1_chn : (d.pmu1 c v).chn = d.chn := rfl
@[simp] theorem Dev.pmu1_cfg : (d.pmu1 c v).cfg = d.cfg := rfl
@[simp] theorem Dev.pmu1_hst : (d.pmu1 c v).hst = d.hst := rfl
@[simp] theorem Dev.pmu1_evc : (d.pmu1 c v).evc = d.evc := rfl
@[simp] theorem Dev.pmu1_que : (d.pmu1 c v).que = d.que := rfl
@[simp] theorem Dev.pmu1_hdc : (d.pmu1 c v).hdc = d.hdc := rfl
@[simp] theorem Dev.pmu1_pip : (d.pmu1 c v).pip = d.pip := rfl
@[simp] theorem Dev.pmu1_wbf : (d.pmu1 c v).wbf = d.wbf := rfl
@[simp] theorem Dev.pmu1_dir : (d.pmu1 c v).dir = d.dir := rfl
@[simp] theorem Dev.pmu1_sdr : (d.pmu1 c v).sdr = d.sdr := rfl
@[simp] theorem Dev.pmu1_cnf : (d.pmu1 c v).cnf = d.cnf := rfl
@[simp] theorem Dev.pmu1_dep : (d.pmu1 c v).dep = d.dep := rfl
@[simp] theorem Dev.pmu1_apd : (d.pmu1 c v).apd = d.apd := rfl
@[simp] theorem Dev.pmu1_hie : (d.pmu1 c v).hie = d.hie := rfl
@[simp] theorem Dev.pmu1_twn : (d.pmu1 c v).twn = d.twn := rfl
@[simp] theorem Dev.pmu1_dsc : (d.pmu1 c v).dsc = d.dsc := rfl
@[simp] theorem Dev.pmu1_ecc : (d.pmu1 c v).ecc = d.ecc := rfl
@[simp] theorem Dev.pmu1_scb : (d.pmu1 c v).scb = d.scb := rfl
@[simp] theorem Dev.pmu1_store : (d.pmu1 c v).store = d.store := rfl
@[simp] theorem Dev.pmu1_ports : (d.pmu1 c v).ports = d.ports := rfl
@[simp] theorem Dev.pmu1_tw : (d.pmu1 c v).tw = d.tw := rfl
@[simp] theorem Dev.pmu1_mps : (d.pmu1 c v).mps = d.mps := rfl
@[simp] theorem Dev.pmu1_sent : (d.pmu1 c v).sent = d.sent := rfl
@[simp] theorem Dev.pmu1_free : (d.pmu1 c v).free = d.free := rfl
end

section
variable (d : Dev) (u : SlotUse)
@[simp] theorem Dev.slot_gcr : (d.slot u).gcr = d.gcr := rfl
@[simp] theorem Dev.slot_regs : (d.slot u).regs = d.regs := rfl
@[simp] theorem Dev.slot_accH : (d.slot u).accH = d.accH := rfl
@[simp] theorem Dev.slot_accC : (d.slot u).accC = d.accC := rfl
@[simp] theorem Dev.slot_accI : (d.slot u).accI = d.accI := rfl
@[simp] theorem Dev.slot_clk : (d.slot u).clk = d.clk := rfl
@[simp] theorem Dev.slot_bel : (d.slot u).bel = d.bel := rfl
@[simp] theorem Dev.slot_pwr : (d.slot u).pwr = d.pwr := rfl
@[simp] theorem Dev.slot_pur : (d.slot u).pur = d.pur := rfl
@[simp] theorem Dev.slot_chn : (d.slot u).chn = d.chn := rfl
@[simp] theorem Dev.slot_cfg : (d.slot u).cfg = d.cfg := rfl
@[simp] theorem Dev.slot_hst : (d.slot u).hst = d.hst := rfl
@[simp] theorem Dev.slot_evc : (d.slot u).evc = d.evc := rfl
@[simp] theorem Dev.slot_que : (d.slot u).que = d.que := rfl
@[simp] theorem Dev.slot_hdc : (d.slot u).hdc = d.hdc := rfl
@[simp] theorem Dev.slot_pip : (d.slot u).pip = d.pip := rfl
@[simp] theorem Dev.slot_wbf : (d.slot u).wbf = d.wbf := rfl
@[simp] theorem Dev.slot_dir : (d.slot u).dir = d.dir := rfl
@[simp] theorem Dev.slot_sdr : (d.slot u).sdr = d.sdr := rfl
@[simp] theorem Dev.slot_cnf : (d.slot u).cnf = d.cnf := rfl
@[simp] theorem Dev.slot_dep : (d.slot u).dep = d.dep := rfl
@[simp] theorem Dev.slot_apd : (d.slot u).apd = d.apd := rfl
@[simp] theorem Dev.slot_hie : (d.slot u).hie = d.hie := rfl
@[simp] theorem Dev.slot_twn : (d.slot u).twn = d.twn := rfl
@[simp] theorem Dev.slot_dsc : (d.slot u).dsc = d.dsc := rfl
@[simp] theorem Dev.slot_ecc : (d.slot u).ecc = d.ecc := rfl
@[simp] theorem Dev.slot_scb : (d.slot u).scb = d.scb := rfl
@[simp] theorem Dev.slot_store : (d.slot u).store = d.store := rfl
@[simp] theorem Dev.slot_ports : (d.slot u).ports = d.ports := rfl
@[simp] theorem Dev.slot_tw : (d.slot u).tw = d.tw := rfl
@[simp] theorem Dev.slot_mps : (d.slot u).mps = d.mps := rfl
@[simp] theorem Dev.slot_sent : (d.slot u).sent = d.sent := rfl
@[simp] theorem Dev.slot_free : (d.slot u).free = d.free := rfl
end

section
variable (d : Dev) (n : Nat) (q : Queue)
@[simp] theorem Dev.setQueue_gcr : (d.setQueue n q).gcr = d.gcr := rfl
@[simp] theorem Dev.setQueue_regs : (d.setQueue n q).regs = d.regs := rfl
@[simp] theorem Dev.setQueue_accH : (d.setQueue n q).accH = d.accH := rfl
@[simp] theorem Dev.setQueue_accC : (d.setQueue n q).accC = d.accC := rfl
@[simp] theorem Dev.setQueue_accI : (d.setQueue n q).accI = d.accI := rfl
@[simp] theorem Dev.setQueue_clk : (d.setQueue n q).clk = d.clk := rfl
@[simp] theorem Dev.setQueue_bel : (d.setQueue n q).bel = d.bel := rfl
@[simp] theorem Dev.setQueue_pwr : (d.setQueue n q).pwr = d.pwr := rfl
@[simp] theorem Dev.setQueue_pur : (d.setQueue n q).pur = d.pur := rfl
@[simp] theorem Dev.setQueue_chn : (d.setQueue n q).chn = d.chn := rfl
@[simp] theorem Dev.setQueue_cfg : (d.setQueue n q).cfg = d.cfg := rfl
@[simp] theorem Dev.setQueue_hst : (d.setQueue n q).hst = d.hst := rfl
@[simp] theorem Dev.setQueue_evc : (d.setQueue n q).evc = d.evc := rfl
@[simp] theorem Dev.setQueue_pmu : (d.setQueue n q).pmu = d.pmu := rfl
@[simp] theorem Dev.setQueue_hdc : (d.setQueue n q).hdc = d.hdc := rfl
@[simp] theorem Dev.setQueue_pip : (d.setQueue n q).pip = d.pip := rfl
@[simp] theorem Dev.setQueue_wbf : (d.setQueue n q).wbf = d.wbf := rfl
@[simp] theorem Dev.setQueue_dir : (d.setQueue n q).dir = d.dir := rfl
@[simp] theorem Dev.setQueue_sdr : (d.setQueue n q).sdr = d.sdr := rfl
@[simp] theorem Dev.setQueue_cnf : (d.setQueue n q).cnf = d.cnf := rfl
@[simp] theorem Dev.setQueue_dep : (d.setQueue n q).dep = d.dep := rfl
@[simp] theorem Dev.setQueue_apd : (d.setQueue n q).apd = d.apd := rfl
@[simp] theorem Dev.setQueue_hie : (d.setQueue n q).hie = d.hie := rfl
@[simp] theorem Dev.setQueue_twn : (d.setQueue n q).twn = d.twn := rfl
@[simp] theorem Dev.setQueue_dsc : (d.setQueue n q).dsc = d.dsc := rfl
@[simp] theorem Dev.setQueue_ecc : (d.setQueue n q).ecc = d.ecc := rfl
@[simp] theorem Dev.setQueue_scb : (d.setQueue n q).scb = d.scb := rfl
@[simp] theorem Dev.setQueue_store : (d.setQueue n q).store = d.store := rfl
@[simp] theorem Dev.setQueue_ports : (d.setQueue n q).ports = d.ports := rfl
@[simp] theorem Dev.setQueue_tw : (d.setQueue n q).tw = d.tw := rfl
@[simp] theorem Dev.setQueue_mps : (d.setQueue n q).mps = d.mps := rfl
@[simp] theorem Dev.setQueue_sent : (d.setQueue n q).sent = d.sent := rfl
@[simp] theorem Dev.setQueue_free : (d.setQueue n q).free = d.free := rfl
end

section
variable (d : Dev) 
@[simp] theorem Dev.faultN_regs : (d.faultN).regs = d.regs := rfl
@[simp] theorem Dev.faultN_accH : (d.faultN).accH = d.accH := rfl
@[simp] theorem Dev.faultN_accC : (d.faultN).accC = d.accC := rfl
@[simp] theorem Dev.faultN_accI : (d.faultN).accI = d.accI := rfl
@[simp] theorem Dev.faultN_clk : (d.faultN).clk = d.clk := rfl
@[simp] theorem Dev.faultN_bel : (d.faultN).bel = d.bel := rfl
@[simp] theorem Dev.faultN_pwr : (d.faultN).pwr = d.pwr := rfl
@[simp] theorem Dev.faultN_pur : (d.faultN).pur = d.pur := rfl
@[simp] theorem Dev.faultN_chn : (d.faultN).chn = d.chn := rfl
@[simp] theorem Dev.faultN_cfg : (d.faultN).cfg = d.cfg := rfl
@[simp] theorem Dev.faultN_hst : (d.faultN).hst = d.hst := rfl
@[simp] theorem Dev.faultN_evc : (d.faultN).evc = d.evc := rfl
@[simp] theorem Dev.faultN_que : (d.faultN).que = d.que := rfl
@[simp] theorem Dev.faultN_pmu : (d.faultN).pmu = d.pmu := rfl
@[simp] theorem Dev.faultN_hdc : (d.faultN).hdc = d.hdc := rfl
@[simp] theorem Dev.faultN_pip : (d.faultN).pip = d.pip := rfl
@[simp] theorem Dev.faultN_wbf : (d.faultN).wbf = d.wbf := rfl
@[simp] theorem Dev.faultN_dir : (d.faultN).dir = d.dir := rfl
@[simp] theorem Dev.faultN_sdr : (d.faultN).sdr = d.sdr := rfl
@[simp] theorem Dev.faultN_cnf : (d.faultN).cnf = d.cnf := rfl
@[simp] theorem Dev.faultN_dep : (d.faultN).dep = d.dep := rfl
@[simp] theorem Dev.faultN_apd : (d.faultN).apd = d.apd := rfl
@[simp] theorem Dev.faultN_hie : (d.faultN).hie = d.hie := rfl
@[simp] theorem Dev.faultN_twn : (d.faultN).twn = d.twn := rfl
@[simp] theorem Dev.faultN_dsc : (d.faultN).dsc = d.dsc := rfl
@[simp] theorem Dev.faultN_ecc : (d.faultN).ecc = d.ecc := rfl
@[simp] theorem Dev.faultN_scb : (d.faultN).scb = d.scb := rfl
@[simp] theorem Dev.faultN_store : (d.faultN).store = d.store := rfl
@[simp] theorem Dev.faultN_ports : (d.faultN).ports = d.ports := rfl
@[simp] theorem Dev.faultN_tw : (d.faultN).tw = d.tw := rfl
@[simp] theorem Dev.faultN_mps : (d.faultN).mps = d.mps := rfl
@[simp] theorem Dev.faultN_sent : (d.faultN).sent = d.sent := rfl
@[simp] theorem Dev.faultN_free : (d.faultN).free = d.free := rfl
end

section
variable (d : Dev) (w : Nat)
@[simp] theorem Dev.oweFrame_gcr : (d.oweFrame w).gcr = d.gcr := rfl
@[simp] theorem Dev.oweFrame_regs : (d.oweFrame w).regs = d.regs := rfl
@[simp] theorem Dev.oweFrame_accH : (d.oweFrame w).accH = d.accH := rfl
@[simp] theorem Dev.oweFrame_accC : (d.oweFrame w).accC = d.accC := rfl
@[simp] theorem Dev.oweFrame_accI : (d.oweFrame w).accI = d.accI := rfl
@[simp] theorem Dev.oweFrame_clk : (d.oweFrame w).clk = d.clk := rfl
@[simp] theorem Dev.oweFrame_bel : (d.oweFrame w).bel = d.bel := rfl
@[simp] theorem Dev.oweFrame_pwr : (d.oweFrame w).pwr = d.pwr := rfl
@[simp] theorem Dev.oweFrame_pur : (d.oweFrame w).pur = d.pur := rfl
@[simp] theorem Dev.oweFrame_chn : (d.oweFrame w).chn = d.chn := rfl
@[simp] theorem Dev.oweFrame_cfg : (d.oweFrame w).cfg = d.cfg := rfl
@[simp] theorem Dev.oweFrame_hst : (d.oweFrame w).hst = d.hst := rfl
@[simp] theorem Dev.oweFrame_que : (d.oweFrame w).que = d.que := rfl
@[simp] theorem Dev.oweFrame_pmu : (d.oweFrame w).pmu = d.pmu := rfl
@[simp] theorem Dev.oweFrame_hdc : (d.oweFrame w).hdc = d.hdc := rfl
@[simp] theorem Dev.oweFrame_pip : (d.oweFrame w).pip = d.pip := rfl
@[simp] theorem Dev.oweFrame_wbf : (d.oweFrame w).wbf = d.wbf := rfl
@[simp] theorem Dev.oweFrame_dir : (d.oweFrame w).dir = d.dir := rfl
@[simp] theorem Dev.oweFrame_sdr : (d.oweFrame w).sdr = d.sdr := rfl
@[simp] theorem Dev.oweFrame_cnf : (d.oweFrame w).cnf = d.cnf := rfl
@[simp] theorem Dev.oweFrame_dep : (d.oweFrame w).dep = d.dep := rfl
@[simp] theorem Dev.oweFrame_apd : (d.oweFrame w).apd = d.apd := rfl
@[simp] theorem Dev.oweFrame_hie : (d.oweFrame w).hie = d.hie := rfl
@[simp] theorem Dev.oweFrame_twn : (d.oweFrame w).twn = d.twn := rfl
@[simp] theorem Dev.oweFrame_dsc : (d.oweFrame w).dsc = d.dsc := rfl
@[simp] theorem Dev.oweFrame_ecc : (d.oweFrame w).ecc = d.ecc := rfl
@[simp] theorem Dev.oweFrame_scb : (d.oweFrame w).scb = d.scb := rfl
@[simp] theorem Dev.oweFrame_store : (d.oweFrame w).store = d.store := rfl
@[simp] theorem Dev.oweFrame_ports : (d.oweFrame w).ports = d.ports := rfl
@[simp] theorem Dev.oweFrame_tw : (d.oweFrame w).tw = d.tw := rfl
@[simp] theorem Dev.oweFrame_mps : (d.oweFrame w).mps = d.mps := rfl
@[simp] theorem Dev.oweFrame_sent : (d.oweFrame w).sent = d.sent := rfl
@[simp] theorem Dev.oweFrame_free : (d.oweFrame w).free = d.free := rfl
end

section
variable (d : Dev) (l : List WbEnt)
@[simp] theorem Dev.setWb_gcr : (d.setWb l).gcr = d.gcr := rfl
@[simp] theorem Dev.setWb_regs : (d.setWb l).regs = d.regs := rfl
@[simp] theorem Dev.setWb_accH : (d.setWb l).accH = d.accH := rfl
@[simp] theorem Dev.setWb_accC : (d.setWb l).accC = d.accC := rfl
@[simp] theorem Dev.setWb_accI : (d.setWb l).accI = d.accI := rfl
@[simp] theorem Dev.setWb_clk : (d.setWb l).clk = d.clk := rfl
@[simp] theorem Dev.setWb_bel : (d.setWb l).bel = d.bel := rfl
@[simp] theorem Dev.setWb_pwr : (d.setWb l).pwr = d.pwr := rfl
@[simp] theorem Dev.setWb_pur : (d.setWb l).pur = d.pur := rfl
@[simp] theorem Dev.setWb_chn : (d.setWb l).chn = d.chn := rfl
@[simp] theorem Dev.setWb_cfg : (d.setWb l).cfg = d.cfg := rfl
@[simp] theorem Dev.setWb_hst : (d.setWb l).hst = d.hst := rfl
@[simp] theorem Dev.setWb_evc : (d.setWb l).evc = d.evc := rfl
@[simp] theorem Dev.setWb_que : (d.setWb l).que = d.que := rfl
@[simp] theorem Dev.setWb_pmu : (d.setWb l).pmu = d.pmu := rfl
@[simp] theorem Dev.setWb_hdc : (d.setWb l).hdc = d.hdc := rfl
@[simp] theorem Dev.setWb_pip : (d.setWb l).pip = d.pip := rfl
@[simp] theorem Dev.setWb_dir : (d.setWb l).dir = d.dir := rfl
@[simp] theorem Dev.setWb_sdr : (d.setWb l).sdr = d.sdr := rfl
@[simp] theorem Dev.setWb_cnf : (d.setWb l).cnf = d.cnf := rfl
@[simp] theorem Dev.setWb_dep : (d.setWb l).dep = d.dep := rfl
@[simp] theorem Dev.setWb_apd : (d.setWb l).apd = d.apd := rfl
@[simp] theorem Dev.setWb_hie : (d.setWb l).hie = d.hie := rfl
@[simp] theorem Dev.setWb_twn : (d.setWb l).twn = d.twn := rfl
@[simp] theorem Dev.setWb_dsc : (d.setWb l).dsc = d.dsc := rfl
@[simp] theorem Dev.setWb_ecc : (d.setWb l).ecc = d.ecc := rfl
@[simp] theorem Dev.setWb_scb : (d.setWb l).scb = d.scb := rfl
@[simp] theorem Dev.setWb_store : (d.setWb l).store = d.store := rfl
@[simp] theorem Dev.setWb_ports : (d.setWb l).ports = d.ports := rfl
@[simp] theorem Dev.setWb_tw : (d.setWb l).tw = d.tw := rfl
@[simp] theorem Dev.setWb_mps : (d.setWb l).mps = d.mps := rfl
@[simp] theorem Dev.setWb_sent : (d.setWb l).sent = d.sent := rfl
@[simp] theorem Dev.setWb_free : (d.setWb l).free = d.free := rfl
end

section
variable (d : Dev) (l : List HdcEnt)
@[simp] theorem Dev.setHdc_gcr : (d.setHdc l).gcr = d.gcr := rfl
@[simp] theorem Dev.setHdc_regs : (d.setHdc l).regs = d.regs := rfl
@[simp] theorem Dev.setHdc_accH : (d.setHdc l).accH = d.accH := rfl
@[simp] theorem Dev.setHdc_accC : (d.setHdc l).accC = d.accC := rfl
@[simp] theorem Dev.setHdc_accI : (d.setHdc l).accI = d.accI := rfl
@[simp] theorem Dev.setHdc_clk : (d.setHdc l).clk = d.clk := rfl
@[simp] theorem Dev.setHdc_bel : (d.setHdc l).bel = d.bel := rfl
@[simp] theorem Dev.setHdc_pwr : (d.setHdc l).pwr = d.pwr := rfl
@[simp] theorem Dev.setHdc_pur : (d.setHdc l).pur = d.pur := rfl
@[simp] theorem Dev.setHdc_chn : (d.setHdc l).chn = d.chn := rfl
@[simp] theorem Dev.setHdc_cfg : (d.setHdc l).cfg = d.cfg := rfl
@[simp] theorem Dev.setHdc_hst : (d.setHdc l).hst = d.hst := rfl
@[simp] theorem Dev.setHdc_evc : (d.setHdc l).evc = d.evc := rfl
@[simp] theorem Dev.setHdc_que : (d.setHdc l).que = d.que := rfl
@[simp] theorem Dev.setHdc_pmu : (d.setHdc l).pmu = d.pmu := rfl
@[simp] theorem Dev.setHdc_pip : (d.setHdc l).pip = d.pip := rfl
@[simp] theorem Dev.setHdc_wbf : (d.setHdc l).wbf = d.wbf := rfl
@[simp] theorem Dev.setHdc_dir : (d.setHdc l).dir = d.dir := rfl
@[simp] theorem Dev.setHdc_sdr : (d.setHdc l).sdr = d.sdr := rfl
@[simp] theorem Dev.setHdc_cnf : (d.setHdc l).cnf = d.cnf := rfl
@[simp] theorem Dev.setHdc_dep : (d.setHdc l).dep = d.dep := rfl
@[simp] theorem Dev.setHdc_apd : (d.setHdc l).apd = d.apd := rfl
@[simp] theorem Dev.setHdc_hie : (d.setHdc l).hie = d.hie := rfl
@[simp] theorem Dev.setHdc_twn : (d.setHdc l).twn = d.twn := rfl
@[simp] theorem Dev.setHdc_dsc : (d.setHdc l).dsc = d.dsc := rfl
@[simp] theorem Dev.setHdc_ecc : (d.setHdc l).ecc = d.ecc := rfl
@[simp] theorem Dev.setHdc_scb : (d.setHdc l).scb = d.scb := rfl
@[simp] theorem Dev.setHdc_store : (d.setHdc l).store = d.store := rfl
@[simp] theorem Dev.setHdc_ports : (d.setHdc l).ports = d.ports := rfl
@[simp] theorem Dev.setHdc_tw : (d.setHdc l).tw = d.tw := rfl
@[simp] theorem Dev.setHdc_mps : (d.setHdc l).mps = d.mps := rfl
@[simp] theorem Dev.setHdc_sent : (d.setHdc l).sent = d.sent := rfl
@[simp] theorem Dev.setHdc_free : (d.setHdc l).free = d.free := rfl
end

section
variable (d : Dev) (n k : Nat) (b : Burst)
@[simp] theorem Dev.putBurst_gcr : (d.putBurst n k b).gcr = d.gcr := rfl
@[simp] theorem Dev.putBurst_regs : (d.putBurst n k b).regs = d.regs := rfl
@[simp] theorem Dev.putBurst_accH : (d.putBurst n k b).accH = d.accH := rfl
@[simp] theorem Dev.putBurst_accC : (d.putBurst n k b).accC = d.accC := rfl
@[simp] theorem Dev.putBurst_accI : (d.putBurst n k b).accI = d.accI := rfl
@[simp] theorem Dev.putBurst_clk : (d.putBurst n k b).clk = d.clk := rfl
@[simp] theorem Dev.putBurst_bel : (d.putBurst n k b).bel = d.bel := rfl
@[simp] theorem Dev.putBurst_pwr : (d.putBurst n k b).pwr = d.pwr := rfl
@[simp] theorem Dev.putBurst_pur : (d.putBurst n k b).pur = d.pur := rfl
@[simp] theorem Dev.putBurst_chn : (d.putBurst n k b).chn = d.chn := rfl
@[simp] theorem Dev.putBurst_cfg : (d.putBurst n k b).cfg = d.cfg := rfl
@[simp] theorem Dev.putBurst_hst : (d.putBurst n k b).hst = d.hst := rfl
@[simp] theorem Dev.putBurst_evc : (d.putBurst n k b).evc = d.evc := rfl
@[simp] theorem Dev.putBurst_que : (d.putBurst n k b).que = d.que := rfl
@[simp] theorem Dev.putBurst_pmu : (d.putBurst n k b).pmu = d.pmu := rfl
@[simp] theorem Dev.putBurst_hdc : (d.putBurst n k b).hdc = d.hdc := rfl
@[simp] theorem Dev.putBurst_pip : (d.putBurst n k b).pip = d.pip := rfl
@[simp] theorem Dev.putBurst_wbf : (d.putBurst n k b).wbf = d.wbf := rfl
@[simp] theorem Dev.putBurst_dir : (d.putBurst n k b).dir = d.dir := rfl
@[simp] theorem Dev.putBurst_sdr : (d.putBurst n k b).sdr = d.sdr := rfl
@[simp] theorem Dev.putBurst_cnf : (d.putBurst n k b).cnf = d.cnf := rfl
@[simp] theorem Dev.putBurst_dep : (d.putBurst n k b).dep = d.dep := rfl
@[simp] theorem Dev.putBurst_apd : (d.putBurst n k b).apd = d.apd := rfl
@[simp] theorem Dev.putBurst_hie : (d.putBurst n k b).hie = d.hie := rfl
@[simp] theorem Dev.putBurst_twn : (d.putBurst n k b).twn = d.twn := rfl
@[simp] theorem Dev.putBurst_dsc : (d.putBurst n k b).dsc = d.dsc := rfl
@[simp] theorem Dev.putBurst_ecc : (d.putBurst n k b).ecc = d.ecc := rfl
@[simp] theorem Dev.putBurst_scb : (d.putBurst n k b).scb = d.scb := rfl
@[simp] theorem Dev.putBurst_ports : (d.putBurst n k b).ports = d.ports := rfl
@[simp] theorem Dev.putBurst_tw : (d.putBurst n k b).tw = d.tw := rfl
@[simp] theorem Dev.putBurst_mps : (d.putBurst n k b).mps = d.mps := rfl
@[simp] theorem Dev.putBurst_sent : (d.putBurst n k b).sent = d.sent := rfl
@[simp] theorem Dev.putBurst_free : (d.putBurst n k b).free = d.free := rfl
end

section
variable (d : Dev) (k : Nat) (r f : Bool)
@[simp] theorem Dev.setSource_gcr : (d.setSource k r f).gcr = d.gcr := rfl
@[simp] theorem Dev.setSource_regs : (d.setSource k r f).regs = d.regs := rfl
@[simp] theorem Dev.setSource_accH : (d.setSource k r f).accH = d.accH := rfl
@[simp] theorem Dev.setSource_accC : (d.setSource k r f).accC = d.accC := rfl
@[simp] theorem Dev.setSource_accI : (d.setSource k r f).accI = d.accI := rfl
@[simp] theorem Dev.setSource_bel : (d.setSource k r f).bel = d.bel := rfl
@[simp] theorem Dev.setSource_pwr : (d.setSource k r f).pwr = d.pwr := rfl
@[simp] theorem Dev.setSource_pur : (d.setSource k r f).pur = d.pur := rfl
@[simp] theorem Dev.setSource_chn : (d.setSource k r f).chn = d.chn := rfl
@[simp] theorem Dev.setSource_cfg : (d.setSource k r f).cfg = d.cfg := rfl
@[simp] theorem Dev.setSource_hst : (d.setSource k r f).hst = d.hst := rfl
@[simp] theorem Dev.setSource_evc : (d.setSource k r f).evc = d.evc := rfl
@[simp] theorem Dev.setSource_que : (d.setSource k r f).que = d.que := rfl
@[simp] theorem Dev.setSource_pmu : (d.setSource k r f).pmu = d.pmu := rfl
@[simp] theorem Dev.setSource_hdc : (d.setSource k r f).hdc = d.hdc := rfl
@[simp] theorem Dev.setSource_pip : (d.setSource k r f).pip = d.pip := rfl
@[simp] theorem Dev.setSource_wbf : (d.setSource k r f).wbf = d.wbf := rfl
@[simp] theorem Dev.setSource_dir : (d.setSource k r f).dir = d.dir := rfl
@[simp] theorem Dev.setSource_sdr : (d.setSource k r f).sdr = d.sdr := rfl
@[simp] theorem Dev.setSource_cnf : (d.setSource k r f).cnf = d.cnf := rfl
@[simp] theorem Dev.setSource_dep : (d.setSource k r f).dep = d.dep := rfl
@[simp] theorem Dev.setSource_apd : (d.setSource k r f).apd = d.apd := rfl
@[simp] theorem Dev.setSource_hie : (d.setSource k r f).hie = d.hie := rfl
@[simp] theorem Dev.setSource_twn : (d.setSource k r f).twn = d.twn := rfl
@[simp] theorem Dev.setSource_dsc : (d.setSource k r f).dsc = d.dsc := rfl
@[simp] theorem Dev.setSource_ecc : (d.setSource k r f).ecc = d.ecc := rfl
@[simp] theorem Dev.setSource_scb : (d.setSource k r f).scb = d.scb := rfl
@[simp] theorem Dev.setSource_store : (d.setSource k r f).store = d.store := rfl
@[simp] theorem Dev.setSource_ports : (d.setSource k r f).ports = d.ports := rfl
@[simp] theorem Dev.setSource_tw : (d.setSource k r f).tw = d.tw := rfl
@[simp] theorem Dev.setSource_mps : (d.setSource k r f).mps = d.mps := rfl
@[simp] theorem Dev.setSource_sent : (d.setSource k r f).sent = d.sent := rfl
@[simp] theorem Dev.setSource_free : (d.setSource k r f).free = d.free := rfl
end

section
variable (d : Dev) (c : Bool) (f : FieldRef)
@[simp] theorem Dev.raiseIf_gcr : (d.raiseIf c f).gcr = d.gcr := by unfold Dev.raiseIf; split <;> rfl
@[simp] theorem Dev.raiseIf_accH : (d.raiseIf c f).accH = d.accH := by unfold Dev.raiseIf; split <;> rfl
@[simp] theorem Dev.raiseIf_accC : (d.raiseIf c f).accC = d.accC := by unfold Dev.raiseIf; split <;> rfl
@[simp] theorem Dev.raiseIf_accI : (d.raiseIf c f).accI = d.accI := by unfold Dev.raiseIf; split <;> rfl
@[simp] theorem Dev.raiseIf_clk : (d.raiseIf c f).clk = d.clk := by unfold Dev.raiseIf; split <;> rfl
@[simp] theorem Dev.raiseIf_bel : (d.raiseIf c f).bel = d.bel := by unfold Dev.raiseIf; split <;> rfl
@[simp] theorem Dev.raiseIf_pwr : (d.raiseIf c f).pwr = d.pwr := by unfold Dev.raiseIf; split <;> rfl
@[simp] theorem Dev.raiseIf_pur : (d.raiseIf c f).pur = d.pur := by unfold Dev.raiseIf; split <;> rfl
@[simp] theorem Dev.raiseIf_chn : (d.raiseIf c f).chn = d.chn := by unfold Dev.raiseIf; split <;> rfl
@[simp] theorem Dev.raiseIf_cfg : (d.raiseIf c f).cfg = d.cfg := by unfold Dev.raiseIf; split <;> rfl
@[simp] theorem Dev.raiseIf_hst : (d.raiseIf c f).hst = d.hst := by unfold Dev.raiseIf; split <;> rfl
@[simp] theorem Dev.raiseIf_evc : (d.raiseIf c f).evc = d.evc := by unfold Dev.raiseIf; split <;> rfl
@[simp] theorem Dev.raiseIf_que : (d.raiseIf c f).que = d.que := by unfold Dev.raiseIf; split <;> rfl
@[simp] theorem Dev.raiseIf_pmu : (d.raiseIf c f).pmu = d.pmu := by unfold Dev.raiseIf; split <;> rfl
@[simp] theorem Dev.raiseIf_hdc : (d.raiseIf c f).hdc = d.hdc := by unfold Dev.raiseIf; split <;> rfl
@[simp] theorem Dev.raiseIf_pip : (d.raiseIf c f).pip = d.pip := by unfold Dev.raiseIf; split <;> rfl
@[simp] theorem Dev.raiseIf_wbf : (d.raiseIf c f).wbf = d.wbf := by unfold Dev.raiseIf; split <;> rfl
@[simp] theorem Dev.raiseIf_dir : (d.raiseIf c f).dir = d.dir := by unfold Dev.raiseIf; split <;> rfl
@[simp] theorem Dev.raiseIf_sdr : (d.raiseIf c f).sdr = d.sdr := by unfold Dev.raiseIf; split <;> rfl
@[simp] theorem Dev.raiseIf_cnf : (d.raiseIf c f).cnf = d.cnf := by unfold Dev.raiseIf; split <;> rfl
@[simp] theorem Dev.raiseIf_dep : (d.raiseIf c f).dep = d.dep := by unfold Dev.raiseIf; split <;> rfl
@[simp] theorem Dev.raiseIf_apd : (d.raiseIf c f).apd = d.apd := by unfold Dev.raiseIf; split <;> rfl
@[simp] theorem Dev.raiseIf_hie : (d.raiseIf c f).hie = d.hie := by unfold Dev.raiseIf; split <;> rfl
@[simp] theorem Dev.raiseIf_twn : (d.raiseIf c f).twn = d.twn := by unfold Dev.raiseIf; split <;> rfl
@[simp] theorem Dev.raiseIf_dsc : (d.raiseIf c f).dsc = d.dsc := by unfold Dev.raiseIf; split <;> rfl
@[simp] theorem Dev.raiseIf_ecc : (d.raiseIf c f).ecc = d.ecc := by unfold Dev.raiseIf; split <;> rfl
@[simp] theorem Dev.raiseIf_scb : (d.raiseIf c f).scb = d.scb := by unfold Dev.raiseIf; split <;> rfl
@[simp] theorem Dev.raiseIf_store : (d.raiseIf c f).store = d.store := by unfold Dev.raiseIf; split <;> rfl
@[simp] theorem Dev.raiseIf_ports : (d.raiseIf c f).ports = d.ports := by unfold Dev.raiseIf; split <;> rfl
@[simp] theorem Dev.raiseIf_tw : (d.raiseIf c f).tw = d.tw := by unfold Dev.raiseIf; split <;> rfl
@[simp] theorem Dev.raiseIf_mps : (d.raiseIf c f).mps = d.mps := by unfold Dev.raiseIf; split <;> rfl
@[simp] theorem Dev.raiseIf_sent : (d.raiseIf c f).sent = d.sent := by unfold Dev.raiseIf; split <;> rfl
@[simp] theorem Dev.raiseIf_free : (d.raiseIf c f).free = d.free := by unfold Dev.raiseIf; split <;> rfl
end

section
variable (d : Dev) (n : Nat) (p : Port)
@[simp] theorem Dev.setPort_gcr : (d.setPort n p).gcr = d.gcr := by unfold Dev.setPort; split <;> rfl
@[simp] theorem Dev.setPort_regs : (d.setPort n p).regs = d.regs := by unfold Dev.setPort; split <;> rfl
@[simp] theorem Dev.setPort_accH : (d.setPort n p).accH = d.accH := by unfold Dev.setPort; split <;> rfl
@[simp] theorem Dev.setPort_accC : (d.setPort n p).accC = d.accC := by unfold Dev.setPort; split <;> rfl
@[simp] theorem Dev.setPort_accI : (d.setPort n p).accI = d.accI := by unfold Dev.setPort; split <;> rfl
@[simp] theorem Dev.setPort_clk : (d.setPort n p).clk = d.clk := by unfold Dev.setPort; split <;> rfl
@[simp] theorem Dev.setPort_bel : (d.setPort n p).bel = d.bel := by unfold Dev.setPort; split <;> rfl
@[simp] theorem Dev.setPort_pwr : (d.setPort n p).pwr = d.pwr := by unfold Dev.setPort; split <;> rfl
@[simp] theorem Dev.setPort_pur : (d.setPort n p).pur = d.pur := by unfold Dev.setPort; split <;> rfl
@[simp] theorem Dev.setPort_chn : (d.setPort n p).chn = d.chn := by unfold Dev.setPort; split <;> rfl
@[simp] theorem Dev.setPort_cfg : (d.setPort n p).cfg = d.cfg := by unfold Dev.setPort; split <;> rfl
@[simp] theorem Dev.setPort_hst : (d.setPort n p).hst = d.hst := by unfold Dev.setPort; split <;> rfl
@[simp] theorem Dev.setPort_evc : (d.setPort n p).evc = d.evc := by unfold Dev.setPort; split <;> rfl
@[simp] theorem Dev.setPort_que : (d.setPort n p).que = d.que := by unfold Dev.setPort; split <;> rfl
@[simp] theorem Dev.setPort_pmu : (d.setPort n p).pmu = d.pmu := by unfold Dev.setPort; split <;> rfl
@[simp] theorem Dev.setPort_hdc : (d.setPort n p).hdc = d.hdc := by unfold Dev.setPort; split <;> rfl
@[simp] theorem Dev.setPort_pip : (d.setPort n p).pip = d.pip := by unfold Dev.setPort; split <;> rfl
@[simp] theorem Dev.setPort_wbf : (d.setPort n p).wbf = d.wbf := by unfold Dev.setPort; split <;> rfl
@[simp] theorem Dev.setPort_dir : (d.setPort n p).dir = d.dir := by unfold Dev.setPort; split <;> rfl
@[simp] theorem Dev.setPort_sdr : (d.setPort n p).sdr = d.sdr := by unfold Dev.setPort; split <;> rfl
@[simp] theorem Dev.setPort_cnf : (d.setPort n p).cnf = d.cnf := by unfold Dev.setPort; split <;> rfl
@[simp] theorem Dev.setPort_dep : (d.setPort n p).dep = d.dep := by unfold Dev.setPort; split <;> rfl
@[simp] theorem Dev.setPort_apd : (d.setPort n p).apd = d.apd := by unfold Dev.setPort; split <;> rfl
@[simp] theorem Dev.setPort_hie : (d.setPort n p).hie = d.hie := by unfold Dev.setPort; split <;> rfl
@[simp] theorem Dev.setPort_twn : (d.setPort n p).twn = d.twn := by unfold Dev.setPort; split <;> rfl
@[simp] theorem Dev.setPort_dsc : (d.setPort n p).dsc = d.dsc := by unfold Dev.setPort; split <;> rfl
@[simp] theorem Dev.setPort_ecc : (d.setPort n p).ecc = d.ecc := by unfold Dev.setPort; split <;> rfl
@[simp] theorem Dev.setPort_scb : (d.setPort n p).scb = d.scb := by unfold Dev.setPort; split <;> rfl
@[simp] theorem Dev.setPort_store : (d.setPort n p).store = d.store := by unfold Dev.setPort; split <;> rfl
@[simp] theorem Dev.setPort_mps : (d.setPort n p).mps = d.mps := by unfold Dev.setPort; split <;> rfl
@[simp] theorem Dev.setPort_sent : (d.setPort n p).sent = d.sent := by unfold Dev.setPort; split <;> rfl
@[simp] theorem Dev.setPort_free : (d.setPort n p).free = d.free := by unfold Dev.setPort; split <;> rfl
end

section
variable (d : Dev) (i : Item)
@[simp] theorem Dev.mirror_gcr : (d.mirror i).gcr = d.gcr := by unfold Dev.mirror; split <;> rfl
@[simp] theorem Dev.mirror_regs : (d.mirror i).regs = d.regs := by unfold Dev.mirror; split <;> rfl
@[simp] theorem Dev.mirror_accH : (d.mirror i).accH = d.accH := by unfold Dev.mirror; split <;> rfl
@[simp] theorem Dev.mirror_accC : (d.mirror i).accC = d.accC := by unfold Dev.mirror; split <;> rfl
@[simp] theorem Dev.mirror_accI : (d.mirror i).accI = d.accI := by unfold Dev.mirror; split <;> rfl
@[simp] theorem Dev.mirror_clk : (d.mirror i).clk = d.clk := by unfold Dev.mirror; split <;> rfl
@[simp] theorem Dev.mirror_bel : (d.mirror i).bel = d.bel := by unfold Dev.mirror; split <;> rfl
@[simp] theorem Dev.mirror_pwr : (d.mirror i).pwr = d.pwr := by unfold Dev.mirror; split <;> rfl
@[simp] theorem Dev.mirror_pur : (d.mirror i).pur = d.pur := by unfold Dev.mirror; split <;> rfl
@[simp] theorem Dev.mirror_chn : (d.mirror i).chn = d.chn := by unfold Dev.mirror; split <;> rfl
@[simp] theorem Dev.mirror_cfg : (d.mirror i).cfg = d.cfg := by unfold Dev.mirror; split <;> rfl
@[simp] theorem Dev.mirror_hst : (d.mirror i).hst = d.hst := by unfold Dev.mirror; split <;> rfl
@[simp] theorem Dev.mirror_evc : (d.mirror i).evc = d.evc := by unfold Dev.mirror; split <;> rfl
@[simp] theorem Dev.mirror_que : (d.mirror i).que = d.que := by unfold Dev.mirror; split <;> rfl
@[simp] theorem Dev.mirror_pmu : (d.mirror i).pmu = d.pmu := by unfold Dev.mirror; split <;> rfl
@[simp] theorem Dev.mirror_hdc : (d.mirror i).hdc = d.hdc := by unfold Dev.mirror; split <;> rfl
@[simp] theorem Dev.mirror_pip : (d.mirror i).pip = d.pip := by unfold Dev.mirror; split <;> rfl
@[simp] theorem Dev.mirror_wbf : (d.mirror i).wbf = d.wbf := by unfold Dev.mirror; split <;> rfl
@[simp] theorem Dev.mirror_dir : (d.mirror i).dir = d.dir := by unfold Dev.mirror; split <;> rfl
@[simp] theorem Dev.mirror_sdr : (d.mirror i).sdr = d.sdr := by unfold Dev.mirror; split <;> rfl
@[simp] theorem Dev.mirror_cnf : (d.mirror i).cnf = d.cnf := by unfold Dev.mirror; split <;> rfl
@[simp] theorem Dev.mirror_dep : (d.mirror i).dep = d.dep := by unfold Dev.mirror; split <;> rfl
@[simp] theorem Dev.mirror_apd : (d.mirror i).apd = d.apd := by unfold Dev.mirror; split <;> rfl
@[simp] theorem Dev.mirror_hie : (d.mirror i).hie = d.hie := by unfold Dev.mirror; split <;> rfl
@[simp] theorem Dev.mirror_dsc : (d.mirror i).dsc = d.dsc := by unfold Dev.mirror; split <;> rfl
@[simp] theorem Dev.mirror_ecc : (d.mirror i).ecc = d.ecc := by unfold Dev.mirror; split <;> rfl
@[simp] theorem Dev.mirror_scb : (d.mirror i).scb = d.scb := by unfold Dev.mirror; split <;> rfl
@[simp] theorem Dev.mirror_store : (d.mirror i).store = d.store := by unfold Dev.mirror; split <;> rfl
@[simp] theorem Dev.mirror_ports : (d.mirror i).ports = d.ports := by unfold Dev.mirror; split <;> rfl
@[simp] theorem Dev.mirror_tw : (d.mirror i).tw = d.tw := by unfold Dev.mirror; split <;> rfl
@[simp] theorem Dev.mirror_mps : (d.mirror i).mps = d.mps := by unfold Dev.mirror; split <;> rfl
@[simp] theorem Dev.mirror_sent : (d.mirror i).sent = d.sent := by unfold Dev.mirror; split <;> rfl
@[simp] theorem Dev.mirror_free : (d.mirror i).free = d.free := by unfold Dev.mirror; split <;> rfl
end

@[simp] theorem Dev.emit_sent (d : Dev) (o : Out) : (d.emit o).sent = o :: d.sent := rfl
end Sys2Proof.Machine
end

