-- ==== Sys2Proof/Laws/Settle.lean ====
section
/-! SUPPORT. What follows every command (`settle`): it moves the mirror stream on and acts on the vectors, and leaves every
other piece of state alone. -/

namespace Sys2Proof.Machine

set_option Elab.async false

/-- The device differs from another at most in what sending a mirror flit and MSI-X messages changes. -/
structure SettleRel (d e : Dev) : Prop where
  gcr : e.gcr = d.gcr
  regs : e.regs = d.regs
  accH : e.accH = d.accH
  accC : e.accC = d.accC
  accI : e.accI = d.accI
  clk : e.clk = d.clk
  bel : e.bel = d.bel
  pwr : e.pwr = d.pwr
  pur : e.pur = d.pur
  chn : e.chn = d.chn
  cfg : e.cfg = d.cfg
  que : e.que = d.que
  hdc : e.hdc = d.hdc
  pip : e.pip = d.pip
  wbf : e.wbf = d.wbf
  dir : e.dir = d.dir
  sdr : e.sdr = d.sdr
  cnf : e.cnf = d.cnf
  dep : e.dep = d.dep
  apd : e.apd = d.apd
  hie : e.hie = d.hie
  dsc : e.dsc = d.dsc
  ecc : e.ecc = d.ecc
  scb : e.scb = d.scb
  store : e.store = d.store
  ports : e.ports = d.ports
  mps : e.mps = d.mps
  twn_st : e.twn.st = d.twn.st
  twn_mirror : e.twn.mirror = d.twn.mirror
  twn_peer : e.twn.peer = d.twn.peer
  twn_epoch : e.twn.epoch = d.twn.epoch
  twn_held : e.twn.held = d.twn.held
  twn_queue : e.twn.queue = d.twn.queue
  twn_log : e.twn.log = d.twn.log
  twn_window : e.twn.window = d.twn.window
  twn_slotWin : e.twn.slotWin = d.twn.slotWin
  twn_unsent : e.twn.unsent = d.twn.unsent
  twn_phase : e.twn.phase = d.twn.phase
  twn_alone : e.twn.alone = d.twn.alone
  twn_candidate : e.twn.candidate = d.twn.candidate
  twn_fromCopy : e.twn.fromCopy = d.twn.fromCopy
  twn_dirtyWait : e.twn.dirtyWait = d.twn.dirtyWait
  twn_reported : e.twn.reported = d.twn.reported
  twn_liveLines : e.twn.liveLines = d.twn.liveLines
  twn_liveTxns : e.twn.liveTxns = d.twn.liveTxns
  twn_lines : e.twn.lines = d.twn.lines
  twn_cleaned : e.twn.cleaned = d.twn.cleaned
  twn_hseqs : e.twn.hseqs = d.twn.hseqs
  twn_heard : e.twn.heard = d.twn.heard
  twn_matched : e.twn.matched = d.twn.matched
  twn_cur : e.twn.cur = d.twn.cur
  twn_copyUn : e.twn.copyUn = d.twn.copyUn
  twn_chunk : e.twn.chunk = d.twn.chunk
  twn_found : e.twn.found = d.twn.found
  twn_jobs : e.twn.jobs = d.twn.jobs
  twn_arriving : e.twn.arriving = d.twn.arriving
  twn_placed : e.twn.placed = d.twn.placed
  tw_st : e.tw.st = d.tw.st
  tw_width : e.tw.width = d.tw.width
  tw_rate : e.tw.rate = d.tw.rate
  tw_peerKind : e.tw.peerKind = d.tw.peerKind
  tw_peerAddr : e.tw.peerAddr = d.tw.peerAddr
  tw_peerPort : e.tw.peerPort = d.tw.peerPort
  tw_lost : e.tw.lost = d.tw.lost
  tw_draining : e.tw.draining = d.tw.draining
  tw_rxSeq : e.tw.rxSeq = d.tw.rxSeq
  tw_ackd : e.tw.ackd = d.tw.ackd
  tw_naked : e.tw.naked = d.tw.naked
  tw_lastNak : e.tw.lastNak = d.tw.lastNak
  tw_replays : e.tw.replays = d.tw.replays
  tw_fails : e.tw.fails = d.tw.fails
  tw_keep : e.tw.keep = d.tw.keep
  tw_cSnp : e.tw.cSnp = d.tw.cSnp
  tw_cRsp : e.tw.cRsp = d.tw.cRsp
  tw_cDat : e.tw.cDat = d.tw.cDat
  tw_cWb : e.tw.cWb = d.tw.cWb
  tw_inReq : e.tw.inReq = d.tw.inReq
  tw_inSnp : e.tw.inSnp = d.tw.inSnp
  tw_inRsp : e.tw.inRsp = d.tw.inRsp
  tw_inDat : e.tw.inDat = d.tw.inDat
  tw_inWb : e.tw.inWb = d.tw.inWb
  tw_outReq : e.tw.outReq = d.tw.outReq
  tw_outSnp : e.tw.outSnp = d.tw.outSnp
  tw_outRsp : e.tw.outRsp = d.tw.outRsp
  tw_outDat : e.tw.outDat = d.tw.outDat
  tw_outWb : e.tw.outWb = d.tw.outWb
  tw_pReq : e.tw.pReq = d.tw.pReq
  tw_pSnp : e.tw.pSnp = d.tw.pSnp
  tw_pRsp : e.tw.pRsp = d.tw.pRsp
  tw_pDat : e.tw.pDat = d.tw.pDat
  tw_pWb : e.tw.pWb = d.tw.pWb
  tw_txq : e.tw.txq = d.tw.txq
  tw_proposed : e.tw.proposed = d.tw.proposed
  tw_peerBad : e.tw.peerBad = d.tw.peerBad
  tw_crossRefused : e.tw.crossRefused = d.tw.crossRefused
  tw_adv : e.tw.adv = d.tw.adv
  tw_unplaced : e.tw.unplaced = d.tw.unplaced
  tw_more : e.tw.more = d.tw.more
  tw_late : e.tw.late = d.tw.late
  tw_cut : e.tw.cut = d.tw.cut
  evc_owed : e.evc.owed = d.evc.owed
  evc_frames : e.evc.frames = d.evc.frames
  hst_up : e.hst.up = d.hst.up
  hst_width : e.hst.width = d.hst.width
  hst_rate : e.hst.rate = d.hst.rate
  hst_table : e.hst.table = d.hst.table
  hst_fmask : e.hst.fmask = d.hst.fmask
  hst_busMaster : e.hst.busMaster = d.hst.busMaster
  sent : d.sent <:+ e.sent

theorem SettleRel.refl (d : Dev) : SettleRel d d :=
  ⟨rfl, rfl, rfl, rfl, rfl, rfl, rfl, rfl, rfl, rfl, rfl, rfl,
   rfl, rfl, rfl, rfl, rfl, rfl, rfl, rfl, rfl, rfl, rfl, rfl, rfl, rfl, rfl, rfl, rfl, rfl, rfl, rfl, rfl, rfl, rfl,
   rfl, rfl, rfl, rfl, rfl, rfl, rfl, rfl, rfl, rfl, rfl, rfl, rfl, rfl, rfl, rfl, rfl, rfl, rfl, rfl, rfl, rfl, rfl,
   rfl, rfl, rfl, rfl, rfl, rfl, rfl, rfl, rfl, rfl, rfl, rfl, rfl, rfl, rfl, rfl, rfl, rfl, rfl, rfl, rfl, rfl, rfl,
   rfl, rfl, rfl, rfl, rfl, rfl, rfl, rfl, rfl, rfl, rfl, rfl, rfl, rfl, rfl, rfl, rfl, rfl, rfl, rfl, rfl, rfl, rfl,
   rfl, rfl, rfl, rfl, List.suffix_rfl⟩

theorem SettleRel.trans {a b c : Dev} (h : SettleRel a b) (k : SettleRel b c) : SettleRel a c :=
  ⟨
   k.gcr.trans h.gcr, k.regs.trans h.regs, k.accH.trans h.accH, k.accC.trans h.accC, k.accI.trans h.accI,
   k.clk.trans h.clk, k.bel.trans h.bel, k.pwr.trans h.pwr, k.pur.trans h.pur, k.chn.trans h.chn, k.cfg.trans h.cfg,
   k.que.trans h.que, k.hdc.trans h.hdc, k.pip.trans h.pip, k.wbf.trans h.wbf, k.dir.trans h.dir, k.sdr.trans h.sdr,
   k.cnf.trans h.cnf, k.dep.trans h.dep, k.apd.trans h.apd, k.hie.trans h.hie, k.dsc.trans h.dsc, k.ecc.trans h.ecc,
   k.scb.trans h.scb, k.store.trans h.store, k.ports.trans h.ports, k.mps.trans h.mps, k.twn_st.trans h.twn_st,
   k.twn_mirror.trans h.twn_mirror, k.twn_peer.trans h.twn_peer, k.twn_epoch.trans h.twn_epoch,
   k.twn_held.trans h.twn_held, k.twn_queue.trans h.twn_queue, k.twn_log.trans h.twn_log,
   k.twn_window.trans h.twn_window, k.twn_slotWin.trans h.twn_slotWin, k.twn_unsent.trans h.twn_unsent,
   k.twn_phase.trans h.twn_phase, k.twn_alone.trans h.twn_alone, k.twn_candidate.trans h.twn_candidate,
   k.twn_fromCopy.trans h.twn_fromCopy, k.twn_dirtyWait.trans h.twn_dirtyWait, k.twn_reported.trans h.twn_reported,
   k.twn_liveLines.trans h.twn_liveLines, k.twn_liveTxns.trans h.twn_liveTxns, k.twn_lines.trans h.twn_lines,
   k.twn_cleaned.trans h.twn_cleaned, k.twn_hseqs.trans h.twn_hseqs, k.twn_heard.trans h.twn_heard,
   k.twn_matched.trans h.twn_matched, k.twn_cur.trans h.twn_cur, k.twn_copyUn.trans h.twn_copyUn,
   k.twn_chunk.trans h.twn_chunk, k.twn_found.trans h.twn_found, k.twn_jobs.trans h.twn_jobs,
   k.twn_arriving.trans h.twn_arriving, k.twn_placed.trans h.twn_placed, k.tw_st.trans h.tw_st,
   k.tw_width.trans h.tw_width, k.tw_rate.trans h.tw_rate, k.tw_peerKind.trans h.tw_peerKind,
   k.tw_peerAddr.trans h.tw_peerAddr, k.tw_peerPort.trans h.tw_peerPort, k.tw_lost.trans h.tw_lost,
   k.tw_draining.trans h.tw_draining, k.tw_rxSeq.trans h.tw_rxSeq, k.tw_ackd.trans h.tw_ackd,
   k.tw_naked.trans h.tw_naked, k.tw_lastNak.trans h.tw_lastNak, k.tw_replays.trans h.tw_replays,
   k.tw_fails.trans h.tw_fails, k.tw_keep.trans h.tw_keep, k.tw_cSnp.trans h.tw_cSnp, k.tw_cRsp.trans h.tw_cRsp,
   k.tw_cDat.trans h.tw_cDat, k.tw_cWb.trans h.tw_cWb, k.tw_inReq.trans h.tw_inReq, k.tw_inSnp.trans h.tw_inSnp,
   k.tw_inRsp.trans h.tw_inRsp, k.tw_inDat.trans h.tw_inDat, k.tw_inWb.trans h.tw_inWb,
   k.tw_outReq.trans h.tw_outReq, k.tw_outSnp.trans h.tw_outSnp, k.tw_outRsp.trans h.tw_outRsp,
   k.tw_outDat.trans h.tw_outDat, k.tw_outWb.trans h.tw_outWb, k.tw_pReq.trans h.tw_pReq, k.tw_pSnp.trans h.tw_pSnp,
   k.tw_pRsp.trans h.tw_pRsp, k.tw_pDat.trans h.tw_pDat, k.tw_pWb.trans h.tw_pWb, k.tw_txq.trans h.tw_txq,
   k.tw_proposed.trans h.tw_proposed, k.tw_peerBad.trans h.tw_peerBad, k.tw_crossRefused.trans h.tw_crossRefused,
   k.tw_adv.trans h.tw_adv, k.tw_unplaced.trans h.tw_unplaced, k.tw_more.trans h.tw_more, k.tw_late.trans h.tw_late,
   k.tw_cut.trans h.tw_cut, k.evc_owed.trans h.evc_owed, k.evc_frames.trans h.evc_frames, k.hst_up.trans h.hst_up,
   k.hst_width.trans h.hst_width, k.hst_rate.trans h.hst_rate, k.hst_table.trans h.hst_table,
   k.hst_fmask.trans h.hst_fmask, k.hst_busMaster.trans h.hst_busMaster, h.sent.trans k.sent⟩

theorem emitFlit_tw_rel (d : Dev) (fk seq : Nat) (slots : BitVec 1920) (mark : Nat) :
    SettleRel d (d.emitFlit twPort fk seq slots mark) := by
  have h : d.emitFlit twPort fk seq slots mark =
      { d with tw := d.tw.tell, sent := .flit twPort (Flit.sealed slots (d.tw.tell.trailer fk seq mark)) :: d.sent } := by
    simp [Dev.emitFlit, Dev.setPort, Dev.port, Dev.emit, twPort]
  rw [h]
  constructor <;> first | rfl | exact List.suffix_cons _ _

theorem idleFlit_tw_rel (d : Dev) : SettleRel d (d.idleFlit twPort) := emitFlit_tw_rel ..

theorem dataOut_tw_rel (d : Dev) (slots : BitVec 1920) (mark : Nat) : SettleRel d (d.dataOut twPort slots mark) := by
  unfold Dev.dataOut
  refine SettleRel.trans ?_ (emitFlit_tw_rel ..)
  rw [show ∀ p, d.setPort twPort p = { d with tw := p } by intro p; simp [Dev.setPort, twPort],
    show d.port twPort = d.tw by simp [Dev.port, twPort]]
  constructor <;> rfl

theorem pumpTwin_rel (l : List (Nat × List Item)) (d : Dev) : SettleRel d (Dev.pumpTwin l d) := by
  induction l generalizing d with
  | nil => constructor <;> rfl
  | cons f l ih =>
    unfold Dev.pumpTwin
    split
    · refine SettleRel.trans ?_ (ih _)
      refine SettleRel.trans ?_ (dataOut_tw_rel ..)
      constructor <;> first | rfl | exact List.suffix_cons _ _
    · constructor <;> rfl

theorem pumpTw_rel (d : Dev) : SettleRel d d.pumpTw := by
  unfold Dev.pumpTw Dev.twIdle
  split
  · exact SettleRel.refl d
  · split
    · exact (pumpTwin_rel _ _).trans (idleFlit_tw_rel _)
    · exact pumpTwin_rel _ _

theorem liveFlits_rel (l : List (List Item)) (d : Dev) : SettleRel d (l.foldl Dev.liveFlit d) := by
  induction l generalizing d with
  | nil => exact SettleRel.refl d
  | cons i l ih =>
    refine SettleRel.trans ?_ (ih _)
    constructor <;> rfl

theorem flushTwin_rel (d : Dev) : SettleRel d d.flushTwin := by
  unfold Dev.flushTwin
  split
  · exact SettleRel.refl d
  · refine SettleRel.trans (SettleRel.trans ?_ (liveFlits_rel _ _)) (pumpTw_rel _)
    constructor <;> rfl

theorem settleVec_rel (c : Nat) (d : Dev) (v : Nat) : SettleRel d (Dev.settleVec c d v) := by
  unfold Dev.settleVec Dev.sendMsix
  dsimp only
  repeat' split
  all_goals constructor <;> first | rfl | exact List.suffix_cons _ _

theorem settleVecs_rel (c : Nat) (l : List Nat) (d : Dev) : SettleRel d (l.foldl (Dev.settleVec c) d) := by
  induction l generalizing d with
  | nil => exact SettleRel.refl d
  | cons v l ih => exact (settleVec_rel c d v).trans (ih _)

theorem settle_rel (d : Dev) : SettleRel d (settle d) := by
  unfold settle
  refine (flushTwin_rel d).trans ?_
  dsimp only
  split
  · constructor <;> rfl
  · refine SettleRel.trans ?_ (settleVecs_rel _ _ _)
    constructor <;> rfl

section
variable (d : Dev)
@[simp] theorem settle_gcr : (settle d).gcr = d.gcr := (settle_rel d).gcr
@[simp] theorem settle_regs : (settle d).regs = d.regs := (settle_rel d).regs
@[simp] theorem settle_accH : (settle d).accH = d.accH := (settle_rel d).accH
@[simp] theorem settle_accC : (settle d).accC = d.accC := (settle_rel d).accC
@[simp] theorem settle_accI : (settle d).accI = d.accI := (settle_rel d).accI
@[simp] theorem settle_clk : (settle d).clk = d.clk := (settle_rel d).clk
@[simp] theorem settle_bel : (settle d).bel = d.bel := (settle_rel d).bel
@[simp] theorem settle_pwr : (settle d).pwr = d.pwr := (settle_rel d).pwr
@[simp] theorem settle_pur : (settle d).pur = d.pur := (settle_rel d).pur
@[simp] theorem settle_chn : (settle d).chn = d.chn := (settle_rel d).chn
@[simp] theorem settle_cfg : (settle d).cfg = d.cfg := (settle_rel d).cfg
@[simp] theorem settle_que : (settle d).que = d.que := (settle_rel d).que
@[simp] theorem settle_hdc : (settle d).hdc = d.hdc := (settle_rel d).hdc
@[simp] theorem settle_pip : (settle d).pip = d.pip := (settle_rel d).pip
@[simp] theorem settle_wbf : (settle d).wbf = d.wbf := (settle_rel d).wbf
@[simp] theorem settle_dir : (settle d).dir = d.dir := (settle_rel d).dir
@[simp] theorem settle_sdr : (settle d).sdr = d.sdr := (settle_rel d).sdr
@[simp] theorem settle_cnf : (settle d).cnf = d.cnf := (settle_rel d).cnf
@[simp] theorem settle_dep : (settle d).dep = d.dep := (settle_rel d).dep
@[simp] theorem settle_apd : (settle d).apd = d.apd := (settle_rel d).apd
@[simp] theorem settle_hie : (settle d).hie = d.hie := (settle_rel d).hie
@[simp] theorem settle_dsc : (settle d).dsc = d.dsc := (settle_rel d).dsc
@[simp] theorem settle_ecc : (settle d).ecc = d.ecc := (settle_rel d).ecc
@[simp] theorem settle_scb : (settle d).scb = d.scb := (settle_rel d).scb
@[simp] theorem settle_store : (settle d).store = d.store := (settle_rel d).store
@[simp] theorem settle_ports : (settle d).ports = d.ports := (settle_rel d).ports
@[simp] theorem settle_mps : (settle d).mps = d.mps := (settle_rel d).mps
@[simp] theorem settle_twn_st : (settle d).twn.st = d.twn.st := (settle_rel d).twn_st
@[simp] theorem settle_twn_mirror : (settle d).twn.mirror = d.twn.mirror := (settle_rel d).twn_mirror
@[simp] theorem settle_twn_peer : (settle d).twn.peer = d.twn.peer := (settle_rel d).twn_peer
@[simp] theorem settle_twn_epoch : (settle d).twn.epoch = d.twn.epoch := (settle_rel d).twn_epoch
@[simp] theorem settle_twn_held : (settle d).twn.held = d.twn.held := (settle_rel d).twn_held
@[simp] theorem settle_twn_queue : (settle d).twn.queue = d.twn.queue := (settle_rel d).twn_queue
@[simp] theorem settle_twn_log : (settle d).twn.log = d.twn.log := (settle_rel d).twn_log
@[simp] theorem settle_twn_window : (settle d).twn.window = d.twn.window := (settle_rel d).twn_window
@[simp] theorem settle_twn_slotWin : (settle d).twn.slotWin = d.twn.slotWin := (settle_rel d).twn_slotWin
@[simp] theorem settle_twn_unsent : (settle d).twn.unsent = d.twn.unsent := (settle_rel d).twn_unsent
@[simp] theorem settle_twn_phase : (settle d).twn.phase = d.twn.phase := (settle_rel d).twn_phase
@[simp] theorem settle_twn_alone : (settle d).twn.alone = d.twn.alone := (settle_rel d).twn_alone
@[simp] theorem settle_twn_candidate : (settle d).twn.candidate = d.twn.candidate := (settle_rel d).twn_candidate
@[simp] theorem settle_twn_fromCopy : (settle d).twn.fromCopy = d.twn.fromCopy := (settle_rel d).twn_fromCopy
@[simp] theorem settle_twn_dirtyWait : (settle d).twn.dirtyWait = d.twn.dirtyWait := (settle_rel d).twn_dirtyWait
@[simp] theorem settle_twn_reported : (settle d).twn.reported = d.twn.reported := (settle_rel d).twn_reported
@[simp] theorem settle_twn_liveLines : (settle d).twn.liveLines = d.twn.liveLines := (settle_rel d).twn_liveLines
@[simp] theorem settle_twn_liveTxns : (settle d).twn.liveTxns = d.twn.liveTxns := (settle_rel d).twn_liveTxns
@[simp] theorem settle_twn_lines : (settle d).twn.lines = d.twn.lines := (settle_rel d).twn_lines
@[simp] theorem settle_twn_cleaned : (settle d).twn.cleaned = d.twn.cleaned := (settle_rel d).twn_cleaned
@[simp] theorem settle_twn_hseqs : (settle d).twn.hseqs = d.twn.hseqs := (settle_rel d).twn_hseqs
@[simp] theorem settle_twn_heard : (settle d).twn.heard = d.twn.heard := (settle_rel d).twn_heard
@[simp] theorem settle_twn_matched : (settle d).twn.matched = d.twn.matched := (settle_rel d).twn_matched
@[simp] theorem settle_twn_cur : (settle d).twn.cur = d.twn.cur := (settle_rel d).twn_cur
@[simp] theorem settle_twn_copyUn : (settle d).twn.copyUn = d.twn.copyUn := (settle_rel d).twn_copyUn
@[simp] theorem settle_twn_chunk : (settle d).twn.chunk = d.twn.chunk := (settle_rel d).twn_chunk
@[simp] theorem settle_twn_found : (settle d).twn.found = d.twn.found := (settle_rel d).twn_found
@[simp] theorem settle_twn_jobs : (settle d).twn.jobs = d.twn.jobs := (settle_rel d).twn_jobs
@[simp] theorem settle_twn_arriving : (settle d).twn.arriving = d.twn.arriving := (settle_rel d).twn_arriving
@[simp] theorem settle_twn_placed : (settle d).twn.placed = d.twn.placed := (settle_rel d).twn_placed
@[simp] theorem settle_tw_st : (settle d).tw.st = d.tw.st := (settle_rel d).tw_st
@[simp] theorem settle_tw_width : (settle d).tw.width = d.tw.width := (settle_rel d).tw_width
@[simp] theorem settle_tw_rate : (settle d).tw.rate = d.tw.rate := (settle_rel d).tw_rate
@[simp] theorem settle_tw_peerKind : (settle d).tw.peerKind = d.tw.peerKind := (settle_rel d).tw_peerKind
@[simp] theorem settle_tw_peerAddr : (settle d).tw.peerAddr = d.tw.peerAddr := (settle_rel d).tw_peerAddr
@[simp] theorem settle_tw_peerPort : (settle d).tw.peerPort = d.tw.peerPort := (settle_rel d).tw_peerPort
@[simp] theorem settle_tw_lost : (settle d).tw.lost = d.tw.lost := (settle_rel d).tw_lost
@[simp] theorem settle_tw_draining : (settle d).tw.draining = d.tw.draining := (settle_rel d).tw_draining
@[simp] theorem settle_tw_rxSeq : (settle d).tw.rxSeq = d.tw.rxSeq := (settle_rel d).tw_rxSeq
@[simp] theorem settle_tw_ackd : (settle d).tw.ackd = d.tw.ackd := (settle_rel d).tw_ackd
@[simp] theorem settle_tw_naked : (settle d).tw.naked = d.tw.naked := (settle_rel d).tw_naked
@[simp] theorem settle_tw_lastNak : (settle d).tw.lastNak = d.tw.lastNak := (settle_rel d).tw_lastNak
@[simp] theorem settle_tw_replays : (settle d).tw.replays = d.tw.replays := (settle_rel d).tw_replays
@[simp] theorem settle_tw_fails : (settle d).tw.fails = d.tw.fails := (settle_rel d).tw_fails
@[simp] theorem settle_tw_keep : (settle d).tw.keep = d.tw.keep := (settle_rel d).tw_keep
@[simp] theorem settle_tw_cSnp : (settle d).tw.cSnp = d.tw.cSnp := (settle_rel d).tw_cSnp
@[simp] theorem settle_tw_cRsp : (settle d).tw.cRsp = d.tw.cRsp := (settle_rel d).tw_cRsp
@[simp] theorem settle_tw_cDat : (settle d).tw.cDat = d.tw.cDat := (settle_rel d).tw_cDat
@[simp] theorem settle_tw_cWb : (settle d).tw.cWb = d.tw.cWb := (settle_rel d).tw_cWb
@[simp] theorem settle_tw_inReq : (settle d).tw.inReq = d.tw.inReq := (settle_rel d).tw_inReq
@[simp] theorem settle_tw_inSnp : (settle d).tw.inSnp = d.tw.inSnp := (settle_rel d).tw_inSnp
@[simp] theorem settle_tw_inRsp : (settle d).tw.inRsp = d.tw.inRsp := (settle_rel d).tw_inRsp
@[simp] theorem settle_tw_inDat : (settle d).tw.inDat = d.tw.inDat := (settle_rel d).tw_inDat
@[simp] theorem settle_tw_inWb : (settle d).tw.inWb = d.tw.inWb := (settle_rel d).tw_inWb
@[simp] theorem settle_tw_outReq : (settle d).tw.outReq = d.tw.outReq := (settle_rel d).tw_outReq
@[simp] theorem settle_tw_outSnp : (settle d).tw.outSnp = d.tw.outSnp := (settle_rel d).tw_outSnp
@[simp] theorem settle_tw_outRsp : (settle d).tw.outRsp = d.tw.outRsp := (settle_rel d).tw_outRsp
@[simp] theorem settle_tw_outDat : (settle d).tw.outDat = d.tw.outDat := (settle_rel d).tw_outDat
@[simp] theorem settle_tw_outWb : (settle d).tw.outWb = d.tw.outWb := (settle_rel d).tw_outWb
@[simp] theorem settle_tw_pReq : (settle d).tw.pReq = d.tw.pReq := (settle_rel d).tw_pReq
@[simp] theorem settle_tw_pSnp : (settle d).tw.pSnp = d.tw.pSnp := (settle_rel d).tw_pSnp
@[simp] theorem settle_tw_pRsp : (settle d).tw.pRsp = d.tw.pRsp := (settle_rel d).tw_pRsp
@[simp] theorem settle_tw_pDat : (settle d).tw.pDat = d.tw.pDat := (settle_rel d).tw_pDat
@[simp] theorem settle_tw_pWb : (settle d).tw.pWb = d.tw.pWb := (settle_rel d).tw_pWb
@[simp] theorem settle_tw_txq : (settle d).tw.txq = d.tw.txq := (settle_rel d).tw_txq
@[simp] theorem settle_tw_proposed : (settle d).tw.proposed = d.tw.proposed := (settle_rel d).tw_proposed
@[simp] theorem settle_tw_peerBad : (settle d).tw.peerBad = d.tw.peerBad := (settle_rel d).tw_peerBad
@[simp] theorem settle_tw_crossRefused : (settle d).tw.crossRefused = d.tw.crossRefused := (settle_rel d).tw_crossRefused
@[simp] theorem settle_tw_adv : (settle d).tw.adv = d.tw.adv := (settle_rel d).tw_adv
@[simp] theorem settle_tw_unplaced : (settle d).tw.unplaced = d.tw.unplaced := (settle_rel d).tw_unplaced
@[simp] theorem settle_tw_more : (settle d).tw.more = d.tw.more := (settle_rel d).tw_more
@[simp] theorem settle_tw_late : (settle d).tw.late = d.tw.late := (settle_rel d).tw_late
@[simp] theorem settle_tw_cut : (settle d).tw.cut = d.tw.cut := (settle_rel d).tw_cut
@[simp] theorem settle_evc_owed : (settle d).evc.owed = d.evc.owed := (settle_rel d).evc_owed
@[simp] theorem settle_evc_frames : (settle d).evc.frames = d.evc.frames := (settle_rel d).evc_frames
@[simp] theorem settle_hst_up : (settle d).hst.up = d.hst.up := (settle_rel d).hst_up
@[simp] theorem settle_hst_width : (settle d).hst.width = d.hst.width := (settle_rel d).hst_width
@[simp] theorem settle_hst_rate : (settle d).hst.rate = d.hst.rate := (settle_rel d).hst_rate
@[simp] theorem settle_hst_table : (settle d).hst.table = d.hst.table := (settle_rel d).hst_table
@[simp] theorem settle_hst_fmask : (settle d).hst.fmask = d.hst.fmask := (settle_rel d).hst_fmask
@[simp] theorem settle_hst_busMaster : (settle d).hst.busMaster = d.hst.busMaster := (settle_rel d).hst_busMaster
end

/-- What the device has driven stays driven. -/
theorem settle_sent {d : Dev} {x : Out} (h : x ∈ d.sent) : x ∈ (settle d).sent := (settle_rel d).sent.subset h

@[simp] theorem settle_port_below (d : Dev) (n : Nat) (h : n ≠ twPort) : (settle d).port n = d.port n := by
  simp [Dev.port, h]

@[simp] theorem settle_port_st (d : Dev) (n : Nat) : ((settle d).port n).st = (d.port n).st := by
  unfold Dev.port; split <;> simp

@[simp] theorem settle_raw (d : Dev) (ofs : Nat) : (settle d).raw ofs = d.raw ofs := by simp [Dev.raw]

@[simp] theorem settle_get (d : Dev) (f : FieldRef) : (settle d).get f = d.get f := by simp [Dev.get]

@[simp] theorem settle_flag (d : Dev) (f : FieldRef) : (settle d).flag f = d.flag f := by simp [Dev.flag]

end Sys2Proof.Machine
end

