-- ==== Sys2Proof/Laws/Exec.lean ====
section
/-! SUPPORT. What each arm of exec is: one equation per command, so that no later proof unfolds the dispatch. -/

namespace Sys2Proof.Machine

set_option Elab.async false

theorem exec_rdShared (h : Head) (s : State) :
    exec (.rdShared h) s =
      s.arrives ⟨h, .rdShared, none⟩ := rfl

theorem exec_rdFetch (h : Head) (s : State) :
    exec (.rdFetch h) s =
      s.arrives ⟨h, .rdFetch, none⟩ := rfl

theorem exec_rdOwn (h : Head) (s : State) :
    exec (.rdOwn h) s =
      s.arrives ⟨h, .rdOwn, none⟩ := rfl

theorem exec_rdOnce (h : Head) (ch : Nat) (s : State) :
    exec (.rdOnce h ch) s =
      s.arrives ⟨h, .rdOnce ch, none⟩ := rfl

theorem exec_upgrade (h : Head) (s : State) :
    exec (.upgrade h) s =
      s.arrives ⟨h, .upgrade, none⟩ := rfl

theorem exec_wrBack (h : Head) (p : Payload) (s : State) :
    exec (.wrBack h p) s =
      onCore s (wrBack h p) := rfl

theorem exec_wrFull (h : Head) (ch : Nat) (p : Payload) (s : State) :
    exec (.wrFull h ch p) s =
      s.arrives ⟨h, .wrFull ch p, none⟩ := rfl

theorem exec_wrPart (h : Head) (ch : Nat) (mask : Mask) (p : Payload) (s : State) :
    exec (.wrPart h ch mask p) s =
      s.arrives ⟨h, .wrPart ch mask p, none⟩ := rfl

theorem exec_depart (h : Head) (count : Nat) (t : BitVec 64) (man dtag odev : Nat) (s : State) :
    exec (.depart h count t man dtag odev) s =
      onCore s (depart h count t man dtag odev) := rfl

theorem exec_append (h : Head) (stream len : Nat) (p : Payload) (s : State) :
    exec (.append h stream len p) s =
      s.arrives ⟨h, .append stream len p, none⟩ := rfl

theorem exec_ticketRetry (h : Head) (tkt : Nat) (b : Body) (s : State) :
    exec (.ticketRetry h tkt b) s =
      s.arrives ⟨h, b, some tkt⟩ := rfl

theorem exec_stbyExpired (tkt : Nat) (s : State) :
    exec (.stbyExpired tkt) s =
      onCore s (stbyExpired tkt) := rfl

theorem exec_reservationFreed (port : Nat) (s : State) :
    exec (.reservationFreed port) s =
      onCore s (reservationFreed port) := rfl

theorem exec_snpData (port txid : Nat) (dty : Bool) (rst : LState) (p : Payload) (s : State) :
    exec (.snpData port txid dty rst p) s =
      onCore s (snpData port txid dty rst p) := rfl

theorem exec_ackaSnoop (port txid : Nat) (s : State) :
    exec (.ackaSnoop port txid) s =
      onCore s (plainAnswer port txid 0x23 .ack) := rfl

theorem exec_ackaGrant (port txid : Nat) (s : State) :
    exec (.ackaGrant port txid) s =
      onCore s (ackaGrant port txid) := rfl

theorem exec_miss (port txid : Nat) (wbp : Bool) (s : State) :
    exec (.miss port txid wbp) s =
      onCore s (plainAnswer port txid 0x24 (.miss wbp)) := rfl

theorem exec_transactionActivate (txid : Nat) (upset : Option Upset) (s : State) :
    exec (.transactionActivate txid upset) s =
      onCore s (fun d => transactionActivate txid (d.arrayRead upset)) := rfl

theorem exec_berthHoldEnd (key : Nat) (s : State) :
    exec (.berthHoldEnd key) s =
      onCore s (berthHoldEnd key) := rfl

theorem exec_rspTimeout (port txid : Nat) (s : State) :
    exec (.rspTimeout port txid) s =
      onCore s (rspTimeout port txid) := rfl

theorem exec_transactionRetire (txid : Nat) (s : State) :
    exec (.transactionRetire txid) s =
      onCore s (transactionRetire txid) := rfl

theorem exec_headerFetchDone (set : Nat) (noise : Burst) (s : State) :
    exec (.headerFetchDone set noise) s =
      onCore s (headerFetchDone set noise) := rfl

theorem exec_headerWaitUnpin (txid : Nat) (s : State) :
    exec (.headerWaitUnpin txid) s =
      onCore s (headerWaitUnpin txid) := rfl

theorem exec_lineReadDone (txid : Nat) (noise : Burst) (upset : Option Upset) (s : State) :
    exec (.lineReadDone txid noise upset) s =
      onCore s (fun d => lineReadDone txid noise (d.arrayRead upset)) := rfl

theorem exec_memReadDone (line : Nat) (ans : MemAns) (loads : Nat) (s : State) :
    exec (.memReadDone line ans loads) s =
      onCore s (memReadDone line ans loads) := rfl

theorem exec_nextLevelWriteAck (line loads : Nat) (s : State) :
    exec (.nextLevelWriteAck line loads) s =
      onCore s (nextLevelWriteAck line loads) := rfl

theorem exec_wrFail (line : Nat) (s : State) :
    exec (.wrFail line) s =
      onCore s (wrFail line) := rfl

theorem exec_victimCopy (txid : Nat) (s : State) :
    exec (.victimCopy txid) s =
      onCore s (victimCopy txid) := rfl

theorem exec_victimWaitEligible (txid : Nat) (s : State) :
    exec (.victimWaitEligible txid) s =
      onCore s (victimWaitEligible txid) := rfl

theorem exec_combiningTimeout (line : Nat) (s : State) :
    exec (.combiningTimeout line) s =
      onCore s (combiningTimeout line) := rfl

theorem exec_wbfFlush (src : Src) (s : State) :
    exec (.wbfFlush src) s =
      onDev s (fun d => d.write src R.WBF_FLUSH.FLUSH.ofs wbfFlush) := rfl

theorem exec_hdcFlush (src : Src) (s : State) :
    exec (.hdcFlush src) s =
      onDev s (fun d => d.write src R.HDC_FLUSH.FLUSH.ofs hdcFlush) := rfl

theorem exec_flushDone (s : State) :
    exec .flushDone s =
      onCore s flushDone := rfl

theorem exec_pipQuarClr (src : Src) (s : State) :
    exec (.pipQuarClr src) s =
      onDev s (fun d => d.write src R.PIP_QUAR_CLR.CLR.ofs pipQuarClr) := rfl

theorem exec_wayGroupPowerDown (src : Src) (g : Nat) (s : State) :
    exec (.wayGroupPowerDown src g) s =
      onDev s (fun d => d.write src R.PWR_WG_REQ.REQ.ofs (wayGroupPowerDown g)) := rfl

theorem exec_sweepSet (s : State) :
    exec .sweepSet s =
      onCore s sweepSet := rfl

theorem exec_sweepDone (s : State) :
    exec .sweepDone s =
      onCore s sweepDone := rfl

theorem exec_sweepStop (src : Src) (g : Nat) (s : State) :
    exec (.sweepStop src g) s =
      onDev s (fun d => d.write src R.PWR_WG_REQ.REQ.ofs (sweepStop g)) := rfl

theorem exec_wayGroupWake (src : Src) (g : Nat) (s : State) :
    exec (.wayGroupWake src g) s =
      onDev s (fun d => d.write src R.PWR_WG_REQ.REQ.ofs (wayGroupWake g)) := rfl

theorem exec_mntStart (src : Src) (op : Nat) (whole : Bool) (s : State) :
    exec (.mntStart src op whole) s =
      onDev s (fun d => d.write src R.PIP_MNT_CTRL.START.ofs (mntStart op whole)) := rfl

theorem exec_mntAbort (src : Src) (s : State) :
    exec (.mntAbort src) s =
      onDev s (fun d => d.write src R.PIP_MNT_CTRL.ABORT.ofs mntAbort) := rfl

theorem exec_mntLine (s : State) :
    exec .mntLine s =
      onCore s mntLine := rfl

theorem exec_mntDone (s : State) :
    exec .mntDone s =
      onCore s mntDone := rfl

theorem exec_dirProbeGo (src : Src) (s : State) :
    exec (.dirProbeGo src) s =
      onDev s (fun d => d.write src R.DIR_PROBE_CTRL.GO.ofs dirProbeGo) := rfl

theorem exec_dirProbeDone (s : State) :
    exec .dirProbeDone s =
      onCore s dirProbeDone := rfl

theorem exec_depProbeGo (src : Src) (s : State) :
    exec (.depProbeGo src) s =
      onDev s (fun d => d.write src R.DEP_PROBE_CTRL.GO.ofs depProbeGo) := rfl

theorem exec_managerSnoop (uplink : Nat) (sn : Snoop) (mtxid addr : Nat) (s : State) :
    exec (.managerSnoop uplink sn mtxid addr) s =
      onCore s (managerSnoop uplink sn mtxid addr) := rfl

theorem exec_uplinkResponse (uplink oport tag : Nat) (ans : UpAns) (s : State) :
    exec (.uplinkResponse uplink oport tag ans) s =
      onCore s (uplinkResponse uplink oport tag ans) := rfl

theorem exec_uplinkDown (s : State) :
    exec .uplinkDown s =
      onCore s uplinkDown := rfl

theorem exec_sdrInitDone (s : State) :
    exec .sdrInitDone s =
      onCore s sdrInitDone := rfl

theorem exec_takeoverDownlink (port epoch : Nat) (s : State) :
    exec (.takeoverDownlink port epoch) s =
      onCore s (takeoverDownlink port epoch) := rfl

theorem exec_takeoverUplink (uplink epoch : Nat) (s : State) :
    exec (.takeoverUplink uplink epoch) s =
      onCore s (takeoverUplink uplink epoch) := rfl

theorem exec_homeMoved (_port _epoch : Nat) (s : State) :
    exec (.homeMoved _port _epoch) s =
      onCore s homeMoved := rfl

theorem exec_pairDigest (digest : Word) (role : Role) (grade : Bool) (addr : Nat) (s : State) :
    exec (.pairDigest digest role grade addr) s =
      onCore s (pairDigest digest role grade addr) := rfl

theorem exec_pairingGuardExpiry (s : State) :
    exec .pairingGuardExpiry s =
      onCore s pairingGuardExpiry := rfl

theorem exec_partnerRead (ans : Option Partner) (s : State) :
    exec (.partnerRead ans) s =
      onCore s (partnerRead ans) := rfl

theorem exec_heartbeat (s : State) :
    exec .heartbeat s =
      onCore s heartbeat := rfl

theorem exec_hbLoss (s : State) :
    exec .hbLoss s =
      onCore s Dev.declareLoss := rfl

theorem exec_lossWaitConfirm (ans : Option Partner) (s : State) :
    exec (.lossWaitConfirm ans) s =
      onCore s (lossWaitConfirm ans) := rfl

theorem exec_fencedCheck (ans : Option Partner) (s : State) :
    exec (.fencedCheck ans) s =
      onCore s (fencedCheck ans) := rfl

theorem exec_twnGuardExpiry (s : State) :
    exec .twnGuardExpiry s =
      onCore s twnGuardExpiry := rfl

theorem exec_resendWindowEnd (ns : Nat) (s : State) :
    exec (.resendWindowEnd ns) s =
      onCore s (resendWindowEnd ns) := rfl

theorem exec_join (src : Src) (s : State) :
    exec (.join src) s =
      onDev s (fun d => d.write src R.TWN_CMD.JOIN.ofs join) := rfl

theorem exec_detach (src : Src) (s : State) :
    exec (.detach src) s =
      onDev s (fun d => d.write src R.TWN_CMD.DETACH.ofs detach) := rfl

theorem exec_forceTake (src : Src) (s : State) :
    exec (.forceTake src) s =
      onDev s (fun d => d.write src R.TWN_CMD.FORCE_TAKE.ofs forceTake) := rfl

theorem exec_twnResume (src : Src) (s : State) :
    exec (.twnResume src) s =
      onDev s (fun d => d.write src R.TWN_CMD.RESUME.ofs twnResume) := rfl

theorem exec_copyDone (s : State) :
    exec .copyDone s =
      onCore s copyDone := rfl

theorem exec_mirrorFlit (mseq : Nat) (items : List Item) (s : State) :
    exec (.mirrorFlit mseq items) s =
      onCore s (mirrorFlit mseq items) := rfl

theorem exec_mirrorApply (s : State) :
    exec .mirrorApply s =
      onCore s mirrorApply := rfl

theorem exec_mirrorAck (mseq : Nat) (s : State) :
    exec (.mirrorAck mseq) s =
      onCore s (mirrorAck mseq) := rfl

theorem exec_dirtyCopyReport (txid port : Nat) (s : State) :
    exec (.dirtyCopyReport txid port) s =
      onCore s (dirtyCopyReport txid port) := rfl

theorem exec_depAnnounce (uplink : Nat) (d : Dep) (s : State) :
    exec (.depAnnounce uplink d) s =
      onCore s (depAnnounce uplink d) := rfl

theorem exec_depAccept (port idx : Nat) (empty : Bool) (s : State) :
    exec (.depAccept port idx empty) s =
      onCore s (depAccept port idx empty) := rfl

theorem exec_depRefuse (port idx : Nat) (s : State) :
    exec (.depRefuse port idx) s =
      onCore s (depRefuse port idx) := rfl

theorem exec_depCancelMsg (uplink idx : Nat) (adm : Bool) (s : State) :
    exec (.depCancelMsg uplink idx adm) s =
      onCore s (depCancelMsg uplink idx adm) := rfl

theorem exec_depBoard (uplink idx addr : Nat) (mask : BitVec 8) (s : State) :
    exec (.depBoard uplink idx addr mask) s =
      onCore s (depBoard uplink idx addr mask) := rfl

theorem exec_depBoardMiss (port idx line : Nat) (s : State) :
    exec (.depBoardMiss port idx line) s =
      onCore s (depBoardMiss port idx line) := rfl

theorem exec_depLineFromWorker (port idx : Nat) (b : Boarded) (s : State) :
    exec (.depLineFromWorker port idx b) s =
      onCore s (depLineFromWorker port idx b) := rfl

theorem exec_depLineToWorker (uplink idx : Nat) (b : Boarded) (s : State) :
    exec (.depLineToWorker uplink idx b) s =
      onCore s (depLineToWorker uplink idx b) := rfl

theorem exec_depAckAtManager (port idx lidx : Nat) (s : State) :
    exec (.depAckAtManager port idx lidx) s =
      onCore s (depAckAtManager port idx lidx) := rfl

theorem exec_depAckAtWorker (uplink idx lidx : Nat) (s : State) :
    exec (.depAckAtWorker uplink idx lidx) s =
      onCore s (depAckAtWorker uplink idx lidx) := rfl

theorem exec_boardingStart (idx : Nat) (s : State) :
    exec (.boardingStart idx) s =
      onCore s (boardingStart idx) := rfl

theorem exec_quietWindow (idx : Nat) (s : State) :
    exec (.quietWindow idx) s =
      onCore s (quietWindow idx) := rfl

theorem exec_departureRelease (idx : Nat) (s : State) :
    exec (.departureRelease idx) s =
      onCore s (departureRelease idx) := rfl

theorem exec_lateStaged (idx : Nat) (s : State) :
    exec (.lateStaged idx) s =
      onCore s (lateStaged idx) := rfl

theorem exec_immediateRelease (idx port : Nat) (s : State) :
    exec (.immediateRelease idx port) s =
      onCore s (immediateRelease idx port) := rfl

theorem exec_releaseEnd (idx : Nat) (s : State) :
    exec (.releaseEnd idx) s =
      onCore s (releaseEnd idx) := rfl

theorem exec_depCancelGo (src : Src) (s : State) :
    exec (.depCancelGo src) s =
      onDev s (fun d => d.write src R.DEP_CANCEL_CTRL.GO.ofs depCancelGo) := rfl

theorem exec_depDisable (src : Src) (s : State) :
    exec (.depDisable src) s =
      onDev s (fun d => d.write src depEN.ofs depDisable) := rfl

theorem exec_streamEnable (src : Src) (n : Nat) (s : State) :
    exec (.streamEnable src n) s =
      onDev s (fun d => d.write src (0x1C100 + 8 * n) (streamEnable n)) := rfl

theorem exec_streamDisable (src : Src) (n : Nat) (s : State) :
    exec (.streamDisable src n) s =
      onDev s (fun d => d.write src (0x1C100 + 8 * n) (streamDisable n)) := rfl

theorem exec_apdFlush (src : Src) (n : Nat) (s : State) :
    exec (.apdFlush src n) s =
      onDev s (fun d => d.write src (0x1C100 + 8 * n) (fun d => d.closeSoon n (s.appendComes n))) := rfl

theorem exec_appendCombineTimeout (n : Nat) (s : State) :
    exec (.appendCombineTimeout n) s =
      onCore s (fun d => d.closeSoon n (s.appendComes n)) := rfl

theorem exec_apdLineWriteDone (n off : Nat) (s : State) :
    exec (.apdLineWriteDone n off) s =
      onCore s (apdLineWriteDone n off) := rfl

theorem exec_lineFail (n off : Nat) (s : State) :
    exec (.lineFail n off) s =
      onCore s (lineFail n off) := rfl

theorem exec_apdHeadWrite (src : Src) (n : Nat) (h : BitVec 64) (s : State) :
    exec (.apdHeadWrite src n h) s =
      onDev s (fun d => d.write src (apdReg n 0x24) (apdHeadWrite n h)) := rfl

theorem exec_apdDescriptorWrite (src : Src) (n : Nat) (r : ApdReg) (v : BitVec 64) (s : State) :
    exec (.apdDescriptorWrite src n r v) s =
      onDev s (fun d => d.write src (apdReg n (descReg r)) (apdDescriptorWrite n r v)) := rfl

theorem exec_laneStartUp (lane : Nat) (s : State) :
    exec (.laneStartUp lane) s =
      onCore s (laneStartUp lane) := rfl

theorem exec_trainingTokenGrant (lane us : Nat) (s : State) :
    exec (.trainingTokenGrant lane us) s =
      onCore s (trainingTokenGrant lane us) := rfl

theorem exec_trainFail (lane step : Nat) (s : State) :
    exec (.trainFail lane step) s =
      onCore s (trainFail lane step) := rfl

theorem exec_headerFill (s : State) :
    exec .headerFill s =
      onCore s headerFill := rfl

theorem exec_fillDone (s : State) :
    exec .fillDone s =
      onCore s fillDone := rfl

theorem exec_refresh (lane rank : Nat) (s : State) :
    exec (.refresh lane rank) s =
      onCore s (refresh lane rank) := rfl

theorem exec_postponedRefreshBurst (lane rank : Nat) (s : State) :
    exec (.postponedRefreshBurst lane rank) s =
      onCore s (postponedRefreshBurst lane rank) := rfl

theorem exec_rfm (lane rank bank : Nat) (s : State) :
    exec (.rfm lane rank bank) s =
      onCore s (rfm lane rank bank) := rfl

theorem exec_mr4Poll (lane rank cls : Nat) (s : State) :
    exec (.mr4Poll lane rank cls) s =
      onCore s (mr4Poll lane rank cls) := rfl

theorem exec_zqCalibration (s : State) :
    exec .zqCalibration s =
      onCore s zqCalibration := rfl

theorem exec_selfRefreshExit (lane : Nat) (s : State) :
    exec (.selfRefreshExit lane) s =
      onCore s (selfRefreshExit lane) := rfl

theorem exec_dsVrPgTimeout (g : Nat) (s : State) :
    exec (.dsVrPgTimeout g) s =
      onCore s (dsVrPgTimeout g) := rfl

theorem exec_vrStuck (g : Nat) (s : State) :
    exec (.vrStuck g) s =
      onCore s (vrStuck g) := rfl

theorem exec_vrFault (g : Nat) (s : State) :
    exec (.vrFault g) s =
      onCore s (vrFault g) := rfl

theorem exec_lossSweepDone (s : State) :
    exec .lossSweepDone s =
      onCore s lossSweepDone := rfl

theorem exec_correctionWindowClose (s : State) :
    exec .correctionWindowClose s =
      onCore s correctionWindowClose := rfl

theorem exec_scrubBurst (s : State) :
    exec .scrubBurst s =
      onCore s scrubBurst := rfl

theorem exec_scrubGapEnd (s : State) :
    exec .scrubGapEnd s =
      onCore s scrubGapEnd := rfl

theorem exec_scrubReadDone (lane : Nat) (noise : Burst) (s : State) :
    exec (.scrubReadDone lane noise) s =
      onCore s (scrubReadDone lane noise) := rfl

theorem exec_scbDisable (src : Src) (s : State) :
    exec (.scbDisable src) s =
      onDev s (fun d => d.write src scbEN.ofs scbDisable) := rfl

theorem exec_flipArm (src : Src) (s : State) :
    exec (.flipArm src) s =
      onDev s (fun d => d.write src R.ECC_FLIP_CTRL.ARM.ofs flipArm) := rfl

theorem exec_flipDiscard (src : Src) (s : State) :
    exec (.flipDiscard src) s =
      onDev s (fun d => d.write src R.ECC_TEST_SEL.SEL.ofs flipDiscard) := rfl

theorem exec_chanHaltClr (src : Src) (port : Nat) (mask : BitVec 16) (s : State) :
    exec (.chanHaltClr src port mask) s =
      onDev s (fun d => d.write src (R.ECC_CHAN_HALTn.CLR port).ofs (chanHaltClr port mask)) := rfl

theorem exec_peerDetect (port : Nat) (s : State) :
    exec (.peerDetect port) s =
      onCore s (peerDetect port) := rfl

theorem exec_linkTrained (port : Nat) (ok : Bool) (width rate : Nat) (s : State) :
    exec (.linkTrained port ok width rate) s =
      onCore s (linkTrained port ok width rate) := rfl

theorem exec_init (port : Nat) (f : Flit) (s : State) :
    exec (.init port f) s =
      onCore s (init port f) := rfl

theorem exec_initResend (port : Nat) (s : State) :
    exec (.initResend port) s =
      onCore s (initResend port) := rfl

theorem exec_dataFlit (port : Nat) (f : Flit) (s : State) :
    exec (.dataFlit port f) s =
      onCore s (dataFlit port f) := rfl

theorem exec_nak (port : Nat) (f : Flit) (_exp : Nat) (s : State) :
    exec (.nak port f _exp) s =
      onCore s (nak port f) := rfl

theorem exec_recoverDone (port : Nat) (ok : Bool) (s : State) :
    exec (.recoverDone port ok) s =
      onCore s (recoverDone port ok) := rfl

theorem exec_lpIdle (port : Nat) (s : State) :
    exec (.lpIdle port) s =
      onCore s (lpIdle port) := rfl

theorem exec_lpm (port : Nat) (f : Flit) (code : Nat) (s : State) :
    exec (.lpm port f code) s =
      onCore s (lpm port f code) := rfl

theorem exec_lpExit (port : Nat) (s : State) :
    exec (.lpExit port) s =
      onCore s (lpExit port) := rfl

theorem exec_linkDown (port : Nat) (s : State) :
    exec (.linkDown port) s =
      onCore s (fun d => d.linkFalls port) := rfl

theorem exec_lost (port : Nat) (s : State) :
    exec (.lost port) s =
      onCore s (linkLost port) := rfl

theorem exec_portDisable (src : Src) (port : Nat) (s : State) :
    exec (.portDisable src port) s =
      onDev s (fun d => d.write src (portEN port).ofs (portDisable port)) := rfl

theorem exec_portEnable (src : Src) (port : Nat) (s : State) :
    exec (.portEnable src port) s =
      onDev s (fun d => d.write src (portEN port).ofs (portEnable port)) := rfl

theorem exec_drainingEnd (fn : DrainFn) (s : State) :
    exec (.drainingEnd fn) s =
      onCore s (drainingEnd fn) := rfl

theorem exec_memoryPortBringUp (mp : Nat) (r : BringUp) (s : State) :
    exec (.memoryPortBringUp mp r) s =
      onCore s (memoryPortBringUp mp r) := rfl

theorem exec_mpLinkDown (mp : Nat) (s : State) :
    exec (.mpLinkDown mp) s =
      onCore s (mpLinkDown mp) := rfl

theorem exec_mpFailed (mp : Nat) (s : State) :
    exec (.mpFailed mp) s =
      onCore s (mpFailed mp) := rfl

theorem exec_mpRemove (src : Src) (mp : Nat) (s : State) :
    exec (.mpRemove src mp) s =
      onDev s (fun d => d.write src (R.MPn_HP.REMOVE mp).ofs (mpRemove mp)) := rfl

theorem exec_mpAdd (src : Src) (mp : Nat) (r : BringUp) (s : State) :
    exec (.mpAdd src mp r) s =
      onDev s (fun d => d.write src (R.MPn_HP.ADD mp).ofs (mpAdd mp r)) := rfl

theorem exec_mpIoData (src : Src) (mp : Nat) (write : Bool) (v : Word) (ans : Option Word) (s : State) :
    exec (.mpIoData src mp write v ans) s =
      onDev s (mpIoData src mp write v ans) := rfl

theorem exec_flr (perst : Bool) (s : State) :
    exec (.flr perst) s =
      onDev s (flr perst) := rfl

theorem exec_rstNLow (pwrOk : Bool) (s : State) :
    exec (.rstNLow pwrOk) s =
      onDevAlways s (rstNLow pwrOk) := rfl

theorem exec_resetRelease (role : Role) (side head : Bool) (s : State) :
    exec (.resetRelease role side head) s =
      onDevAlways s (resetRelease role side head) := rfl

theorem exec_crystalReady (s : State) :
    exec .crystalReady s =
      onDev s crystalReady := rfl

theorem exec_xtalFail (s : State) :
    exec .xtalFail s =
      onDev s xtalFail := rfl

theorem exec_xtalRetry (src : Src) (s : State) :
    exec (.xtalRetry src) s =
      onDev s (fun d => d.write src R.CLK_CMD.XTAL_RETRY.ofs xtalRetry) := rfl

theorem exec_xtalLost (s : State) :
    exec .xtalLost s =
      onDev s xtalLost := rfl

theorem exec_pllLock (k : Nat) (s : State) :
    exec (.pllLock k) s =
      onDev s (pllLock k) := rfl

theorem exec_pllTimeout (k : Nat) (s : State) :
    exec (.pllTimeout k) s =
      onDev s (pllTimeout k) := rfl

theorem exec_pllFail (k : Nat) (s : State) :
    exec (.pllFail k) s =
      onDev s (pllFail k) := rfl

theorem exec_pllRelock (k : Nat) (s : State) :
    exec (.pllRelock k) s =
      onDev s (pllRelock k) := rfl

theorem exec_clockSwitch (sel : Selector) (s : State) :
    exec (.clockSwitch sel) s =
      onDev s (clockSwitch sel) := rfl

theorem exec_forced (sel : Selector) (s : State) :
    exec (.forced sel) s =
      onDev s (forced sel) := rfl

theorem exec_clkForceGate (src : Src) (gate : BitVec 11) (s : State) :
    exec (.clkForceGate src gate) s =
      onDev s (fun d => d.write src R.CLK_FORCE.GATE.ofs (clkForceGate gate)) := rfl

theorem exec_gateClose (bit : Nat) (s : State) :
    exec (.gateClose bit) s =
      onDev s (gateClose bit) := rfl

theorem exec_clkOutCfgWrite (src : Src) (v : Word) (s : State) :
    exec (.clkOutCfgWrite src v) s =
      onDev s (fun d => d.write src R.CLK_OUT_CFG.SEL.ofs (clkOutCfgWrite v)) := rfl

theorem exec_clkMeasGo (src : Src) (sel : Nat) (s : State) :
    exec (.clkMeasGo src sel) s =
      onDev s (fun d => d.write src R.CLK_MEAS_CTRL.GO.ofs (clkMeasGo sel)) := rfl

theorem exec_measDone (khz : Nat) (s : State) :
    exec (.measDone khz) s =
      onDev s (measDone khz) := rfl

theorem exec_bellLock (s : State) :
    exec .bellLock s =
      onDev s bellLock := rfl

theorem exec_belArm (src : Src) (s : State) :
    exec (.belArm src) s =
      onDev s (fun d => d.write src R.BEL_CTRL.ARM.ofs belArm) := rfl

theorem exec_belDisarm (src : Src) (s : State) :
    exec (.belDisarm src) s =
      onDev s (fun d => d.write src R.BEL_CTRL.DISARM.ofs belDisarm) := rfl

theorem exec_syncSeen (s : State) :
    exec .syncSeen s =
      onDev s syncSeen := rfl

theorem exec_markArm (src : Src) (s : State) :
    exec (.markArm src) s =
      onDev s (fun d => d.write src R.BEL_CTRL.MARK_ARM.ofs markArm) := rfl

theorem exec_markDone (s : State) :
    exec .markDone s =
      onDev s markDone := rfl

theorem exec_bellLost (s : State) :
    exec .bellLost s =
      onDev s bellLost := rfl

theorem exec_domainOff (src : Src) (bit : Nat) (s : State) :
    exec (.domainOff src bit) s =
      onDev s (fun d => d.write src R.PWR_DOM_OFF.OFF.ofs (domainOff bit)) := rfl

theorem exec_domainOn (src : Src) (bit : Nat) (s : State) :
    exec (.domainOn src bit) s =
      onDev s (fun d => d.write src R.PWR_DOM_OFF.OFF.ofs (domainOn bit)) := rfl

theorem exec_padRelease (src : Src) (rel : BitVec 21) (s : State) :
    exec (.padRelease src rel) s =
      onDev s (fun d => d.write src R.PWR_PAD_RELEASE.REL.ofs (padRelease rel)) := rfl

theorem exec_pmbusPoll (mode : Option (BitVec 8)) (ans : Option (Nat × Nat)) (s : State) :
    exec (.pmbusPoll mode ans) s =
      onDev s (pmbusPoll mode ans) := rfl

theorem exec_vrAlert (status : Option Nat) (s : State) :
    exec (.vrAlert status) s =
      onDev s (vrAlert status) := rfl

theorem exec_vrClear (src : Src) (s : State) :
    exec (.vrClear src) s =
      onDev s (fun d => d.write src R.PWR_VR_CMD.CLEAR.ofs vrClear) := rfl

theorem exec_vrPgLost (s : State) :
    exec .vrPgLost s =
      onDev s vrPgLost := rfl

theorem exec_dvfsTarget (src : Src) (t : Nat) (s : State) :
    exec (.dvfsTarget src t) s =
      onDev s (fun d => d.write src R.PWR_DVFS.TARGET.ofs (dvfsTarget t)) := rfl

theorem exec_dvfsFgo (src : Src) (s : State) :
    exec (.dvfsFgo src) s =
      onDev s (fun d => d.write src R.PWR_DVFS_MAN.FGO.ofs dvfsFgo) := rfl

theorem exec_dvfsVgo (src : Src) (s : State) :
    exec (.dvfsVgo src) s =
      onDev s (fun d => d.write src R.PWR_DVFS_MAN.VGO.ofs dvfsVgo) := rfl

theorem exec_voltageReached (ans : Option (Nat × Nat)) (s : State) :
    exec (.voltageReached ans) s =
      onDev s (voltageReached ans) := rfl

theorem exec_wakeTo (step dom : Nat) (s : State) :
    exec (.wakeTo step dom) s =
      onDev s (wakeTo step dom) := rfl

theorem exec_purserUpdate (s : State) :
    exec .purserUpdate s =
      onDev s purserUpdate := rfl

theorem exec_purserRescale (s : State) :
    exec .purserRescale s =
      onDev s purserRescale := rfl

theorem exec_tokenReturn (kind who : Nat) (s : State) :
    exec (.tokenReturn kind who) s =
      onDev s (tokenReturn kind who) := rfl

theorem exec_overCap (kind who : Nat) (s : State) :
    exec (.overCap kind who) s =
      onDev s (overCap kind who) := rfl

theorem exec_dozeReq (src : Src) (s : State) :
    exec (.dozeReq src) s =
      onDev s (fun d => d.write src R.PWR_DOZE_CTRL.REQ.ofs dozeReq) := rfl

theorem exec_dozeStage (s : State) :
    exec .dozeStage s =
      onCore s (fun d => match d.pwr.doze with
    | some z => if z.asleep || z.waking then d else d.stage z
    | none => d) := rfl

theorem exec_dozeQuiesceTimeout (s : State) :
    exec .dozeQuiesceTimeout s =
      onCore s dozeQuiesceTimeout := rfl

theorem exec_wakeEvent (bit : Nat) (s : State) :
    exec (.wakeEvent bit) s =
      onDev s (wakeEvent bit) := rfl

theorem exec_dozeWake (src : Src) (s : State) :
    exec (.dozeWake src) s =
      onDev s (fun d => d.write src R.PWR_DOZE_CTRL.WAKE.ofs (fun d => d.wakeBy 4)) := rfl

theorem exec_dozeOut (s : State) :
    exec .dozeOut s =
      onCore s dozeOut := rfl

theorem exec_flashReadDone (a b : Image) (s : State) :
    exec (.flashReadDone a b) s =
      onDev s (flashReadDone a b) := rfl

theorem exec_go (src : Src) (s : State) :
    exec (.go src) s =
      onDev s (fun d => d.write src R.GCR_CMD.GO.ofs goCmd) := rfl

theorem exec_autostart (s : State) :
    exec .autostart s =
      onDev s autostart := rfl

theorem exec_selfTestDone (failArr fails us : Nat) (s : State) :
    exec (.selfTestDone failArr fails us) s =
      onCore s (selfTestDone failArr fails us) := rfl

theorem exec_trainComplete (s : State) :
    exec .trainComplete s =
      onCore s trainComplete := rfl

theorem exec_serve (src : Src) (v : Bool) (s : State) :
    exec (.serve src v) s =
      onDev s (fun d => d.write src R.GCR_CFG.SERVE.ofs (serve v)) := rfl

theorem exec_drain (src : Src) (s : State) :
    exec (.drain src) s =
      onDev s (fun d => d.write src R.GCR_CMD.DRAIN.ofs drain) := rfl

theorem exec_drainSet (s : State) :
    exec .drainSet s =
      onCore s drainSet := rfl

theorem exec_drainDone (s : State) :
    exec .drainDone s =
      onCore s drainDone := rfl

theorem exec_drainResume (src : Src) (s : State) :
    exec (.drainResume src) s =
      onDev s (fun d => d.write src R.GCR_CMD.RESUME.ofs drainResume) := rfl

theorem exec_restart (src : Src) (s : State) :
    exec (.restart src) s =
      onDev s (fun d => d.write src R.GCR_CMD.RESTART.ofs restart) := rfl

theorem exec_chainRd (m : ChainMsg) (crc : Nat) (s : State) :
    exec (.chainRd m crc) s =
      onChain s m crc (fun d => match m.frame with
    | .rd o => d.serveRegister m (chainRead o)
    | _ => d) := rfl

theorem exec_chainWr (m : ChainMsg) (crc : Nat) (s : State) :
    exec (.chainWr m crc) s =
      onChain s m crc (fun d => match m.frame with
    | .wr o v => d.serveRegister m (chainWrite o v)
    | _ => d) := rfl

theorem exec_chainBwr (m : ChainMsg) (crc : Nat) (s : State) :
    exec (.chainBwr m crc) s =
      onChain s m crc (fun d => match m.frame with
    | .bwr o v ack =>
      if d.addr = 0 then d.forward m
      else if d.ownBwr m then chainReturn m d
      else
        let r := d.bwrHere m o v
        r.2.emit (chainOut { m with frame := .bwr o v (r.2.ackBit ack r.1) })
    | _ => d) := rfl

theorem exec_chainRsp (m : ChainMsg) (crc : Nat) (s : State) :
    exec (.chainRsp m crc) s =
      onChain s m crc (fun d => match m.frame with
    | .rsp .. => if d.addressed m then chainReturn m (d.forward m) else d.forward m
    | .bwr .. => if d.ownBwr m then chainReturn m d else d
    | _ => d) := rfl

theorem exec_chainEvt (m : ChainMsg) (crc : Nat) (s : State) :
    exec (.chainEvt m crc) s =
      onChain s m crc (fun d => match m.frame with
    | .evt dev w mode fault b => d.serveRequest m (evtArrived dev w mode fault b)
    | _ => d) := rfl

theorem exec_mbx (m : ChainMsg) (crc : Nat) (s : State) :
    exec (.mbx m crc) s =
      onChain s m crc (fun d => match m.frame with
    | .mbx w0 w1 => d.serveRequest m (mbxArrived w0 w1)
    | _ => d) := rfl

theorem exec_enum (m : ChainMsg) (crc : Nat) (own : Bool) (s : State) :
    exec (.enum m crc own) s =
      onDevAlways s (fun d => match m.frame with
    | .enum count ovr =>
      if !d.repeats then d
      else if crc ≠ m.crc then d.badFrame m.bytes crc
      else if d.gcr.mode = .cold then d.enumCold m count ovr else enumArrived m count ovr own d
    | _ => d) := rfl

theorem exec_noAnswer (seq : Nat) (s : State) :
    exec (.noAnswer seq) s =
      onDev s (noAnswer seq) := rfl

theorem exec_chnEnum (src : Src) (s : State) :
    exec (.chnEnum src) s =
      onDev s (fun d => d.write src R.CHN_CMD.ENUM.ofs chnEnum) := rfl

theorem exec_chnGo (src : Src) (s : State) :
    exec (.chnGo src) s =
      onDev s (fun d => d.write src R.CHN_CMD.GO.ofs chnGo) := rfl

theorem exec_inLost (s : State) :
    exec .inLost s =
      onDev s inLost := rfl

theorem exec_chnInRegain (s : State) :
    exec .chnInRegain s =
      onDev s chnInRegain := rfl

theorem exec_registerWrite (src : Src) (ofs size : Nat) (v : BitVec 64) (s : State) :
    exec (.registerWrite src ofs size v) s =
      onDev s (registerWrite src ofs size v) := rfl

theorem exec_lock (src : Src) (page : Nat) (s : State) :
    exec (.lock src page) s =
      onDev s (fun d => d.writeOut src (page + 0x18) 1) := rfl

theorem exec_evtRead (src : Src) (page : Nat) (s : State) :
    exec (.evtRead src page) s =
      onDev s (fun d => d.readOut src (page + 0xC)) := rfl

theorem exec_rcRead (src : Src) (ofs : Nat) (s : State) :
    exec (.rcRead src ofs) s =
      onDev s (fun d => d.readOut src ofs) := rfl

theorem exec_loRead (src : Src) (ofs : Nat) (s : State) :
    exec (.loRead src ofs) s =
      onDev s (fun d => d.readOut src ofs) := rfl

theorem exec_hiWrite (src : Src) (ofs : Nat) (v : Word) (s : State) :
    exec (.hiWrite src ofs v) s =
      onDev s (fun d => d.writeOut src ofs v) := rfl

theorem exec_loWrite (src : Src) (ofs : Nat) (v : Word) (s : State) :
    exec (.loWrite src ofs v) s =
      onDev s (fun d => d.writeOut src ofs v) := rfl

theorem exec_aliasRead (src : Src) (ofs size : Nat) (s : State) :
    exec (.aliasRead src ofs size) s =
      onDev s (aliasRead src ofs size) := rfl

theorem exec_aliasWrite (src : Src) (ofs size : Nat) (v : Word) (s : State) :
    exec (.aliasWrite src ofs size v) s =
      onDev s (aliasWrite src ofs size v) := rfl

theorem exec_watchdogTimeout (src : Src) (ofs : Nat) (write : Bool) (s : State) :
    exec (.watchdogTimeout src ofs write) s =
      onDev s (watchdogTimeout src ofs write) := rfl

theorem exec_cfgPassEnd (us : Nat) (s : State) :
    exec (.cfgPassEnd us) s =
      onCore s (cfgPassEnd us) := rfl

theorem exec_cfgCommit (src : Src) (s : State) :
    exec (.cfgCommit src) s =
      onDev s (fun d => d.write src R.CFG_COMMIT.COMMIT.ofs cfgCommit) := rfl

theorem exec_commitDone (us : Nat) (s : State) :
    exec (.commitDone us) s =
      onCore s (commitDone us) := rfl

theorem exec_evcRearm (src : Src) (word : Nat) (mask : Word) (s : State) :
    exec (.evcRearm src word mask) s =
      onDev s (fun d => d.write src (R.EVC_REARM0.REARM.ofs + 4 * word) (evcRearm word mask)) := rfl

theorem exec_pbaRelease (s : State) :
    exec .pbaRelease s =
      onDev s (fun d => if d.domOn 20 then pbaRelease d else d) := rfl

theorem exec_evtFrameSend (word : Nat) (s : State) :
    exec (.evtFrameSend word) s =
      onDev s (evtFrameSend word) := rfl

theorem exec_queDataRead (src : Src) (n size : Nat) (s : State) :
    exec (.queDataRead src n size) s =
      onDev s (queDataRead src n size) := rfl

theorem exec_queDrop (src : Src) (n : Nat) (s : State) :
    exec (.queDrop src n) s =
      onDev s (fun d => d.write src (R.QUEn_DROP.DROP n).ofs (queDrop src n)) := rfl

theorem exec_mboWrite (src : Src) (v : Word) (s : State) :
    exec (.mboWrite src v) s =
      onDev s (fun d => d.write src (R.QUEn_DATA.DATA 4).ofs (mboWrite src v)) := rfl

theorem exec_mboSend (s : State) :
    exec .mboSend s =
      onCore s mboSend := rfl

theorem exec_pmuClear (src : Src) (s : State) :
    exec (.pmuClear src) s =
      onDev s (fun d => d.write src R.PMU_GCTL.CLEAR.ofs pmuClear) := rfl

theorem exec_counterWrap (fixed : Bool) (n : Nat) (s : State) :
    exec (.counterWrap fixed n) s =
      onCore s (counterWrap fixed n) := rfl

theorem exec_sample (skid : Nat) (s : State) :
    exec (.sample skid) s =
      onCore s (sample skid) := rfl

theorem exec_pmuSmpDone (src : Src) (s : State) :
    exec (.pmuSmpDone src) s =
      onDev s (fun d => d.write src R.PMU_SMP_CTRL.DONE.ofs pmuSmpDone) := rfl

theorem exec_coreCycle (s : State) :
    exec .coreCycle s =
      onCore s coreCycle := rfl

theorem exec_bellTick (s : State) :
    exec .bellTick s =
      onDev s bellTick := rfl

theorem exec_pwrOkRise (s : State) :
    exec .pwrOkRise s =
      onDevAlways s pwrOkRise := rfl

theorem exec_dsVrPgRise (g : Nat) (s : State) :
    exec (.dsVrPgRise g) s =
      onCore s (dsVrPgRise g) := rfl

theorem exec_idleFlit (port : Nat) (f : Flit) (s : State) :
    exec (.idleFlit port f) s =
      onCore s (fun d => d.otherFlit port f id) := rfl

theorem exec_heartbeatReceived (f : Flit) (serving : Bool) (state epoch _mseq : Nat) (s : State) :
    exec (.heartbeatReceived f serving state epoch _mseq) s =
      onCore s (fun d => d.otherFlit twPort f (fun d => d.heard serving state epoch)) := rfl

theorem exec_mpLinkReturn (mp width : Nat) (slow : Bool) (s : State) :
    exec (.mpLinkReturn mp width slow) s =
      onCore s (mpLinkReturn mp width slow) := rfl

theorem exec_viral (mp : Nat) (s : State) :
    exec (.viral mp) s =
      onCore s (fun d => if (d.mp mp).st = 3 then d.raise (R.MPn_EVT.VIRAL mp) else d) := rfl

theorem exec_hstLinkDown (s : State) :
    exec .hstLinkDown s =
      onDev s hstLinkDown := rfl

theorem exec_chainBadFrame (bytes : List Nat) (crc : Nat) (s : State) :
    exec (.chainBadFrame bytes crc) s =
      onDevAlways s (chainBadFrame bytes crc) := rfl

theorem exec_readBusError (src : Src) (ofs size : Nat) (s : State) :
    exec (.readBusError src ofs size) s =
      onDev s (readBusError src ofs size) := rfl

theorem exec_boundaryScan (t : Tap) (s : State) :
    exec (.boundaryScan t) s =
      onDevAlways s (boundaryScan t) := rfl

end Sys2Proof.Machine
end

