-- ==== Sys2Proof/WellFormed.lean ====
section
/-! DEFINITION. Which commands are well formed: every operand within the width the manual gives it
(Tables ARC-6, LNK-5, LNK-6, EVT-5, DST-8). -/

namespace Sys2Proof

/-- An agent port (Table ARC-6). -/
def portOk (n : Nat) : Bool := n < 32
/-- A Molile Link port: an agent port, or 32 for TW (R388). -/
def linkOk (n : Nat) : Bool := n ≤ 32
/-- One of a worker's two uplinks (Table ARC-4). -/
def uplinkOk (n : Nat) : Bool := n < 2
/-- A lane, DSL00 to DSL17 (R294). -/
def laneOk (n : Nat) : Bool := n < 18
/-- A rank of a lane (Table DST-2). -/
def rankOk (n : Nat) : Bool := n < 2
/-- A memory port, MP0 to MP7. -/
def mpOk (n : Nat) : Bool := n < 8
/-- An append stream (R274). -/
def streamOk (n : Nat) : Bool := n < 64
/-- A way group. -/
def groupOk (n : Nat) : Bool := n < 4
/-- A 12-bit request tag or transaction-table entry (R26, R132). -/
def tagOk (n : Nat) : Bool := n < 4096
/-- A 16-bit ticket number (R140). -/
def tktOk (n : Nat) : Bool := n < 65536
/-- A stream channel of a request (R349). -/
def chanOk (n : Nat) : Bool := n < 16
/-- A timetable index (R242). -/
def tableOk (n : Nat) : Bool := n < 1024
/-- A software queue (Table EVT-5). -/
def queueOk (n : Nat) : Bool := n < 5
/-- A counter: 8 fixed and 64 programmable ones (R543). -/
def ctrOk (fixed : Bool) (n : Nat) : Bool := if fixed then n < 8 else n < 64
/-- A line address, byte address [47:7]. -/
def lineOk (n : Nat) : Bool := n < 2 ^ 41
/-- A byte address as a message carries it. -/
def addrOk (n : Nat) : Bool := n < 2 ^ 64
/-- The index of a line of a departure (R232). -/
def lidxOk (n : Nat) : Bool := n < 64
/-- The line count field of a Depart, 7 bits. -/
def countOk (n : Nat) : Bool := n < 128
/-- A manifest number. -/
def manOk (n : Nat) : Bool := n < 256
/-- A departure tag, 16 bits. -/
def dtagOk (n : Nat) : Bool := n < 65536
/-- A chain address, 6 bits. -/
def devOk (n : Nat) : Bool := n < 64
/-- The LEN code of an Append, 4 bits. -/
def lenOk (n : Nat) : Bool := n < 16
/-- A BAR0 offset, 28 bits (R488). -/
def ofsOk (n : Nat) : Bool := n < 2 ^ 28
/-- An access size of the host port (R507). -/
def sizeOk (n : Nat) : Bool := n == 1 || n == 2 || n == 4 || n == 8
/-- Only the host port makes accesses of another size than 4 bytes (R507). -/
def widthOk (src : Src) (n : Nat) : Bool := sizeOk n && (src == .host || n == 4)
/-- A read may also be too long for the register bus (R396). -/
def longOk (src : Src) (n : Nat) : Bool := if src == .host then 0 < n && n ≤ 128 else n == 4
/-- Responses that report overload: a line has two halves (R390, R391). -/
def loadsOk (n : Nat) : Bool := n ≤ 2
/-- A word of an on-die array that exists (R358). -/
def sramOk : SramWord → Bool
  | .hdcData set => set < 2 ^ 26
  | .sdrData k => k < 2 ^ 33
  | .depBuf i l => tableOk i && lidxOk l
  | .timetable i => tableOk i
  | .append n off => streamOk n && off % 128 == 0
  | .queue q _ => queueOk q
  | .hdcTag | .dir | .sdrTag | .txn | .wbf _ | .log _ | .apply | .other => true
/-- An error of an array names a word that exists. -/
def upsetOk (u : Option Upset) : Bool := match u with | some u => sramOk u.word | none => true
/-- An address of the bit-alias window (Table REG-1). -/
def aliasOk (n : Nat) : Bool := 2 ^ 27 ≤ n && n < 2 ^ 28
/-- A bit of CLK_FORCE.GATE or PWR_DOM_OFF. -/
def gateOk (n : Nat) : Bool := n < 11
/-- A power domain (Table PWR-1). -/
def domOk (n : Nat) : Bool := n < 21
/-- A wake step (Table PWR-8). -/
def wakeStepOk (n : Nat) : Bool := 1 ≤ n && n ≤ 4
/-- A 16-bit field. -/
def half16 (n : Nat) : Bool := n < 65536
/-- A 32-bit field. -/
def word32 (n : Nat) : Bool := n < 2 ^ 32

/-- A slot as read from flash: each header field within its bytes, and at most as many records as a slot can hold
(Table MOD-5). -/
def Image.wf (i : Image) : Bool :=
  word32 i.magic && word32 i.seq && word32 i.len && i.flags < 256 && i.ver < 256 && i.step < 256 && i.rsv < 2 ^ 104 &&
  word32 i.crc && i.records.all (fun r => word32 r.1) && i.records.length ≤ 16384

/-- The base of a register page. -/
def pageOk (n : Nat) : Bool := n < 2 ^ 22 && n % 0x1000 == 0
/-- An event word (R521). -/
def evcWordOk (n : Nat) : Bool := n < 36
/-- One of the two EVC_REARM registers. -/
def rearmOk (n : Nat) : Bool := n < 2
/-- A 16-bit EPOCH. -/
def epochOk (n : Nat) : Bool := n < 65536
/-- A token kind (Table PWR-5). -/
def kindOk (n : Nat) : Bool := n < 6
/-- A clock source that is a PLL (Table CLK-1). -/
def pllOk (n : Nat) : Bool := 2 ≤ n && n < 19
/-- An operating point (Table PWR-4). -/
def pointOk (n : Nat) : Bool := n < 4
/-- A maintenance operation code (R78). -/
def opOk (n : Nat) : Bool := n < 4
/-- The slots between a wrap and its capture (R549). -/
def skidOk (n : Nat) : Bool := n ≤ 64
/-- A chain sequence number, one byte (Table MOD-7). -/
def seqOk (n : Nat) : Bool := n < 256

/-- The head of a request: each field within its width. -/
def Head.wf (h : Head) : Bool := portOk h.port && tagOk h.tag && addrOk h.addr && portOk h.oport && portOk h.widx

/-- The body of a retried request. -/
def Body.wf : Body → Bool
  | .rdOnce ch => chanOk ch
  | .wrFull ch _ => chanOk ch
  | .wrPart ch _ _ => chanOk ch
  | .append s l _ => streamOk s && lenOk l
  | .rdShared | .rdFetch | .rdOwn | .upgrade => true

/-- A flit of a kind: FK as Table LNK-2 codes it. -/
def Flit.wf (f : Flit) (fk : Nat) : Bool := f.kind == fk

/-- Slot 0 of an HB flit (R388). -/
def Flit.beats (f : Flit) (serving : Bool) (state epoch mseq : Nat) : Bool :=
  bits (f.slot 0) 8 8 == (if serving then 0 else 1) && bits (f.slot 0) 12 9 == state && bits (f.slot 0) 28 13 == epoch &&
  bits (f.slot 0) 60 29 == mseq

/-- A frame's payload: each field within its width (Table MOD-8). -/
def Frame.wf : Frame → Bool
  | .enum c _ => devOk c
  | .rd o | .wr o _ | .bwr o _ _ => o < 2 ^ 22
  | .rsp st _ => st < 3
  | .evt dev w mode _ _ => devOk dev && evcWordOk w && mode < 16
  | .mbx _ _ => true

/-- A chain frame: six-bit addresses, one sequence byte (Table MOD-7). -/
def ChainMsg.wf (m : ChainMsg) : Bool := devOk m.dst && devOk m.src && seqOk m.seq && m.frame.wf

/-- The bytes of a frame: head and payload (Table MOD-7). -/
def frameBytesOk (l : List Nat) : Bool := 4 ≤ l.length && l.all (· < 256)

/-- A line of a departure. -/
def Boarded.wf (b : Boarded) : Bool := lidxOk b.idx

/-- An announced departure. -/
def Dep.wf (d : Dep) : Bool := tableOk d.idx && tableOk d.cidx && countOk d.count && lineOk d.line

/-- A draining function. -/
def DrainFn.wf : DrainFn → Bool
  | .port n => portOk n
  | .stream n => streamOk n
  | .dep | .scb => true

/-- A well-formed command. -/
def Instr.wf : Instr → Bool
  | .rdShared h => h.wf
  | .rdFetch h => h.wf
  | .rdOwn h => h.wf
  | .rdOnce h ch => h.wf && chanOk ch
  | .upgrade h => h.wf
  | .wrBack h _ => h.wf
  | .wrFull h ch _ => h.wf && chanOk ch
  | .wrPart h ch _ _ => h.wf && chanOk ch
  | .depart h count _ man dtag odev => h.wf && countOk count && manOk man && dtagOk dtag && devOk odev
  | .append h stream len _ => h.wf && streamOk stream && lenOk len
  | .ticketRetry h tkt b => h.wf && tktOk tkt && b.wf
  | .stbyExpired tkt => tktOk tkt
  | .reservationFreed port => portOk port
  | .snpData port txid _ _ _ => portOk port && tagOk txid
  | .ackaSnoop port txid => portOk port && tagOk txid
  | .ackaGrant port txid => portOk port && tagOk txid
  | .miss port txid _ => portOk port && tagOk txid
  | .transactionActivate txid u => tagOk txid && upsetOk u
  | .berthHoldEnd _ => true
  | .rspTimeout port txid => portOk port && tagOk txid
  | .transactionRetire txid => tagOk txid
  | .headerFetchDone _ _ => true
  | .headerWaitUnpin txid => tagOk txid
  | .lineReadDone txid _ u => tagOk txid && upsetOk u
  | .memReadDone line _ loads => lineOk line && loadsOk loads
  | .nextLevelWriteAck line loads => lineOk line && loadsOk loads
  | .wrFail line => lineOk line
  | .victimCopy txid => tagOk txid
  | .victimWaitEligible txid => tagOk txid
  | .combiningTimeout line => lineOk line
  | .wbfFlush _ => true
  | .hdcFlush _ => true
  | .flushDone => true
  | .pipQuarClr _ => true
  | .wayGroupPowerDown _ g => groupOk g
  | .sweepSet => true
  | .sweepDone => true
  | .sweepStop _ g => groupOk g
  | .wayGroupWake _ g => groupOk g
  | .mntStart _ op _ => opOk op
  | .mntAbort _ => true
  | .mntLine => true
  | .mntDone => true
  | .dirProbeGo _ => true
  | .dirProbeDone => true
  | .depProbeGo _ => true
  | .managerSnoop uplink _ mtxid addr => uplinkOk uplink && tagOk mtxid && addrOk addr
  | .uplinkResponse uplink oport tag _ => uplinkOk uplink && portOk oport && tagOk tag
  | .uplinkDown => true
  | .sdrInitDone => true
  | .takeoverDownlink port epoch => portOk port && epochOk epoch
  | .takeoverUplink uplink epoch => uplinkOk uplink && epochOk epoch
  | .homeMoved port epoch => portOk port && epochOk epoch
  | .pairDigest _ _ _ addr => devOk addr
  | .pairingGuardExpiry => true
  | .partnerRead _ => true
  | .heartbeat => true
  | .hbLoss => true
  | .lossWaitConfirm _ => true
  | .fencedCheck _ => true
  | .twnGuardExpiry => true
  | .resendWindowEnd _ => true
  | .join _ => true
  | .detach _ => true
  | .forceTake _ => true
  | .twnResume _ => true
  | .copyDone => true
  | .mirrorFlit _ _ => true
  | .mirrorApply => true
  | .mirrorAck _ => true
  | .dirtyCopyReport txid port => tagOk txid && portOk port
  | .depAnnounce uplink d => uplinkOk uplink && d.wf
  | .depAccept port idx _ => portOk port && tableOk idx
  | .depRefuse port idx => portOk port && tableOk idx
  | .depCancelMsg uplink idx _ => uplinkOk uplink && tableOk idx
  | .depBoard uplink idx addr _ => uplinkOk uplink && tableOk idx && addrOk addr
  | .depBoardMiss port idx line => portOk port && tableOk idx && lineOk line
  | .depLineFromWorker port idx b => portOk port && tableOk idx && b.wf
  | .depLineToWorker uplink idx b => uplinkOk uplink && tableOk idx && b.wf
  | .depAckAtManager port idx lidx => portOk port && tableOk idx && lidxOk lidx
  | .depAckAtWorker uplink idx lidx => uplinkOk uplink && tableOk idx && lidxOk lidx
  | .boardingStart idx => tableOk idx
  | .quietWindow idx => tableOk idx
  | .departureRelease idx => tableOk idx
  | .lateStaged idx => tableOk idx
  | .immediateRelease idx port => tableOk idx && portOk port
  | .releaseEnd idx => tableOk idx
  | .depCancelGo _ => true
  | .depDisable _ => true
  | .streamEnable _ n => streamOk n
  | .streamDisable _ n => streamOk n
  | .apdFlush _ n => streamOk n
  | .appendCombineTimeout n => streamOk n
  | .apdLineWriteDone n _ => streamOk n
  | .lineFail n _ => streamOk n
  | .apdHeadWrite _ n _ => streamOk n
  | .apdDescriptorWrite _ n _ _ => streamOk n
  | .laneStartUp lane => laneOk lane
  | .trainingTokenGrant lane _ => laneOk lane
  | .trainFail lane step => laneOk lane && (4 ≤ step && step ≤ 11)
  | .headerFill => true
  | .fillDone => true
  | .refresh lane rank => laneOk lane && rankOk rank
  | .postponedRefreshBurst lane rank => laneOk lane && rankOk rank
  | .rfm lane rank bank => laneOk lane && rankOk rank && bank < 32
  | .mr4Poll lane rank _ => laneOk lane && rankOk rank
  | .zqCalibration => true
  | .selfRefreshExit lane => laneOk lane
  | .dsVrPgTimeout g => groupOk g
  | .vrStuck g => groupOk g
  | .vrFault g => groupOk g
  | .lossSweepDone => true
  | .correctionWindowClose => true
  | .scrubBurst => true
  | .scrubGapEnd => true
  | .scrubReadDone lane _ => laneOk lane
  | .scbDisable _ => true
  | .flipArm _ => true
  | .flipDiscard _ => true
  | .chanHaltClr _ port _ => portOk port
  | .peerDetect port => linkOk port
  | .linkTrained port _ width rate => linkOk port && width < 3 && rate < 2
  | .init port f => linkOk port && f.wf 3
  | .initResend port => linkOk port
  | .dataFlit port f => linkOk port && f.wf 0
  | .nak port f exp => linkOk port && f.wf 2 && bits (f.slot 0) 19 8 == exp
  | .recoverDone port _ => linkOk port
  | .lpIdle port => linkOk port
  | .lpm port f code => linkOk port && f.wf 5 && bits (f.slot 0) 9 8 == code
  | .lpExit port => linkOk port
  | .linkDown port => linkOk port
  | .lost port => linkOk port
  | .portDisable _ port => portOk port
  | .portEnable _ port => portOk port
  | .drainingEnd fn => fn.wf
  | .memoryPortBringUp mp _ => mpOk mp
  | .mpLinkDown mp => mpOk mp
  | .mpFailed mp => mpOk mp
  | .mpRemove _ mp => mpOk mp
  | .mpAdd _ mp _ => mpOk mp
  | .mpIoData _ mp _ _ _ => mpOk mp
  | .flr _ => true
  | .rstNLow _ => true
  | .resetRelease _ _ _ => true
  | .crystalReady => true
  | .xtalFail => true
  | .xtalRetry _ => true
  | .xtalLost => true
  | .pllLock k => pllOk k
  | .pllTimeout k => pllOk k
  | .pllFail k => pllOk k
  | .pllRelock k => pllOk k
  | .clockSwitch _ => true
  | .forced _ => true
  | .clkForceGate _ _ => true
  | .gateClose bit => gateOk bit
  | .clkOutCfgWrite _ _ => true
  | .clkMeasGo _ sel => sel < 32
  | .measDone khz => khz < 2 ^ 24
  | .bellLock => true
  | .belArm _ => true
  | .belDisarm _ => true
  | .syncSeen => true
  | .markArm _ => true
  | .markDone => true
  | .bellLost => true
  | .domainOff _ bit => gateOk bit
  | .domainOn _ bit => gateOk bit
  | .padRelease _ _ => true
  | .pmbusPoll _ ans => (match ans with | some (w, _) => half16 w | none => true)
  | .vrAlert st => (match st with | some w => half16 w | none => true)
  | .vrClear _ => true
  | .vrPgLost => true
  | .dvfsTarget _ t => pointOk t
  | .dvfsFgo _ => true
  | .dvfsVgo _ => true
  | .voltageReached ans => match ans with | some (w, _) => half16 w | none => true
  | .wakeTo step dom => wakeStepOk step && domOk dom
  | .purserUpdate => true
  | .purserRescale => true
  | .tokenReturn kind _ => kindOk kind
  | .overCap kind _ => kindOk kind
  | .dozeReq _ => true
  | .dozeStage => true
  | .dozeQuiesceTimeout => true
  | .wakeEvent bit => bit < 4
  | .dozeWake _ => true
  | .dozeOut => true
  | .flashReadDone a b => a.wf && b.wf
  | .go _ => true
  | .autostart => true
  | .selfTestDone failArr _ us => failArr < 13 && word32 us
  | .trainComplete => true
  | .serve _ _ => true
  | .drain _ => true
  | .drainSet => true
  | .drainDone => true
  | .drainResume _ => true
  | .restart _ => true
  | .chainRd m crc => m.wf && half16 crc
  | .chainWr m crc => m.wf && half16 crc
  | .chainBwr m crc => m.wf && half16 crc
  | .chainRsp m crc => m.wf && half16 crc
  | .chainEvt m crc => m.wf && half16 crc
  | .mbx m crc => m.wf && half16 crc
  | .enum m crc _ => m.wf && half16 crc
  | .noAnswer seq => seqOk seq
  | .chnEnum _ => true
  | .chnGo _ => true
  | .inLost => true
  | .chnInRegain => true
  | .registerWrite src ofs size _ => ofsOk ofs && longOk src size
  | .lock _ page => pageOk page
  | .evtRead _ page => pageOk page
  | .rcRead _ ofs => ofsOk ofs
  | .loRead _ ofs => ofsOk ofs
  | .hiWrite _ ofs _ => ofsOk ofs
  | .loWrite _ ofs _ => ofsOk ofs
  | .aliasRead src ofs size => aliasOk ofs && widthOk src size
  | .aliasWrite src ofs size _ => aliasOk ofs && widthOk src size
  | .watchdogTimeout _ ofs _ => ofsOk ofs
  | .cfgPassEnd us => half16 us
  | .cfgCommit _ => true
  | .commitDone us => half16 us
  | .evcRearm _ word _ => rearmOk word
  | .pbaRelease => true
  | .evtFrameSend word => evcWordOk word
  | .queDataRead src n size => queueOk n && widthOk src size
  | .queDrop _ n => queueOk n
  | .mboWrite _ _ => true
  | .mboSend => true
  | .pmuClear _ => true
  | .counterWrap fixed n => ctrOk fixed n
  | .sample skid => skidOk skid
  | .pmuSmpDone _ => true
  | .coreCycle => true
  | .bellTick => true
  | .pwrOkRise => true
  | .dsVrPgRise g => groupOk g
  | .idleFlit port f => linkOk port && f.wf 1
  | .heartbeatReceived f serving state epoch mseq => f.wf 4 && f.beats serving state epoch mseq
  | .mpLinkReturn mp width _ => mpOk mp && width < 2
  | .viral mp => mpOk mp
  | .hstLinkDown => true
  | .chainBadFrame bytes crc => frameBytesOk bytes && half16 crc
  | .readBusError src ofs size => ofsOk ofs && longOk src size
  | .boundaryScan _ => true

end Sys2Proof
end

