-- ==== Sys2Proof/Laws/PerInstr.lean ====
section
/-! SUPPORT. For every command: the register a well-formed command writes is a register of the map (R490). -/

namespace Sys2Proof.Laws

set_option Elab.async false

/-- The register a well-formed command writes is implemented: its offset is that of a row of its page. -/
def TargetsAreRegisters.Statement (i : Instr) : Prop :=
  i.wf = true → ∀ (src : Src) (ofs : Nat), i.target = some (src, ofs) → (Machine.rowAt ofs).isSome = true

/-- A command that writes no one register meets the statement. -/
theorem no_target_statement {i : Instr} (h : i.target = none) : TargetsAreRegisters.Statement i :=
  fun _ _ _ ht => absurd (h.symm.trans ht) nofun

/-- A command that writes the register at an implemented offset meets the statement. -/
theorem row_target_statement {i : Instr} {src : Src} {ofs : Nat} (h : i.target = some (src, ofs))
    (hr : i.wf = true → (Machine.rowAt ofs).isSome = true) : TargetsAreRegisters.Statement i := by
  intro hw src2 ofs2 ht
  obtain ⟨rfl, rfl⟩ := Prod.mk.inj (Option.some.inj (h.symm.trans ht))
  exact hr hw

/-- The offsets of the registers that commands write whatever their operands. -/
def fixedTargets : List Nat := [
  Machine.R.CLK_FORCE.GATE.ofs, Machine.R.CLK_OUT_CFG.SEL.ofs, Machine.R.PWR_PAD_RELEASE.REL.ofs,
  Machine.R.WBF_FLUSH.FLUSH.ofs, Machine.R.HDC_FLUSH.FLUSH.ofs, Machine.R.PIP_QUAR_CLR.CLR.ofs, Machine.R.PWR_WG_REQ.REQ.ofs,
  Machine.R.PIP_MNT_CTRL.ABORT.ofs, Machine.R.DIR_PROBE_CTRL.GO.ofs, Machine.R.DEP_PROBE_CTRL.GO.ofs, Machine.R.TWN_CMD.JOIN.ofs,
  Machine.R.TWN_CMD.DETACH.ofs, Machine.R.TWN_CMD.FORCE_TAKE.ofs, Machine.R.TWN_CMD.RESUME.ofs, Machine.R.DEP_CANCEL_CTRL.GO.ofs,
  Machine.depEN.ofs, Machine.scbEN.ofs, Machine.R.ECC_FLIP_CTRL.ARM.ofs, Machine.R.ECC_TEST_SEL.SEL.ofs,
  Machine.R.CLK_CMD.XTAL_RETRY.ofs, Machine.R.CLK_MEAS_CTRL.GO.ofs, Machine.R.BEL_CTRL.ARM.ofs, Machine.R.BEL_CTRL.DISARM.ofs,
  Machine.R.BEL_CTRL.MARK_ARM.ofs, Machine.R.PWR_DOM_OFF.OFF.ofs, Machine.R.PWR_VR_CMD.CLEAR.ofs, Machine.R.PWR_DVFS.TARGET.ofs,
  Machine.R.PWR_DVFS_MAN.FGO.ofs, Machine.R.PWR_DVFS_MAN.VGO.ofs, Machine.R.PWR_DOZE_CTRL.REQ.ofs, Machine.R.PWR_DOZE_CTRL.WAKE.ofs,
  Machine.R.GCR_CMD.GO.ofs, Machine.R.GCR_CFG.SERVE.ofs, Machine.R.GCR_CMD.DRAIN.ofs, Machine.R.GCR_CMD.RESUME.ofs,
  Machine.R.GCR_CMD.RESTART.ofs, Machine.R.CHN_CMD.ENUM.ofs, Machine.R.CHN_CMD.GO.ofs, Machine.R.CFG_COMMIT.COMMIT.ofs,
  (Machine.R.QUEn_DATA.DATA 4).ofs, Machine.R.PMU_GCTL.CLEAR.ofs, Machine.R.PMU_SMP_CTRL.DONE.ofs]

theorem fixed_rows : ∀ ofs ∈ fixedTargets, (Machine.rowAt ofs).isSome = true := by decide +kernel

theorem apd_ctrl_rows : ∀ n, n < 64 → (Machine.rowAt (0x1C100 + 8 * n)).isSome = true := by decide +kernel

theorem apd_desc_rows : ∀ k ∈ [0x4, 0x8, 0x14, 0x24], ∀ n, n < 64 → (Machine.rowAt (Machine.apdReg n k)).isSome = true := by
  decide +kernel

theorem rearm_rows : ∀ n, n < 2 → (Machine.rowAt (Machine.R.EVC_REARM0.REARM.ofs + 4 * n)).isSome = true := by
  decide +kernel

theorem que_drop_rows : ∀ n, n < 5 → (Machine.rowAt (Machine.R.QUEn_DROP.DROP n).ofs).isSome = true := by decide +kernel

theorem chan_halt_rows : ∀ n, n < 32 → (Machine.rowAt (Machine.R.ECC_CHAN_HALTn.CLR n).ofs).isSome = true := by
  decide +kernel

theorem port_ctrl_rows : ∀ n, n < 32 → (Machine.rowAt (Machine.portEN n).ofs).isSome = true := by decide +kernel

theorem mp_hp_rows : ∀ n, n < 8 → (Machine.rowAt (Machine.R.MPn_HP.REMOVE n).ofs).isSome = true ∧
    (Machine.rowAt (Machine.R.MPn_HP.ADD n).ofs).isSome = true := by decide +kernel

theorem TargetsAreRegisters.rdShared (h : Head) : TargetsAreRegisters.Statement (.rdShared h) := no_target_statement rfl
theorem TargetsAreRegisters.rdFetch (h : Head) : TargetsAreRegisters.Statement (.rdFetch h) := no_target_statement rfl
theorem TargetsAreRegisters.rdOwn (h : Head) : TargetsAreRegisters.Statement (.rdOwn h) := no_target_statement rfl
theorem TargetsAreRegisters.rdOnce (h : Head) (ch : Nat) : TargetsAreRegisters.Statement (.rdOnce h ch) :=
  no_target_statement rfl
theorem TargetsAreRegisters.upgrade (h : Head) : TargetsAreRegisters.Statement (.upgrade h) := no_target_statement rfl
theorem TargetsAreRegisters.wrBack (h : Head) (p : Payload) : TargetsAreRegisters.Statement (.wrBack h p) :=
  no_target_statement rfl
theorem TargetsAreRegisters.wrFull (h : Head) (ch : Nat) (p : Payload) : TargetsAreRegisters.Statement (.wrFull h ch p) :=
  no_target_statement rfl
theorem TargetsAreRegisters.wrPart (h : Head) (ch : Nat) (mask : Mask) (p : Payload) :
    TargetsAreRegisters.Statement (.wrPart h ch mask p) :=
  no_target_statement rfl
theorem TargetsAreRegisters.depart (h : Head) (count : Nat) (t : BitVec 64) (man : Nat) (dtag : Nat) (odev : Nat) :
    TargetsAreRegisters.Statement (.depart h count t man dtag odev) :=
  no_target_statement rfl
theorem TargetsAreRegisters.append (h : Head) (stream : Nat) (len : Nat) (p : Payload) :
    TargetsAreRegisters.Statement (.append h stream len p) :=
  no_target_statement rfl
theorem TargetsAreRegisters.ticketRetry (h : Head) (tkt : Nat) (b : Body) :
    TargetsAreRegisters.Statement (.ticketRetry h tkt b) :=
  no_target_statement rfl
theorem TargetsAreRegisters.stbyExpired (tkt : Nat) : TargetsAreRegisters.Statement (.stbyExpired tkt) :=
  no_target_statement rfl
theorem TargetsAreRegisters.reservationFreed (port : Nat) : TargetsAreRegisters.Statement (.reservationFreed port) :=
  no_target_statement rfl
theorem TargetsAreRegisters.snpData (port : Nat) (txid : Nat) (dty : Bool) (rst : LState) (p : Payload) :
    TargetsAreRegisters.Statement (.snpData port txid dty rst p) :=
  no_target_statement rfl
theorem TargetsAreRegisters.ackaSnoop (port : Nat) (txid : Nat) : TargetsAreRegisters.Statement (.ackaSnoop port txid) :=
  no_target_statement rfl
theorem TargetsAreRegisters.ackaGrant (port : Nat) (txid : Nat) : TargetsAreRegisters.Statement (.ackaGrant port txid) :=
  no_target_statement rfl
theorem TargetsAreRegisters.miss (port : Nat) (txid : Nat) (wbp : Bool) :
    TargetsAreRegisters.Statement (.miss port txid wbp) :=
  no_target_statement rfl
theorem TargetsAreRegisters.transactionActivate (txid : Nat) (upset : Option Upset) :
    TargetsAreRegisters.Statement (.transactionActivate txid upset) :=
  no_target_statement rfl
theorem TargetsAreRegisters.berthHoldEnd (key : Nat) : TargetsAreRegisters.Statement (.berthHoldEnd key) :=
  no_target_statement rfl
theorem TargetsAreRegisters.rspTimeout (port : Nat) (txid : Nat) :
    TargetsAreRegisters.Statement (.rspTimeout port txid) :=
  no_target_statement rfl
theorem TargetsAreRegisters.transactionRetire (txid : Nat) : TargetsAreRegisters.Statement (.transactionRetire txid) :=
  no_target_statement rfl
theorem TargetsAreRegisters.headerFetchDone (set : Nat) (noise : Burst) :
    TargetsAreRegisters.Statement (.headerFetchDone set noise) :=
  no_target_statement rfl
theorem TargetsAreRegisters.headerWaitUnpin (txid : Nat) : TargetsAreRegisters.Statement (.headerWaitUnpin txid) :=
  no_target_statement rfl
theorem TargetsAreRegisters.lineReadDone (txid : Nat) (noise : Burst) (upset : Option Upset) :
    TargetsAreRegisters.Statement (.lineReadDone txid noise upset) :=
  no_target_statement rfl
theorem TargetsAreRegisters.memReadDone (line : Nat) (ans : MemAns) (loads : Nat) :
    TargetsAreRegisters.Statement (.memReadDone line ans loads) :=
  no_target_statement rfl
theorem TargetsAreRegisters.nextLevelWriteAck (line : Nat) (loads : Nat) :
    TargetsAreRegisters.Statement (.nextLevelWriteAck line loads) :=
  no_target_statement rfl
theorem TargetsAreRegisters.wrFail (line : Nat) : TargetsAreRegisters.Statement (.wrFail line) := no_target_statement rfl
theorem TargetsAreRegisters.victimCopy (txid : Nat) : TargetsAreRegisters.Statement (.victimCopy txid) :=
  no_target_statement rfl
theorem TargetsAreRegisters.victimWaitEligible (txid : Nat) : TargetsAreRegisters.Statement (.victimWaitEligible txid) :=
  no_target_statement rfl
theorem TargetsAreRegisters.combiningTimeout (line : Nat) : TargetsAreRegisters.Statement (.combiningTimeout line) :=
  no_target_statement rfl
theorem TargetsAreRegisters.wbfFlush (src : Src) : TargetsAreRegisters.Statement (.wbfFlush src) :=
  row_target_statement rfl (fun _ => fixed_rows _ (by decide))
theorem TargetsAreRegisters.hdcFlush (src : Src) : TargetsAreRegisters.Statement (.hdcFlush src) :=
  row_target_statement rfl (fun _ => fixed_rows _ (by decide))
theorem TargetsAreRegisters.flushDone : TargetsAreRegisters.Statement (.flushDone) := no_target_statement rfl
theorem TargetsAreRegisters.pipQuarClr (src : Src) : TargetsAreRegisters.Statement (.pipQuarClr src) :=
  row_target_statement rfl (fun _ => fixed_rows _ (by decide))
theorem TargetsAreRegisters.wayGroupPowerDown (src : Src) (g : Nat) :
    TargetsAreRegisters.Statement (.wayGroupPowerDown src g) :=
  row_target_statement rfl (fun _ => fixed_rows _ (by decide))
theorem TargetsAreRegisters.sweepSet : TargetsAreRegisters.Statement (.sweepSet) := no_target_statement rfl
theorem TargetsAreRegisters.sweepDone : TargetsAreRegisters.Statement (.sweepDone) := no_target_statement rfl
theorem TargetsAreRegisters.sweepStop (src : Src) (g : Nat) : TargetsAreRegisters.Statement (.sweepStop src g) :=
  row_target_statement rfl (fun _ => fixed_rows _ (by decide))
theorem TargetsAreRegisters.wayGroupWake (src : Src) (g : Nat) : TargetsAreRegisters.Statement (.wayGroupWake src g) :=
  row_target_statement rfl (fun _ => fixed_rows _ (by decide))
theorem TargetsAreRegisters.mntStart (src : Src) (op : Nat) (whole : Bool) :
    TargetsAreRegisters.Statement (.mntStart src op whole) :=
  row_target_statement rfl (fun _ => fixed_rows _ (by decide))
theorem TargetsAreRegisters.mntAbort (src : Src) : TargetsAreRegisters.Statement (.mntAbort src) :=
  row_target_statement rfl (fun _ => fixed_rows _ (by decide))
theorem TargetsAreRegisters.mntLine : TargetsAreRegisters.Statement (.mntLine) := no_target_statement rfl
theorem TargetsAreRegisters.mntDone : TargetsAreRegisters.Statement (.mntDone) := no_target_statement rfl
theorem TargetsAreRegisters.dirProbeGo (src : Src) : TargetsAreRegisters.Statement (.dirProbeGo src) :=
  row_target_statement rfl (fun _ => fixed_rows _ (by decide))
theorem TargetsAreRegisters.dirProbeDone : TargetsAreRegisters.Statement (.dirProbeDone) := no_target_statement rfl
theorem TargetsAreRegisters.depProbeGo (src : Src) : TargetsAreRegisters.Statement (.depProbeGo src) :=
  row_target_statement rfl (fun _ => fixed_rows _ (by decide))
theorem TargetsAreRegisters.managerSnoop (uplink : Nat) (sn : Snoop) (mtxid : Nat) (addr : Nat) :
    TargetsAreRegisters.Statement (.managerSnoop uplink sn mtxid addr) :=
  no_target_statement rfl
theorem TargetsAreRegisters.uplinkResponse (uplink : Nat) (oport : Nat) (tag : Nat) (ans : UpAns) :
    TargetsAreRegisters.Statement (.uplinkResponse uplink oport tag ans) :=
  no_target_statement rfl
theorem TargetsAreRegisters.uplinkDown : TargetsAreRegisters.Statement (.uplinkDown) := no_target_statement rfl
theorem TargetsAreRegisters.sdrInitDone : TargetsAreRegisters.Statement (.sdrInitDone) := no_target_statement rfl
theorem TargetsAreRegisters.takeoverDownlink (port : Nat) (epoch : Nat) :
    TargetsAreRegisters.Statement (.takeoverDownlink port epoch) :=
  no_target_statement rfl
theorem TargetsAreRegisters.takeoverUplink (uplink : Nat) (epoch : Nat) :
    TargetsAreRegisters.Statement (.takeoverUplink uplink epoch) :=
  no_target_statement rfl
theorem TargetsAreRegisters.homeMoved (port : Nat) (epoch : Nat) :
    TargetsAreRegisters.Statement (.homeMoved port epoch) :=
  no_target_statement rfl
theorem TargetsAreRegisters.pairDigest (digest : Word) (role : Role) (grade : Bool) (addr : Nat) :
    TargetsAreRegisters.Statement (.pairDigest digest role grade addr) :=
  no_target_statement rfl
theorem TargetsAreRegisters.pairingGuardExpiry : TargetsAreRegisters.Statement (.pairingGuardExpiry) :=
  no_target_statement rfl
theorem TargetsAreRegisters.partnerRead (ans : Option Partner) : TargetsAreRegisters.Statement (.partnerRead ans) :=
  no_target_statement rfl
theorem TargetsAreRegisters.heartbeat : TargetsAreRegisters.Statement (.heartbeat) := no_target_statement rfl
theorem TargetsAreRegisters.hbLoss : TargetsAreRegisters.Statement (.hbLoss) := no_target_statement rfl
theorem TargetsAreRegisters.lossWaitConfirm (ans : Option Partner) :
    TargetsAreRegisters.Statement (.lossWaitConfirm ans) :=
  no_target_statement rfl
theorem TargetsAreRegisters.fencedCheck (ans : Option Partner) : TargetsAreRegisters.Statement (.fencedCheck ans) :=
  no_target_statement rfl
theorem TargetsAreRegisters.twnGuardExpiry : TargetsAreRegisters.Statement (.twnGuardExpiry) := no_target_statement rfl
theorem TargetsAreRegisters.resendWindowEnd (ns : Nat) : TargetsAreRegisters.Statement (.resendWindowEnd ns) :=
  no_target_statement rfl
theorem TargetsAreRegisters.join (src : Src) : TargetsAreRegisters.Statement (.join src) :=
  row_target_statement rfl (fun _ => fixed_rows _ (by decide))
theorem TargetsAreRegisters.detach (src : Src) : TargetsAreRegisters.Statement (.detach src) :=
  row_target_statement rfl (fun _ => fixed_rows _ (by decide))
theorem TargetsAreRegisters.forceTake (src : Src) : TargetsAreRegisters.Statement (.forceTake src) :=
  row_target_statement rfl (fun _ => fixed_rows _ (by decide))
theorem TargetsAreRegisters.twnResume (src : Src) : TargetsAreRegisters.Statement (.twnResume src) :=
  row_target_statement rfl (fun _ => fixed_rows _ (by decide))
theorem TargetsAreRegisters.copyDone : TargetsAreRegisters.Statement (.copyDone) := no_target_statement rfl
theorem TargetsAreRegisters.mirrorFlit (mseq : Nat) (items : List Item) :
    TargetsAreRegisters.Statement (.mirrorFlit mseq items) :=
  no_target_statement rfl
theorem TargetsAreRegisters.mirrorApply : TargetsAreRegisters.Statement (.mirrorApply) := no_target_statement rfl
theorem TargetsAreRegisters.mirrorAck (mseq : Nat) : TargetsAreRegisters.Statement (.mirrorAck mseq) :=
  no_target_statement rfl
theorem TargetsAreRegisters.dirtyCopyReport (txid : Nat) (port : Nat) :
    TargetsAreRegisters.Statement (.dirtyCopyReport txid port) :=
  no_target_statement rfl
theorem TargetsAreRegisters.depAnnounce (uplink : Nat) (d : Dep) :
    TargetsAreRegisters.Statement (.depAnnounce uplink d) :=
  no_target_statement rfl
theorem TargetsAreRegisters.depAccept (port : Nat) (idx : Nat) (empty : Bool) :
    TargetsAreRegisters.Statement (.depAccept port idx empty) :=
  no_target_statement rfl
theorem TargetsAreRegisters.depRefuse (port : Nat) (idx : Nat) : TargetsAreRegisters.Statement (.depRefuse port idx) :=
  no_target_statement rfl
theorem TargetsAreRegisters.depCancelMsg (uplink : Nat) (idx : Nat) (adm : Bool) :
    TargetsAreRegisters.Statement (.depCancelMsg uplink idx adm) :=
  no_target_statement rfl
theorem TargetsAreRegisters.depBoard (uplink : Nat) (idx : Nat) (addr : Nat) (mask : BitVec 8) :
    TargetsAreRegisters.Statement (.depBoard uplink idx addr mask) :=
  no_target_statement rfl
theorem TargetsAreRegisters.depBoardMiss (port : Nat) (idx : Nat) (line : Nat) :
    TargetsAreRegisters.Statement (.depBoardMiss port idx line) :=
  no_target_statement rfl
theorem TargetsAreRegisters.depLineFromWorker (port : Nat) (idx : Nat) (b : Boarded) :
    TargetsAreRegisters.Statement (.depLineFromWorker port idx b) :=
  no_target_statement rfl
theorem TargetsAreRegisters.depLineToWorker (uplink : Nat) (idx : Nat) (b : Boarded) :
    TargetsAreRegisters.Statement (.depLineToWorker uplink idx b) :=
  no_target_statement rfl
theorem TargetsAreRegisters.depAckAtManager (port : Nat) (idx : Nat) (lidx : Nat) :
    TargetsAreRegisters.Statement (.depAckAtManager port idx lidx) :=
  no_target_statement rfl
theorem TargetsAreRegisters.depAckAtWorker (uplink : Nat) (idx : Nat) (lidx : Nat) :
    TargetsAreRegisters.Statement (.depAckAtWorker uplink idx lidx) :=
  no_target_statement rfl
theorem TargetsAreRegisters.boardingStart (idx : Nat) : TargetsAreRegisters.Statement (.boardingStart idx) :=
  no_target_statement rfl
theorem TargetsAreRegisters.quietWindow (idx : Nat) : TargetsAreRegisters.Statement (.quietWindow idx) :=
  no_target_statement rfl
theorem TargetsAreRegisters.departureRelease (idx : Nat) : TargetsAreRegisters.Statement (.departureRelease idx) :=
  no_target_statement rfl
theorem TargetsAreRegisters.lateStaged (idx : Nat) : TargetsAreRegisters.Statement (.lateStaged idx) :=
  no_target_statement rfl
theorem TargetsAreRegisters.immediateRelease (idx : Nat) (port : Nat) :
    TargetsAreRegisters.Statement (.immediateRelease idx port) :=
  no_target_statement rfl
theorem TargetsAreRegisters.releaseEnd (idx : Nat) : TargetsAreRegisters.Statement (.releaseEnd idx) :=
  no_target_statement rfl
theorem TargetsAreRegisters.depCancelGo (src : Src) : TargetsAreRegisters.Statement (.depCancelGo src) :=
  row_target_statement rfl (fun _ => fixed_rows _ (by decide))
theorem TargetsAreRegisters.depDisable (src : Src) : TargetsAreRegisters.Statement (.depDisable src) :=
  row_target_statement rfl (fun _ => fixed_rows _ (by decide))
theorem TargetsAreRegisters.streamEnable (src : Src) (n : Nat) : TargetsAreRegisters.Statement (.streamEnable src n) :=
  row_target_statement rfl (fun hw => apd_ctrl_rows n (by simpa [Instr.wf, streamOk] using hw))
theorem TargetsAreRegisters.streamDisable (src : Src) (n : Nat) : TargetsAreRegisters.Statement (.streamDisable src n) :=
  row_target_statement rfl (fun hw => apd_ctrl_rows n (by simpa [Instr.wf, streamOk] using hw))
theorem TargetsAreRegisters.apdFlush (src : Src) (n : Nat) : TargetsAreRegisters.Statement (.apdFlush src n) :=
  row_target_statement rfl (fun hw => apd_ctrl_rows n (by simpa [Instr.wf, streamOk] using hw))
theorem TargetsAreRegisters.appendCombineTimeout (n : Nat) : TargetsAreRegisters.Statement (.appendCombineTimeout n) :=
  no_target_statement rfl
theorem TargetsAreRegisters.apdLineWriteDone (n : Nat) (off : Nat) :
    TargetsAreRegisters.Statement (.apdLineWriteDone n off) :=
  no_target_statement rfl
theorem TargetsAreRegisters.lineFail (n : Nat) (off : Nat) : TargetsAreRegisters.Statement (.lineFail n off) :=
  no_target_statement rfl
theorem TargetsAreRegisters.apdHeadWrite (src : Src) (n : Nat) (h : BitVec 64) :
    TargetsAreRegisters.Statement (.apdHeadWrite src n h) :=
  row_target_statement rfl (fun hw => apd_desc_rows 0x24 (by decide) n (by simpa [Instr.wf, streamOk] using hw))
theorem TargetsAreRegisters.apdDescriptorWrite (src : Src) (n : Nat) (r : ApdReg) (v : BitVec 64) :
    TargetsAreRegisters.Statement (.apdDescriptorWrite src n r v) :=
  row_target_statement rfl (fun hw => apd_desc_rows (Machine.descReg r) (by cases r <;> decide) n
    (by simpa [Instr.wf, streamOk] using hw))
theorem TargetsAreRegisters.laneStartUp (lane : Nat) : TargetsAreRegisters.Statement (.laneStartUp lane) :=
  no_target_statement rfl
theorem TargetsAreRegisters.trainingTokenGrant (lane : Nat) (us : Nat) :
    TargetsAreRegisters.Statement (.trainingTokenGrant lane us) :=
  no_target_statement rfl
theorem TargetsAreRegisters.trainFail (lane : Nat) (step : Nat) : TargetsAreRegisters.Statement (.trainFail lane step) :=
  no_target_statement rfl
theorem TargetsAreRegisters.headerFill : TargetsAreRegisters.Statement (.headerFill) := no_target_statement rfl
theorem TargetsAreRegisters.fillDone : TargetsAreRegisters.Statement (.fillDone) := no_target_statement rfl
theorem TargetsAreRegisters.refresh (lane : Nat) (rank : Nat) : TargetsAreRegisters.Statement (.refresh lane rank) :=
  no_target_statement rfl
theorem TargetsAreRegisters.postponedRefreshBurst (lane : Nat) (rank : Nat) :
    TargetsAreRegisters.Statement (.postponedRefreshBurst lane rank) :=
  no_target_statement rfl
theorem TargetsAreRegisters.rfm (lane : Nat) (rank : Nat) (bank : Nat) :
    TargetsAreRegisters.Statement (.rfm lane rank bank) :=
  no_target_statement rfl
theorem TargetsAreRegisters.mr4Poll (lane : Nat) (rank : Nat) (cls : Nat) :
    TargetsAreRegisters.Statement (.mr4Poll lane rank cls) :=
  no_target_statement rfl
theorem TargetsAreRegisters.zqCalibration : TargetsAreRegisters.Statement (.zqCalibration) := no_target_statement rfl
theorem TargetsAreRegisters.selfRefreshExit (lane : Nat) : TargetsAreRegisters.Statement (.selfRefreshExit lane) :=
  no_target_statement rfl
theorem TargetsAreRegisters.dsVrPgTimeout (g : Nat) : TargetsAreRegisters.Statement (.dsVrPgTimeout g) :=
  no_target_statement rfl
theorem TargetsAreRegisters.vrStuck (g : Nat) : TargetsAreRegisters.Statement (.vrStuck g) := no_target_statement rfl
theorem TargetsAreRegisters.vrFault (g : Nat) : TargetsAreRegisters.Statement (.vrFault g) := no_target_statement rfl
theorem TargetsAreRegisters.lossSweepDone : TargetsAreRegisters.Statement (.lossSweepDone) := no_target_statement rfl
theorem TargetsAreRegisters.correctionWindowClose : TargetsAreRegisters.Statement (.correctionWindowClose) :=
  no_target_statement rfl
theorem TargetsAreRegisters.scrubBurst : TargetsAreRegisters.Statement (.scrubBurst) := no_target_statement rfl
theorem TargetsAreRegisters.scrubGapEnd : TargetsAreRegisters.Statement (.scrubGapEnd) := no_target_statement rfl
theorem TargetsAreRegisters.scrubReadDone (lane : Nat) (noise : Burst) :
    TargetsAreRegisters.Statement (.scrubReadDone lane noise) :=
  no_target_statement rfl
theorem TargetsAreRegisters.scbDisable (src : Src) : TargetsAreRegisters.Statement (.scbDisable src) :=
  row_target_statement rfl (fun _ => fixed_rows _ (by decide))
theorem TargetsAreRegisters.flipArm (src : Src) : TargetsAreRegisters.Statement (.flipArm src) :=
  row_target_statement rfl (fun _ => fixed_rows _ (by decide))
theorem TargetsAreRegisters.flipDiscard (src : Src) : TargetsAreRegisters.Statement (.flipDiscard src) :=
  row_target_statement rfl (fun _ => fixed_rows _ (by decide))
theorem TargetsAreRegisters.chanHaltClr (src : Src) (port : Nat) (mask : BitVec 16) :
    TargetsAreRegisters.Statement (.chanHaltClr src port mask) :=
  row_target_statement rfl (fun hw => chan_halt_rows port (by simpa [Instr.wf, portOk] using hw))
theorem TargetsAreRegisters.peerDetect (port : Nat) : TargetsAreRegisters.Statement (.peerDetect port) :=
  no_target_statement rfl
theorem TargetsAreRegisters.linkTrained (port : Nat) (ok : Bool) (width : Nat) (rate : Nat) :
    TargetsAreRegisters.Statement (.linkTrained port ok width rate) :=
  no_target_statement rfl
theorem TargetsAreRegisters.init (port : Nat) (f : Flit) : TargetsAreRegisters.Statement (.init port f) :=
  no_target_statement rfl
theorem TargetsAreRegisters.initResend (port : Nat) : TargetsAreRegisters.Statement (.initResend port) :=
  no_target_statement rfl
theorem TargetsAreRegisters.dataFlit (port : Nat) (f : Flit) : TargetsAreRegisters.Statement (.dataFlit port f) :=
  no_target_statement rfl
theorem TargetsAreRegisters.nak (port : Nat) (f : Flit) (exp : Nat) : TargetsAreRegisters.Statement (.nak port f exp) :=
  no_target_statement rfl
theorem TargetsAreRegisters.recoverDone (port : Nat) (ok : Bool) : TargetsAreRegisters.Statement (.recoverDone port ok) :=
  no_target_statement rfl
theorem TargetsAreRegisters.lpIdle (port : Nat) : TargetsAreRegisters.Statement (.lpIdle port) := no_target_statement rfl
theorem TargetsAreRegisters.lpm (port : Nat) (f : Flit) (code : Nat) : TargetsAreRegisters.Statement (.lpm port f code) :=
  no_target_statement rfl
theorem TargetsAreRegisters.lpExit (port : Nat) : TargetsAreRegisters.Statement (.lpExit port) := no_target_statement rfl
theorem TargetsAreRegisters.linkDown (port : Nat) : TargetsAreRegisters.Statement (.linkDown port) :=
  no_target_statement rfl
theorem TargetsAreRegisters.lost (port : Nat) : TargetsAreRegisters.Statement (.lost port) := no_target_statement rfl
theorem TargetsAreRegisters.portDisable (src : Src) (port : Nat) :
    TargetsAreRegisters.Statement (.portDisable src port) :=
  row_target_statement rfl (fun hw => port_ctrl_rows port (by simpa [Instr.wf, portOk] using hw))
theorem TargetsAreRegisters.portEnable (src : Src) (port : Nat) : TargetsAreRegisters.Statement (.portEnable src port) :=
  row_target_statement rfl (fun hw => port_ctrl_rows port (by simpa [Instr.wf, portOk] using hw))
theorem TargetsAreRegisters.drainingEnd (fn : DrainFn) : TargetsAreRegisters.Statement (.drainingEnd fn) :=
  no_target_statement rfl
theorem TargetsAreRegisters.memoryPortBringUp (mp : Nat) (r : BringUp) :
    TargetsAreRegisters.Statement (.memoryPortBringUp mp r) :=
  no_target_statement rfl
theorem TargetsAreRegisters.mpLinkDown (mp : Nat) : TargetsAreRegisters.Statement (.mpLinkDown mp) :=
  no_target_statement rfl
theorem TargetsAreRegisters.mpFailed (mp : Nat) : TargetsAreRegisters.Statement (.mpFailed mp) := no_target_statement rfl
theorem TargetsAreRegisters.mpRemove (src : Src) (mp : Nat) : TargetsAreRegisters.Statement (.mpRemove src mp) :=
  row_target_statement rfl (fun hw => (mp_hp_rows mp (by simpa [Instr.wf, mpOk] using hw)).1)
theorem TargetsAreRegisters.mpAdd (src : Src) (mp : Nat) (r : BringUp) :
    TargetsAreRegisters.Statement (.mpAdd src mp r) :=
  row_target_statement rfl (fun hw => (mp_hp_rows mp (by simpa [Instr.wf, mpOk] using hw)).2)
theorem TargetsAreRegisters.mpIoData (src : Src) (mp : Nat) (write : Bool) (v : Word) (ans : Option Word) :
    TargetsAreRegisters.Statement (.mpIoData src mp write v ans) :=
  no_target_statement rfl
theorem TargetsAreRegisters.flr (perst : Bool) : TargetsAreRegisters.Statement (.flr perst) := no_target_statement rfl
theorem TargetsAreRegisters.rstNLow (pwrOk : Bool) : TargetsAreRegisters.Statement (.rstNLow pwrOk) :=
  no_target_statement rfl
theorem TargetsAreRegisters.resetRelease (role : Role) (side : Bool) (head : Bool) :
    TargetsAreRegisters.Statement (.resetRelease role side head) :=
  no_target_statement rfl
theorem TargetsAreRegisters.crystalReady : TargetsAreRegisters.Statement (.crystalReady) := no_target_statement rfl
theorem TargetsAreRegisters.xtalFail : TargetsAreRegisters.Statement (.xtalFail) := no_target_statement rfl
theorem TargetsAreRegisters.xtalRetry (src : Src) : TargetsAreRegisters.Statement (.xtalRetry src) :=
  row_target_statement rfl (fun _ => fixed_rows _ (by decide))
theorem TargetsAreRegisters.xtalLost : TargetsAreRegisters.Statement (.xtalLost) := no_target_statement rfl
theorem TargetsAreRegisters.pllLock (k : Nat) : TargetsAreRegisters.Statement (.pllLock k) := no_target_statement rfl
theorem TargetsAreRegisters.pllTimeout (k : Nat) : TargetsAreRegisters.Statement (.pllTimeout k) :=
  no_target_statement rfl
theorem TargetsAreRegisters.pllFail (k : Nat) : TargetsAreRegisters.Statement (.pllFail k) := no_target_statement rfl
theorem TargetsAreRegisters.pllRelock (k : Nat) : TargetsAreRegisters.Statement (.pllRelock k) := no_target_statement rfl
theorem TargetsAreRegisters.clockSwitch (sel : Selector) : TargetsAreRegisters.Statement (.clockSwitch sel) :=
  no_target_statement rfl
theorem TargetsAreRegisters.forced (sel : Selector) : TargetsAreRegisters.Statement (.forced sel) :=
  no_target_statement rfl
theorem TargetsAreRegisters.clkForceGate (src : Src) (gate : BitVec 11) :
    TargetsAreRegisters.Statement (.clkForceGate src gate) :=
  row_target_statement rfl (fun _ => fixed_rows _ (by decide))
theorem TargetsAreRegisters.gateClose (bit : Nat) : TargetsAreRegisters.Statement (.gateClose bit) :=
  no_target_statement rfl
theorem TargetsAreRegisters.clkOutCfgWrite (src : Src) (v : Word) :
    TargetsAreRegisters.Statement (.clkOutCfgWrite src v) :=
  row_target_statement rfl (fun _ => fixed_rows _ (by decide))
theorem TargetsAreRegisters.clkMeasGo (src : Src) (sel : Nat) : TargetsAreRegisters.Statement (.clkMeasGo src sel) :=
  row_target_statement rfl (fun _ => fixed_rows _ (by decide))
theorem TargetsAreRegisters.measDone (khz : Nat) : TargetsAreRegisters.Statement (.measDone khz) :=
  no_target_statement rfl
theorem TargetsAreRegisters.bellLock : TargetsAreRegisters.Statement (.bellLock) := no_target_statement rfl
theorem TargetsAreRegisters.belArm (src : Src) : TargetsAreRegisters.Statement (.belArm src) :=
  row_target_statement rfl (fun _ => fixed_rows _ (by decide))
theorem TargetsAreRegisters.belDisarm (src : Src) : TargetsAreRegisters.Statement (.belDisarm src) :=
  row_target_statement rfl (fun _ => fixed_rows _ (by decide))
theorem TargetsAreRegisters.syncSeen : TargetsAreRegisters.Statement (.syncSeen) := no_target_statement rfl
theorem TargetsAreRegisters.markArm (src : Src) : TargetsAreRegisters.Statement (.markArm src) :=
  row_target_statement rfl (fun _ => fixed_rows _ (by decide))
theorem TargetsAreRegisters.markDone : TargetsAreRegisters.Statement (.markDone) := no_target_statement rfl
theorem TargetsAreRegisters.bellLost : TargetsAreRegisters.Statement (.bellLost) := no_target_statement rfl
theorem TargetsAreRegisters.domainOff (src : Src) (bit : Nat) : TargetsAreRegisters.Statement (.domainOff src bit) :=
  row_target_statement rfl (fun _ => fixed_rows _ (by decide))
theorem TargetsAreRegisters.domainOn (src : Src) (bit : Nat) : TargetsAreRegisters.Statement (.domainOn src bit) :=
  row_target_statement rfl (fun _ => fixed_rows _ (by decide))
theorem TargetsAreRegisters.padRelease (src : Src) (rel : BitVec 21) :
    TargetsAreRegisters.Statement (.padRelease src rel) :=
  row_target_statement rfl (fun _ => fixed_rows _ (by decide))
theorem TargetsAreRegisters.pmbusPoll (mode : Option (BitVec 8)) (ans : Option (Nat × Nat)) :
    TargetsAreRegisters.Statement (.pmbusPoll mode ans) :=
  no_target_statement rfl
theorem TargetsAreRegisters.vrAlert (status : Option Nat) : TargetsAreRegisters.Statement (.vrAlert status) :=
  no_target_statement rfl
theorem TargetsAreRegisters.vrClear (src : Src) : TargetsAreRegisters.Statement (.vrClear src) :=
  row_target_statement rfl (fun _ => fixed_rows _ (by decide))
theorem TargetsAreRegisters.vrPgLost : TargetsAreRegisters.Statement (.vrPgLost) := no_target_statement rfl
theorem TargetsAreRegisters.dvfsTarget (src : Src) (t : Nat) : TargetsAreRegisters.Statement (.dvfsTarget src t) :=
  row_target_statement rfl (fun _ => fixed_rows _ (by decide))
theorem TargetsAreRegisters.dvfsFgo (src : Src) : TargetsAreRegisters.Statement (.dvfsFgo src) :=
  row_target_statement rfl (fun _ => fixed_rows _ (by decide))
theorem TargetsAreRegisters.dvfsVgo (src : Src) : TargetsAreRegisters.Statement (.dvfsVgo src) :=
  row_target_statement rfl (fun _ => fixed_rows _ (by decide))
theorem TargetsAreRegisters.voltageReached (ans : Option (Nat × Nat)) :
    TargetsAreRegisters.Statement (.voltageReached ans) := no_target_statement rfl
theorem TargetsAreRegisters.wakeTo (step : Nat) (dom : Nat) : TargetsAreRegisters.Statement (.wakeTo step dom) :=
  no_target_statement rfl
theorem TargetsAreRegisters.purserUpdate : TargetsAreRegisters.Statement (.purserUpdate) := no_target_statement rfl
theorem TargetsAreRegisters.purserRescale : TargetsAreRegisters.Statement (.purserRescale) := no_target_statement rfl
theorem TargetsAreRegisters.tokenReturn (kind : Nat) (who : Nat) :
    TargetsAreRegisters.Statement (.tokenReturn kind who) :=
  no_target_statement rfl
theorem TargetsAreRegisters.overCap (kind : Nat) (who : Nat) : TargetsAreRegisters.Statement (.overCap kind who) :=
  no_target_statement rfl
theorem TargetsAreRegisters.dozeReq (src : Src) : TargetsAreRegisters.Statement (.dozeReq src) :=
  row_target_statement rfl (fun _ => fixed_rows _ (by decide))
theorem TargetsAreRegisters.dozeStage : TargetsAreRegisters.Statement (.dozeStage) := no_target_statement rfl
theorem TargetsAreRegisters.dozeQuiesceTimeout : TargetsAreRegisters.Statement (.dozeQuiesceTimeout) :=
  no_target_statement rfl
theorem TargetsAreRegisters.wakeEvent (bit : Nat) : TargetsAreRegisters.Statement (.wakeEvent bit) :=
  no_target_statement rfl
theorem TargetsAreRegisters.dozeWake (src : Src) : TargetsAreRegisters.Statement (.dozeWake src) :=
  row_target_statement rfl (fun _ => fixed_rows _ (by decide))
theorem TargetsAreRegisters.dozeOut : TargetsAreRegisters.Statement (.dozeOut) := no_target_statement rfl
theorem TargetsAreRegisters.flashReadDone (a : Image) (b : Image) : TargetsAreRegisters.Statement (.flashReadDone a b) :=
  no_target_statement rfl
theorem TargetsAreRegisters.go (src : Src) : TargetsAreRegisters.Statement (.go src) :=
  row_target_statement rfl (fun _ => fixed_rows _ (by decide))
theorem TargetsAreRegisters.autostart : TargetsAreRegisters.Statement (.autostart) := no_target_statement rfl
theorem TargetsAreRegisters.selfTestDone (failArr : Nat) (fails : Nat) (us : Nat) :
    TargetsAreRegisters.Statement (.selfTestDone failArr fails us) :=
  no_target_statement rfl
theorem TargetsAreRegisters.trainComplete : TargetsAreRegisters.Statement (.trainComplete) := no_target_statement rfl
theorem TargetsAreRegisters.serve (src : Src) (v : Bool) : TargetsAreRegisters.Statement (.serve src v) :=
  row_target_statement rfl (fun _ => fixed_rows _ (by decide))
theorem TargetsAreRegisters.drain (src : Src) : TargetsAreRegisters.Statement (.drain src) :=
  row_target_statement rfl (fun _ => fixed_rows _ (by decide))
theorem TargetsAreRegisters.drainSet : TargetsAreRegisters.Statement (.drainSet) := no_target_statement rfl
theorem TargetsAreRegisters.drainDone : TargetsAreRegisters.Statement (.drainDone) := no_target_statement rfl
theorem TargetsAreRegisters.drainResume (src : Src) : TargetsAreRegisters.Statement (.drainResume src) :=
  row_target_statement rfl (fun _ => fixed_rows _ (by decide))
theorem TargetsAreRegisters.restart (src : Src) : TargetsAreRegisters.Statement (.restart src) :=
  row_target_statement rfl (fun _ => fixed_rows _ (by decide))
theorem TargetsAreRegisters.chainRd (m : ChainMsg) (crc : Nat) : TargetsAreRegisters.Statement (.chainRd m crc) := no_target_statement rfl
theorem TargetsAreRegisters.chainWr (m : ChainMsg) (crc : Nat) : TargetsAreRegisters.Statement (.chainWr m crc) := no_target_statement rfl
theorem TargetsAreRegisters.chainBwr (m : ChainMsg) (crc : Nat) : TargetsAreRegisters.Statement (.chainBwr m crc) :=
  no_target_statement rfl
theorem TargetsAreRegisters.chainRsp (m : ChainMsg) (crc : Nat) : TargetsAreRegisters.Statement (.chainRsp m crc) :=
  no_target_statement rfl
theorem TargetsAreRegisters.chainEvt (m : ChainMsg) (crc : Nat) : TargetsAreRegisters.Statement (.chainEvt m crc) :=
  no_target_statement rfl
theorem TargetsAreRegisters.mbx (m : ChainMsg) (crc : Nat) : TargetsAreRegisters.Statement (.mbx m crc) := no_target_statement rfl
theorem TargetsAreRegisters.enum (m : ChainMsg) (crc : Nat) (own : Bool) :
    TargetsAreRegisters.Statement (.enum m crc own) :=
  no_target_statement rfl
theorem TargetsAreRegisters.noAnswer (seq : Nat) : TargetsAreRegisters.Statement (.noAnswer seq) :=
  no_target_statement rfl
theorem TargetsAreRegisters.chnEnum (src : Src) : TargetsAreRegisters.Statement (.chnEnum src) :=
  row_target_statement rfl (fun _ => fixed_rows _ (by decide))
theorem TargetsAreRegisters.chnGo (src : Src) : TargetsAreRegisters.Statement (.chnGo src) :=
  row_target_statement rfl (fun _ => fixed_rows _ (by decide))
theorem TargetsAreRegisters.inLost : TargetsAreRegisters.Statement (.inLost) := no_target_statement rfl
theorem TargetsAreRegisters.chnInRegain : TargetsAreRegisters.Statement (.chnInRegain) := no_target_statement rfl
theorem TargetsAreRegisters.registerWrite (src : Src) (ofs : Nat) (size : Nat) (v : BitVec 64) :
    TargetsAreRegisters.Statement (.registerWrite src ofs size v) :=
  no_target_statement rfl
theorem TargetsAreRegisters.lock (src : Src) (page : Nat) : TargetsAreRegisters.Statement (.lock src page) :=
  no_target_statement rfl
theorem TargetsAreRegisters.evtRead (src : Src) (page : Nat) : TargetsAreRegisters.Statement (.evtRead src page) :=
  no_target_statement rfl
theorem TargetsAreRegisters.rcRead (src : Src) (ofs : Nat) : TargetsAreRegisters.Statement (.rcRead src ofs) :=
  no_target_statement rfl
theorem TargetsAreRegisters.loRead (src : Src) (ofs : Nat) : TargetsAreRegisters.Statement (.loRead src ofs) :=
  no_target_statement rfl
theorem TargetsAreRegisters.hiWrite (src : Src) (ofs : Nat) (v : Word) :
    TargetsAreRegisters.Statement (.hiWrite src ofs v) :=
  no_target_statement rfl
theorem TargetsAreRegisters.loWrite (src : Src) (ofs : Nat) (v : Word) :
    TargetsAreRegisters.Statement (.loWrite src ofs v) :=
  no_target_statement rfl
theorem TargetsAreRegisters.aliasRead (src : Src) (ofs : Nat) (size : Nat) :
    TargetsAreRegisters.Statement (.aliasRead src ofs size) :=
  no_target_statement rfl
theorem TargetsAreRegisters.aliasWrite (src : Src) (ofs : Nat) (size : Nat) (v : Word) :
    TargetsAreRegisters.Statement (.aliasWrite src ofs size v) :=
  no_target_statement rfl
theorem TargetsAreRegisters.watchdogTimeout (src : Src) (ofs : Nat) (write : Bool) :
    TargetsAreRegisters.Statement (.watchdogTimeout src ofs write) :=
  no_target_statement rfl
theorem TargetsAreRegisters.cfgPassEnd (us : Nat) : TargetsAreRegisters.Statement (.cfgPassEnd us) :=
  no_target_statement rfl
theorem TargetsAreRegisters.cfgCommit (src : Src) : TargetsAreRegisters.Statement (.cfgCommit src) :=
  row_target_statement rfl (fun _ => fixed_rows _ (by decide))
theorem TargetsAreRegisters.commitDone (us : Nat) : TargetsAreRegisters.Statement (.commitDone us) :=
  no_target_statement rfl
theorem TargetsAreRegisters.evcRearm (src : Src) (word : Nat) (mask : Word) :
    TargetsAreRegisters.Statement (.evcRearm src word mask) :=
  row_target_statement rfl (fun hw => rearm_rows word (by simpa [Instr.wf, rearmOk] using hw))
theorem TargetsAreRegisters.pbaRelease : TargetsAreRegisters.Statement (.pbaRelease) := no_target_statement rfl
theorem TargetsAreRegisters.evtFrameSend (word : Nat) : TargetsAreRegisters.Statement (.evtFrameSend word) :=
  no_target_statement rfl
theorem TargetsAreRegisters.queDataRead (src : Src) (n : Nat) (size : Nat) :
    TargetsAreRegisters.Statement (.queDataRead src n size) :=
  no_target_statement rfl
theorem TargetsAreRegisters.queDrop (src : Src) (n : Nat) : TargetsAreRegisters.Statement (.queDrop src n) :=
  row_target_statement rfl (fun hw => que_drop_rows n (by simpa [Instr.wf, queueOk] using hw))
theorem TargetsAreRegisters.mboWrite (src : Src) (v : Word) : TargetsAreRegisters.Statement (.mboWrite src v) :=
  row_target_statement rfl (fun _ => fixed_rows _ (by decide))
theorem TargetsAreRegisters.mboSend : TargetsAreRegisters.Statement (.mboSend) := no_target_statement rfl
theorem TargetsAreRegisters.pmuClear (src : Src) : TargetsAreRegisters.Statement (.pmuClear src) :=
  row_target_statement rfl (fun _ => fixed_rows _ (by decide))
theorem TargetsAreRegisters.counterWrap (fixed : Bool) (n : Nat) : TargetsAreRegisters.Statement (.counterWrap fixed n) :=
  no_target_statement rfl
theorem TargetsAreRegisters.sample (skid : Nat) : TargetsAreRegisters.Statement (.sample skid) := no_target_statement rfl
theorem TargetsAreRegisters.pmuSmpDone (src : Src) : TargetsAreRegisters.Statement (.pmuSmpDone src) :=
  row_target_statement rfl (fun _ => fixed_rows _ (by decide))
theorem TargetsAreRegisters.coreCycle : TargetsAreRegisters.Statement (.coreCycle) := no_target_statement rfl
theorem TargetsAreRegisters.bellTick : TargetsAreRegisters.Statement (.bellTick) := no_target_statement rfl
theorem TargetsAreRegisters.pwrOkRise : TargetsAreRegisters.Statement (.pwrOkRise) := no_target_statement rfl
theorem TargetsAreRegisters.dsVrPgRise (g : Nat) : TargetsAreRegisters.Statement (.dsVrPgRise g) :=
  no_target_statement rfl
theorem TargetsAreRegisters.idleFlit (port : Nat) (f : Flit) : TargetsAreRegisters.Statement (.idleFlit port f) :=
  no_target_statement rfl
theorem TargetsAreRegisters.heartbeatReceived (f : Flit) (serving : Bool) (state : Nat) (epoch : Nat) (mseq : Nat) :
    TargetsAreRegisters.Statement (.heartbeatReceived f serving state epoch mseq) :=
  no_target_statement rfl
theorem TargetsAreRegisters.mpLinkReturn (mp : Nat) (width : Nat) (slow : Bool) :
    TargetsAreRegisters.Statement (.mpLinkReturn mp width slow) :=
  no_target_statement rfl
theorem TargetsAreRegisters.viral (mp : Nat) : TargetsAreRegisters.Statement (.viral mp) := no_target_statement rfl
theorem TargetsAreRegisters.hstLinkDown : TargetsAreRegisters.Statement (.hstLinkDown) := no_target_statement rfl
theorem TargetsAreRegisters.chainBadFrame (bytes : List Nat) (crc : Nat) :
    TargetsAreRegisters.Statement (.chainBadFrame bytes crc) :=
  no_target_statement rfl
theorem TargetsAreRegisters.readBusError (src : Src) (ofs : Nat) (size : Nat) :
    TargetsAreRegisters.Statement (.readBusError src ofs size) :=
  no_target_statement rfl
theorem TargetsAreRegisters.boundaryScan (t : Tap) : TargetsAreRegisters.Statement (.boundaryScan t) :=
  no_target_statement rfl

end Sys2Proof.Laws
end

