-- ==== Sys2Proof/Laws/Regs.lean ====
section
/-! SUPPORT. The register bank: reading a field after a write of it, of another field, and of another register. -/

namespace Sys2Proof.Machine

set_option Elab.async false

/-! ## Banks -/

theorem bankGet_bankInsert_same {α : Type} (l : List (Nat × α)) (n : Nat) (v : α) (h : ∀ e ∈ l, e.1 ≠ n) :
    bankGet (bankInsert l n v) n = some v := by
  induction l with
  | nil => simp [bankInsert, bankGet]
  | cons e l ih =>
    obtain ⟨k, w⟩ := e
    have hk : k ≠ n := h (k, w) (by simp)
    unfold bankInsert
    split
    · simp [bankGet]
    · simp only [bankGet, hk, if_false]
      exact ih (fun e m => h e (by simp [m]))

theorem bankGet_bankInsert_ne {α : Type} (l : List (Nat × α)) (n m : Nat) (v : α) (h : m ≠ n) :
    bankGet (bankInsert l n v) m = bankGet l m := by
  induction l with
  | nil => simp [bankInsert, bankGet, Ne.symm h]
  | cons e l ih =>
    obtain ⟨k, w⟩ := e
    unfold bankInsert
    split
    · simp [bankGet, Ne.symm h]
    · simp [bankGet, ih]

theorem bankErase_keys {α : Type} (l : List (Nat × α)) (n : Nat) : ∀ e ∈ bankErase l n, e.1 ≠ n := by
  intro e h
  simpa [bankErase] using (List.mem_filter.mp h).2

theorem bankGet_bankErase_ne {α : Type} (l : List (Nat × α)) (n m : Nat) (h : m ≠ n) :
    bankGet (bankErase l n) m = bankGet l m := by
  induction l with
  | nil => rfl
  | cons e l ih =>
    obtain ⟨k, w⟩ := e
    by_cases hk : k = n
    · subst hk
      have : bankErase ((k, w) :: l) k = bankErase l k := by simp [bankErase]
      rw [this, ih]
      simp [bankGet, Ne.symm h]
    · have : bankErase ((k, w) :: l) n = (k, w) :: bankErase l n := by simp [bankErase, hk]
      rw [this]
      simp [bankGet, ih]

theorem bankGet_bankErase_same {α : Type} (l : List (Nat × α)) (n : Nat) : bankGet (bankErase l n) n = none := by
  induction l with
  | nil => rfl
  | cons e l ih =>
    obtain ⟨k, w⟩ := e
    by_cases hk : k = n
    · subst hk
      have : bankErase ((k, w) :: l) k = bankErase l k := by simp [bankErase]
      rw [this, ih]
    · have : bankErase ((k, w) :: l) n = (k, w) :: bankErase l n := by simp [bankErase, hk]
      rw [this]
      simp [bankGet, ih, hk]

@[simp] theorem bankGet_bankSet_same {α : Type} (l : List (Nat × α)) (n : Nat) (v : α) :
    bankGet (bankSet l n v) n = some v := bankGet_bankInsert_same _ _ _ (bankErase_keys l n)

theorem bankGet_bankSet_ne {α : Type} (l : List (Nat × α)) (n m : Nat) (v : α) (h : m ≠ n) :
    bankGet (bankSet l n v) m = bankGet l m := by
  unfold bankSet
  rw [bankGet_bankInsert_ne _ _ _ _ h, bankGet_bankErase_ne _ _ _ h]

/-! ## Words -/

@[simp] theorem raw_setRaw_same (d : Dev) (o : Nat) (w : Word) : (d.setRaw o w).raw o = w := by
  simp [Dev.raw, Dev.setRaw]

theorem raw_setRaw_ne (d : Dev) (o p : Nat) (w : Word) (h : p ≠ o) : (d.setRaw o w).raw p = d.raw p := by
  simp [Dev.raw, Dev.setRaw, bankGet_bankSet_ne _ _ _ _ h]

theorem raw_set_ne (d : Dev) (f : FieldRef) (v p : Nat) (h : p ≠ f.ofs) : (d.set f v).raw p = d.raw p :=
  raw_setRaw_ne d f.ofs p _ h

theorem raw_raise_ne (d : Dev) (f : FieldRef) (p : Nat) (h : p ≠ f.ofs) : (d.raise f).raw p = d.raw p :=
  raw_set_ne d f 1 p h

/-! ## Fields -/

theorem putBits_parts (w : Word) (hi lo v : Nat) (h : lo ≤ hi) (hh : hi < 32) :
    (putBits w hi lo v).toNat =
      w.toNat % 2 ^ lo + (v % 2 ^ (hi + 1 - lo)) * 2 ^ lo + w.toNat / 2 ^ (hi + 1) * 2 ^ (hi + 1) := by
  have hw := w.isLt
  have hsplit : 2 ^ (hi + 1) = 2 ^ lo * 2 ^ (hi + 1 - lo) := by rw [← pow_add]; congr 1; omega
  have h32 : 2 ^ 32 = 2 ^ (hi + 1) * 2 ^ (32 - (hi + 1)) := by rw [← pow_add]; congr 1; omega
  have hb : bits w.toNat hi lo = w.toNat / 2 ^ lo % 2 ^ (hi + 1 - lo) := by
    simp [bits, Nat.shiftRight_eq_div_pow]
  have e1 : w.toNat = w.toNat % 2 ^ lo + 2 ^ lo * (w.toNat / 2 ^ lo) := (Nat.mod_add_div _ _).symm
  have e2 : w.toNat / 2 ^ lo = w.toNat / 2 ^ lo % 2 ^ (hi + 1 - lo) + 2 ^ (hi + 1 - lo) * (w.toNat / 2 ^ (hi + 1)) := by
    rw [hsplit, ← Nat.div_div_eq_div_mul]; exact (Nat.mod_add_div _ _).symm
  have e3 : w.toNat - bits w.toNat hi lo * 2 ^ lo = w.toNat % 2 ^ lo + w.toNat / 2 ^ (hi + 1) * 2 ^ (hi + 1) := by
    rw [hb]
    apply Nat.sub_eq_of_eq_add
    have e : w.toNat = w.toNat % 2 ^ lo + 2 ^ lo * (w.toNat / 2 ^ lo % 2 ^ (hi + 1 - lo) +
        2 ^ (hi + 1 - lo) * (w.toNat / 2 ^ (hi + 1))) := by rw [← e2]; exact e1
    have e' : 2 ^ lo * (w.toNat / 2 ^ lo % 2 ^ (hi + 1 - lo) + 2 ^ (hi + 1 - lo) * (w.toNat / 2 ^ (hi + 1))) =
        w.toNat / 2 ^ (hi + 1) * 2 ^ (hi + 1) + w.toNat / 2 ^ lo % 2 ^ (hi + 1 - lo) * 2 ^ lo := by
      have : w.toNat / 2 ^ (hi + 1) * 2 ^ (hi + 1) = w.toNat / 2 ^ (hi + 1) * (2 ^ lo * 2 ^ (hi + 1 - lo)) := by
        rw [← hsplit]
      rw [this]; ring
    rw [e'] at e
    omega
  have e4 : v % 2 ^ (hi + 1 - lo) * 2 ^ lo + w.toNat % 2 ^ lo < 2 ^ (hi + 1) := by
    have p1 : v % 2 ^ (hi + 1 - lo) < 2 ^ (hi + 1 - lo) := Nat.mod_lt _ (by positivity)
    have p2 : w.toNat % 2 ^ lo < 2 ^ lo := Nat.mod_lt _ (by positivity)
    calc v % 2 ^ (hi + 1 - lo) * 2 ^ lo + w.toNat % 2 ^ lo
        < v % 2 ^ (hi + 1 - lo) * 2 ^ lo + 2 ^ lo := by omega
      _ = (v % 2 ^ (hi + 1 - lo) + 1) * 2 ^ lo := by ring
      _ ≤ 2 ^ (hi + 1 - lo) * 2 ^ lo := Nat.mul_le_mul_right _ p1
      _ = 2 ^ (hi + 1) := by rw [hsplit]; ring
  have e5 : w.toNat / 2 ^ (hi + 1) + 1 ≤ 2 ^ (32 - (hi + 1)) := by
    have : w.toNat / 2 ^ (hi + 1) < 2 ^ (32 - (hi + 1)) := by
      apply Nat.div_lt_of_lt_mul; rw [← h32]; exact hw
    omega
  have e6 : (w.toNat / 2 ^ (hi + 1) + 1) * 2 ^ (hi + 1) ≤ 2 ^ 32 := by
    rw [h32]; rw [Nat.mul_comm (2 ^ (hi + 1))]; exact Nat.mul_le_mul_right _ e5
  unfold putBits
  rw [BitVec.toNat_ofNat, Nat.mod_eq_of_lt]
  · rw [e3]; ring
  · rw [e3]
    have : (w.toNat / 2 ^ (hi + 1) + 1) * 2 ^ (hi + 1) = w.toNat / 2 ^ (hi + 1) * 2 ^ (hi + 1) + 2 ^ (hi + 1) := by ring
    omega

theorem bits_putBits_same (w : Word) (hi lo v : Nat) (h : lo ≤ hi) (hh : hi < 32) :
    bits (putBits w hi lo v).toNat hi lo = v % 2 ^ (hi + 1 - lo) := by
  rw [putBits_parts w hi lo v h hh]
  have hsplit : 2 ^ (hi + 1) = 2 ^ lo * 2 ^ (hi + 1 - lo) := by rw [← pow_add]; congr 1; omega
  unfold bits
  rw [Nat.shiftRight_eq_div_pow, hsplit]
  have : w.toNat % 2 ^ lo + v % 2 ^ (hi + 1 - lo) * 2 ^ lo +
      w.toNat / (2 ^ lo * 2 ^ (hi + 1 - lo)) * (2 ^ lo * 2 ^ (hi + 1 - lo)) =
      w.toNat % 2 ^ lo + 2 ^ lo * (v % 2 ^ (hi + 1 - lo) +
        2 ^ (hi + 1 - lo) * (w.toNat / (2 ^ lo * 2 ^ (hi + 1 - lo)))) := by ring
  rw [this, Nat.add_mul_div_left _ _ (by positivity), Nat.div_eq_of_lt (Nat.mod_lt _ (by positivity)), Nat.zero_add,
    Nat.add_mul_mod_self_left, Nat.mod_mod]

/-- A field reads what was written to it. -/
theorem get_set_same (d : Dev) (f : FieldRef) (v : Nat) (h : f.lo ≤ f.hi) (hh : f.hi < 32) :
    (d.set f v).get f = v % 2 ^ (f.hi + 1 - f.lo) := by
  unfold Dev.get Dev.set
  rw [raw_setRaw_same, bits_putBits_same _ _ _ _ h hh]

/-- A field of another register is as it was. -/
theorem get_set_ne (d : Dev) (f g : FieldRef) (v : Nat) (h : g.ofs ≠ f.ofs) : (d.set f v).get g = d.get g := by
  unfold Dev.get; rw [raw_set_ne d f v _ h]

theorem flag_set_ne (d : Dev) (f g : FieldRef) (v : Nat) (h : g.ofs ≠ f.ofs) : (d.set f v).flag g = d.flag g := by
  unfold Dev.flag; rw [get_set_ne d f g v h]

/-- A raised event is latched (R494). -/
theorem flag_raise (d : Dev) (o b : Nat) (h : b < 32) : (d.raise ⟨o, b, b⟩).flag ⟨o, b, b⟩ = true := by
  unfold Dev.flag Dev.raise
  rw [get_set_same _ _ _ (Nat.le_refl _) h]
  simp

theorem flag_raise_ne (d : Dev) (f g : FieldRef) (h : g.ofs ≠ f.ofs) : (d.raise f).flag g = d.flag g :=
  flag_set_ne d f g 1 h

/-- A bit of another place in the same register is as it was. -/
theorem testBit_putBits (w : Word) (hi lo v i : Nat) (h : lo ≤ hi) (hh : hi < 32) (hi' : i < lo ∨ hi < i) :
    (putBits w hi lo v).toNat.testBit i = w.toNat.testBit i := by
  rw [putBits_parts w hi lo v h hh]
  have hsplit : 2 ^ (hi + 1) = 2 ^ lo * 2 ^ (hi + 1 - lo) := by rw [← pow_add]; congr 1; omega
  have p2 : w.toNat % 2 ^ lo < 2 ^ lo := Nat.mod_lt _ (by positivity)
  have p1 : v % 2 ^ (hi + 1 - lo) < 2 ^ (hi + 1 - lo) := Nat.mod_lt _ (by positivity)
  rcases hi' with c | c
  · have : w.toNat % 2 ^ lo + v % 2 ^ (hi + 1 - lo) * 2 ^ lo + w.toNat / 2 ^ (hi + 1) * 2 ^ (hi + 1) =
        2 ^ lo * (v % 2 ^ (hi + 1 - lo) + w.toNat / 2 ^ (hi + 1) * 2 ^ (hi + 1 - lo)) + w.toNat % 2 ^ lo := by
      conv_lhs => rw [hsplit]
      rw [hsplit]; ring
    rw [this, Nat.testBit_two_pow_mul_add _ p2]
    simp [c, Nat.testBit_mod_two_pow]
  · have e4 : w.toNat % 2 ^ lo + v % 2 ^ (hi + 1 - lo) * 2 ^ lo < 2 ^ (hi + 1) := by
      calc w.toNat % 2 ^ lo + v % 2 ^ (hi + 1 - lo) * 2 ^ lo
          < 2 ^ lo + v % 2 ^ (hi + 1 - lo) * 2 ^ lo := by omega
        _ = (v % 2 ^ (hi + 1 - lo) + 1) * 2 ^ lo := by ring
        _ ≤ 2 ^ (hi + 1 - lo) * 2 ^ lo := Nat.mul_le_mul_right _ p1
        _ = 2 ^ (hi + 1) := by rw [hsplit]; ring
    have : w.toNat % 2 ^ lo + v % 2 ^ (hi + 1 - lo) * 2 ^ lo + w.toNat / 2 ^ (hi + 1) * 2 ^ (hi + 1) =
        2 ^ (hi + 1) * (w.toNat / 2 ^ (hi + 1)) + (w.toNat % 2 ^ lo + v % 2 ^ (hi + 1 - lo) * 2 ^ lo) := by ring
    rw [this, Nat.testBit_two_pow_mul_add _ e4]
    have : ¬ i < hi + 1 := by omega
    simp only [this, if_false, Nat.testBit_div_two_pow]
    congr 1; omega

/-- A field of the same register whose bits lie apart is as it was. -/
theorem get_set_apart (d : Dev) (f g : FieldRef) (v : Nat) (h : f.lo ≤ f.hi) (hh : f.hi < 32)
    (ho : g.ofs = f.ofs) (ha : g.hi < f.lo ∨ f.hi < g.lo) : (d.set f v).get g = d.get g := by
  unfold Dev.get Dev.set
  rw [ho, raw_setRaw_same]
  unfold bits
  apply Nat.eq_of_testBit_eq
  intro i
  simp only [Nat.testBit_mod_two_pow, Nat.testBit_shiftRight]
  by_cases c : i < g.hi + 1 - g.lo
  · simp only [c, decide_true, Bool.true_and]
    exact testBit_putBits _ _ _ _ _ h hh (by omega)
  · simp [c]

/-! ## Fields given by their names

A proof rewrites with these under `simp (disch := decide)`: whether two named fields lie apart is a closed question. -/

/-- A field of a 32-bit register. -/
def fieldOk (f : FieldRef) : Bool := f.lo ≤ f.hi && f.hi < 32

/-- A write of the first field leaves the second. -/
def fieldsApart (f g : FieldRef) : Bool := g.ofs != f.ofs || (fieldOk f && (g.hi < f.lo || f.hi < g.lo))

theorem get_set_far (d : Dev) (f g : FieldRef) (v : Nat) (h : fieldsApart f g = true) : (d.set f v).get g = d.get g := by
  by_cases ho : g.ofs = f.ofs
  · simp only [fieldsApart, fieldOk, ho, bne_self_eq_false, Bool.false_or, Bool.and_eq_true, Bool.or_eq_true,
      decide_eq_true_eq] at h
    exact get_set_apart d f g v h.1.1 h.1.2 ho h.2
  · exact get_set_ne d f g v ho

theorem get_set_self (d : Dev) (f : FieldRef) (v : Nat) (h : fieldOk f = true) :
    (d.set f v).get f = v % 2 ^ (f.hi + 1 - f.lo) := by
  simp only [fieldOk, Bool.and_eq_true, decide_eq_true_eq] at h
  exact get_set_same d f v h.1 h.2

theorem flag_set_far (d : Dev) (f g : FieldRef) (v : Nat) (h : fieldsApart f g = true) : (d.set f v).flag g = d.flag g := by
  unfold Dev.flag; rw [get_set_far d f g v h]

theorem get_raise_far (d : Dev) (f g : FieldRef) (h : fieldsApart f g = true) : (d.raise f).get g = d.get g :=
  get_set_far d f g 1 h

theorem flag_raise_far (d : Dev) (f g : FieldRef) (h : fieldsApart f g = true) : (d.raise f).flag g = d.flag g :=
  flag_set_far d f g 1 h

theorem flag_raise_self (d : Dev) (f : FieldRef) (h : fieldOk f = true) : (d.raise f).flag f = true := by
  unfold Dev.flag Dev.raise
  rw [get_set_self d f 1 h]
  have : 1 < 2 ^ (f.hi + 1 - f.lo) := by
    simp only [fieldOk, Bool.and_eq_true, decide_eq_true_eq] at h
    exact Nat.one_lt_two_pow (by omega)
  rw [Nat.mod_eq_of_lt this]; rfl

/-- A raised event stays latched when another is raised. -/
theorem flag_raise_mono (d : Dev) (f g : FieldRef) (hf : fieldOk f = true) (hg : fieldsApart f g = true ∨ g = f)
    (h : d.flag g = true) : (d.raise f).flag g = true := by
  rcases hg with hg | rfl
  · rw [flag_raise_far d f g hg, h]
  · exact flag_raise_self d g hf

/-- What leaves the register bank alone leaves every field. -/
theorem get_of_regs {d e : Dev} (h : e.regs = d.regs) (hr : e.gcr.role = d.gcr.role) (f : FieldRef) : e.get f = d.get f := by
  simp only [Dev.get, Dev.raw, h, hr]

@[simp] theorem emit_get (d : Dev) (o : Out) (f : FieldRef) : (d.emit o).get f = d.get f := rfl
@[simp] theorem emit_flag (d : Dev) (o : Out) (f : FieldRef) : (d.emit o).flag f = d.flag f := rfl
@[simp] theorem emit_get64 (d : Dev) (o : Out) (a : Nat) : (d.emit o).get64 a = d.get64 a := rfl
@[simp] theorem settle_get64 (d : Dev) (a : Nat) : (settle d).get64 a = d.get64 a := by simp [Dev.get64]

/-- A pair reads what was written to it. -/
theorem get64_set64 (d : Dev) (lo v : Nat) : (d.set64 lo v).get64 lo = v % 2 ^ 64 := by
  unfold Dev.get64 Dev.set64
  rw [raw_setRaw_same, raw_setRaw_ne _ _ _ _ (by omega), raw_setRaw_same]
  simp only [BitVec.toNat_ofNat]
  omega

end Sys2Proof.Machine
end

