-- ==== Sys2Proof/Laws/Reach.lean ====
section
/-! SUPPORT. When a command reaches its block, what it leaves; bit maps. -/

namespace Sys2Proof.Machine

set_option Elab.async false

theorem onDev_awake {s : State} (h : s.dev.awake = true) (f : Dev → Dev) :
    onDev s f = .next (s.setDev (settle (f s.dev))) := by
  have : ¬ s.dev.gcr.mode = .cold := by simpa [Dev.awake] using h
  simp [onDev, onDevAlways, this]

theorem onDev_cold {s : State} (h : s.dev.gcr.mode = .cold) (f : Dev → Dev) :
    onDev s f = .next (s.setDev (settle s.dev)) := by simp [onDev, onDevAlways, h]

theorem Dev.runs_awake {d : Dev} (h : d.runs = true) : d.awake = true := by
  simp only [Dev.runs, Bool.and_eq_true] at h; exact h.1

theorem Dev.reaches_awake {d : Dev} {ofs : Nat} (h : d.reaches ofs = true) : d.awake = true := by
  simp only [Dev.reaches, Bool.and_eq_true] at h; exact h.1.1

theorem onCore_runs {s : State} (h : s.dev.runs = true) (f : Dev → Dev) :
    onCore s f = .next (s.setDev (settle (f s.dev))) := by
  have hc : s.dev.coreOn = true := by simp only [Dev.runs, Bool.and_eq_true] at h; exact h.2
  unfold onCore
  rw [onDev_awake (Dev.runs_awake h)]
  simp [hc]

theorem onCore_off {s : State} (h : s.dev.awake = true) (hc : s.dev.coreOn = false) (f : Dev → Dev) :
    onCore s f = .next (s.setDev (settle s.dev)) := by
  unfold onCore
  rw [onDev_awake h]
  simp [hc]

/-- A write that reaches its register has its effect and completes at its source. -/
theorem Dev.write_reaches {d : Dev} {ofs : Nat} (h : d.reaches ofs = true) (src : Src) (k : Dev → Dev) :
    d.write src ofs k = (k d).emit (.regOk src) := by
  simp only [Dev.reaches, Bool.and_eq_true, Bool.not_eq_true', Option.isNone_iff_eq_none] at h
  simp [Dev.write, h.1.2, h.2]

theorem onDev_write {s : State} {ofs : Nat} (h : s.dev.reaches ofs = true) (src : Src) (k : Dev → Dev) :
    onDev s (fun d => d.write src ofs k) = .next (s.setDev (settle ((k s.dev).emit (.regOk src)))) := by
  rw [onDev_awake (Dev.reaches_awake h), Dev.write_reaches h]

/-! ## Bit maps -/

@[simp] theorem getLsbD_putBit_same {w : Nat} (m : BitVec w) (n : Nat) (b : Bool) (h : n < w) :
    (putBit m n b).getLsbD n = b := by
  unfold putBit
  cases b
  · simp only [Bool.false_eq_true, if_false, BitVec.getLsbD_and, BitVec.getLsbD_not, BitVec.getLsbD_ofNat, h, decide_true,
      Nat.testBit_two_pow_self, Bool.and_self, Bool.not_true, Bool.and_false]
  · simp only [if_true, BitVec.getLsbD_or, BitVec.getLsbD_ofNat, h, decide_true, Nat.testBit_two_pow_self, Bool.and_self,
      Bool.or_true]

theorem getLsbD_putBit_ne {w : Nat} (m : BitVec w) (n k : Nat) (b : Bool) (h : k ≠ n) :
    (putBit m n b).getLsbD k = m.getLsbD k := by
  have e : (2 ^ n).testBit k = false := by rw [Nat.testBit_two_pow]; simp [Ne.symm h]
  unfold putBit
  by_cases hk : k < w
  · cases b
    · simp only [Bool.false_eq_true, if_false, BitVec.getLsbD_and, BitVec.getLsbD_not, BitVec.getLsbD_ofNat, hk,
        decide_true, e, Bool.and_false, Bool.not_false, Bool.and_true]
    · simp only [if_true, BitVec.getLsbD_or, BitVec.getLsbD_ofNat, e, Bool.and_false, Bool.or_false]
  · rw [BitVec.getLsbD_of_ge _ _ (Nat.le_of_not_lt hk), BitVec.getLsbD_of_ge _ _ (Nat.le_of_not_lt hk)]

end Sys2Proof.Machine
end

