-- ==== Sys2Proof/Laws/Sent.lean ====
section
/-! SUPPORT. What a command has driven: an output stays driven under every later addition to the record. -/

namespace Sys2Proof.Machine

set_option Elab.async false

/-- An output in front of the earlier record is one driven since. -/
theorem drove_of_append {t d : Dev} {o : Out} {l : List Out} (h : t.sent = l ++ d.sent) (ho : o ∈ l) : t.drove d o := by
  unfold Dev.drove
  rw [h, List.length_append, Nat.add_sub_cancel, List.take_left']
  · exact ho
  · rfl

/-- What was driven since is in front of the earlier record. -/
theorem drove_iff {t d : Dev} {o : Out} {l : List Out} (h : t.sent = l ++ d.sent) : t.drove d o ↔ o ∈ l := by
  unfold Dev.drove
  rw [h, List.length_append, Nat.add_sub_cancel, List.take_left' rfl]

/-- The output just driven. -/
theorem drove_emit (d : Dev) (o : Out) : (d.emit o).drove d o := drove_of_append (l := [o]) rfl (by simp)

/-- An output driven stays driven while the record grows. -/
theorem drove_mono {t u d : Dev} {o : Out} (h : t.drove d o) (hd : d.sent <:+ t.sent) (hu : t.sent <:+ u.sent) :
    u.drove d o := by
  obtain ⟨l, hl⟩ := hd
  obtain ⟨m, hm⟩ := hu
  have ho := (drove_iff hl.symm).mp h
  exact drove_of_append (l := m ++ l) (by rw [List.append_assoc, hl, hm]) (by simp [ho])

/-- What a meaning has driven is driven after the command (R521 to R528 add to it only). -/
theorem drove_settle {t d : Dev} {o : Out} (h : t.drove d o) (hd : d.sent <:+ t.sent) : (settle t).drove d o :=
  drove_mono h hd (settle_rel t).sent

/-- An output driven last by a meaning is driven after the command. -/
theorem drove_settle_emit {t d : Dev} (o : Out) (hd : d.sent <:+ t.sent) : (settle (t.emit o)).drove d o := by
  obtain ⟨l, hl⟩ := hd
  exact drove_settle (drove_of_append (l := o :: l) (by simp [Dev.emit, hl]) (by simp))
    ⟨o :: l, by simp [Dev.emit, hl]⟩

/-! ## A register write that is refused -/

/-- A write that cannot reach its page is a bus error with the page's cause (R499, R501). -/
theorem Dev.write_unreachable {d : Dev} {ofs c : Nat} (h : d.unreachable ofs = some c) (src : Src) (k : Dev → Dev) :
    d.write src ofs k = d.busErr src ofs true c := by simp [Dev.write, h]

/-- A write of a locked register is a bus error of cause 3 (R497, R499). -/
theorem Dev.write_locked {d : Dev} {ofs : Nat} (h : d.unreachable ofs = none) (hl : d.regLocked ofs = true) (src : Src)
    (k : Dev → Dev) : d.write src ofs k = d.busErr src ofs true 3 := by simp [Dev.write, h, hl]

/-- Everything a register write can do: a bus error with the page's cause, one of cause 3, or its effect. -/
theorem Dev.write_cases (d : Dev) (src : Src) (ofs : Nat) (k : Dev → Dev) :
    (∃ c, d.unreachable ofs = some c ∧ d.write src ofs k = d.busErr src ofs true c) ∨
    (d.unreachable ofs = none ∧ d.regLocked ofs = true ∧ d.write src ofs k = d.busErr src ofs true 3) ∨
    (d.unreachable ofs = none ∧ d.regLocked ofs = false ∧ d.write src ofs k = (k d).emit (.regOk src)) := by
  cases h : d.unreachable ofs with
  | some c => exact .inl ⟨c, rfl, Dev.write_unreachable h src k⟩
  | none =>
    cases hl : d.regLocked ofs with
    | true => exact .inr (.inl ⟨rfl, rfl, Dev.write_locked h hl src k⟩)
    | false => exact .inr (.inr ⟨rfl, rfl, by simp [Dev.write, h, hl]⟩)

/-- Everything a command of an awake device's CORE can do. -/
theorem onCore_cases (s : State) (f : Dev → Dev) :
    onCore s f = .next (s.setDev (settle s.dev)) ∨ onCore s f = .next (s.setDev (settle (f s.dev))) := by
  by_cases h : s.dev.gcr.mode = .cold
  · exact .inl (by simp [onCore, onDev_cold h])
  · by_cases hc : s.dev.coreOn = true
    · exact .inr (by simp [onCore, onDev, onDevAlways, h, hc])
    · exact .inl (by simp [onCore, onDev, onDevAlways, h, hc])

end Sys2Proof.Machine
end

