-- ==== Sys2Proof/Laws/Store.lean ====
section
/-! SUPPORT. The canonical form of the register bank and of the lanes' contents: every operation over them keeps it. -/

namespace Sys2Proof.Machine

set_option Elab.async false

/-! ## Banks -/

/-- The keys of a bank strictly rise exactly when every earlier key is below every later one. -/
theorem rising_iff {α : Type} (l : List (Nat × α)) : Bank.rising l = true ↔ l.Pairwise (fun a b => a.1 < b.1) := by
  induction l with
  | nil => simp [Bank.rising]
  | cons a l ih =>
    cases l with
    | nil => simp [Bank.rising]
    | cons b l =>
      simp only [Bank.rising, Bool.and_eq_true, decide_eq_true_eq, ih, List.pairwise_cons (a := a)]
      constructor
      · rintro ⟨h, hp⟩
        refine ⟨fun c hc => ?_, hp⟩
        rcases List.mem_cons.mp hc with rfl | hc
        · exact h
        · exact lt_trans h ((List.pairwise_cons.mp hp).1 c hc)
      · rintro ⟨h, hp⟩
        exact ⟨h b (by simp), hp⟩

theorem rising_filter {α : Type} {l : List (Nat × α)} (p : Nat × α → Bool) (h : Bank.rising l = true) :
    Bank.rising (l.filter p) = true := by
  rw [rising_iff] at *
  exact h.filter p

theorem rising_bankErase {α : Type} {l : List (Nat × α)} (n : Nat) (h : Bank.rising l = true) :
    Bank.rising (bankErase l n) = true := rising_filter _ h

theorem mem_bankInsert {α : Type} (l : List (Nat × α)) (n : Nat) (v : α) (e : Nat × α) :
    e ∈ bankInsert l n v → e = (n, v) ∨ e ∈ l := by
  induction l with
  | nil => simp [bankInsert]
  | cons a l ih =>
    obtain ⟨k, w⟩ := a
    unfold bankInsert
    split
    · simp
    · intro h
      rcases List.mem_cons.mp h with rfl | h
      · simp
      · rcases ih h with rfl | h <;> simp [*]

theorem rising_bankInsert {α : Type} {l : List (Nat × α)} (n : Nat) (v : α) (h : Bank.rising l = true)
    (hn : ∀ e ∈ l, e.1 ≠ n) : Bank.rising (bankInsert l n v) = true := by
  rw [rising_iff] at *
  induction l with
  | nil => simp [bankInsert]
  | cons a l ih =>
    obtain ⟨k, w⟩ := a
    obtain ⟨ha, hl⟩ := List.pairwise_cons.mp h
    have hk : k ≠ n := hn (k, w) (by simp)
    unfold bankInsert
    split
    · rename_i hlt
      refine List.pairwise_cons.mpr ⟨fun c hc => ?_, h⟩
      rcases List.mem_cons.mp hc with rfl | hc
      · exact hlt
      · exact lt_trans hlt (ha c hc)
    · rename_i hlt
      refine List.pairwise_cons.mpr ⟨fun c hc => ?_, ih hl (fun e he => hn e (by simp [he]))⟩
      rcases mem_bankInsert l n v c hc with rfl | hc
      · exact lt_of_le_of_ne (Nat.le_of_not_lt hlt) hk
      · exact ha c hc

/-- Setting a key keeps the keys rising. -/
theorem rising_bankSet {α : Type} {l : List (Nat × α)} (n : Nat) (v : α) (h : Bank.rising l = true) :
    Bank.rising (bankSet l n v) = true := rising_bankInsert n v (rising_bankErase n h) (bankErase_keys l n)

/-- A register write keeps the register bank's form. -/
theorem rising_setRaw {d : Dev} (o : Nat) (w : Word) (h : Bank.rising d.regs = true) :
    Bank.rising (d.setRaw o w).regs = true := rising_bankSet o w h

/-! ## The lanes' contents -/

theorem Memory.wf_iff (m : List (Nat × Burst)) : Memory.wf m = true ↔ Bank.rising m = true ∧ ∀ e ∈ m, e.2 ≠ 0 := by
  simp [Memory.wf]

/-- Dropping entries keeps the canonical form. -/
theorem Memory.wf_filter {m : List (Nat × Burst)} (p : Nat × Burst → Bool) (h : Memory.wf m = true) :
    Memory.wf (m.filter p) = true := by
  rw [Memory.wf_iff] at *
  exact ⟨rising_filter p h.1, fun e he => h.2 e (List.mem_filter.mp he).1⟩

/-- Storing a burst keeps the canonical form. -/
theorem Memory.wf_putBurst {d : Dev} (lane slot : Nat) (b : Burst) (h : Memory.wf d.store = true) :
    Memory.wf (d.putBurst lane slot b).store = true := by
  unfold Dev.putBurst
  by_cases hb : b = 0
  · simp only [hb, if_true]
    exact Memory.wf_filter _ h
  · simp only [hb, if_false]
    rw [Memory.wf_iff] at *
    refine ⟨rising_bankSet _ _ h.1, fun e he => ?_⟩
    rcases mem_bankInsert _ _ _ e he with rfl | he
    · exact hb
    · exact h.2 e (List.mem_filter.mp he).1

/-- Driving a write leaves the store alone. -/
theorem driveWr_store (d : Dev) (lane slot : Nat) (b : Burst) : (d.driveWr lane slot b).store = d.store := by
  unfold Dev.driveWr Dev.countAct
  dsimp only
  repeat' split
  all_goals rfl

/-- A lane write keeps the canonical form. -/
theorem Memory.wf_laneWrite {d : Dev} (lane slot : Nat) (data : LineData) (psn : Bool) (h : Memory.wf d.store = true) :
    Memory.wf (d.laneWrite lane slot data psn).store = true := by
  unfold Dev.laneWrite
  split
  · exact h
  · have e : ∀ x : Dev, (if 16 ≤ lane then x.pmu1 0x02C else x).store = x.store := by
      intro x; split <;> rfl
    dsimp only
    rw [driveWr_store, e]
    apply Memory.wf_putBurst
    have : (d.flipWrite lane slot (encodeLine data psn)).2.store = d.store := by
      unfold Dev.flipWrite; split <;> rfl
    simpa [Dev.pmu1, this] using h

end Sys2Proof.Machine
end

