-- ==== Sys2Proof/Laws/Wire.lean ====
section
/-! SUPPORT. What the flits of a port change: the fields of the state after each, and the CRC they carry. -/

namespace Sys2Proof.Machine

set_option Elab.async false

section
variable (d : Dev) (n fk seq : Nat) (slots : BitVec 1920) (mark : Nat)
@[simp] theorem Dev.emitFlit_gcr : (d.emitFlit n fk seq slots mark).gcr = d.gcr := by simp [Dev.emitFlit]
@[simp] theorem Dev.emitFlit_regs : (d.emitFlit n fk seq slots mark).regs = d.regs := by simp [Dev.emitFlit]
@[simp] theorem Dev.emitFlit_accH : (d.emitFlit n fk seq slots mark).accH = d.accH := by simp [Dev.emitFlit]
@[simp] theorem Dev.emitFlit_accC : (d.emitFlit n fk seq slots mark).accC = d.accC := by simp [Dev.emitFlit]
@[simp] theorem Dev.emitFlit_accI : (d.emitFlit n fk seq slots mark).accI = d.accI := by simp [Dev.emitFlit]
@[simp] theorem Dev.emitFlit_clk : (d.emitFlit n fk seq slots mark).clk = d.clk := by simp [Dev.emitFlit]
@[simp] theorem Dev.emitFlit_bel : (d.emitFlit n fk seq slots mark).bel = d.bel := by simp [Dev.emitFlit]
@[simp] theorem Dev.emitFlit_pwr : (d.emitFlit n fk seq slots mark).pwr = d.pwr := by simp [Dev.emitFlit]
@[simp] theorem Dev.emitFlit_pur : (d.emitFlit n fk seq slots mark).pur = d.pur := by simp [Dev.emitFlit]
@[simp] theorem Dev.emitFlit_chn : (d.emitFlit n fk seq slots mark).chn = d.chn := by simp [Dev.emitFlit]
@[simp] theorem Dev.emitFlit_cfg : (d.emitFlit n fk seq slots mark).cfg = d.cfg := by simp [Dev.emitFlit]
@[simp] theorem Dev.emitFlit_hst : (d.emitFlit n fk seq slots mark).hst = d.hst := by simp [Dev.emitFlit]
@[simp] theorem Dev.emitFlit_evc : (d.emitFlit n fk seq slots mark).evc = d.evc := by simp [Dev.emitFlit]
@[simp] theorem Dev.emitFlit_que : (d.emitFlit n fk seq slots mark).que = d.que := by simp [Dev.emitFlit]
@[simp] theorem Dev.emitFlit_pmu : (d.emitFlit n fk seq slots mark).pmu = d.pmu := by simp [Dev.emitFlit]
@[simp] theorem Dev.emitFlit_hdc : (d.emitFlit n fk seq slots mark).hdc = d.hdc := by simp [Dev.emitFlit]
@[simp] theorem Dev.emitFlit_pip : (d.emitFlit n fk seq slots mark).pip = d.pip := by simp [Dev.emitFlit]
@[simp] theorem Dev.emitFlit_wbf : (d.emitFlit n fk seq slots mark).wbf = d.wbf := by simp [Dev.emitFlit]
@[simp] theorem Dev.emitFlit_dir : (d.emitFlit n fk seq slots mark).dir = d.dir := by simp [Dev.emitFlit]
@[simp] theorem Dev.emitFlit_sdr : (d.emitFlit n fk seq slots mark).sdr = d.sdr := by simp [Dev.emitFlit]
@[simp] theorem Dev.emitFlit_cnf : (d.emitFlit n fk seq slots mark).cnf = d.cnf := by simp [Dev.emitFlit]
@[simp] theorem Dev.emitFlit_dep : (d.emitFlit n fk seq slots mark).dep = d.dep := by simp [Dev.emitFlit]
@[simp] theorem Dev.emitFlit_apd : (d.emitFlit n fk seq slots mark).apd = d.apd := by simp [Dev.emitFlit]
@[simp] theorem Dev.emitFlit_hie : (d.emitFlit n fk seq slots mark).hie = d.hie := by simp [Dev.emitFlit]
@[simp] theorem Dev.emitFlit_twn : (d.emitFlit n fk seq slots mark).twn = d.twn := by simp [Dev.emitFlit]
@[simp] theorem Dev.emitFlit_dsc : (d.emitFlit n fk seq slots mark).dsc = d.dsc := by simp [Dev.emitFlit]
@[simp] theorem Dev.emitFlit_ecc : (d.emitFlit n fk seq slots mark).ecc = d.ecc := by simp [Dev.emitFlit]
@[simp] theorem Dev.emitFlit_scb : (d.emitFlit n fk seq slots mark).scb = d.scb := by simp [Dev.emitFlit]
@[simp] theorem Dev.emitFlit_store : (d.emitFlit n fk seq slots mark).store = d.store := by simp [Dev.emitFlit]
@[simp] theorem Dev.emitFlit_mps : (d.emitFlit n fk seq slots mark).mps = d.mps := by simp [Dev.emitFlit]
@[simp] theorem Dev.emitFlit_free : (d.emitFlit n fk seq slots mark).free = d.free := by simp [Dev.emitFlit]
end

section
variable (d : Dev) (n fk : Nat) (slot0 : BitVec 128)
@[simp] theorem Dev.controlOut_gcr : (d.controlOut n fk slot0).gcr = d.gcr := by simp [Dev.controlOut]
@[simp] theorem Dev.controlOut_regs : (d.controlOut n fk slot0).regs = d.regs := by simp [Dev.controlOut]
@[simp] theorem Dev.controlOut_accH : (d.controlOut n fk slot0).accH = d.accH := by simp [Dev.controlOut]
@[simp] theorem Dev.controlOut_accC : (d.controlOut n fk slot0).accC = d.accC := by simp [Dev.controlOut]
@[simp] theorem Dev.controlOut_accI : (d.controlOut n fk slot0).accI = d.accI := by simp [Dev.controlOut]
@[simp] theorem Dev.controlOut_clk : (d.controlOut n fk slot0).clk = d.clk := by simp [Dev.controlOut]
@[simp] theorem Dev.controlOut_bel : (d.controlOut n fk slot0).bel = d.bel := by simp [Dev.controlOut]
@[simp] theorem Dev.controlOut_pwr : (d.controlOut n fk slot0).pwr = d.pwr := by simp [Dev.controlOut]
@[simp] theorem Dev.controlOut_pur : (d.controlOut n fk slot0).pur = d.pur := by simp [Dev.controlOut]
@[simp] theorem Dev.controlOut_chn : (d.controlOut n fk slot0).chn = d.chn := by simp [Dev.controlOut]
@[simp] theorem Dev.controlOut_cfg : (d.controlOut n fk slot0).cfg = d.cfg := by simp [Dev.controlOut]
@[simp] theorem Dev.controlOut_hst : (d.controlOut n fk slot0).hst = d.hst := by simp [Dev.controlOut]
@[simp] theorem Dev.controlOut_evc : (d.controlOut n fk slot0).evc = d.evc := by simp [Dev.controlOut]
@[simp] theorem Dev.controlOut_que : (d.controlOut n fk slot0).que = d.que := by simp [Dev.controlOut]
@[simp] theorem Dev.controlOut_pmu : (d.controlOut n fk slot0).pmu = d.pmu := by simp [Dev.controlOut]
@[simp] theorem Dev.controlOut_hdc : (d.controlOut n fk slot0).hdc = d.hdc := by simp [Dev.controlOut]
@[simp] theorem Dev.controlOut_pip : (d.controlOut n fk slot0).pip = d.pip := by simp [Dev.controlOut]
@[simp] theorem Dev.controlOut_wbf : (d.controlOut n fk slot0).wbf = d.wbf := by simp [Dev.controlOut]
@[simp] theorem Dev.controlOut_dir : (d.controlOut n fk slot0).dir = d.dir := by simp [Dev.controlOut]
@[simp] theorem Dev.controlOut_sdr : (d.controlOut n fk slot0).sdr = d.sdr := by simp [Dev.controlOut]
@[simp] theorem Dev.controlOut_cnf : (d.controlOut n fk slot0).cnf = d.cnf := by simp [Dev.controlOut]
@[simp] theorem Dev.controlOut_dep : (d.controlOut n fk slot0).dep = d.dep := by simp [Dev.controlOut]
@[simp] theorem Dev.controlOut_apd : (d.controlOut n fk slot0).apd = d.apd := by simp [Dev.controlOut]
@[simp] theorem Dev.controlOut_hie : (d.controlOut n fk slot0).hie = d.hie := by simp [Dev.controlOut]
@[simp] theorem Dev.controlOut_twn : (d.controlOut n fk slot0).twn = d.twn := by simp [Dev.controlOut]
@[simp] theorem Dev.controlOut_dsc : (d.controlOut n fk slot0).dsc = d.dsc := by simp [Dev.controlOut]
@[simp] theorem Dev.controlOut_ecc : (d.controlOut n fk slot0).ecc = d.ecc := by simp [Dev.controlOut]
@[simp] theorem Dev.controlOut_scb : (d.controlOut n fk slot0).scb = d.scb := by simp [Dev.controlOut]
@[simp] theorem Dev.controlOut_store : (d.controlOut n fk slot0).store = d.store := by simp [Dev.controlOut]
@[simp] theorem Dev.controlOut_mps : (d.controlOut n fk slot0).mps = d.mps := by simp [Dev.controlOut]
@[simp] theorem Dev.controlOut_free : (d.controlOut n fk slot0).free = d.free := by simp [Dev.controlOut]
end

section
variable (d : Dev) (n exp : Nat)
@[simp] theorem Dev.nakOut_gcr : (d.nakOut n exp).gcr = d.gcr := by simp [Dev.nakOut]
@[simp] theorem Dev.nakOut_regs : (d.nakOut n exp).regs = d.regs := by simp [Dev.nakOut]
@[simp] theorem Dev.nakOut_accH : (d.nakOut n exp).accH = d.accH := by simp [Dev.nakOut]
@[simp] theorem Dev.nakOut_accC : (d.nakOut n exp).accC = d.accC := by simp [Dev.nakOut]
@[simp] theorem Dev.nakOut_accI : (d.nakOut n exp).accI = d.accI := by simp [Dev.nakOut]
@[simp] theorem Dev.nakOut_clk : (d.nakOut n exp).clk = d.clk := by simp [Dev.nakOut]
@[simp] theorem Dev.nakOut_bel : (d.nakOut n exp).bel = d.bel := by simp [Dev.nakOut]
@[simp] theorem Dev.nakOut_pwr : (d.nakOut n exp).pwr = d.pwr := by simp [Dev.nakOut]
@[simp] theorem Dev.nakOut_pur : (d.nakOut n exp).pur = d.pur := by simp [Dev.nakOut]
@[simp] theorem Dev.nakOut_chn : (d.nakOut n exp).chn = d.chn := by simp [Dev.nakOut]
@[simp] theorem Dev.nakOut_cfg : (d.nakOut n exp).cfg = d.cfg := by simp [Dev.nakOut]
@[simp] theorem Dev.nakOut_hst : (d.nakOut n exp).hst = d.hst := by simp [Dev.nakOut]
@[simp] theorem Dev.nakOut_evc : (d.nakOut n exp).evc = d.evc := by simp [Dev.nakOut]
@[simp] theorem Dev.nakOut_que : (d.nakOut n exp).que = d.que := by simp [Dev.nakOut]
@[simp] theorem Dev.nakOut_pmu : (d.nakOut n exp).pmu = d.pmu := by simp [Dev.nakOut]
@[simp] theorem Dev.nakOut_hdc : (d.nakOut n exp).hdc = d.hdc := by simp [Dev.nakOut]
@[simp] theorem Dev.nakOut_pip : (d.nakOut n exp).pip = d.pip := by simp [Dev.nakOut]
@[simp] theorem Dev.nakOut_wbf : (d.nakOut n exp).wbf = d.wbf := by simp [Dev.nakOut]
@[simp] theorem Dev.nakOut_dir : (d.nakOut n exp).dir = d.dir := by simp [Dev.nakOut]
@[simp] theorem Dev.nakOut_sdr : (d.nakOut n exp).sdr = d.sdr := by simp [Dev.nakOut]
@[simp] theorem Dev.nakOut_cnf : (d.nakOut n exp).cnf = d.cnf := by simp [Dev.nakOut]
@[simp] theorem Dev.nakOut_dep : (d.nakOut n exp).dep = d.dep := by simp [Dev.nakOut]
@[simp] theorem Dev.nakOut_apd : (d.nakOut n exp).apd = d.apd := by simp [Dev.nakOut]
@[simp] theorem Dev.nakOut_hie : (d.nakOut n exp).hie = d.hie := by simp [Dev.nakOut]
@[simp] theorem Dev.nakOut_twn : (d.nakOut n exp).twn = d.twn := by simp [Dev.nakOut]
@[simp] theorem Dev.nakOut_dsc : (d.nakOut n exp).dsc = d.dsc := by simp [Dev.nakOut]
@[simp] theorem Dev.nakOut_ecc : (d.nakOut n exp).ecc = d.ecc := by simp [Dev.nakOut]
@[simp] theorem Dev.nakOut_scb : (d.nakOut n exp).scb = d.scb := by simp [Dev.nakOut]
@[simp] theorem Dev.nakOut_store : (d.nakOut n exp).store = d.store := by simp [Dev.nakOut]
@[simp] theorem Dev.nakOut_mps : (d.nakOut n exp).mps = d.mps := by simp [Dev.nakOut]
@[simp] theorem Dev.nakOut_free : (d.nakOut n exp).free = d.free := by simp [Dev.nakOut]
end

section
variable (d : Dev) (n code : Nat)
@[simp] theorem Dev.lpmOut_gcr : (d.lpmOut n code).gcr = d.gcr := by simp [Dev.lpmOut]
@[simp] theorem Dev.lpmOut_regs : (d.lpmOut n code).regs = d.regs := by simp [Dev.lpmOut]
@[simp] theorem Dev.lpmOut_accH : (d.lpmOut n code).accH = d.accH := by simp [Dev.lpmOut]
@[simp] theorem Dev.lpmOut_accC : (d.lpmOut n code).accC = d.accC := by simp [Dev.lpmOut]
@[simp] theorem Dev.lpmOut_accI : (d.lpmOut n code).accI = d.accI := by simp [Dev.lpmOut]
@[simp] theorem Dev.lpmOut_clk : (d.lpmOut n code).clk = d.clk := by simp [Dev.lpmOut]
@[simp] theorem Dev.lpmOut_bel : (d.lpmOut n code).bel = d.bel := by simp [Dev.lpmOut]
@[simp] theorem Dev.lpmOut_pwr : (d.lpmOut n code).pwr = d.pwr := by simp [Dev.lpmOut]
@[simp] theorem Dev.lpmOut_pur : (d.lpmOut n code).pur = d.pur := by simp [Dev.lpmOut]
@[simp] theorem Dev.lpmOut_chn : (d.lpmOut n code).chn = d.chn := by simp [Dev.lpmOut]
@[simp] theorem Dev.lpmOut_cfg : (d.lpmOut n code).cfg = d.cfg := by simp [Dev.lpmOut]
@[simp] theorem Dev.lpmOut_hst : (d.lpmOut n code).hst = d.hst := by simp [Dev.lpmOut]
@[simp] theorem Dev.lpmOut_evc : (d.lpmOut n code).evc = d.evc := by simp [Dev.lpmOut]
@[simp] theorem Dev.lpmOut_que : (d.lpmOut n code).que = d.que := by simp [Dev.lpmOut]
@[simp] theorem Dev.lpmOut_pmu : (d.lpmOut n code).pmu = d.pmu := by simp [Dev.lpmOut]
@[simp] theorem Dev.lpmOut_hdc : (d.lpmOut n code).hdc = d.hdc := by simp [Dev.lpmOut]
@[simp] theorem Dev.lpmOut_pip : (d.lpmOut n code).pip = d.pip := by simp [Dev.lpmOut]
@[simp] theorem Dev.lpmOut_wbf : (d.lpmOut n code).wbf = d.wbf := by simp [Dev.lpmOut]
@[simp] theorem Dev.lpmOut_dir : (d.lpmOut n code).dir = d.dir := by simp [Dev.lpmOut]
@[simp] theorem Dev.lpmOut_sdr : (d.lpmOut n code).sdr = d.sdr := by simp [Dev.lpmOut]
@[simp] theorem Dev.lpmOut_cnf : (d.lpmOut n code).cnf = d.cnf := by simp [Dev.lpmOut]
@[simp] theorem Dev.lpmOut_dep : (d.lpmOut n code).dep = d.dep := by simp [Dev.lpmOut]
@[simp] theorem Dev.lpmOut_apd : (d.lpmOut n code).apd = d.apd := by simp [Dev.lpmOut]
@[simp] theorem Dev.lpmOut_hie : (d.lpmOut n code).hie = d.hie := by simp [Dev.lpmOut]
@[simp] theorem Dev.lpmOut_twn : (d.lpmOut n code).twn = d.twn := by simp [Dev.lpmOut]
@[simp] theorem Dev.lpmOut_dsc : (d.lpmOut n code).dsc = d.dsc := by simp [Dev.lpmOut]
@[simp] theorem Dev.lpmOut_ecc : (d.lpmOut n code).ecc = d.ecc := by simp [Dev.lpmOut]
@[simp] theorem Dev.lpmOut_scb : (d.lpmOut n code).scb = d.scb := by simp [Dev.lpmOut]
@[simp] theorem Dev.lpmOut_store : (d.lpmOut n code).store = d.store := by simp [Dev.lpmOut]
@[simp] theorem Dev.lpmOut_mps : (d.lpmOut n code).mps = d.mps := by simp [Dev.lpmOut]
@[simp] theorem Dev.lpmOut_free : (d.lpmOut n code).free = d.free := by simp [Dev.lpmOut]
end

section
variable (d : Dev)
@[simp] theorem Dev.heartbeatOut_gcr : (d.heartbeatOut).gcr = d.gcr := by simp [Dev.heartbeatOut]
@[simp] theorem Dev.heartbeatOut_regs : (d.heartbeatOut).regs = d.regs := by simp [Dev.heartbeatOut]
@[simp] theorem Dev.heartbeatOut_accH : (d.heartbeatOut).accH = d.accH := by simp [Dev.heartbeatOut]
@[simp] theorem Dev.heartbeatOut_accC : (d.heartbeatOut).accC = d.accC := by simp [Dev.heartbeatOut]
@[simp] theorem Dev.heartbeatOut_accI : (d.heartbeatOut).accI = d.accI := by simp [Dev.heartbeatOut]
@[simp] theorem Dev.heartbeatOut_clk : (d.heartbeatOut).clk = d.clk := by simp [Dev.heartbeatOut]
@[simp] theorem Dev.heartbeatOut_bel : (d.heartbeatOut).bel = d.bel := by simp [Dev.heartbeatOut]
@[simp] theorem Dev.heartbeatOut_pwr : (d.heartbeatOut).pwr = d.pwr := by simp [Dev.heartbeatOut]
@[simp] theorem Dev.heartbeatOut_pur : (d.heartbeatOut).pur = d.pur := by simp [Dev.heartbeatOut]
@[simp] theorem Dev.heartbeatOut_chn : (d.heartbeatOut).chn = d.chn := by simp [Dev.heartbeatOut]
@[simp] theorem Dev.heartbeatOut_cfg : (d.heartbeatOut).cfg = d.cfg := by simp [Dev.heartbeatOut]
@[simp] theorem Dev.heartbeatOut_hst : (d.heartbeatOut).hst = d.hst := by simp [Dev.heartbeatOut]
@[simp] theorem Dev.heartbeatOut_evc : (d.heartbeatOut).evc = d.evc := by simp [Dev.heartbeatOut]
@[simp] theorem Dev.heartbeatOut_que : (d.heartbeatOut).que = d.que := by simp [Dev.heartbeatOut]
@[simp] theorem Dev.heartbeatOut_pmu : (d.heartbeatOut).pmu = d.pmu := by simp [Dev.heartbeatOut]
@[simp] theorem Dev.heartbeatOut_hdc : (d.heartbeatOut).hdc = d.hdc := by simp [Dev.heartbeatOut]
@[simp] theorem Dev.heartbeatOut_pip : (d.heartbeatOut).pip = d.pip := by simp [Dev.heartbeatOut]
@[simp] theorem Dev.heartbeatOut_wbf : (d.heartbeatOut).wbf = d.wbf := by simp [Dev.heartbeatOut]
@[simp] theorem Dev.heartbeatOut_dir : (d.heartbeatOut).dir = d.dir := by simp [Dev.heartbeatOut]
@[simp] theorem Dev.heartbeatOut_sdr : (d.heartbeatOut).sdr = d.sdr := by simp [Dev.heartbeatOut]
@[simp] theorem Dev.heartbeatOut_cnf : (d.heartbeatOut).cnf = d.cnf := by simp [Dev.heartbeatOut]
@[simp] theorem Dev.heartbeatOut_dep : (d.heartbeatOut).dep = d.dep := by simp [Dev.heartbeatOut]
@[simp] theorem Dev.heartbeatOut_apd : (d.heartbeatOut).apd = d.apd := by simp [Dev.heartbeatOut]
@[simp] theorem Dev.heartbeatOut_hie : (d.heartbeatOut).hie = d.hie := by simp [Dev.heartbeatOut]
@[simp] theorem Dev.heartbeatOut_twn : (d.heartbeatOut).twn = d.twn := by simp [Dev.heartbeatOut]
@[simp] theorem Dev.heartbeatOut_dsc : (d.heartbeatOut).dsc = d.dsc := by simp [Dev.heartbeatOut]
@[simp] theorem Dev.heartbeatOut_ecc : (d.heartbeatOut).ecc = d.ecc := by simp [Dev.heartbeatOut]
@[simp] theorem Dev.heartbeatOut_scb : (d.heartbeatOut).scb = d.scb := by simp [Dev.heartbeatOut]
@[simp] theorem Dev.heartbeatOut_store : (d.heartbeatOut).store = d.store := by simp [Dev.heartbeatOut]
@[simp] theorem Dev.heartbeatOut_mps : (d.heartbeatOut).mps = d.mps := by simp [Dev.heartbeatOut]
@[simp] theorem Dev.heartbeatOut_free : (d.heartbeatOut).free = d.free := by simp [Dev.heartbeatOut]
end

section
variable (d : Dev) (n : Nat) (slots : BitVec 1920) (mark : Nat)
@[simp] theorem Dev.dataOut_gcr : (d.dataOut n slots mark).gcr = d.gcr := by simp [Dev.dataOut]
@[simp] theorem Dev.dataOut_regs : (d.dataOut n slots mark).regs = d.regs := by simp [Dev.dataOut]
@[simp] theorem Dev.dataOut_accH : (d.dataOut n slots mark).accH = d.accH := by simp [Dev.dataOut]
@[simp] theorem Dev.dataOut_accC : (d.dataOut n slots mark).accC = d.accC := by simp [Dev.dataOut]
@[simp] theorem Dev.dataOut_accI : (d.dataOut n slots mark).accI = d.accI := by simp [Dev.dataOut]
@[simp] theorem Dev.dataOut_clk : (d.dataOut n slots mark).clk = d.clk := by simp [Dev.dataOut]
@[simp] theorem Dev.dataOut_bel : (d.dataOut n slots mark).bel = d.bel := by simp [Dev.dataOut]
@[simp] theorem Dev.dataOut_pwr : (d.dataOut n slots mark).pwr = d.pwr := by simp [Dev.dataOut]
@[simp] theorem Dev.dataOut_pur : (d.dataOut n slots mark).pur = d.pur := by simp [Dev.dataOut]
@[simp] theorem Dev.dataOut_chn : (d.dataOut n slots mark).chn = d.chn := by simp [Dev.dataOut]
@[simp] theorem Dev.dataOut_cfg : (d.dataOut n slots mark).cfg = d.cfg := by simp [Dev.dataOut]
@[simp] theorem Dev.dataOut_hst : (d.dataOut n slots mark).hst = d.hst := by simp [Dev.dataOut]
@[simp] theorem Dev.dataOut_evc : (d.dataOut n slots mark).evc = d.evc := by simp [Dev.dataOut]
@[simp] theorem Dev.dataOut_que : (d.dataOut n slots mark).que = d.que := by simp [Dev.dataOut]
@[simp] theorem Dev.dataOut_pmu : (d.dataOut n slots mark).pmu = d.pmu := by simp [Dev.dataOut]
@[simp] theorem Dev.dataOut_hdc : (d.dataOut n slots mark).hdc = d.hdc := by simp [Dev.dataOut]
@[simp] theorem Dev.dataOut_pip : (d.dataOut n slots mark).pip = d.pip := by simp [Dev.dataOut]
@[simp] theorem Dev.dataOut_wbf : (d.dataOut n slots mark).wbf = d.wbf := by simp [Dev.dataOut]
@[simp] theorem Dev.dataOut_dir : (d.dataOut n slots mark).dir = d.dir := by simp [Dev.dataOut]
@[simp] theorem Dev.dataOut_sdr : (d.dataOut n slots mark).sdr = d.sdr := by simp [Dev.dataOut]
@[simp] theorem Dev.dataOut_cnf : (d.dataOut n slots mark).cnf = d.cnf := by simp [Dev.dataOut]
@[simp] theorem Dev.dataOut_dep : (d.dataOut n slots mark).dep = d.dep := by simp [Dev.dataOut]
@[simp] theorem Dev.dataOut_apd : (d.dataOut n slots mark).apd = d.apd := by simp [Dev.dataOut]
@[simp] theorem Dev.dataOut_hie : (d.dataOut n slots mark).hie = d.hie := by simp [Dev.dataOut]
@[simp] theorem Dev.dataOut_twn : (d.dataOut n slots mark).twn = d.twn := by simp [Dev.dataOut]
@[simp] theorem Dev.dataOut_dsc : (d.dataOut n slots mark).dsc = d.dsc := by simp [Dev.dataOut]
@[simp] theorem Dev.dataOut_ecc : (d.dataOut n slots mark).ecc = d.ecc := by simp [Dev.dataOut]
@[simp] theorem Dev.dataOut_scb : (d.dataOut n slots mark).scb = d.scb := by simp [Dev.dataOut]
@[simp] theorem Dev.dataOut_store : (d.dataOut n slots mark).store = d.store := by simp [Dev.dataOut]
@[simp] theorem Dev.dataOut_mps : (d.dataOut n slots mark).mps = d.mps := by simp [Dev.dataOut]
@[simp] theorem Dev.dataOut_free : (d.dataOut n slots mark).free = d.free := by simp [Dev.dataOut]
end

/-- A flit the device builds comes with a good CRC (R369, R371). -/
@[simp] theorem sealed_crcOk (slots : BitVec 1920) (trailer : BitVec 96) : (Flit.sealed slots trailer).crcOk = true := by
  simp [Flit.crcOk, Flit.sealed]

/-- What a flit tells of the credits changes nothing else of its port (R377). -/
theorem tell_st (p : Port) : p.tell.st = p.st ∧ p.tell.txq = p.txq ∧ p.tell.buf = p.buf ∧ p.tell.txSeq = p.txSeq :=
  ⟨rfl, rfl, rfl, rfl⟩

/-- A flit that leaves has a good CRC, and nothing else is driven (R369). -/
theorem emitFlit_sent (d : Dev) (n fk seq : Nat) (slots : BitVec 1920) (mark : Nat) :
    ∃ f : Flit, (d.emitFlit n fk seq slots mark).sent = .flit n f :: d.sent ∧ f.crcOk = true :=
  ⟨Flit.sealed _ _, by unfold Dev.emitFlit; rw [Dev.emit_sent, Dev.setPort_sent], sealed_crcOk _ _⟩

/-- A flit other than DATA leaves with a good CRC (R365). -/
theorem controlOut_sent (d : Dev) (n fk : Nat) (slot0 : BitVec 128) :
    ∃ f : Flit, (d.controlOut n fk slot0).sent = .flit n f :: d.sent ∧ f.crcOk = true := emitFlit_sent ..

/-- A DATA flit leaves with a good CRC (R370). -/
theorem dataOut_sent (d : Dev) (n : Nat) (slots : BitVec 1920) (mark : Nat) :
    ∃ f : Flit, (d.dataOut n slots mark).sent = .flit n f :: d.sent ∧ f.crcOk = true := by
  unfold Dev.dataOut
  obtain ⟨f, h, hc⟩ := emitFlit_sent (d.setPort n { d.port n with
    txSeq := ((d.port n).txSeq + 1) % 4096
    buf := (d.port n).buf ++ [⟨(d.port n).txSeq, slots, mark⟩] }) n 0 (d.port n).txSeq slots mark
  exact ⟨f, by rw [h, Dev.setPort_sent], hc⟩

end Sys2Proof.Machine
end

