-- ==== Sys2Proof/Tests/Slice0.lean ====
section
/-! SUPPORT. Tests of one step each on small states, ill-formed commands that the checks refuse, worked examples of the
specification, and for every statement with hypotheses a state and operands that meet them. -/

namespace Sys2Proof.Tests

open Sys2Proof Sys2Proof.Machine

set_option Elab.async false

/-! ## Small states -/

/-- A state without waiting commands. -/
def on (d : Dev) : State := { dev := d }

/-- A device in a mode and a role, with ports 0 and 30 enabled and one memory port of 2 GiB. -/
def run (m : Mode := .cache) (r : Role := .standalone) : Dev :=
  ((((({ gcr := { mode := m, role := r } } : Dev).set (portEN 0) 1).set (portEN 30) 1).set R.AMP_MEM_CFG.PORT_EN 1).set
    R.AMP_MEM_CAP.CAP 2)

/-- The state a command leaves. -/
def after (c : Instr) (s : State) : State :=
  match exec c s with
  | .next t => t
  | _ => s

/-- A request of the agent at port 0 for line 8. -/
def hd : Head := ⟨0, 5, false, 1024, 0, 0⟩

/-- A line of data. -/
def pay : Payload := ⟨7, false⟩

/-- A flit of a kind (FK) with a SEQ, and its CRC. -/
def flit (fk : Nat := 0) (seq : Nat := 0) : Flit := Flit.sealed 0 (BitVec.ofNat 96 (seq + fk * 2 ^ 24))

/-- A DATA flit with the sequence number a fresh link expects. -/
def fl : Flit := flit

/-- A flit that a bit error has met. -/
def broken : Flit := { fl with crc := fl.crc ^^^ 1 }

/-- A transaction for line 8. -/
def tx (k : Kind) (ph : Phase) : Txn := { id := 1, kind := k, org := .agent 0, line := 8, phase := ph }

/-- The device with one transaction. -/
def withTx (d : Dev) (x : Txn) : Dev := { d with cnf := { d.cnf with txns := [x] } }

/-- A set header whose way 3 holds line 0 of a sector with tag 0, dirty. -/
def hdr : Header := Header.zero.setWay 3 ⟨0, 1, 1, false, false, 0⟩

/-- The device with the header of a set resident. -/
def withHdr (d : Dev) (set : Nat) (h : Header := hdr) : Dev := { d with hdc := { d.hdc with ents := [⟨set, h, false⟩] } }

/-- The device with a directory entry of line 8. -/
def withDir (d : Dev) (st : DirSt) (holder : Nat) : Dev :=
  { d with dir := ⟨[⟨8, 0, st, [some holder, none, none, none], false, none⟩]⟩ }

/-- A departure of one line. -/
def dp : Dep :=
  { idx := 3, cidx := 3, org := .agent 0, tag := 5, tph := false, line := 8, count := 1, t := 0, man := 0, dtag := 0,
    odev := 0, oport := 0, ports := [0], imm := false, phase := .staged, boarded := [⟨0, .ok, pay⟩], started := [],
    droppedPorts := [], ended := [], accepted := [], toAnswer := [], acks := [], out := .onTime, late := false,
    quiet := [], qat := 0, conflict := false, waits := [] }

/-- The device with one departure. -/
def withDep (d : Dev) (e : Dep) : Dev := { d with dep := { d.dep with table := [e] } }

/-- A link that is up, with credits. -/
def up : Port := { st := 3, txSeq := 1, cReq := 4, cSnp := 4, cRsp := 4, cDat := 4, cWb := 4, pReq := 4, pWb := 4 }

/-- The device with lane n in a state. -/
def withLane (d : Dev) (n : Nat) (l : Lane) : Dev := d.setLane n l

/-- The device with stream 63 replaced. -/
def withStream (d : Dev) (x : Stream) : Dev := d.setStream 63 x

/-- The device with the twin unit in a pair state, the TW link up. -/
def twin (st : PairSt) (mirror : Bool := false) : Dev :=
  { run.set R.TWN_CFG.EN 1 with twn := { st := st, mirror := mirror }, tw := up }

/-- A chain frame for device 7. -/
def frame (f : Frame) : ChainMsg := ⟨7, 2, 9, false, f⟩

/-- The device with chain address 7. -/
def member (d : Dev) : Dev := { d with chn := { d.chn with addr := 7, head := false, inUp := true } }

/-- A chain request in flight. -/
def asked : ChnReq := ⟨⟨3, 7, 9, false, .rd 0⟩, 0, .reg⟩

/-- A write-buffer entry of line 8 on its way to the next level. -/
def wb : WbEnt :=
  { line := 8, mask := BitVec.allOnes 128, pay := pay, kind := .full, rsv := none, bound := true, go := true, issued := true,
    age := 0, txn := none, num := 0 }

/-- The INIT flit of a peer of a kind: Table LNK-3's fields in slot 0, with 4 SNP, RSP and DAT credits. -/
def initFlit (kind : Nat := 0) : Flit :=
  Flit.sealed (BitVec.ofNat 1920 (kind * 2 ^ 8 + 2 ^ 11 + 4 * 2 ^ 49 + 4 * 2 ^ 57 + 4 * 2 ^ 65 + 0xB1 * 2 ^ 78))
    (BitVec.ofNat 96 (3 * 2 ^ 24))

/-- Manifest 0 lists port 0. -/
def listed (d : Dev) : Dev := d.setRaw (R.DEP_MANm.PORTS 0).ofs 1

/-- The departure engine is ready: enabled, the bell locked and aligned, manifest 0 with port 0. -/
def aligned (d : Dev) : Dev := { (listed d).set depEN 1 with bel := { locked := true, aligned := true } }

/-- The device with every timing field set. -/
def timed (d : Dev) : Dev := timingFields.foldl (fun d f => d.set f 1) d

/-! ## Ill-formed commands: one for each check, which the check refuses -/

theorem test_refuses_portOk : Instr.wf (.portDisable .host 32) = false := by decide +kernel
theorem test_refuses_linkOk : Instr.wf (.peerDetect 33) = false := by decide +kernel
theorem test_refuses_uplinkOk : Instr.wf (.takeoverUplink 2 0) = false := by decide +kernel
theorem test_refuses_laneOk : Instr.wf (.laneStartUp 18) = false := by decide +kernel
theorem test_refuses_rankOk : Instr.wf (.refresh 17 2) = false := by decide +kernel
theorem test_refuses_mpOk : Instr.wf (.mpFailed 8) = false := by decide +kernel
theorem test_refuses_streamOk : Instr.wf (.streamEnable .host 64) = false := by decide +kernel
theorem test_refuses_groupOk : Instr.wf (.vrFault 4) = false := by decide +kernel
theorem test_refuses_tagOk : Instr.wf (.transactionRetire 4096) = false := by decide +kernel
theorem test_refuses_tktOk : Instr.wf (.stbyExpired 65536) = false := by decide +kernel
theorem test_refuses_chanOk : Instr.wf (.rdOnce hd 16) = false := by decide +kernel
theorem test_refuses_tableOk : Instr.wf (.boardingStart 1024) = false := by decide +kernel
theorem test_refuses_queueOk : Instr.wf (.queDrop .host 5) = false := by decide +kernel
theorem test_refuses_ctrOk_fixed : Instr.wf (.counterWrap true 8) = false := by decide +kernel
theorem test_refuses_ctrOk_programmable : Instr.wf (.counterWrap false 64) = false := by decide +kernel
theorem test_refuses_lineOk : Instr.wf (.wrFail (2 ^ 41)) = false := by decide +kernel
theorem test_refuses_addrOk : Instr.wf (.rdShared ⟨0, 5, false, 2 ^ 64, 0, 0⟩) = false := by decide +kernel
theorem test_refuses_lidxOk : Instr.wf (.depAckAtWorker 0 3 64) = false := by decide +kernel
theorem test_refuses_countOk : Instr.wf (.depart hd 128 0 0 0 0) = false := by decide +kernel
theorem test_refuses_manOk : Instr.wf (.depart hd 1 0 256 0 0) = false := by decide +kernel
theorem test_refuses_dtagOk : Instr.wf (.depart hd 1 0 0 65536 0) = false := by decide +kernel
theorem test_refuses_devOk : Instr.wf (.depart hd 1 0 0 0 64) = false := by decide +kernel
theorem test_refuses_lenOk : Instr.wf (.append hd 9 16 pay) = false := by decide +kernel
theorem test_refuses_ofsOk : Instr.wf (.rcRead .host (2 ^ 28)) = false := by decide +kernel
theorem test_refuses_sizeOk : Instr.wf (.queDataRead .host 0 3) = false := by decide +kernel
theorem test_refuses_widthOk : Instr.wf (.queDataRead .chain 0 8) = false := by decide +kernel
theorem test_refuses_longOk_host : Instr.wf (.registerWrite .host 0 129 0) = false := by decide +kernel
theorem test_refuses_longOk_chain : Instr.wf (.registerWrite .chain 0 8 0) = false := by decide +kernel
theorem test_refuses_aliasOk : Instr.wf (.aliasRead .host (2 ^ 27 - 1) 4) = false := by decide +kernel
theorem test_refuses_gateOk : Instr.wf (.gateClose 11) = false := by decide +kernel
theorem test_refuses_domOk : Instr.wf (.wakeTo 4 21) = false := by decide +kernel
theorem test_refuses_wakeStepOk : Instr.wf (.wakeTo 0 8) = false := by decide +kernel
theorem test_refuses_half16 : Instr.wf (.commitDone 65536) = false := by decide +kernel
theorem test_refuses_image :
    Instr.wf (.flashReadDone ⟨0, 0, 0, 0, 0, 0, 2 ^ 104, 0, []⟩ ⟨0, 0, 0, 0, 0, 0, 0, 0, []⟩) = false := by decide +kernel
theorem test_refuses_image_records :
    Instr.wf (.flashReadDone ⟨0, 0, 0, 0, 0, 0, 0, 0, []⟩ ⟨0, 0, 0, 0, 0, 0, 0, 0, [(2 ^ 32, 0)]⟩) = false := by decide +kernel
theorem test_refuses_word32 : Instr.wf (.selfTestDone 0 0 (2 ^ 32)) = false := by decide +kernel
theorem test_refuses_failArr : Instr.wf (.selfTestDone 13 0 0) = false := by decide +kernel
theorem test_refuses_pageOk : Instr.wf (.lock .host 0x21004) = false := by decide +kernel
theorem test_refuses_evcWordOk : Instr.wf (.evtFrameSend 36) = false := by decide +kernel
theorem test_refuses_rearmOk : Instr.wf (.evcRearm .host 2 0) = false := by decide +kernel
theorem test_refuses_epochOk : Instr.wf (.homeMoved 0 65536) = false := by decide +kernel
theorem test_refuses_kindOk : Instr.wf (.tokenReturn 6 0) = false := by decide +kernel
theorem test_refuses_pllOk : Instr.wf (.pllLock 1) = false := by decide +kernel
theorem test_refuses_pointOk : Instr.wf (.dvfsTarget .host 4) = false := by decide +kernel
theorem test_refuses_opOk : Instr.wf (.mntStart .host 4 false) = false := by decide +kernel
theorem test_refuses_skidOk : Instr.wf (.sample 65) = false := by decide +kernel
theorem test_refuses_seqOk : Instr.wf (.noAnswer 256) = false := by decide +kernel
theorem test_refuses_head_tag : Instr.wf (.rdOwn ⟨0, 4096, false, 1024, 0, 0⟩) = false := by decide +kernel
theorem test_refuses_head_oport : Instr.wf (.rdOwn ⟨0, 5, false, 1024, 32, 0⟩) = false := by decide +kernel
theorem test_refuses_head_widx : Instr.wf (.upgrade ⟨0, 5, false, 1024, 0, 32⟩) = false := by decide +kernel
theorem test_refuses_body : Instr.wf (.ticketRetry hd 0 (.append 64 0 pay)) = false := by decide +kernel
theorem test_refuses_flit_kind : Instr.wf (.idleFlit 0 fl) = false := by decide +kernel
theorem test_refuses_init_kind : Instr.wf (.init 0 fl) = false := by decide +kernel
theorem test_refuses_data_kind : Instr.wf (.dataFlit 0 (flit 1)) = false := by decide +kernel
theorem test_refuses_nak_seq : Instr.wf (.nak 0 (flit 2) 5) = false := by decide +kernel
theorem test_refuses_lpm_code : Instr.wf (.lpm 0 (flit 5) 1) = false := by decide +kernel
theorem test_refuses_heartbeat : Instr.wf (.heartbeatReceived (flit 4) true 0 1 0) = false := by decide +kernel
theorem test_refuses_loadsOk : Instr.wf (.memReadDone 8 .error 3) = false := by decide +kernel
theorem test_refuses_sramOk : Instr.wf (.lineReadDone 0 0 (some ⟨.timetable 1024, false⟩)) = false := by decide +kernel
theorem test_refuses_frameBytes : Instr.wf (.chainBadFrame [1, 2, 3] 0) = false := by decide +kernel
theorem test_refuses_frame : Instr.wf (.chainRd ⟨7, 2, 9, false, .rd (2 ^ 22)⟩ 0) = false := by decide +kernel
theorem test_refuses_frame_status : Instr.wf (.chainRsp ⟨7, 2, 9, false, .rsp 3 0⟩ 0) = false := by decide +kernel
theorem test_refuses_chainMsg : Instr.wf (.chainRd ⟨64, 2, 9, false, .rd 0⟩ 0) = false := by decide +kernel
theorem test_refuses_regulator : Instr.wf (.voltageReached (some (65536, 0))) = false := by decide +kernel
theorem test_refuses_boarded : Instr.wf (.depLineToWorker 0 3 ⟨64, .ok, pay⟩) = false := by decide +kernel
theorem test_refuses_dep : Instr.wf (.depAnnounce 0 { dp with idx := 1024 }) = false := by decide +kernel
theorem test_refuses_drainFn : Instr.wf (.drainingEnd (.stream 64)) = false := by decide +kernel
theorem test_refuses_width : Instr.wf (.linkTrained 0 true 3 0) = false := by decide +kernel
theorem test_refuses_rate : Instr.wf (.linkTrained 0 true 0 2) = false := by decide +kernel
theorem test_refuses_mpWidth : Instr.wf (.mpLinkReturn 0 2 false) = false := by decide +kernel
theorem test_refuses_bank : Instr.wf (.rfm 0 0 32) = false := by decide +kernel
theorem test_refuses_trainStep : Instr.wf (.trainFail 0 3) = false := by decide +kernel
theorem test_refuses_clockSelect : Instr.wf (.clkMeasGo .host 32) = false := by decide +kernel
theorem test_refuses_measured : Instr.wf (.measDone (2 ^ 24)) = false := by decide +kernel
theorem test_refuses_wakeBit : Instr.wf (.wakeEvent 4) = false := by decide +kernel

/-- At the bounds of their fields the same commands are well formed. -/
theorem test_accepts_bounds :
    Instr.wf (.portDisable .host 31) ∧ Instr.wf (.peerDetect 32) ∧ Instr.wf (.laneStartUp 17) ∧
    Instr.wf (.transactionRetire 4095) ∧ Instr.wf (.wrFail (2 ^ 41 - 1)) ∧ Instr.wf (.trainFail 17 11) ∧
    Instr.wf (.lock .host 0x21000) ∧ Instr.wf (.evtFrameSend 35) ∧ Instr.wf (.rdShared hd) ∧
    Instr.wf (.idleFlit 32 (flit 1 4095)) ∧ Instr.wf (.chainBadFrame [7, 0, 0, 0] 65535) := by decide +kernel

/-! ## The specification's worked examples -/

/-- The device of the External Cache's example: 16 data lanes, each with two ranks of 32 Gb devices. -/
def tib : Dev := ((run.set R.DSC_CFG.DLANES 2).set R.DSC_CFG.DDENS 2).set R.DSC_CFG.DRANKS 1

/-- Its set count, and the set, tag, header line and data line of byte address 0x0A3C_5D17_2E80. -/
theorem test_set_tag_and_lane :
    tib.sets = 2 ^ 26 ∧ tib.setOf (lineOf 0x0A3C5D172E80) = 0x31745CB ∧ tib.tagOf (lineOf 0x0A3C5D172E80) = 0xA3 ∧
    headerLoc 0x31745CB = (17, 0xC5D17280 / 128) ∧ tib.lineLoc 0x31745CB 9 5 = (11, 0xC5D172680 / 128) := by
  decide +kernel

/-- The Data Store's example: that line is in rank 1, bank group 1, bank 1, row 71,493, columns from 1,696. -/
theorem test_device_address : tib.devAddr 11 0x18BA2E4D = ⟨1, 1, 1, 71493, 1696⟩ := by decide +kernel

/-- A header whose first twelve ways have these ages, each with one valid line. -/
def aged (l : List Nat) : Header :=
  ⟨l.mapIdx (fun k a => ⟨BitVec.ofNat 28 k, 1, 0, false, false, BitVec.ofNat 4 a⟩) ++ List.replicate 4 Way.empty, 0, 8⟩

/-- The ages of the first twelve ways. -/
def ages (h : Header) : List Nat := (h.ways.take 12).map (fun w => w.age.toNat)

/-- Table CAC-7: a read hit on way 3, a miss that takes way 5, a stream miss that takes way 8, and way 8 again. -/
theorem test_ages_of_a_set :
    let h0 := aged [5, 11, 0, 9, 2, 15, 7, 1, 15, 3, 8, 4]
    let h1 := h0.readHit 3 7
    let h2 := (h1.allocate 5 77 false 14 true 7).setWay 5 ⟨77, 1, 0, true, false, 0⟩
    let h3 := (h2.allocate 8 78 true 14 false 7).setWay 8 ⟨78, 1, 0, false, true, 14⟩
    ages h1 = [6, 11, 1, 0, 3, 15, 8, 2, 15, 4, 9, 5] ∧ h1.oldest (List.range 12) = some 5 ∧
    ages h2 = [7, 12, 2, 1, 4, 0, 9, 3, 15, 5, 10, 6] ∧ h2.oldest (List.range 12) = some 8 ∧
    ages h3 = [7, 12, 2, 1, 4, 0, 9, 3, 14, 5, 10, 6] ∧ h3.oldest (List.range 12) = some 8 := by decide +kernel

/-- The Hierarchy's example: six memory ports of 256 GiB. -/
theorem test_memory_ports :
    let d := (run.set R.AMP_MEM_CFG.PORT_EN 0x3F).set R.AMP_MEM_CAP.CAP 256
    d.memSize = 0x018000000000 ∧ d.sdrBase = 0x017E80000000 ∧ d.memLoc 0x001234567A40 = (1, 0x000308B91A40) ∧
    (d.memLoc 0x017E92345678).1 = 3 := by decide +kernel

/-- The Registers' example: the alias of bit 3 of CNF_EVT. -/
theorem test_alias_address : aliasOf 0x082C018C = (0x1600C, 3) := by decide +kernel

/-- Table REG-6: the alias read returns 1 and clears bit 3 alone. -/
theorem test_alias_read :
    let t := after (.aliasRead .host 0x082C018C 4) (on (run.setRaw 0x1600C 9))
    t.dev.raw 0x1600C = 1 ∧ t.dev.sent.head? = some (.regVal .host 1) := by decide +kernel

/-- Table REG-6: the low half of an 8-byte read returns 0xFFFF_FFFF and latches the high half for the host. -/
theorem test_counter_halves :
    let t := after (.loRead .host 0x16058) (on ((run.setRaw 0x16058 0xFFFFFFFF).setRaw 0x1605C 2))
    t.dev.sent.head? = some (.regVal .host 0xFFFFFFFF) ∧ t.dev.accH.shadow = some (0x16058, 2) := by decide +kernel

/-- Table EVT-1's example values of the source numbering. -/
theorem test_event_sources :
    srcOf R.CNF_EVT.STBY_EXPIRED = 544 ∧ srcOf R.ECC_EVT.SPARED = 740 ∧ srcOf (R.APnn_EVT.LOST 5) = 869 := by
  decide +kernel

/-- Table APD-1: two appends across the end of the ring; offsets 0x0003_FFC8 and 0x0004_0000, tail 0x0004_0020, and the
line at stream position 0xFF80 is full. -/
theorem test_appends_across_the_end :
    let x : Stream := { Stream.idle with en := true, tail := 0x3FFC8, commit := 0x3FF80 }
    let d := (run.setRaw (apdReg 9 8) 16).setStream 9 x
    let r1 := d.placeRecord 9 5 ⟨5, false⟩
    r1.1 = 0x3FFC8 ∧ (r1.2.stream 9).tail = 0x3FFF8 ∧ r1.2.apdPad 9 32 = 8 := by decide +kernel

/-- The CRC-32 check value of its published definition, for the digits 1 to 9. -/
theorem test_crc32 : crc32 [0x31, 0x32, 0x33, 0x34, 0x35, 0x36, 0x37, 0x38, 0x39] = 0xCBF43926 := by decide +kernel

/-- The check values of the link's CRC-32C and of the chain's CRC, for the digits 1 to 9. -/
theorem test_link_and_chain_crc :
    crc32c 9 0x393837363534333231 = 0xE3069283 ∧
    crc16 [0x31, 0x32, 0x33, 0x34, 0x35, 0x36, 0x37, 0x38, 0x39] = 0x29B1 := by decide +kernel

/-- Table LNK-8: DSM and DLS of the two flits of a departure whose line 1 was boarded POISON, an Ack between the lines. -/
theorem test_departure_line_entries :
    let e := { dp with count := 2, boarded := [⟨0, .ok, pay⟩, ⟨1, .poison, pay⟩] }
    depMark (depFirst e ++ [⟨0, false, none⟩] ++ (depSecond e).take 5) = 0x4100 * 2 ^ 64 + 0x7DFF * 2 ^ 48 ∧
    depMark ((depSecond e).drop 5) = 0xC0C0 * 2 ^ 64 + 7 * 2 ^ 48 := by decide +kernel

/-- The eighth power of the generator of the field of R328 is the low part of its polynomial 0x11D. -/
theorem test_field_generator : gfPow 8 = 0x1D := by decide +kernel

/-! ## One step each -/

/-- R457: RST_N's release leaves Boot with the role of the straps. -/
theorem test_reset_release :
    (after (.resetRelease .manager true true) (on (run .cold))).dev.gcr.mode = .boot ∧
    (after (.resetRelease .manager true true) (on (run .cold))).dev.gcr.role = .manager := by decide +kernel

/-- R508: an unaligned read ends in a bus error of cause 7. -/
theorem test_unaligned_read :
    (after (.readBusError .host 0x21001 4) (on run)).dev.get R.GCR_BUSERR_INFO.CAUSE = 7 := by decide +kernel

/-- R410: the bell counter wraps from its last value. -/
theorem test_bell_tick_wraps :
    (after .bellTick (on { run with bel := { run := true, now := BitVec.allOnes 64 } })).dev.bel.now = 0 := by
  decide +kernel

/-- R533: a 4-byte read of a queue returns the first word of its oldest record, which leaves the queue. -/
theorem test_queue_read :
    let t := after (.queDataRead .host 0 4) (on ((run.push 0 [1, 2, 3]).push 0 [4, 5, 6]))
    (t.dev.queue 0).recs = [[4, 5, 6]] ∧ t.dev.sent.head? = some (.regVal .host 1) := by decide +kernel

/-- R473: SERVE brings a device out of Pass-through, and takes it back. -/
theorem test_serve_changes_mode :
    (after (.serve .host true) (on (run .passThrough))).dev.gcr.mode = .cache ∧
    (after (.serve .host false) (on (run.set R.GCR_CFG.SERVE 1))).dev.gcr.mode = .passThrough := by decide +kernel

/-! ## For every statement with hypotheses, one theorem: each clause's hypotheses are met together -/

theorem witness_StepRunsFrontCommand :
    ∃ (c : Instr) (rest : List Instr) (s : State), s.pending = c :: rest :=
  ⟨Instr.crystalReady, [Instr.bellTick], { pending := [Instr.crystalReady, Instr.bellTick] }, by decide +kernel⟩

theorem witness_StepKeepsInvariant :
    ∃ (s t : State), s.dev.Inv ∧ step s = .next t :=
  ⟨{ dev := run, pending := [.bellTick] }, after .bellTick (on run), Dev.Inv.mk (by decide +kernel) (by
  decide +kernel) rfl rfl rfl rfl (fun n => by rcases n with _ | _ | _ | _ | _ | n <;> exact Nat.zero_le _)
  (Nat.zero_le _) (Nat.zero_le _), rfl⟩

theorem witness_ColdHoldsEveryBlock :
    ∃ (c : Instr) (s : State), s.dev.gcr.mode = .cold ∧ c.actsInCold = false :=
  ⟨Instr.bellTick, on (run .cold), by decide +kernel⟩

theorem witness_RefusedWriteCommands :
    (∃ (c : Instr) (src : Src) (ofs : Nat) (s : State), c.target = some (src, ofs) ∧ s.dev.awake = true ∧
    s.dev.unreachable ofs = none ∧ s.dev.regLocked ofs = true) ∧
    (∃ (c : Instr) (src : Src) (ofs k : Nat) (s : State), c.target = some (src, ofs) ∧ s.dev.awake = true ∧
    s.dev.unreachable ofs = some k) :=
  ⟨⟨Instr.flipDiscard .host, .host, R.ECC_TEST_SEL.SEL.ofs, on (run.setRaw 0x21018 1), by decide +kernel⟩,
   ⟨Instr.serve .chain true, .chain, R.GCR_CFG.SERVE.ofs, 8, on { run with pwr := { on := 0 } }, by decide +kernel⟩⟩

theorem witness_BusErrorRecord :
    ∃ (ofs k : Nat), ofs < 2 ^ 28 ∧ k < 16 :=
  ⟨2 ^ 28 - 1, 15, by decide +kernel⟩

theorem witness_CrystalAndPlls :
    (∃ (s : State), s.dev.awake = true ∧ s.dev.srcReady 1 = false ∧ s.dev.clk.xtalFail = false ∧
    s.dev.clk.fail.getLsbD 1 = false) ∧
    (∃ (s : State), s.dev.awake = true ∧ s.dev.srcReady 1 = false ∧ s.dev.clk.xtalFail = false ∧
    s.dev.clk.fail.getLsbD 1 = false) ∧
    (∃ (s : State), s.dev.reaches R.CLK_CMD.XTAL_RETRY.ofs = true) ∧
    (∃ (s : State), s.dev.awake = true ∧ s.dev.srcReady 1 = true) ∧
    (∃ (k : Nat) (s : State), s.dev.awake = true ∧ k < 19 ∧ k ≠ 6 ∧ k ∈ s.dev.clk.starting) ∧
    (∃ (k : Nat) (s : State), s.dev.awake = true ∧ (k ∈ s.dev.clk.starting ∨ (k = 6 ∧ s.dev.bel.locked = false))) ∧
    (∃ (k : Nat) (s : State), s.dev.awake = true ∧ k < 19 ∧ k ≠ 6 ∧ s.dev.srcReady k = true) ∧
    (∃ (k : Nat) (s : State), s.dev.awake = true ∧ k < 19 ∧ k ≠ 6 ∧ s.dev.clk.fail.getLsbD k = true ∧ (s.dev.srcReady
    1 = true ∨ k = 2)) :=
  ⟨⟨on run, by decide +kernel⟩,
   ⟨on run, by decide +kernel⟩,
   ⟨on run, by decide +kernel⟩,
   ⟨on { run with clk := { ready := 3 } }, by decide +kernel⟩,
   ⟨18, on { run with clk := { starting := [18] } }, by decide +kernel⟩,
   ⟨18, on { run with clk := { starting := [18] } }, by decide +kernel⟩,
   ⟨18, on { run with clk := { ready := 0x40001 } }, by decide +kernel⟩,
   ⟨18, on { run with clk := { ready := 3, fail := 0x40000 } }, by decide +kernel⟩⟩

theorem witness_SwitchesAndGates :
    (∃ (sel : Selector) (k : Nat) (s : State), s.dev.awake = true ∧ s.dev.switchTarget sel = some k ∧ s.dev.oldStopped
    sel = false) ∧
    (∃ (sel : Selector) (k : Nat) (s : State), s.dev.awake = true ∧ s.dev.switchTarget sel = some k ∧
    (s.dev.oldStopped sel = true ∨ s.dev.oldCode sel = some 23)) ∧
    (∃ (s : State), s.dev.reaches R.CLK_FORCE.GATE.ofs = true) ∧
    (∃ (b : Nat) (s : State), s.dev.awake = true ∧ b < 11 ∧ s.dev.clk.gate.getLsbD b = true) ∧
    (∃ (s : State), s.dev.reaches R.CLK_OUT_CFG.SEL.ofs = true) ∧
    (∃ (sel : Nat) (s : State), s.dev.reaches R.CLK_MEAS_CTRL.GO.ofs = true ∧ s.dev.clk.measuring = false ∧ sel ≤ 24 ∧
    s.dev.switchOk .meas sel = true) ∧
    (∃ (s : State), s.dev.awake = true ∧ s.dev.clk.measuring = true) :=
  ⟨⟨.core, 3, on { run with clk := { switching := [(.core, 3)] } }, by decide +kernel⟩,
   ⟨.ref, 0, on { run with clk := { refXtal := true, fail := 2, switching := [(.ref, 0)] } }, by decide +kernel⟩,
   ⟨on run, by decide +kernel⟩,
   ⟨10, on { run with clk := { gate := 0x400 } }, by decide +kernel⟩,
   ⟨on run, by decide +kernel⟩,
   ⟨24, on { run with clk := { ready := BitVec.allOnes 19 } }, by decide +kernel⟩,
   ⟨on { run with clk := { measuring := true } }, by decide +kernel⟩⟩

theorem witness_BellCommands :
    (∃ (s : State), s.dev.awake = true ∧ s.dev.bel.locked = false) ∧
    (∃ (s : State), s.dev.reaches R.BEL_CTRL.ARM.ofs = true) ∧
    (∃ (s : State), s.dev.reaches R.BEL_CTRL.DISARM.ofs = true) ∧
    (∃ (s : State), s.dev.awake = true) ∧
    (∃ (s : State), s.dev.reaches R.BEL_CTRL.MARK_ARM.ofs = true ∧ s.dev.get R.CLK_OUT_CFG.SEL = 25) ∧
    (∃ (s : State), s.dev.awake = true ∧ s.dev.bel.markArmed = true ∧ s.dev.get64 R.BEL_MARK_LO.MARK_LO.ofs ≤
    s.dev.bel.now.toNat) ∧
    (∃ (s : State), s.dev.awake = true ∧ s.dev.bel.locked = true) ∧
    (∃ (s : State), s.dev.awake = true ∧ s.dev.bel.run = true) :=
  ⟨⟨on run, by decide +kernel⟩,
   ⟨on run, by decide +kernel⟩,
   ⟨on run, by decide +kernel⟩,
   ⟨on run, by decide +kernel⟩,
   ⟨on (run.set R.CLK_OUT_CFG.SEL 25), by decide +kernel⟩,
   ⟨on { run with bel := { markArmed := true } }, by decide +kernel⟩,
   ⟨on { run with bel := { locked := true } }, by decide +kernel⟩,
   ⟨on { run with bel := { run := true } }, by decide +kernel⟩⟩

theorem witness_SyncEdgeCaptured :
    ∃ (s : State), s.dev.awake = true :=
  ⟨on run, by decide +kernel⟩

theorem witness_PowerAndPurser :
    (∃ (bit : Nat) (s : State), s.dev.reaches R.PWR_DOM_OFF.OFF.ofs = true ∧ bit < 11 ∧ s.dev.flag (domOffBit bit)
    = false) ∧
    (∃ (bit : Nat) (s : State), s.dev.reaches R.PWR_DOM_OFF.OFF.ofs = true ∧ bit < 11 ∧ s.dev.flag (domOffBit bit)
    = true) ∧
    (∃ (s : State), s.dev.reaches R.PWR_PAD_RELEASE.REL.ofs = true) ∧
    (∃ (step dom : Nat) (s : State), s.dev.awake = true ∧ s.dev.wakeStep step dom = true ∧ step < 16 ∧ dom < 32) ∧
    (∃ (s : State), s.dev.awake = true) ∧
    (∃ (s : State), s.dev.awake = true) ∧
    (∃ (kind who : Nat) (s : State), s.dev.awake = true ∧ s.dev.hasToken kind who = true) ∧
    (∃ (kind who : Nat) (s : State), s.dev.awake = true ∧ 1 ≤ kind ∧ kind ≤ 4 ∧ (kind, who) ∈ s.dev.pur.waiting) :=
  ⟨⟨10, on run, by decide +kernel⟩,
   ⟨10, on (run.set (domOffBit 10) 1), by decide +kernel⟩,
   ⟨on run, by decide +kernel⟩,
   ⟨4, 8, on { run with pwr := { railEn := 8 } }, by decide +kernel⟩,
   ⟨on run, by decide +kernel⟩,
   ⟨on run, by decide +kernel⟩,
   ⟨2, 31, on { run with pur := { tokens := [(2, 31)] } }, by decide +kernel⟩,
   ⟨4, 17, on { run with pur := { waiting := [(4, 17)] } }, by decide +kernel⟩⟩

theorem witness_AlertIsRecorded :
    ∃ (w : Nat) (s : State), s.dev.awake = true ∧ w < 2 ^ 16 ∧ s.dev.que.q.length = 5 :=
  ⟨2 ^ 16 - 1, on run, by decide +kernel⟩

theorem witness_RegulatorAndPoints :
    (∃ (s : State), s.dev.awake = true) ∧
    (∃ (s : State), s.dev.awake = true) ∧
    (∃ (s : State), s.dev.awake = true ∧ s.dev.pwr.pmbRead = false) ∧
    (∃ (s : State), s.dev.awake = true) ∧
    (∃ (s : State), s.dev.awake = true) ∧
    (∃ (s : State), s.dev.reaches R.PWR_VR_CMD.CLEAR.ofs = true) ∧
    (∃ (s : State), s.dev.awake = true ∧ s.dev.coreOn = true) ∧
    (∃ (s : State), s.dev.reaches R.PWR_DVFS.TARGET.ofs = true) ∧
    (∃ (s : State), s.dev.reaches R.PWR_DVFS_MAN.FGO.ofs = true) ∧
    (∃ (s : State), s.dev.reaches R.PWR_DVFS_MAN.VGO.ofs = true) ∧
    (∃ (w : Nat) (x : Dvfs) (s : State), s.dev.awake = true ∧ s.dev.pwr.step = some x ∧ x.voltWait = true ∧ nearPoint
    (linearMv s.dev.pwr.voutExp w) x.goalV = true) ∧
    (∃ (w : Nat) (x : Dvfs) (s : State), s.dev.awake = true ∧ s.dev.pwr.step = some x ∧ x.voltWait = true ∧ nearPoint
    (linearMv s.dev.pwr.voutExp w) x.goalV = false) ∧
    (∃ (x : Dvfs) (s : State), s.dev.awake = true ∧ s.dev.pwr.step = some x ∧ x.voltWait = true) :=
  ⟨⟨on run, by decide +kernel⟩,
   ⟨on run, by decide +kernel⟩,
   ⟨on run, by decide +kernel⟩,
   ⟨on run, by decide +kernel⟩,
   ⟨on run, by decide +kernel⟩,
   ⟨on run, by decide +kernel⟩,
   ⟨on run, by decide +kernel⟩,
   ⟨on run, by decide +kernel⟩,
   ⟨on run, by decide +kernel⟩,
   ⟨on run, by decide +kernel⟩,
   ⟨184, ⟨0, 1, 1, false, true⟩, on { run with pwr := { step := some ⟨0, 1, 1, false, true⟩, voutExp := 24 } }, by
   decide +kernel⟩,
   ⟨0, ⟨0, 0, 1, false, true⟩, on { run with pwr := { step := some ⟨0, 0, 1, false, true⟩ } }, by decide +kernel⟩,
   ⟨⟨0, 0, 1, false, true⟩, on { run with pwr := { step := some ⟨0, 0, 1, false, true⟩ } }, by decide +kernel⟩⟩

theorem witness_DozeCommands :
    (∃ (s : State), s.dev.reaches R.PWR_DOZE_CTRL.REQ.ofs = true) ∧
    (∃ (z : Doze) (s : State), s.dev.runs = true ∧ s.dev.pwr.doze = some z ∧ z.stage = 0 ∧ z.asleep = false ∧ z.waking
    = false) ∧
    (∃ (z : Doze) (s : State), s.dev.runs = true ∧ s.dev.pwr.doze = some z ∧ z.stage = 9 ∧ z.asleep = false ∧ z.waking
    = false ∧ z.slowing = true ∧ z.woken = false ∧ s.dev.pwr.step = none) ∧
    (∃ (z : Doze) (s : State), s.dev.runs = true ∧ s.dev.pwr.doze = some z ∧ z.stage = 2 ∧ z.asleep = false ∧ z.waking
    = false) ∧
    (∃ (bit : Nat) (z : Doze) (s : State), s.dev.awake = true ∧ bit < 4 ∧ (s.dev.get R.PWR_WAKE_EN.EN).testBit bit
    = true ∧ s.dev.pwr.doze = some z ∧ (bit ≠ 3 ∨ s.dev.get64 R.PWR_WAKE_T_LO.T_LO.ofs ≤ s.dev.bel.now.toNat)) ∧
    (∃ (z : Doze) (s : State), s.dev.reaches R.PWR_DOZE_CTRL.WAKE.ofs = true ∧ s.dev.pwr.doze = some z) ∧
    (∃ (z : Doze) (s : State), s.dev.runs = true ∧ s.dev.pwr.doze = some z ∧ z.waking = true ∧ s.dev.dozeReady z
    = true ∧ s.dev.mpsReady = true) :=
  ⟨⟨on run, by decide +kernel⟩,
   ⟨{}, on { run with pwr := { doze := some {} } }, by decide +kernel⟩,
   ⟨{ stage := 9, slowing := true }, on { run with pwr := { doze := some { stage := 9, slowing := true } } }, by
   decide +kernel⟩,
   ⟨{ stage := 2 }, on { run with pwr := { doze := some { stage := 2 } } }, by decide +kernel⟩,
   ⟨3, {}, on { run.set R.PWR_WAKE_EN.EN 8 with pwr := { doze := some {} } }, by decide +kernel⟩,
   ⟨{ asleep := true }, on { run with pwr := { doze := some { asleep := true } } }, by decide +kernel⟩,
   ⟨{ waking := true, wakeStep := 3 }, on
   { run with pwr := { doze := some { waking := true, wakeStep := 3 } }, mps := List.replicate 8 { st := 3 } }, by
   decide +kernel⟩⟩

theorem witness_StartUpCommands :
    (∃ (a b : Image) (s : State), s.dev.gcr.mode = .boot ∧ imageValid a = false ∧ imageValid b = false) ∧
    (∃ (s : State), s.dev.reaches R.GCR_CMD.GO.ofs = true ∧ s.dev.gcr.mode = .configure ∧ s.dev.dozeActive = false) ∧
    (∃ (s : State), s.dev.reaches R.GCR_CMD.GO.ofs = true ∧ s.dev.gcr.mode ≠ .configure) ∧
    (∃ (s : State), s.dev.gcr.mode = .configure ∧ s.dev.gcr.autostart = true ∧ s.dev.pwr.step = none ∧
    s.dev.dozeActive = false ∧ s.dev.goErr = 0) ∧
    (∃ (arr fails : Nat) (s : State), s.dev.runs = true ∧ s.dev.gcr.mode = .selfTest ∧ (s.dev.flag R.TST_CFG.BIST_EN
    = false ∨ arr = 0) ∧ (s.dev.flag R.ECC_TEST_SEL.SEL = true ∨ fails = 0)) ∧
    (∃ (arr : Nat) (s : State), s.dev.runs = true ∧ s.dev.gcr.mode = .selfTest ∧ s.dev.flag R.TST_CFG.BIST_EN = true ∧
    0 < arr ∧ arr < 16) ∧
    (∃ (s : State), s.dev.runs = true ∧ s.dev.gcr.mode = .train ∧ s.dev.trained = true) :=
  ⟨⟨⟨0, 0, 0, 0, 0, 0, 0, 0, []⟩, ⟨0, 0, 0, 0, 0, 0, 0, 0, []⟩, on (run .boot), by decide +kernel⟩,
   ⟨on (run .configure), by decide +kernel⟩,
   ⟨on run, by decide +kernel⟩,
   ⟨on { timed (run .configure) with gcr := { mode := .configure, autostart := true } }, by decide +kernel⟩,
   ⟨0, 0, on (run .selfTest), by decide +kernel⟩,
   ⟨15, on ((run .selfTest).set R.TST_CFG.BIST_EN 1), by decide +kernel⟩,
   ⟨on
   { run .train with dsc := { lanes := List.replicate 18 { st := 3 }, fillDone := true }, mps := List.replicate 8 { st := 3 } },
   by decide +kernel⟩⟩

theorem witness_ServiceAndDrain :
    (∃ (s : State), s.dev.reaches R.GCR_CFG.SERVE.ofs = true) ∧
    (∃ (s : State), s.dev.reaches R.GCR_CMD.DRAIN.ofs = true) ∧
    (∃ (h : Header) (s : State), s.dev.runs = true ∧ s.dev.pip.drainOn = true ∧ s.dev.pip.drainNext < s.dev.sets ∧
    s.dev.hdrBlocked s.dev.pip.drainNext = none ∧ s.dev.header? s.dev.pip.drainNext = some h ∧ s.dev.setInUse
    s.dev.pip.drainNext h (fun _ => true) = false ∧ dirtyIn h (fun _ => true) ≤ s.dev.poolOpen) ∧
    (∃ (s : State), s.dev.runs = true ∧ s.dev.passOver = true ∧ s.dev.gcr.drained = false) ∧
    (∃ (s : State), s.dev.reaches R.GCR_CMD.RESUME.ofs = true ∧ s.dev.dozeActive = false ∧ s.dev.gcr.mode = .drain ∧
    s.dev.isMirror = false) ∧
    (∃ (s : State), s.dev.reaches R.GCR_CMD.RESTART.ofs = true ∧ (s.dev.gcr.mode = .recovery ∨ s.dev.gcr.mode
    = .selfTest) ∧ s.dev.dozeActive = false) ∧
    (∃ (s : State), s.dev.reaches R.GCR_CMD.RESTART.ofs = true ∧ s.dev.gcr.mode ≠ .recovery ∧ s.dev.gcr.mode ≠
    .selfTest) :=
  ⟨⟨on run, by decide +kernel⟩,
   ⟨on run, by decide +kernel⟩,
   ⟨hdr, on { withHdr (run .drain) 1 with pip := { drainOn := true, drainNext := 1 } }, by decide +kernel⟩,
   ⟨on { run .drain with pip := { drainOn := true, drainNext := (run .drain).sets } }, by decide +kernel⟩,
   ⟨on (run .drain), by decide +kernel⟩,
   ⟨on (run .recovery), by decide +kernel⟩,
   ⟨on run, by decide +kernel⟩⟩

theorem witness_ResetPins :
    (∃ (s : State), s.dev.gcr.mode = .cold) ∧
    (∃ (s : State), s.dev.gcr.mode = .cold ∧ s.dev.gcr.pwrOk = true) :=
  ⟨⟨on (run .cold), by decide +kernel⟩,
   ⟨on (run .cold), by decide +kernel⟩⟩

theorem witness_ChainAccess :
    (∃ (m : ChainMsg) (crc o : Nat) (s : State), s.dev.repeats = true ∧ crc = m.crc ∧ s.dev.awake = true ∧ m.frame
    = .rd o ∧ m.rty = false ∧ m.dst ≠ 0 ∧ m.dst = s.dev.addr) ∧
    (∃ (m : ChainMsg) (crc o : Nat) (v : Word) (s : State), s.dev.repeats = true ∧ crc = m.crc ∧ s.dev.awake = true ∧
    m.frame = .wr o v ∧ m.rty = false ∧ m.dst ≠ 0 ∧ m.dst = s.dev.addr) ∧
    (∃ (m : ChainMsg) (crc o : Nat) (v : Word) (a : Frame) (s : State), s.dev.repeats = true ∧ crc = m.crc ∧
    s.dev.awake = true ∧ m.frame = .wr o v ∧ m.dst ≠ 0 ∧ m.dst = s.dev.addr ∧ s.dev.keptAnswer m = some a) ∧
    (∃ (m : ChainMsg) (crc o : Nat) (s : State), s.dev.repeats = true ∧ crc = m.crc ∧ s.dev.gcr.mode = .cold ∧ m.frame
    = .rd o ∧ m.dst ≠ 0 ∧ m.dst = s.dev.addr) ∧
    (∃ (m : ChainMsg) (crc o : Nat) (v : Word) (ack : BitVec 64) (s : State), s.dev.repeats = true ∧ crc = m.crc ∧
    s.dev.awake = true ∧ m.frame = .bwr o v ack ∧ m.rty = false ∧ s.dev.addr ≠ 0 ∧ s.dev.ownBwr m = false) ∧
    (∃ (m : ChainMsg) (crc st : Nat) (v : Word) (r : ChnReq) (s : State), s.dev.repeats = true ∧ crc = m.crc ∧
    s.dev.awake = true ∧ m.frame = .rsp st v ∧ s.dev.addressed m = true ∧ s.dev.flightOf m.seq = some r) ∧
    (∃ (seq : Nat) (r : ChnReq) (s : State), s.dev.awake = true ∧ s.dev.flightOf seq = some r) ∧
    (∃ (f : Frame) (s : State), s.dev.reaches R.CHN_CMD.GO.ofs = true ∧ s.dev.inFlight isReg = false ∧ s.dev.chnFrame
    = some f) ∧
    (∃ (m : ChainMsg) (crc : Nat) (s : State), s.dev.repeats = true ∧ s.dev.awake = true ∧ crc ≠ m.crc) ∧
    (∃ (m : ChainMsg) (crc : Nat) (s : State), s.dev.repeats = true ∧ s.dev.awake = true ∧ crc ≠ m.crc) ∧
    (∃ (m : ChainMsg) (crc : Nat) (s : State), s.dev.repeats = true ∧ s.dev.awake = true ∧ crc ≠ m.crc) ∧
    (∃ (m : ChainMsg) (crc : Nat) (s : State), s.dev.repeats = true ∧ s.dev.awake = true ∧ crc ≠ m.crc) ∧
    (∃ (bytes : List Nat) (crc : Nat) (s : State), s.dev.repeats = true ∧ s.dev.awake = true ∧ crc ≠ crc16 bytes) ∧
    (∃ (bytes : List Nat) (crc : Nat) (s : State), s.dev.repeats = true ∧ s.dev.awake = true ∧ crc = crc16 bytes ∧ 7 ≤
    bytes.getD 0 0 % 16) :=
  ⟨⟨frame (.rd 0x44), (frame (.rd 0x44)).crc, 0x44, on (member run), by decide +kernel⟩,
   ⟨frame (.wr 0x10 1), (frame (.wr 0x10 1)).crc, 0x10, 1, on (member run), by decide +kernel⟩,
   ⟨{ frame (.wr 0x10 1) with rty := true }, ({ frame (.wr 0x10 1) with rty := true }).crc, 0x10, 1, .rsp 0 0, on
   { member run with chn := { addr := 7, head := false, inUp := true, kept := [(2, 9, .rsp 0 0)] } }, by
   decide +kernel⟩,
   ⟨frame (.rd 0x44), (frame (.rd 0x44)).crc, 0x44, on (member (run .cold)), by decide +kernel⟩,
   ⟨{ frame (.bwr 0x10 1 0) with dst := 0 }, ({ frame (.bwr 0x10 1 0) with dst := 0 }).crc, 0x10, 1, 0, on (member
   run), by decide +kernel⟩,
   ⟨frame (.rsp 0 5), (frame (.rsp 0 5)).crc, 0, 5, asked, on
   { run with chn := { addr := 7, head := false, inUp := true, flight := [asked] } }, by decide +kernel⟩,
   ⟨9, asked, on { run with chn := { addr := 7, head := false, flight := [asked] } }, by decide +kernel⟩,
   ⟨.rd 0, on run, by decide +kernel⟩,
   ⟨frame (.rd 0), 0, on run, by decide +kernel⟩,
   ⟨frame (.wr 0x10 1), 0, on run, by decide +kernel⟩,
   ⟨frame (.bwr 0x10 1 0), 0, on run, by decide +kernel⟩,
   ⟨frame (.rsp 0 5), 0, on run, by decide +kernel⟩,
   ⟨[0], 0, on run, by decide +kernel⟩,
   ⟨[7], crc16 [7], on run, by decide +kernel⟩⟩

theorem witness_ChainMessages :
    (∃ (m : ChainMsg) (crc count : Nat) (ovr : Bool) (s : State), s.dev.repeats = true ∧ crc = m.crc ∧ s.dev.awake
    = true ∧ m.frame = .enum count ovr ∧ s.dev.chn.head = false) ∧
    (∃ (m : ChainMsg) (crc count : Nat) (ovr : Bool) (s : State), s.dev.repeats = true ∧ crc = m.crc ∧ s.dev.awake
    = true ∧ m.frame = .enum count ovr ∧ s.dev.chn.head = true ∧ s.dev.inFlight isRoll = true) ∧
    (∃ (m : ChainMsg) (crc count : Nat) (ovr : Bool) (s : State), s.dev.repeats = true ∧ crc = m.crc ∧ s.dev.awake
    = true ∧ m.frame = .enum count ovr ∧ s.dev.chn.head = true) ∧
    (∃ (s : State), s.dev.reaches R.CHN_CMD.ENUM.ofs = true) ∧
    (∃ (s : State), s.dev.awake = true ∧ s.dev.chn.inUp = true) ∧
    (∃ (s : State), s.dev.awake = true ∧ s.dev.chn.inUp = false) ∧
    (∃ (m : ChainMsg) (crc dev w mode : Nat) (f : Bool) (b : Word) (s : State), s.dev.repeats = true ∧ crc = m.crc ∧
    s.dev.runs = true ∧ m.frame = .evt dev w mode f b ∧ s.dev.addressed m = true ∧ m.rty = false ∧ s.dev.que.q.length
    = 5) ∧
    (∃ (m : ChainMsg) (crc : Nat) (w0 w1 : Word) (s : State), s.dev.repeats = true ∧ crc = m.crc ∧ s.dev.runs = true ∧
    m.frame = .mbx w0 w1 ∧ s.dev.addressed m = true ∧ m.rty = false ∧ s.dev.que.q.length = 5) ∧
    (∃ (m : ChainMsg) (crc : Nat) (s : State), s.dev.repeats = true ∧ s.dev.awake = true ∧ crc ≠ m.crc) ∧
    (∃ (m : ChainMsg) (crc : Nat) (s : State), s.dev.repeats = true ∧ s.dev.awake = true ∧ crc ≠ m.crc) ∧
    (∃ (m : ChainMsg) (crc : Nat) (s : State), s.dev.repeats = true ∧ s.dev.awake = true ∧ crc ≠ m.crc ∧
    m.frame.isRoll = true) :=
  ⟨⟨frame (.enum 62 false), (frame (.enum 62 false)).crc, 62, false, on (member run), by decide +kernel⟩,
   ⟨frame (.enum 62 false), (frame (.enum 62 false)).crc, 62, false, on
   { run with chn := { inUp := true, flight := [⟨frame (.enum 0 false), 0, .roll⟩] } }, by decide +kernel⟩,
   ⟨frame (.enum 62 false), (frame (.enum 62 false)).crc, 62, false, on { run with chn := { inUp := true } }, by
   decide +kernel⟩,
   ⟨on run, by decide +kernel⟩,
   ⟨on (member run), by decide +kernel⟩,
   ⟨on run, by decide +kernel⟩,
   ⟨frame (.evt 3 35 6 false 1), (frame (.evt 3 35 6 false 1)).crc, 3, 35, 6, false, 1, on (member run), by
   decide +kernel⟩,
   ⟨frame (.mbx 1 2), (frame (.mbx 1 2)).crc, 1, 2, on (member run), by decide +kernel⟩,
   ⟨frame (.evt 3 35 6 false 1), 0, on run, by decide +kernel⟩,
   ⟨frame (.mbx 1 2), 0, on run, by decide +kernel⟩,
   ⟨frame (.enum 62 false), 0, on run, by decide +kernel⟩⟩

theorem witness_RegisterWritesAndPasses :
    (∃ (ofs size c : Nat) (s : State), s.dev.awake = true ∧ sizeCause true ofs size = some c) ∧
    (∃ (ofs : Nat) (v : BitVec 64) (c : Nat) (s : State), s.dev.awake = true ∧ ofs < 0x400000 ∧ ofs % 4 = 0 ∧
    s.dev.writeCause ofs (BitVec.ofNat 32 v.toNat) = some c) ∧
    (∃ (src : Src) (ofs : Nat) (v : BitVec 64) (s : State), s.dev.awake = true ∧ ofs < 0x400000 ∧ ofs % 4 = 0 ∧
    s.dev.writeCause ofs (BitVec.ofNat 32 v.toNat) = none ∧ s.dev.startsNothing src ofs (BitVec.ofNat 32 v.toNat)
    = true ∧ halfAt ofs = .no ∧ apdOf ofs = none) ∧
    (∃ (page : Nat) (s : State), s.dev.awake = true ∧ page < 0x400000 ∧ page % 0x1000 = 0 ∧ s.dev.writeCause (page +
    0x18) 1 = none) ∧
    (∃ (s : State), s.dev.runs = true ∧ s.dev.cfg.committing = false) ∧
    (∃ (s : State), s.dev.reaches R.CFG_COMMIT.COMMIT.ofs = true) ∧
    (∃ (s : State), s.dev.runs = true ∧ s.dev.cfg.committing = true) :=
  ⟨⟨2, 4, 7, on run, by decide +kernel⟩,
   ⟨0, 0, 2, on run, by decide +kernel⟩,
   ⟨.host, 0x10, 1, on run, by decide +kernel⟩,
   ⟨0x21000, on run, by decide +kernel⟩,
   ⟨on run, by decide +kernel⟩,
   ⟨on run, by decide +kernel⟩,
   ⟨on { run with cfg := { committing := true } }, by decide +kernel⟩⟩

theorem witness_RegisterReads :
    (∃ (page : Nat) (s : State), s.dev.awake = true ∧ page < 0x400000 ∧ page % 0x1000 = 0 ∧ s.dev.accessCause (page +
    0xC) = none) ∧
    (∃ (ofs : Nat) (s : State), s.dev.awake = true ∧ ofs < 0x400000 ∧ ofs % 4 = 0 ∧ s.dev.accessCause ofs = none ∧
    isMsix ofs = false ∧ queOf ofs = none ∧ ioOf ofs = none ∧ halfAt ofs = .no) ∧
    (∃ (ofs : Nat) (s : State), s.dev.awake = true ∧ ofs < 0x400000 ∧ ofs % 4 = 0 ∧ s.dev.accessCause ofs = none ∧
    isMsix ofs = false ∧ queOf ofs = none ∧ ioOf ofs = none ∧ halfAt ofs = .lo) ∧
    (∃ (ofs size c : Nat) (s : State), s.dev.awake = true ∧ sizeCause false ofs size = some c) ∧
    (∃ (ofs c : Nat) (s : State), s.dev.awake = true ∧ sizeCause false ofs 4 = none ∧ isMsix ofs = false ∧
    s.dev.accessCause ofs = some c) ∧
    (∃ (ofs : Nat) (p : PageKind) (n : Nat) (s : State), s.dev.awake = true ∧ pageAt ofs = some (p, n)) :=
  ⟨⟨0xCE000, on run, by decide +kernel⟩,
   ⟨0x44, on run, by decide +kernel⟩,
   ⟨0x1D040, on run, by decide +kernel⟩,
   ⟨2, 4, 7, on run, by decide +kernel⟩,
   ⟨0x3FFFFC, 1, on run, by decide +kernel⟩,
   ⟨0xCE000, .mp, 7, on run, by decide +kernel⟩⟩

theorem witness_PairsAndAliases :
    (∃ (ofs : Nat) (v : Word) (s : State), s.dev.awake = true ∧ ofs < 0x400000 ∧ ofs % 4 = 0 ∧ s.dev.writeCause ofs v
    = none ∧ halfAt ofs = .hi) ∧
    (∃ (src : Src) (ofs : Nat) (v w : Word) (s : State), s.dev.awake = true ∧ ofs < 0x400000 ∧ ofs % 4 = 0 ∧
    s.dev.writeCause ofs v = none ∧ halfAt ofs = .lo ∧ apdOf ofs = none ∧ (s.dev.acc src).staged = some (ofs, w)) ∧
    (∃ (ofs size : Nat) (s : State), s.dev.awake = true ∧ s.dev.aliasCause ofs size = none ∧ queOf (aliasOf ofs).1
    = none ∧ ioOf (aliasOf ofs).1 = none) ∧
    (∃ (src : Src) (ofs size : Nat) (v : Word) (s : State), s.dev.awake = true ∧ s.dev.aliasWriteCause ofs size
    (v.getLsbD 0) = none ∧ apdOf (aliasOf ofs).1 = none ∧ takesBit (aliasOf ofs).1 (aliasOf ofs).2 = true ∧
    s.dev.writeCause (aliasOf ofs).1 (s.dev.aliasWord (aliasOf ofs).1 (aliasOf ofs).2 (v.getLsbD 0)) = none ∧
    s.dev.startsNothing src (aliasOf ofs).1 (s.dev.aliasWord (aliasOf ofs).1 (aliasOf ofs).2 (v.getLsbD 0)) = true) ∧
    (∃ (ofs size c : Nat) (v : Word) (s : State), s.dev.awake = true ∧ s.dev.aliasWriteCause ofs size (v.getLsbD 0)
    = some c) :=
  ⟨⟨0x1D044, 0, on run, by decide +kernel⟩,
   ⟨.host, R.PIP_MNT_BASE_LO.BASE_LO.ofs, 0, 3, on
   { run with accH := { staged := some (R.PIP_MNT_BASE_LO.BASE_LO.ofs, 3) } }, by decide +kernel⟩,
   ⟨2 ^ 27 + 512, 4, on run, by decide +kernel⟩,
   ⟨.host, 2 ^ 27 + 512, 4, 1, on run, by decide +kernel⟩,
   ⟨2 ^ 27 + 512, 2, 10, 0, on run, by decide +kernel⟩⟩

theorem witness_EventMessages :
    (∃ (word : Nat) (s : State), word < 2 ∧ s.dev.reaches (R.EVC_REARM0.REARM.ofs + 4 * word) = true) ∧
    (∃ (s : State), s.dev.awake = true ∧ s.dev.domOn 20 = true) ∧
    (∃ (w : Nat) (s : State), s.dev.awake = true ∧ s.dev.inFlight (isEvt w) = false ∧ s.dev.addr ≠ 0 ∧ s.dev.chn.head
    = false) ∧
    (∃ (s : State), s.dev.awake = true ∧ s.dev.hst.up = true) :=
  ⟨⟨1, on run, by decide +kernel⟩,
   ⟨on run, by decide +kernel⟩,
   ⟨35, on (member run), by decide +kernel⟩,
   ⟨on { run with hst := { up := true } }, by decide +kernel⟩⟩

theorem witness_QueueCommands :
    (∃ (src : Src) (n : Nat) (w : Word) (l : List Word) (s : State), s.dev.awake = true ∧ n < 4 ∧ s.dev.que.q.length
    = 5 ∧ s.dev.unreachable (0xA104 + n * 0x20) = none ∧ (s.dev.queue n).latch src = w :: l) ∧
    (∃ (src : Src) (n : Nat) (w : Word) (l : List Word) (rs : List (List Word)) (s : State), s.dev.awake = true ∧ n <
    4 ∧ s.dev.que.q.length = 5 ∧ s.dev.unreachable (0xA104 + n * 0x20) = none ∧ (s.dev.queue n).latch src = [] ∧
    (s.dev.queue n).recs = (w :: l) :: rs) ∧
    (∃ (src : Src) (n : Nat) (s : State), s.dev.awake = true ∧ n < 4 ∧ s.dev.unreachable (0xA104 + n * 0x20) = none ∧
    (s.dev.queue n).latch src = [] ∧ (s.dev.queue n).recs = []) ∧
    (∃ (n : Nat) (s : State), s.dev.reaches (R.QUEn_DROP.DROP n).ofs = true ∧ n < 4 ∧ s.dev.que.q.length = 5) ∧
    (∃ (s : State), s.dev.reaches (R.QUEn_DROP.DROP 4).ofs = true) ∧
    (∃ (src : Src) (s : State), s.dev.reaches (R.QUEn_DATA.DATA 4).ofs = true ∧ s.dev.mboHalf src = none) ∧
    (∃ (src : Src) (w : Word) (s : State), s.dev.reaches (R.QUEn_DATA.DATA 4).ofs = true ∧ s.dev.que.q.length = 5 ∧
    s.dev.mboHalf src = some w) ∧
    (∃ (r : List Word) (s : State), s.dev.runs = true ∧ s.dev.inFlight isMbx = false ∧ s.dev.addr ≠ 0 ∧ (s.dev.queue
    4).recs.head? = some r ∧ r.length = 3) :=
  ⟨⟨.host, 3, 5, [], on { run with que := { q := [{}, {}, {}, { latchH := [5] }, {}] } }, by decide +kernel⟩,
   ⟨.host, 3, 5, [6], [], on { run with que := { q := [{}, {}, {}, { recs := [[5, 6]] }, {}] } }, by decide +kernel⟩,
   ⟨.host, 3, on run, by decide +kernel⟩,
   ⟨3, on run, by decide +kernel⟩,
   ⟨on run, by decide +kernel⟩,
   ⟨.host, on run, by decide +kernel⟩,
   ⟨.host, 4, on { run with que := { halfH := some 4 } }, by decide +kernel⟩,
   ⟨[1, 2, 3], on { member run with que := { q := [{}, {}, {}, {}, { recs := [[1, 2, 3]] }] } }, by decide +kernel⟩⟩

theorem witness_StrayRollCallAtHead :
    (∃ (m : ChainMsg) (crc count : Nat) (ovr : Bool) (s : State), s.dev.repeats = true ∧ crc = m.crc ∧ s.dev.awake
    = true ∧ m.frame = .enum count ovr ∧ s.dev.chn.head = true) ∧
    (∃ (c : Instr) (s t : State), exec c s = .next t ∧ c.resets = false ∧ s.dev.chn.head = false) ∧
    (∃ (m : ChainMsg) (crc count : Nat) (ovr : Bool) (s : State), s.dev.repeats = true ∧ crc = m.crc ∧ s.dev.awake
    = true ∧ m.frame = .enum count ovr ∧ s.dev.chn.head = false ∧ count < 63) :=
  ⟨⟨frame (.enum 62 false), (frame (.enum 62 false)).crc, 62, false, on { run with chn := { inUp := true } }, by
   decide +kernel⟩,
   ⟨.bellTick, on (member run), after .bellTick (on (member run)), rfl, rfl, rfl⟩,
   ⟨frame (.enum 62 false), (frame (.enum 62 false)).crc, 62, false, on (member run), by decide +kernel⟩⟩

theorem witness_RequestsOpenTransactions :
    (∃ (h : Head) (id : Nat) (s : State), s.takesNow h .rdShared id = true ∧ s.dev.headerAway (lineOf h.addr) = true) ∧
    (∃ (h : Head) (id : Nat) (s : State), s.takesNow h .rdFetch id = true ∧ s.dev.headerAway (lineOf h.addr) = true) ∧
    (∃ (h : Head) (id : Nat) (s : State), s.takesNow h .rdOwn id = true ∧ s.dev.headerAway (lineOf h.addr) = true) ∧
    (∃ (h : Head) (ch id : Nat) (s : State), s.takesNow h (.rdOnce ch) id = true ∧ s.dev.headerAway (lineOf h.addr)
    = true) ∧
    (∃ (h : Head) (id : Nat) (s : State), s.takesNow h .upgrade id = true ∧ s.dev.headerAway (lineOf h.addr) = true) ∧
    (∃ (h : Head) (ch id : Nat) (p : Payload) (s : State), s.takesNow h (.wrFull ch p) id = true ∧ s.dev.headerAway
    (lineOf h.addr) = true) ∧
    (∃ (h : Head) (ch id : Nat) (m : Mask) (p : Payload) (s : State), s.takesNow h (.wrPart ch m p) id = true ∧
    s.dev.headerAway (lineOf h.addr) = true) ∧
    (∃ (h : Head) (id q : Nat) (x : Header) (e : DirEnt) (s : State), s.takesNow h .rdOwn id = true ∧ s.dev.header?
    (s.dev.setOf (lineOf h.addr)) = some x ∧ s.dev.dirEnt (lineOf h.addr) = some e ∧ e.st = .DX ∧ holdersOf e.ptr
    = [q] ∧ q ≠ h.port ∧ q < 32 ∧ s.dev.portDead q = false ∧ s.dev.onHold (lineOf h.addr) q = false) ∧
    (∃ (h : Head) (id : Nat) (x : Header) (e : DirEnt) (s : State), s.takesNow h .upgrade id = true ∧ s.dev.header?
    (s.dev.setOf (lineOf h.addr)) = some x ∧ s.dev.dirEnt (lineOf h.addr) = some e ∧ e.st = .DS ∧ e.ovf = false ∧
    holdersOf e.ptr = [h.port]) :=
  ⟨⟨hd, 0, on run, by decide +kernel⟩,
   ⟨hd, 0, on run, by decide +kernel⟩,
   ⟨hd, 0, on run, by decide +kernel⟩,
   ⟨hd, 0, 0, on run, by decide +kernel⟩,
   ⟨hd, 0, on run, by decide +kernel⟩,
   ⟨hd, 0, 0, pay, on run, by decide +kernel⟩,
   ⟨hd, 0, 0, 0, pay, on run, by decide +kernel⟩,
   ⟨hd, 0, 4, hdr, ⟨8, 0, .DX, [some 4, none, none, none], false, none⟩, on (withDir (withHdr (run.set (portEN 4) 1)
   1) .DX 4), by decide +kernel⟩,
   ⟨hd, 0, hdr, ⟨8, 0, .DS, [some 0, none, none, none], false, none⟩, on (withDir (withHdr run 1) .DS 0), by
   decide +kernel⟩⟩

theorem witness_HitsAreServed :
    (∃ (h : Head) (id w : Nat) (x : Header) (s : State), s.takesNow h .rdShared id = true ∧ s.dev.header? (s.dev.setOf
    (lineOf h.addr)) = some x ∧ s.dev.servedHit x (lineOf h.addr) = some w ∧ s.dev.pip.lost.getLsbD (w / 4) = false ∧
    s.dev.dirEnt (lineOf h.addr) = none) ∧
    (∃ (h : Head) (id w : Nat) (x : Header) (s : State), s.takesNow h .rdFetch id = true ∧ s.dev.header? (s.dev.setOf
    (lineOf h.addr)) = some x ∧ s.dev.servedHit x (lineOf h.addr) = some w ∧ s.dev.pip.lost.getLsbD (w / 4) = false ∧
    s.dev.dirEnt (lineOf h.addr) = none) ∧
    (∃ (h : Head) (id w : Nat) (x : Header) (s : State), s.takesNow h .rdOwn id = true ∧ s.dev.header? (s.dev.setOf
    (lineOf h.addr)) = some x ∧ s.dev.servedHit x (lineOf h.addr) = some w ∧ s.dev.pip.lost.getLsbD (w / 4) = false ∧
    s.dev.dirEnt (lineOf h.addr) = none) ∧
    (∃ (h : Head) (ch id w : Nat) (x : Header) (s : State), s.takesNow h (.rdOnce ch) id = true ∧ s.dev.header?
    (s.dev.setOf (lineOf h.addr)) = some x ∧ s.dev.servedHit x (lineOf h.addr) = some w ∧ s.dev.pip.lost.getLsbD (w /
    4) = false ∧ s.dev.dirEnt (lineOf h.addr) = none) ∧
    (∃ (h : Head) (ch id w : Nat) (m : Mask) (p : Payload) (x : Header) (s : State), s.takesNow h (.wrPart ch m p) id
    = true ∧ s.dev.header? (s.dev.setOf (lineOf h.addr)) = some x ∧ s.dev.servedHit x (lineOf h.addr) = some w ∧
    s.dev.pip.lost.getLsbD (w / 4) = false ∧ s.dev.dirEnt (lineOf h.addr) = none) ∧
    (∃ (h : Head) (ch id w : Nat) (p : Payload) (x : Header) (s : State), s.takesNow h (.wrFull ch p) id = true ∧
    s.dev.header? (s.dev.setOf (lineOf h.addr)) = some x ∧ s.dev.servedHit x (lineOf h.addr) = some w ∧
    s.dev.pip.lost.getLsbD (w / 4) = false ∧ s.dev.dirEnt (lineOf h.addr) = none ∧ s.dev.gcr.mode ≠ .drain ∧
    s.dev.ecc.armed = false ∧ (s.dev.lane (s.dev.lineLoc (s.dev.setOf (lineOf h.addr)) w (lineOf h.addr % 8)).1).st ≠
    5 ∧ s.dev.cnf.pool = []) :=
  ⟨⟨hd, 0, 3, hdr, on (withHdr run 1), by decide +kernel⟩,
   ⟨hd, 0, 3, hdr, on (withHdr run 1), by decide +kernel⟩,
   ⟨hd, 0, 3, hdr, on (withHdr run 1), by decide +kernel⟩,
   ⟨hd, 15, 0, 3, hdr, on (withHdr run 1), by decide +kernel⟩,
   ⟨hd, 0, 0, 3, 1, pay, hdr, on (withHdr run 1), by decide +kernel⟩,
   ⟨hd, 0, 0, 3, pay, hdr, on (withHdr run 1), by decide +kernel⟩⟩

theorem witness_TicketCommands :
    (∃ (h : Head) (sub : Nat) (s : State), s.dev.plain = true ∧ h.port < 32 ∧ s.dev.slotFor h.port = true ∧
    s.dev.cnf.waiting.all (fun y => y.head.port != h.port) = true ∧ s.first ⟨h, .rdShared, none⟩ = true ∧
    s.dev.refusal ⟨h, .rdShared, none⟩ = some sub) ∧
    (∃ (h : Head) (id : Nat) (s : State), s.dev.plain = true ∧ h.port < 32 ∧ s.dev.slotFor h.port = true ∧
    s.dev.cnf.waiting.all (fun y => y.head.port != h.port) = true ∧ s.first ⟨h, .rdShared, none⟩ = true ∧
    s.dev.refusal ⟨h, .rdShared, none⟩ = none ∧ s.dev.resentRequest (s.dev.txnOf ⟨h, .rdShared, none⟩) = none ∧
    s.dev.generalId = some id ∧ 8 ≤ (s.dev.queueOf (lineOf h.addr)).length ∧ s.dev.rsvUsed < 512) ∧
    (∃ (h : Head) (tkt id : Nat) (b : Body) (x : Ticket) (s : State), s.dev.plain = true ∧ h.port < 32 ∧ s.dev.slotFor
    h.port = true ∧ s.dev.cnf.waiting.all (fun y => y.head.port != h.port) = true ∧ b.kind ≠ .append ∧ s.first ⟨h, b,
    some tkt⟩ = true ∧ s.dev.refusal ⟨h, b, some tkt⟩ = none ∧ s.dev.resentRequest (s.dev.txnOf ⟨h, b, some tkt⟩)
    = none ∧ s.dev.ticketOf ⟨h, b, some tkt⟩ (s.dev.txnOf ⟨h, b, some tkt⟩) = some x ∧ s.dev.freeId 512 3584 = some id
    ∧ s.dev.keyActive (lineOf h.addr) (lineOf h.addr) = true ∧ (s.dev.queueOf (lineOf h.addr)).length < 8 ∧
    s.dev.standbyOf (lineOf h.addr) = []) ∧
    (∃ (tkt : Nat) (x : Ticket) (s : State), s.dev.runs = true ∧ s.dev.cnf.tickets.find? (fun y => y.num == tkt)
    = some x ∧ s.dev.ticketLive x = true ∧ s.dev.retryWaits tkt = false) ∧
    (∃ (port : Nat) (r : Req) (s : State), s.dev.runs = true ∧ s.dev.rsvUsed < 512 ∧ s.dev.slotFor port = true ∧
    s.dev.cnf.waiting.find? (fun y => y.head.port == port) = some r) ∧
    (∃ (h : Head) (s : State), s.dev.runs = true ∧ s.dev.twn.mirror = false ∧ s.dev.slotFor h.port = false) :=
  ⟨⟨{ hd with addr := 2 ^ 48 }, 2, on run, by decide +kernel⟩,
   ⟨hd, 0, on
   { run with cnf := { txns := (List.range 8).map (fun n => { tx .rdShared .queued with id := n + 600 }) } }, by
   decide +kernel⟩,
   ⟨hd, 9, 3584, .rdShared, ⟨9, 0, 5, 8, false⟩, on
   { run with cnf := { txns := [tx .rdShared .grantAck], tickets := [⟨9, 0, 5, 8, false⟩] } }, by decide +kernel⟩,
   ⟨9, ⟨9, 0, 5, 8, false⟩, on { run with cnf := { tickets := [⟨9, 0, 5, 8, false⟩] } }, by decide +kernel⟩,
   ⟨0, ⟨hd, .rdShared, none⟩, on { run with cnf := { waiting := [⟨hd, .rdShared, none⟩] } }, by decide +kernel⟩,
   ⟨hd, on { run with cnf := { took := [0] } }, by decide +kernel⟩⟩

theorem witness_SnoopAndWriteBackAnswers :
    (∃ (port txid q : Nat) (x : Txn) (s : State), s.dev.plain = true ∧ s.dev.awaiting port txid = some x ∧ x.kind
    = .rdOwn ∧ x.phase = .snooping ∧ x.victim = none ∧ x.await = [(port, .own)] ∧ x.held = [] ∧ x.wbFrom = [] ∧
    x.grant = .I ∧ x.org = .agent q ∧ q < 32 ∧ s.dev.portDead q = false ∧ s.dev.twn.unsent = [] ∧ s.dev.hdrBlocked
    (s.dev.setOf x.line) = none ∧ (s.dev.header? (s.dev.setOf x.line)).isSome = true) ∧
    (∃ (port txid : Nat) (x : Txn) (s : State), s.dev.runs = true ∧ s.dev.twn.mirror = false ∧ s.dev.gcr.role ≠
    .manager ∧ s.dev.awaiting port txid = some x ∧ (port, Snoop.inv) ∈ x.await.head?.toList ∧ 1 < x.await.length) ∧
    (∃ (port txid : Nat) (x : Txn) (s : State), s.dev.runs = true ∧ s.dev.twn.mirror = false ∧ s.dev.gcr.role ≠
    .manager ∧ s.dev.awaiting port txid = some x ∧ (port, Snoop.own) ∈ x.await.head?.toList ∧ 1 < x.await.length) ∧
    (∃ (port txid : Nat) (s : State), s.dev.runs = true ∧ s.dev.twn.mirror = false ∧ port < 32 ∧ s.dev.awaiting port
    txid = none ∧ s.dev.portDead port = false) ∧
    (∃ (h : Head) (s : State), s.dev.plain = true ∧ h.port < 32 ∧ (s.dev.port h.port).lacks 4 = false ∧
    s.dev.wrBackServed h = true ∧ s.dev.resentRequest { s.dev.txnOf ⟨h, .rdShared, none⟩ with kind := .wrBack } = none
    ∧ s.dev.ownsLine h = true ∧ s.dev.cnf.txns.all (fun x => x.line != lineOf h.addr && x.snooped != lineOf h.addr)
    = true) ∧
    (∃ (h : Head) (s : State), s.dev.plain = true ∧ h.port < 32 ∧ (s.dev.port h.port).lacks 4 = false ∧
    s.dev.wrBackServed h = true ∧ s.dev.resentRequest { s.dev.txnOf ⟨h, .rdShared, none⟩ with kind := .wrBack } = none
    ∧ s.dev.ownsLine h = false) ∧
    (∃ (h : Head) (s : State), s.dev.runs = true ∧ s.dev.twn.mirror = false ∧ h.port < 32 ∧ (s.dev.port h.port).lacks
    4 = true ∧ s.dev.portDead h.port = false) :=
  ⟨⟨4, 1, 0, { tx .rdOwn .snooping with await := [(4, .own)] }, on (withHdr (withTx run
   { tx .rdOwn .snooping with await := [(4, .own)] }) 1), by decide +kernel⟩,
   ⟨4, 1, { tx .rdOwn .snooping with await := [(4, .inv), (5, .inv)] }, on (withTx run
   { tx .rdOwn .snooping with await := [(4, .inv), (5, .inv)] }), by decide +kernel⟩,
   ⟨4, 1, { tx .rdOwn .snooping with await := [(4, .own), (5, .inv)] }, on (withTx run
   { tx .rdOwn .snooping with await := [(4, .own), (5, .inv)] }), by decide +kernel⟩,
   ⟨0, 0, on run, by decide +kernel⟩,
   ⟨hd, on (withDir (run.setPort 0 up) .DX 0), by decide +kernel⟩,
   ⟨hd, on (run.setPort 0 up), by decide +kernel⟩,
   ⟨hd, on run, by decide +kernel⟩⟩

theorem witness_TransactionCommands :
    (∃ (port txid : Nat) (x : Txn) (s : State), s.dev.runs = true ∧ s.dev.twn.mirror = false ∧ s.dev.txn? txid = some
    x ∧ x.phase = .grantAck ∧ x.port = port ∧ s.dev.cnf.pool = []) ∧
    (∃ (txid : Nat) (x : Txn) (s : State), s.dev.runs = true ∧ s.dev.twn.mirror = false ∧ s.dev.txn? txid = some x ∧
    x.phase = .queued ∧ x.ofManager = false ∧ ((s.dev.queueOf (s.dev.key x.line)).head?.map (·.id)) = some txid ∧
    s.dev.keyActive (s.dev.key x.line) x.line = false ∧ s.dev.mustWait x = false ∧ s.dev.cnf.pool = []) ∧
    (∃ (key : Nat) (s : State), s.dev.runs = true ∧ s.dev.cnf.holds.any (fun h => h.key == key && h.left == 0) = true) ∧
    (∃ (port txid opc : Nat) (x : Txn) (s : State), s.dev.runs = true ∧ s.dev.twn.mirror = false ∧ s.dev.get
    R.DIR_CFG.RSP_TO ≠ 0 ∧ s.dev.txn? txid = some x ∧ s.dev.awaitedOpc x port = some opc ∧ x.late = false) ∧
    (∃ (txid : Nat) (x : Txn) (s : State), s.dev.runs = true ∧ s.dev.txn? txid = some x ∧ x.phase = .done ∧ x.kind ≠
    .apdLine ∧ s.dev.cnf.pool = []) :=
  ⟨⟨0, 1, tx .rdOwn .grantAck, on (withTx run (tx .rdOwn .grantAck)), by decide +kernel⟩,
   ⟨1, tx .rdOwn .queued, on (withTx run (tx .rdOwn .queued)), by decide +kernel⟩,
   ⟨8, on { run with cnf := { holds := [⟨8, 0, 0⟩] } }, by decide +kernel⟩,
   ⟨0, 1, 0x23, tx .rdOwn .grantAck, on (withTx (run.set R.DIR_CFG.RSP_TO 1) (tx .rdOwn .grantAck)), by
   decide +kernel⟩,
   ⟨1, tx (.maint 0) .done, on (withTx run (tx (.maint 0) .done)), by decide +kernel⟩⟩

theorem witness_HeadersAndLines :
    (∃ (set : Nat) (noise : Burst) (s : State), s.dev.runs = true ∧ set ∈ s.dev.hdc.fetch ∧ ((s.dev.laneRead
    (headerLoc set).1 (headerLoc set).2 noise).1.out = .clean ∨ (s.dev.laneRead (headerLoc set).1 (headerLoc set).2
    noise).1.out = .corrected) ∧ s.dev.wbf.ents.all (fun e => e.bound) = true) ∧
    (∃ (set : Nat) (noise : Burst) (h : Header) (s : State), s.dev.runs = true ∧ set ∈ s.dev.hdc.fetch ∧
    (s.dev.readHeader set noise).1 = some h ∧ s.dev.wbf.ents.all (fun e => e.bound) = true ∧ s.dev.waitingOn set
    .waitHeader = []) ∧
    (∃ (set : Nat) (noise : Burst) (s : State), s.dev.runs = true ∧ set ∈ s.dev.hdc.fetch ∧ s.dev.gcr.mode.serving
    = true ∧ (s.dev.laneRead (headerLoc set).1 (headerLoc set).2 noise).1.out ≠ .clean ∧ (s.dev.laneRead (headerLoc
    set).1 (headerLoc set).2 noise).1.out ≠ .corrected) ∧
    (∃ (txid : Nat) (x : Txn) (s : State), s.dev.runs = true ∧ s.dev.txn? txid = some x ∧ x.phase = .waitUnpin ∧
    s.dev.gcr.mode ≠ .train ∧ s.dev.hdrBlocked (s.dev.setOf x.line) = none ∧ s.dev.headerAway x.line = true) ∧
    (∃ (s : State), s.dev.reaches R.HDC_FLUSH.FLUSH.ofs = true ∧ s.dev.hdc.flushing = false) ∧
    (∃ (s : State), s.dev.runs = true ∧ s.dev.hdc.flushing = true) ∧
    (∃ (s : State), s.dev.reaches R.PIP_QUAR_CLR.CLR.ofs = true) ∧
    (∃ (txid q : Nat) (noise : Burst) (x : Txn) (s : State), s.dev.plain = true ∧ s.dev.txn? txid = some x ∧ x.phase
    = .readLane ∧ x.kind = .rdOnce ∧ x.grant = .I ∧ x.org = .agent q ∧ q < 32 ∧ s.dev.cnf.pool = [] ∧ s.dev.pip.lost
    = 0 ∧ (s.dev.lane (s.dev.lineLoc (s.dev.setOf x.snooped) (x.way.getD 0) (x.snooped % 8)).1).st ≠ 5 ∧
    (s.dev.laneRead (s.dev.lineLoc (s.dev.setOf x.snooped) (x.way.getD 0) (x.snooped % 8)).1 (s.dev.lineLoc
    (s.dev.setOf x.snooped) (x.way.getD 0) (x.snooped % 8)).2 noise).1.payload.psn = false) ∧
    (∃ (txid q : Nat) (noise : Burst) (x : Txn) (s : State), s.dev.plain = true ∧ s.dev.txn? txid = some x ∧ x.phase
    = .readLane ∧ (x.kind = .rdShared ∨ x.kind = .rdFetch ∨ x.kind = .rdOwn) ∧ x.grant = .I ∧ x.org = .agent q ∧ q <
    32 ∧ s.dev.portDead q = false ∧ s.dev.pip.lost = 0 ∧ (s.dev.lane (s.dev.lineLoc (s.dev.setOf x.snooped)
    (x.way.getD 0) (x.snooped % 8)).1).st ≠ 5 ∧ (s.dev.laneRead (s.dev.lineLoc (s.dev.setOf x.snooped) (x.way.getD 0)
    (x.snooped % 8)).1 (s.dev.lineLoc (s.dev.setOf x.snooped) (x.way.getD 0) (x.snooped % 8)).2 noise).1.payload.psn
    = false) ∧
    (∃ (line q : Nat) (x : Txn) (s : State), s.dev.plain = true ∧ line ∈ (s.dev.mp (s.dev.memLoc (line *
    128)).1).reads ∧ (s.dev.mp (s.dev.memLoc (line * 128)).1).st = 3 ∧ s.dev.mps.length = 8 ∧ s.dev.sdrAwaited.all
    (fun k => s.dev.sdrMem (sdrLine k) != line) = true ∧ s.dev.cnf.txns.find? (fun y => y.phase == .readMem &&
    y.snooped == line) = some x ∧ s.dev.txn? x.id = some x ∧ (x.kind = .rdShared ∨ x.kind = .rdFetch ∨ x.kind
    = .rdOwn) ∧ x.grant = .I ∧ x.org = .agent q ∧ q < 32 ∧ s.dev.portDead q = false) ∧
    (∃ (line q : Nat) (x : Txn) (s : State), s.dev.plain = true ∧ line ∈ (s.dev.mp (s.dev.memLoc (line *
    128)).1).reads ∧ (s.dev.mp (s.dev.memLoc (line * 128)).1).st = 3 ∧ s.dev.mps.length = 8 ∧ s.dev.sdrAwaited.all
    (fun k => s.dev.sdrMem (sdrLine k) != line) = true ∧ s.dev.cnf.txns.find? (fun y => y.phase == .readMem &&
    y.snooped == line) = some x ∧ x.kind = .rdOnce ∧ x.grant = .I ∧ x.org = .agent q ∧ q < 32 ∧ s.dev.cnf.pool = []) ∧
    (∃ (line : Nat) (s : State), s.dev.runs = true ∧ line ∈ (s.dev.mp (s.dev.memLoc (line * 128)).1).reads) :=
  ⟨⟨1, 0, on { run with hdc := { fetch := [1] } }, by decide +kernel⟩,
   ⟨1, 0, Header.zero, on { run with hdc := { fetch := [1] } }, by decide +kernel⟩,
   ⟨1, 0, on (({ run with hdc := { fetch := [1] } } : Dev).putBurst (headerLoc 1).1 (headerLoc 1).2 (encodeLine 0
   true)), by decide +kernel⟩,
   ⟨1, tx .rdShared .waitUnpin, on (withTx run (tx .rdShared .waitUnpin)), by decide +kernel⟩,
   ⟨on run, by decide +kernel⟩,
   ⟨on { run with hdc := { flushing := true } }, by decide +kernel⟩,
   ⟨on run, by decide +kernel⟩,
   ⟨1, 0, 0, { tx .rdOnce .readLane with way := some 3 }, on (withTx run { tx .rdOnce .readLane with way := some 3 }),
   by decide +kernel⟩,
   ⟨1, 0, 0, { tx .rdShared .readLane with way := some 3 }, on (withTx run
   { tx .rdShared .readLane with way := some 3 }), by decide +kernel⟩,
   ⟨8, 0, tx .rdOwn .readMem, on
   { withTx run (tx .rdOwn .readMem) with mps := { st := 3, reads := [8] } :: List.replicate 7 {} }, by
   decide +kernel⟩,
   ⟨8, 0, tx .rdOnce .readMem, on
   { withTx run (tx .rdOnce .readMem) with mps := { st := 3, reads := [8] } :: List.replicate 7 {} }, by
   decide +kernel⟩,
   ⟨8, on { withTx run (tx .rdOwn .readMem) with mps := { st := 3, reads := [8] } :: List.replicate 7 {} }, by
   decide +kernel⟩⟩

theorem witness_WriteBufferCommands :
    (∃ (line : Nat) (e : WbEnt) (s : State), s.dev.runs = true ∧ s.dev.issuedOf line = some e ∧ (s.dev.wbf.ents.filter
    (fun y => y.num == e.num)) = [e] ∧ (s.dev.wbf.ents.all (fun y => y.num < s.dev.wbf.next)) = true) ∧
    (∃ (line k : Nat) (s : State), s.dev.runs = true ∧ s.dev.issuedOf line = none ∧ s.dev.sdr.flight = [k] ∧
    s.dev.sdrMem k = line ∧ s.dev.sdrLines ≤ s.dev.sdr.prog) ∧
    (∃ (line : Nat) (e : WbEnt) (s : State), s.dev.runs = true ∧ s.dev.issuedOf line = some e ∧ (s.dev.wbf.ents.filter
    (fun y => y.num == e.num)) = [e] ∧ (s.dev.wbf.ents.all (fun y => y.num < s.dev.wbf.next)) = true) ∧
    (∃ (s : State), s.dev.runs = true) ∧
    (∃ (s : State), s.dev.reaches R.WBF_FLUSH.FLUSH.ofs = true) ∧
    (∃ (txid : Nat) (x : Txn) (h : Header) (s : State), s.dev.runs = true ∧ s.dev.txn? txid = some x ∧ x.phase
    = .waitCopy ∧ (allocClass x.kind).isSome = true ∧ s.dev.header? (s.dev.setOf x.line) = some h ∧
    s.dev.pip.copyWait.head? = some txid ∧ s.dev.pip.lost.getLsbD (x.way.getD 0 / 4) = false ∧ (dirtyLines (h.way
    (x.way.getD 0))).length ≤ s.dev.poolFree ∧ (s.dev.hdc.ents.filter (fun e => e.set == s.dev.setOf x.line)).length
    = 1) ∧
    (∃ (txid : Nat) (x : Txn) (h : Header) (w : Nat) (s : State), s.dev.plain = true ∧ s.dev.txn? txid = some x ∧
    x.phase = .waitWay ∧ x.kind = .rdShared ∧ x.got = none ∧ s.dev.view (s.dev.setOf x.line) = .ok h ∧ s.dev.hitWay h
    x.line = none ∧ s.dev.wayOf h x.line = none ∧ s.dev.allocWith x.pol .read x.line = some false ∧ s.dev.sectorWaits
    x.line txid x.ord (fun e => e.ord ≤ x.ord) = false ∧ s.dev.victim (s.dev.setOf x.line) h = some w ∧ (h.way
    w).occupied = false ∧ (h.way w).v = 0 ∧ s.dev.wbPartial x.line = false ∧ s.dev.wbFull x.line = none ∧ x.dirty
    = false) :=
  ⟨⟨8, wb, on { run with wbf := { ents := [wb], next := 1 } }, by decide +kernel⟩,
   ⟨run.sdrMem 0, 0, on { run with sdr := { flight := [0], prog := run.sdrLines } }, by decide +kernel⟩,
   ⟨8, wb, on { run with wbf := { ents := [wb], next := 1 } }, by decide +kernel⟩,
   ⟨on run, by decide +kernel⟩,
   ⟨on run, by decide +kernel⟩,
   ⟨1, { tx .rdShared .waitCopy with way := some 3 }, hdr, on
   { withHdr (withTx run { tx .rdShared .waitCopy with way := some 3 }) 1 with pip := { copyWait := [1] } }, by
   decide +kernel⟩,
   ⟨1, tx .rdShared .waitWay, Header.zero, 0, on
   { withHdr (withTx run (tx .rdShared .waitWay)) 1 Header.zero with dsc := { lanes := List.replicate 18 { st := 3 } } },
   by decide +kernel⟩⟩

theorem witness_ObservationCommands :
    (∃ (s : State), s.dev.reaches R.DIR_PROBE_CTRL.GO.ofs = true ∧ s.dev.pip.probe = false) ∧
    (∃ (e : DirEnt) (s : State), s.dev.runs = true ∧ s.dev.pip.probe = true ∧ s.dev.slotsLeft ≠ 0 ∧ s.dev.dirEnt
    (s.dev.get64 R.DIR_PROBE_ADDR_LO.ADDR_LO.ofs / 128) = some e) ∧
    (∃ (s : State), s.dev.runs = true ∧ s.dev.pip.probe = true ∧ s.dev.slotsLeft ≠ 0 ∧ s.dev.dirEnt (s.dev.get64
    R.DIR_PROBE_ADDR_LO.ADDR_LO.ofs / 128) = none) ∧
    (∃ (e : Dep) (s : State), s.dev.reaches R.DEP_PROBE_CTRL.GO.ofs = true ∧ s.dev.dep? (s.dev.get
    R.DEP_PROBE_IDX.IDX) = some e) ∧
    (∃ (s : State), s.dev.reaches R.DEP_PROBE_CTRL.GO.ofs = true ∧ s.dev.dep? (s.dev.get R.DEP_PROBE_IDX.IDX) = none) ∧
    (∃ (s : State), s.dev.reaches R.PMU_GCTL.CLEAR.ofs = true) ∧
    (∃ (n : Nat) (s : State), s.dev.runs = true ∧ n < 8 ∧ (true, n) ∈ s.dev.pmu.wraps) ∧
    (∃ (n : Nat) (s : State), s.dev.runs = true ∧ n < 64 ∧ (false, n) ∈ s.dev.pmu.wraps) ∧
    (∃ (skid n : Nat) (l : List Nat) (s : State), s.dev.runs = true ∧ s.dev.pmu.want = n :: l ∧ n < 64 ∧ skid < 128) ∧
    (∃ (s : State), s.dev.reaches R.PMU_SMP_CTRL.DONE.ofs = true) ∧
    (∃ (s : State), s.dev.runs = true ∧ s.dev.switchBusy .core = false ∧ s.dev.cnf.waiting = [] ∧ s.dev.cnf.pool = []
    ∧ s.dev.dsc.filling = false ∧ s.dev.cnf.txns.all (fun x => x.phase != .waitPlace) = true ∧ s.dev.apd.streams.all
    (fun e => !e.2.closing) = true) ∧
    (∃ (s : State), s.dev.runs = true ∧ s.dev.switchBusy .core = true) :=
  ⟨⟨on run, by decide +kernel⟩,
   ⟨⟨0, 0, .DX, [some 4, none, none, none], false, none⟩, on
   { run with pip := { probe := true }, dir := ⟨[⟨0, 0, .DX, [some 4, none, none, none], false, none⟩]⟩ }, by
   decide +kernel⟩,
   ⟨on { run with pip := { probe := true } }, by decide +kernel⟩,
   ⟨dp, on ((withDep run dp).set R.DEP_PROBE_IDX.IDX 3), by decide +kernel⟩,
   ⟨on run, by decide +kernel⟩,
   ⟨on run, by decide +kernel⟩,
   ⟨7, on { run with pmu := { wraps := [(true, 7)] } }, by decide +kernel⟩,
   ⟨63, on { run with pmu := { wraps := [(false, 63)] } }, by decide +kernel⟩,
   ⟨127, 63, [0], on { run with pmu := { want := [63, 0] } }, by decide +kernel⟩,
   ⟨on run, by decide +kernel⟩,
   ⟨on run, by decide +kernel⟩,
   ⟨on { run with clk := { switching := [(.core, 1)] } }, by decide +kernel⟩⟩

theorem witness_WayGroupCommands :
    (∃ (g : Nat) (s : State), s.dev.reaches R.PWR_WG_REQ.REQ.ofs = true ∧ g < 4 ∧ s.dev.dozeActive = false ∧
    s.dev.wgReq g = false) ∧
    (∃ (w : Sweep) (h : Header) (s : State), s.dev.runs = true ∧ s.dev.pip.sweep = some w ∧ w.g < 4 ∧ w.next <
    s.dev.sets ∧ s.dev.hdrBlocked w.next = none ∧ s.dev.header? w.next = some h ∧ h.wgOff.getLsbD w.g = false ∧
    s.dev.setInUse w.next h (fun k => k / 4 == w.g) = false ∧ dirtyIn h (fun k => k / 4 == w.g) ≤ s.dev.poolFree) ∧
    (∃ (w : Sweep) (s : State), s.dev.runs = true ∧ s.dev.pip.sweep = some w ∧ w.g < 4 ∧ w.loss = false ∧
    s.dev.sweepOver w = true ∧ s.dev.pip.lossWait = []) ∧
    (∃ (w : Sweep) (s : State), s.dev.runs = true ∧ s.dev.pip.sweep = some w ∧ w.g < 4 ∧ w.loss = true ∧
    s.dev.sweepOver w = true ∧ s.dev.pip.lossWait = []) ∧
    (∃ (g : Nat) (w : Sweep) (s : State), s.dev.reaches R.PWR_WG_REQ.REQ.ofs = true ∧ g < 4 ∧ s.dev.dozeActive = false
    ∧ s.dev.pip.sweep = some w ∧ w.g = g ∧ w.loss = false) ∧
    (∃ (g : Nat) (s : State), s.dev.reaches R.PWR_WG_REQ.REQ.ofs = true ∧ g < 4 ∧ s.dev.dozeActive = false ∧
    s.dev.domOn (5 + g) = false ∧ s.dev.wgReq g = true) :=
  ⟨⟨3, on run, by decide +kernel⟩,
   ⟨⟨3, 1, false⟩, hdr, on { withHdr run 1 with pip := { sweep := some ⟨3, 1, false⟩ } }, by decide +kernel⟩,
   ⟨⟨3, run.sets, false⟩, on { run with pip := { sweep := some ⟨3, run.sets, false⟩ } }, by decide +kernel⟩,
   ⟨⟨3, run.sets, true⟩, on { run with pip := { sweep := some ⟨3, run.sets, true⟩ } }, by decide +kernel⟩,
   ⟨3, ⟨3, 1, false⟩, on { run with pip := { sweep := some ⟨3, 1, false⟩ } }, by decide +kernel⟩,
   ⟨3, on ({ run with pwr := { on := BitVec.allOnes 21 ^^^ 0x100 } }.setWgReq 3 true), by decide +kernel⟩⟩

theorem witness_MaintenanceCommands :
    (∃ (op : Nat) (s : State), s.dev.reaches R.PIP_MNT_CTRL.START.ofs = true ∧ op < 4) ∧
    (∃ (op : Nat) (s : State), s.dev.reaches R.PIP_MNT_CTRL.START.ofs = true ∧ op < 4 ∧ s.dev.mntRefused op = false) ∧
    (∃ (s : State), s.dev.reaches R.PIP_MNT_CTRL.ABORT.ofs = true) ∧
    (∃ (s : State), s.dev.runs = true ∧ s.dev.pip.mnt.busy = true ∧ s.dev.pip.mnt.aborting = false ∧ s.dev.twn.mirror
    = false ∧ s.dev.mntFlight ≤ s.dev.get R.PIP_MNT_CFG.DEPTH_M1 ∧ s.dev.pip.mnt.whole = false ∧ s.dev.pip.mnt.asked
    = none ∧ s.dev.pip.mnt.next ≤ s.dev.pip.mnt.last ∧ (s.dev.gcr.role ≠ .manager ∨ s.dev.sdrCached (sdrLine (sectorOf
    s.dev.pip.mnt.next)) = true) ∧ (s.dev.mntActs s.dev.pip.mnt.next).1 = false) ∧
    (∃ (id : Nat) (s : State), s.dev.runs = true ∧ s.dev.pip.mnt.busy = true ∧ s.dev.pip.mnt.aborting = false ∧
    s.dev.twn.mirror = false ∧ s.dev.mntFlight ≤ s.dev.get R.PIP_MNT_CFG.DEPTH_M1 ∧ s.dev.pip.mnt.whole = false ∧
    s.dev.pip.mnt.asked = none ∧ s.dev.pip.mnt.next ≤ s.dev.pip.mnt.last ∧ (s.dev.gcr.role ≠ .manager ∨
    s.dev.sdrCached (sdrLine (sectorOf s.dev.pip.mnt.next)) = true) ∧ (s.dev.mntActs s.dev.pip.mnt.next).1 = true ∧
    s.dev.cnf.waiting = [] ∧ s.dev.cnf.pool = [] ∧ s.dev.probeSlot < s.dev.slotsLeft ∧ s.dev.generalId = some id ∧
    s.dev.keyActive (s.dev.key s.dev.pip.mnt.next) s.dev.pip.mnt.next = true ∧ (s.dev.queueOf (s.dev.key
    s.dev.pip.mnt.next)).length < 8 ∧ s.dev.standbyOf (s.dev.key s.dev.pip.mnt.next) = []) ∧
    (∃ (s : State), s.dev.runs = true ∧ s.dev.pip.mnt.busy = true ∧ (s.dev.pip.mnt.aborting = true ∨
    s.dev.pip.mnt.over = true) ∧ s.dev.mntFlight = 0) :=
  ⟨⟨3, on run, by decide +kernel⟩,
   ⟨3, on run, by decide +kernel⟩,
   ⟨on run, by decide +kernel⟩,
   ⟨on { withHdr run 1 with pip := { mnt := { busy := true, op := 1, next := 9, last := 9 } } }, by decide +kernel⟩,
   ⟨0, on
   { withTx (withHdr run 1) (tx .rdShared .grantAck) with pip := { mnt := { busy := true, op := 1, next := 8, last := 8 } } },
   by decide +kernel⟩,
   ⟨on { run with pip := { mnt := { busy := true, aborting := true } } }, by decide +kernel⟩⟩

theorem witness_ManagerMessages :
    (∃ (uplink : Nat) (sn : Snoop) (addr id : Nat) (s : State), s.dev.worker = true ∧ uplink = s.dev.hie.upl ∧
    s.dev.reserveId uplink = some id ∧ s.dev.mgrBlocked
    { id := id, kind := .mgrSnoop sn, org := .manager uplink, line := lineOf addr, phase := .queued } = false ∧
    s.dev.hdrBlocked (s.dev.setOf (lineOf addr)) = none ∧ (s.dev.header? (s.dev.setOf (lineOf addr))).isSome = true ∧
    s.dev.standing (lineOf addr) = .none ∧ s.dev.cnf.pool = [] ∧ s.dev.wbf.ents.all (fun e => sectorOf e.line !=
    sectorOf (lineOf addr)) = true) ∧
    (∃ (uplink : Nat) (sn : Snoop) (addr id : Nat) (s : State), s.dev.worker = true ∧ uplink = s.dev.hie.upl ∧
    s.dev.reserveId uplink = some id ∧ s.dev.mgrBlocked
    { id := id, kind := .mgrSnoop sn, org := .manager uplink, line := lineOf addr, phase := .queued } = true) ∧
    (∃ (uplink : Nat) (s : State), s.dev.worker = true ∧ uplink ≠ s.dev.hie.upl) ∧
    (∃ (uplink : Nat) (s : State), s.dev.worker = true ∧ uplink = s.dev.hie.upl ∧ s.dev.reserveId uplink = none ∧
    s.dev.portDead (30 + uplink) = false) ∧
    (∃ (uplink addr id : Nat) (s : State), s.dev.worker = true ∧ uplink = s.dev.hie.upl ∧ s.dev.reserveId uplink
    = some id ∧ s.dev.mgrBlocked
    { id := id, kind := .depBoard, org := .manager uplink, line := lineOf addr, phase := .queued } = true) ∧
    (∃ (uplink addr id : Nat) (mask : BitVec 8) (s : State), s.dev.worker = true ∧ uplink = s.dev.hie.upl ∧
    s.dev.reserveId uplink = some id ∧ s.dev.mgrBlocked
    { id := id, kind := .depBoard, org := .manager uplink, line := lineOf addr, phase := .queued } = false ∧
    s.dev.hdrBlocked (s.dev.setOf (lineOf addr)) = none ∧ (s.dev.header? (s.dev.setOf (lineOf addr))).isSome = true ∧
    s.dev.wbf.ents.all (fun e => sectorOf e.line != sectorOf (lineOf addr)) = true ∧ s.dev.standing (lineOf addr / 8 *
    8) = .none ∧ mask ≠ 0) ∧
    (∃ (uplink idx l : Nat) (x : Txn) (s : State), s.dev.worker = true ∧ s.dev.cnf.pool = [] ∧ s.dev.depC? idx = none
    ∧ s.dev.cnf.txns = [x] ∧ x.kind = .depBoard ∧ x.aux = idx ∧ x.owed = [l] ∧ uplink = s.dev.hie.upl) :=
  ⟨⟨0, .inv, 1024, 3552, on (withHdr (run .cache .worker) 1 Header.zero), by decide +kernel⟩,
   ⟨1, .inv, 1024, 3568, on { withTx (run .cache .worker) (tx .rdShared .readLane) with hie := { upl := 1 } }, by
   decide +kernel⟩,
   ⟨2, on (run .cache .worker), by decide +kernel⟩,
   ⟨0, on
   { run .cache .worker with cnf := { txns := (List.range 16).map (fun n => { tx .rdShared .queued with id := 3552 + n }) } },
   by decide +kernel⟩,
   ⟨1, 1024, 3568, on { withTx (run .cache .worker) (tx .rdShared .readLane) with hie := { upl := 1 } }, by
   decide +kernel⟩,
   ⟨0, 1024, 3552, 0x80, on (withHdr (run .cache .worker) 1 Header.zero), by decide +kernel⟩,
   ⟨0, 3, 8, { tx .depBoard .waitAck with aux := 3, owed := [8] }, on (withTx (run .cache .worker)
   { tx .depBoard .waitAck with aux := 3, owed := [8] }), by decide +kernel⟩⟩

theorem witness_UplinkCommands :
    (∃ (uplink oport tag q : Nat) (x : Txn) (s : State), s.dev.worker = true ∧ uplink = s.dev.hie.upl ∧ s.dev.upTxn
    oport tag = some x ∧ x.kind ≠ .apdLine ∧ x.org = .agent q ∧ q < 32 ∧ s.dev.cnf.pool = []) ∧
    (∃ (uplink oport tag : Nat) (u : Kind) (x : Txn) (s : State), s.dev.worker = true ∧ uplink = s.dev.hie.upl ∧
    s.dev.upTxn oport tag = some x ∧ s.dev.txn? x.id = some x ∧ x.up = some u ∧ u ≠ .append) ∧
    (∃ (uplink oport tag q : Nat) (x : Txn) (s : State), s.dev.worker = true ∧ uplink = s.dev.hie.upl ∧ s.dev.upTxn
    oport tag = some x ∧ s.dev.txn? x.id = some x ∧ x.kind = .rdOnce ∧ x.org = .agent q ∧ q < 32 ∧ x.way = none ∧
    x.grant = .I ∧ s.dev.cnf.pool = []) ∧
    (∃ (uplink : Nat) (s : State), s.dev.worker = true ∧ uplink ≠ s.dev.hie.upl) ∧
    (∃ (uplink oport tag : Nat) (s : State), s.dev.worker = true ∧ uplink = s.dev.hie.upl ∧ s.dev.upTxn oport tag
    = none ∧ s.dev.upEnt oport tag = none ∧ s.dev.hie.fwd = [] ∧ s.dev.portDead (30 + uplink) = false) ∧
    (∃ (uplink oport tag : Nat) (m : Msg) (s : State), s.dev.worker = true ∧ uplink = s.dev.hie.upl ∧ oport < 32 ∧
    s.dev.upTxn oport tag = none ∧ s.dev.upEnt oport tag = none ∧ s.dev.hie.fwd = [(oport, tag, m)]) ∧
    (∃ (s : State), s.dev.runs = true ∧ s.dev.gcr.role = .worker) ∧
    (∃ (s : State), s.dev.runs = true ∧ s.dev.sdr.clearing = true ∧ s.dev.sdrLines ≤ s.dev.sdr.prog ∧ s.dev.sdr.flight
    = [] ∧ s.dev.twn.mirror = false) ∧
    (∃ (port : Nat) (s : State), s.dev.manager = true ∧ port < 32) ∧
    (∃ (uplink : Nat) (s : State), s.dev.worker = true ∧ uplink < 2 ∧ s.dev.flag R.HIE_CFG.MGR_PAIR = true ∧
    (s.dev.port (31 - uplink)).txq = [] ∧ s.dev.twn.held = []) :=
  ⟨⟨0, 0, 5, 0, { tx .rdOwn .uplink with tag := 5, up := some .rdOwn }, on (withTx (run .cache .worker)
   { tx .rdOwn .uplink with tag := 5, up := some .rdOwn }), by decide +kernel⟩,
   ⟨0, 0, 5, .rdOwn, { tx .rdOwn .uplink with tag := 5, up := some .rdOwn }, on (withTx (run .cache .worker)
   { tx .rdOwn .uplink with tag := 5, up := some .rdOwn }), by decide +kernel⟩,
   ⟨0, 0, 5, 0, { tx .rdOnce .uplink with tag := 5, up := some .rdOnce }, on (withTx (run .cache .worker)
   { tx .rdOnce .uplink with tag := 5, up := some .rdOnce }), by decide +kernel⟩,
   ⟨2, on (run .cache .worker), by decide +kernel⟩,
   ⟨0, 0, 0, on (run .cache .worker), by decide +kernel⟩,
   ⟨0, 31, 5, .ackA 0 false, on { run .cache .worker with hie := { fwd := [(31, 5, .ackA 0 false)] } }, by
   decide +kernel⟩,
   ⟨on (run .cache .worker), by decide +kernel⟩,
   ⟨on { run with sdr := { clearing := true, prog := run.sdrLines } }, by decide +kernel⟩,
   ⟨31, on (run .cache .manager), by decide +kernel⟩,
   ⟨1, on ((run .cache .worker).set R.HIE_CFG.MGR_PAIR 1), by decide +kernel⟩⟩

theorem witness_PairingCommands :
    (∃ (s : State), s.dev.runs = true ∧ s.dev.twinOn = true ∧ s.dev.tw.st = 3) ∧
    (∃ (f : Flit) (epoch : Nat) (s : State), s.dev.runs = true ∧ s.dev.tw.st = 3 ∧ s.dev.portClocked twPort = true ∧
    f.crcOk = true ∧ f.kind < 6 ∧ s.dev.serves = true ∧ laterEpoch epoch s.dev.twn.epoch = true) ∧
    (∃ (f : Flit) (s : State), s.dev.runs = true ∧ s.dev.tw.st = 3 ∧ s.dev.portClocked twPort = true ∧ f.crcOk = true
    ∧ f.kind < 6 ∧ s.dev.twn.mirror = true ∧ s.dev.twn.st = .copy) ∧
    (∃ (s : State), s.dev.runs = true ∧ s.dev.twinOn = true ∧ s.dev.tw.st = 3 ∧ s.dev.twn.st = .pairing ∧
    s.dev.twn.candidate = false) ∧
    (∃ (s : State), s.dev.runs = true ∧ s.dev.twn.st = .pairing ∧ s.dev.twn.candidate = false) ∧
    (∃ (s : State), s.dev.runs = true ∧ s.dev.twn.st = .pairing ∧ s.dev.twn.alone = true) ∧
    (∃ (p : Partner) (s : State), s.dev.runs = true ∧ s.dev.twn.st = .pairing ∧ s.dev.twn.alone = true ∧ p.serves
    = true) ∧
    (∃ (s : State), s.dev.reaches R.TWN_CMD.JOIN.ofs = true ∧ s.dev.twn.st = .alone ∧ s.dev.tw.st = 3 ∧
    s.dev.twn.matched ≠ some false ∧ s.dev.pip.lost = 0) ∧
    (∃ (s : State), s.dev.runs = true ∧ s.dev.twn.st = .copy ∧ s.dev.copyOver = true) :=
  ⟨⟨on (twin .mirrored), by decide +kernel⟩,
   ⟨fl, 1, on (twin .mirrored), by decide +kernel⟩,
   ⟨fl, on (twin .copy true), by decide +kernel⟩,
   ⟨on (twin .pairing), by decide +kernel⟩,
   ⟨on (twin .pairing), by decide +kernel⟩,
   ⟨on { twin .pairing with twn := { st := .pairing, alone := true } }, by decide +kernel⟩,
   ⟨⟨6, true, 2⟩, on { twin .pairing with twn := { st := .pairing, alone := true } }, by decide +kernel⟩,
   ⟨on (twin .alone), by decide +kernel⟩,
   ⟨on { twin .copy with twn := { st := .copy, phase := 5 } }, by decide +kernel⟩⟩

theorem witness_MirrorStream :
    (∃ (items : List Item) (s : State), s.dev.runs = true ∧ s.dev.twinOn = true ∧ s.dev.tw.st = 3 ∧ s.dev.isMirror
    = true ∧ s.dev.twn.st = .mirrored ∧ isCopy items = false ∧ flitCost items ≤ s.dev.tw.pReq) ∧
    (∃ (n : Nat) (e : DirEnt) (l : List (Nat × List Item)) (s : State), s.dev.runs = true ∧ s.dev.twn.mirror = true ∧
    s.dev.twn.items = [] ∧ s.dev.twn.queue = (n, [.dir e]) :: l) ∧
    (∃ (n : Nat) (x : Txn) (l : List (Nat × List Item)) (s : State), s.dev.runs = true ∧ s.dev.twn.mirror = true ∧
    s.dev.twn.items = [] ∧ s.dev.twn.queue = (n, [.txn x]) :: l) ∧
    (∃ (mseq : Nat) (s : State), s.dev.runs = true ∧ s.dev.mirrors = true ∧ s.dev.twn.items = [] ∧ s.dev.twn.unacked
    = [mseq] ∧ s.dev.twn.copyUn = [] ∧ s.dev.twn.st = .mirrored ∧ s.dev.dep.table = [] ∧ s.dev.twn.dirtyWait = []) ∧
    (∃ (txid port : Nat) (x : Txn) (s : State), s.dev.runs = true ∧ s.dev.mirrors = true ∧ s.dev.twn.dirtyWait = [] ∧
    s.dev.awaiting port txid = some x) ∧
    (∃ (txid port : Nat) (dty : Bool) (x : Txn) (s : State), s.dev.runs = true ∧ s.dev.mirrors = true ∧ s.dev.awaiting
    port txid = some x ∧ s.dev.twn.reported = [] ∧ dty = true) :=
  ⟨⟨[.clean 8], on (twin .mirrored true), by decide +kernel⟩,
   ⟨1, ⟨8, 0, .DX, [some 4, none, none, none], false, none⟩, [], on
   { run with twn := { mirror := true, queue := [(1, [.dir ⟨8, 0, .DX, [some 4, none, none, none], false, none⟩])] } },
   by decide +kernel⟩,
   ⟨1, tx .rdOwn .queued, [], on { run with twn := { mirror := true, queue := [(1, [.txn (tx .rdOwn .queued)])] } },
   by decide +kernel⟩,
   ⟨1, on { run with twn := { st := .mirrored, unacked := [1] } }, by decide +kernel⟩,
   ⟨1, 4, { tx .rdOwn .snooping with await := [(4, .own)] }, on
   { withTx run { tx .rdOwn .snooping with await := [(4, .own)] } with twn := { st := .mirrored } }, by
   decide +kernel⟩,
   ⟨1, 4, true, { tx .rdOwn .snooping with await := [(4, .own)] }, on
   { withTx run { tx .rdOwn .snooping with await := [(4, .own)] } with twn := { st := .mirrored } }, by
   decide +kernel⟩⟩

theorem witness_LossCommands :
    (∃ (s : State), s.dev.runs = true ∧ s.dev.twn.st = .mirrored) ∧
    (∃ (p : Partner) (s : State), s.dev.runs = true ∧ s.dev.twn.st = .lossWait ∧ p.serves = true) ∧
    (∃ (s : State), s.dev.runs = true ∧ s.dev.twn.st = .lossWait ∧ s.dev.twn.fromCopy = false ∧ s.dev.flag
    R.TWN_CFG.SILENT_TAKE = false) ∧
    (∃ (p : Partner) (s : State), s.dev.runs = true ∧ s.dev.twn.st = .lossWait ∧ s.dev.twn.fromCopy = false ∧ p.serves
    = false) ∧
    (∃ (s : State), s.dev.runs = true ∧ s.dev.twn.st = .fenced) ∧
    (∃ (s : State), s.dev.runs = true ∧ s.dev.twn.st = .fenced) ∧
    (∃ (s : State), s.dev.runs = true ∧ s.dev.twn.st = .takeover) ∧
    (∃ (s : State), s.dev.reaches R.TWN_CMD.DETACH.ofs = true ∧ s.dev.twn.st = .mirrored) ∧
    (∃ (s : State), s.dev.reaches R.TWN_CMD.FORCE_TAKE.ofs = true ∧ s.dev.twn.st = .pairing ∧ s.dev.gcr.side = true) ∧
    (∃ (s : State), s.dev.reaches R.TWN_CMD.RESUME.ofs = true ∧ s.dev.twn.st = .fenced) ∧
    (∃ (s : State), s.dev.runs = true ∧ s.dev.serves = true) :=
  ⟨⟨on (twin .mirrored), by decide +kernel⟩,
   ⟨⟨7, true, 2⟩, on (twin .lossWait), by decide +kernel⟩,
   ⟨on ((twin .lossWait).set R.TWN_CFG.SILENT_TAKE 0), by decide +kernel⟩,
   ⟨⟨0, false, 0⟩, on (twin .lossWait), by decide +kernel⟩,
   ⟨on (twin .fenced), by decide +kernel⟩,
   ⟨on (twin .fenced), by decide +kernel⟩,
   ⟨on (twin .takeover), by decide +kernel⟩,
   ⟨on (twin .mirrored), by decide +kernel⟩,
   ⟨on { twin .pairing with gcr := { mode := .cache, side := true } }, by decide +kernel⟩,
   ⟨on (twin .fenced), by decide +kernel⟩,
   ⟨on (twin .mirrored), by decide +kernel⟩⟩

theorem witness_DepartCommands :
    (∃ (h : Head) (count man dtag odev k : Nat) (bt : BitVec 64) (imm : Bool) (s : State), s.dev.plain = true ∧
    s.dev.pip.stopped = false ∧ h.port < 32 ∧ s.dev.portServes h.port = true ∧ h.addr < 2 ^ 48 ∧ s.dev.inWindow
    (.agent h.port) = false ∧ s.dev.depIndex = some k ∧ s.dev.bellPast bt = false ∧ s.dev.depCheck (s.dev.depAsked ⟨h,
    count, bt, man, dtag, odev, s.dev.bel.now⟩) s.dev.bel.now = some imm ∧ s.dev.boardDue
    { s.dev.depAsked ⟨h, count, bt, man, dtag, odev, s.dev.bel.now⟩ with imm := imm } = false) ∧
    (∃ (h : Head) (count man dtag odev : Nat) (bt : BitVec 64) (s : State), s.dev.plain = true ∧ s.dev.pip.stopped
    = false ∧ h.port < 32 ∧ s.dev.portServes h.port = true ∧ s.dev.inWindow (.agent h.port) = false ∧ s.dev.depCheck
    (s.dev.depAsked ⟨h, count, bt, man, dtag, odev, s.dev.bel.now⟩) s.dev.bel.now = none) ∧
    (∃ (h : Head) (s : State), s.dev.worker = true ∧ s.dev.pip.stopped = false ∧ h.port < 30 ∧ s.dev.portServes h.port
    = true ∧ s.dev.flag depEN = true ∧ s.dev.gcr.mode ≠ .drain) ∧
    (∃ (h : Head) (s : State), s.dev.worker = true ∧ s.dev.pip.stopped = false ∧ h.port < 30 ∧ s.dev.portServes h.port
    = true ∧ (s.dev.flag depEN = false ∨ s.dev.gcr.mode = .drain)) ∧
    (∃ (s : State), s.dev.runs = true ∧ s.dev.twn.mirror = false ∧ s.dev.pip.stopped = true) ∧
    (∃ (uplink k : Nat) (a : Dep) (s : State), s.dev.worker = true ∧ uplink = s.dev.hie.upl ∧ s.dev.depC? a.idx = none
    ∧ s.dev.manifest a.man ≠ [] ∧ s.dev.depIndex = some k ∧ s.dev.depReady = true ∧ s.dev.dep.table.length < 1024 ∧
    s.dev.depRoom (s.dev.manifest a.man) a.count = true) ∧
    (∃ (uplink : Nat) (a : Dep) (s : State), s.dev.worker = true ∧ uplink = s.dev.hie.upl ∧ s.dev.depC? a.idx = none ∧
    s.dev.manifest a.man ≠ [] ∧ s.dev.depReady = false) ∧
    (∃ (uplink : Nat) (a : Dep) (s : State), s.dev.worker = true ∧ uplink = s.dev.hie.upl ∧ s.dev.depC? a.idx = none ∧
    s.dev.manifest a.man = []) ∧
    (∃ (port idx w o : Nat) (e : Dep) (s : State), s.dev.manager = true ∧ s.dev.dep.stale = [] ∧ s.dev.dep? idx = some
    e ∧ e.phase = .announcing ∧ e.toAnswer = [port / 2] ∧ e.accepted = [] ∧ e.org = .worker w o ∧ w < 32) ∧
    (∃ (port idx w o : Nat) (e : Dep) (s : State), s.dev.manager = true ∧ s.dev.dep.stale = [] ∧ s.dev.dep? idx = some
    e ∧ e.phase = .announcing ∧ e.toAnswer = [port / 2] ∧ e.accepted = [] ∧ e.org = .worker w o ∧ w < 32) ∧
    (∃ (uplink idx : Nat) (e : Dep) (s : State), s.dev.worker = true ∧ uplink = s.dev.hie.upl ∧ s.dev.depC? idx = some
    e) ∧
    (∃ (uplink idx : Nat) (e : Dep) (s : State), s.dev.worker = true ∧ uplink = s.dev.hie.upl ∧ s.dev.depC? idx = some
    e ∧ e.cancellable = true ∧ s.dev.dep.table.all (fun x => x.idx == e.idx || x.phase != .releasing) = true ∧
    s.dev.que.q.length = 5 ∧ (s.dev.queue 1).recs.length < 1024) :=
  ⟨⟨hd, 1, 0, 0, 0, 0, 10000000, false, on ((aligned run).set R.DEP_CFG.BOARD_AHEAD 1), by decide +kernel⟩,
   ⟨hd, 0, 0, 0, 0, 0, on run, by decide +kernel⟩,
   ⟨hd, on (run .cache .worker), by decide +kernel⟩,
   ⟨hd, on ((run .cache .worker).set depEN 0), by decide +kernel⟩,
   ⟨on { run with pip := { stopped := true } }, by decide +kernel⟩,
   ⟨0, 0, dp, on (aligned (run .cache .worker)), by decide +kernel⟩,
   ⟨0, dp, on (listed (run .cache .worker)), by decide +kernel⟩,
   ⟨0, dp, on (run .cache .worker), by decide +kernel⟩,
   ⟨31, 3, 31, 0, { dp with org := .worker 31 0, phase := .announcing, toAnswer := [15], imm := true }, on (withDep
   (run .cache .manager) { dp with org := .worker 31 0, phase := .announcing, toAnswer := [15], imm := true }), by
   decide +kernel⟩,
   ⟨31, 3, 31, 0, { dp with org := .worker 31 0, phase := .announcing, toAnswer := [15] }, on (withDep (run .cache
   .manager) { dp with org := .worker 31 0, phase := .announcing, toAnswer := [15] }), by decide +kernel⟩,
   ⟨0, 3, dp, on (withDep (run .cache .worker) dp), by decide +kernel⟩,
   ⟨0, 3, dp, on (withDep (run .cache .worker) dp), by decide +kernel⟩⟩

theorem witness_BoardingCommands :
    (∃ (idx id : Nat) (e : Dep) (s : State), s.dev.runs = true ∧ s.dev.gcr.role ≠ .manager ∧ s.dev.twn.mirror = false
    ∧ s.dev.dep? idx = some e ∧ e.phase = .waiting ∧ s.dev.boardDue e = true ∧ e.count = 1 ∧ s.dev.cnf.pool = [] ∧
    s.dev.slotsLeft ≠ 0 ∧ s.dev.generalId = some id ∧ s.dev.keyActive (s.dev.key e.line) e.line = true ∧
    (s.dev.queueOf (s.dev.key e.line)).length < 8 ∧ s.dev.standbyOf (s.dev.key e.line) = []) ∧
    (∃ (port idx line : Nat) (x : Txn) (s : State), s.dev.runs = true ∧ s.dev.boardTxn port idx line = some x ∧
    s.dev.txn? x.id = some x ∧ x.victim.isSome = true) ∧
    (∃ (port idx line : Nat) (x : Txn) (s : State), s.dev.runs = true ∧ s.dev.boardTxn port idx line = some x ∧
    s.dev.txn? x.id = some x ∧ x.victim = none) ∧
    (∃ (port idx : Nat) (b : Boarded) (x : Txn) (e : Dep) (s : State), s.dev.manager = true ∧ s.dev.dep? idx = some e
    ∧ e.has b.idx = false ∧ b.idx < e.count ∧ e.accepted = [] ∧ s.dev.cnf.txns.find? (fun y => y.kind == .board &&
    y.depIdx == idx && y.tag == port + 1 && y.owed.contains (y.line - y.ch + b.idx)) = some x ∧ x.aux = idx ∧ x.line -
    x.ch = e.line) ∧
    (∃ (uplink idx : Nat) (b : Boarded) (e : Dep) (s : State), s.dev.worker = true ∧ uplink = s.dev.hie.upl ∧
    s.dev.depC? idx = some e ∧ s.dev.dep? e.idx = some e ∧ e.has b.idx = false ∧ b.idx < e.count) ∧
    (∃ (port idx lidx : Nat) (e : Dep) (s : State), s.dev.manager = true ∧ s.dev.dep? idx = some e ∧ e.acks = [(port /
    2, lidx)] ∧ e.boarded.length = e.count ∧ e.imm = false ∧ s.dev.bellPast e.t = false ∧ s.dev.que.q.length = 5 ∧
    (s.dev.queue 1).recs.length < 1024) ∧
    (∃ (port idx lidx : Nat) (e : Dep) (s : State), s.dev.manager = true ∧ s.dev.dep? idx = some e ∧ e.acks = [(port /
    2, lidx)] ∧ e.boarded.length < e.count) :=
  ⟨⟨3, 0, { dp with phase := .waiting }, on (withTx (withDep run { dp with phase := .waiting }) (tx .rdShared
   .grantAck)), by decide +kernel⟩,
   ⟨0, 3, 8, { tx .board .snooping with aux := 3, tag := 1, owed := [8], victim := some 9 }, on (withTx run
   { tx .board .snooping with aux := 3, tag := 1, owed := [8], victim := some 9 }), by decide +kernel⟩,
   ⟨0, 3, 8, { tx .board .snooping with aux := 3, tag := 1, owed := [8] }, on (withTx run
   { tx .board .snooping with aux := 3, tag := 1, owed := [8] }), by decide +kernel⟩,
   ⟨0, 3, ⟨0, .ok, pay⟩, { tx .board .snooping with aux := 3, tag := 1, owed := [8] }, { dp with boarded := [] }, on
   (withTx (withDep (run .cache .manager) { dp with boarded := [] })
   { tx .board .snooping with aux := 3, tag := 1, owed := [8] }), by decide +kernel⟩,
   ⟨0, 3, ⟨0, .ok, pay⟩, { dp with boarded := [] }, on (withDep (run .cache .worker) { dp with boarded := [] }), by
   decide +kernel⟩,
   ⟨31, 3, 0, { dp with acks := [(15, 0)], t := 5 }, on (withDep (run .cache .manager)
   { dp with acks := [(15, 0)], t := 5 }), by decide +kernel⟩,
   ⟨31, 3, 0, { dp with acks := [(15, 0)], boarded := [] }, on (withDep (run .cache .manager)
   { dp with acks := [(15, 0)], boarded := [] }), by decide +kernel⟩⟩

theorem witness_ReleaseCommands :
    (∃ (idx : Nat) (e : Dep) (s : State), s.dev.runs = true ∧ s.dev.gcr.role ≠ .manager ∧ s.dev.twn.mirror = false ∧
    s.dev.dep? idx = some e ∧ e.imm = false ∧ e.late = false ∧ e.started = []) ∧
    (∃ (idx n : Nat) (e : Dep) (s : State), s.dev.runs = true ∧ s.dev.gcr.role ≠ .manager ∧ s.dev.twn.mirror = false ∧
    s.dev.dep? idx = some e ∧ e.imm = false ∧ e.late = false ∧ e.phase = .staged ∧ s.dev.bellPast e.t = true ∧
    e.fullyStaged = true ∧ e.ports = [n] ∧ n < 32 ∧ s.dev.ports.length = 32 ∧ e.started = [] ∧ e.ended = [] ∧
    e.droppedPorts = [] ∧ s.dev.mustDrop n = false ∧ s.dev.blockedOn e n = false) ∧
    (∃ (idx : Nat) (e : Dep) (s : State), s.dev.runs = true ∧ s.dev.gcr.role ≠ .manager ∧ s.dev.twn.mirror = false ∧
    s.dev.dep? idx = some e ∧ e.imm = false ∧ e.late = false ∧ e.phase ≠ .releasing ∧ s.dev.bellPast e.t = true ∧
    e.fullyStaged = false) ∧
    (∃ (idx n : Nat) (e : Dep) (s : State), s.dev.runs = true ∧ s.dev.twn.mirror = false ∧ s.dev.dep? idx = some e ∧
    e.late = true ∧ e.phase = .staged ∧ e.fullyStaged = true ∧ s.dev.freshOver e = true ∧ e.ports = [n] ∧ n < 32 ∧
    s.dev.ports.length = 32 ∧ e.started = [] ∧ e.ended = [] ∧ e.droppedPorts = [] ∧ s.dev.mustDrop n = false ∧
    s.dev.blockedOn e n = false) ∧
    (∃ (idx n : Nat) (e : Dep) (s : State), s.dev.runs = true ∧ s.dev.gcr.role ≠ .manager ∧ s.dev.twn.mirror = false ∧
    s.dev.dep? idx = some e ∧ e.imm = true ∧ n ∈ e.ports ∧ e.startedOn n = false ∧ e.overOn n = false ∧ e.stagedLine 0
    = true ∧ n < 32 ∧ s.dev.ports.length = 32 ∧ s.dev.mustDrop n = false ∧ s.dev.blockedOn e n = false) ∧
    (∃ (idx n : Nat) (bt : BitVec 64) (e : Dep) (s : State), s.dev.runs = true ∧ s.dev.dep? idx = some e ∧
    e.fullyStaged = true ∧ e.ports = [n] ∧ e.started = [(n, bt)] ∧ e.ended = [] ∧ e.droppedPorts = [] ∧ (s.dev.port
    n).st = 3 ∧ (s.dev.port n).unacked + ((s.dev.port n).cut.length + (depLater e).length + 59) / 15 ≤ 128 ∧
    s.dev.isMirror = false ∧ s.dev.que.q.length = 5 ∧ (s.dev.queue 1).recs.length < 1024) ∧
    (∃ (e : Dep) (s : State), s.dev.reaches R.DEP_CANCEL_CTRL.GO.ofs = true ∧ s.dev.dep? (s.dev.get
    R.DEP_CANCEL_IDX.IDX) = some e ∧ e.cancellable = true) ∧
    (∃ (s : State), s.dev.reaches R.DEP_CANCEL_CTRL.GO.ofs = true ∧ (s.dev.dep? (s.dev.get R.DEP_CANCEL_IDX.IDX)).all
    (fun e => !e.cancellable) = true) ∧
    (∃ (s : State), s.dev.reaches depEN.ofs = true ∧ s.dev.flag depEN = true) :=
  ⟨⟨3, dp, on (withDep run dp), by decide +kernel⟩,
   ⟨3, 0, dp, on (withDep (run.setPort 0 up) dp), by decide +kernel⟩,
   ⟨3, { dp with boarded := [] }, on (withDep run { dp with boarded := [] }), by decide +kernel⟩,
   ⟨3, 0, { dp with late := true, quiet := [0] }, on
   { withDep (run.setPort 0 up) { dp with late := true, quiet := [0] } with bel := { now := 2 ^ 20 } }, by
   decide +kernel⟩,
   ⟨3, 0, { dp with imm := true }, on (withDep (run.setPort 0 up) { dp with imm := true }), by decide +kernel⟩,
   ⟨3, 0, 0, { dp with started := [(0, 0)] }, on (withDep (run.setPort 0 up) { dp with started := [(0, 0)] }), by
   decide +kernel⟩,
   ⟨dp, on ((withDep run dp).set R.DEP_CANCEL_IDX.IDX 3), by decide +kernel⟩,
   ⟨on run, by decide +kernel⟩,
   ⟨on (run.set depEN 1), by decide +kernel⟩⟩

theorem witness_AppendCommands :
    (∃ (h : Head) (n len id : Nat) (p : Payload) (s : State), s.dev.plain = true ∧ h.port < 32 ∧ n < 64 ∧
    s.dev.pip.stopped = false ∧ s.dev.slotFor h.port = true ∧ s.dev.cnf.waiting.any (fun x => x.head.port == h.port)
    = false ∧ s.dev.refusal ⟨h, .append n len p, none⟩ = none ∧ s.first ⟨h, .append n len p, none⟩ = true ∧
    s.dev.resentRequest (s.dev.txnOf ⟨h, .append n len p, none⟩) = none ∧ s.dev.generalId = some id ∧ (s.dev.stream
    n).en = true ∧ (s.dev.stream n).fault = false ∧ headerOk len p = true ∧ s.dev.apdNoRoom n (recLen len) = false ∧
    s.dev.apdInFlight < 256 ∧ s.dev.apdBacklog = false ∧ s.dev.get R.APD_ENG_CFG.FLUSH_TO ≠ 0) ∧
    (∃ (h : Head) (n len id : Nat) (p : Payload) (s : State), s.dev.plain = true ∧ h.port < 32 ∧ n < 64 ∧
    s.dev.pip.stopped = false ∧ s.dev.slotFor h.port = true ∧ s.dev.cnf.waiting.any (fun x => x.head.port == h.port)
    = false ∧ s.dev.refusal ⟨h, .append n len p, none⟩ = none ∧ s.first ⟨h, .append n len p, none⟩ = true ∧
    s.dev.resentRequest (s.dev.txnOf ⟨h, .append n len p, none⟩) = none ∧ s.dev.generalId = some id ∧ ((s.dev.stream
    n).en = false ∨ (s.dev.stream n).fault = true ∨ headerOk len p = false)) ∧
    (∃ (h : Head) (n len id : Nat) (p : Payload) (s : State), s.dev.plain = true ∧ h.port < 32 ∧ n < 64 ∧
    s.dev.pip.stopped = false ∧ s.dev.slotFor h.port = true ∧ s.dev.cnf.waiting.any (fun x => x.head.port == h.port)
    = false ∧ s.dev.refusal ⟨h, .append n len p, none⟩ = none ∧ s.first ⟨h, .append n len p, none⟩ = true ∧
    s.dev.resentRequest (s.dev.txnOf ⟨h, .append n len p, none⟩) = none ∧ s.dev.generalId = some id ∧ (s.dev.stream
    n).en = true ∧ (s.dev.stream n).fault = false ∧ headerOk len p = true ∧ s.dev.apdNoRoom n (recLen len) = true) ∧
    (∃ (n : Nat) (s : State), s.dev.reaches (0x1C100 + 8 * n) = true ∧ n < 64 ∧ (s.dev.stream n).en = false) ∧
    (∃ (n : Nat) (s : State), s.dev.reaches (0x1C100 + 8 * n) = true ∧ n < 64 ∧ (s.dev.stream n).en = true ∧
    (s.dev.stream n).tail % 128 = 0) ∧
    (∃ (n : Nat) (s : State), s.dev.reaches (0x1C100 + 8 * n) = true ∧ n < 64 ∧ s.dev.twn.mirror = false ∧
    (s.dev.stream n).en = true ∧ s.appendComes n = false) ∧
    (∃ (n : Nat) (s : State), s.dev.reaches (0x1C100 + 8 * n) = true ∧ n < 64 ∧ s.appendComes n = true) ∧
    (∃ (n : Nat) (s : State), s.dev.runs = true ∧ n < 64 ∧ s.dev.twn.mirror = false ∧ (s.dev.stream n).en = true ∧
    s.appendComes n = false) ∧
    (∃ (n off : Nat) (x : Txn) (s : State), s.dev.runs = true ∧ s.dev.apdTxn n off = some x ∧ x.phase = .done ∧
    s.dev.txn? x.id = some x ∧ s.dev.cnf.txns.all (fun y => y.kind != .append) = true ∧ s.dev.cnf.waiting = [] ∧
    s.dev.cnf.pool = [] ∧ s.dev.apdBacklog = false) ∧
    (∃ (n off : Nat) (x : Txn) (s : State), s.dev.runs = true ∧ s.dev.apdTxn n off = some x ∧ x.phase = .done ∧
    s.dev.txn? x.id = some x ∧ s.dev.cnf.txns.all (fun y => y.kind != .append) = true ∧ s.dev.cnf.waiting = [] ∧
    s.dev.cnf.pool = [] ∧ s.dev.apdBacklog = false) ∧
    (∃ (n : Nat) (s : State), s.dev.reaches (apdReg n 0x24) = true ∧ n < 64) ∧
    (∃ (n : Nat) (r : ApdReg) (s : State), s.dev.reaches (apdReg n (descReg r)) = true ∧ n < 64 ∧ ((s.dev.stream n).en
    = true ∨ (s.dev.stream n).draining = true)) ∧
    (∃ (n : Nat) (s : State), s.dev.reaches (apdReg n (descReg .base)) = true ∧ n < 64 ∧ (s.dev.stream n).en = false ∧
    (s.dev.stream n).draining = false) ∧
    (∃ (n : Nat) (s : State), s.dev.reaches (apdReg n (descReg .tail)) = true ∧ n < 64 ∧ (s.dev.stream n).en = false ∧
    (s.dev.stream n).draining = false) :=
  ⟨⟨hd, 63, 0, 0, ⟨0, false⟩, on ((withStream run { Stream.idle with en := true }).setRaw (apdReg 63 8) 16), by
   decide +kernel⟩,
   ⟨hd, 63, 0, 0, pay, on run, by decide +kernel⟩,
   ⟨hd, 63, 0, 0, ⟨0, false⟩, on ((withStream run { Stream.idle with en := true, tail := 65536 }).setRaw (apdReg 63 8)
   0x50), by decide +kernel⟩,
   ⟨63, on run, by decide +kernel⟩,
   ⟨63, on (withStream run { Stream.idle with en := true }), by decide +kernel⟩,
   ⟨63, on (withStream run { Stream.idle with en := true }), by decide +kernel⟩,
   ⟨63, { dev := withStream run { Stream.idle with en := true }, pending := [.append hd 63 0 pay] }, by
   decide +kernel⟩,
   ⟨63, on (withStream run { Stream.idle with en := true }), by decide +kernel⟩,
   ⟨63, 0, { tx .apdLine .done with org := .stream 63 }, on (withTx run { tx .apdLine .done with org := .stream 63 }),
   by decide +kernel⟩,
   ⟨63, 0, { tx .apdLine .done with org := .stream 63 }, on (withTx run { tx .apdLine .done with org := .stream 63 }),
   by decide +kernel⟩,
   ⟨63, on run, by decide +kernel⟩,
   ⟨63, .cfg, on (withStream run { Stream.idle with draining := true }), by decide +kernel⟩,
   ⟨63, on run, by decide +kernel⟩,
   ⟨63, on run, by decide +kernel⟩⟩

theorem witness_StreamSetupWhileActive :
    (∃ (n : Nat) (r : ApdReg) (s : State), s.dev.reaches (apdReg n (descReg r)) = true ∧ n < 64 ∧ ((s.dev.stream n).en
    = true ∨ (s.dev.stream n).draining = true)) ∧
    (∃ (ofs : Nat) (q : Nat × Nat) (v : BitVec 64) (s : State), s.dev.awake = true ∧ s.dev.writeCause ofs
    (BitVec.ofNat 32 v.toNat) = none ∧ apdOf ofs = some q ∧ (q.2 = 0 ∨ q.2 = 8 ∨ q.2 = 16) ∧ ((s.dev.stream q.1).en
    = true ∨ (s.dev.stream q.1).draining = true)) :=
  ⟨⟨63, .tail, on (withStream run { Stream.idle with en := true }), by decide +kernel⟩,
   ⟨apdReg 63 16, (63, 16), 0, on (withStream run { Stream.idle with en := true }), by decide +kernel⟩⟩

theorem witness_LaneCommands :
    (∃ (n : Nat) (s : State), s.dev.runs = true ∧ n < 18 ∧ s.dev.dsc.lanes.length = 18 ∧ s.dev.populated n = true ∧
    s.dev.laneFree n = true ∧ s.dev.gcr.mode = .train ∧ (s.dev.lane n).st ≤ 1) ∧
    (∃ (g : Nat) (s : State), s.dev.runs = true ∧ g < 4 ∧ s.dev.dsc.lanes.length = 18 ∧ s.dev.pwr.railEn.getLsbD g
    = true ∧ s.dev.pwr.railGood.getLsbD g = false) ∧
    (∃ (n : Nat) (s : State), s.dev.runs = true ∧ n < 18 ∧ s.dev.dsc.lanes.length = 18 ∧ (s.dev.lane n).st = 2 ∧
    (s.dev.lane n).step = 2 ∧ s.dev.hasToken 4 n = true) ∧
    (∃ (n step : Nat) (s : State), s.dev.runs = true ∧ n < 18 ∧ s.dev.dsc.lanes.length = 18 ∧ (s.dev.lane n).st = 2 ∧
    (s.dev.lane n).step = 2 ∧ s.dev.hasToken 4 n = true ∧ 4 ≤ step ∧ step ≤ 11 ∧ (step ≠ 10 ∨ s.dev.flag
    R.DSC_TRAIN_CFG.DFE_EN = true)) ∧
    (∃ (s : State), s.dev.runs = true ∧ s.dev.gcr.mode = .train ∧ (s.dev.lane 16).st = 3 ∧ (s.dev.lane 17).st = 3 ∧
    s.dev.dsc.filling = false ∧ s.dev.dsc.fillDone = false) ∧
    (∃ (s : State), s.dev.runs = true ∧ s.dev.dsc.filling = true ∧ s.dev.ecc.armed = false) ∧
    (∃ (n : Nat) (s : State), s.dev.runs = true ∧ n < 18 ∧ s.dev.dsc.lanes.length = 18 ∧ (s.dev.lane n).st = 4 ∧
    s.dev.laneFree n = true) ∧
    (∃ (g : Nat) (s : State), s.dev.runs = true ∧ g < 4 ∧ s.dev.pwr.railEn.getLsbD g = true ∧
    s.dev.pwr.railGood.getLsbD g = false) ∧
    (∃ (g : Nat) (s : State), s.dev.runs = true ∧ s.dev.pwr.railEn.getLsbD g = false) ∧
    (∃ (g : Nat) (s : State), s.dev.runs = true ∧ g < 4 ∧ s.dev.dsc.lanes.length = 18 ∧ s.dev.pwr.railEn.getLsbD g
    = true ∧ s.dev.pwr.railGood.getLsbD g = true) :=
  ⟨⟨17, on (run .train), by decide +kernel⟩,
   ⟨3, on { run with pwr := { railEn := 8 } }, by decide +kernel⟩,
   ⟨17, on { withLane run 17 { st := 2, step := 2 } with pur := { tokens := [(4, 17)] } }, by decide +kernel⟩,
   ⟨17, 11, on { withLane run 17 { st := 2, step := 2 } with pur := { tokens := [(4, 17)] } }, by decide +kernel⟩,
   ⟨on { run .train with dsc := { lanes := List.replicate 18 { st := 3 } } }, by decide +kernel⟩,
   ⟨on { run with dsc := { filling := true } }, by decide +kernel⟩,
   ⟨17, on (withLane run 17 { st := 4 }), by decide +kernel⟩,
   ⟨3, on { run with pwr := { railEn := 8 } }, by decide +kernel⟩,
   ⟨3, on run, by decide +kernel⟩,
   ⟨3, on { run with pwr := { railEn := 8, railGood := 8 } }, by decide +kernel⟩⟩

theorem witness_RefreshCommands :
    (∃ (n rank : Nat) (s : State), s.dev.runs = true ∧ n < 18 ∧ s.dev.dsc.lanes.length = 18 ∧ (s.dev.lane n).live
    = true ∧ rank < s.dev.laneRanks n ∧ rank < 2 ∧ s.dev.rankBusy n rank = false) ∧
    (∃ (n rank : Nat) (s : State), s.dev.runs = true ∧ n < 18 ∧ s.dev.dsc.lanes.length = 18 ∧ (s.dev.lane n).live
    = true ∧ rank < s.dev.laneRanks n ∧ rank < 2 ∧ s.dev.rankBusy n rank = true) ∧
    (∃ (n rank : Nat) (s : State), s.dev.runs = true ∧ n < 18 ∧ s.dev.dsc.lanes.length = 18 ∧ (s.dev.lane n).live
    = true ∧ rank < 2 ∧ (s.dev.lane n).post rank ≠ 0 ∧ (s.dev.hasToken 0 (refreshOwner n rank) = true ∨
    s.dev.postLimit ≤ (s.dev.lane n).post rank)) ∧
    (∃ (n rank bank : Nat) (s : State), s.dev.runs = true ∧ n < 18 ∧ s.dev.dsc.lanes.length = 18 ∧ (s.dev.lane n).live
    = true ∧ rank < s.dev.laneRanks n ∧ (s.dev.lane n).rfm = true ∧ (s.dev.lane n).rfmAt ≤ actsAt (s.dev.lane n).acts
    (bankAt rank bank)) ∧
    (∃ (n rank bank : Nat) (s : State), s.dev.runs = true ∧ ((s.dev.lane n).rfm = false ∨ actsAt (s.dev.lane n).acts
    (bankAt rank bank) < (s.dev.lane n).rfmAt)) ∧
    (∃ (n rank : Nat) (s : State), s.dev.runs = true ∧ n < 18 ∧ s.dev.dsc.lanes.length = 18 ∧ (s.dev.lane n).live
    = true ∧ rank < s.dev.laneRanks n) ∧
    (∃ (s : State), s.dev.runs = true) :=
  ⟨⟨17, 0, on (withLane run 17 { st := 3, live := true }), by decide +kernel⟩,
   ⟨0, 0, on (withLane (withTx run { tx .rdOnce .readLane with way := some 0, line := 0 }) 0
   { st := 3, live := true }), by decide +kernel⟩,
   ⟨17, 0, on
   { withLane run 17 { st := 3, live := true, post0 := 1 } with pur := { tokens := [(0, refreshOwner 17 0)] } }, by
   decide +kernel⟩,
   ⟨17, 0, 31, on (withLane run 17 { st := 3, live := true, rfm := true, rfmAt := 2, acts := [(bankAt 0 31, 2)] }), by
   decide +kernel⟩,
   ⟨17, 0, 31, on (withLane run 17 { st := 3 }), by decide +kernel⟩,
   ⟨17, 0, on (withLane run 17 { st := 3, live := true }), by decide +kernel⟩,
   ⟨on run, by decide +kernel⟩⟩

theorem witness_CheckerCommands :
    (∃ (s : State), s.dev.runs = true ∧ s.dev.scrubs = false) ∧
    (∃ (l : Nat) (ls : List Nat) (p : Nat × Nat) (s : State), s.dev.runs = true ∧ s.dev.scrubs = true ∧ s.dev.scb.gap
    = false ∧ s.dev.scb.token = true ∧ s.dev.hasToken 5 0 = true ∧ s.dev.scb.left ≠ 0 ∧ s.dev.burstLines = 1 ∧
    s.dev.scb.inSet = true ∧ s.dev.scb.todo = l :: ls ∧ s.dev.scrubLane l = some p ∧ s.dev.lineBusy l = false ∧
    s.dev.laneBusy p.1 = false) ∧
    (∃ (s : State), s.dev.runs = true ∧ s.dev.scb.gap = true) ∧
    (∃ (lane : Nat) (f p : Nat × Nat) (s : State), s.dev.runs = true ∧ s.dev.scb.flight.find? (fun x => x.1 == lane)
    = some f ∧ s.dev.scrubLane f.2 = some p ∧ (s.dev.lane p.1).st ≠ 5) ∧
    (∃ (s : State), s.dev.reaches scbEN.ofs = true ∧ s.dev.scb.draining = false) ∧
    (∃ (s : State), s.dev.reaches R.ECC_FLIP_CTRL.ARM.ofs = true) ∧
    (∃ (s : State), s.dev.reaches R.ECC_TEST_SEL.SEL.ofs = true) ∧
    (∃ (port : Nat) (s : State), s.dev.reaches (R.ECC_CHAN_HALTn.CLR port).ofs = true ∧ port < 32) ∧
    (∃ (u : Upset) (s : State), s.dev.runs = true ∧ u.double = false) ∧
    (∃ (u : Upset) (s : State), s.dev.runs = true ∧ u.double = true) :=
  ⟨⟨on (run .train), by decide +kernel⟩,
   ⟨8, [], run.lineLoc 1 3 0, on
   { withHdr ((run.set scbEN 1).set R.SCB_CFG.BURST 1) 1 with scb := { token := true, left := 1, inSet := true, todo := [8] }, pur := { tokens := [(5, 0)] } },
   by decide +kernel⟩,
   ⟨on { run with scb := { gap := true } }, by decide +kernel⟩,
   ⟨(run.lineLoc 1 3 0).1, ((run.lineLoc 1 3 0).1, 8), run.lineLoc 1 3 0, on
   { withHdr run 1 with scb := { flight := [((run.lineLoc 1 3 0).1, 8)] } }, by decide +kernel⟩,
   ⟨on run, by decide +kernel⟩,
   ⟨on run, by decide +kernel⟩,
   ⟨on run, by decide +kernel⟩,
   ⟨31, on run, by decide +kernel⟩,
   ⟨⟨.hdcTag, false⟩, on run, by decide +kernel⟩,
   ⟨⟨.hdcTag, true⟩, on run, by decide +kernel⟩⟩

theorem witness_LinkCommands :
    (∃ (n : Nat) (s : State), s.dev.runs = true ∧ (s.dev.port n).st = 0 ∧ s.dev.linkUsable n = true) ∧
    (∃ (n : Nat) (s : State), s.dev.runs = true ∧ n ≤ 32 ∧ s.dev.ports.length = 32 ∧ (s.dev.port n).st = 1 ∧
    s.dev.portClocked n = true) ∧
    (∃ (n : Nat) (s : State), s.dev.runs = true ∧ n < 32 ∧ s.dev.ports.length = 32 ∧ (s.dev.port n).st = 1 ∧
    s.dev.portClocked n = true) ∧
    (∃ (n : Nat) (f : Flit) (i : InitInfo) (s : State), s.dev.runs = true ∧ n < 32 ∧ s.dev.ports.length = 32 ∧
    (s.dev.port n).st = 2 ∧ (s.dev.port n).keep = false ∧ s.dev.portClocked n = true ∧ f.crcOk = true ∧ initOf f = i ∧
    s.dev.initOk n i = true ∧ (s.dev.portKind n ≠ 1 ∨ (s.dev.wbf.ents = [] ∧ (s.dev.port n).txq = []))) ∧
    (∃ (n : Nat) (f : Flit) (s : State), s.dev.runs = true ∧ n < 32 ∧ s.dev.ports.length = 32 ∧ (s.dev.port n).st = 2
    ∧ s.dev.portClocked n = true ∧ f.crcOk = true ∧ s.dev.initOk n (initOf f) = false) ∧
    (∃ (n : Nat) (f : Flit) (s : State), s.dev.runs = true ∧ n < 32 ∧ s.dev.hears n = true ∧ f.crcOk = false) ∧
    (∃ (n : Nat) (s : State), s.dev.runs = true ∧ (s.dev.port n).st = 2 ∧ (s.dev.port n).peerBad = true) ∧
    (∃ (n : Nat) (s : State), s.dev.runs = true ∧ n < 32 ∧ s.dev.ports.length = 32 ∧ (s.dev.port n).st ≠ 0) ∧
    (∃ (n : Nat) (s : State), s.dev.runs = true ∧ n < 32 ∧ s.dev.ports.length = 32 ∧ (s.dev.port n).keep = true ∧
    (s.dev.port n).st ≤ 2 ∧ s.dev.portKind n ≠ 1 ∧ s.dev.flag (portEN n) = true) ∧
    (∃ (n : Nat) (s : State), s.dev.reaches (portEN n).ofs = true ∧ n < 32 ∧ s.dev.ports.length = 32 ∧ s.dev.flag
    (portEN n) = true ∧ (s.dev.port n).st ≠ 0) ∧
    (∃ (n : Nat) (s : State), s.dev.reaches (portEN n).ofs = true ∧ n < 32 ∧ s.dev.ports.length = 32 ∧ s.dev.flag
    (portEN n) = false ∧ (s.dev.port n).draining = false) ∧
    (∃ (n : Nat) (s : State), s.dev.runs = true ∧ n < 32 ∧ s.dev.ports.length = 32 ∧ (s.dev.port n).draining = true ∧
    (s.dev.port n).st ≠ 0) ∧
    (∃ (s : State), s.dev.runs = true ∧ s.dev.dep.table = []) ∧
    (∃ (n : Nat) (s : State), s.dev.runs = true ∧ (s.dev.stream n).draining = true ∧ streamBusy (s.dev.stream n)
    = false) ∧
    (∃ (s : State), s.dev.runs = true ∧ s.dev.scb.flight = []) :=
  ⟨⟨30, on run, by decide +kernel⟩,
   ⟨32, on { run with tw := { st := 1 } }, by decide +kernel⟩,
   ⟨31, on (run.setPort 31 { st := 1 }), by decide +kernel⟩,
   ⟨31, initFlit, initOf initFlit, on (run.setPort 31 { st := 2 }), by decide +kernel⟩,
   ⟨31, initFlit 5, on (run.setPort 31 { st := 2 }), by decide +kernel⟩,
   ⟨31, broken, on (run.setPort 31 { st := 2 }), by decide +kernel⟩,
   ⟨31, on (run.setPort 31 { st := 2, peerBad := true }), by decide +kernel⟩,
   ⟨31, on (run.setPort 31 up), by decide +kernel⟩,
   ⟨30, on (run.setPort 30 { keep := true }), by decide +kernel⟩,
   ⟨30, on (run.setPort 30 up), by decide +kernel⟩,
   ⟨31, on (run.set (portEN 31) 0), by decide +kernel⟩,
   ⟨31, on (run.setPort 31 { st := 3, draining := true }), by decide +kernel⟩,
   ⟨on run, by decide +kernel⟩,
   ⟨63, on (withStream run { Stream.idle with draining := true }), by decide +kernel⟩,
   ⟨on run, by decide +kernel⟩⟩

theorem witness_FlitCommands :
    (∃ (n : Nat) (f : Flit) (s : State), s.dev.runs = true ∧ n < 32 ∧ s.dev.ports.length = 32 ∧ (s.dev.port n).st = 3
    ∧ s.dev.portClocked n = true ∧ f.crcOk = false) ∧
    (∃ (n : Nat) (f : Flit) (s : State), s.dev.runs = true ∧ n < 32 ∧ s.dev.ports.length = 32 ∧ (s.dev.port n).st = 3
    ∧ s.dev.portClocked n = true ∧ f.crcOk = true ∧ f.seq = (s.dev.port n).rxSeq ∧ f.seq < 4096) ∧
    (∃ (n : Nat) (f : Flit) (s : State), s.dev.runs = true ∧ n < 32 ∧ s.dev.ports.length = 32 ∧ (s.dev.port n).st = 3
    ∧ s.dev.portClocked n = true ∧ f.crcOk = true ∧ f.seq % 4096 ≠ (s.dev.port n).rxSeq) ∧
    (∃ (n : Nat) (f : Flit) (s : State), s.dev.runs = true ∧ n < 32 ∧ s.dev.ports.length = 32 ∧ (s.dev.port n).st = 3
    ∧ s.dev.portClocked n = true ∧ f.crcOk = true ∧ f.kind < 6 ∧ (s.dev.port n).txq = []) ∧
    (∃ (n : Nat) (f : Flit) (s : State), s.dev.runs = true ∧ n < 32 ∧ s.dev.ports.length = 32 ∧ (s.dev.port n).st = 3
    ∧ s.dev.portClocked n = true ∧ f.crcOk = true ∧ f.kind < 6 ∧ (s.dev.port n).lastNak = some (f.ack % 4096) ∧
    (s.dev.port n).replays = 3 ∧ (s.dev.port n).txq = []) ∧
    (∃ (n : Nat) (f : Flit) (s : State), s.dev.runs = true ∧ n < 32 ∧ s.dev.ports.length = 32 ∧ (s.dev.port n).st = 3
    ∧ s.dev.portClocked n = true ∧ f.crcOk = true ∧ f.kind < 6 ∧ (s.dev.bufferFull n = false ∨ s.dev.dep.table = []) ∧
    (s.dev.port n).lastNak ≠ some (f.ack % 4096) ∧ (s.dev.port n).txq = [] ∧ s.dev.quietOn n = false ∧ (s.dev.port
    n).ackd < 4096) ∧
    (∃ (n : Nat) (s : State), s.dev.runs = true ∧ n < 32 ∧ s.dev.ports.length = 32 ∧ (s.dev.port n).st = 5) ∧
    (∃ (n : Nat) (s : State), s.dev.runs = true ∧ n < 32 ∧ s.dev.ports.length = 32 ∧ (s.dev.port n).st = 5) ∧
    (∃ (n : Nat) (s : State), s.dev.runs = true ∧ n < 32 ∧ s.dev.ports.length = 32 ∧ (s.dev.port n).st = 3 ∧
    s.dev.flag (R.APnn_CFG.LP_EN n) = true ∧ s.dev.stagedOn n = false ∧ (s.dev.port n).proposed = false ∧ (s.dev.port
    n).txq = []) ∧
    (∃ (n : Nat) (f : Flit) (s : State), s.dev.runs = true ∧ n < 32 ∧ s.dev.ports.length = 32 ∧ (s.dev.port n).st = 3
    ∧ s.dev.portClocked n = true ∧ f.crcOk = true ∧ f.kind < 6 ∧ (s.dev.port n).proposed = false) ∧
    (∃ (n : Nat) (f : Flit) (s : State), s.dev.runs = true ∧ n < 32 ∧ s.dev.ports.length = 32 ∧ (s.dev.port n).st = 3
    ∧ s.dev.portClocked n = true ∧ f.crcOk = true ∧ f.kind < 6 ∧ (s.dev.port n).proposed = true ∧ (s.dev.port
    n).crossRefused = false) ∧
    (∃ (n : Nat) (s : State), s.dev.runs = true ∧ (s.dev.port n).st = 4) :=
  ⟨⟨31, broken, on (run.setPort 31 up), by decide +kernel⟩,
   ⟨31, flit 0 4095, on (run.setPort 31 { up with rxSeq := 4095 }), by decide +kernel⟩,
   ⟨31, flit 0 4095, on (run.setPort 31 up), by decide +kernel⟩,
   ⟨31, fl, on (run.setPort 31 up), by decide +kernel⟩,
   ⟨31, fl, on (run.setPort 31 { up with lastNak := some 0, replays := 3 }), by decide +kernel⟩,
   ⟨31, fl, on (run.setPort 31 up), by decide +kernel⟩,
   ⟨31, on (run.setPort 31 { st := 5 }), by decide +kernel⟩,
   ⟨31, on (run.setPort 31 { st := 5, fails := 2 }), by decide +kernel⟩,
   ⟨31, on ((run.setPort 31 up).set (R.APnn_CFG.LP_EN 31) 1), by decide +kernel⟩,
   ⟨31, fl, on (run.setPort 31 up), by decide +kernel⟩,
   ⟨31, fl, on (run.setPort 31 { up with proposed := true }), by decide +kernel⟩,
   ⟨31, on (run.setPort 31 { st := 4 }), by decide +kernel⟩⟩

theorem witness_MemoryPortCommands :
    (∃ (n gib : Nat) (s : State), s.dev.runs = true ∧ n < 8 ∧ s.dev.mps.length = 8 ∧ s.dev.hotPlug = false ∧
    s.dev.gcr.mode = .train ∧ s.dev.mpUsable n = true ∧ (s.dev.mp n).st < 3 ∧ s.dev.mpTrains n = true ∧ gib
    = s.dev.get R.AMP_MEM_CAP.CAP) ∧
    (∃ (n : Nat) (s : State), s.dev.runs = true ∧ n < 8 ∧ s.dev.mps.length = 8 ∧ s.dev.hotPlug = false ∧
    s.dev.gcr.mode = .train ∧ s.dev.mpUsable n = true ∧ (s.dev.mp n).st < 3 ∧ s.dev.mpTrains n = true) ∧
    (∃ (n : Nat) (s : State), s.dev.runs = true ∧ n < 8 ∧ s.dev.mps.length = 8 ∧ (s.dev.mp n).st = 3) ∧
    (∃ (n : Nat) (s : State), s.dev.runs = true ∧ n < 8 ∧ s.dev.mps.length = 8 ∧ Mp.waits (s.dev.mp n) = true ∧
    s.dev.mpUsable n = true) ∧
    (∃ (n : Nat) (s : State), s.dev.runs = true ∧ n < 8 ∧ s.dev.mps.length = 8 ∧ Mp.waits (s.dev.mp n) = true ∧
    s.dev.twn.st = .single ∧ s.dev.twn.mirror = false) ∧
    (∃ (n : Nat) (s : State), s.dev.runs = true ∧ n < 8 ∧ s.dev.mps.length = 8 ∧ Mp.waits (s.dev.mp n) = true ∧
    s.dev.twn.st = .mirrored ∧ s.dev.twn.mirror = false) ∧
    (∃ (n : Nat) (s : State), s.dev.reaches (R.MPn_HP.REMOVE n).ofs = true ∧ n < 8 ∧ s.dev.mps.length = 8 ∧
    s.dev.gcr.role ≠ .worker) ∧
    (∃ (n gib : Nat) (s : State), s.dev.reaches (R.MPn_HP.ADD n).ofs = true ∧ n < 8 ∧ s.dev.mps.length = 8 ∧
    s.dev.gcr.role ≠ .worker ∧ gib = s.dev.get R.AMP_MEM_CAP.CAP ∧ s.dev.hotPlug = true ∧ s.dev.mpUsable n = true ∧
    (s.dev.mp n).st ≠ 3 ∧ (s.dev.mpAddStart n).mpTrains n = true) ∧
    (∃ (n : Nat) (s : State), s.dev.reaches (R.MPn_HP.ADD n).ofs = true ∧ n < 8 ∧ s.dev.gcr.role ≠ .worker ∧
    s.dev.hotPlug = false) ∧
    (∃ (n : Nat) (s : State), s.dev.reaches (R.MPn_HP.ADD n).ofs = true ∧ n < 8 ∧ s.dev.mps.length = 8 ∧
    s.dev.gcr.role ≠ .worker ∧ s.dev.hotPlug = true ∧ s.dev.mpUsable n = true ∧ (s.dev.mp n).st ≠ 3 ∧
    (s.dev.mpAddStart n).mpTrains n = false ∧ s.dev.dozeWaking = false) ∧
    (∃ (n : Nat) (s : State), s.dev.awake = true ∧ n < 8 ∧ s.dev.mps.length = 8 ∧ s.dev.gcr.role ≠ .worker ∧
    s.dev.unreachable (R.MPn_IO_DATA.DATA n).ofs = none ∧ (s.dev.mp n).st = 3) ∧
    (∃ (n : Nat) (s : State), s.dev.awake = true ∧ n < 8 ∧ s.dev.mps.length = 8 ∧ s.dev.gcr.role ≠ .worker ∧
    s.dev.unreachable (R.MPn_IO_DATA.DATA n).ofs = none) ∧
    (∃ (n : Nat) (s : State), s.dev.runs = true ∧ n < 8 ∧ (s.dev.mp n).st = 3) ∧
    (∃ (s : State), s.dev.awake = true ∧ s.dev.domOn 20 = true) ∧
    (∃ (s : State), s.dev.awake = true ∧ s.dev.domOn 20 = true) :=
  ⟨⟨0, 2, on { run .train with clk := { ready := 0x8001 }, pur := { tokens := [(2, mpOwner 0)] } }, by decide +kernel⟩,
   ⟨0, on { run .train with clk := { ready := 0x8001 }, pur := { tokens := [(2, mpOwner 0)] } }, by decide +kernel⟩,
   ⟨7, on (run.setMp 7 { st := 3 }), by decide +kernel⟩,
   ⟨0, on (run.setMp 0 { st := 1, cap := 2, down := true }), by decide +kernel⟩,
   ⟨7, on (run.setMp 7 { st := 1, cap := 2, down := true }), by decide +kernel⟩,
   ⟨7, on { run.setMp 7 { st := 1, cap := 2, down := true } with twn := { st := .mirrored } }, by decide +kernel⟩,
   ⟨7, on run, by decide +kernel⟩,
   ⟨7, 2, on { (run .configure).set R.AMP_MEM_CFG.PORT_EN 0x80 with clk := { ready := 0x10001 } }, by decide +kernel⟩,
   ⟨7, on run, by decide +kernel⟩,
   ⟨7, on ((run .configure).set R.AMP_MEM_CFG.PORT_EN 0x80), by decide +kernel⟩,
   ⟨7, on (run.setMp 7 { st := 3 }), by decide +kernel⟩,
   ⟨7, on run, by decide +kernel⟩,
   ⟨7, on (run.setMp 7 { st := 3 }), by decide +kernel⟩,
   ⟨on run, by decide +kernel⟩,
   ⟨on run, by decide +kernel⟩⟩

theorem witness_LockedRegistersHold :
    ∃ (c : Instr) (s t : State) (ofs b : Nat) (r : RRow), exec c s = .next t ∧ c.resets = false ∧ t.dev.coreOn = true
    ∧ s.dev.regLocked ofs = true ∧ rowAt ofs = some r ∧ (r.maskOf (fun a => a == .rwl)).testBit b = true ∧ ¬(0x21200 ≤
    ofs ∧ ofs < 0x21248) :=
  ⟨.bellTick, on (run.setRaw 0x21018 1), after .bellTick (on (run.setRaw 0x21018 1)), 0x21044, 0, (rowAt 0x21044).get
  (by decide +kernel), rfl, rfl, by decide +kernel, by decide +kernel, by decide +kernel, by decide +kernel, by
  decide +kernel⟩

theorem witness_ConfigurationHolds :
    ∃ (c : Instr) (s t : State), exec c s = .next t ∧ c.resets = false ∧ c.configures = false ∧ (s.dev.coreOn = true →
    t.dev.coreOn = true) :=
  ⟨.bellTick, on run, after .bellTick (on run), rfl, rfl, rfl, by decide +kernel⟩

theorem witness_CachesUntouched :
    ∃ (c : Instr) (s t : State), exec c s = .next t ∧ c.keepsCaches = true :=
  ⟨.bellTick, on run, after .bellTick (on run), rfl, rfl⟩

theorem witness_StoreReadsBack :
    (∃ (slot slot2 : Nat), slot < 2 ^ 32 ∧ slot2 < 2 ^ 32) ∧
    (∃ (h : Header), h.ways.length = 16) :=
  ⟨⟨2 ^ 32 - 1, 0, by decide +kernel⟩,
   ⟨Header.zero, by decide +kernel⟩⟩

theorem witness_CodewordsDecode :
    (∃ (data : List Nat) (i v : Nat), data.length = 8 ∧ (∀ x ∈ data, x < 256) ∧ i < 10 ∧ 0 < v ∧ v < 256) ∧
    (∃ (data : List Nat), data.length = 8 ∧ (∀ x ∈ data, x < 256)) ∧
    (∃ (data : List Nat) (k v : Nat), data.length = 8 ∧ (∀ x ∈ data, x < 256) ∧ k < 10 ∧ v < 256) ∧
    (∃ (data : List Nat) (k v : Nat), data.length = 8 ∧ (∀ x ∈ data, x < 256) ∧ k < 10 ∧ v < 256) :=
  ⟨⟨[1, 2, 3, 4, 5, 6, 7, 255], 9, 255, by decide +kernel⟩,
   ⟨[1, 2, 3, 4, 5, 6, 7, 255], by decide +kernel⟩,
   ⟨[1, 2, 3, 4, 5, 6, 7, 255], 9, 255, by decide +kernel⟩,
   ⟨[1, 2, 3, 4, 5, 6, 7, 255], 9, 255, by decide +kernel⟩⟩

theorem witness_QueuesKeepOrder :
    ∃ (d : Dev) (n : Nat), n < 5 ∧ d.que.q.length = 5 :=
  ⟨run, 4, by decide +kernel⟩

theorem witness_ModeFollowsState :
    (∃ (c : Instr) (s t : State), exec c s = .next t ∧ s.dev.gcr.mode.service58 = true ∧ s.dev.gcr.mode
    = s.dev.serviceMode ∧ t.dev.gcr.mode.service58 = true) ∧
    (∃ (d : Dev), d.gcr.mode.service58 = true ∧ d.r340 = true) :=
  ⟨⟨.serve .host true, on run, after (.serve .host true) (on run), rfl, by decide +kernel, by decide +kernel, by
   decide +kernel⟩,
   ⟨{ run with dsc := { lanes := [{ lost := true }] } }, by decide +kernel⟩⟩

end Sys2Proof.Tests
end

section
/-! SUPPORT. The descriptor registers of an append stream: what a word write of one does, and that it is ignored while the
stream is enabled or draining (R276). -/

namespace Sys2Proof.Machine

/-! ## The access registers of a source -/

@[simp] theorem Dev.setAcc_acc (d : Dev) (src : Src) : d.setAcc src (d.acc src) = d := by cases src <;> rfl

section
variable (d : Dev) (src : Src) (a : Acc1)
@[simp] theorem Dev.setAcc_gcr : (d.setAcc src a).gcr = d.gcr := by cases src <;> rfl
@[simp] theorem Dev.setAcc_regs : (d.setAcc src a).regs = d.regs := by cases src <;> rfl
@[simp] theorem Dev.setAcc_apd : (d.setAcc src a).apd = d.apd := by cases src <;> rfl
@[simp] theorem Dev.setAcc_sent : (d.setAcc src a).sent = d.sent := by cases src <;> rfl
end

/-- A write of _LO is a write of its pair, once the source's staging is dropped or kept (R505). -/
theorem Dev.loWrite_eq_pairWrite (d : Dev) (src : Src) (ofs : Nat) (v : Word) :
    ∃ a w, d.loWrite src ofs v = (d.setAcc src a).pairWrite ofs w := by
  unfold Dev.loWrite
  cases (d.acc src).staged with
  | none => exact ⟨d.acc src, _, by rw [Dev.setAcc_acc]⟩
  | some e =>
    by_cases hp : e.1 = ofs
    · exact ⟨{ d.acc src with staged := none }, _, by simp only [hp, if_true]; rfl⟩
    · exact ⟨d.acc src, _, by simp only [hp, if_false, Dev.setAcc_acc]; rfl⟩

/-! ## A word write that meets no bus error -/

/-- A word write that has no cause to fail has its effect and completes at its source (R495). -/
theorem Dev.writeOut_effect {d : Dev} {ofs : Nat} {w : Word} (hm : ofs < 0x400000) (ha : ofs % 4 = 0)
    (hc : d.writeCause ofs w = none) (src : Src) : d.writeOut src ofs w = (d.doWrite src ofs w).emit (.regOk src) := by
  simp [Dev.writeOut, Dev.write4, Nat.not_le.mpr hm, ha, hc]

/-- A 4-byte access to an aligned offset of the map is a word write (R507). -/
theorem registerWrite_word {ofs : Nat} (hm : ofs < 0x400000) (ha : ofs % 4 = 0) (src : Src) (v : BitVec 64) (d : Dev) :
    registerWrite src ofs 4 v d = d.writeOut src ofs (BitVec.ofNat 32 v.toNat) := by
  have hal : inAliases ofs = false := by
    have hlow : Nat.ble (2 ^ 27) ofs = false := Bool.eq_false_iff.mpr (fun h => by
      have := Nat.le_of_ble_eq_true h
      omega)
    rw [inAliases, hlow, Bool.false_and]
  have hsz : sizeCause true ofs 4 = none := by simp [sizeCause, ha, Nat.not_le.mpr hm]
  simp [registerWrite, hal, Dev.writeSized, hsz, msixSizeOk, ha]

/-! ## Offsets of the descriptor registers (Table APD-3) -/

/-- An offset among the descriptors is that of its stream and place. -/
theorem apdReg_of_apdOf {ofs n k : Nat} (h : apdOf ofs = some (n, k)) : n < 64 ∧ ofs = apdReg n k := by
  unfold apdOf at h
  split at h
  · obtain ⟨rfl, rfl⟩ := Prod.mk.inj (Option.some.inj h)
    unfold apdReg
    omega
  · cases h

/-- Which half of a pair each of BASE, CFG and TAIL is (Table APD-3). -/
theorem apd_desc_halves : ∀ n, n < 64 →
    halfAt (apdReg n 0) = .lo ∧ halfAt (apdReg n 8) = .no ∧ halfAt (apdReg n 16) = .lo := by decide +kernel

/-- A word write of BASE's or TAIL's lower half, or of CFG, is one descriptor write of the stream, of the value that the word
and the source's staging make (R276, R505). -/
theorem doWrite_descriptor {ofs n k : Nat} (ho : apdOf ofs = some (n, k)) (hk : k = 0 ∨ k = 8 ∨ k = 16) (d : Dev) (src : Src)
    (v : Word) : ∃ r a w, d.doWrite src ofs v = apdDescriptorWrite n r w (d.setAcc src a) := by
  obtain ⟨hn, hofs⟩ := apdReg_of_apdOf ho
  obtain ⟨hbase, hcfg, htail⟩ := apd_desc_halves n hn
  obtain ⟨a, w, hlo⟩ := d.loWrite_eq_pairWrite src ofs v
  rcases hk with rfl | rfl | rfl
  · rw [← hofs] at hbase
    exact ⟨.base, a, BitVec.ofNat 64 w, by simp only [Dev.doWrite, hbase, hlo, Dev.pairWrite, ho]⟩
  · rw [← hofs] at hcfg
    exact ⟨.cfg, d.acc src, v.zeroExtend 64, by simp only [Dev.doWrite, hcfg, ho, Dev.setAcc_acc]⟩
  · rw [← hofs] at htail
    exact ⟨.tail, a, BitVec.ofNat 64 w, by simp only [Dev.doWrite, htail, hlo, Dev.pairWrite, ho]⟩

/-! ## A stream that is enabled or draining -/

/-- What a refused write of a stream's setup leaves: every stream, every output and every register, but for CFG_BAD (R276). -/
structure SetupRefused (d e : Dev) : Prop where
  apd : e.apd = d.apd
  gcr : e.gcr = d.gcr
  regs : e.regs = (d.raise R.APD_EVT.CFG_BAD).regs
  sent : e.sent = d.sent

/-- A write of BASE, CFG or TAIL is refused while EN or DRAINING reads 1, whatever the source has staged (R276). -/
theorem apdDescriptorWrite_refused {d : Dev} {n : Nat} (h : (d.stream n).en = true ∨ (d.stream n).draining = true)
    (src : Src) (a : Acc1) (r : ApdReg) (v : BitVec 64) :
    SetupRefused d (apdDescriptorWrite n r v (d.setAcc src a)) := by
  have hb : (((d.setAcc src a).stream n).en || ((d.setAcc src a).stream n).draining) = true := by
    simpa [Dev.stream] using h
  simp only [apdDescriptorWrite, hb, if_true]
  constructor <;> simp [Dev.raise, Dev.set, Dev.setRaw, Dev.raw]

/-- A word write of BASE's or TAIL's lower half, or of CFG, is refused while EN or DRAINING reads 1 (R276). -/
theorem doWrite_refused {d : Dev} {ofs n k : Nat} (ho : apdOf ofs = some (n, k)) (hk : k = 0 ∨ k = 8 ∨ k = 16)
    (h : (d.stream n).en = true ∨ (d.stream n).draining = true) (src : Src) (v : Word) :
    SetupRefused d (d.doWrite src ofs v) := by
  obtain ⟨r, a, w, e⟩ := doWrite_descriptor ho hk d src v
  exact e ▸ apdDescriptorWrite_refused h src a r w

section
variable {d e : Dev} (h : SetupRefused d e)
include h

/-- Every register but the event latch of the page holds what it held. -/
theorem SetupRefused.raw {o : Nat} (ho : o ≠ R.APD_EVT.CFG_BAD.ofs) : e.raw o = d.raw o := by
  rw [← raw_raise_ne d R.APD_EVT.CFG_BAD o ho]
  simp only [Dev.raw, h.regs, h.gcr, Dev.raise_gcr]

theorem SetupRefused.flag : e.flag R.APD_EVT.CFG_BAD = true := by
  have hg : e.get R.APD_EVT.CFG_BAD = (d.raise R.APD_EVT.CFG_BAD).get R.APD_EVT.CFG_BAD :=
    get_of_regs h.regs (by rw [h.gcr, Dev.raise_gcr]) _
  rw [Dev.flag, hg]
  exact flag_raise_self d R.APD_EVT.CFG_BAD (by decide)

/-- After a refused write that completed at its source, the stream's setup is as it was and CFG_BAD is raised. -/
theorem SetupRefused.settled (src : Src) (n : Nat) :
    (settle (e.emit (.regOk src))).apd = d.apd ∧
    (settle (e.emit (.regOk src))).apdBase n = d.apdBase n ∧
    (settle (e.emit (.regOk src))).raw (apdReg n 8) = d.raw (apdReg n 8) ∧
    (settle (e.emit (.regOk src))).flag R.APD_EVT.CFG_BAD = true ∧
    (settle (e.emit (.regOk src))).drove d (.regOk src) := by
  have hraw : ∀ k, e.raw (apdReg n k) = d.raw (apdReg n k) := fun k => h.raw (by
    simp only [apdReg, R.APD_EVT.CFG_BAD]
    omega)
  refine ⟨by simp [h.apd], ?_, ?_, by simp [h.flag], drove_settle_emit _ (h.sent ▸ List.suffix_refl _)⟩
  · rw [Dev.apdBase, settle_get64, emit_get64, Dev.apdBase, Dev.get64, hraw 0, show apdReg n 0 + 4 = apdReg n 4 from rfl,
      hraw 4]
    rfl
  · rw [settle_raw]
    exact hraw 8

end

/-- Settles O47: both forms of the write end in a refused write of the stream's setup, and complete without a bus error. -/
theorem streamSetupWhileActive : Obligations.StreamSetupWhileActive := by
  unfold Obligations.StreamSetupWhileActive
  constructor
  · intro src n r v s hr _ hact
    have href := apdDescriptorWrite_refused hact src (s.dev.acc src) r v
    rw [Dev.setAcc_acc] at href
    exact ⟨_, (exec_apdDescriptorWrite src n r v s).trans (onDev_write hr src _), href.settled src n⟩
  · rintro src ofs ⟨n, k⟩ v s hw hc ho hk hact
    obtain ⟨hn, hofs⟩ := apdReg_of_apdOf ho
    have hmap : ofs < 0x400000 ∧ ofs % 4 = 0 := by
      unfold apdReg at hofs
      dsimp only at hk
      omega
    have hrun := (exec_registerWrite src ofs 4 v s).trans (onDev_awake hw _)
    rw [registerWrite_word hmap.1 hmap.2, Dev.writeOut_effect hmap.1 hmap.2 hc] at hrun
    exact ⟨_, hrun, (doWrite_refused ho hk hact src _).settled src n⟩

end Sys2Proof.Machine
end

section
/-! SUPPORT. What R340 asks of a device whose erasure slot is valid, and a write of a stream's CFG that lands on such a slot. -/

namespace Sys2Proof.Machine

/-! ## The condition of R340 -/

/-- A valid first slot of ECC_ERASEn that names a device position is a condition of R340. -/
theorem r340_of_erased {d : Dev} {n : Nat} (hn : n < 18) (hv : d.flag (R.ECC_ERASEn.EV0 n) = true)
    (hp : d.get (R.ECC_ERASEn.DEV0 n) ≤ 9) : d.r340 = true := by
  have hany : (List.range 18).any (fun n =>
      (d.flag (R.ECC_ERASEn.EV0 n) && d.get (R.ECC_ERASEn.DEV0 n) ≤ 9) ||
      (d.flag (R.ECC_ERASEn.EV1 n) && d.get (R.ECC_ERASEn.DEV1 n) ≤ 9)) = true :=
    List.any_eq_true.mpr ⟨n, List.mem_range.mpr hn, by simp [hv, hp]⟩
  rw [Dev.r340, hany, Bool.or_true]

theorem serviceMode_of_r340 {d : Dev} (h : d.r340 = true) : d.serviceMode = .degraded := by simp [Dev.serviceMode, h]

/-! ## A write of CFG (R275) -/

/-- CFG of a stream that is neither enabled nor draining takes its low byte, at the offset the stream's number gives. -/
theorem apdDescriptorWrite_cfg_idle {d : Dev} {n : Nat} (he : (d.stream n).en = false) (hd : (d.stream n).draining = false)
    (v : BitVec 64) :
    apdDescriptorWrite n .cfg v d = d.setRaw (apdReg n 8) (BitVec.ofNat 32 (v.toNat % 256)) := by
  simp [apdDescriptorWrite, he, hd]

/-- The descriptors of streams 0 to 63 end at 1DC40h (Table APD-3); the offset computed for stream 351 is that of ECC_ERASE6. -/
theorem apdReg_351_erase : apdReg 351 8 = (R.ECC_ERASEn.EV0 6).ofs ∧ apdReg 351 8 = (R.ECC_ERASEn.DEV0 6).ofs := ⟨rfl, rfl⟩

/-- A device in mode 6 with every register at its reset value and every domain on. -/
def cacheDev : Dev := { gcr := { mode := .cache } }

theorem cacheDev_serviceMode : cacheDev.serviceMode = .cache := by decide +kernel

theorem cacheDev_reaches_351 : cacheDev.reaches (apdReg 351 (descReg .cfg)) = true := by decide +kernel

/-- The device once CFG of stream 351 is written with EV0 set and DEV0 0. -/
def erasedByStream : Dev := apdDescriptorWrite 351 .cfg 0x10 cacheDev

theorem erasedByStream_eq : erasedByStream = cacheDev.setRaw (apdReg 351 8) 0x10 :=
  apdDescriptorWrite_cfg_idle rfl rfl _

/-- Device 0 of lane 6 is then marked erased. -/
theorem erasedByStream_r340 : erasedByStream.r340 = true := by
  have hraw : erasedByStream.raw (apdReg 351 8) = 0x10 := by rw [erasedByStream_eq, raw_setRaw_same]
  obtain ⟨hev, hdev⟩ := apdReg_351_erase
  refine r340_of_erased (n := 6) (by decide) ?_ ?_
  · rw [Dev.flag, Dev.get, ← hev, hraw]; decide
  · rw [Dev.get, ← hdev, hraw]; decide

/-- Refutes O60 in its first clause: no premise bounds the stream number of APD_DESCRIPTOR_WRITE. On a device in mode 6 at its
reset values, a CFG write for stream 351 (there are 64) stores into ECC_ERASE6: device 0 of lane 6 reads as erased, so R340 asks
for mode 8, but this command does not show the mode anew, and GCR_MODE stays 6. -/
theorem not_modeFollowsState : ¬ Obligations.ModeFollowsState := by
  unfold Obligations.ModeFollowsState
  rintro ⟨hstep, -⟩
  have hrun : exec (.apdDescriptorWrite .host 351 .cfg 0x10) { dev := cacheDev } =
      .next (State.setDev { dev := cacheDev } (settle (erasedByStream.emit (.regOk .host)))) :=
    (exec_apdDescriptorWrite ..).trans (onDev_write cacheDev_reaches_351 ..)
  have hmode : (settle (erasedByStream.emit (.regOk .host))).gcr.mode = .cache := by
    rw [settle_gcr, Dev.emit_gcr, erasedByStream_eq, Dev.setRaw_gcr]
    rfl
  have hr340 : (settle (erasedByStream.emit (.regOk .host))).r340 = true := by
    simpa [Dev.r340] using erasedByStream_r340
  have hkept := hstep _ _ _ hrun (fun _ => cacheDev_serviceMode.symm) (by rw [State.setDev_dev, hmode]; rfl)
  rw [State.setDev_dev, hmode, serviceMode_of_r340 hr340] at hkept
  exact absurd hkept (by decide)

end Sys2Proof.Machine
end

section
/-! SUPPORT. A rising edge of BELL_SYNC: what the counter holds after it, what the capture reads and what is raised (R411, R413). -/

namespace Sys2Proof.Machine

/-- Raising an event of another register leaves a register pair. -/
theorem get64_raise_ne (d : Dev) (f : FieldRef) (lo : Nat) (hlo : lo ≠ f.ofs) (hhi : lo + 4 ≠ f.ofs) :
    (d.raise f).get64 lo = d.get64 lo := by
  simp only [Dev.get64, raw_raise_ne d f lo hlo, raw_raise_ne d f (lo + 4) hhi]

section
variable (d : Dev)

/-- The edge loads the counter of an armed alignment and leaves that of any other (R411). -/
theorem syncSeen_bel_now : (syncSeen d).bel.now = if d.bel.armed then d.belLoad else d.bel.now := by
  cases h : d.bel.armed with
  | true => simp [syncSeen, h]
  | false => simp [syncSeen, h]

/-- The capture reads the counter as the edge leaves it, since the event raised last is in another register (R413). -/
theorem syncSeen_capture : (syncSeen d).get64 R.BEL_SYNC_CAP_LO.CAP_LO.ofs = (syncSeen d).bel.now.toNat :=
  calc (syncSeen d).get64 R.BEL_SYNC_CAP_LO.CAP_LO.ofs
      = (syncSeen d).bel.now.toNat % 2 ^ 64 := (get64_raise_ne _ _ _ (by decide) (by decide)).trans (get64_set64 ..)
    _ = (syncSeen d).bel.now.toNat := Nat.mod_eq_of_lt (BitVec.isLt _)

/-- The edge is reported, armed or not (R413). -/
theorem syncSeen_flag : (syncSeen d).flag R.BEL_EVT.SYNC_SEEN = true := flag_raise_self _ _ (by decide)

end

/-- Settles O12: the capture is of the counter after the load, and neither it nor the event depends on ARMED. -/
theorem syncEdgeCaptured : Obligations.SyncEdgeCaptured := by
  unfold Obligations.SyncEdgeCaptured
  intro s hw
  refine ⟨_, (exec_syncSeen s).trans (onDev_awake hw syncSeen), ?_, ?_, ?_⟩
  · rw [State.setDev_dev, settle_flag, syncSeen_flag]
  · rw [State.setDev_dev, settle_get64, syncSeen_capture, syncSeen_bel_now]
  · rw [State.setDev_dev, settle_bel, syncSeen_bel_now]

end Sys2Proof.Machine
end

section
/-! SUPPORT. A fall of PMB_ALERT_N while CORE is off, as in a Recovery on AON: VR_ALERT is raised, and no record is placed in the
queues, which have no power (R429, R451, R539). -/

namespace Sys2Proof.Machine

/-- While CORE is off no EVQ record is placed, whatever its source (R539). -/
theorem evqRaw_core_off {d : Dev} (h : d.coreOn = false) (src dev mode : Nat) (relayed : Bool) (inst sub a b : Nat) :
    d.evqRaw src dev mode relayed inst sub a b = d := by
  have hcore : (!d.pwr.on.getLsbD 1) = true := congrArg not h
  rw [Dev.evqRaw, hcore, Bool.true_or, if_pos rfl]

/-- While CORE is off an event that has a record is raised without it. -/
theorem report_core_off {d : Dev} (h : d.coreOn = false) (f : FieldRef) (inst sub a b : Nat) :
    d.report f inst sub a b = d.raise f := evqRaw_core_off (d := d.raise f) h ..

@[simp] theorem Dev.pmbus_que (d : Dev) (cmd : String) (v : Nat) : (d.pmbus cmd v).que = d.que := rfl

/-- While CORE is off an alert leaves every queue as it is, whether or not STATUS_WORD could be read. -/
theorem vrAlert_que_core_off {d : Dev} (h : d.coreOn = false) (status : Option Nat) : (vrAlert status d).que = d.que := by
  cases status with
  | none =>
    simp only [vrAlert, report_core_off (d := (d.pmbus _ 0).raise _) h, Dev.raise_que, Dev.pmbus_que]
  | some w =>
    simp only [vrAlert, report_core_off (d := (d.pmbus _ 0).set _ w) h, Dev.raise_que, Dev.set_que, Dev.pmbus_que]

/-- A device in Recovery with FAULT_N asserted, which keeps AON alone (R451), and every register at its reset value. -/
def recoveryOnAon : Dev := Dev.aonOnly { gcr := { mode := .recovery, fault := true } }

/-- Refutes O14: no premise asks that CORE is on. A device in Recovery on AON (R451) is awake, is no mirror side and has an empty
EVQ, so the statement has the alert leave one record there; but EVQ is in CORE, which is off, and stays empty. -/
theorem not_alertIsRecorded : ¬ Obligations.AlertIsRecorded := by
  unfold Obligations.AlertIsRecorded
  intro h
  have hawake : recoveryOnAon.awake = true := by decide
  have hcore : recoveryOnAon.coreOn = false := by decide
  have hroom : recoveryOnAon.isMirror = false ∧ (recoveryOnAon.queue 0).recs.length < 512 := by decide
  obtain ⟨t, hrun, -, -, hrecs⟩ := h 0 { dev := recoveryOnAon } hawake (by decide) rfl
  have ht : t = State.setDev { dev := recoveryOnAon } (settle (vrAlert (some 0) recoveryOnAon)) :=
    Host.Outcome.next.inj (hrun.symm.trans ((exec_vrAlert (some 0) _).trans (onDev_awake hawake _)))
  have hkept : (t.dev.queue 0).recs = (recoveryOnAon.queue 0).recs := by
    rw [ht, State.setDev_dev, Dev.queue, settle_que, vrAlert_que_core_off hcore, ← Dev.queue]
  rw [hkept, if_pos hroom] at hrecs
  exact List.cons_ne_nil _ _ (List.self_eq_append_right.mp hrecs)

end Sys2Proof.Machine
end

section
/-! SUPPORT. A write of GCR_CMD that restarts the device, and what the restart makes of a head that a stray roll call turned into
a member (R455, R476, R485). -/

namespace Sys2Proof.Machine

/-! ## The head role after a restart (R460, R476) -/

@[simp] theorem Dev.pinsReset_chn (d : Dev) (host : Bool) : (d.pinsReset host).chn = d.chn :=
  List.foldlRecOn (resetPins host) Dev.emit (motive := fun e => e.chn = d.chn) rfl
    (fun e he o _ => (Dev.emit_chn e o).trans he)

@[simp] theorem Dev.keepHost_chn (old d : Dev) : (Dev.keepHost old d).chn = d.chn := by
  unfold Dev.keepHost
  split <;> rfl

/-- A restart out of Recovery makes the device a head or a member by its strap, whatever it acted as before. -/
theorem restart_chn_head {d : Dev} (hm : d.gcr.mode = .recovery) (hz : d.dozeActive = false) :
    (restart d).chn.head = d.gcr.headStrap := by
  have hopen : ((d.gcr.mode == .recovery || d.gcr.mode == .selfTest) && !d.dozeActive) = true := by rw [hm, hz]; rfl
  rw [restart, if_pos hopen, Dev.pinsReset_chn, Dev.keepHost_chn, Dev.held]

/-! ## A register write of RESTART (R455) -/

/-- A write of GCR_CMD does what its bits ask for, from any source. -/
theorem doWrite_gcrCmd (d : Dev) (src : Src) (v : Word) : d.doWrite src R.GCR_CMD.RESTART.ofs v = gcrCmd v d := by
  have hhalf : halfAt R.GCR_CMD.RESTART.ofs = .no := by decide +kernel
  simp only [Dev.doWrite, hhalf] <;> rfl

/-- With RESTART the only bit set, GCR_CMD restarts the device and nothing else. -/
theorem gcrCmd_restart (d : Dev) : gcrCmd 8 d = restart d := rfl

/-- A REGISTER_WRITE of RESTART that meets no bus error is the restart, completed at its source. -/
theorem registerWrite_restart {d : Dev} (hc : d.writeCause R.GCR_CMD.RESTART.ofs 8 = none) (src : Src) :
    registerWrite src R.GCR_CMD.RESTART.ofs 4 8 d = (restart d).emit (.regOk src) := by
  rw [registerWrite_word (by decide) (by decide), show BitVec.ofNat 32 (8 : BitVec 64).toNat = 8 from rfl,
    Dev.writeOut_effect (by decide) (by decide) hc, doWrite_gcrCmd, gcrCmd_restart]

/-! ## A head that a stray roll call has made a member (R485) -/

/-- A head in Recovery, with every register at its reset value and every domain on. -/
def recoveryHead : Dev := { gcr := { mode := .recovery } }

/-- The frame of another head's roll call, as that head sends it. -/
def strayEnum : ChainMsg := ⟨0, 1, 0, false, .enum 1 false⟩

/-- The head once it has received that frame. -/
def strayedHead : Dev := enumArrived strayEnum 1 false false recoveryHead

/-- It has raised HEAD_CONFLICT and acts as a member; its strap and its mode are as they were. -/
theorem strayedHead_is_member : strayedHead.flag R.CHN_EVT.HEAD_CONFLICT = true ∧ strayedHead.chn.head = false ∧
    strayedHead.gcr = recoveryHead.gcr := by decide +kernel

theorem strayedHead_writes_gcrCmd : strayedHead.writeCause R.GCR_CMD.RESTART.ofs 8 = none := by decide +kernel

/-- Refutes O27 in its second clause: `resets` names the command RESTART, but software restarts a device by a plain write of
GCR_CMD too, and a REGISTER_WRITE is not among the resets. A head in Recovery that a stray roll call has made a member takes a
host write of 8 to GCR_CMD; the restart reads the strap, and the device is a head again. -/
theorem not_strayRollCallAtHead : ¬ Obligations.StrayRollCallAtHead := by
  unfold Obligations.StrayRollCallAtHead
  rintro ⟨-, hmember, -⟩
  obtain ⟨-, hbefore, hgcr⟩ := strayedHead_is_member
  have hmode : strayedHead.gcr.mode = .recovery := congrArg Gcr.mode hgcr
  have hstrap : strayedHead.gcr.headStrap = true := congrArg Gcr.headStrap hgcr
  have hawake : strayedHead.awake = true := by rw [Dev.awake, hmode]; rfl
  have hrun : exec (.registerWrite .host R.GCR_CMD.RESTART.ofs 4 8) { dev := strayedHead } =
      .next (State.setDev { dev := strayedHead } (settle ((restart strayedHead).emit (.regOk .host)))) := by
    rw [← registerWrite_restart strayedHead_writes_gcrCmd]
    exact (exec_registerWrite ..).trans (onDev_awake hawake _)
  have hafter := hmember _ _ _ hrun rfl hbefore
  rw [State.setDev_dev, settle_chn, Dev.emit_chn, restart_chn_head hmode (by decide +kernel), hstrap] at hafter
  exact absurd hafter (by decide)

end Sys2Proof.Machine
end

section
/-! SUPPORT. A push on a mirror side: DLQ and TRQ take no record there, so nothing stands last (R205). -/

namespace Sys2Proof.Machine

/-- A mirror side writes no departure and no trace record, whether or not the queue has room (R205). -/
theorem Dev.push_mirror {d : Dev} (hm : d.isMirror = true) {n : Nat} (hn : n = 1 ∨ n = 2) (r : List Word) :
    d.push n r = d := by
  have hwithheld : (d.isMirror && (n == 1 || n == 2)) = true := by simpa [hm] using hn
  rw [Dev.push, if_pos hwithheld]

/-- The mirror side of a pair in MIRRORED, in mode 7, with every register at its reset value and every queue empty. -/
def mirrorSide : Dev := { gcr := { mode := .mirrored }, twn := { st := .mirrored, mirror := true } }

/-- Refutes O59 in its first clause: no premise asks that the device writes records of queue n. A mirror side's DLQ is empty and
so has room, but a departure record pushed there is withheld (R205): the queue stays empty, where the statement has the record
stand last. -/
theorem not_queuesKeepOrder : ¬ Obligations.QueuesKeepOrder := by
  unfold Obligations.QueuesKeepOrder
  intro h
  have hmirror : mirrorSide.isMirror = true := rfl
  have hroom : (mirrorSide.queue 1).recs.length < queueDepth 1 := by decide
  obtain ⟨hpushed, -⟩ := h mirrorSide 1 [0, 0, 0, 0] (by decide) rfl
  obtain ⟨hlast, -⟩ := hpushed hroom
  rw [Dev.push_mirror hmirror (.inl rfl)] at hlast
  exact List.cons_ne_nil _ _ (List.self_eq_append_right.mp hlast)

end Sys2Proof.Machine
end

section
/-! SUPPORT. A locked register across a restart that a REGISTER_WRITE asks for, and a configuration register that a descriptor
write reaches (R497, R513). -/

namespace Sys2Proof.Machine

set_option Elab.async false

/-! ## A lock across a restart (R476, R497) -/

@[simp] theorem settle_regLocked (d : Dev) (ofs : Nat) : (settle d).regLocked ofs = d.regLocked ofs := by
  simp [Dev.regLocked, Dev.pageLocked, Dev.raw0]

@[simp] theorem emit_regLocked (d : Dev) (o : Out) (ofs : Nat) : (d.emit o).regLocked ofs = d.regLocked ofs := rfl

/-- A device in Recovery with CORE on, whose clock page is locked. -/
def lockedClocks : Dev := { recoveryHead with regs := [(0x2018, 1)] }

theorem lockedClocks_writes_gcrCmd : lockedClocks.writeCause R.GCR_CMD.RESTART.ofs 8 = none := by decide +kernel

/-- The restart leaves CORE on and the page unlocked. -/
theorem restart_lockedClocks : (restart lockedClocks).coreOn = true ∧
    (restart lockedClocks).regLocked R.CLK_CFG.AUTOGATE.ofs = false := by decide +kernel

/-- AUTOGATE is an RWL field of the clock page, bit 0 of CLK_CFG. -/
theorem clkCfg_lockable :
    (rowAt R.CLK_CFG.AUTOGATE.ofs).any (fun r => (r.maskOf (fun a => a == .rwl)).testBit 0) = true := by decide +kernel

/-- Refutes O54: `resets` names the command RESTART, but software restarts a device by a plain write of GCR_CMD too, and a
REGISTER_WRITE is not among the resets. In Recovery, with CORE on and the clock page locked, a host write of 8 to GCR_CMD puts
every register at its reset value; CORE stays on and CLK_CFG is no longer locked. -/
theorem not_lockedRegistersHold : ¬ Obligations.LockedRegistersHold := by
  unfold Obligations.LockedRegistersHold
  intro h
  obtain ⟨r, hrow, hbit⟩ := (Option.any_eq_true _ _).mp clkCfg_lockable
  obtain ⟨hcore, hopen⟩ := restart_lockedClocks
  have hrun : exec (.registerWrite .host R.GCR_CMD.RESTART.ofs 4 8) { dev := lockedClocks } =
      .next (State.setDev { dev := lockedClocks } (settle ((restart lockedClocks).emit (.regOk .host)))) := by
    rw [← registerWrite_restart lockedClocks_writes_gcrCmd]
    exact (exec_registerWrite ..).trans (onDev_awake rfl _)
  obtain ⟨hkept, -⟩ := h _ _ _ R.CLK_CFG.AUTOGATE.ofs 0 r hrun rfl (by simpa [Dev.coreOn, Dev.domOn] using hcore) (by decide +kernel) hrow
    hbit (by decide)
  rw [State.setDev_dev, settle_regLocked, emit_regLocked, hopen] at hkept
  exact absurd hkept (by decide)

/-! ## A configuration register beyond the descriptors (R275, R513) -/

/-- The descriptors of streams 0 to 63 end at 1DC40h (Table APD-3); the offset computed for stream 256 is in the data store's
page, which cacheDev lets a command write. -/
theorem cacheDev_reaches_256 : cacheDev.reaches (apdReg 256 (descReg .cfg)) = true := by decide +kernel

/-- Refutes O55: no premise bounds the stream number of APD_DESCRIPTOR_WRITE, which is not among the commands that configure. A
CFG write for stream 256 (there are 64) stores its byte into a configuration register of the data store's page. -/
theorem not_configurationHolds : ¬ Obligations.ConfigurationHolds := by
  unfold Obligations.ConfigurationHolds
  intro h
  have hrun : exec (.apdDescriptorWrite .host 256 .cfg 1) { dev := cacheDev } =
      .next (State.setDev { dev := cacheDev } (settle ((cacheDev.setRaw (apdReg 256 8) 1).emit (.regOk .host)))) := by
    rw [show cacheDev.setRaw (apdReg 256 8) 1 = apdDescriptorWrite 256 .cfg 1 cacheDev from
      (apdDescriptorWrite_cfg_idle rfl rfl 1).symm]
    exact (exec_apdDescriptorWrite ..).trans (onDev_write cacheDev_reaches_256 ..)
  have hkept := h _ _ _ hrun rfl rfl (fun hc => by simpa [Dev.coreOn, Dev.domOn] using hc) (.dsc, 0) (by decide)
  exact absurd hkept (by decide +kernel)

end Sys2Proof.Machine
end

section
/-! SUPPORT. What every command and every step come to: a device changed and settled, the queue of commands left alone (R459);
what a refused write leaves; and the state after reset. -/

namespace Sys2Proof.Machine

set_option Elab.async false

/-! ## The shape of every command -/

/-- A command changes the device and settles it, in every mode only if it is one of those that act in Cold (R459). -/
theorem exec_shape (c : Instr) (s : State) :
    (∃ f, exec c s = onDev s f) ∨ c.actsInCold = true ∧ ∃ f, exec c s = onDevAlways s f := by
  cases c with
  | rstNLow _ | resetRelease | pwrOkRise | boundaryScan _ | chainRd | chainWr | chainBwr | chainRsp | chainEvt | mbx | enum
  | chainBadFrame =>
    simp only [exec_rstNLow, exec_resetRelease, exec_pwrOkRise, exec_boundaryScan, exec_chainRd, exec_chainWr, exec_chainBwr, exec_chainRsp, exec_chainEvt, exec_mbx, exec_enum, exec_chainBadFrame,
      onChain]
    exact .inr ⟨rfl, _, rfl⟩
  | _ =>
    simp only [
      exec_rdShared, exec_rdFetch, exec_rdOwn, exec_rdOnce, exec_upgrade, exec_wrBack, exec_wrFull, exec_wrPart, exec_depart,
      exec_append, exec_ticketRetry, exec_stbyExpired, exec_reservationFreed, exec_snpData, exec_ackaSnoop, exec_ackaGrant,
      exec_miss, exec_transactionActivate, exec_berthHoldEnd, exec_rspTimeout, exec_transactionRetire, exec_headerFetchDone,
      exec_headerWaitUnpin, exec_lineReadDone, exec_memReadDone, exec_nextLevelWriteAck, exec_wrFail, exec_victimCopy,
      exec_victimWaitEligible, exec_combiningTimeout, exec_wbfFlush, exec_hdcFlush, exec_flushDone, exec_pipQuarClr,
      exec_wayGroupPowerDown, exec_sweepSet, exec_sweepDone, exec_sweepStop, exec_wayGroupWake, exec_mntStart, exec_mntAbort,
      exec_mntLine, exec_mntDone, exec_dirProbeGo, exec_dirProbeDone, exec_depProbeGo, exec_managerSnoop,
      exec_uplinkResponse, exec_uplinkDown, exec_sdrInitDone, exec_takeoverDownlink, exec_takeoverUplink, exec_homeMoved,
      exec_pairDigest, exec_pairingGuardExpiry, exec_partnerRead, exec_heartbeat, exec_hbLoss, exec_lossWaitConfirm,
      exec_fencedCheck, exec_twnGuardExpiry, exec_resendWindowEnd, exec_join, exec_detach, exec_forceTake, exec_twnResume,
      exec_copyDone, exec_mirrorFlit, exec_mirrorApply, exec_mirrorAck, exec_dirtyCopyReport, exec_depAnnounce,
      exec_depAccept, exec_depRefuse, exec_depCancelMsg, exec_depBoard, exec_depBoardMiss, exec_depLineFromWorker,
      exec_depLineToWorker, exec_depAckAtManager, exec_depAckAtWorker, exec_boardingStart, exec_quietWindow,
      exec_departureRelease, exec_lateStaged, exec_immediateRelease, exec_releaseEnd, exec_depCancelGo, exec_depDisable,
      exec_streamEnable, exec_streamDisable, exec_apdFlush, exec_appendCombineTimeout, exec_apdLineWriteDone, exec_lineFail,
      exec_apdHeadWrite, exec_apdDescriptorWrite, exec_laneStartUp, exec_trainingTokenGrant, exec_trainFail, exec_headerFill,
      exec_fillDone, exec_refresh, exec_postponedRefreshBurst, exec_rfm, exec_mr4Poll, exec_zqCalibration,
      exec_selfRefreshExit, exec_dsVrPgTimeout, exec_vrStuck, exec_vrFault, exec_lossSweepDone, exec_correctionWindowClose,
      exec_scrubBurst, exec_scrubGapEnd, exec_scrubReadDone, exec_scbDisable, exec_flipArm, exec_flipDiscard,
      exec_chanHaltClr, exec_peerDetect, exec_linkTrained, exec_init, exec_initResend, exec_dataFlit, exec_nak,
      exec_recoverDone, exec_lpIdle, exec_lpm, exec_lpExit, exec_linkDown, exec_lost, exec_portDisable, exec_portEnable,
      exec_drainingEnd, exec_memoryPortBringUp, exec_mpLinkDown, exec_mpFailed, exec_mpRemove, exec_mpAdd, exec_mpIoData,
      exec_flr, exec_crystalReady, exec_xtalFail, exec_xtalRetry, exec_xtalLost, exec_pllLock, exec_pllTimeout, exec_pllFail,
      exec_pllRelock, exec_clockSwitch, exec_forced, exec_clkForceGate, exec_gateClose, exec_clkOutCfgWrite, exec_clkMeasGo,
      exec_measDone, exec_bellLock, exec_belArm, exec_belDisarm, exec_syncSeen, exec_markArm, exec_markDone, exec_bellLost,
      exec_domainOff, exec_domainOn, exec_padRelease, exec_pmbusPoll, exec_vrAlert, exec_vrClear, exec_vrPgLost,
      exec_dvfsTarget, exec_dvfsFgo, exec_dvfsVgo, exec_voltageReached, exec_wakeTo, exec_purserUpdate, exec_purserRescale,
      exec_tokenReturn, exec_overCap, exec_dozeReq, exec_dozeStage, exec_dozeQuiesceTimeout, exec_wakeEvent, exec_dozeWake,
      exec_dozeOut, exec_flashReadDone, exec_go, exec_autostart, exec_selfTestDone, exec_trainComplete, exec_serve,
      exec_drain, exec_drainSet, exec_drainDone, exec_drainResume, exec_restart, exec_noAnswer, exec_chnEnum, exec_chnGo,
      exec_inLost, exec_chnInRegain, exec_registerWrite, exec_lock, exec_evtRead, exec_rcRead, exec_loRead, exec_hiWrite,
      exec_loWrite, exec_aliasRead, exec_aliasWrite, exec_watchdogTimeout, exec_cfgPassEnd, exec_cfgCommit, exec_commitDone,
      exec_evcRearm, exec_pbaRelease, exec_evtFrameSend, exec_queDataRead, exec_queDrop, exec_mboWrite, exec_mboSend,
      exec_pmuClear, exec_counterWrap, exec_sample, exec_pmuSmpDone, exec_coreCycle, exec_bellTick, exec_dsVrPgRise,
      exec_idleFlit, exec_heartbeatReceived, exec_mpLinkReturn, exec_viral, exec_hstLinkDown, exec_readBusError,
      State.arrives, onCore]
    exact .inl ⟨_, rfl⟩

/-- A command that writes one register is a write of it. -/
theorem exec_of_target {c : Instr} {src : Src} {ofs : Nat} (ht : c.target = some (src, ofs)) (s : State) :
    ∃ k, exec c s = onDev s (fun d => d.write src ofs k) := by
  cases c <;> cases ht <;> simp only [
    exec_apdFlush, exec_streamEnable, exec_streamDisable, exec_apdHeadWrite, exec_apdDescriptorWrite, exec_wbfFlush,
    exec_hdcFlush, exec_pipQuarClr, exec_dirProbeGo, exec_depProbeGo, exec_xtalRetry, exec_clkForceGate,
    exec_clkOutCfgWrite, exec_clkMeasGo, exec_belDisarm, exec_belArm, exec_markArm, exec_depCancelGo, exec_depDisable,
    exec_dozeReq, exec_dozeWake, exec_evcRearm, exec_queDrop, exec_mboWrite, exec_pmuClear, exec_pmuSmpDone,
    exec_cfgCommit, exec_scbDisable, exec_flipArm, exec_flipDiscard, exec_chanHaltClr, exec_portDisable, exec_portEnable,
    exec_mpRemove, exec_mpAdd, exec_go, exec_serve, exec_drain, exec_drainResume, exec_domainOff, exec_domainOn,
    exec_padRelease, exec_vrClear, exec_dvfsTarget, exec_dvfsFgo, exec_dvfsVgo, exec_restart, exec_chnEnum, exec_chnGo,
    exec_wayGroupPowerDown, exec_sweepStop, exec_wayGroupWake, exec_mntStart, exec_mntAbort, exec_detach, exec_forceTake,
    exec_twnResume, exec_join] <;> exact ⟨_, rfl⟩

/-- Settles O1. -/
theorem stepRunsFrontCommand : Obligations.StepRunsFrontCommand := by
  unfold Obligations.StepRunsFrontCommand
  intro c rest s hs
  rw [step, hs]

/-- Settles O2: every command answers the state with a settled device. -/
theorem everyCommandCompletes : Obligations.EveryCommandCompletes := by
  unfold Obligations.EveryCommandCompletes
  intro c s
  obtain ⟨f, hrun⟩ | ⟨-, f, hrun⟩ := exec_shape c s <;> exact ⟨_, hrun, rfl⟩

/-- Settles O6: a command that does not act in Cold is held there, so that the device only settles. -/
theorem coldHoldsEveryBlock : Obligations.ColdHoldsEveryBlock := by
  unfold Obligations.ColdHoldsEveryBlock
  intro c s hcold hc
  obtain ⟨f, hrun⟩ | ⟨hacts, -⟩ := exec_shape c s
  · rw [hrun, onDev_cold hcold]
  · exact absurd (hc.symm.trans hacts) (by decide)

/-- Settles O7: such a command is a write of its register, which ends in a bus error. -/
theorem refusedWriteCommands : Obligations.RefusedWriteCommands := by
  unfold Obligations.RefusedWriteCommands
  constructor
  · intro c src ofs s ht haw hu hl
    obtain ⟨k, hrun⟩ := exec_of_target ht s
    rw [hrun, onDev_awake haw, Dev.write_locked hu hl]
  · intro c src ofs cause s ht haw hu
    obtain ⟨k, hrun⟩ := exec_of_target ht s
    rw [hrun, onDev_awake haw, Dev.write_unreachable hu]

/-! ## After reset -/

theorem reset_queue_recs : ∀ n, (State.reset.dev.queue n).recs = [] := by
  intro n
  simp only [Dev.queue]
  match n with
  | 0 | 1 | 2 | 3 | 4 => rfl
  | _ + 5 => rfl

/-- Settles O3: every array is empty, and the counts of instances are those of the manual. -/
theorem resetInvariant : Obligations.ResetInvariant where
  store := rfl
  regs := rfl
  ports := rfl
  mps := rfl
  lanes := rfl
  queues := rfl
  depth n := by rw [reset_queue_recs]; exact Nat.zero_le _
  quar := Nat.zero_le _
  loc := Nat.zero_le _

/-- Settles O5. -/
theorem resetState : Obligations.ResetState :=
  ⟨rfl, rfl, rfl, rfl, rfl, rfl, rfl, rfl, rfl, rfl, by decide, by decide⟩

end Sys2Proof.Machine
end

section
/-! SUPPORT. What saturating counters and conditional events leave of the other fields, and what a bus error records (R494, R499). -/

namespace Sys2Proof.Machine

set_option Elab.async false

/-! ## Saturating counters and conditional events -/

section
variable (d : Dev) (f g : FieldRef) (n : Nat) (c : Bool)

/-- A saturating counter adds up to its maximum. -/
theorem get_bumpSat_self (h : fieldOk f = true) :
    (d.bumpSat f n).get f = min (d.get f + n) (2 ^ (f.hi + 1 - f.lo) - 1) := by
  have hpos : 0 < 2 ^ (f.hi + 1 - f.lo) := by positivity
  rw [Dev.bumpSat, get_set_self d f _ h, Nat.mod_eq_of_lt (by omega)]

theorem get_bumpSat_far (h : fieldsApart f g = true) : (d.bumpSat f n).get g = d.get g := get_set_far d f g _ h

theorem flag_bumpSat_far (h : fieldsApart f g = true) : (d.bumpSat f n).flag g = d.flag g := flag_set_far d f g _ h

theorem get_raiseIf_far (h : fieldsApart f g = true) : (d.raiseIf c f).get g = d.get g := by
  cases c with
  | false => rfl
  | true => exact get_raise_far d f g h

theorem flag_raiseIf_far (h : fieldsApart f g = true) : (d.raiseIf c f).flag g = d.flag g := by
  rw [Dev.flag, Dev.flag, get_raiseIf_far d f g c h]

/-- An event raised on a condition that holds is latched (R494). -/
theorem flag_raiseIf_self (h : fieldOk f = true) (hc : c = true) : (d.raiseIf c f).flag f = true := by
  rw [hc]; exact flag_raise_self d f h

end

/-! ## Bus errors (R499) -/

theorem srcCode_lt (src : Src) : srcCode src < 4 := by cases src <;> decide

/-- Settles O8: each field of the record is written once, and the writes after it are of other fields. -/
theorem busErrorRecord : Obligations.BusErrorRecord := by
  unfold Obligations.BusErrorRecord
  intro d src ofs k w hofs hk
  have hsrc := srcCode_lt src
  refine ⟨?_, ?_, ?_, ?_, ?_, ?_, ?_, ?_, ?_, ?_, ?_, ?_⟩
  · simp (disch := decide) only [Dev.busErr, emit_get, get_raiseIf_far, get_raise_far, get_bumpSat_far, get_set_far, get_set_self]
    exact Nat.mod_eq_of_lt hofs
  · simp (disch := decide) only [Dev.busErr, emit_get, get_raiseIf_far, get_raise_far, get_bumpSat_far, get_set_far, get_set_self]
    exact Nat.mod_eq_of_lt hk
  · simp (disch := decide) only [Dev.busErr, emit_get, get_raiseIf_far, get_raise_far, get_bumpSat_far, get_set_far, get_set_self]
    exact Nat.mod_eq_of_lt hsrc
  · simp (disch := decide) only [Dev.busErr, emit_get, get_raiseIf_far, get_raise_far, get_bumpSat_far, get_set_self]
    cases w <;> rfl
  · simp (disch := decide) only [Dev.busErr, emit_get, get_raiseIf_far, get_raise_far, get_bumpSat_self, get_set_far]
    rfl
  · simp (disch := decide) only [Dev.busErr, emit_flag, flag_raiseIf_far, flag_raise_self]
  · intro hlock
    exact flag_raiseIf_self _ _ _ (by decide) (by simpa using hlock)
  all_goals simp [Dev.busErr, Dev.bumpSat]

end Sys2Proof.Machine
end

section
/-! SUPPORT. A heartbeat of the serving side during a join copy, which takes the copy on (R218, R229). -/

namespace Sys2Proof.Machine

set_option Elab.async false

/-- A write of line 5, bound for the next level and not yet issued. -/
def waitingWrite : WbEnt :=
  { line := 5, mask := Mask.full, pay := ⟨0, false⟩, kind := .part, rsv := none, bound := true, go := true, issued := false,
    age := 0, txn := none, num := 0 }

/-- The serving side of a join copy: the joining side has written chunk 0 and returned its credits, and a write of a line of
that chunk waits in the write buffer for its end. -/
def chunkWritten : Dev :=
  { ((Dev.set { gcr := { mode := .mirrored } } R.AMP_MEM_CFG.PORT_EN 1).set R.AMP_MEM_CAP.CAP 2).set R.TWN_CFG.EN 1 with
    mps := { st := 3 } :: List.replicate 7 {}
    tw := { st := 3, cReq := 255 }
    twn := { st := .copy, phase := 4, cur := 1, chunk := some ⟨0, [], []⟩ }
    wbf := { ents := [waitingWrite] } }

/-- The heartbeat ends the chunk, and the write that waited for it is issued. -/
theorem heartbeat_issues_chunkWrite : (heartbeat chunkWritten).wbf.ents.map (·.issued) = [true] := by decide +kernel

/-- Refutes O56: `keepsCaches` names HEARTBEAT, but a heartbeat of the serving side of a join copy takes the copy on (R229). Once
the joining side has written a chunk, the writes that waited for the chunk leave the write buffer with it. -/
theorem not_cachesUntouched : ¬ Obligations.CachesUntouched := by
  unfold Obligations.CachesUntouched
  intro h
  have hrun : exec .heartbeat { dev := chunkWritten } =
      .next (State.setDev { dev := chunkWritten } (settle (heartbeat chunkWritten))) :=
    onCore_runs rfl heartbeat
  obtain ⟨-, -, -, -, hwbf, -, -⟩ := h _ _ _ hrun rfl
  rw [State.setDev_dev, settle_wbf] at hwbf
  have hissued := heartbeat_issues_chunkWrite
  rw [hwbf] at hissued
  exact absurd hissued (by decide)

end Sys2Proof.Machine
end

section
/-! SUPPORT. A frame with a bad CRC whose SRC, as the operand gives it, does not fit the frame's 6-bit field (R480, R481). -/

namespace Sys2Proof.Machine

set_option Elab.async false

/-- A frame from address 64, which no 6-bit SRC holds: its bytes say 0. -/
def wideSrc (f : Frame) : ChainMsg := ⟨1, 64, 0, false, f⟩

/-- A frame with a bad CRC is only forwarded and counted (R480). -/
theorem onChain_bad {s : State} {m : ChainMsg} {crc : Nat} (hr : s.dev.repeats = true) (hc : crc ≠ m.crc) (f : Dev → Dev) :
    onChain s m crc f = .next (s.setDev (settle (s.dev.badFrame m.bytes crc))) := by
  simp [onChain, onDevAlways, hr, hc]

/-- The head at its reset values takes only frames from or to address 0 off the ring, and this is none by its operands. -/
theorem wideSrc_not_removed (f : Frame) : cacheDev.removes (wideSrc f) = false := rfl

/-- By its bytes the frame is from address 0: the head takes it off the ring and drives nothing. -/
theorem wideSrc_rd_dropped : (wideSrc (.rd 0)).crc ≠ 0 ∧
    (settle (cacheDev.badFrame (wideSrc (.rd 0)).bytes 0)).sent = [] := by decide +kernel

theorem wideSrc_evt_dropped : (wideSrc (.evt 0 0 0 false 0)).crc ≠ 0 ∧
    (settle (cacheDev.badFrame (wideSrc (.evt 0 0 0 false 0)).bytes 0)).sent = [] := by decide +kernel

/-- A device that has driven nothing at all has driven no frame. -/
theorem not_drove_of_sent_nil {e : Dev} (h : e.sent = []) (d : Dev) (o : Out) : ¬ e.drove d o := by
  simp [Dev.drove, h]

/-- Refutes O20 in its clauses on a bad CRC: no premise bounds SRC to its 6 bits. The bytes of a frame from address 64 say that it
is from address 0, so the head takes it off the ring, although `removes` of its operands is false. -/
theorem not_chainAccess : ¬ Obligations.ChainAccess := by
  unfold Obligations.ChainAccess
  rintro ⟨-, -, -, -, -, -, -, -, hbad, -⟩
  obtain ⟨hcrc, hsent⟩ := wideSrc_rd_dropped
  obtain ⟨t, hrun, -, -, -, -, hraw⟩ := hbad (wideSrc (.rd 0)) 0 { dev := cacheDev } rfl rfl hcrc.symm
  rw [exec_chainRd, onChain_bad rfl hcrc.symm] at hrun
  obtain rfl := Host.Outcome.next.inj hrun
  have hdriven := hraw (wideSrc_not_removed _)
  rw [State.setDev_dev] at hdriven
  exact not_drove_of_sent_nil hsent _ _ hdriven

/-- Refutes O21 in its clauses on a bad CRC, by an event frame whose SRC is 64. -/
theorem not_chainMessages : ¬ Obligations.ChainMessages := by
  unfold Obligations.ChainMessages
  rintro ⟨-, -, -, -, -, -, -, -, hbad, -⟩
  obtain ⟨hcrc, hsent⟩ := wideSrc_evt_dropped
  obtain ⟨t, hrun, -, -, -, -, hraw⟩ := hbad (wideSrc (.evt 0 0 0 false 0)) 0 { dev := cacheDev } rfl rfl hcrc.symm
  rw [exec_chainEvt, onChain_bad rfl hcrc.symm] at hrun
  obtain rfl := Host.Outcome.next.inj hrun
  have hdriven := hraw (wideSrc_not_removed _)
  rw [State.setDev_dev] at hdriven
  exact not_drove_of_sent_nil hsent _ _ hdriven

end Sys2Proof.Machine
end

section
/-! SUPPORT. A write of the bit-alias window, whose offsets lie beyond the register map (R488, R503, R507). -/

namespace Sys2Proof.Machine

set_option Elab.async false

/-- The first alias is of bit 0 of GCR_ID, which has no field that a write can act on: cause 2 (R496, R503). -/
theorem aliasWrite_id_sent : (settle (registerWrite .host (2 ^ 27) 4 0 cacheDev)).sent = [.busErr .host 2] := by
  decide +kernel

/-- Refutes O22 in its first clause: it takes the cause that the size and the offset of a write give, but no premise keeps the
offset out of the bit-alias window. The first alias address lies beyond the map's 4 MiB, which has cause 1; yet a host write
there is one of a bit of GCR_ID, and ends in a bus error with cause 2. -/
theorem not_registerWritesAndPasses : ¬ Obligations.RegisterWritesAndPasses := by
  unfold Obligations.RegisterWritesAndPasses
  rintro ⟨hsize, -⟩
  have hcause : sizeCause true (2 ^ 27) 4 = some 1 := by decide
  obtain ⟨t, hrun, hdrove, -⟩ := hsize .host (2 ^ 27) 4 0 1 { dev := cacheDev } rfl hcause
  rw [exec_registerWrite, onDev_awake rfl] at hrun
  obtain rfl := Host.Outcome.next.inj hrun
  rw [State.setDev_dev, Dev.drove, aliasWrite_id_sent] at hdrove
  exact absurd hdrove (by decide)

end Sys2Proof.Machine
end

section
/-! SUPPORT. The end of a berth hold that lets a snoop go to a disabled port, for a requester whose port is disabled too (R130,
R150, R151). -/

namespace Sys2Proof.Machine

set_option Elab.async false

/-- An Upgrade of port 3 whose SnpInv to port 5 a berth hold keeps. -/
def keptUpgrade : Txn :=
  { id := 0, kind := .upgrade, org := .agent 3, line := 8, phase := .snooping, held := [(5, .inv)] }

/-- Ports 3 and 5 are disabled; the cycles of the hold that protects port 5 have passed. -/
def holdOver : Dev :=
  { (cacheDev.set (portEN 3) 0).set (portEN 5) 0 with cnf := { txns := [keptUpgrade], holds := [⟨8, 5, 0⟩] } }

/-- The hold's end answers the snoop for port 5, grants the Upgrade and gives its Ack for port 3, whose own hold begins. -/
theorem berthHoldEnd_begins_hold : (berthHoldEnd 8 holdOver).cnf.holds = [⟨8, 3, 256⟩] := by decide +kernel

/-- Refutes O32 in its third clause: no premise keeps the end of a hold from letting work go on that begins another. On a device
whose ports 3 and 5 are disabled, the hold of port 5 ends while it keeps the SnpInv of port 3's Upgrade. Both ports are answered for
at once (R130), so the Upgrade retires and its berth hold begins: the holds left are not a part of those before. -/
theorem not_transactionCommands : ¬ Obligations.TransactionCommands := by
  unfold Obligations.TransactionCommands
  rintro ⟨-, -, hend, -⟩
  have hruns : holdOver.runs = true := by decide +kernel
  obtain ⟨t, hrun, hholds⟩ := hend 8 { dev := holdOver } hruns (by decide)
  rw [exec_berthHoldEnd, onCore_runs hruns] at hrun
  obtain rfl := Host.Outcome.next.inj hrun
  rw [State.setDev_dev, settle_cnf, berthHoldEnd_begins_hold] at hholds
  exact absurd hholds (by decide)

end Sys2Proof.Machine
end

section
/-! SUPPORT. A partial write that hits a line on a lost lane of a group that is not marked lost (R319, Table DST-6). -/

namespace Sys2Proof.Machine

set_option Elab.async false

/-- A set header whose way 0 holds line 0 of its sector, clean. -/
def oneLineHeader : Header :=
  { ways := ⟨0, 1, 0, false, false, 0⟩ :: List.replicate 15 Way.empty, hseq := 0, wgOff := 0 }

/-- A device in service whose set 1 is resident; lane 0 is lost, its group is not. -/
def lostLaneDev : Dev :=
  { ((cacheDev.set (portEN 0) 1).set R.AMP_MEM_CFG.PORT_EN 1).set R.AMP_MEM_CAP.CAP 2 with
    hdc := { ents := [⟨1, oneLineHeader, false⟩] }
    dsc := { lanes := { st := 5 } :: List.replicate 17 { st := 3 } } }

/-- A partial write of the line from port 0. -/
def partHead : Head := { port := 0, tag := 0, tph := false, addr := 1024, oport := 0, widx := 0 }
def partBody : Body := .wrPart 0 1 ⟨0, false⟩

theorem lostLaneDev_takes : State.takesNow { dev := lostLaneDev } partHead partBody 0 = true := by decide +kernel

theorem lostLaneDev_hits : lostLaneDev.header? (lostLaneDev.setOf (lineOf partHead.addr)) = some oneLineHeader ∧
    lostLaneDev.servedHit oneLineHeader (lineOf partHead.addr) = some 0 ∧ lostLaneDev.pip.lost.getLsbD (0 / 4) = false ∧
    lostLaneDev.dirEnt (lineOf partHead.addr) = none := by decide +kernel

/-- The write merges over what a lost lane gives, at once, and its transaction retires (Table DST-6). -/
theorem partial_write_retires :
    (arrive (State.thisCycle { dev := lostLaneDev } |>.any (lostLaneDev.goesBefore ⟨partHead, partBody, none⟩))
      ⟨partHead, partBody, none⟩ lostLaneDev).txn? 0 = none := by decide +kernel

@[simp] theorem settle_txn? (d : Dev) (id : Nat) : (settle d).txn? id = d.txn? id := by simp [Dev.txn?]

/-- Refutes O29 in its clause on WRPART: no premise says that the way's lane can be read. With lane 0 lost and its group not marked
lost, the partial write of a line there is merged at once, and its transaction is not in the table. -/
theorem not_hitsAreServed : ¬ Obligations.HitsAreServed := by
  unfold Obligations.HitsAreServed
  rintro ⟨-, -, -, -, hpart, -⟩
  obtain ⟨hheader, hhit, hgroup, hdir⟩ := lostLaneDev_hits
  obtain ⟨t, hrun, hopened, -, -⟩ := hpart partHead 0 0 0 1 ⟨0, false⟩ oneLineHeader { dev := lostLaneDev } lostLaneDev_takes hheader
    hhit hgroup hdir
  rw [exec_wrPart, State.arrives, onCore_runs (by decide +kernel)] at hrun
  obtain rfl := Host.Outcome.next.inj hrun
  rw [Dev.opened, State.setDev_dev, settle_txn?] at hopened
  have hgone := partial_write_retires
  rw [partBody] at hgone
  rw [hgone] at hopened
  exact absurd hopened nofun

end Sys2Proof.Machine
end

section
/-! SUPPORT. A header fetch that ends on a lane lost meanwhile (R319, R345, Table DST-6). -/

namespace Sys2Proof.Machine

set_option Elab.async false

/-- Header lane 17, which holds the header of set 1, is lost while the fetch of that header is in flight. -/
def lostHeaderLane : Dev :=
  { cacheDev.set R.AMP_MEM_CFG.PORT_EN 1 with
    hdc := { fetch := [1] }
    dsc := { lanes := List.replicate 17 { st := 3 } ++ [{ st := 5 }] } }

/-- Errors in more symbols of the first codewords than the code corrects. -/
def heavyNoise : Burst := 2 ^ 300 - 1

theorem heavyNoise_uncorrectable :
    (lostHeaderLane.laneRead (headerLoc 1).1 (headerLoc 1).2 heavyNoise).1.out = .uncorrectable := by decide +kernel

/-- The lost lane is not read, so nothing is found uncorrectable. -/
theorem lostHeaderLane_no_event : (headerFetchDone 1 heavyNoise lostHeaderLane).flag R.PIP_EVT.HDR_QUAR = false := by
  decide +kernel

/-- Refutes O33 in its third clause, on an uncorrectable header: no premise says that the header's lane can be read. A lane lost
while the fetch is in flight is not read (R319), whatever a read of it would give, and HDR_QUAR is not raised. -/
theorem not_headersAndLines : ¬ Obligations.HeadersAndLines := by
  unfold Obligations.HeadersAndLines
  rintro ⟨-, -, hquar, -⟩
  have hout := heavyNoise_uncorrectable
  obtain ⟨t, hrun, hflag, -⟩ := hquar 1 heavyNoise { dev := lostHeaderLane } rfl (by decide) rfl
    (by rw [hout]; decide) (by rw [hout]; decide)
  rw [exec_headerFetchDone, onCore_runs rfl] at hrun
  obtain rfl := Host.Outcome.next.inj hrun
  rw [State.setDev_dev, settle_flag, lostHeaderLane_no_event] at hflag
  exact absurd hflag (by decide)

end Sys2Proof.Machine
end

section
/-! SUPPORT. A victim copied for a read whose set has been quarantined while the read waited (R46, R67). -/

namespace Sys2Proof.Machine

set_option Elab.async false

/-- A RdShared of a line with tag 1, which has chosen way 0 of set 1 and waits its turn to copy the victim. -/
def copyingRead : Txn :=
  { id := 0, kind := .rdShared, org := .agent 0, line := 33554440, phase := .waitCopy, way := some 0 }

/-- Its set is on the quarantine list, and HDC still holds the set's header. -/
def quarantinedCopy : Dev :=
  { cacheDev.set (portEN 0) 1 with
    hdc := { ents := [⟨1, oneLineHeader, false⟩] }
    pip := { quar := [1], alloc := [(1, 0, 0)], copyWait := [0] }
    cnf := { txns := [copyingRead] } }

/-- The way goes to the read's sector, and the read gives it up at once. -/
theorem quarantinedCopy_tag :
    ((victimCopy 0 quarantinedCopy).header? 1).map (fun y => (y.way 0).tag.toNat) = some 0 := by decide +kernel

theorem quarantinedCopy_setOf : quarantinedCopy.setOf copyingRead.line = 1 ∧ quarantinedCopy.tagOf copyingRead.line = 1 ∧
    (dirtyLines (oneLineHeader.way 0)).length ≤ quarantinedCopy.poolFree := by decide +kernel

@[simp] theorem settle_header? (d : Dev) (set : Nat) : (settle d).header? set = d.header? set := by simp [Dev.header?]

/-- Refutes O34 in its sixth clause: no premise says that the set can be used. A read that waits to copy its victim while its set is
quarantined is answered with poison and gives up its way (R46), so the way does not hold the tag of its sector. -/
theorem not_writeBufferCommands : ¬ Obligations.WriteBufferCommands := by
  unfold Obligations.WriteBufferCommands
  rintro ⟨-, -, -, -, -, hcopy, -⟩
  obtain ⟨hset, htag, hroom⟩ := quarantinedCopy_setOf
  have hheader : quarantinedCopy.header? (quarantinedCopy.setOf copyingRead.line) = some oneLineHeader := by rw [hset]; rfl
  obtain ⟨t, hrun, -, -, hkept⟩ := hcopy 0 copyingRead oneLineHeader { dev := quarantinedCopy } rfl rfl rfl rfl hheader rfl
    (by decide) hroom (by rw [hset]; rfl)
  rw [exec_victimCopy, onCore_runs rfl] at hrun
  obtain rfl := Host.Outcome.next.inj hrun
  have htagged := hkept rfl
  rw [State.setDev_dev, hset, htag, settle_header?] at htagged
  have hempty := quarantinedCopy_tag
  rw [show copyingRead.way.getD 0 = 0 from rfl, hempty] at htagged
  exact absurd htagged (by decide)

end Sys2Proof.Machine
end

section
/-! SUPPORT. A sweep of a set whose dirty lines find the shared entries kept for an earlier allocation (R67, R73). -/

namespace Sys2Proof.Machine

set_option Elab.async false

/-- A set header whose way 0 holds line 0 of its sector, dirty. -/
def oneDirtyHeader : Header :=
  { ways := ⟨0, 1, 1, false, false, 0⟩ :: List.replicate 15 Way.empty, hseq := 0, wgOff := 0 }

/-- The power-down sweep of group 0 at set 1; the shared pool is free, but an allocation elsewhere waits its turn for entries. -/
def sweepKept : Dev :=
  { cacheDev with
    hdc := { ents := [⟨1, oneDirtyHeader, false⟩] }
    pip := { sweep := some ⟨0, 1, false⟩, copyWait := [5] } }

theorem sweepKept_takes : 1 < sweepKept.sets ∧ sweepKept.setInUse 1 oneDirtyHeader (fun k => k / 4 == 0) = false ∧
    dirtyIn oneDirtyHeader (fun k => k / 4 == 0) ≤ sweepKept.poolFree := by decide +kernel

/-- The sweep waits: the free entries are kept for the allocation. -/
theorem sweepKept_waits : (sweepSet sweepKept).pip.sweep = some ⟨0, 1, false⟩ := by decide +kernel

/-- Refutes O36 in its second clause: it asks for free shared entries, but a sweep may take only those that no waiting allocation is
kept (R67). With one waiting, the sweep of a set with a dirty line does not go on. -/
theorem not_wayGroupCommands : ¬ Obligations.WayGroupCommands := by
  unfold Obligations.WayGroupCommands
  rintro ⟨-, hset, -⟩
  obtain ⟨hbound, huse, hroom⟩ := sweepKept_takes
  obtain ⟨t, hrun, hsweep, -⟩ := hset ⟨0, 1, false⟩ oneDirtyHeader { dev := sweepKept } rfl rfl (by decide) hbound rfl rfl rfl huse
    hroom
  rw [exec_sweepSet, onCore_runs rfl] at hrun
  obtain rfl := Host.Outcome.next.inj hrun
  rw [State.setDev_dev, settle_pip, sweepKept_waits] at hsweep
  exact absurd hsweep (by decide)

end Sys2Proof.Machine
end

section
/-! SUPPORT. A message of the event controller that goes out behind a command with no effect of its own (R168, R525). -/

namespace Sys2Proof.Machine

set_option Elab.async false

/-- A worker whose GCR page has an enabled bit pending, routed to vector 0, whose message has yet to go. -/
def dueWorker : Dev :=
  { cacheDev with
    gcr := { mode := .cache, role := .worker }
    regs := [(0xC, 1), (0x10, 1), (0x9040, 0x100)]
    hst := { up := true, busMaster := true, table := [(0, { masked := false })], pba := 1 } }

theorem dueWorker_serves : dueWorker.worker = true := by decide +kernel

/-- The message goes out with the next command, whichever it is. -/
theorem dueWorker_settles : (settle dueWorker).sent = [.msix 0] := by decide +kernel

/-- Refutes O38 in its third clause: it says that nothing more is driven, but no premise says that the event controller has nothing to
send. What arrives on the uplink that is not the active one is discarded, and the pending message goes out. -/
theorem not_managerMessages : ¬ Obligations.ManagerMessages := by
  unfold Obligations.ManagerMessages
  rintro ⟨-, -, hother, -⟩
  obtain ⟨t, hrun, -, -, hsent⟩ := hother 1 .inv 0 0 { dev := dueWorker } dueWorker_serves (by decide)
  rw [exec_managerSnoop, onCore_runs rfl, show managerSnoop 1 .inv 0 0 dueWorker = dueWorker from rfl] at hrun
  obtain rfl := Host.Outcome.next.inj hrun
  rw [State.setDev_dev, dueWorker_settles] at hsent
  exact absurd hsent (by decide)

/-- Refutes O39 in its fourth clause, for the same reason: a response on the uplink that is not the active one is discarded, and the
pending message goes out. -/
theorem not_uplinkCommands : ¬ Obligations.UplinkCommands := by
  unfold Obligations.UplinkCommands
  rintro ⟨-, -, -, hother, -⟩
  obtain ⟨t, hrun, -, -, -, hsent⟩ := hother 1 0 0 (.err 0) { dev := dueWorker } dueWorker_serves (by decide)
  rw [exec_uplinkResponse, onCore_runs rfl, show uplinkResponse 1 0 0 (.err 0) dueWorker = dueWorker from rfl] at hrun
  obtain rfl := Host.Outcome.next.inj hrun
  rw [State.setDev_dev, dueWorker_settles] at hsent
  exact absurd hsent (by decide)

end Sys2Proof.Machine
end

section
/-! SUPPORT. An LP proposal whose ACK lets a departure's copy be dropped (R264, R363, R370). -/

namespace Sys2Proof.Machine

set_option Elab.async false

/-- A departure of one line, staged for port 0, which waits for room in the port's replay buffer. -/
def waitingDep : Dep :=
  { idx := 3, cidx := 3, org := .agent 0, tag := 5, tph := false, line := 8, count := 1, t := 0, man := 0, dtag := 0,
    odev := 0, oport := 0, ports := [0], imm := false, phase := .releasing, boarded := [⟨0, .ok, ⟨7, false⟩⟩], started := [],
    droppedPorts := [], ended := [], accepted := [], toAnswer := [], acks := [], out := .onTime, late := false,
    quiet := [], qat := 0, conflict := false, waits := [] }

/-- The link of port 0 is ACTIVE with 128 flits unacknowledged, and the port's EN is cleared. -/
def fullBuffer : Dev :=
  { cacheDev.set (portEN 0) 0 with
    ports := { st := 3, txSeq := 129 } :: List.replicate 31 {}
    dep := { table := [waitingDep] } }

/-- An LPM flit that acknowledges every flit. -/
def ackingLpm : Flit := Flit.sealed 0 (BitVec.ofNat 96 (128 * 2 ^ 12 + 5 * 2 ^ 24))

theorem ackingLpm_kind : ackingLpm.kind < 6 := by decide +kernel

theorem fullBuffer_staged : fullBuffer.stagedOn 0 = true ∧ fullBuffer.portClocked 0 = true := by decide +kernel

/-- With room again the port drops its copy, which was the departure's last, and the proposal is accepted. -/
theorem fullBuffer_lp : ((lpm 0 ackingLpm 0 fullBuffer).port 0).st = 4 := by decide +kernel

/-- Refutes O52 in its tenth clause: it asks whether a departure is staged before the flit, but the flit's ACK is seen first (R365).
It makes room in the replay buffer, so that the departure that waited there takes its turn; with EN cleared its copy is dropped
(R264), nothing is staged any more, and the proposal is accepted. -/
theorem not_flitCommands : ¬ Obligations.FlitCommands := by
  unfold Obligations.FlitCommands
  rintro ⟨-, -, -, -, -, -, -, -, -, hpropose, -⟩
  obtain ⟨hstaged, hclock⟩ := fullBuffer_staged
  obtain ⟨t, hrun, hlink⟩ := hpropose 0 ackingLpm { dev := fullBuffer } rfl (by decide) rfl rfl hclock (by simp [ackingLpm])
    ackingLpm_kind rfl
  rw [exec_lpm, onCore_runs rfl] at hrun
  obtain rfl := Host.Outcome.next.inj hrun
  rw [if_pos hstaged, State.setDev_dev, settle_port_st, fullBuffer_lp] at hlink
  exact absurd hlink.1 (by decide)

end Sys2Proof.Machine
end

section
/-! SUPPORT. A host access to a memory device behind a superseded device (R221, R395). -/

namespace Sys2Proof.Machine

set_option Elab.async false

/-- A superseded device that shows memory port 0 as READY. -/
def supersededDev : Dev :=
  { cacheDev with
    mps := { st := 3 } :: List.replicate 7 {}
    twn := { st := .superseded } }

theorem supersededDev_reaches : supersededDev.unreachable (R.MPn_IO_DATA.DATA 0).ofs = none := by decide +kernel

/-- A superseded device sends nothing to the memory device, so the read ends in an error. -/
theorem supersededDev_ioErr : ((mpIoData .host 0 false 0 (some 7) supersededDev).mp 0).ioErr = true := by decide +kernel

@[simp] theorem settle_mp (d : Dev) (n : Nat) : (settle d).mp n = d.mp n := by simp [Dev.mp]

/-- Refutes O53 in its eleventh clause: no premise says that the device has not been superseded. One that has sends nothing (R221),
and a read of MPn_IO_DATA sets the error bit whatever answer is offered. -/
theorem not_memoryPortCommands : ¬ Obligations.MemoryPortCommands := by
  unfold Obligations.MemoryPortCommands
  rintro ⟨-, -, -, -, -, -, -, -, -, -, hread, -⟩
  obtain ⟨t, hrun, hport, -⟩ := hread .host 0 0 7 { dev := supersededDev } rfl (by decide) rfl (by decide) supersededDev_reaches rfl
  rw [exec_mpIoData, onDev_awake rfl] at hrun
  obtain rfl := Host.Outcome.next.inj hrun
  rw [State.setDev_dev, settle_mp] at hport
  have herr := supersededDev_ioErr
  rw [hport] at herr
  exact absurd herr (by decide)

end Sys2Proof.Machine
end

section
/-! SUPPORT. The Err of a refused Depart, and a write-back credit that its tag still owes (R155, R237). -/

namespace Sys2Proof.Machine

set_option Elab.async false

/-- The link of agent port 0 is ACTIVE with one RSP credit, and the write-back credit of tag 0 is still owed there. -/
def owingPort : Dev :=
  { cacheDev.set (portEN 0) 1 with
    ports := { st := 3, txSeq := 1, cRsp := 1 } :: List.replicate 31 {}
    cnf := { owedWb := [(0, 0, 0)] } }

/-- A Depart of tag 0 on port 0. -/
def departHead : Head := { port := 0, tag := 0, tph := false, addr := 0, widx := 0, oport := 0 }

theorem owingPort_refuses : owingPort.plain = true ∧ owingPort.portServes 0 = true ∧
    owingPort.inWindow (.agent 0) = false ∧
    owingPort.depCheck (owingPort.depAsked ⟨departHead, 1, 0, 0, 0, 0, owingPort.bel.now⟩) owingPort.bel.now = none := by
  decide +kernel

/-- The credit leaves with the Err. -/
theorem owingPort_returns : (depart departHead 1 0 0 0 0 owingPort).cnf.owedWb = [] := by decide +kernel

/-- Refutes O43 in its second clause: it says that the request pipeline's state is as before, but an Err that leaves at once takes with
it the write-back credit owed for its port and tag (R155), which is of that state. -/
theorem not_departCommands : ¬ Obligations.DepartCommands := by
  unfold Obligations.DepartCommands
  rintro ⟨-, hrefuse, -⟩
  obtain ⟨hplain, hserves, hwindow, hcheck⟩ := owingPort_refuses
  obtain ⟨t, hrun, -, -, -, hcnf⟩ := hrefuse departHead 1 0 0 0 0 { dev := owingPort } hplain rfl (by decide) hserves hwindow
    hcheck
  rw [exec_depart, onCore_runs rfl] at hrun
  obtain rfl := Host.Outcome.next.inj hrun
  rw [State.setDev_dev, settle_cnf] at hcnf
  have howed := congrArg (·.owedWb) hcnf
  simp only [owingPort_returns] at howed
  exact absurd howed (by decide)

end Sys2Proof.Machine
end

section
/-! SUPPORT. The symbol code: syndromes of a codeword, of one with a symbol in error, and of one that the encoder gives (R326 to
R328). -/

namespace Sys2Proof.Machine

set_option Elab.async false

/-! ## The field -/

/-- α^k times a value. -/
def gfShift (k a : Nat) : Nat := gfX^[k] a

@[simp] theorem gfShift_zero (a : Nat) : gfShift 0 a = a := rfl

theorem gfShift_succ (k a : Nat) : gfShift (k + 1) a = gfX (gfShift k a) := Function.iterate_succ_apply' gfX k a

theorem high_bit {a : Nat} (h : a < 256) : a / 128 = 0 ∨ a / 128 = 1 := by omega

/-- Multiplication by α is additive. -/
theorem gfX_xor {a b : Nat} (ha : a < 256) (hb : b < 256) : gfX (a ^^^ b) = gfX a ^^^ gfX b := by
  have hdouble : 2 * (a ^^^ b) = 2 * a ^^^ 2 * b := by
    simpa [Nat.shiftLeft_eq, Nat.mul_comm] using Nat.shiftLeft_xor_distrib (a := a) (b := b) (i := 1)
  have hhalf : (a ^^^ b) / 128 = a / 128 ^^^ b / 128 := by
    simpa [Nat.shiftRight_eq_div_pow] using Nat.shiftRight_xor_distrib (a := a) (b := b) (i := 7)
  have hpoly : (a / 128 ^^^ b / 128) * 0x11D = a / 128 * 0x11D ^^^ b / 128 * 0x11D := by
    rcases high_bit ha with h | h <;> rcases high_bit hb with k | k <;> rw [h, k] <;> rfl
  unfold gfX
  rw [hdouble, hhalf, hpoly]
  ac_rfl

theorem gfX_lt : ∀ a, a < 256 → gfX a < 256 := by decide +kernel

theorem xor_lt {a b : Nat} (ha : a < 256) (hb : b < 256) : a ^^^ b < 256 := Nat.xor_lt_two_pow (n := 8) ha hb

theorem gfShift_lt (k : Nat) {a : Nat} (ha : a < 256) : gfShift k a < 256 := by
  induction k with
  | zero => exact ha
  | succ k ih => rw [gfShift_succ]; exact gfX_lt _ ih

theorem gfShift_xor (k : Nat) {a b : Nat} (ha : a < 256) (hb : b < 256) :
    gfShift k (a ^^^ b) = gfShift k a ^^^ gfShift k b := by
  induction k with
  | zero => rfl
  | succ k ih => rw [gfShift_succ, gfShift_succ, gfShift_succ, ih, gfX_xor (gfShift_lt k ha) (gfShift_lt k hb)]

theorem gfPow_eq (k : Nat) : gfPow k = gfShift k 1 := by
  induction k with
  | zero => rfl
  | succ k ih => rw [gfPow, ih, gfShift_succ]

/-- The powers of α that the code uses multiply as repeated multiplication by α does. -/
theorem gfMul_gfPow : ∀ k, k < 10 → ∀ a, a < 256 → gfMul (gfPow k) a = gfShift k a := by decide +kernel

/-- gfK undoes α^8 + α^9. -/
theorem gfK_inverse : ∀ x, x < 256 → gfShift 8 (gfMul gfK x) ^^^ gfShift 9 (gfMul gfK x) = x := by decide +kernel

theorem gfMul_gfK_lt : ∀ x, x < 256 → gfMul gfK x < 256 := by decide +kernel

/-- A syndrome pair of one symbol in error names its position. -/
theorem errorAt_gfShift : ∀ i, i < 10 → ∀ v, v < 256 → 0 < v → errorAt v (gfShift i v) = some i := by decide +kernel

/-- No position is named by the poison pattern. -/
theorem errorAt_poison : errorAt 1 alpha128 = none := by decide +kernel

/-! ## Syndromes -/

theorem synd0_append (l m : List Nat) : synd0 (l ++ m) = synd0 l ^^^ synd0 m := by
  induction l with
  | nil => simp [synd0]
  | cons c l ih => simp only [List.cons_append, synd0, ih]; ac_rfl

theorem synd0_lt {l : List Nat} (h : ∀ x ∈ l, x < 256) : synd0 l < 256 := by
  induction l with
  | nil => simp [synd0]
  | cons c l ih =>
    obtain ⟨hc, hl⟩ := List.forall_mem_cons.mp h
    exact xor_lt hc (ih hl)

theorem synd1_lt {l : List Nat} (h : ∀ x ∈ l, x < 256) : synd1 l < 256 := by
  induction l with
  | nil => simp [synd1]
  | cons c l ih =>
    obtain ⟨hc, hl⟩ := List.forall_mem_cons.mp h
    exact xor_lt hc (gfX_lt _ (ih hl))

theorem synd1_append {l m : List Nat} (hl : ∀ x ∈ l, x < 256) (hm : ∀ x ∈ m, x < 256) :
    synd1 (l ++ m) = synd1 l ^^^ gfShift l.length (synd1 m) := by
  induction l with
  | nil => simp [synd1]
  | cons c l ih =>
    obtain ⟨-, htail⟩ := List.forall_mem_cons.mp hl
    have hshift := gfShift_lt l.length (synd1_lt hm)
    rw [List.cons_append, synd1, synd1, ih htail, gfX_xor (synd1_lt htail) hshift, List.length_cons, gfShift_succ]
    ac_rfl

/-! ## A symbol in error -/

theorem synd0_addAt {c : List Nat} {i : Nat} (v : Nat) (h : i < c.length) : synd0 (addAt c i v) = synd0 c ^^^ v := by
  induction c generalizing i with
  | nil => simp at h
  | cons x c ih =>
    cases i with
    | zero => simp only [addAt, synd0]; ac_rfl
    | succ i => simp only [addAt, synd0, ih (Nat.lt_of_succ_lt_succ h)]; ac_rfl

theorem synd1_addAt {c : List Nat} {i v : Nat} (hc : ∀ x ∈ c, x < 256) (hv : v < 256) (h : i < c.length) :
    synd1 (addAt c i v) = synd1 c ^^^ gfShift i v := by
  induction c generalizing i with
  | nil => simp at h
  | cons x c ih =>
    obtain ⟨-, htail⟩ := List.forall_mem_cons.mp hc
    cases i with
    | zero => simp only [addAt, synd1, gfShift_zero]; ac_rfl
    | succ i =>
      rw [addAt, synd1, synd1, ih htail (Nat.lt_of_succ_lt_succ h), gfX_xor (synd1_lt htail) (gfShift_lt i hv), gfShift_succ]
      ac_rfl

theorem addAt_addAt (c : List Nat) (i v : Nat) : addAt (addAt c i v) i v = c := by
  induction c generalizing i with
  | nil => rfl
  | cons x c ih =>
    cases i with
    | zero => simp [addAt]
    | succ i => simp [addAt, ih]

theorem addAt_zero (c : List Nat) (i : Nat) : addAt c i 0 = c := by
  induction c generalizing i with
  | nil => rfl
  | cons x c ih =>
    cases i with
    | zero => simp [addAt]
    | succ i => simp [addAt, ih]

/-! ## What the encoder gives -/

/-- The syndromes of a codeword written with poison, or without. -/
def poisonSynd0 (psn : Bool) : Nat := if psn then 1 else 0

/-- The second of them. -/
def poisonSynd1 (psn : Bool) : Nat := if psn then alpha128 else 0

theorem poisonSynd_lt (psn : Bool) : poisonSynd0 psn < 256 ∧ poisonSynd1 psn < 256 := by cases psn <;> decide

section
variable {data : List Nat} (psn : Bool) (hlen : data.length = 8) (hlt : ∀ x ∈ data, x < 256)

/-- The check symbols are symbols. -/
theorem encodeWord_checks (hlt : ∀ x ∈ data, x < 256) : ∃ a c9, a < 256 ∧ c9 < 256 ∧
    encodeWord data psn = data ++ [a ^^^ c9, c9] ∧ a = synd0 data ^^^ poisonSynd0 psn ∧
    gfShift 8 c9 ^^^ gfShift 9 c9 = synd1 data ^^^ poisonSynd1 psn ^^^ gfShift 8 a := by
  obtain ⟨h0, h1⟩ := poisonSynd_lt psn
  have ha := xor_lt (synd0_lt hlt) h0
  have hx : synd1 data ^^^ poisonSynd1 psn ^^^ gfMul (gfPow 8) (synd0 data ^^^ poisonSynd0 psn) < 256 := by
    rw [gfMul_gfPow 8 (by decide) _ ha]
    exact xor_lt (xor_lt (synd1_lt hlt) h1) (gfShift_lt 8 ha)
  refine ⟨synd0 data ^^^ poisonSynd0 psn, _, ha, gfMul_gfK_lt _ hx, rfl, rfl, ?_⟩
  rw [gfK_inverse _ hx, gfMul_gfPow 8 (by decide) _ ha]

theorem encodeWord_lt (hlt : ∀ x ∈ data, x < 256) : ∀ x ∈ encodeWord data psn, x < 256 := by
  obtain ⟨a, c9, ha, hc, heq, -, -⟩ := encodeWord_checks psn hlt
  rw [heq]
  intro x hx
  simp only [List.mem_append, List.mem_cons, List.not_mem_nil, or_false] at hx
  rcases hx with hx | rfl | rfl
  · exact hlt x hx
  · exact xor_lt ha hc
  · exact hc

include hlen in
theorem encodeWord_length : (encodeWord data psn).length = 10 := by simp [encodeWord, hlen]

theorem synd0_encodeWord (hlt : ∀ x ∈ data, x < 256) : synd0 (encodeWord data psn) = poisonSynd0 psn := by
  obtain ⟨a, c9, -, -, heq, ha, -⟩ := encodeWord_checks psn hlt
  rw [heq, synd0_append, ha]
  simp only [synd0, Nat.xor_zero]
  rw [Nat.xor_assoc _ c9 c9, Nat.xor_self, Nat.xor_zero, ← Nat.xor_assoc, Nat.xor_self, Nat.zero_xor]

include hlen hlt in
theorem synd1_encodeWord : synd1 (encodeWord data psn) = poisonSynd1 psn := by
  obtain ⟨a, c9, ha, hc, heq, -, hsum⟩ := encodeWord_checks psn hlt
  have hchecks : ∀ x ∈ [a ^^^ c9, c9], x < 256 := by simp [xor_lt ha hc, hc]
  have htail : synd1 [a ^^^ c9, c9] = a ^^^ (c9 ^^^ gfX c9) := by simp [synd1, gfX, Nat.xor_assoc]
  have hshift : gfShift 8 (a ^^^ (c9 ^^^ gfX c9)) = gfShift 8 a ^^^ (gfShift 8 c9 ^^^ gfShift 9 c9) := by
    rw [gfShift_xor 8 ha (xor_lt hc (gfX_lt _ hc)), gfShift_xor 8 hc (gfX_lt _ hc)]
    rfl
  rw [heq, synd1_append hlt hchecks, hlen, htail, hshift, hsum]
  calc synd1 data ^^^ (gfShift 8 a ^^^ (synd1 data ^^^ poisonSynd1 psn ^^^ gfShift 8 a))
      = (synd1 data ^^^ synd1 data) ^^^ (gfShift 8 a ^^^ gfShift 8 a) ^^^ poisonSynd1 psn := by ac_rfl
    _ = poisonSynd1 psn := by simp

/-- The syndromes of a codeword with one symbol changed. -/
theorem synd_addAt_encodeWord (hlen : data.length = 8) (hlt : ∀ x ∈ data, x < 256) {i v : Nat} (hi : i < 10) (hv : v < 256) :
    synd0 (addAt (encodeWord data psn) i v) = poisonSynd0 psn ^^^ v ∧
    synd1 (addAt (encodeWord data psn) i v) = poisonSynd1 psn ^^^ gfShift i v := by
  have hin : i < (encodeWord data psn).length := by rw [encodeWord_length psn hlen]; exact hi
  exact ⟨by rw [synd0_addAt v hin, synd0_encodeWord psn hlt],
    by rw [synd1_addAt (encodeWord_lt psn hlt) hv hin, synd1_encodeWord psn hlen hlt]⟩

/-- With a device erased, what its symbol holds drops out of the syndrome that is left. -/
theorem erased_syndrome (hlen : data.length = 8) (hlt : ∀ x ∈ data, x < 256) {k v : Nat} (hk : k < 10) (hv : v < 256) :
    synd1 (addAt (encodeWord data psn) k v) ^^^ gfMul (gfPow k) (synd0 (addAt (encodeWord data psn) k v)) =
      poisonSynd1 psn ^^^ gfShift k (poisonSynd0 psn) := by
  obtain ⟨h0, h1⟩ := synd_addAt_encodeWord psn hlen hlt hk hv
  have hp := (poisonSynd_lt psn).1
  rw [h0, h1, gfMul_gfPow k hk _ (xor_lt hp hv), gfShift_xor k hp hv]
  calc poisonSynd1 psn ^^^ gfShift k v ^^^ (gfShift k (poisonSynd0 psn) ^^^ gfShift k v)
      = poisonSynd1 psn ^^^ gfShift k (poisonSynd0 psn) ^^^ (gfShift k v ^^^ gfShift k v) := by ac_rfl
    _ = poisonSynd1 psn ^^^ gfShift k (poisonSynd0 psn) := by simp

end

/-! ## Decoding -/

section
variable {data : List Nat} (hlen : data.length = 8) (hlt : ∀ x ∈ data, x < 256)
include hlen hlt

theorem decodeWord_clean : decodeWord (encodeWord data false) = (.clean, encodeWord data false) :=
  if_pos ⟨synd0_encodeWord false hlt, synd1_encodeWord false hlen hlt⟩

theorem decodeWord_corrected {i v : Nat} (hi : i < 10) (hpos : 0 < v) (hv : v < 256) :
    decodeWord (addAt (encodeWord data false) i v) = (.corrected i, encodeWord data false) := by
  obtain ⟨h0, h1⟩ := synd_addAt_encodeWord false hlen hlt hi hv
  rw [show poisonSynd0 false ^^^ v = v from Nat.zero_xor v] at h0
  rw [show poisonSynd1 false ^^^ gfShift i v = gfShift i v from Nat.zero_xor _] at h1
  simp only [decodeWord, h0, h1, errorAt_gfShift i hi v hv hpos, Nat.ne_of_gt hpos, false_and, if_false, addAt_addAt]

theorem decodeWord_poison : decodeWord (encodeWord data true) = (.poison, encodeWord data true) := by
  have h0 : synd0 (encodeWord data true) = 1 := synd0_encodeWord true hlt
  have h1 : synd1 (encodeWord data true) = alpha128 := synd1_encodeWord true hlen hlt
  simp only [decodeWord, h0, h1, errorAt_poison]
  rfl

theorem decodeErased_restores {k v : Nat} (hk : k < 10) (hv : v < 256) :
    decodeErased k (addAt (encodeWord data false) k v) = (.clean, encodeWord data false) := by
  have hq := erased_syndrome false hlen hlt hk hv
  have hzero : gfShift k 0 = 0 := by
    have := gfShift_xor k (a := 0) (b := 0) (by decide) (by decide)
    simpa using this
  rw [show poisonSynd1 false ^^^ gfShift k (poisonSynd0 false) = gfShift k 0 from Nat.zero_xor _, hzero] at hq
  have h0 : synd0 (addAt (encodeWord data false) k v) = v :=
    (synd_addAt_encodeWord false hlen hlt hk hv).1.trans (Nat.zero_xor v)
  simp only [decodeErased, hq, if_true]
  rw [h0, addAt_addAt]

theorem decodeErased_poison {k v : Nat} (hk : k < 10) (hv : v < 256) :
    (decodeErased k (addAt (encodeWord data true) k v)).1 = .poison := by
  have hq := erased_syndrome true hlen hlt hk hv
  rw [show poisonSynd1 true ^^^ gfShift k (poisonSynd0 true) = alpha128 ^^^ gfPow k by rw [gfPow_eq]; rfl] at hq
  have hne : alpha128 ^^^ gfPow k ≠ 0 := by
    have hall : ∀ k, k < 10 → alpha128 ^^^ gfPow k ≠ 0 := by decide +kernel
    exact hall k hk
  simp only [decodeErased, hq, if_neg hne, if_true]

end

/-- Settles O58: the code is linear, so a codeword with a symbol changed has the syndromes of its poison pattern and of the change. -/
theorem codewordsDecode : Obligations.CodewordsDecode :=
  ⟨fun _ _ _ hlen hlt hi hpos hv => decodeWord_corrected hlen hlt hi hpos hv,
   fun _ hlen hlt => decodeWord_poison hlen hlt,
   fun _ _ _ hlen hlt hk hv => decodeErased_restores hlen hlt hk hv,
   fun _ _ _ hlen hlt hk hv => decodeErased_poison hlen hlt hk hv⟩

end Sys2Proof.Machine
end

section
/-! SUPPORT. Line slots, set headers and encoded lines read back (Tables CAC-3 and CAC-4, R327, R328, R331). -/

namespace Sys2Proof.Machine

set_option Elab.async false

/-! ## Line slots -/

theorem slotKey_inj {lane slot lane2 slot2 : Nat} (h : slot < 2 ^ 32) (h2 : slot2 < 2 ^ 32) :
    slotKey lane2 slot2 = slotKey lane slot ↔ lane2 = lane ∧ slot2 = slot := by
  unfold slotKey
  omega

theorem burst_putBurst_same (d : Dev) (lane slot : Nat) (b : Burst) : (d.putBurst lane slot b).burst lane slot = b := by
  unfold Dev.putBurst
  split
  · next hzero => simp [Dev.burst, bankGet_bankErase_same, hzero]
  · simp [Dev.burst]

theorem burst_putBurst_ne (d : Dev) {lane slot lane2 slot2 : Nat} (b : Burst) (h : slotKey lane2 slot2 ≠ slotKey lane slot) :
    (d.putBurst lane slot b).burst lane2 slot2 = d.burst lane2 slot2 := by
  unfold Dev.putBurst
  split
  · simp [Dev.burst, bankGet_bankErase_ne _ _ _ h]
  · simp [Dev.burst, bankGet_bankSet_ne _ _ _ _ h]

theorem burst_putBurst (d : Dev) {lane slot lane2 slot2 : Nat} (b : Burst) (h : slot < 2 ^ 32) (h2 : slot2 < 2 ^ 32) :
    (d.putBurst lane slot b).burst lane2 slot2 = if lane2 = lane ∧ slot2 = slot then b else d.burst lane2 slot2 := by
  split
  · next heq => rw [heq.1, heq.2, burst_putBurst_same]
  · next hne => exact burst_putBurst_ne d b (mt (slotKey_inj h h2).mp hne)

/-! ## Set headers -/

theorem wayPack_lt (w : Way) : w.pack < 2 ^ 56 := by
  have := w.tag.isLt
  have := w.v.isLt
  have := w.dty.isLt
  have := w.age.isLt
  unfold Way.pack
  split <;> split <;> omega

theorem wayUnpack_wayPack (w : Way) : Way.unpack w.pack = w := by
  obtain ⟨tag, v, dty, exc, str, age⟩ := w
  have := tag.isLt
  have := v.isLt
  have := dty.isLt
  have := age.isLt
  simp only [Way.unpack, Way.pack, Way.mk.injEq]
  refine ⟨?_, ?_, ?_, ?_, ?_, ?_⟩
  · apply BitVec.eq_of_toNat_eq; rw [BitVec.toNat_ofNat]; cases exc <;> cases str <;> simp <;> omega
  · apply BitVec.eq_of_toNat_eq; rw [BitVec.toNat_ofNat]; cases exc <;> cases str <;> simp <;> omega
  · apply BitVec.eq_of_toNat_eq; rw [BitVec.toNat_ofNat]; cases exc <;> cases str <;> simp <;> omega
  · rw [Nat.testBit_eq_decide_div_mod_eq]; cases exc <;> cases str <;> simp <;> omega
  · rw [Nat.testBit_eq_decide_div_mod_eq]; cases exc <;> cases str <;> simp <;> omega
  · apply BitVec.eq_of_toNat_eq; rw [BitVec.toNat_ofNat]; cases exc <;> cases str <;> simp <;> omega

theorem packWays_lt (l : List Way) : packWays l < 2 ^ (56 * l.length) := by
  induction l with
  | nil => simp [packWays]
  | cons w l ih =>
    have hw := wayPack_lt w
    rw [packWays, List.length_cons, Nat.mul_succ, Nat.pow_add, Nat.mul_comm (2 ^ (56 * l.length))]
    omega

theorem unpackWays_packWays (l : List Way) : unpackWays l.length (packWays l) = l := by
  induction l with
  | nil => rfl
  | cons w l ih =>
    have hw := wayPack_lt w
    rw [List.length_cons, unpackWays, packWays, Nat.add_mul_mod_self_left, Nat.mod_eq_of_lt hw, wayUnpack_wayPack,
      Nat.add_mul_div_left _ _ (by decide), Nat.div_eq_of_lt hw, Nat.zero_add, ih]

/-- Three parts of a number: its low bits, the next 32 bits, and the next 4. -/
theorem parts_of {k x s g : Nat} (hx : x < 2 ^ k) (hs : s < 2 ^ 32) (hg : g < 2 ^ 4) :
    x + s * 2 ^ k + g * 2 ^ (k + 32) < 2 ^ (k + 128) ∧ (x + s * 2 ^ k + g * 2 ^ (k + 32)) % 2 ^ k = x ∧
    (x + s * 2 ^ k + g * 2 ^ (k + 32)) / 2 ^ k % 2 ^ 32 = s ∧ (x + s * 2 ^ k + g * 2 ^ (k + 32)) / 2 ^ (k + 32) % 2 ^ 4 = g := by
  rw [Nat.pow_add, Nat.pow_add]
  generalize 2 ^ k = b at hx ⊢
  have hb : 0 < b := Nat.zero_lt_of_lt hx
  have hsum : x + s * b + g * (b * 2 ^ 32) = x + b * (s + 2 ^ 32 * g) := by ring
  have hdiv : (x + b * (s + 2 ^ 32 * g)) / b = s + 2 ^ 32 * g := by
    rw [Nat.add_mul_div_left _ _ hb, Nat.div_eq_of_lt hx, Nat.zero_add]
  rw [hsum]
  refine ⟨?_, ?_, ?_, ?_⟩
  · calc x + b * (s + 2 ^ 32 * g) < b + b * (s + 2 ^ 32 * g) := by omega
      _ = b * (1 + s + 2 ^ 32 * g) := by ring
      _ ≤ b * 2 ^ 128 := Nat.mul_le_mul_left b (by omega)
  · rw [Nat.add_mul_mod_self_left, Nat.mod_eq_of_lt hx]
  · rw [hdiv]; omega
  · rw [← Nat.div_div_eq_div_mul, hdiv]; omega

theorem packWays_lt_sixteen {l : List Way} (h : l.length = 16) : packWays l < 2 ^ 896 := by
  have hlt := packWays_lt l
  simpa only [h, Nat.reduceMul] using hlt

theorem toNat_headerPack {h : Header} (hlen : h.ways.length = 16) :
    h.pack.toNat = packWays h.ways + h.hseq.toNat * 2 ^ 896 + h.wgOff.toNat * 2 ^ 928 := by
  have hall := (parts_of (packWays_lt_sixteen hlen) h.hseq.isLt h.wgOff.isLt).1
  simp only [Nat.reduceAdd] at hall
  rw [Header.pack, BitVec.toNat_ofNat]
  exact Nat.mod_eq_of_lt hall

theorem Header.unpack_pack {h : Header} (hlen : h.ways.length = 16) : Header.unpack h.pack = h := by
  obtain ⟨-, hlow, hmid, hhigh⟩ := parts_of (packWays_lt_sixteen hlen) h.hseq.isLt h.wgOff.isLt
  simp only [Nat.reduceAdd] at hlow hmid hhigh
  have hways : unpackWays 16 (packWays h.ways) = h.ways := by
    have hback := unpackWays_packWays h.ways
    rwa [hlen] at hback
  have hseq := BitVec.eq_of_toNat_eq (x := BitVec.ofNat 32 (h.pack.toNat / 2 ^ 896)) (y := h.hseq)
    (by rw [BitVec.toNat_ofNat, toNat_headerPack hlen, hmid])
  have hoff := BitVec.eq_of_toNat_eq (x := BitVec.ofNat 4 (h.pack.toNat / 2 ^ 928)) (y := h.wgOff)
    (by rw [BitVec.toNat_ofNat, toNat_headerPack hlen, hhigh])
  rw [Header.unpack, hseq, hoff, toNat_headerPack hlen, hlow, hways]

/-! ## Encoded lines -/

theorem symbolsOf_length (n x : Nat) : (symbolsOf n x).length = n := by
  induction n generalizing x with
  | zero => rfl
  | succ n ih => simp [symbolsOf, ih]

theorem symbolsOf_lt (n x : Nat) : ∀ y ∈ symbolsOf n x, y < 256 := by
  induction n generalizing x with
  | zero => simp [symbolsOf]
  | succ n ih => exact List.forall_mem_cons.mpr ⟨Nat.mod_lt _ (by decide), ih _⟩

theorem numOf_lt {l : List Nat} (h : ∀ y ∈ l, y < 256) : numOf l < 2 ^ (8 * l.length) := by
  induction l with
  | nil => simp [numOf]
  | cons c l ih =>
    obtain ⟨hc, hl⟩ := List.forall_mem_cons.mp h
    have := ih hl
    rw [numOf, List.length_cons, Nat.mul_succ, Nat.pow_add, Nat.mul_comm (2 ^ (8 * l.length))]
    omega

theorem symbolsOf_numOf {l : List Nat} (h : ∀ y ∈ l, y < 256) : symbolsOf l.length (numOf l) = l := by
  induction l with
  | nil => rfl
  | cons c l ih =>
    obtain ⟨hc, hl⟩ := List.forall_mem_cons.mp h
    rw [List.length_cons, symbolsOf, numOf, Nat.add_mul_mod_self_left, Nat.mod_eq_of_lt hc,
      Nat.add_mul_div_left _ _ (by decide), Nat.div_eq_of_lt hc, Nat.zero_add, ih hl]

theorem numOf_symbolsOf (n x : Nat) : numOf (symbolsOf n x) = x % 2 ^ (8 * n) := by
  induction n generalizing x with
  | zero => simp [symbolsOf, numOf, Nat.mod_one]
  | succ n ih =>
    rw [symbolsOf, numOf, ih, Nat.mul_succ, Nat.add_comm (8 * n) 8, Nat.pow_add, Nat.mod_mul]

/-- A group of n symbols. -/
def isGroup (n : Nat) (g : List Nat) : Prop := g.length = n ∧ ∀ y ∈ g, y < 256

theorem isGroup_symbolsOf (n x : Nat) : isGroup n (symbolsOf n x) := ⟨symbolsOf_length n x, symbolsOf_lt n x⟩

theorem symbolsOf_mod (n x : Nat) : symbolsOf n (x % 2 ^ (8 * n)) = symbolsOf n x := by
  rw [← numOf_symbolsOf]
  conv_lhs => rw [← symbolsOf_length n x]
  rw [symbolsOf_length]
  have h := symbolsOf_numOf (symbolsOf_lt n x)
  rwa [symbolsOf_length] at h

theorem groupsOf_joinGroups {n : Nat} {l : List (List Nat)} (h : ∀ g ∈ l, isGroup n g) :
    groupsOf n l.length (joinGroups n l) = l := by
  induction l with
  | nil => rfl
  | cons g l ih =>
    obtain ⟨⟨hlen, hlt⟩, hl⟩ := List.forall_mem_cons.mp h
    have hg : numOf g < 2 ^ (8 * n) := by have := numOf_lt hlt; rwa [hlen] at this
    have hfirst : symbolsOf n (numOf g + 2 ^ (8 * n) * joinGroups n l) = g := by
      rw [← symbolsOf_mod, Nat.add_mul_mod_self_left, Nat.mod_eq_of_lt hg, ← hlen, symbolsOf_numOf hlt]
    rw [List.length_cons, groupsOf, joinGroups, hfirst, Nat.add_mul_div_left _ _ (Nat.two_pow_pos _), Nat.div_eq_of_lt hg,
      Nat.zero_add, ih hl]

theorem joinGroups_groupsOf (n j x : Nat) : joinGroups n (groupsOf n j x) = x % 2 ^ (8 * n * j) := by
  induction j generalizing x with
  | zero => simp [groupsOf, joinGroups, Nat.mod_one]
  | succ j ih =>
    rw [groupsOf, joinGroups, numOf_symbolsOf, ih, Nat.mul_succ, Nat.add_comm (8 * n * j), Nat.pow_add, Nat.mod_mul]

theorem joinGroups_lt {n : Nat} {l : List (List Nat)} (h : ∀ g ∈ l, isGroup n g) : joinGroups n l < 2 ^ (8 * n * l.length) := by
  induction l with
  | nil => simp [joinGroups]
  | cons g l ih =>
    obtain ⟨⟨hlen, hlt⟩, hl⟩ := List.forall_mem_cons.mp h
    have hg : numOf g < 2 ^ (8 * n) := by have := numOf_lt hlt; rwa [hlen] at this
    have hrest := Nat.mul_le_mul_left (2 ^ (8 * n)) (Nat.succ_le_of_lt (ih hl))
    rw [joinGroups, List.length_cons, Nat.mul_succ, Nat.add_comm (8 * n * l.length), Nat.pow_add]
    rw [Nat.mul_succ] at hrest
    omega

theorem groupsOf_length (n j x : Nat) : (groupsOf n j x).length = j := by
  induction j generalizing x with
  | zero => rfl
  | succ j ih => simp [groupsOf, ih]

theorem groupsOf_isGroup (n j x : Nat) : ∀ g ∈ groupsOf n j x, isGroup n g := by
  induction j generalizing x with
  | zero => simp [groupsOf]
  | succ j ih => exact List.forall_mem_cons.mpr ⟨isGroup_symbolsOf n x, ih _⟩

/-- The class of a codeword as it was written. -/
def writtenClass (psn : Bool) : WordClass := if psn then .poison else .clean

theorem decodeWord_encodeWord {g : List Nat} (psn : Bool) (h : isGroup 8 g) :
    decodeWord (encodeWord g psn) = (writtenClass psn, encodeWord g psn) := by
  cases psn with
  | false => exact decodeWord_clean h.1 h.2
  | true => exact decodeWord_poison h.1 h.2

/-- The codewords of a line. -/
def lineWords (data : LineData) (psn : Bool) : List (List Nat) := (groupsOf 8 16 data.toNat).map (fun g => encodeWord g psn)

theorem lineWords_length (data : LineData) (psn : Bool) : (lineWords data psn).length = 16 := by
  rw [lineWords, List.length_map, groupsOf_length]

theorem lineWords_isGroup (data : LineData) (psn : Bool) : ∀ w ∈ lineWords data psn, isGroup 10 w := by
  intro w hw
  obtain ⟨g, hg, rfl⟩ := List.mem_map.mp hw
  obtain ⟨hlen, hlt⟩ := groupsOf_isGroup 8 16 _ g hg
  exact ⟨encodeWord_length psn hlen, encodeWord_lt psn hlt⟩

theorem groupsOf_encodeLine (data : LineData) (psn : Bool) :
    groupsOf 10 16 (encodeLine data psn).toNat = lineWords data psn := by
  have hlt := joinGroups_lt (lineWords_isGroup data psn)
  simp only [lineWords_length, Nat.reduceMul] at hlt
  have hback := groupsOf_joinGroups (lineWords_isGroup data psn)
  rw [lineWords_length] at hback
  have hline : (encodeLine data psn).toNat = joinGroups 10 (lineWords data psn) := Nat.mod_eq_of_lt hlt
  rw [hline, hback]

theorem take_encodeWord {g : List Nat} (psn : Bool) (h : g.length = 8) : (encodeWord g psn).take 8 = g := by
  simp [encodeWord, ← h]

theorem lineWords_data (data : LineData) (psn : Bool) :
    BitVec.ofNat 1024 (joinGroups 8 ((lineWords data psn).map (·.take 8))) = data := by
  have htake : (lineWords data psn).map (·.take 8) = groupsOf 8 16 data.toNat := by
    rw [lineWords, List.map_map]
    conv_rhs => rw [← List.map_id (groupsOf 8 16 data.toNat)]
    exact List.map_congr_left (fun g hg => take_encodeWord psn (groupsOf_isGroup 8 16 _ g hg).1)
  apply BitVec.eq_of_toNat_eq
  rw [htake, joinGroups_groupsOf, BitVec.toNat_ofNat]
  have := data.isLt
  omega

theorem lineWords_decode (data : LineData) (psn : Bool) :
    (lineWords data psn).map decodeWord = (lineWords data psn).map (fun w => (writtenClass psn, w)) := by
  apply List.map_congr_left
  intro w hw
  obtain ⟨g, hg, rfl⟩ := List.mem_map.mp hw
  exact decodeWord_encodeWord psn (groupsOf_isGroup 8 16 _ g hg)

theorem lineOut_written (psn : Bool) : lineOut (List.replicate 16 (writtenClass psn)) = if psn then .poison else .clean := by
  cases psn <;> decide

theorem decodeLine_encodeLine (data : LineData) (psn : Bool) :
    decodeLine (encodeLine data psn) none = ⟨if psn then .poison else .clean, data, []⟩ := by
  have hclass : ((lineWords data psn).map (fun w => (writtenClass psn, w))).map (·.1) = List.replicate 16 (writtenClass psn) := by
    rw [List.map_map, ← lineWords_length data psn]
    exact List.map_const' ..
  have hwords : ((lineWords data psn).map (fun w => (writtenClass psn, w))).map (·.2) = lineWords data psn := by
    rw [List.map_map]; exact List.map_id _
  have hhit : ((lineWords data psn).map (fun w => (writtenClass psn, w))).filterMap (fun w => w.1.at?) = [] := by
    rw [List.filterMap_map]
    exact List.filterMap_eq_nil_iff.mpr (fun w _ => by cases psn <;> rfl)
  unfold decodeLine
  simp only [groupsOf_encodeLine, lineWords_decode, hclass, lineOut_written, hwords, hhit]
  have hok : (if psn then LineOut.poison else LineOut.clean) ≠ .uncorrectable := by cases psn <;> decide
  rw [if_neg hok, lineWords_data]
  rfl

/-- Settles O57. -/
theorem storeReadsBack : Obligations.StoreReadsBack :=
  ⟨fun d _ _ _ _ b h h2 => burst_putBurst d b h h2, fun _ hlen => Header.unpack_pack hlen, decodeLine_encodeLine⟩

end Sys2Proof.Machine
end

section
/-! SUPPORT. The reset pins and boundary scan (R457 to R459, R519, R563). -/

namespace Sys2Proof.Machine

set_option Elab.async false

theorem onDevAlways_runs (s : State) (f : Dev → Dev) : onDevAlways s f = .next (s.setDev (settle (f s.dev))) := rfl

/-- Driving pins changes nothing but what has been driven. -/
theorem foldl_emit (l : List Out) (d : Dev) : l.foldl Dev.emit d = { d with sent := l.reverse ++ d.sent } := by
  induction l generalizing d with
  | nil => rfl
  | cons o l ih => simp [ih, Dev.emit]

theorem pinsReset_eq (d : Dev) (host : Bool) : d.pinsReset host = { d with sent := (resetPins host).reverse ++ d.sent } :=
  foldl_emit (resetPins host) d

/-- The device in Cold that RST_N low leaves. -/
theorem rstNLow_fields (ok : Bool) (d : Dev) :
    (rstNLow ok d).gcr = { (d.held .cold (ok && d.gcr.pwrOk)).gcr with rstN := false, pwrOk := ok && d.gcr.pwrOk } ∧
    (rstNLow ok d).regs = [] ∧ (rstNLow ok d).cnf.txns = [] ∧ (rstNLow ok d).store = [] ∧
    (rstNLow ok d).chn.addr = if ok && d.gcr.pwrOk then d.chn.addr else 0 := by
  unfold rstNLow
  cases ok && d.gcr.pwrOk with
  | false => exact ⟨rfl, rfl, rfl, rfl, rfl⟩
  | true => simp [pinsReset_eq, Dev.held]

theorem rstNLow_statement (ok : Bool) (s : State) :
    ∃ t, exec (.rstNLow ok) s = .next t ∧ t.dev.gcr.mode = .cold ∧ t.dev.gcr.rstN = false ∧
      t.dev.gcr.pwrOk = (ok && s.dev.gcr.pwrOk) ∧ t.dev.regs = [] ∧ t.dev.cnf.txns = [] ∧ t.dev.store = [] ∧
      t.dev.chn.addr = (if ok && s.dev.gcr.pwrOk then s.dev.chn.addr else 0) := by
  obtain ⟨hgcr, hregs, htxns, hstore, haddr⟩ := rstNLow_fields ok s.dev
  refine ⟨_, exec_rstNLow ok s, ?_⟩
  simp only [State.setDev_dev, settle_gcr, settle_regs, settle_cnf, settle_store, settle_chn, hgcr, hregs, htxns, hstore, haddr]
  simp [Dev.held]

theorem pwrOkRise_statement (s : State) (h : s.dev.gcr.mode = .cold) :
    ∃ t, exec .pwrOkRise s = .next t ∧ t.dev.gcr = { s.dev.gcr with pwrOk := true } := by
  refine ⟨_, exec_pwrOkRise s, ?_⟩
  simp only [State.setDev_dev, settle_gcr, pwrOkRise, if_pos h, pinsReset_eq]

theorem resetRelease_statement (role : Role) (side head : Bool) (s : State) (h : s.dev.gcr.mode = .cold)
    (hp : s.dev.gcr.pwrOk = true) :
    ∃ t, exec (.resetRelease role side head) s = .next t ∧ t.dev.gcr.mode = .boot ∧ t.dev.gcr.rstN = true ∧
      t.dev.gcr.role = role ∧ t.dev.gcr.side = side ∧ t.dev.gcr.headStrap = head ∧ t.dev.chn.head = head ∧
      t.dev.chn.addr = s.dev.chn.addr ∧ t.dev.regs = [] ∧ t.dev.dir.ents = [] := by
  refine ⟨_, exec_resetRelease role side head s, ?_⟩
  simp only [State.setDev_dev, settle_gcr, settle_regs, settle_chn, settle_dir, resetRelease, if_pos (And.intro h hp)]
  exact ⟨rfl, rfl, rfl, rfl, rfl, rfl, rfl, rfl, rfl⟩

theorem boundaryScan_statement (k : Tap) (s : State) :
    ∃ t, exec (.boundaryScan k) s = .next t ∧ t.dev.gcr = { s.dev.gcr with tap := k } ∧ t.dev.regs = s.dev.regs ∧
      (k = .idcode → t.dev.drove s.dev (.tdo idcode)) ∧ (k = .bypass → t.dev.drove s.dev (.tdo 0)) := by
  refine ⟨_, exec_boundaryScan k s, ?_, ?_, ?_, ?_⟩
  · rw [State.setDev_dev, settle_gcr]
    cases k <;> rfl
  · rw [State.setDev_dev, settle_regs]
    cases k <;> rfl
  · rintro rfl
    exact drove_settle_emit (t := { s.dev with gcr := { s.dev.gcr with tap := .idcode } }) _ (List.suffix_refl _)
  · rintro rfl
    exact drove_settle_emit (t := { s.dev with gcr := { s.dev.gcr with tap := .bypass } }) _ (List.suffix_refl _)

/-- Settles O19. -/
theorem resetPins_act : Obligations.ResetPins :=
  ⟨rstNLow_statement, pwrOkRise_statement, resetRelease_statement, boundaryScan_statement⟩

end Sys2Proof.Machine
end

section
/-! SUPPORT. Register reads of 4 bytes, plain writes, and the bits they clear or store (R494, R495, R499, R505). -/

namespace Sys2Proof.Machine

set_option Elab.async false

/-! ## Bits of a register -/

theorem emit_raw (d : Dev) (o : Out) (ofs : Nat) : (d.emit o).raw ofs = d.raw ofs := rfl

theorem emit_regs (d : Dev) (o : Out) : (d.emit o).regs = d.regs := rfl

/-- The 32-bit complement of a mask. -/
theorem testBit_complement (m b : Nat) (h : b < 32) : (m ^^^ 0xFFFFFFFF).testBit b = !m.testBit b := by
  have hones : (0xFFFFFFFF : Nat) = 2 ^ 32 - 1 := rfl
  rw [Nat.testBit_xor, hones, Nat.testBit_two_pow_sub_one]
  simp [h]

/-- A word with the bits of a mask cleared. -/
theorem getLsbD_cleared (w : Word) (m b : Nat) (h : b < 32) :
    (BitVec.ofNat 32 (w.toNat &&& (m ^^^ 0xFFFFFFFF))).getLsbD b = (w.getLsbD b && !m.testBit b) := by
  rw [BitVec.getLsbD_ofNat, Nat.testBit_and, testBit_complement m b h, BitVec.testBit_toNat]
  simp [h]

/-- A word with the bits of a mask taken from another. -/
theorem merge_eq_or (w v : Word) (m : Nat) :
    BitVec.ofNat 32 ((w.toNat &&& (m ^^^ 0xFFFFFFFF)) + (v.toNat &&& m)) =
      BitVec.ofNat 32 (w.toNat &&& (m ^^^ 0xFFFFFFFF)) ||| BitVec.ofNat 32 (v.toNat &&& m) := by
  rw [BitVec.ofNat_add]
  apply BitVec.add_eq_or_of_and_eq_zero
  apply BitVec.eq_of_getLsbD_eq
  intro b hb
  rw [BitVec.getLsbD_and, getLsbD_cleared w m b hb, BitVec.getLsbD_ofNat, Nat.testBit_and, BitVec.getLsbD_zero]
  cases m.testBit b <;> simp

theorem getLsbD_merged (w v : Word) (m b : Nat) (h : b < 32) :
    (BitVec.ofNat 32 ((w.toNat &&& (m ^^^ 0xFFFFFFFF)) + (v.toNat &&& m))).getLsbD b =
      if m.testBit b then v.getLsbD b else w.getLsbD b := by
  rw [merge_eq_or, BitVec.getLsbD_or, getLsbD_cleared w m b h, BitVec.getLsbD_ofNat, Nat.testBit_and, BitVec.testBit_toNat]
  cases m.testBit b <;> simp [h]

/-- A plain write stores the bits that take a value. -/
theorem plainWrite_takes (d : Dev) {ofs b : Nat} (v : Word) (hb : b < 32) (h : takesBit ofs b = true) :
    ((d.plainWrite ofs v).raw ofs).getLsbD b = v.getLsbD b := by
  unfold takesBit at h
  unfold Dev.plainWrite
  split at h
  · next r hr => simp only [raw_setRaw_same, getLsbD_merged _ _ _ _ hb, h, if_true]
  · exact absurd h nofun

theorem plainWrite_raw_ne (d : Dev) {ofs p : Nat} (v : Word) (h : p ≠ ofs) : (d.plainWrite ofs v).raw p = d.raw p := by
  unfold Dev.plainWrite
  split
  · exact raw_setRaw_ne d ofs p _ h
  · rfl

/-! ## The access registers -/

theorem acc_setAcc (d : Dev) (src : Src) (a : Acc1) : (d.setAcc src a).acc src = a := by cases src <;> rfl

theorem setAcc_regs (d : Dev) (src : Src) (a : Acc1) : (d.setAcc src a).regs = d.regs := by cases src <;> rfl

theorem setAcc_sent (d : Dev) (src : Src) (a : Acc1) : (d.setAcc src a).sent = d.sent := by cases src <;> rfl

theorem setRaw_acc (d : Dev) (src : Src) (o : Nat) (w : Word) : (d.setRaw o w).acc src = d.acc src := by cases src <;> rfl

theorem emit_acc (d : Dev) (src : Src) (o : Out) : (d.emit o).acc src = d.acc src := by cases src <;> rfl

@[simp] theorem settle_acc (d : Dev) (src : Src) : (settle d).acc src = d.acc src := by cases src <;> simp [Dev.acc]

/-! ## Reads -/

theorem set_sent (d : Dev) (f : FieldRef) (v : Nat) : (d.set f v).sent = d.sent := rfl

theorem busErr_sent (d : Dev) (src : Src) (ofs : Nat) (w : Bool) (k : Nat) :
    (d.busErr src ofs w k).sent = .busErr src k :: d.sent := by
  unfold Dev.busErr
  rw [Dev.emit_sent]
  congr 1
  unfold Dev.raiseIf
  split <;> rfl

/-- A command that ends in a bus error tells its source, and writes the record alone. -/
theorem busErr_outcome (d : Dev) (src : Src) (ofs : Nat) (w : Bool) (k : Nat) :
    (settle (d.busErr src ofs w k)).drove d (.busErr src k) ∧
      (settle (d.busErr src ofs w k)).regs = (d.busErr src ofs w k).regs :=
  ⟨drove_settle (drove_of_append (l := [.busErr src k]) (busErr_sent ..) (by simp)) ⟨[.busErr src k], (busErr_sent ..).symm⟩,
   settle_regs _⟩

section
variable {d : Dev} {ofs : Nat} (src : Src) (hofs : ofs < 0x400000) (hal : ofs % 4 = 0) (hacc : d.accessCause ofs = none)
  (hm : isMsix ofs = false) (hq : queOf ofs = none) (hio : ioOf ofs = none)
include hofs hal

/-- A read that meets no bus error returns what the register's read gives. -/
theorem readOut_ok (hacc : d.accessCause ofs = none) :
    d.readOut src ofs = (d.doRead src ofs).2.emit (.regVal src (d.doRead src ofs).1) := by
  simp [Dev.readOut, Dev.read4, Nat.not_le.mpr hofs, hal, hacc]

theorem readOut_busErr {c : Nat} (hacc : d.accessCause ofs = some c) : d.readOut src ofs = d.busErr src ofs false c := by
  simp [Dev.readOut, Dev.read4, Nat.not_le.mpr hofs, hal, hacc]

omit hofs hal
include hm hq hio

/-- A read of a register that is no half of a pair clears its RC bits. -/
theorem doRead_whole (hh : halfAt ofs = .no) : (d.doRead src ofs).1 = d.regValue ofs ∧ (d.doRead src ofs).2.sent = d.sent ∧
    ∀ b, b < 32 → ((d.doRead src ofs).2.raw ofs).getLsbD b = ((d.raw ofs).getLsbD b && !clearsOnRead ofs b) := by
  unfold Dev.doRead clearsOnRead
  simp only [hm, hq, hio, hh, Bool.false_eq_true, if_false]
  cases hr : rowAt ofs with
  | none => simp
  | some r =>
    by_cases hzero : r.maskOf (fun a => a == .rc) = 0
    · simp [hzero]
    · simp only [if_neg hzero, raw_setRaw_same]
      exact ⟨trivial, rfl, fun b hb => getLsbD_cleared _ _ b hb⟩

/-- A read of a low half latches the high half for its source. -/
theorem doRead_low (hh : halfAt ofs = .lo) :
    d.doRead src ofs = (d.regValue ofs, d.setAcc src { d.acc src with shadow := some (ofs, d.regValue (ofs + 4)) }) := by
  simp only [Dev.doRead, hm, hq, hio, hh, Bool.false_eq_true, if_false]

end

/-! ## Event registers -/

/-- The offset of page k's _EVT register. -/
def evtOfs (k : Nat) : Nat := 0x1000 * k + 0xC

theorem evtOfs_half : ∀ k, k < 0x400 → halfAt (evtOfs k) = .no := by decide +kernel

/-- Every page lies at its base. -/
def baseAt (k : Nat) : Bool := match pageAt (evtOfs k) with | some (p, n) => p.base n == 0x1000 * k | none => true

theorem baseAt_true : ∀ k, k < 0x400 → baseAt k = true := by decide +kernel

/-- An event register reads as it is held. -/
theorem evtOfs_value (d : Dev) {k : Nat} (hk : k < 0x400) (h : (rowAt (evtOfs k)).isSome) : d.regValue (evtOfs k) = d.raw (evtOfs k) := by
  have hbase := baseAt_true k hk
  unfold baseAt at hbase
  unfold rowAt at h
  unfold Dev.regValue
  cases hp : pageAt (evtOfs k) with
  | none => simp [hp] at h
  | some q =>
    obtain ⟨p, n⟩ := q
    have hoff : evtOfs k % 0x1000 = 0xC := by unfold evtOfs; omega
    simp only [hp, beq_iff_eq] at hbase
    simp only [hoff, Dev.headerView, hbase]
    rfl

theorem evtOfs_apart (k : Nat) : isMsix (evtOfs k) = false ∧ queOf (evtOfs k) = none ∧ ioOf (evtOfs k) = none := by
  unfold isMsix queOf ioOf evtOfs
  refine ⟨?_, if_neg ?_, if_neg ?_⟩
  · simp only [Bool.and_eq_false_iff, decide_eq_false_iff_not]
    omega
  · omega
  · omega

theorem row_of_access {d : Dev} {ofs : Nat} (h : d.accessCause ofs = none) (hm : isMsix ofs = false) : (rowAt ofs).isSome := by
  unfold Dev.accessCause at h
  cases hr : rowAt ofs with
  | some r => rfl
  | none => simp [hr, hm] at h

/-! ## The read commands -/

theorem wholeRead_statement (src : Src) (ofs : Nat) (d : Dev) (hofs : ofs < 0x400000) (hal : ofs % 4 = 0)
    (hacc : d.accessCause ofs = none) (hm : isMsix ofs = false) (hq : queOf ofs = none) (hio : ioOf ofs = none)
    (hh : halfAt ofs = .no) :
    (settle (d.readOut src ofs)).drove d (.regVal src (d.regValue ofs)) ∧
      ∀ b, b < 32 → ((settle (d.readOut src ofs)).raw ofs).getLsbD b = ((d.raw ofs).getLsbD b && !clearsOnRead ofs b) := by
  obtain ⟨hval, hsent, hbits⟩ := doRead_whole src hm hq hio hh (d := d)
  rw [readOut_ok src hofs hal hacc, hval]
  refine ⟨drove_settle_emit _ (by rw [hsent]), fun b hb => ?_⟩
  rw [settle_raw, emit_raw]
  exact hbits b hb

theorem evtRead_statement (src : Src) (page : Nat) (s : State) (ha : s.dev.awake = true) (hp : page < 0x400000)
    (hal : page % 0x1000 = 0) (hacc : s.dev.accessCause (page + 0xC) = none) :
    ∃ t, exec (.evtRead src page) s = .next t ∧ t.dev.drove s.dev (.regVal src (s.dev.raw (page + 0xC))) ∧
      ∀ b, b < 32 → (t.dev.raw (page + 0xC)).getLsbD b =
        ((s.dev.raw (page + 0xC)).getLsbD b && !clearsOnRead (page + 0xC) b) := by
  obtain ⟨k, hk, rfl⟩ : ∃ k, k < 0x400 ∧ page = 0x1000 * k := ⟨page / 0x1000, by omega, by omega⟩
  obtain ⟨hm, hq, hio⟩ := evtOfs_apart k
  have hread := wholeRead_statement src (evtOfs k) s.dev (by unfold evtOfs; omega) (by unfold evtOfs; omega) hacc hm hq hio
    (evtOfs_half k hk)
  rw [evtOfs_value s.dev hk (row_of_access hacc hm)] at hread
  exact ⟨_, (exec_evtRead ..).trans (onDev_awake ha _), hread⟩

theorem loRead_statement (src : Src) (ofs : Nat) (s : State) (ha : s.dev.awake = true) (hofs : ofs < 0x400000)
    (hal : ofs % 4 = 0) (hacc : s.dev.accessCause ofs = none) (hm : isMsix ofs = false) (hq : queOf ofs = none)
    (hio : ioOf ofs = none) (hh : halfAt ofs = .lo) :
    ∃ t, exec (.loRead src ofs) s = .next t ∧ t.dev.drove s.dev (.regVal src (s.dev.regValue ofs)) ∧
      (t.dev.acc src).shadow = some (ofs, s.dev.regValue (ofs + 4)) ∧ t.dev.regs = s.dev.regs := by
  refine ⟨_, (exec_loRead ..).trans (onDev_awake ha _), ?_⟩
  simp only [State.setDev_dev]
  rw [readOut_ok src hofs hal hacc, doRead_low src hm hq hio hh]
  refine ⟨drove_settle_emit _ (by rw [setAcc_sent]), ?_, ?_⟩
  · rw [settle_acc, emit_acc, acc_setAcc]
  · rw [settle_regs, emit_regs, setAcc_regs]

theorem readBusError_size (src : Src) (ofs size c : Nat) (d : Dev)
    (h : (if inAliases ofs && Nat.ble size 8 then d.aliasCause ofs size else sizeCause false ofs size) = some c) :
    readBusError src ofs size d = d.busErr src ofs false c := by
  unfold readBusError
  split
  · next halias => rw [if_pos halias] at h; simp [h]
  · next hplain => rw [if_neg hplain] at h; simp [Dev.readFails, Dev.readSized, h]

/-- Offsets whose 4-byte accesses fit lie below the alias window, at multiples of 4. -/
theorem sizeCause_four {w : Bool} {ofs : Nat} (h : sizeCause w ofs 4 = none) (hm : isMsix ofs = false) :
    ofs < 0x400000 ∧ ofs % 4 = 0 := by
  unfold sizeCause at h
  simp only [hm] at h
  by_cases hofs : 0x400000 ≤ ofs
  · simp [hofs] at h
  · by_cases hal : ofs % 4 = 0
    · exact ⟨Nat.not_le.mp hofs, hal⟩
    · simp [hofs, hal] at h

theorem readBusError_access (src : Src) (ofs c : Nat) (d : Dev) (hs : sizeCause false ofs 4 = none) (hm : isMsix ofs = false)
    (h : d.accessCause ofs = some c) : readBusError src ofs 4 d = d.busErr src ofs false c := by
  obtain ⟨hofs, hal⟩ := sizeCause_four hs hm
  have hbelow : inAliases ofs = false := by
    rw [inAliases, Bool.and_eq_false_iff]
    exact .inl (Bool.eq_false_iff.mpr (fun hle => absurd (Nat.ble_eq.mp hle) (by omega)))
  simp only [readBusError, hbelow, Dev.readFails, Dev.readSized, hs, hm, h, Bool.false_and, Bool.false_eq_true, if_false,
    Option.isSome_none, Bool.false_or, if_true, Option.isSome_some, readOut_busErr src hofs hal h]

/-- Settles O23. -/
theorem registerReads : Obligations.RegisterReads := by
  refine ⟨evtRead_statement, fun src ofs s ha hofs hal hacc hm hq hio hh => ?_, loRead_statement,
    fun src ofs size c s ha h => ?_, fun src ofs c s ha hs hm h => ?_, fun src ofs w p n s ha hp => ?_⟩
  · exact ⟨_, (exec_rcRead ..).trans (onDev_awake ha _), wholeRead_statement src ofs s.dev hofs hal hacc hm hq hio hh⟩
  · refine ⟨_, (exec_readBusError ..).trans (onDev_awake ha _), ?_⟩
    rw [State.setDev_dev, readBusError_size src ofs size c s.dev h]
    exact busErr_outcome ..
  · refine ⟨_, (exec_readBusError ..).trans (onDev_awake ha _), ?_⟩
    rw [State.setDev_dev, readBusError_access src ofs c s.dev hs hm h]
    exact busErr_outcome ..
  · refine ⟨_, (exec_watchdogTimeout ..).trans (onDev_awake ha _), ?_⟩
    rw [State.setDev_dev, watchdogTimeout, hp]
    exact busErr_outcome ..

end Sys2Proof.Machine
end

section
/-! SUPPORT. 64-bit pairs and the bit-alias window (R503 to R506). -/

namespace Sys2Proof.Machine

set_option Elab.async false

/-! ## Writes -/

section
variable {d : Dev} {ofs : Nat} (src : Src) (v : Word) (hofs : ofs < 0x400000) (hal : ofs % 4 = 0)
include hofs hal

/-- A write that meets no bus error has its effect and completes. -/
theorem writeOut_ok (h : d.writeCause ofs v = none) : d.writeOut src ofs v = (d.doWrite src ofs v).emit (.regOk src) := by
  simp [Dev.writeOut, Dev.write4, Nat.not_le.mpr hofs, hal, h]

end

/-- A write of a high half is staged for its source. -/
theorem doWrite_high {ofs : Nat} (h : halfAt ofs = .hi) (d : Dev) (src : Src) (v : Word) :
    d.doWrite src ofs v = d.setAcc src { d.acc src with staged := some (ofs - 4, v) } := by simp only [Dev.doWrite, h]

/-- The two words of a 64-bit value. -/
theorem pair_words (v w : Word) : BitVec.ofNat 32 (v.toNat + w.toNat * 2 ^ 32) = v ∧
    BitVec.ofNat 32 ((v.toNat + w.toNat * 2 ^ 32) / 2 ^ 32) = w := by
  have := v.isLt
  have := w.isLt
  constructor
  · apply BitVec.eq_of_toNat_eq; rw [BitVec.toNat_ofNat]; omega
  · apply BitVec.eq_of_toNat_eq; rw [BitVec.toNat_ofNat]; omega

/-- A write of a low half commits the high half that its source has staged. -/
theorem doWrite_low {ofs : Nat} (h : halfAt ofs = .lo) (hapd : apdOf ofs = none) (d : Dev) (src : Src) (v w : Word)
    (hs : (d.acc src).staged = some (ofs, w)) :
    d.doWrite src ofs v =
      ((d.setAcc src { d.acc src with staged := none }).plainWrite ofs v).plainWrite (ofs + 4) w := by
  obtain ⟨hlow, hhigh⟩ := pair_words v w
  simp only [Dev.doWrite, h, Dev.loWrite, hs, if_true, Dev.pairWrite, hapd, hlow, hhigh]

theorem plainWrite_acc (d : Dev) (src : Src) (ofs : Nat) (v : Word) : (d.plainWrite ofs v).acc src = d.acc src := by
  unfold Dev.plainWrite
  split
  · exact setRaw_acc ..
  · rfl

/-- A write of another register that starts nothing is a plain write. -/
theorem doWrite_plain {d : Dev} {src : Src} {ofs : Nat} {v : Word} (hh : halfAt ofs = .no) (hapd : apdOf ofs = none)
    (hs : d.startsNothing src ofs v = true) : d.doWrite src ofs v = d.plainWrite ofs v := by
  simp only [Dev.startsNothing, Bool.and_eq_true, Option.isNone_iff_eq_none] at hs
  obtain ⟨⟨⟨haon, hevent⟩, hcore⟩, hport⟩ := hs
  simp only [Dev.doWrite, hh, hapd, Dev.regEffect, haon, hevent, hcore, hport]

/-! ## The word of an alias write -/

/-- A number with one bit set to a value. -/
theorem testBit_replaced (w b : Nat) (one : Bool) :
    (w - (if w.testBit b then 2 ^ b else 0) + (if one then 2 ^ b else 0)).testBit b = one := by
  have hsplit := Nat.div_add_mod w (2 ^ b)
  have hlow : w % 2 ^ b < 2 ^ b := Nat.mod_lt _ (Nat.two_pow_pos b)
  have hbit : w.testBit b = decide (w / 2 ^ b % 2 = 1) := Nat.testBit_eq_decide_div_mod_eq
  obtain ⟨q, hq⟩ : ∃ q, w - (if w.testBit b then 2 ^ b else 0) = w % 2 ^ b + 2 ^ b * (2 * q) := by
    refine ⟨w / 2 ^ b / 2, ?_⟩
    rw [hbit]
    rcases Nat.mod_two_eq_zero_or_one (w / 2 ^ b) with hodd | hodd
    · have : 2 * (w / 2 ^ b / 2) = w / 2 ^ b := by omega
      rw [this, hodd]
      simp only [Nat.zero_ne_one, decide_false, Bool.false_eq_true, if_false]
      omega
    · have hhalf : w / 2 ^ b = 2 * (w / 2 ^ b / 2) + 1 := by omega
      rw [hodd]
      simp only [decide_true, if_true]
      rw [hhalf, Nat.mul_add] at hsplit
      omega
  rw [hq, Nat.testBit_eq_decide_div_mod_eq]
  cases one with
  | false =>
    have : (w % 2 ^ b + 2 ^ b * (2 * q) + 0) / 2 ^ b = 2 * q := by
      rw [Nat.add_zero, Nat.add_mul_div_left _ _ (Nat.two_pow_pos b), Nat.div_eq_of_lt hlow, Nat.zero_add]
    simp only [Bool.false_eq_true, if_false, this]
    simp
  | true =>
    have : (w % 2 ^ b + 2 ^ b * (2 * q) + 2 ^ b) / 2 ^ b = 2 * q + 1 := by
      rw [Nat.add_assoc, ← Nat.mul_succ, Nat.add_mul_div_left _ _ (Nat.two_pow_pos b), Nat.div_eq_of_lt hlow, Nat.zero_add]
    simp only [if_true, this]
    simp [Nat.add_mod]

theorem aliasWord_bit (d : Dev) (o : Nat) {b : Nat} (hb : b < 32) (one : Bool) : (d.aliasWord o b one).getLsbD b = one := by
  rw [Dev.aliasWord, BitVec.getLsbD_ofNat, testBit_replaced]
  simp [hb]

theorem aliasBit_lt (ofs : Nat) : (aliasOf ofs).2 < 32 := by simp only [aliasOf]; omega

/-! ## Fields that take a value can be written -/

/-- Every kind of page. -/
def pageKinds : List PageKind :=
  [.gcr, .cfg, .clk, .pwr, .pur, .bel, .chn, .hst, .evc0, .evc1, .que, .pmu0, .pmu1, .tst, .pip, .amp, .hdc, .wbf, .dir, .sdr, .cnf,
   .dep0, .dep1, .dep2, .dep3, .apd0, .apd1, .hie, .twn, .dsc, .ecc, .scb, .dsl, .ap0, .ap1, .mp]

theorem mem_pageKinds (p : PageKind) : p ∈ pageKinds := by cases p <;> decide

/-- The fields of a row are apart, so that its masks hold the bits of their fields. -/
def masksFit (r : RRow) : Bool := r.maskOf takesValue &&& r.maskOf writable == r.maskOf takesValue

theorem masksFit_all : pageKinds.all (fun p => (pageRows p).all masksFit) = true := by decide +kernel

theorem inWritable_of_takesBit {o b : Nat} (h : takesBit o b = true) : inWritable o b = true := by
  unfold takesBit at h
  unfold inWritable
  cases hr : rowAt o with
  | none => simp [hr] at h
  | some r =>
    simp only [hr] at h
    unfold rowAt at hr
    split at hr
    · exact absurd hr nofun
    · next p n hp =>
      have hfit : masksFit r = true :=
        List.all_eq_true.mp (List.all_eq_true.mp masksFit_all p (mem_pageKinds p)) r (List.mem_of_find?_eq_some hr)
      rw [masksFit, beq_iff_eq] at hfit
      rw [← hfit, Nat.testBit_and, Bool.and_eq_true] at h
      exact h.2

/-! ## The commands -/

theorem hiWrite_statement (src : Src) (ofs : Nat) (v : Word) (s : State) (ha : s.dev.awake = true) (hofs : ofs < 0x400000)
    (hal : ofs % 4 = 0) (hc : s.dev.writeCause ofs v = none) (hh : halfAt ofs = .hi) :
    ∃ t, exec (.hiWrite src ofs v) s = .next t ∧ (t.dev.acc src).staged = some (ofs - 4, v) ∧ t.dev.regs = s.dev.regs := by
  refine ⟨_, (exec_hiWrite ..).trans (onDev_awake ha _), ?_⟩
  rw [State.setDev_dev, writeOut_ok src v hofs hal hc, doWrite_high hh, settle_acc, settle_regs, emit_acc, emit_regs, acc_setAcc,
    setAcc_regs]
  exact ⟨rfl, rfl⟩

theorem loWrite_statement (src : Src) (ofs : Nat) (v w : Word) (s : State) (ha : s.dev.awake = true) (hofs : ofs < 0x400000)
    (hal : ofs % 4 = 0) (hc : s.dev.writeCause ofs v = none) (hh : halfAt ofs = .lo) (hapd : apdOf ofs = none)
    (hs : (s.dev.acc src).staged = some (ofs, w)) :
    ∃ t, exec (.loWrite src ofs v) s = .next t ∧ (t.dev.acc src).staged = none ∧
      ∀ b, b < 32 → (takesBit ofs b = true → (t.dev.raw ofs).getLsbD b = v.getLsbD b) ∧
        (takesBit (ofs + 4) b = true → (t.dev.raw (ofs + 4)).getLsbD b = w.getLsbD b) := by
  refine ⟨_, (exec_loWrite ..).trans (onDev_awake ha _), ?_⟩
  rw [State.setDev_dev, writeOut_ok src v hofs hal hc, doWrite_low hh hapd _ _ _ _ hs, settle_acc, emit_acc, plainWrite_acc,
    plainWrite_acc, acc_setAcc]
  refine ⟨rfl, fun b hb => ⟨fun htakes => ?_, fun htakes => ?_⟩⟩
  · rw [settle_raw, emit_raw, plainWrite_raw_ne _ _ (by omega), plainWrite_takes _ _ hb htakes]
  · rw [settle_raw, emit_raw, plainWrite_takes _ _ hb htakes]

theorem clearsOnRead_none {o b : Nat} (h : rowAt o = none) : clearsOnRead o b = false := by unfold clearsOnRead; rw [h]

theorem clearsOnRead_some {o b : Nat} {r : RRow} (h : rowAt o = some r) :
    clearsOnRead o b = (r.maskOf (fun a => a == .rc)).testBit b := by unfold clearsOnRead; rw [h]

/-- An alias read of a register without an effect of its own. -/
theorem aliasRead_eq {d : Dev} {ofs size : Nat} (hc : d.aliasCause ofs size = none) (hq : queOf (aliasOf ofs).1 = none)
    (hio : ioOf (aliasOf ofs).1 = none) (src : Src) :
    aliasRead src ofs size d =
      (if (d.regValue (aliasOf ofs).1).getLsbD (aliasOf ofs).2 && clearsOnRead (aliasOf ofs).1 (aliasOf ofs).2 then
        d.set ⟨(aliasOf ofs).1, (aliasOf ofs).2, (aliasOf ofs).2⟩ 0 else d).emit
      (.regVal src (if (d.regValue (aliasOf ofs).1).getLsbD (aliasOf ofs).2 then 1 else 0)) := by
  have hplain : ¬ ((queOf (aliasOf ofs).1).any (· != 4) || (ioOf (aliasOf ofs).1).isSome) = true := by rw [hq, hio]; nofun
  unfold aliasRead
  generalize aliasOf ofs = p at *
  generalize d.aliasCause ofs size = cause at hc
  subst hc
  dsimp only
  cases hr : rowAt p.1 with
  | none => rw [clearsOnRead_none hr]; exact if_neg hplain
  | some r => rw [clearsOnRead_some hr]; exact if_neg hplain

/-- A field of one bit set to 0. -/
theorem getLsbD_set_zero (d : Dev) (o : Nat) {b : Nat} (hb : b < 32) : ((d.set ⟨o, b, b⟩ 0).raw o).getLsbD b = false := by
  have hget := get_set_self d ⟨o, b, b⟩ 0 (by simp [fieldOk, hb])
  simp only [Dev.get, bits, Nat.zero_mod, Nat.add_sub_cancel_left, Nat.pow_one, Nat.shiftRight_eq_div_pow] at hget
  rw [BitVec.getLsbD, Nat.testBit_eq_decide_div_mod_eq, hget]
  rfl

theorem aliasRead_statement (src : Src) (ofs size : Nat) (s : State) (ha : s.dev.awake = true)
    (hc : s.dev.aliasCause ofs size = none) (hq : queOf (aliasOf ofs).1 = none) (hio : ioOf (aliasOf ofs).1 = none) :
    ∃ t, exec (.aliasRead src ofs size) s = .next t ∧
      t.dev.drove s.dev (.regVal src (if (s.dev.regValue (aliasOf ofs).1).getLsbD (aliasOf ofs).2 then 1 else 0)) ∧
      t.dev.acc src = s.dev.acc src ∧
      ((s.dev.regValue (aliasOf ofs).1).getLsbD (aliasOf ofs).2 = true →
        clearsOnRead (aliasOf ofs).1 (aliasOf ofs).2 = true →
        (t.dev.raw (aliasOf ofs).1).getLsbD (aliasOf ofs).2 = false) := by
  refine ⟨_, (exec_aliasRead ..).trans (onDev_awake ha _), ?_⟩
  rw [State.setDev_dev, aliasRead_eq hc hq hio]
  refine ⟨drove_settle_emit _ ?_, ?_, fun hone hclears => ?_⟩
  · split
    · exact List.suffix_refl _
    · exact List.suffix_refl _
  · rw [settle_acc, emit_acc]
    split
    · exact setRaw_acc ..
    · rfl
  · rw [settle_raw, emit_raw, hone, hclears]
    exact getLsbD_set_zero _ _ (aliasBit_lt ofs)

theorem aliasWriteCause_half {d : Dev} {ofs size : Nat} {one : Bool} (h : d.aliasWriteCause ofs size one = none) :
    halfAt (aliasOf ofs).1 = .no := by
  unfold Dev.aliasWriteCause at h
  split at h
  · exact absurd h nofun
  · by_cases hh : halfAt (aliasOf ofs).1 = .no
    · exact hh
    · simp [hh] at h

/-- An alias write of a bit that takes a value is a write of its register. -/
theorem aliasWrite_eq {d : Dev} {src : Src} {ofs size : Nat} {v : Word}
    (hc : d.aliasWriteCause ofs size (v.getLsbD 0) = none)
    (htakes : inWritable (aliasOf ofs).1 (aliasOf ofs).2 = true)
    (hw : d.writeCause (aliasOf ofs).1 (d.aliasWord (aliasOf ofs).1 (aliasOf ofs).2 (v.getLsbD 0)) = none) :
    aliasWrite src ofs size v d =
      (d.doWrite src (aliasOf ofs).1 (d.aliasWord (aliasOf ofs).1 (aliasOf ofs).2 (v.getLsbD 0))).emit (.regOk src) := by
  unfold aliasWrite
  dsimp only
  generalize aliasOf ofs = p at *
  generalize d.aliasWord p.1 p.2 (v.getLsbD 0) = w at *
  generalize d.writeCause p.1 w = wc at hw
  subst hw
  generalize d.aliasWriteCause ofs size (v.getLsbD 0) = cause at hc
  subst hc
  exact if_pos htakes

theorem plainWrite_sent (d : Dev) (ofs : Nat) (v : Word) : (d.plainWrite ofs v).sent = d.sent := by
  unfold Dev.plainWrite
  split
  · rfl
  · rfl

theorem aliasWrite_statement (src : Src) (ofs size : Nat) (v : Word) (s : State) (ha : s.dev.awake = true)
    (hc : s.dev.aliasWriteCause ofs size (v.getLsbD 0) = none) (hapd : apdOf (aliasOf ofs).1 = none)
    (htakes : takesBit (aliasOf ofs).1 (aliasOf ofs).2 = true)
    (hw : s.dev.writeCause (aliasOf ofs).1 (s.dev.aliasWord (aliasOf ofs).1 (aliasOf ofs).2 (v.getLsbD 0)) = none)
    (hs : s.dev.startsNothing src (aliasOf ofs).1 (s.dev.aliasWord (aliasOf ofs).1 (aliasOf ofs).2 (v.getLsbD 0)) = true) :
    ∃ t, exec (.aliasWrite src ofs size v) s = .next t ∧ t.dev.drove s.dev (.regOk src) ∧
      (t.dev.raw (aliasOf ofs).1).getLsbD (aliasOf ofs).2 = v.getLsbD 0 := by
  refine ⟨_, (exec_aliasWrite ..).trans (onDev_awake ha _), ?_⟩
  rw [State.setDev_dev, aliasWrite_eq hc (inWritable_of_takesBit htakes) hw, doWrite_plain (aliasWriteCause_half hc) hapd hs]
  refine ⟨drove_settle_emit _ (by rw [plainWrite_sent]), ?_⟩
  rw [settle_raw, emit_raw, plainWrite_takes _ _ (aliasBit_lt ofs) htakes, aliasWord_bit _ _ (aliasBit_lt ofs)]

/-- Settles O24. -/
theorem pairsAndAliases : Obligations.PairsAndAliases := by
  refine ⟨hiWrite_statement, loWrite_statement, aliasRead_statement, aliasWrite_statement, fun src ofs size c v s ha hc => ?_⟩
  refine ⟨_, (exec_aliasWrite ..).trans (onDev_awake ha _), ?_⟩
  rw [State.setDev_dev, show aliasWrite src ofs size v s.dev = s.dev.busErr src ofs true c by simp only [aliasWrite, hc]]
  exact busErr_outcome ..

end Sys2Proof.Machine
end

section
/-! SUPPORT. The software queues and the mailbox (R532 to R536, R540). -/

namespace Sys2Proof.Machine

set_option Elab.async false

/-! ## Queues -/

theorem queue_setQueue {d : Dev} {n : Nat} (q : Queue) (h : n < d.que.q.length) : (d.setQueue n q).queue n = q := by
  simp [Dev.queue, Dev.setQueue, h]

theorem setQueue_sent (d : Dev) (n : Nat) (q : Queue) : (d.setQueue n q).sent = d.sent := rfl

@[simp] theorem settle_queue (d : Dev) (n : Nat) : (settle d).queue n = d.queue n := by simp [Dev.queue]

theorem emit_queue (d : Dev) (o : Out) (n : Nat) : (d.emit o).queue n = d.queue n := rfl

theorem latch_setLatch (q : Queue) (src : Src) (l : List Word) (w : Word) : (q.setLatch src l w).latch src = l := by
  cases src <;> rfl

theorem recs_setLatch (q : Queue) (src : Src) (l : List Word) (w : Word) : (q.setLatch src l w).recs = q.recs := by
  cases src <;> rfl

@[simp] theorem settle_mboHalf (d : Dev) (src : Src) : (settle d).mboHalf src = d.mboHalf src := by
  cases src <;> simp [Dev.mboHalf]

@[simp] theorem settle_inFlight (d : Dev) (p : ChnUse → Bool) : (settle d).inFlight p = d.inFlight p := by simp [Dev.inFlight]

/-- A 4-byte read of a queue that can be reached returns what the queue gives. -/
theorem queDataRead_four {d : Dev} {n : Nat} (src : Src) (hn : n < 4) (h : d.unreachable (0xA104 + n * 0x20) = none) :
    queDataRead src n 4 d = (d.queRead src n).2.emit (.regVal src (d.queRead src n).1) := by
  have hne : n ≠ 4 := by omega
  simp [queDataRead, h, hne]

theorem queRead_open {d : Dev} {n : Nat} {src : Src} {w : Word} {l : List Word} (h : (d.queue n).latch src = w :: l) :
    d.queRead src n = (w, d.setQueue n ((d.queue n).setLatch src l w)) := by simp only [Dev.queRead, h]

theorem queRead_next {d : Dev} {n : Nat} {src : Src} {w : Word} {l : List Word} {rs : List (List Word)}
    (h : (d.queue n).latch src = []) (hr : (d.queue n).recs = (w :: l) :: rs) :
    d.queRead src n = (w, d.setQueue n ({ d.queue n with recs := rs }.setLatch src l w)) := by simp only [Dev.queRead, h, hr]

theorem queRead_empty {d : Dev} {n : Nat} {src : Src} (h : (d.queue n).latch src = []) (hr : (d.queue n).recs = []) :
    d.queRead src n = ((d.queue n).last src, (d.set (R.QUEn_STAT.UNDERRUN n) 1).raise (evUnderrun n)) := by
  simp only [Dev.queRead, h, hr]

theorem queDrop_latch {d : Dev} {n : Nat} (src : Src) (h : n ≠ 4) :
    queDrop src n d = d.setQueue n ((d.queue n).setLatch src [] ((d.queue n).last src)) := if_neg h

theorem underrun_fields : ∀ n, n < 4 → fieldOk (evUnderrun n) = true ∧ fieldOk (R.QUEn_STAT.UNDERRUN n) = true ∧
    fieldsApart (evUnderrun n) (R.QUEn_STAT.UNDERRUN n) = true ∧ (R.QUEn_STAT.UNDERRUN n).hi = (R.QUEn_STAT.UNDERRUN n).lo := by
  decide

/-- A one-bit field set to 1. -/
theorem flag_set_one (d : Dev) (f : FieldRef) (h : fieldOk f = true) (hb : f.hi = f.lo) : (d.set f 1).flag f = true := by
  rw [Dev.flag, get_set_self d f 1 h, hb]
  simp

/-! ## The mailbox -/

theorem mboHalf_setMboHalf (d : Dev) (src : Src) (w : Option Word) : (d.setMboHalf src w).mboHalf src = w := by
  cases src <;> rfl

theorem setMboHalf_q (d : Dev) (src : Src) (w : Option Word) : (d.setMboHalf src w).que.q = d.que.q := by cases src <;> rfl

theorem setMboHalf_get (d : Dev) (src : Src) (w : Option Word) (f : FieldRef) : (d.setMboHalf src w).get f = d.get f := by
  cases src <;> rfl

theorem setMboHalf_queue (d : Dev) (src : Src) (w : Option Word) (n : Nat) : (d.setMboHalf src w).queue n = d.queue n := by
  cases src <;> rfl

theorem mboHalf_of_que {d e : Dev} (hc : e.que.halfC = d.que.halfC) (hh : e.que.halfH = d.que.halfH) (src : Src) :
    e.mboHalf src = d.mboHalf src := by
  cases src with
  | host => exact hh
  | chain => exact hc
  | image => exact hh

/-- A record pushed to a mailbox with room stands last; one for a full mailbox is lost. -/
theorem push_mailbox (d : Dev) (r : List Word) :
    d.push 4 r =
      if (d.queue 4).recs.length < 256 then
        (d.setQueue 4 { d.queue 4 with recs := (d.queue 4).recs ++ [r] }).raiseIf
          (d.get (R.QUEn_WM.LEVEL 4) != 0 && (d.queue 4).recs.length + 1 == d.get (R.QUEn_WM.LEVEL 4)) (evWm 4)
      else ((d.set (R.QUEn_STAT.OVERFLOW 4) 1).bumpSat (R.QUEn_LOST.LOST 4) 1).raise (evOverflow 4) := by
  have hnot : (d.isMirror && ((4 : Nat) == 1 || (4 : Nat) == 2)) = false := by simp
  unfold Dev.push
  simp only [hnot, Bool.false_eq_true, if_false, show queueDepth 4 = 256 from rfl]
  by_cases h : (d.queue 4).recs.length < 256
  · rw [if_neg (Nat.not_le.mpr h), if_pos h]
  · rw [if_pos (Nat.not_lt.mp h), if_neg h]

theorem raiseIf_que (d : Dev) (c : Bool) (f : FieldRef) : (d.raiseIf c f).que = d.que := by cases c <;> rfl

theorem raiseIf_queue (d : Dev) (c : Bool) (f : FieldRef) (n : Nat) : (d.raiseIf c f).queue n = d.queue n := by cases c <;> rfl

theorem mboHalf_push (d : Dev) (src : Src) (r : List Word) : (d.push 4 r).mboHalf src = d.mboHalf src := by
  rw [push_mailbox]
  split
  · exact mboHalf_of_que (by rw [raiseIf_que]; rfl) (by rw [raiseIf_que]; rfl) src
  · exact mboHalf_of_que rfl rfl src

theorem push_mailbox_recs {d : Dev} (r : List Word) (hl : d.que.q.length = 5) :
    if (d.queue 4).recs.length < 256 then ((d.push 4 r).queue 4).recs = (d.queue 4).recs ++ [r]
    else ((d.push 4 r).queue 4).recs = (d.queue 4).recs ∧ (d.push 4 r).flag (evOverflow 4) = true := by
  rw [push_mailbox]
  split
  · rw [raiseIf_queue, queue_setQueue _ (by omega)]
  · exact ⟨rfl, flag_raise_self _ _ (by decide)⟩

/-! ## Chain requests -/

theorem chainSend_inFlight (d : Dev) (dst src : Nat) (use : ChnUse) (f : Frame) (p : ChnUse → Bool) (h : p use = true) :
    (d.chainSend dst src use f).inFlight p = true := by
  simp [Dev.inFlight, Dev.chainSend, Dev.emit, h]

/-- The oldest record of the mailbox goes out once none is in flight. -/
theorem mboSend_eq {d : Dev} {r : List Word} (hf : d.inFlight isMbx = false) (ha : d.addr ≠ 0)
    (hr : (d.queue 4).recs.head? = some r) (hlen : r.length = 3) :
    mboSend d = d.chainSend (r.getD 2 0).toNat d.addr .mbx (.mbx (r.getD 0 0) (r.getD 1 0)) := by
  obtain ⟨rs, hrs⟩ : ∃ rs, (d.queue 4).recs = r :: rs := List.head?_eq_some_iff.mp hr
  obtain ⟨w0, w1, dst, rfl⟩ := List.length_eq_three.mp hlen
  have haddr : (d.addr == 0) = false := beq_eq_false_iff_ne.mpr ha
  unfold mboSend
  simp only [hf, haddr, Bool.or_self, Bool.false_eq_true, if_false, hrs]
  rfl

/-! ## The commands -/

/-- Settles O26. -/
theorem queueCommands : Obligations.QueueCommands := by
  unfold Obligations.QueueCommands
  refine ⟨fun src n w l s ha hn hl hu hlatch => ?_, fun src n w l rs s ha hn hl hu hlatch hrecs => ?_,
    fun src n s ha hn hu hlatch hrecs => ?_, fun src n s hreach hn hl => ?_, fun src s hreach => ?_, fun src v s hreach hhalf => ?_,
    fun src v w s hreach hl hhalf => ?_, fun r s hruns hf haddr hr hlen => ?_⟩
  · refine ⟨_, (exec_queDataRead ..).trans (onDev_awake ha _), ?_⟩
    rw [State.setDev_dev, queDataRead_four src hn hu, queRead_open hlatch, settle_queue, emit_queue, queue_setQueue _ (by omega)]
    exact ⟨drove_settle_emit _ (List.suffix_refl _), latch_setLatch .., recs_setLatch ..⟩
  · refine ⟨_, (exec_queDataRead ..).trans (onDev_awake ha _), ?_⟩
    rw [State.setDev_dev, queDataRead_four src hn hu, queRead_next hlatch hrecs, settle_queue, emit_queue,
      queue_setQueue _ (by omega)]
    exact ⟨drove_settle_emit _ (List.suffix_refl _), latch_setLatch .., recs_setLatch ..⟩
  · obtain ⟨hev, hstat, hapart, hbit⟩ := underrun_fields n hn
    refine ⟨_, (exec_queDataRead ..).trans (onDev_awake ha _), ?_⟩
    rw [State.setDev_dev, queDataRead_four src hn hu, queRead_empty hlatch hrecs]
    refine ⟨drove_settle_emit _ (List.suffix_refl _), ?_, ?_⟩
    · rw [settle_flag, emit_flag, flag_raise_self _ _ hev]
    · rw [settle_flag, emit_flag, flag_raise_far _ _ _ hapart, flag_set_one _ _ hstat hbit]
  · refine ⟨_, (exec_queDrop ..).trans (onDev_write hreach _ _), ?_⟩
    have hne : n ≠ 4 := by omega
    rw [State.setDev_dev, settle_queue, emit_queue, queDrop_latch src hne, queue_setQueue _ (by omega)]
    exact ⟨latch_setLatch .., recs_setLatch ..⟩
  · refine ⟨_, (exec_queDrop ..).trans (onDev_write hreach _ _), ?_⟩
    rw [State.setDev_dev, settle_mboHalf, settle_que]
    cases src <;> exact ⟨rfl, rfl⟩
  · refine ⟨_, (exec_mboWrite ..).trans (onDev_write hreach _ _), ?_⟩
    have hwrite : mboWrite src v s.dev = s.dev.setMboHalf src (some v) := by simp only [mboWrite, hhalf]
    rw [State.setDev_dev, settle_mboHalf, settle_que, hwrite]
    exact ⟨mboHalf_setMboHalf .., setMboHalf_q ..⟩
  · refine ⟨_, (exec_mboWrite ..).trans (onDev_write hreach _ _), ?_⟩
    have hwrite : mboWrite src v s.dev =
        (s.dev.setMboHalf src none).push 4 [w, v, BitVec.ofNat 32 (s.dev.get R.QUE_MBO_DST.DST)] := by simp only [mboWrite, hhalf]
    have hpush := push_mailbox_recs (d := s.dev.setMboHalf src none) [w, v, BitVec.ofNat 32 (s.dev.get R.QUE_MBO_DST.DST)]
      (by rw [setMboHalf_q]; exact hl)
    rw [setMboHalf_queue] at hpush
    rw [State.setDev_dev, settle_mboHalf, settle_queue, settle_flag, hwrite]
    exact ⟨(mboHalf_push ..).trans (mboHalf_setMboHalf ..), hpush⟩
  · refine ⟨_, (exec_mboSend ..).trans (onCore_runs hruns _), ?_⟩
    rw [State.setDev_dev, settle_inFlight, settle_queue, mboSend_eq hf haddr hr hlen]
    exact ⟨chainSend_inFlight _ _ _ _ _ _ rfl, rfl, drove_settle_emit _ (List.suffix_refl _)⟩

end Sys2Proof.Machine
end

section
/-! SUPPORT. What granting tokens changes, and what it leaves (R438 to R442): sources that start, a step of the operating point,
links that begin to train, a way group's wake. -/

namespace Sys2Proof.Machine

set_option Elab.async false

/-! ## Events that are only raised -/

/-- The event registers that a granted token's activity raises events in: CLK, PWR and PUR. -/
def grantEvents : List Nat := [0x200C, 0x300C, 0x400C]

/-- A one-bit event of those registers. -/
def grantEvent (f : FieldRef) : Bool := grantEvents.contains f.ofs && fieldOk f && f.hi == f.lo

/-- The register bank grows in its events alone. -/
structure EventsGrow (d e : Dev) : Prop where
  role : e.gcr.role = d.gcr.role
  bank : ∀ o, o ∉ grantEvents → bankGet e.regs o = bankGet d.regs o
  raw : ∀ o b, (d.raw o).getLsbD b = true → (e.raw o).getLsbD b = true
  raw0 : ∀ o b, (d.raw0 o).getLsbD b = true → (e.raw0 o).getLsbD b = true

theorem EventsGrow.of_regs {d e : Dev} (hr : e.gcr.role = d.gcr.role) (h : e.regs = d.regs) : EventsGrow d e where
  role := hr
  bank _ _ := by rw [h]
  raw o b hb := by rwa [Dev.raw, h, hr]
  raw0 o b hb := by rwa [Dev.raw0, h]

theorem EventsGrow.trans {a b c : Dev} (h : EventsGrow a b) (k : EventsGrow b c) : EventsGrow a c where
  role := k.role.trans h.role
  bank o ho := (k.bank o ho).trans (h.bank o ho)
  raw o i hi := k.raw o i (h.raw o i hi)
  raw0 o i hi := k.raw0 o i (h.raw0 o i hi)

/-- Raising an event sets its bit and keeps the others. -/
theorem raise_keeps_bit {d : Dev} {f : FieldRef} (hok : fieldOk f = true) (hb : f.hi = f.lo) {i : Nat}
    (h : (d.raw f.ofs).getLsbD i = true) : ((d.raise f).raw f.ofs).getLsbD i = true := by
  have hset := flag_raise_self d f hok
  simp only [fieldOk, Bool.and_eq_true, decide_eq_true_eq] at hok
  obtain ⟨ofs, hi, lo⟩ := f
  simp only at hb hok h hset ⊢
  subst hb
  by_cases hi' : i = hi
  · subst hi'
    rw [Dev.flag, Dev.get, bits, Nat.add_sub_cancel_left, Nat.pow_one, beq_iff_eq, Nat.shiftRight_eq_div_pow] at hset
    rw [BitVec.getLsbD, Nat.testBit_eq_decide_div_mod_eq, decide_eq_true_eq]
    exact hset
  · rw [Dev.raise, Dev.set, raw_setRaw_same, BitVec.getLsbD, testBit_putBits _ _ _ _ _ hok.1 hok.2 (by omega)]
    exact h

theorem EventsGrow.raise (d : Dev) {f : FieldRef} (h : grantEvent f = true) : EventsGrow d (d.raise f) := by
  simp only [grantEvent, Bool.and_eq_true, beq_iff_eq] at h
  obtain ⟨⟨hin, hok⟩, hb⟩ := h
  have hne : ∀ o, o ≠ f.ofs → bankGet (d.raise f).regs o = bankGet d.regs o := fun o ho => bankGet_bankSet_ne _ _ _ _ ho
  refine ⟨rfl, fun o ho => hne o ?_, fun o b hbit => ?_, fun o b hbit => ?_⟩
  · rintro rfl
    exact ho (List.contains_iff_mem.mp hin)
  · by_cases ho : o = f.ofs
    · subst ho; exact raise_keeps_bit hok hb hbit
    · rw [Dev.raw, hne o ho]; exact hbit
  · by_cases ho : o = f.ofs
    · subst ho
      have hraw : (d.raw f.ofs).getLsbD b = true := by
        unfold Dev.raw0 at hbit
        unfold Dev.raw
        cases hg : bankGet d.regs f.ofs with
        | none => simp [hg] at hbit
        | some w => simpa [hg] using hbit
      have hkeep := raise_keeps_bit hok hb hraw
      simpa [Dev.raw0, Dev.raw, Dev.raise, Dev.set, Dev.setRaw] using hkeep
    · rw [Dev.raw0, hne o ho]; exact hbit

/-! ## The relation -/

/-- The device after tokens have been granted. -/
structure GrantRel (d e : Dev) : Prop where
  frame : e = { d with regs := e.regs, clk := e.clk, pwr := e.pwr, pur := e.pur, ports := e.ports, tw := e.tw, mps := e.mps,
                       sent := e.sent, free := e.free }
  clk : e.clk = { d.clk with starting := e.clk.starting, ready := e.clk.ready, fail := e.clk.fail }
  pwr : e.pwr = { d.pwr with on := e.pwr.on, step := e.pwr.step, tries := e.pwr.tries, railEn := e.pwr.railEn,
                             waking := e.pwr.waking, clamps := e.pwr.clamps }
  pur : e.pur = { d.pur with tokens := e.pur.tokens, waiting := e.pur.waiting, level := e.pur.level }
  ports : e.ports.length = d.ports.length
  port : ∀ n, { e.port n with st := 0 } = { d.port n with st := 0 }
  events : EventsGrow d e
  on : ∀ b, d.pwr.on.getLsbD b = true → e.pwr.on.getLsbD b = true
  railEn : ∀ b, d.pwr.railEn.getLsbD b = true → e.pwr.railEn.getLsbD b = true
  tokens : ∀ t ∈ d.pur.tokens, t ∈ e.pur.tokens
  waiting : ∀ t ∈ d.pur.waiting, t ∈ e.pur.tokens ∨ t ∈ e.pur.waiting
  known : ∀ t, t ∈ e.pur.tokens ∨ t ∈ e.pur.waiting → t ∈ d.pur.tokens ∨ t ∈ d.pur.waiting
  sent : d.sent <:+ e.sent
  level : e.pur.level ≤ 12 ∨ e.pur.level = d.pur.level

theorem GrantRel.refl (d : Dev) : GrantRel d d where
  frame := rfl
  clk := rfl
  pwr := rfl
  pur := rfl
  ports := rfl
  port _ := rfl
  events := EventsGrow.of_regs rfl rfl
  on _ h := h
  railEn _ h := h
  tokens _ h := h
  waiting _ h := .inr h
  known _ h := h
  sent := List.suffix_refl _
  level := .inr rfl

theorem GrantRel.trans {a b c : Dev} (h : GrantRel a b) (k : GrantRel b c) : GrantRel a c where
  frame := by rw [k.frame, h.frame]
  clk := by rw [k.clk, h.clk]
  pwr := by rw [k.pwr, h.pwr]
  pur := by rw [k.pur, h.pur]
  ports := k.ports.trans h.ports
  port n := (k.port n).trans (h.port n)
  events := h.events.trans k.events
  on i hi := k.on i (h.on i hi)
  railEn i hi := k.railEn i (h.railEn i hi)
  tokens t ht := k.tokens t (h.tokens t ht)
  waiting t ht := (h.waiting t ht).elim (fun hb => .inl (k.tokens t hb)) (k.waiting t)
  known t ht := h.known t (k.known t ht)
  sent := h.sent.trans k.sent
  level := k.level.elim .inl fun hk => h.level.elim (fun hl => .inl (hk ▸ hl)) fun hl => .inr (hk.trans hl)

theorem GrantRel.foldl {α : Type} {f : Dev → α → Dev} (h : ∀ d x, GrantRel d (f d x)) (l : List α) (d : Dev) :
    GrantRel d (l.foldl f d) := by
  induction l generalizing d with
  | nil => exact .refl d
  | cons x l ih => exact (h d x).trans (ih _)

/-- A change of sources, power state, outputs and free values. -/
theorem GrantRel.supply {d e : Dev}
    (frame : e = { d with clk := e.clk, pwr := e.pwr, sent := e.sent, free := e.free })
    (clk : e.clk = { d.clk with starting := e.clk.starting, ready := e.clk.ready, fail := e.clk.fail })
    (pwr : e.pwr = { d.pwr with on := e.pwr.on, step := e.pwr.step, tries := e.pwr.tries, railEn := e.pwr.railEn,
                                waking := e.pwr.waking, clamps := e.pwr.clamps })
    (on : ∀ b, d.pwr.on.getLsbD b = true → e.pwr.on.getLsbD b = true)
    (railEn : ∀ b, d.pwr.railEn.getLsbD b = true → e.pwr.railEn.getLsbD b = true) (sent : d.sent <:+ e.sent) :
    GrantRel d e := by
  have hregs : e.regs = d.regs := by rw [frame]
  have hgcr : e.gcr.role = d.gcr.role := by rw [frame]
  have hpur : e.pur = d.pur := by rw [frame]
  have hport : ∀ n, e.port n = d.port n := by intro n; rw [frame]; rfl
  exact {
    frame := by rw [frame]
    clk := clk
    pwr := pwr
    pur := by rw [hpur]
    ports := by rw [frame]
    port := fun n => by rw [hport]
    events := EventsGrow.of_regs hgcr hregs
    on := on
    railEn := railEn
    tokens := fun t ht => by rw [hpur]; exact ht
    waiting := fun t ht => by rw [hpur]; exact .inr ht
    known := fun t ht => by rw [hpur] at ht; exact ht
    sent := sent
    level := .inr (by rw [hpur]) }

theorem GrantRel.raise (d : Dev) {f : FieldRef} (h : grantEvent f = true) : GrantRel d (d.raise f) where
  frame := rfl
  clk := rfl
  pwr := rfl
  pur := rfl
  ports := rfl
  port _ := rfl
  events := EventsGrow.raise d h
  on _ h := h
  railEn _ h := h
  tokens _ h := h
  waiting _ h := .inr h
  known _ h := h
  sent := List.suffix_refl _
  level := .inr rfl

theorem GrantRel.raiseIf (d : Dev) (c : Bool) {f : FieldRef} (h : grantEvent f = true) : GrantRel d (d.raiseIf c f) := by
  cases c with
  | false => exact .refl d
  | true => exact .raise d h

theorem GrantRel.emit (d : Dev) (o : Out) : GrantRel d (d.emit o) :=
  .supply rfl rfl rfl (fun _ h => h) (fun _ h => h) ⟨[o], rfl⟩

theorem GrantRel.ifThen {d e : Dev} (c : Prop) [Decidable c] (h : GrantRel d e) : GrantRel d (if c then d else e) := by
  split
  · exact .refl d
  · exact h

/-! ## Sources, domains and rails -/

theorem putBit_true_mono {w : Nat} (m : BitVec w) (n b : Nat) (h : m.getLsbD b = true) : (putBit m n true).getLsbD b = true := by
  simp [putBit, h]

theorem coast_grant (d : Dev) (k : Nat) : GrantRel d (d.coast k) := by
  unfold Dev.coast
  split
  · refine GrantRel.trans ?_ (.raise _ (f := R.CLK_EVT.PLL_FAIL) (by decide))
    exact .supply rfl rfl rfl (fun _ h => h) (fun _ h => h) (List.suffix_refl _)
  · exact .refl d

theorem startPll_grant (d : Dev) (k : Nat) : GrantRel d (d.startPll k) := by
  have hstart : GrantRel d { d with clk := { d.clk with starting := d.clk.starting ++ [k] } } :=
    .supply rfl rfl rfl (fun _ h => h) (fun _ h => h) (List.suffix_refl _)
  unfold Dev.startPll
  dsimp only
  split
  · exact .refl d
  · split
    · exact hstart.trans (coast_grant _ k)
    · exact hstart

theorem unclamp_grant (d : Dev) (dom : Nat) : GrantRel d (d.unclamp dom) := by
  unfold Dev.unclamp
  split
  · exact .supply rfl rfl rfl (fun _ h => h) (fun _ h => h) ⟨[_], rfl⟩
  · exact .refl d

theorem turnOn_grant (d : Dev) (dom : Nat) : GrantRel d (d.turnOn dom) := by
  unfold Dev.turnOn
  have hon : GrantRel d ({ d with pwr := { d.pwr with on := putBit d.pwr.on dom true } }.wakeDone 2 dom) :=
    .supply rfl rfl rfl (fun b h => putBit_true_mono _ _ _ h) (fun _ h => h) (List.suffix_refl _)
  exact ((hon.trans (.foldl startPll_grant _ _)).trans (unclamp_grant _ _)).trans (.raiseIf _ _ (by decide))

theorem driveRail_grant (d : Dev) (g : Nat) : GrantRel d (d.driveRail g true) :=
  .supply rfl rfl rfl (fun _ h => h) (fun _ h => putBit_true_mono _ _ _ h) ⟨[_], rfl⟩

theorem startWake_grant (d : Dev) (g : Nat) : GrantRel d (d.startWake g) := by
  have hwake : GrantRel d { d with pwr := { d.pwr with waking := putBit d.pwr.waking g true } } :=
    .supply rfl rfl rfl (fun _ h => h) (fun _ h => h) (List.suffix_refl _)
  exact (hwake.trans (turnOn_grant _ _)).trans (.ifThen _ (driveRail_grant _ _))

/-! ## Operating points -/

theorem pmbus_grant (d : Dev) (cmd : String) (v : Nat) : GrantRel d (d.pmbus cmd v) := .emit d _

theorem pmbusWrite_grant (d : Dev) (cmd : String) (v : Nat) : GrantRel d (d.pmbusWrite cmd v) := by
  have hfree : GrantRel d { d with free := d.free + 1 } :=
    .supply rfl rfl rfl (fun _ h => h) (fun _ h => h) (List.suffix_refl _)
  exact ((hfree.trans (pmbus_grant _ cmd v)).trans (.foldl (fun d _ => pmbus_grant d cmd v) _ _)).trans (.raiseIf _ _ (by decide))

theorem setStep_grant (d : Dev) (x : Option Dvfs) : GrantRel d { d with pwr := { d.pwr with step := x } } :=
  .supply rfl rfl rfl (fun _ h => h) (fun _ h => h) (List.suffix_refl _)

theorem dvfsRun_grant (d : Dev) (f v : Nat) : GrantRel d (d.dvfsRun f v) := by
  unfold Dev.dvfsRun
  dsimp only
  split
  · exact setStep_grant d _
  · refine GrantRel.trans ?_ (startPll_grant _ _)
    refine GrantRel.trans ?_ (setStep_grant _ _)
    split
    · exact pmbusWrite_grant d _ _
    · exact .refl d

theorem dvfsWork_grant (d : Dev) (f v : Nat) : GrantRel d (d.dvfsWork f v) := by
  unfold Dev.dvfsWork
  split
  · exact dvfsRun_grant d f v
  · split
    · exact (setStep_grant d _).trans (pmbusWrite_grant _ _ _)
    · exact (setStep_grant d _).trans (.raise _ (by decide))

theorem dvfsGranted_grant (d : Dev) : GrantRel d d.dvfsGranted := by
  unfold Dev.dvfsGranted
  split
  · split
    · exact dvfsWork_grant d _ _
    · exact .refl d
  · exact .refl d

/-! ## Granting -/

theorem setPort_st_grant (d : Dev) (n st : Nat) : GrantRel d (d.setPort n { d.port n with st := st }) := by
  have hport : ∀ k, { (d.setPort n { d.port n with st := st }).port k with st := 0 } = { d.port k with st := 0 } := by
    intro k
    unfold Dev.setPort Dev.port
    by_cases hn : n = twPort
    · by_cases hk : k = twPort <;> simp [hn, hk]
    · by_cases hk : k = twPort
      · simp [hn, hk]
      · simp only [if_neg hn, if_neg hk]
        by_cases hkn : n = k
        · subst hkn
          by_cases hlen : n < d.ports.length
          · simp [hlen]
          · simp [hlen]
        · simp [List.getElem?_set_ne hkn]
  unfold Dev.setPort at hport ⊢
  split at hport
  · next h =>
    simp only [h, if_true] at hport ⊢
    exact ⟨rfl, rfl, rfl, rfl, rfl, hport, EventsGrow.of_regs rfl rfl, fun _ h => h, fun _ h => h, fun _ h => h, fun _ h => .inr h,
      fun _ h => h, List.suffix_refl _, .inr rfl⟩
  · next h =>
    simp only [h, if_false] at hport ⊢
    exact ⟨rfl, rfl, rfl, rfl, List.length_set .., hport, EventsGrow.of_regs rfl rfl, fun _ h => h, fun _ h => h, fun _ h => h,
      fun _ h => .inr h, fun _ h => h, List.suffix_refl _, .inr rfl⟩

theorem setMp_grant (d : Dev) (n : Nat) (m : Mp) : GrantRel d (d.setMp n m) :=
  ⟨rfl, rfl, rfl, rfl, rfl, fun _ => rfl, EventsGrow.of_regs rfl rfl, fun _ h => h, fun _ h => h, fun _ h => h, fun _ h => .inr h,
    fun _ h => h, List.suffix_refl _, .inr rfl⟩

theorem onGrant_grant (d : Dev) (k who : Nat) : GrantRel d (d.onGrant k who) := by
  unfold Dev.onGrant
  dsimp only
  split
  · exact dvfsGranted_grant d
  · split
    · split
      · exact (startPll_grant d _).trans (setPort_st_grant _ _ _)
      · split
        · exact (startPll_grant d _).trans (setMp_grant _ _ _)
        · exact startPll_grant d _
    · split
      · exact startWake_grant d who
      · exact .refl d

/-- A token that is known moves to the held ones. -/
theorem moveToken_grant (d : Dev) (t : Nat × Nat) (ht : t ∈ d.pur.tokens ∨ t ∈ d.pur.waiting) :
    GrantRel d { d with pur := { d.pur with waiting := d.pur.waiting.filter (· != t), tokens := d.pur.tokens ++ [t] } } where
  frame := rfl
  clk := rfl
  pwr := rfl
  pur := rfl
  ports := rfl
  port _ := rfl
  events := EventsGrow.of_regs rfl rfl
  on _ h := h
  railEn _ h := h
  tokens _ h := List.mem_append_left _ h
  waiting x hx := by
    by_cases h : x = t
    · exact .inl (by simp [h])
    · exact .inr (by simp [hx, h])
  known x hx := by
    simp only [List.mem_append, List.mem_singleton, List.mem_filter] at hx
    rcases hx with (hx | rfl) | hx
    · exact .inl hx
    · exact ht
    · exact .inr hx.1
  sent := List.suffix_refl _
  level := .inr rfl

theorem giveToken_grant (d : Dev) (k who : Nat) (ht : (k, who) ∈ d.pur.tokens ∨ (k, who) ∈ d.pur.waiting) :
    GrantRel d (d.giveToken k who) :=
  (moveToken_grant d (k, who) ht).trans (onGrant_grant _ k who)

theorem GrantRel.still_known {d e : Dev} (h : GrantRel d e) {t : Nat × Nat} (ht : t ∈ d.pur.tokens ∨ t ∈ d.pur.waiting) :
    t ∈ e.pur.tokens ∨ t ∈ e.pur.waiting :=
  ht.elim (fun ht => .inl (h.tokens t ht)) (h.waiting t)

theorem grantList_grant (l : List (Nat × Nat)) (d : Dev) (hl : ∀ t ∈ l, t ∈ d.pur.tokens ∨ t ∈ d.pur.waiting) :
    GrantRel d (d.grantList l) := by
  induction l generalizing d with
  | nil => exact .refl d
  | cons t l ih =>
    rw [Dev.grantList]
    split
    · have hgive := giveToken_grant d t.1 t.2 (hl t (List.mem_cons_self ..))
      exact hgive.trans (ih _ fun x hx => hgive.still_known (hl x (List.mem_cons_of_mem _ hx)))
    · exact .refl d

theorem setLevel_grant (d : Dev) {l : Nat} (hl : l ≤ 12) : GrantRel d (d.setLevel l) := by
  have hlevel : GrantRel d { d with pur := { d.pur with level := l } } :=
    ⟨rfl, rfl, rfl, rfl, rfl, fun _ => rfl, EventsGrow.of_regs rfl rfl, fun _ h => h, fun _ h => h, fun _ h => h,
      fun _ h => .inr h, fun _ h => h, List.suffix_refl _, .inl hl⟩
  exact hlevel.trans (.raiseIf _ _ (by decide))

theorem grantTokens_grant (d : Dev) : GrantRel d d.grantTokens := by
  unfold Dev.grantTokens
  dsimp only
  have hlist := grantList_grant ((List.range 6).flatMap (fun k => d.pur.waiting.filter (fun t => t.1 == k))) d (by
    intro t ht
    simp only [List.mem_flatMap, List.mem_filter] at ht
    obtain ⟨_, _, hw, _⟩ := ht
    exact .inr hw)
  refine hlist.trans ?_
  split
  · exact (GrantRel.raiseIf _ _ (f := R.PUR_EVT.CAP_REACHED) (by decide)).trans (setLevel_grant _ (Nat.min_le_left ..))
  · exact .raiseIf _ _ (by decide)

/-- A token asked for is held or waits. -/
theorem askToken_known (d : Dev) (k who : Nat) :
    (k, who) ∈ (d.askToken k who).pur.tokens ∨ (k, who) ∈ (d.askToken k who).pur.waiting := by
  refine (grantTokens_grant (d.wantToken k who)).still_known ?_
  unfold Dev.wantToken
  split
  · next h => simpa [Dev.hasToken] using h
  · exact .inr (by simp)

theorem askToken_tokens (d : Dev) (k who : Nat) (t : Nat × Nat) (ht : t ∈ d.pur.tokens) : t ∈ (d.askToken k who).pur.tokens := by
  refine (grantTokens_grant (d.wantToken k who)).tokens t ?_
  unfold Dev.wantToken
  split <;> exact ht

/-- A token that is returned is held no more, and does not wait. -/
theorem returnToken_unknown (d : Dev) (k who : Nat) :
    (k, who) ∉ (d.returnToken k who).pur.tokens ∧ (k, who) ∉ (d.returnToken k who).pur.waiting := by
  have hknown := (grantTokens_grant (d.dropToken k who)).known (k, who)
  have hdrop : ¬ ((k, who) ∈ (d.dropToken k who).pur.tokens ∨ (k, who) ∈ (d.dropToken k who).pur.waiting) := by
    simp [Dev.dropToken]
  exact ⟨fun h => hdrop (hknown (.inl h)), fun h => hdrop (hknown (.inr h))⟩

theorem hasToken_eq_false {d : Dev} {k who : Nat} (h : (k, who) ∉ d.pur.tokens) : d.hasToken k who = false := by
  simpa [Dev.hasToken] using h

theorem hasToken_iff (d : Dev) (k who : Nat) : d.hasToken k who = true ↔ (k, who) ∈ d.pur.tokens := by
  simp [Dev.hasToken]

end Sys2Proof.Machine
end

section
/-! SUPPORT. What placing a record in a queue changes: that queue, its registers, and nothing else (R531, R537 to R539). -/

namespace Sys2Proof.Machine

set_option Elab.async false

/-- The registers that a record of queue n can change: its status, its lost count, and the block's events. -/
def recordRegs (n : Nat) : List Nat := [0xA10C + n * 0x20, 0xA114 + n * 0x20, 0xA00C]

/-- The device after records, and the registers of a list, have changed. -/
structure RecordRel (l : List Nat) (d e : Dev) : Prop where
  frame : e = { d with regs := e.regs, que := e.que }
  bank : ∀ o, o ∉ l → bankGet e.regs o = bankGet d.regs o

theorem RecordRel.refl (l : List Nat) (d : Dev) : RecordRel l d d := ⟨rfl, fun _ _ => rfl⟩

theorem RecordRel.trans {l : List Nat} {a b c : Dev} (h : RecordRel l a b) (k : RecordRel l b c) : RecordRel l a c where
  frame := by rw [k.frame, h.frame]
  bank o ho := (k.bank o ho).trans (h.bank o ho)

theorem RecordRel.mono {l m : List Nat} {d e : Dev} (h : RecordRel l d e) (hlm : ∀ o ∈ l, o ∈ m) : RecordRel m d e where
  frame := h.frame
  bank o ho := h.bank o fun hl => ho (hlm o hl)

theorem RecordRel.set {l : List Nat} (d : Dev) {f : FieldRef} (v : Nat) (h : f.ofs ∈ l) : RecordRel l d (d.set f v) where
  frame := rfl
  bank _ ho := bankGet_bankSet_ne _ _ _ _ fun he => ho (he ▸ h)

theorem RecordRel.raiseIf {l : List Nat} (d : Dev) (c : Bool) {f : FieldRef} (h : f.ofs ∈ l) : RecordRel l d (d.raiseIf c f) := by
  cases c with
  | false => exact .refl l d
  | true => exact .set d 1 h

theorem push_record (d : Dev) (n : Nat) (r : List Word) : RecordRel (recordRegs n) d (d.push n r) := by
  unfold Dev.push
  dsimp only
  split
  · exact .refl _ d
  · split
    · exact ((RecordRel.set d (f := R.QUEn_STAT.OVERFLOW n) 1 (by simp [recordRegs, R.QUEn_STAT.OVERFLOW])).trans
        (.set _ (f := R.QUEn_LOST.LOST n) _ (by simp [recordRegs, R.QUEn_LOST.LOST]))).trans
        (.set _ (f := evOverflow n) 1 (by simp [recordRegs, evOverflow]))
    · have hq : ∀ q, RecordRel (recordRegs n) d (d.setQueue n q) := fun q => ⟨rfl, fun _ _ => rfl⟩
      exact (hq _).trans (.raiseIf _ _ (by simp [recordRegs, evWm]))

theorem evqRaw_record (d : Dev) (src dev mode : Nat) (relayed : Bool) (inst sub a b : Nat) :
    RecordRel (recordRegs 0) d (d.evqRaw src dev mode relayed inst sub a b) := by
  unfold Dev.evqRaw
  dsimp only
  split
  · exact .refl _ d
  · have hseq : ∀ (e : Dev) q, RecordRel (recordRegs 0) e { e with que := { e.que with seq := q } } := fun _ _ => ⟨rfl, fun _ _ => rfl⟩
    exact (push_record d 0 _).trans (hseq _ _)

theorem evq_record (d : Dev) (src inst sub a b : Nat) : RecordRel (recordRegs 0) d (d.evq src inst sub a b) := evqRaw_record ..

theorem report_record (d : Dev) (f : FieldRef) (inst sub a b : Nat) :
    RecordRel (f.ofs :: recordRegs 0) d (d.report f inst sub a b) :=
  (RecordRel.set d 1 (List.mem_cons_self ..)).trans ((evq_record ..).mono fun _ ho => List.mem_cons_of_mem _ ho)

section
variable {l : List Nat} {d e : Dev} (h : RecordRel l d e)
include h

theorem RecordRel.get {f : FieldRef} (hf : f.ofs ∉ l) : e.get f = d.get f := by
  have hr : e.gcr = d.gcr := by rw [h.frame]
  simp only [Dev.get, Dev.raw, h.bank f.ofs hf, hr]

theorem RecordRel.flag {f : FieldRef} (hf : f.ofs ∉ l) : e.flag f = d.flag f := by simp only [Dev.flag, h.get hf]

theorem RecordRel.pwr : e.pwr = d.pwr := by rw [h.frame]
theorem RecordRel.gcr : e.gcr = d.gcr := by rw [h.frame]
theorem RecordRel.clk : e.clk = d.clk := by rw [h.frame]
theorem RecordRel.pur : e.pur = d.pur := by rw [h.frame]
theorem RecordRel.dsc : e.dsc = d.dsc := by rw [h.frame]
theorem RecordRel.chn : e.chn = d.chn := by rw [h.frame]
theorem RecordRel.twn : e.twn = d.twn := by rw [h.frame]
theorem RecordRel.ports : e.ports = d.ports := by rw [h.frame]
theorem RecordRel.dep : e.dep = d.dep := by rw [h.frame]
theorem RecordRel.store : e.store = d.store := by rw [h.frame]
theorem RecordRel.sent : e.sent = d.sent := by rw [h.frame]

end

/-- A reported event is latched (R494). -/
theorem flag_report_self (d : Dev) {f : FieldRef} (hok : fieldOk f = true) (hf : f.ofs ∉ recordRegs 0) (inst sub a b : Nat) :
    (d.report f inst sub a b).flag f = true := by
  rw [Dev.report, (evq_record ..).flag hf]
  exact flag_raise_self d f hok

/-- A report keeps an event that is latched in a register apart from the queues'. -/
theorem flag_report_mono (d : Dev) {f g : FieldRef} (hg : fieldsApart f g = true)
    (hq : g.ofs ∉ recordRegs 0) (inst sub a b : Nat) : (d.report f inst sub a b).flag g = d.flag g := by
  rw [Dev.report, (evq_record ..).flag hq]
  exact flag_raise_far d f g hg

end Sys2Proof.Machine
end

section
/-! SUPPORT. The lanes' state: what a change of one lane leaves, and what refreshes change (R306 to R308). -/

namespace Sys2Proof.Machine

set_option Elab.async false

/-! ## One lane -/

@[simp] theorem lane_setLane_same {d : Dev} {n : Nat} (h : n < d.dsc.lanes.length) (l : Lane) : (d.setLane n l).lane n = l := by
  simp [Dev.lane, Dev.setLane, h]

theorem lane_setLane_ne (d : Dev) {n m : Nat} (h : m ≠ n) (l : Lane) : (d.setLane n l).lane m = d.lane m := by
  simp [Dev.lane, Dev.setLane, List.getElem?_set_ne (Ne.symm h)]

@[simp] theorem length_setLane (d : Dev) (n : Nat) (l : Lane) : (d.setLane n l).dsc.lanes.length = d.dsc.lanes.length := by
  simp [Dev.setLane]

theorem lane_of_dsc {d e : Dev} (h : e.dsc = d.dsc) (n : Nat) : e.lane n = d.lane n := by rw [Dev.lane, h, Dev.lane]

@[simp] theorem settle_lane (d : Dev) (n : Nat) : (settle d).lane n = d.lane n := lane_of_dsc (settle_dsc d) n

theorem flag_of_regs {d e : Dev} (h : e.regs = d.regs) (hr : e.gcr.role = d.gcr.role) (f : FieldRef) : e.flag f = d.flag f := by
  simp only [Dev.flag, get_of_regs h hr]

@[simp] theorem post_acts (l : Lane) (a : List (Nat × Nat)) (r : Nat) : ({ l with acts := a } : Lane).post r = l.post r := rfl

@[simp] theorem post_setDue (l : Lane) (r q v : Nat) : (l.setDue q v).post r = l.post r := by
  unfold Lane.setDue; split <;> rfl

@[simp] theorem post_setPost (l : Lane) (r v : Nat) : (l.setPost r v).post r = v := by
  unfold Lane.setPost Lane.post; split <;> rfl

/-! ## Refreshes -/

/-- What refreshes change: the activates counted in a lane, the observed counts and what is driven. -/
structure RefreshRel (n : Nat) (d e : Dev) : Prop where
  frame : e = { d with dsc := e.dsc, pmu := e.pmu, sent := e.sent }
  lane : e.lane n = { d.lane n with acts := (e.lane n).acts }
  lanes : e.dsc.lanes.length = d.dsc.lanes.length
  sent : d.sent <:+ e.sent

theorem RefreshRel.refl (n : Nat) (d : Dev) : RefreshRel n d d := ⟨rfl, rfl, rfl, List.suffix_refl _⟩

theorem RefreshRel.trans {n : Nat} {a b c : Dev} (h : RefreshRel n a b) (k : RefreshRel n b c) : RefreshRel n a c where
  frame := by rw [k.frame, h.frame]
  lane := by rw [k.lane, h.lane]
  lanes := k.lanes.trans h.lanes
  sent := h.sent.trans k.sent

theorem RefreshRel.regs {n : Nat} {d e : Dev} (h : RefreshRel n d e) : e.regs = d.regs := by rw [h.frame]
theorem RefreshRel.store {n : Nat} {d e : Dev} (h : RefreshRel n d e) : e.store = d.store := by rw [h.frame]
theorem RefreshRel.role {n : Nat} {d e : Dev} (h : RefreshRel n d e) : e.gcr.role = d.gcr.role := by rw [h.frame]
theorem RefreshRel.flag {n : Nat} {d e : Dev} (h : RefreshRel n d e) (f : FieldRef) : e.flag f = d.flag f :=
  flag_of_regs h.regs h.role f

theorem RefreshRel.emit (n : Nat) (d : Dev) (o : Out) : RefreshRel n d (d.emit o) := ⟨rfl, rfl, rfl, ⟨[o], rfl⟩⟩

theorem RefreshRel.pmu1 (n : Nat) (d : Dev) (code v : Nat) : RefreshRel n d (d.pmu1 code v) := ⟨rfl, rfl, rfl, List.suffix_refl _⟩

theorem easeActs_lane {d : Dev} {n : Nat} (hn : n < d.dsc.lanes.length) (k : Nat) (p : Nat → Bool) :
    (d.easeActs n k p).lane n = { d.lane n with
      acts := ((d.lane n).acts.map (fun e => if p e.1 then (e.1, e.2 - k) else e)).filter (fun e => e.2 != 0) } := by
  unfold Dev.easeActs
  exact lane_setLane_same hn _

theorem RefreshRel.easeActs {d : Dev} {n : Nat} (hn : n < d.dsc.lanes.length) (k : Nat) (p : Nat → Bool) :
    RefreshRel n d (d.easeActs n k p) :=
  ⟨rfl, by rw [easeActs_lane hn], length_setLane _ _ _, List.suffix_refl _⟩

/-- One refresh of a rank. -/
theorem refreshOnce_rel {d : Dev} {n : Nat} (hn : n < d.dsc.lanes.length) (rank : Nat) :
    RefreshRel n d (d.refreshOnce n rank) := by
  unfold Dev.refreshOnce
  dsimp only
  split
  · have hcmds : RefreshRel n d ([0, 1, 2, 3].foldl (fun d b => d.emit (.laneCmd n rank "REFsb" b)) d) :=
      ⟨rfl, rfl, rfl, [3, 2, 1, 0].map (fun b => Out.laneCmd n rank "REFsb" b), rfl⟩
    exact (hcmds.trans (.pmu1 n _ (0x243 + 8 * n) 4)).trans (.easeActs (by exact hn) _ _)
  · exact ((RefreshRel.emit n d (.laneCmd n rank "REFab" 0)).trans (.pmu1 n _ (0x243 + 8 * n) 1)).trans
      (.easeActs (by exact hn) _ _)

/-- What was driven since a later point was driven since an earlier one. -/
theorem drove_before {d g t : Dev} {o : Out} (hg : d.sent <:+ g.sent) (ht : g.sent <:+ t.sent) (h : t.drove g o) :
    t.drove d o := by
  obtain ⟨a, ha⟩ := hg
  obtain ⟨b, hb⟩ := ht
  exact drove_of_append (l := b ++ a) (by rw [List.append_assoc, ha, hb])
    (List.mem_append_left _ ((drove_iff hb.symm).mp h))

@[simp] theorem raiseIf_dsc (d : Dev) (c : Bool) (f : FieldRef) : (d.raiseIf c f).dsc = d.dsc := by cases c <;> rfl

/-- The commands of one refresh (R306). -/
def refreshDriven (d t : Dev) (n rank : Nat) : Prop :=
  if d.flag R.DSC_CFG.REF_MODE then ∀ b, b < 4 → t.drove d (.laneCmd n rank "REFsb" b)
  else t.drove d (.laneCmd n rank "REFab" 0)

theorem refreshOnce_driven (d : Dev) (n rank : Nat) : refreshDriven d (d.refreshOnce n rank) n rank := by
  unfold refreshDriven Dev.refreshOnce
  dsimp only
  by_cases hf : d.flag R.DSC_CFG.REF_MODE = true
  · simp only [if_pos hf]
    intro b hb
    refine drove_of_append (l := [3, 2, 1, 0].map (fun b => Out.laneCmd n rank "REFsb" b)) rfl ?_
    simp only [List.mem_map]
    exact ⟨b, by simp; omega, rfl⟩
  · simp only [if_neg hf]
    exact drove_of_append (l := [.laneCmd n rank "REFab" 0]) rfl (by simp)

/-- What was driven before more is driven, is driven. -/
theorem refreshDriven_mono {d t u : Dev} {n rank : Nat} (h : refreshDriven d t n rank) (hd : d.sent <:+ t.sent)
    (hu : t.sent <:+ u.sent) : refreshDriven d u n rank := by
  unfold refreshDriven at h ⊢
  split
  · next hf => exact fun b hb => drove_mono (by rw [if_pos hf] at h; exact h b hb) hd hu
  · next hf => exact drove_mono (by rw [if_neg hf] at h; exact h) hd hu

/-- k refreshes of a rank. -/
theorem issueRefresh_rel {n : Nat} (rank k : Nat) {d : Dev} (hn : n < d.dsc.lanes.length) :
    RefreshRel n d (Dev.issueRefresh n rank k d) := by
  induction k generalizing d with
  | zero => exact .refl n d
  | succ k ih =>
    have honce := refreshOnce_rel hn rank
    exact honce.trans (ih (by rw [honce.lanes]; exact hn))

theorem issueRefresh_driven {n : Nat} (rank k : Nat) {d : Dev} (hn : n < d.dsc.lanes.length) (hk : k ≠ 0) :
    refreshDriven d (Dev.issueRefresh n rank k d) n rank := by
  cases k with
  | zero => exact absurd rfl hk
  | succ k =>
    have honce := refreshOnce_rel hn rank
    exact refreshDriven_mono (refreshOnce_driven d n rank) honce.sent
      (issueRefresh_rel rank k (by rw [honce.lanes]; exact hn)).sent

/-! ## The postponed refreshes of a rank -/

theorem GrantRel.store {d e : Dev} (h : GrantRel d e) : e.store = d.store := by rw [h.frame]
theorem GrantRel.dsc {d e : Dev} (h : GrantRel d e) : e.dsc = d.dsc := by rw [h.frame]

/-- A register outside the events that granting raises reads as before. -/
theorem GrantRel.get {d e : Dev} (h : GrantRel d e) {f : FieldRef} (hf : f.ofs ∉ grantEvents) : e.get f = d.get f := by
  simp only [Dev.get, Dev.raw, h.events.bank f.ofs hf, h.events.role]

theorem GrantRel.flag {d e : Dev} (h : GrantRel d e) {f : FieldRef} (hf : f.ofs ∉ grantEvents) : e.flag f = d.flag f := by
  simp only [Dev.flag, h.get hf]

/-- After the burst nothing of the rank is postponed, and a refresh was driven where one was postponed (R307). -/
theorem burstRefresh_effect {d : Dev} {n : Nat} (hn : n < d.dsc.lanes.length) (rank : Nat) (hp : (d.lane n).post rank ≠ 0) :
    ((d.burstRefresh n rank).lane n).post rank = 0 ∧ (d.burstRefresh n rank).store = d.store ∧
    (d.burstRefresh n rank).dsc.lanes.length = d.dsc.lanes.length ∧ d.sent <:+ (d.burstRefresh n rank).sent ∧
    refreshDriven d (d.burstRefresh n rank) n rank := by
  have hissue := issueRefresh_rel rank ((d.lane n).post rank) hn
  unfold Dev.burstRefresh
  dsimp only
  generalize hi : Dev.issueRefresh n rank ((d.lane n).post rank) d = i at hissue ⊢
  have hgrant := grantTokens_grant ((i.setLane n ((i.lane n).setPost rank 0)).dropToken 0 (refreshOwner n rank))
  have hni : n < i.dsc.lanes.length := by rw [hissue.lanes]; exact hn
  have hsent : i.sent <:+ ((i.setLane n ((i.lane n).setPost rank 0)).returnToken 0 (refreshOwner n rank)).sent := hgrant.sent
  refine ⟨?_, hgrant.store.trans hissue.store, ?_, hissue.sent.trans hsent, ?_⟩
  · rw [Dev.returnToken, lane_of_dsc hgrant.dsc]
    show ((i.setLane n _).lane n).post rank = 0
    rw [lane_setLane_same hni, post_setPost]
  · rw [Dev.returnToken, hgrant.dsc]
    exact (length_setLane ..).trans hissue.lanes
  · refine refreshDriven_mono ?_ hissue.sent hsent
    rw [← hi]
    exact issueRefresh_driven rank _ hn hp

end Sys2Proof.Machine
end

section
/-! THEOREM. Refresh, refresh management, temperature and calibration (R306 to R310). -/

namespace Sys2Proof.Machine

set_option Elab.async false

/-- Drives and their order: what the rank's refresh drove is driven after the command. -/
theorem refreshDriven_settle {d t : Dev} {n rank : Nat} (h : refreshDriven d t n rank) (hd : d.sent <:+ t.sent) :
    refreshDriven d (settle t) n rank := refreshDriven_mono h hd (settle_rel t).sent

/-- The refreshed lane's next interval, with the counts of postponed refreshes as they were. -/
theorem armRefresh_lane {d : Dev} {n : Nat} (hn : n < d.dsc.lanes.length) (rank : Nat) :
    (d.armRefresh n rank).lane n = (d.lane n).setDue rank (d.refreshEvery n rank) := lane_setLane_same hn _

theorem due_setDue (l : Lane) (rank v : Nat) :
    (if rank = 0 then (l.setDue rank v).due0 else (l.setDue rank v).due1) = v := by
  unfold Lane.setDue; split <;> rfl

theorem refreshEvery_congr {d e : Dev} {n rank : Nat} (hl : (e.lane n).temp rank = (d.lane n).temp rank)
    (hr : e.regs = d.regs) (hg : e.gcr.role = d.gcr.role) : e.refreshEvery n rank = d.refreshEvery n rank := by
  simp only [Dev.refreshEvery, hl, get_of_regs hr hg, flag_of_regs hr hg]

/-- A rank with no access waiting is refreshed at once (R306). -/
theorem refresh_idle (d : Dev) (n rank : Nat) (hl : (d.lane n).live = true) (hr : rank < d.laneRanks n)
    (hb : d.rankBusy n rank = false) : refresh n rank d = (d.refreshOnce n rank).armRefresh n rank := by
  simp [refresh, Dev.refreshed, hl, Nat.not_le.mpr hr, hb]

/-- A busy rank below its limit postpones and asks for a token (R307). -/
theorem refresh_postpones (d : Dev) (n rank : Nat) (hl : (d.lane n).live = true) (hr : rank < d.laneRanks n)
    (hb : d.rankBusy n rank = true) (hp : (d.lane n).post rank + 1 < d.postLimit) :
    refresh n rank d = ((d.setLane n ((d.lane n).setPost rank ((d.lane n).post rank + 1))).armRefresh n rank).askToken 0
      (refreshOwner n rank) := by
  simp [refresh, Dev.refreshed, hl, Nat.not_le.mpr hr, hb, hp]

/-- At its limit the rank's refreshes are issued at once (R307). -/
theorem refresh_limit (d : Dev) (n rank : Nat) (hl : (d.lane n).live = true) (hr : rank < d.laneRanks n)
    (hb : d.rankBusy n rank = true) (hp : ¬ (d.lane n).post rank + 1 < d.postLimit) :
    refresh n rank d = ((d.setLane n ((d.lane n).setPost rank ((d.lane n).post rank + 1))).burstRefresh n rank).armRefresh n
      rank := by
  simp [refresh, Dev.refreshed, hl, Nat.not_le.mpr hr, hb, hp]

theorem postponedRefreshBurst_runs (d : Dev) (n rank : Nat) (hl : (d.lane n).live = true) (hp : (d.lane n).post rank ≠ 0)
    (h : d.hasToken 0 (refreshOwner n rank) = true ∨ d.postLimit ≤ (d.lane n).post rank) :
    postponedRefreshBurst n rank d = d.grantTokens.burstRefresh n rank := by
  have hgrant := grantTokens_grant d
  have hgo : d.grantTokens.hasToken 0 (refreshOwner n rank) = true ∨ d.grantTokens.postLimit ≤ (d.lane n).post rank := by
    rcases h with h | h
    · exact .inl ((hasToken_iff ..).mpr (hgrant.tokens _ ((hasToken_iff ..).mp h)))
    · exact .inr (by rw [Dev.postLimit, hgrant.get (by decide)]; exact h)
  simp [postponedRefreshBurst, Dev.refreshed, hl, hp, hgo]

/-- An RFM of a bank at its threshold (R308). -/
theorem rfm_runs (d : Dev) (n rank bank : Nat) (hl : (d.lane n).live = true) (hr : rank < d.laneRanks n)
    (hm : (d.lane n).rfm = true) (ha : (d.lane n).rfmAt ≤ actsAt (d.lane n).acts (bankAt rank bank)) :
    rfm n rank bank d = ((d.easeActs n (d.lane n).rfmAt (· == bankAt rank bank)).emit (.laneCmd n rank "RFM" bank)).pmu1
      (0x244 + 8 * n) := by
  simp [rfm, Dev.refreshed, hl, hr, hm, ha]

theorem rfm_idle (d : Dev) (n rank bank : Nat)
    (h : (d.lane n).rfm = false ∨ actsAt (d.lane n).acts (bankAt rank bank) < (d.lane n).rfmAt) : rfm n rank bank d = d := by
  unfold rfm
  dsimp only
  rw [if_neg]
  simp only [Bool.and_eq_true, decide_eq_true_eq]
  rintro ⟨⟨_, hm⟩, ha⟩
  rcases h with h | h
  · rw [h] at hm; exact Bool.noConfusion hm
  · omega

/-- Calibration drives a command to rank 0 of a lane, as every lane has one. -/
theorem zqLane_drives (d : Dev) (n : Nat) :
    ∃ l, d.zqLane n = { d with sent := l ++ d.sent } ∧ Out.laneCmd n 0 "ZQCAL" 0 ∈ l := by
  have hfold : d.zqLane n = ((d.ranksOf n).map (fun r => Out.laneCmd n r "ZQCAL" 0)).foldl Dev.emit d := by
    rw [List.foldl_map]; rfl
  refine ⟨_, hfold.trans (foldl_emit _ d), ?_⟩
  simp only [List.mem_reverse, List.mem_map]
  exact ⟨0, by simp [Dev.ranksOf, Dev.laneRanks], rfl⟩

theorem zqLanes_drive (l : List Nat) (d : Dev) :
    ∃ m, l.foldl Dev.zqLane d = { d with sent := m ++ d.sent } ∧ ∀ n ∈ l, Out.laneCmd n 0 "ZQCAL" 0 ∈ m := by
  induction l generalizing d with
  | nil => exact ⟨[], rfl, by simp⟩
  | cons n l ih =>
    obtain ⟨a, ha, hmem⟩ := zqLane_drives d n
    obtain ⟨m, hm, hall⟩ := ih (d.zqLane n)
    refine ⟨m ++ a, ?_, ?_⟩
    · rw [List.foldl_cons, hm, ha]
      simp
    · intro k hk
      rcases List.mem_cons.mp hk with rfl | hk
      · exact List.mem_append_right _ hmem
      · exact List.mem_append_left _ (hall k hk)

@[simp] theorem wantToken_store (d : Dev) (k who : Nat) : (d.wantToken k who).store = d.store := by
  unfold Dev.wantToken; split <;> rfl

@[simp] theorem wantToken_dsc (d : Dev) (k who : Nat) : (d.wantToken k who).dsc = d.dsc := by
  unfold Dev.wantToken; split <;> rfl

/-- What was driven after tokens had been granted was driven after the state before them. -/
theorem refreshDriven_before {d g t : Dev} {n rank : Nat} (hg : GrantRel d g) (h : refreshDriven g t n rank)
    (ht : g.sent <:+ t.sent) : refreshDriven d t n rank := by
  unfold refreshDriven at h ⊢
  rw [hg.flag (by decide)] at h
  split
  · next hf => exact fun b hb => drove_before hg.sent ht (by rw [if_pos hf] at h; exact h b hb)
  · next hf => exact drove_before hg.sent ht (by rw [if_neg hf] at h; exact h)

/-- The MR4 poll of a rank: its class and the events of its rise (R309). -/
theorem mr4Poll_effect (d : Dev) {n rank : Nat} (hn : n < d.dsc.lanes.length) (cls : Nat) (hl : (d.lane n).live = true)
    (hr : rank < d.laneRanks n) :
    (mr4Poll n rank cls d).lane n = (d.lane n).setTemp rank (min 2 cls) ∧
    (1 ≤ cls → (d.lane n).hot rank = false → (mr4Poll n rank cls d).flag R.DSC_EVT.TEMP_HIGH = true) ∧
    (2 ≤ cls → (mr4Poll n rank cls d).flag R.DSC_EVT.TEMP_CRIT = true) := by
  let polled := (((d.emit (.laneCmd n rank "MR4" 0)).setLane n ((d.lane n).setTemp rank (min 2 cls))).raiseIf
    (decide (1 ≤ min 2 cls) && !(d.lane n).hot rank) R.DSC_EVT.TEMP_HIGH)
  have hlane : polled.lane n = (d.lane n).setTemp rank (min 2 cls) := by
    rw [lane_of_dsc (e := polled) (raiseIf_dsc ..)]
    exact lane_setLane_same (d := d.emit _) hn _
  have hhigh : 1 ≤ cls → (d.lane n).hot rank = false → polled.flag R.DSC_EVT.TEMP_HIGH = true := fun hc hh =>
    flag_raiseIf_self _ _ _ (by decide) (by simp [hh]; omega)
  have heq : mr4Poll n rank cls d = if min 2 cls = 2 then polled.report R.DSC_EVT.TEMP_CRIT n rank 0 0 else polled := by
    unfold mr4Poll
    rw [if_neg (by simp [Dev.refreshed, hl, hr])]
    rfl
  rw [heq]
  split
  · refine ⟨by rw [lane_of_dsc (report_record ..).dsc, hlane], fun hc hh => ?_, fun _ => flag_report_self _ (by decide) (by decide) ..⟩
    rw [flag_report_mono _ (by decide) (by decide)]
    exact hhigh hc hh
  · exact ⟨hlane, hhigh, fun hc => by omega⟩

theorem refreshDriven_setLane {d t : Dev} {n m rank : Nat} {l : Lane} (h : refreshDriven (d.setLane m l) t n rank) :
    refreshDriven d t n rank := h

/-- An idle rank's refresh. -/
theorem refresh_idle_effect (d : Dev) {n rank : Nat} (hn : n < d.dsc.lanes.length) (hl : (d.lane n).live = true)
    (hr : rank < d.laneRanks n) (hb : d.rankBusy n rank = false) :
    ((refresh n rank d).lane n).post rank = (d.lane n).post rank ∧
    (if rank = 0 then ((refresh n rank d).lane n).due0 else ((refresh n rank d).lane n).due1) = d.refreshEvery n rank ∧
    (refresh n rank d).store = d.store ∧ d.sent <:+ (refresh n rank d).sent ∧ refreshDriven d (refresh n rank d) n rank := by
  have honce := refreshOnce_rel hn rank
  have hn' : n < (d.refreshOnce n rank).dsc.lanes.length := by rw [honce.lanes]; exact hn
  rw [refresh_idle _ _ _ hl hr hb, armRefresh_lane hn', due_setDue, post_setDue]
  refine ⟨?_, ?_, honce.store, honce.sent, refreshOnce_driven d n rank⟩
  · rw [honce.lane]; rfl
  · exact refreshEvery_congr (by rw [honce.lane]; rfl) honce.regs honce.role

/-- A busy rank below its limit postpones its refresh and asks for a token (R307). -/
theorem refresh_postpones_effect (d : Dev) {n rank : Nat} (hn : n < d.dsc.lanes.length) (hl : (d.lane n).live = true)
    (hr : rank < d.laneRanks n) (hb : d.rankBusy n rank = true) (hp : (d.lane n).post rank + 1 < d.postLimit) :
    (refresh n rank d).store = d.store ∧ ((refresh n rank d).lane n).post rank = (d.lane n).post rank + 1 ∧
    ((refresh n rank d).hasToken 0 (refreshOwner n rank) = true ∨
      (0, refreshOwner n rank) ∈ (refresh n rank d).pur.waiting) := by
  rw [refresh_postpones _ _ _ hl hr hb hp]
  have hn' : n < (d.setLane n ((d.lane n).setPost rank ((d.lane n).post rank + 1))).dsc.lanes.length := by
    rw [length_setLane]; exact hn
  have hlane := armRefresh_lane hn' rank
  have hstore : ((d.setLane n ((d.lane n).setPost rank ((d.lane n).post rank + 1))).armRefresh n rank).store = d.store := rfl
  generalize (d.setLane n ((d.lane n).setPost rank ((d.lane n).post rank + 1))).armRefresh n rank = a at hlane hstore ⊢
  have hgrant := grantTokens_grant (a.wantToken 0 (refreshOwner n rank))
  refine ⟨?_, ?_, ?_⟩
  · rw [Dev.askToken, hgrant.store, wantToken_store, hstore]
  · rw [Dev.askToken, lane_of_dsc (hgrant.dsc.trans (wantToken_dsc ..)), hlane, post_setDue, lane_setLane_same hn, post_setPost]
  · simpa only [hasToken_iff] using askToken_known a 0 (refreshOwner n rank)

/-- At its limit a busy rank issues all its refreshes (R307). -/
theorem refresh_limit_effect (d : Dev) {n rank : Nat} (hn : n < d.dsc.lanes.length) (hl : (d.lane n).live = true)
    (hr : rank < d.laneRanks n) (hb : d.rankBusy n rank = true) (hp : ¬ (d.lane n).post rank + 1 < d.postLimit) :
    (refresh n rank d).store = d.store ∧ ((refresh n rank d).lane n).post rank = 0 ∧ d.sent <:+ (refresh n rank d).sent ∧
    refreshDriven d (refresh n rank d) n rank := by
  rw [refresh_limit _ _ _ hl hr hb hp]
  have hn' : n < (d.setLane n ((d.lane n).setPost rank ((d.lane n).post rank + 1))).dsc.lanes.length := by
    rw [length_setLane]; exact hn
  obtain ⟨hpost, hstore, hlanes, hsent, hdrive⟩ := burstRefresh_effect hn' rank (by
    rw [lane_setLane_same hn, post_setPost]; omega)
  generalize (d.setLane n _).burstRefresh n rank = b at hpost hstore hlanes hsent hdrive ⊢
  refine ⟨hstore, ?_, hsent, refreshDriven_setLane hdrive⟩
  rw [armRefresh_lane (by rw [hlanes]; exact hn'), post_setDue, hpost]

/-- The postponed refreshes of a rank are issued (R307). -/
theorem postponedRefreshBurst_effect (d : Dev) {n rank : Nat} (hn : n < d.dsc.lanes.length) (hl : (d.lane n).live = true)
    (hp : (d.lane n).post rank ≠ 0)
    (hgo : d.hasToken 0 (refreshOwner n rank) = true ∨ d.postLimit ≤ (d.lane n).post rank) :
    ((postponedRefreshBurst n rank d).lane n).post rank = 0 ∧ (postponedRefreshBurst n rank d).store = d.store ∧
    d.sent <:+ (postponedRefreshBurst n rank d).sent ∧ refreshDriven d (postponedRefreshBurst n rank d) n rank := by
  have hgrant := grantTokens_grant d
  rw [postponedRefreshBurst_runs _ _ _ hl hp hgo]
  obtain ⟨hpost, hstore, _, hsent, hdrive⟩ := burstRefresh_effect (d := d.grantTokens) (n := n)
    (by rw [hgrant.dsc]; exact hn) rank (by rw [lane_of_dsc hgrant.dsc]; exact hp)
  exact ⟨hpost, hstore.trans hgrant.store, hgrant.sent.trans hsent, refreshDriven_before hgrant hdrive hsent⟩

/-- Settles O49: each command is one of the branches above, and the refreshes change activates, counts and outputs alone. -/
theorem refreshCommands : Obligations.RefreshCommands := by
  unfold Obligations.RefreshCommands
  refine ⟨?_, ?_, ?_, ?_, ?_, ?_, ?_⟩
  · intro n rank s hrun hn hlen hl hr _ hb
    obtain ⟨hpost, hdue, hstore, hsent, hdrive⟩ := refresh_idle_effect s.dev (by omega) hl hr hb
    refine ⟨_, onCore_runs hrun _, ?_⟩
    simp only [State.setDev_dev, settle_lane, settle_store]
    exact ⟨hpost, hdue, hstore, refreshDriven_settle hdrive hsent⟩
  · intro n rank s hrun hn hlen hl hr _ hb
    refine ⟨_, onCore_runs hrun _, ?_⟩
    simp only [State.setDev_dev, settle_lane, settle_store]
    by_cases hp : (s.dev.lane n).post rank + 1 < s.dev.postLimit
    · obtain ⟨hstore, hpost, htok⟩ := refresh_postpones_effect s.dev (by omega) hl hr hb hp
      rw [if_pos hp]
      exact ⟨hstore, hpost, by simpa only [Dev.hasToken, settle_pur] using htok⟩
    · obtain ⟨hstore, hpost, hsent, hdrive⟩ := refresh_limit_effect s.dev (by omega) hl hr hb hp
      rw [if_neg hp]
      exact ⟨hstore, hpost, refreshDriven_settle hdrive hsent⟩
  · intro n rank s hrun hn hlen hl _ hp hgo
    obtain ⟨hpost, hstore, hsent, hdrive⟩ := postponedRefreshBurst_effect s.dev (by omega) hl hp hgo
    refine ⟨_, onCore_runs hrun _, ?_⟩
    simp only [State.setDev_dev, settle_lane, settle_store]
    exact ⟨hpost, hstore, refreshDriven_settle hdrive hsent⟩
  · intro n rank bank s hrun hn hlen hl hr hm ha
    have hn : n < s.dev.dsc.lanes.length := by omega
    refine ⟨_, onCore_runs hrun _, ?_⟩
    rw [rfm_runs _ _ _ _ hl hr hm ha]
    refine ⟨by simp [Dev.easeActs], ?_, ?_⟩
    · exact drove_settle (drove_emit (s.dev.easeActs n _ _) _) (List.suffix_cons ..)
    · rw [State.setDev_dev, settle_lane]
      refine (easeActs_lane hn (s.dev.lane n).rfmAt (· == bankAt rank bank)).trans ?_
      simp only [beq_iff_eq]
  · intro n rank bank s hrun h
    refine ⟨_, onCore_runs hrun _, ?_⟩
    rw [rfm_idle _ _ _ _ h]
    simp
  · intro n rank cls s hrun hn hlen hl hr
    have hn : n < s.dev.dsc.lanes.length := by omega
    refine ⟨_, onCore_runs hrun _, ?_⟩
    obtain ⟨hlane, hhigh, hcrit⟩ := mr4Poll_effect s.dev hn cls hl hr
    exact ⟨by simpa using hlane, by simpa using hhigh, by simpa using hcrit⟩
  · intro s hrun
    obtain ⟨m, hm, hall⟩ := zqLanes_drive ((List.range 18).filter s.dev.refreshed) s.dev
    refine ⟨_, onCore_runs hrun _, ?_⟩
    rw [zqCalibration, hm]
    refine ⟨by simp, by simp, fun n hn hl => ?_⟩
    exact drove_settle (drove_of_append rfl (hall n (by simp [Dev.refreshed, hn, hl]))) ⟨m, rfl⟩

end Sys2Proof.Machine
end

section
/-! SUPPORT. What changes of mode, granted tokens and the loss of a way group leave as it is: the lanes, the store, and every
register but the events these raise (R320, R439, R455, R456). -/

namespace Sys2Proof.Machine

set_option Elab.async false

/-- The registers that a change of mode, a granted token, the loss of a group and a record can change. -/
def calmRegs : List Nat := grantEvents ++ recordRegs 0 ++ [R.GCR_EVT.MODE_CHANGE.ofs, R.PWR_WG_REQ.REQ.ofs]

/-- Neither the lanes nor the store nor another register has changed, and no token is asked for. -/
structure CalmRel (d e : Dev) : Prop where
  dsc : e.dsc = d.dsc
  store : e.store = d.store
  role : e.gcr.role = d.gcr.role
  bank : ∀ o, o ∉ calmRegs → bankGet e.regs o = bankGet d.regs o
  railGood : e.pwr.railGood = d.pwr.railGood
  known : ∀ t, t ∈ e.pur.tokens ∨ t ∈ e.pur.waiting → t ∈ d.pur.tokens ∨ t ∈ d.pur.waiting
  sent : d.sent <:+ e.sent

theorem CalmRel.refl (d : Dev) : CalmRel d d := ⟨rfl, rfl, rfl, fun _ _ => rfl, rfl, fun _ h => h, List.suffix_refl _⟩

theorem CalmRel.trans {a b c : Dev} (h : CalmRel a b) (k : CalmRel b c) : CalmRel a c where
  dsc := k.dsc.trans h.dsc
  store := k.store.trans h.store
  role := k.role.trans h.role
  bank o ho := (k.bank o ho).trans (h.bank o ho)
  railGood := k.railGood.trans h.railGood
  known t ht := h.known t (k.known t ht)
  sent := h.sent.trans k.sent

section
variable {d e : Dev} (h : CalmRel d e)
include h

theorem CalmRel.get {f : FieldRef} (hf : f.ofs ∉ calmRegs) : e.get f = d.get f := by
  simp only [Dev.get, Dev.raw, h.bank f.ofs hf, h.role]

theorem CalmRel.flag {f : FieldRef} (hf : f.ofs ∉ calmRegs) : e.flag f = d.flag f := by simp only [Dev.flag, h.get hf]

theorem CalmRel.lane (n : Nat) : e.lane n = d.lane n := lane_of_dsc h.dsc n

end

theorem GrantRel.calm {d e : Dev} (h : GrantRel d e) : CalmRel d e where
  dsc := h.dsc
  store := h.store
  role := h.events.role
  bank o ho := h.events.bank o fun hl => ho (by simp [calmRegs, hl])
  railGood := by rw [h.pwr]
  known := h.known
  sent := h.sent

theorem RecordRel.calm {l : List Nat} {d e : Dev} (h : RecordRel l d e) (hl : ∀ o ∈ l, o ∈ calmRegs) : CalmRel d e where
  dsc := h.dsc
  store := h.store
  role := by rw [h.gcr]
  bank o ho := h.bank o fun hm => ho (hl o hm)
  railGood := by rw [h.pwr]
  known := by rw [h.pur]; exact fun _ ht => ht
  sent := by rw [h.sent]

theorem CalmRel.set (d : Dev) {f : FieldRef} (v : Nat) (hf : f.ofs ∈ calmRegs) : CalmRel d (d.set f v) :=
  (RecordRel.set (l := [f.ofs]) d v (List.mem_singleton_self _)).calm fun o ho => by
    rw [List.mem_singleton.mp ho]; exact hf

theorem toMode_calm (d : Dev) (m : Mode) : CalmRel d (d.toMode m) := by
  unfold Dev.toMode
  split
  · exact .refl d
  · have hmode : CalmRel d { d with gcr := { d.gcr with mode := m, prev := d.gcr.mode.code } } :=
      ⟨rfl, rfl, rfl, fun _ _ => rfl, rfl, fun _ h => h, List.suffix_refl _⟩
    exact hmode.trans (.set _ (f := R.GCR_EVT.MODE_CHANGE) 1 (by decide))

theorem remode_calm (d : Dev) : CalmRel d d.remode := by
  unfold Dev.remode
  split
  · exact toMode_calm d _
  · exact .refl d

theorem faultN_calm (d : Dev) : CalmRel d d.faultN :=
  ⟨rfl, rfl, rfl, fun _ _ => rfl, rfl, fun _ h => h, List.suffix_refl _⟩

theorem oweFrame_calm (d : Dev) (w : Nat) : CalmRel d (d.oweFrame w) :=
  ⟨rfl, rfl, rfl, fun _ _ => rfl, rfl, fun _ h => h, List.suffix_refl _⟩

theorem enterRecovery_calm (d : Dev) : CalmRel d d.enterRecovery := by
  unfold Dev.enterRecovery
  split
  · exact .refl d
  · exact ((toMode_calm d _).trans (faultN_calm _)).trans (oweFrame_calm _ _)

theorem dropToken_calm (d : Dev) (k who : Nat) : CalmRel d (d.dropToken k who) where
  dsc := rfl
  store := rfl
  role := rfl
  bank _ _ := rfl
  railGood := rfl
  known t ht := by
    simp only [Dev.dropToken, List.mem_filter] at ht
    exact ht.imp And.left And.left
  sent := List.suffix_refl _

theorem returnToken_calm (d : Dev) (k who : Nat) : CalmRel d (d.returnToken k who) :=
  (dropToken_calm d k who).trans (grantTokens_grant _).calm

/-- A change of the pipeline alone. -/
theorem pip_calm (d : Dev) (p : Pip) : CalmRel d { d with pip := p } :=
  ⟨rfl, rfl, rfl, fun _ _ => rfl, rfl, fun _ h => h, List.suffix_refl _⟩

theorem startLossSweep_calm (d : Dev) (g : Nat) : CalmRel d (d.startLossSweep g) := by
  unfold Dev.startLossSweep
  dsimp only
  split
  · exact pip_calm d _
  · split
    · exact pip_calm d _
    · split
      · exact pip_calm d _
      · exact (pip_calm d _).trans (.set _ _ (show R.PWR_WG_REQ.REQ.ofs ∈ calmRegs by decide))

theorem loseGroup_calm (d : Dev) (g : Nat) : CalmRel d (d.loseGroup g) := by
  unfold Dev.loseGroup
  dsimp only
  split
  · exact .refl d
  · have hsweep := (pip_calm d { d.pip with lost := putBit d.pip.lost g true }).trans (startLossSweep_calm _ g)
    split
    · exact hsweep.trans (enterRecovery_calm _)
    · exact hsweep

theorem groupFails_calm (d : Dev) (g : Nat) : CalmRel d (d.groupFails g) := by
  unfold Dev.groupFails
  split
  · have hwake : CalmRel d { d with pwr := { d.pwr with waking := putBit d.pwr.waking g false },
                                    pip := { d.pip with lost := putBit d.pip.lost g false } } :=
      ⟨rfl, rfl, rfl, fun _ _ => rfl, rfl, fun _ h => h, List.suffix_refl _⟩
    exact (hwake.trans (dropToken_calm _ 3 g)).trans (loseGroup_calm _ g)
  · exact loseGroup_calm d g

theorem endWake_calm (d : Dev) (g : Nat) : CalmRel d (d.endWake g) := by
  unfold Dev.endWake
  dsimp only
  split
  · have hwake : CalmRel d { d with pwr := { d.pwr with waking := putBit d.pwr.waking g false },
                                    pip := { d.pip with lost := putBit d.pip.lost g false } } :=
      ⟨rfl, rfl, rfl, fun _ _ => rfl, rfl, fun _ h => h, List.suffix_refl _⟩
    exact (hwake.trans (returnToken_calm _ 3 g)).trans (remode_calm _)
  · exact .refl d

/-! ## The loss of a lane (R319, R323, R324, R340) -/

/-- A lost lane. -/
def Lane.gone (l : Lane) : Lane := { l with st := 5, lost := true, live := false, due0 := 0, due1 := 0 }

theorem loseLane_lost {d : Dev} {n : Nat} (h : (d.lane n).st = 5) (cause : Nat) : d.loseLane n cause = d := by
  simp [Dev.loseLane, h]

/-- The loss of a lane that was not lost: the lane, LANE_LOST, and what follows for its group and the mode. -/
theorem loseLane_calm {d : Dev} {n : Nat} (h : (d.lane n).st ≠ 5) (cause : Nat) :
    CalmRel ((d.setLane n (d.lane n).gone).report R.DSC_EVT.LANE_LOST n cause 0 0) (d.loseLane n cause) := by
  have hrest : ∀ e : Dev, CalmRel e (if e.isMirror then ({ e with twn := { e.twn with st := .detached } }).enterRecovery
      else e.remode) := by
    intro e
    split
    · have htwn : CalmRel e { e with twn := { e.twn with st := .detached } } :=
        ⟨rfl, rfl, rfl, fun _ _ => rfl, rfl, fun _ h => h, List.suffix_refl _⟩
      exact htwn.trans (enterRecovery_calm _)
    · exact remode_calm e
  have hgroup : ∀ e : Dev, CalmRel e (if 16 ≤ n then e.enterRecovery else e.groupFails (n / 4)) := by
    intro e
    split
    · exact enterRecovery_calm e
    · exact groupFails_calm e _
  unfold Dev.loseLane
  rw [if_neg h]
  exact (hgroup _).trans (hrest _)

theorem loseLane_lane_ne (d : Dev) {n m : Nat} (h : m ≠ n) (cause : Nat) : (d.loseLane n cause).lane m = d.lane m := by
  by_cases hst : (d.lane n).st = 5
  · rw [loseLane_lost hst]
  · rw [(loseLane_calm hst cause).lane, lane_of_dsc (report_record ..).dsc, lane_setLane_ne _ h]

theorem loseLane_lanes (d : Dev) (n cause : Nat) : (d.loseLane n cause).dsc.lanes.length = d.dsc.lanes.length := by
  by_cases hst : (d.lane n).st = 5
  · rw [loseLane_lost hst]
  · rw [(loseLane_calm hst cause).dsc, (report_record ..).dsc, length_setLane]

theorem loseLane_st {d : Dev} {n : Nat} (h : n < d.dsc.lanes.length) (cause : Nat) : ((d.loseLane n cause).lane n).st = 5 := by
  by_cases hst : (d.lane n).st = 5
  · rw [loseLane_lost hst, hst]
  · rw [(loseLane_calm hst cause).lane, lane_of_dsc (report_record ..).dsc, lane_setLane_same h, Lane.gone]

/-- An event of the controller that another one does not overlay stays. -/
theorem loseLane_flag (d : Dev) (n cause : Nat) {f : FieldRef} (hf : f.ofs ∉ calmRegs)
    (hfar : fieldsApart R.DSC_EVT.LANE_LOST f = true) : (d.loseLane n cause).flag f = d.flag f := by
  by_cases hst : (d.lane n).st = 5
  · rw [loseLane_lost hst]
  · rw [(loseLane_calm hst cause).flag hf, flag_report_mono _ hfar fun hm => hf (by simp [calmRegs, hm])]
    rfl

theorem loseLane_railGood (d : Dev) (n cause : Nat) : (d.loseLane n cause).pwr.railGood = d.pwr.railGood := by
  by_cases hst : (d.lane n).st = 5
  · rw [loseLane_lost hst]
  · rw [(loseLane_calm hst cause).railGood, (report_record ..).pwr]
    rfl

end Sys2Proof.Machine
end

section
/-! SUPPORT. The steps of a lane's start-up: what they change and what they drive (R300 to R303). -/

namespace Sys2Proof.Machine

set_option Elab.async false

/-- What start-up steps change: outputs, free values, and a lane's refresh management and refreshes. -/
structure TrainRel (n : Nat) (d e : Dev) : Prop where
  frame : e = { d with dsc := e.dsc, sent := e.sent, free := e.free }
  lane : e.lane n = { d.lane n with rfm := (e.lane n).rfm, rfmAt := (e.lane n).rfmAt, live := (e.lane n).live,
                                    due0 := (e.lane n).due0, due1 := (e.lane n).due1 }
  lanes : e.dsc.lanes.length = d.dsc.lanes.length
  sent : d.sent <:+ e.sent

theorem TrainRel.refl (n : Nat) (d : Dev) : TrainRel n d d := ⟨rfl, rfl, rfl, List.suffix_refl _⟩

theorem TrainRel.trans {n : Nat} {a b c : Dev} (h : TrainRel n a b) (k : TrainRel n b c) : TrainRel n a c where
  frame := by rw [k.frame, h.frame]
  lane := by rw [k.lane, h.lane]
  lanes := k.lanes.trans h.lanes
  sent := h.sent.trans k.sent

theorem TrainRel.foldl {n : Nat} {α : Type} {f : Dev → α → Dev}
    (h : ∀ d x, n < d.dsc.lanes.length → TrainRel n d (f d x)) (l : List α) {d : Dev} (hn : n < d.dsc.lanes.length) :
    TrainRel n d (l.foldl f d) := by
  induction l generalizing d with
  | nil => exact .refl n d
  | cons x l ih =>
    have hx := h d x hn
    exact hx.trans (ih (by rw [hx.lanes]; exact hn))

/-- What one of a run of steps drives is driven after the run. -/
theorem TrainRel.foldl_drives {n : Nat} {α : Type} {f : Dev → α → Dev} {o : Out} {x : α}
    (h : ∀ d x, n < d.dsc.lanes.length → TrainRel n d (f d x)) {l : List α} (hx : x ∈ l) {d : Dev}
    (hn : n < d.dsc.lanes.length)
    (hd : ∀ e : Dev, TrainRel n d e → (f e x).drove e o) : (l.foldl f d).drove d o := by
  induction l generalizing d with
  | nil => exact absurd hx List.not_mem_nil
  | cons y l ih =>
    have hy := h d y hn
    have hny : n < (f d y).dsc.lanes.length := by rw [hy.lanes]; exact hn
    have hrest := TrainRel.foldl h l hny
    rcases List.mem_cons.mp hx with rfl | hx
    · exact drove_mono (hd d (.refl n d)) hy.sent hrest.sent
    · exact drove_before hy.sent hrest.sent (ih hx hny fun e he => hd e (hy.trans he))

section
variable {n : Nat} {d e : Dev} (h : TrainRel n d e)
include h

theorem TrainRel.regs : e.regs = d.regs := by rw [h.frame]
theorem TrainRel.role : e.gcr.role = d.gcr.role := by rw [h.frame]
theorem TrainRel.pur : e.pur = d.pur := by rw [h.frame]
theorem TrainRel.store : e.store = d.store := by rw [h.frame]
theorem TrainRel.get (f : FieldRef) : e.get f = d.get f := get_of_regs h.regs h.role f
theorem TrainRel.flag (f : FieldRef) : e.flag f = d.flag f := flag_of_regs h.regs h.role f
theorem TrainRel.laneRanks (m : Nat) : e.laneRanks m = d.laneRanks m := by simp only [Dev.laneRanks, h.get]
theorem TrainRel.mr0 : e.mr0 = d.mr0 := by simp only [Dev.mr0, h.get]
theorem TrainRel.mr4 : e.mr4 = d.mr4 := by simp only [Dev.mr4, h.get]

end

theorem TrainRel.emit (n : Nat) (d : Dev) (o : Out) : TrainRel n d (d.emit o) := ⟨rfl, rfl, rfl, ⟨[o], rfl⟩⟩

theorem mem_ranksOf {d : Dev} {n r : Nat} : r ∈ d.ranksOf n ↔ r < d.laneRanks n := List.mem_range

theorem eachRank_train (n : Nat) (d : Dev) (cmd : String) (arg : Nat) (hn : n < d.dsc.lanes.length) :
    TrainRel n d (d.eachRank n cmd arg) := TrainRel.foldl (fun d r _ => .emit n d (.laneCmd n r cmd arg)) _ hn

theorem eachRank_drives {n : Nat} {d : Dev} (hn : n < d.dsc.lanes.length) (cmd : String) (arg : Nat) {r : Nat}
    (hr : r < d.laneRanks n) : (d.eachRank n cmd arg).drove d (.laneCmd n r cmd arg) :=
  TrainRel.foldl_drives (fun d r _ => .emit n d (.laneCmd n r cmd arg)) (mem_ranksOf.mpr hr) hn fun e _ => drove_emit e _

theorem testBanks_train (n : Nat) (d : Dev) (r : Nat) (hn : n < d.dsc.lanes.length) : TrainRel n d (Dev.testBanks n d r) :=
  TrainRel.foldl (fun d b _ => .emit n d (.laneCmd n r "PATTERN" b)) _ hn

/-- One entry of the mode-register table, to the ranks it names. -/
theorem mrEntry_train (n k : Nat) (d : Dev) (hn : n < d.dsc.lanes.length) :
    TrainRel n d ((d.ranksOf n).foldl (fun d r =>
      if (if r = 0 then d.flag (R.DSC_MRk.RK0 k) else d.flag (R.DSC_MRk.RK1 k)) then
        d.mrw n r (d.get (R.DSC_MRk.MA k)) (d.get (R.DSC_MRk.OP k))
      else d) d) := by
  refine TrainRel.foldl (fun d r _ => ?_) _ hn
  generalize (if r = 0 then d.flag (R.DSC_MRk.RK0 k) else d.flag (R.DSC_MRk.RK1 k)) = c
  cases c with
  | false => exact .refl n d
  | true => exact .emit n d _

/-- MR0 and MR4 of each rank. -/
def Dev.writeBaseModes (d : Dev) (n : Nat) : Dev := (d.ranksOf n).foldl (fun d r => (d.mrw n r 0 d.mr0).mrw n r 4 d.mr4) d

theorem writeBaseModes_train (n : Nat) (d : Dev) (hn : n < d.dsc.lanes.length) : TrainRel n d (d.writeBaseModes n) :=
  TrainRel.foldl (fun d _ _ => (TrainRel.emit n d _).trans (.emit n _ _)) _ hn

theorem writeModes_from_base (n : Nat) (d : Dev) (hn : n < d.dsc.lanes.length) :
    TrainRel n (d.writeBaseModes n) (d.writeModes n) :=
  TrainRel.foldl (fun d k hn => mrEntry_train n k d hn) _ (by rw [(writeBaseModes_train n d hn).lanes]; exact hn)

theorem readRfm_train (n : Nat) (d : Dev) (hn : n < d.dsc.lanes.length) : TrainRel n d (d.readRfm n) := by
  have heach := eachRank_train n d "MRR" 58 hn
  have hset : TrainRel n (d.eachRank n "MRR" 58) (d.readRfm n) := by
    unfold Dev.readRfm
    generalize d.eachRank n "MRR" 58 = e at heach ⊢
    have hne : n < e.takeFree.2.dsc.lanes.length := by rw [← heach.lanes] at hn; exact hn
    exact ⟨rfl, by rw [lane_setLane_same hne]; rfl, length_setLane _ _ _, List.suffix_refl _⟩
  exact heach.trans hset

theorem armRefresh_train (n r : Nat) (d : Dev) (hn : n < d.dsc.lanes.length) : TrainRel n d (d.armRefresh n r) := by
  refine ⟨rfl, ?_, length_setLane _ _ _, List.suffix_refl _⟩
  rw [armRefresh_lane hn]
  unfold Lane.setDue
  split <;> rfl

theorem laneLives_train (n : Nat) (d : Dev) (hn : n < d.dsc.lanes.length) : TrainRel n d (d.laneLives n) := by
  have hlive : TrainRel n d (d.setLane n { d.lane n with live := true }) :=
    ⟨rfl, by rw [lane_setLane_same hn], length_setLane _ _ _, List.suffix_refl _⟩
  exact hlive.trans (TrainRel.foldl (fun d r hn => armRefresh_train n r d hn) _ (by rw [length_setLane]; exact hn))

theorem startStep_train (n : Nat) (d : Dev) (k : Nat) (hn : n < d.dsc.lanes.length) : TrainRel n d (Dev.startStep n d k) := by
  have hmodes := (writeBaseModes_train n d hn).trans (writeModes_from_base n d hn)
  have hzq := eachRank_train n d "ZQCAL" 0 hn
  unfold Dev.startStep
  split
  · exact hmodes.trans (readRfm_train n _ (by rw [hmodes.lanes]; exact hn))
  split
  · exact hzq.trans (laneLives_train n _ (by rw [hzq.lanes]; exact hn))
  split
  · exact eachRank_train n d _ _ hn
  split
  · exact eachRank_train n d _ _ hn
  split
  · exact eachRank_train n d _ _ hn
  split
  · exact eachRank_train n d _ _ hn
  split
  · split
    · exact eachRank_train n d _ _ hn
    · exact .refl n d
  · exact TrainRel.foldl (fun d r hn => testBanks_train n d r hn) _ hn

theorem startSteps_train (n k : Nat) {d : Dev} (hn : n < d.dsc.lanes.length) : TrainRel n d (d.startSteps n k) :=
  TrainRel.foldl (fun d k hn => startStep_train n d k hn) _ hn

/-- What a step from 4 to 11 drives is driven by the whole start-up. -/
theorem startSteps_drives {n : Nat} (k : Nat) {d : Dev} (hn : n < d.dsc.lanes.length) {o : Out} (hk : k < 8)
    (h : ∀ e : Dev, TrainRel n d e → (Dev.startStep n e (k + 4)).drove e o) : (d.startSteps n 11).drove d o :=
  TrainRel.foldl_drives (fun d k hn => startStep_train n d k hn) (List.mem_map.mpr ⟨k, List.mem_range.mpr hk, rfl⟩) hn h

/-- The commands of a lane's start-up to one rank (R300, R301). -/
def trainDriven (d t : Dev) (n r : Nat) : Prop :=
  t.drove d (.laneCmd n r "MRW" d.mr0) ∧ t.drove d (.laneCmd n r "MRW" (1024 + d.mr4)) ∧ t.drove d (.laneCmd n r "MRR" 58) ∧
  t.drove d (.laneCmd n r "ZQCAL" 0) ∧ t.drove d (.laneCmd n r "CSCA_TRAIN" 0) ∧ t.drove d (.laneCmd n r "READ_TRAIN" 0) ∧
  t.drove d (.laneCmd n r "WRITE_LEVEL" 0) ∧ t.drove d (.laneCmd n r "WRITE_TRAIN" 0) ∧
  (d.flag R.DSC_TRAIN_CFG.DFE_EN = true → t.drove d (.laneCmd n r "DFE_TRAIN" 0)) ∧
  ∀ b, b < 32 → t.drove d (.laneCmd n r "PATTERN" b)

/-- Step 4 writes MR0 and MR4 of each rank. -/
theorem startStep_modes {n r : Nat} {d : Dev} (hn : n < d.dsc.lanes.length) (hr : r < d.laneRanks n) :
    (Dev.startStep n d 4).drove d (.laneCmd n r "MRW" d.mr0) ∧
    (Dev.startStep n d 4).drove d (.laneCmd n r "MRW" (1024 + d.mr4)) ∧
    (Dev.startStep n d 4).drove d (.laneCmd n r "MRR" 58) := by
  have hbase := writeBaseModes_train n d hn
  have hmodes := hbase.trans (writeModes_from_base n d hn)
  have hnm : n < (d.writeModes n).dsc.lanes.length := by rw [hmodes.lanes]; exact hn
  have hread := readRfm_train n (d.writeModes n) hnm
  have hafter : (d.writeBaseModes n).sent <:+ (Dev.startStep n d 4).sent := (writeModes_from_base n d hn).sent.trans hread.sent
  refine ⟨drove_mono ?_ hbase.sent hafter, drove_mono ?_ hbase.sent hafter, ?_⟩
  · refine TrainRel.foldl_drives (fun d _ _ => (TrainRel.emit n d _).trans (.emit n _ _)) (mem_ranksOf.mpr hr) hn fun e he => ?_
    rw [← he.mr0]
    exact drove_of_append (l := [.laneCmd n r "MRW" (4 * 256 + e.mr4), .laneCmd n r "MRW" (0 * 256 + e.mr0)]) rfl (by simp)
  · refine TrainRel.foldl_drives (fun d _ _ => (TrainRel.emit n d _).trans (.emit n _ _)) (mem_ranksOf.mpr hr) hn fun e he => ?_
    rw [← he.mr4]
    exact drove_of_append (l := [.laneCmd n r "MRW" (4 * 256 + e.mr4), .laneCmd n r "MRW" (0 * 256 + e.mr0)]) rfl (by simp)
  · have hread58 := eachRank_drives hnm "MRR" 58 (r := r) (by rw [hmodes.laneRanks]; exact hr)
    exact drove_before hmodes.sent hread.sent
      (drove_mono hread58 (eachRank_train n _ "MRR" 58 hnm).sent (List.suffix_refl _))

/-- A whole start-up drives its commands to each rank. -/
theorem startSteps_driven {n r : Nat} {d : Dev} (hn : n < d.dsc.lanes.length) (hr : r < d.laneRanks n) :
    trainDriven d (d.startSteps n 11) n r := by
  have hlen : ∀ {e : Dev}, TrainRel n d e → n < e.dsc.lanes.length := fun he => by rw [he.lanes]; exact hn
  have hranks : ∀ {e : Dev}, TrainRel n d e → r < e.laneRanks n := fun he => by rw [he.laneRanks]; exact hr
  refine ⟨?_, ?_, ?_, ?_, ?_, ?_, ?_, ?_, ?_, ?_⟩
  · exact startSteps_drives 0 hn (by omega) fun e he => by rw [← he.mr0]; exact (startStep_modes (hlen he) (hranks he)).1
  · exact startSteps_drives 0 hn (by omega) fun e he => by rw [← he.mr4]; exact (startStep_modes (hlen he) (hranks he)).2.1
  · exact startSteps_drives 0 hn (by omega) fun e he => (startStep_modes (hlen he) (hranks he)).2.2
  · refine startSteps_drives 1 hn (by omega) fun e he => ?_
    have hzq := eachRank_train n e "ZQCAL" 0 (hlen he)
    exact drove_mono (eachRank_drives (hlen he) "ZQCAL" 0 (hranks he)) hzq.sent
      (laneLives_train n _ (by rw [hzq.lanes]; exact hlen he)).sent
  · exact startSteps_drives 2 hn (by omega) fun e he => eachRank_drives (hlen he) "CSCA_TRAIN" 0 (hranks he)
  · exact startSteps_drives 3 hn (by omega) fun e he => eachRank_drives (hlen he) "READ_TRAIN" 0 (hranks he)
  · exact startSteps_drives 4 hn (by omega) fun e he => eachRank_drives (hlen he) "WRITE_LEVEL" 0 (hranks he)
  · exact startSteps_drives 5 hn (by omega) fun e he => eachRank_drives (hlen he) "WRITE_TRAIN" 0 (hranks he)
  · intro hdfe
    refine startSteps_drives 6 hn (by omega) fun e he => ?_
    have hflag : e.flag R.DSC_TRAIN_CFG.DFE_EN = true := by rw [he.flag]; exact hdfe
    show (if e.flag R.DSC_TRAIN_CFG.DFE_EN then e.eachRank n "DFE_TRAIN" 0 else e).drove e _
    rw [if_pos hflag]
    exact eachRank_drives (hlen he) "DFE_TRAIN" 0 (hranks he)
  · intro b hb
    refine startSteps_drives 7 hn (by omega) fun e he => ?_
    refine TrainRel.foldl_drives (fun d r hn => testBanks_train n d r hn) (mem_ranksOf.mpr (hranks he)) (hlen he) fun x hx => ?_
    exact TrainRel.foldl_drives (fun d b _ => .emit n d (.laneCmd n r "PATTERN" b)) (List.mem_range.mpr hb)
      (by rw [hx.lanes]; exact hlen he) fun y _ => drove_emit y _

end Sys2Proof.Machine
end

section
/-! SUPPORT. The lanes' commands: start-up, training and its failure, the fill, self-refresh exit and the rails. -/

namespace Sys2Proof.Machine

set_option Elab.async false

/-! ## Asking for a token -/

theorem wantToken_eq (d : Dev) (k who : Nat) : d.wantToken k who = { d with pur := (d.wantToken k who).pur } := by
  unfold Dev.wantToken
  split <;> rfl

theorem askToken_grant (d : Dev) (k who : Nat) : GrantRel (d.wantToken k who) (d.askToken k who) := grantTokens_grant _

theorem askToken_dsc (d : Dev) (k who : Nat) : (d.askToken k who).dsc = d.dsc :=
  (askToken_grant d k who).dsc.trans (wantToken_dsc ..)

theorem askToken_sent (d : Dev) (k who : Nat) : d.sent <:+ (d.askToken k who).sent := by
  have h := (askToken_grant d k who).sent
  rwa [wantToken_eq] at h

theorem askToken_get (d : Dev) (k who : Nat) {f : FieldRef} (hf : f.ofs ∉ grantEvents) : (d.askToken k who).get f = d.get f := by
  rw [(askToken_grant d k who).get hf, wantToken_eq]
  rfl

theorem askToken_flag (d : Dev) (k who : Nat) {f : FieldRef} (hf : f.ofs ∉ grantEvents) :
    (d.askToken k who).flag f = d.flag f := by simp only [Dev.flag, askToken_get d k who hf]

theorem askToken_pwr (d : Dev) (k who : Nat) : (d.askToken k who).pwr.railGood = d.pwr.railGood := by
  rw [(askToken_grant d k who).pwr, wantToken_eq]

/-! ## Start-up and the rails -/

theorem laneInit_lane {d : Dev} {n : Nat} (hn : n < d.dsc.lanes.length) : (d.laneInit n).lane n = (d.lane n).inReset := by
  rw [Dev.laneInit, lane_of_dsc (askToken_dsc ..)]
  exact lane_setLane_same hn _

theorem laneInit_lane_ne (d : Dev) {n m : Nat} (h : m ≠ n) : (d.laneInit n).lane m = d.lane m := by
  rw [Dev.laneInit, lane_of_dsc (askToken_dsc ..)]
  exact lane_setLane_ne d h _

theorem laneInit_lanes (d : Dev) (n : Nat) : (d.laneInit n).dsc.lanes.length = d.dsc.lanes.length := by
  rw [Dev.laneInit, askToken_dsc]
  exact length_setLane ..

theorem laneInit_drives (d : Dev) (n : Nat) : (d.laneInit n).drove d (.laneCmd n 0 "RESET" (d.get R.DSC_VR_CFG.STABLE)) :=
  drove_mono (drove_emit (d.setLane n (d.lane n).inReset) _) (List.suffix_cons ..) (askToken_sent ..)

theorem laneInit_sent (d : Dev) (n : Nat) : d.sent <:+ (d.laneInit n).sent := by
  have hreset : d.sent <:+ ((d.setLane n (d.lane n).inReset).emit (.laneCmd n 0 "RESET" (d.get R.DSC_VR_CFG.STABLE))).sent :=
    List.suffix_cons ..
  exact hreset.trans (askToken_sent ..)

theorem laneInit_railGood (d : Dev) (n : Nat) : (d.laneInit n).pwr.railGood = d.pwr.railGood := askToken_pwr ..

/-- A lane starts up in Train (R301). -/
theorem laneStartUp_effect (d : Dev) {n : Nat} (hn : n < d.dsc.lanes.length) (h4 : n / 4 < 4 ∨ 16 ≤ n) (hp : d.populated n = true)
    (hf : d.laneFree n = true) (hm : d.gcr.mode = .train) (hst : (d.lane n).st ≤ 1) :
    ((laneStartUp n d).lane n).st = 2 ∧ ((laneStartUp n d).lane n).tries = 0 ∧ d.sent <:+ (laneStartUp n d).sent ∧
    (if d.laneGood n then ((laneStartUp n d).lane n).step = 2 ∧
        (laneStartUp n d).drove d (.laneCmd n 0 "RESET" (d.get R.DSC_VR_CFG.STABLE))
     else ((laneStartUp n d).lane n).step = 1 ∧ (laneStartUp n d).pwr.railEn.getLsbD (n / 4) = true) := by
  have heq : laneStartUp n d =
      let e := d.setLane n { d.lane n with st := 2, step := 1, tries := 0, failStep := 0 }
      if d.laneGood n then e.laneInit n else if d.pwr.railEn.getLsbD (n / 4) then e else e.driveRail (n / 4) true := by
    simp only [laneStartUp, hp, hf, hm, hst, beq_self_eq_true, decide_true, Bool.and_self, Bool.true_or, Bool.not_true,
      Bool.or_self, Bool.false_eq_true, if_false]
    rfl
  have hset := lane_setLane_same hn { d.lane n with st := 2, step := 1, tries := 0, failStep := 0 }
  have hlen : n < (d.setLane n { d.lane n with st := 2, step := 1, tries := 0, failStep := 0 }).dsc.lanes.length := by
    rw [length_setLane]; exact hn
  rw [heq]
  dsimp only
  by_cases hgood : d.laneGood n = true
  · simp only [if_pos hgood]
    rw [laneInit_lane hlen, hset]
    exact ⟨rfl, rfl, laneInit_sent (d.setLane n _) n, rfl, laneInit_drives (d.setLane n _) n⟩
  · simp only [if_neg hgood]
    have hgroup : n / 4 < 4 := h4.resolve_right fun h => hgood (by simp [Dev.laneGood, h])
    by_cases hrail : d.pwr.railEn.getLsbD (n / 4) = true
    · simp only [if_pos hrail]
      rw [hset]
      exact ⟨rfl, rfl, List.suffix_refl _, rfl, hrail⟩
    · simp only [if_neg hrail]
      have hdrive : ((d.setLane n { d.lane n with st := 2, step := 1, tries := 0, failStep := 0 }).driveRail (n / 4) true).lane n =
        { d.lane n with st := 2, step := 1, tries := 0, failStep := 0 } := hset
      rw [hdrive]
      exact ⟨rfl, rfl, List.suffix_cons .., rfl, getLsbD_putBit_same _ _ _ hgroup⟩

/-- Lanes that go on to their reset: each of them is at step 2, and the others are as they were. -/
theorem laneInits_lanes (l : List Nat) (d : Dev) :
    (l.foldl Dev.laneInit d).pwr.railGood = d.pwr.railGood ∧
    (∀ n, n ∉ l → (l.foldl Dev.laneInit d).lane n = d.lane n) ∧
    ∀ n ∈ l, n < d.dsc.lanes.length → ((l.foldl Dev.laneInit d).lane n).step = 2 := by
  induction l generalizing d with
  | nil => simp
  | cons m l ih =>
    obtain ⟨hgood, hothers, hsteps⟩ := ih (d.laneInit m)
    refine ⟨hgood.trans (laneInit_railGood d m), fun n hn => ?_, fun n hn hlen => ?_⟩
    · rw [List.mem_cons, not_or] at hn
      exact (hothers n hn.2).trans (laneInit_lane_ne d hn.1)
    · by_cases hl : n ∈ l
      · exact hsteps n hl (by rw [laneInit_lanes]; exact hlen)
      · obtain rfl : n = m := (List.mem_cons.mp hn).resolve_right hl
        rw [List.foldl_cons, hothers n hl, laneInit_lane hlen]
        rfl

/-- The power-good of a group's rails rises (R301, R316). -/
theorem dsVrPgRise_effect (d : Dev) {g : Nat} (hg : g < 4) (he : d.pwr.railEn.getLsbD g = true)
    (hgood : d.pwr.railGood.getLsbD g = false) :
    (dsVrPgRise g d).pwr.railGood.getLsbD g = true ∧
    ∀ n, n < d.dsc.lanes.length → n ∈ d.groupLanes g → (d.lane n).st = 2 → (d.lane n).step = 1 →
      ((dsVrPgRise g d).lane n).step = 2 := by
  have heq : dsVrPgRise g d =
      let e := ({ d with pwr := { d.pwr with railGood := putBit d.pwr.railGood g true } }).wakeDone 4 (5 + g)
      ((e.groupLanes g).filter (fun n => (e.lane n).st == 2 && (e.lane n).step == 1)).foldl Dev.laneInit e := by
    simp [dsVrPgRise, he, hgood]
  rw [heq]
  obtain ⟨hrail, -, hsteps⟩ := laneInits_lanes ((d.groupLanes g).filter (fun n => (d.lane n).st == 2 && (d.lane n).step == 1))
    (({ d with pwr := { d.pwr with railGood := putBit d.pwr.railGood g true } }).wakeDone 4 (5 + g))
  refine ⟨?_, fun n hn hmem hst hstep => hsteps n (List.mem_filter.mpr ⟨hmem, by simp [hst, hstep]⟩) hn⟩
  exact (congrArg (·.getLsbD g) hrail).trans (getLsbD_putBit_same _ _ _ hg)

/-! ## Training -/

/-- A lane in step 2 that holds its training token goes on (R303). -/
theorem takeTraining_taken {d : Dev} {n : Nat} (hst : (d.lane n).st = 2) (hstep : (d.lane n).step = 2)
    (ht : d.hasToken 4 n = true) : d.takeTraining n = (true, d.grantTokens) := by
  have hheld : d.grantTokens.hasToken 4 n = true :=
    (hasToken_iff ..).mpr ((grantTokens_grant d).tokens _ ((hasToken_iff ..).mp ht))
  simp [Dev.takeTraining, hst, hstep, hheld]

theorem trainDriven_before {d e t : Dev} {n r : Nat} (hg : GrantRel d e) (ht : e.sent <:+ t.sent) (h : trainDriven e t n r) :
    trainDriven d t n r := by
  have h0 : e.mr0 = d.mr0 := by rw [Dev.mr0, Dev.mr0, hg.get (by decide)]
  have h4 : e.mr4 = d.mr4 := by rw [Dev.mr4, Dev.mr4, hg.get (by decide)]
  have hup : ∀ {o : Out}, t.drove e o → t.drove d o := fun h => drove_before hg.sent ht h
  unfold trainDriven at h ⊢
  rw [h0, h4, hg.flag (by decide)] at h
  obtain ⟨hmr0, hmr4, hmrr, hzq, hcs, hread, hlevel, hwrite, hdfe, hpat⟩ := h
  exact ⟨hup hmr0, hup hmr4, hup hmrr, hup hzq, hup hcs, hup hread, hup hlevel, hup hwrite, fun h => hup (hdfe h),
    fun b hb => hup (hpat b hb)⟩

theorem trainDriven_mono {d t u : Dev} {n r : Nat} (hd : d.sent <:+ t.sent) (hu : t.sent <:+ u.sent) (h : trainDriven d t n r) :
    trainDriven d u n r := by
  have hup : ∀ {o : Out}, t.drove d o → u.drove d o := fun h => drove_mono h hd hu
  obtain ⟨hmr0, hmr4, hmrr, hzq, hcs, hread, hlevel, hwrite, hdfe, hpat⟩ := h
  exact ⟨hup hmr0, hup hmr4, hup hmrr, hup hzq, hup hcs, hup hread, hup hlevel, hup hwrite, fun h => hup (hdfe h),
    fun b hb => hup (hpat b hb)⟩

/-- The end of a start-up: the lane is ready, its token goes back, a wake may end. -/
def Dev.laneTrained (d : Dev) (n us : Nat) : Dev :=
  let d := (d.setLane n { d.lane n with st := 3, step := 12, lost := false }).set (R.DSLnn_TRAIN_TIME.US n) us
  let d := (d.returnToken 4 n).remode
  if n < 16 then d.endWake (n / 4) else d

theorem laneTrained_calm (d : Dev) (n us : Nat) :
    CalmRel (((d.setLane n { d.lane n with st := 3, step := 12, lost := false }).set (R.DSLnn_TRAIN_TIME.US n) us).dropToken 4 n)
      (d.laneTrained n us) := by
  unfold Dev.laneTrained
  dsimp only
  refine CalmRel.trans ((grantTokens_grant _).calm.trans (remode_calm _)) ?_
  split
  · exact endWake_calm _ _
  · exact .refl _

theorem trainingTokenGrant_eq {d : Dev} {n : Nat} (us : Nat) (hst : (d.lane n).st = 2) (hstep : (d.lane n).step = 2)
    (ht : d.hasToken 4 n = true) : trainingTokenGrant n us d = (d.grantTokens.startSteps n 11).laneTrained n us := by
  rw [trainingTokenGrant, takeTraining_taken hst hstep ht]
  rfl

theorem lane_regs_calm {o : Nat} (h : 0x20000 ≤ o) : o ∉ calmRegs := by
  simp only [calmRegs, grantEvents, recordRegs, R.GCR_EVT.MODE_CHANGE, R.PWR_WG_REQ.REQ, List.mem_append, List.mem_cons,
    List.not_mem_nil, or_false]
  omega

/-- A lane trains (R301 to R303). -/
theorem trainingTokenGrant_effect (d : Dev) {n : Nat} (us : Nat) (hn : n < d.dsc.lanes.length) (hst : (d.lane n).st = 2)
    (hstep : (d.lane n).step = 2) (ht : d.hasToken 4 n = true) :
    ((trainingTokenGrant n us d).lane n).st = 3 ∧ ((trainingTokenGrant n us d).lane n).step = 12 ∧
    (trainingTokenGrant n us d).hasToken 4 n = false ∧
    (trainingTokenGrant n us d).get (R.DSLnn_TRAIN_TIME.US n) = us % 2 ^ ((R.DSLnn_TRAIN_TIME.US n).hi + 1) ∧
    d.sent <:+ (trainingTokenGrant n us d).sent ∧
    ∀ r, r < d.laneRanks n → trainDriven d (trainingTokenGrant n us d) n r := by
  have hgrant := grantTokens_grant d
  have hng : n < d.grantTokens.dsc.lanes.length := by rw [hgrant.dsc]; exact hn
  have hsteps := startSteps_train n 11 hng
  have hdriven := fun r (hr : r < d.grantTokens.laneRanks n) => startSteps_driven hng hr
  rw [trainingTokenGrant_eq us hst hstep ht]
  generalize d.grantTokens.startSteps n 11 = e at hsteps hdriven ⊢
  have hne : n < e.dsc.lanes.length := by rw [hsteps.lanes]; exact hng
  have hcalm := laneTrained_calm e n us
  have hlane : (e.laneTrained n us).lane n = { e.lane n with st := 3, step := 12, lost := false } :=
    (hcalm.lane n).trans (lane_setLane_same hne _)
  have hsent : e.sent <:+ (e.laneTrained n us).sent := hcalm.sent
  refine ⟨by rw [hlane], by rw [hlane], hasToken_eq_false fun h => ?_, ?_, hgrant.sent.trans (hsteps.sent.trans hsent),
    fun r hr => ?_⟩
  · have hknown := hcalm.known _ (.inl h)
    simp [Dev.dropToken] at hknown
  · rw [hcalm.get (lane_regs_calm (by simp only [R.DSLnn_TRAIN_TIME.US]; omega))]
    exact get_set_self _ _ _ rfl
  · have hranks : r < d.grantTokens.laneRanks n := by
      simp only [Dev.laneRanks, hgrant.get (f := R.DSC_CFG.DRANKS) (by decide), hgrant.get (f := R.DSC_CFG.HRANKS) (by decide)]
      exact hr
    exact trainDriven_before hgrant (hsteps.sent.trans hsent) (trainDriven_mono hsteps.sent hsent (hdriven r hranks))

/-- What a failed step leads to: a repeat from step 2, or the loss of the lane (R302). -/
def Dev.trainFailed (d : Dev) (n step : Nat) : Dev :=
  let l := d.lane n
  let d := (d.setLane n { l with failStep := step }).raise R.DSC_EVT.TRAIN_FAIL
  let d := d.returnToken 4 n
  if l.tries < d.get R.DSC_TRAIN_CFG.RETRY then (d.setLane n { d.lane n with tries := l.tries + 1 }).laneInit n
  else d.loseLane n 0

theorem trainFail_eq {d : Dev} {n step : Nat} (hst : (d.lane n).st = 2) (hstep : (d.lane n).step = 2)
    (ht : d.hasToken 4 n = true) (h4 : 4 ≤ step) (h11 : step ≤ 11)
    (hdfe : step ≠ 10 ∨ d.flag R.DSC_TRAIN_CFG.DFE_EN = true) :
    trainFail n step d = (d.grantTokens.startSteps n step).trainFailed n step := by
  rw [trainFail, if_neg, takeTraining_taken hst hstep ht]
  · rfl
  · rintro (h | h | ⟨h, hf⟩)
    · omega
    · omega
    · rcases hdfe with hd | hd
      · exact hd h
      · simp [hd] at hf

theorem loseLane_failStep {d : Dev} {n : Nat} (hn : n < d.dsc.lanes.length) (cause : Nat) :
    ((d.loseLane n cause).lane n).failStep = (d.lane n).failStep := by
  by_cases hst : (d.lane n).st = 5
  · rw [loseLane_lost hst]
  · rw [(loseLane_calm hst cause).lane, lane_of_dsc (report_record ..).dsc, lane_setLane_same hn, Lane.gone]

theorem trainFailed_effect (d : Dev) {n : Nat} (step : Nat) (hn : n < d.dsc.lanes.length) :
    (d.trainFailed n step).flag R.DSC_EVT.TRAIN_FAIL = true ∧ ((d.trainFailed n step).lane n).failStep = step ∧
    (if (d.lane n).tries < d.get R.DSC_TRAIN_CFG.RETRY then
      ((d.trainFailed n step).lane n).st = 2 ∧ ((d.trainFailed n step).lane n).tries = (d.lane n).tries + 1
     else ((d.trainFailed n step).lane n).st = 5) := by
  have hcalm := returnToken_calm ((d.setLane n { d.lane n with failStep := step }).raise R.DSC_EVT.TRAIN_FAIL) 4 n
  unfold Dev.trainFailed
  dsimp only
  have hflag0 : ((d.setLane n { d.lane n with failStep := step }).raise R.DSC_EVT.TRAIN_FAIL).flag R.DSC_EVT.TRAIN_FAIL = true :=
    flag_raise_self _ _ (by decide)
  have hlane0 : ((d.setLane n { d.lane n with failStep := step }).raise R.DSC_EVT.TRAIN_FAIL).lane n =
    { d.lane n with failStep := step } := lane_setLane_same hn _
  have hlen0 : n < ((d.setLane n { d.lane n with failStep := step }).raise R.DSC_EVT.TRAIN_FAIL).dsc.lanes.length := by
    rw [Dev.raise_dsc, length_setLane]; exact hn
  have hretry0 : ((d.setLane n { d.lane n with failStep := step }).raise R.DSC_EVT.TRAIN_FAIL).get R.DSC_TRAIN_CFG.RETRY =
    d.get R.DSC_TRAIN_CFG.RETRY := get_raise_far _ _ _ (by decide)
  generalize (d.setLane n { d.lane n with failStep := step }).raise R.DSC_EVT.TRAIN_FAIL = e at *
  have hlen : n < (e.returnToken 4 n).dsc.lanes.length := by rw [hcalm.dsc]; exact hlen0
  have hflag := (hcalm.flag (f := R.DSC_EVT.TRAIN_FAIL) (by decide)).trans hflag0
  have hlane := (hcalm.lane n).trans hlane0
  rw [(hcalm.get (f := R.DSC_TRAIN_CFG.RETRY) (by decide)).trans hretry0]
  generalize e.returnToken 4 n = r at *
  split
  · have hlenr : n < (r.setLane n { r.lane n with tries := (d.lane n).tries + 1 }).dsc.lanes.length := by
      rw [length_setLane]; exact hlen
    rw [laneInit_lane hlenr, lane_setLane_same hlen, hlane]
    refine ⟨?_, rfl, rfl, rfl⟩
    rw [Dev.laneInit, askToken_flag _ _ _ (by decide)]
    exact hflag
  · exact ⟨(loseLane_flag r n 0 (by decide) (by decide)).trans hflag, by rw [loseLane_failStep hlen, hlane], loseLane_st hlen 0⟩

/-- A step of a lane's start-up fails (R302). -/
theorem trainFail_effect (d : Dev) {n step : Nat} (hn : n < d.dsc.lanes.length) (hst : (d.lane n).st = 2)
    (hstep : (d.lane n).step = 2) (ht : d.hasToken 4 n = true) (h4 : 4 ≤ step) (h11 : step ≤ 11)
    (hdfe : step ≠ 10 ∨ d.flag R.DSC_TRAIN_CFG.DFE_EN = true) :
    (trainFail n step d).flag R.DSC_EVT.TRAIN_FAIL = true ∧ ((trainFail n step d).lane n).failStep = step ∧
    (if (d.lane n).tries < d.get R.DSC_TRAIN_CFG.RETRY then
      ((trainFail n step d).lane n).st = 2 ∧ ((trainFail n step d).lane n).tries = (d.lane n).tries + 1
     else ((trainFail n step d).lane n).st = 5) := by
  have hgrant := grantTokens_grant d
  have hng : n < d.grantTokens.dsc.lanes.length := by rw [hgrant.dsc]; exact hn
  have hsteps := startSteps_train n step hng
  have hfail := trainFailed_effect (d.grantTokens.startSteps n step) step (n := n) (by rw [hsteps.lanes]; exact hng)
  have htries : ((d.grantTokens.startSteps n step).lane n).tries = (d.lane n).tries := by
    rw [hsteps.lane, lane_of_dsc hgrant.dsc]
  rw [htries, hsteps.get, hgrant.get (by decide)] at hfail
  rw [trainFail_eq hst hstep ht h4 h11 hdfe]
  exact hfail

/-! ## Self-refresh exit and the rails -/

/-- A lane leaves self-refresh (R312). -/
theorem selfRefreshExit_effect (d : Dev) {n : Nat} (hn : n < d.dsc.lanes.length) (hst : (d.lane n).st = 4)
    (hf : d.laneFree n = true) :
    ((selfRefreshExit n d).lane n).st = 3 ∧ (selfRefreshExit n d).store = d.store ∧ d.sent <:+ (selfRefreshExit n d).sent ∧
    ∀ r, r < d.laneRanks n → (selfRefreshExit n d).drove d (.laneCmd n r "SRX" (d.get R.DSC_TIM4.TXS)) ∧
      (selfRefreshExit n d).drove d (.laneCmd n r "ZQCAL" 0) ∧ (selfRefreshExit n d).drove d (.laneCmd n r "MR4" 0) := by
  have heq : selfRefreshExit n d =
      let e := ((d.eachRank n "SRX" (d.get R.DSC_TIM4.TXS)).zqLane n).eachRank n "MR4" 0
      let f := (e.setLane n { e.lane n with st := 3 }).laneLives n
      if n < 16 then f.endWake (n / 4) else f := by
    simp [selfRefreshExit, hst, hf]
  rw [heq]
  dsimp only
  have hsrx := eachRank_train n d "SRX" (d.get R.DSC_TIM4.TXS) hn
  have hn1 : n < (d.eachRank n "SRX" (d.get R.DSC_TIM4.TXS)).dsc.lanes.length := by rw [hsrx.lanes]; exact hn
  have hsrxd := fun r (hr : r < d.laneRanks n) => eachRank_drives hn "SRX" (d.get R.DSC_TIM4.TXS) hr
  generalize d.eachRank n "SRX" (d.get R.DSC_TIM4.TXS) = a at *
  have hzq := eachRank_train n a "ZQCAL" 0 hn1
  have hn2 : n < (a.zqLane n).dsc.lanes.length := by rw [Dev.zqLane, hzq.lanes]; exact hn1
  have hzqd := fun r (hr : r < a.laneRanks n) => eachRank_drives hn1 "ZQCAL" 0 hr
  rw [← Dev.zqLane] at hzq hzqd
  generalize a.zqLane n = b at *
  have hmr := eachRank_train n b "MR4" 0 hn2
  have hn3 : n < (b.eachRank n "MR4" 0).dsc.lanes.length := by rw [hmr.lanes]; exact hn2
  have hmrd := fun r (hr : r < b.laneRanks n) => eachRank_drives hn2 "MR4" 0 hr
  generalize b.eachRank n "MR4" 0 = c at *
  have hlives := laneLives_train n (c.setLane n { c.lane n with st := 3 }) (by rw [length_setLane]; exact hn3)
  have hlane : (((c.setLane n { c.lane n with st := 3 }).laneLives n).lane n).st = 3 := by
    rw [hlives.lane, lane_setLane_same hn3]
  have hlsent : c.sent <:+ ((c.setLane n { c.lane n with st := 3 }).laneLives n).sent := hlives.sent
  have hlstore : ((c.setLane n { c.lane n with st := 3 }).laneLives n).store = c.store := hlives.store
  generalize (c.setLane n { c.lane n with st := 3 }).laneLives n = f at *
  have hend : CalmRel f (if n < 16 then f.endWake (n / 4) else f) := by
    split
    · exact endWake_calm f _
    · exact .refl f
  have hstore : c.store = d.store := hmr.store.trans (hzq.store.trans hsrx.store)
  have hctail := hlsent.trans hend.sent
  refine ⟨by rw [hend.lane, hlane], (hend.store.trans hlstore).trans hstore,
    ((hsrx.sent.trans hzq.sent).trans hmr.sent).trans hctail, fun r hr => ⟨?_, ?_, ?_⟩⟩
  · exact drove_mono (hsrxd r hr) hsrx.sent ((hzq.sent.trans hmr.sent).trans hctail)
  · exact drove_before hsrx.sent (hzq.sent.trans (hmr.sent.trans hctail))
      (drove_mono (hzqd r (by rw [hsrx.laneRanks]; exact hr)) hzq.sent (hmr.sent.trans hctail))
  · exact drove_before (hsrx.sent.trans hzq.sent) (hmr.sent.trans hctail)
      (drove_mono (hmrd r (by rw [hzq.laneRanks, hsrx.laneRanks]; exact hr)) hmr.sent hctail)

/-- Lanes that are lost one after another (R319). -/
theorem loseLanes_effect (l : List Nat) (cause : Nat) (d : Dev) {f : FieldRef} (hf : f.ofs ∉ calmRegs)
    (hfar : fieldsApart R.DSC_EVT.LANE_LOST f = true) :
    (l.foldl (fun d n => d.loseLane n cause) d).flag f = d.flag f ∧
    (l.foldl (fun d n => d.loseLane n cause) d).pwr.railGood = d.pwr.railGood ∧
    (∀ n, n ∉ l → (l.foldl (fun d n => d.loseLane n cause) d).lane n = d.lane n) ∧
    ∀ n ∈ l, n < d.dsc.lanes.length → ((l.foldl (fun d n => d.loseLane n cause) d).lane n).st = 5 := by
  induction l generalizing d with
  | nil => simp
  | cons m l ih =>
    obtain ⟨hflag, hgood, hothers, hst⟩ := ih (d.loseLane m cause)
    refine ⟨hflag.trans (loseLane_flag d m cause hf hfar), hgood.trans (loseLane_railGood d m cause), fun n hn => ?_,
      fun n hn hlen => ?_⟩
    · rw [List.mem_cons, not_or] at hn
      exact (hothers n hn.2).trans (loseLane_lane_ne d hn.1 cause)
    · by_cases hl : n ∈ l
      · exact hst n hl (by rw [loseLane_lanes]; exact hlen)
      · obtain rfl : n = m := (List.mem_cons.mp hn).resolve_right hl
        rw [List.foldl_cons, hothers n hl]
        exact loseLane_st hlen cause

/-- Power-good of a group's rails falls without being switched off: its lanes are lost (R318). -/
theorem vrFault_effect (d : Dev) {g : Nat} (hg : g < 4) (he : d.pwr.railEn.getLsbD g = true)
    (hgood : d.pwr.railGood.getLsbD g = true) :
    (vrFault g d).flag R.DSC_EVT.VR_FAULT = true ∧ (vrFault g d).pwr.railGood.getLsbD g = false ∧
    ∀ n, n < d.dsc.lanes.length → n ∈ d.groupLanes g → ((vrFault g d).lane n).st = 5 := by
  have heq : vrFault g d =
      let e := ({ d with pwr := { d.pwr with railGood := putBit d.pwr.railGood g false } }).raise R.DSC_EVT.VR_FAULT
      let f := (e.groupLanes g).foldl (fun d n => d.loseLane n 1) e
      if f.pwr.waking.getLsbD g then f.groupFails g else f := by
    simp [vrFault, he, hgood]
  rw [heq]
  dsimp only
  have hflag : (({ d with pwr := { d.pwr with railGood := putBit d.pwr.railGood g false } }).raise R.DSC_EVT.VR_FAULT).flag
    R.DSC_EVT.VR_FAULT = true := flag_raise_self _ _ (by decide)
  have hrail : (({ d with pwr := { d.pwr with railGood := putBit d.pwr.railGood g false } }).raise
    R.DSC_EVT.VR_FAULT).pwr.railGood.getLsbD g = false := getLsbD_putBit_same _ _ _ hg
  have hlanes : (({ d with pwr := { d.pwr with railGood := putBit d.pwr.railGood g false } }).raise
    R.DSC_EVT.VR_FAULT).groupLanes g = d.groupLanes g := by
    rw [Dev.groupLanes, Dev.lanesPerGroup, get_raise_far _ _ _ (by decide)]
    rfl
  rw [hlanes]
  have hdsc : (({ d with pwr := { d.pwr with railGood := putBit d.pwr.railGood g false } }).raise R.DSC_EVT.VR_FAULT).dsc =
    d.dsc := rfl
  generalize ({ d with pwr := { d.pwr with railGood := putBit d.pwr.railGood g false } }).raise R.DSC_EVT.VR_FAULT = e at *
  obtain ⟨hlflag, hlgood, -, hst⟩ := loseLanes_effect (d.groupLanes g) 1 e (f := R.DSC_EVT.VR_FAULT) (by decide) (by decide)
  generalize (d.groupLanes g).foldl (fun d n => d.loseLane n 1) e = f at *
  have hend : CalmRel f (if f.pwr.waking.getLsbD g then f.groupFails g else f) := by
    split
    · exact groupFails_calm f g
    · exact .refl f
  refine ⟨by rw [hend.flag (by decide), hlflag, hflag], by rw [hend.railGood, hlgood, hrail], fun n hn hmem => ?_⟩
  rw [hend.lane]
  exact hst n hmem (by rw [hdsc]; exact hn)

end Sys2Proof.Machine
end

section
/-! SUPPORT. The header fill writes zero headers, and a wake step's time-out is recorded whatever follows (R304, R450, R451). -/

namespace Sys2Proof.Machine

set_option Elab.async false

/-! ## The fill -/

theorem encodeLine_zero : encodeLine 0 false = 0 := by decide +kernel

/-- The lanes' contents and every register of the device stay. -/
structure StoreStays (d e : Dev) : Prop where
  store : e.store = d.store
  regs : e.regs = d.regs
  ecc : e.ecc = d.ecc
  role : e.gcr.role = d.gcr.role
  fill : e.dsc = { d.dsc with lanes := e.dsc.lanes }

theorem StoreStays.refl (d : Dev) : StoreStays d d := ⟨rfl, rfl, rfl, rfl, rfl⟩

theorem StoreStays.trans {a b c : Dev} (h : StoreStays a b) (k : StoreStays b c) : StoreStays a c where
  store := k.store.trans h.store
  regs := k.regs.trans h.regs
  ecc := k.ecc.trans h.ecc
  role := k.role.trans h.role
  fill := by rw [k.fill, h.fill]

theorem StoreStays.foldl {α : Type} {f : Dev → α → Dev} (h : ∀ d x, StoreStays d (f d x)) (l : List α) (d : Dev) :
    StoreStays d (l.foldl f d) := by
  induction l generalizing d with
  | nil => exact .refl d
  | cons x l ih => exact (h d x).trans (ih _)

theorem countAct_stays (d : Dev) (lane : Nat) (a : DevAddr) : StoreStays d (d.countAct lane a) := by
  unfold Dev.countAct
  dsimp only
  split
  · split
    · exact ⟨rfl, rfl, rfl, rfl, rfl⟩
    · exact ⟨rfl, rfl, rfl, rfl, rfl⟩
  · exact ⟨rfl, rfl, rfl, rfl, rfl⟩

theorem runActs_stays (d : Dev) (lane first next : Nat) : StoreStays d (d.runActs lane first next) := by
  have hfree : StoreStays d d.takeFree.2 := ⟨rfl, rfl, rfl, rfl, rfl⟩
  refine hfree.trans (StoreStays.foldl (fun e p => ?_) _ _)
  dsimp only
  split
  · exact .refl e
  · split
    · exact ⟨rfl, rfl, rfl, rfl, rfl⟩
    · exact ⟨rfl, rfl, rfl, rfl, rfl⟩

/-- A burst stored in a lane that is accessed: the counts and the outputs of the access come after it. -/
def Dev.storeBurst (d : Dev) (lane slot : Nat) (b : Burst) : Dev :=
  let d := ((d.pmu1 (0x240 + 8 * lane + 1)).pmu1 0x002 32).putBurst lane slot b
  (if 16 ≤ lane then d.pmu1 0x02C else d).driveWr lane slot b

theorem storeBurst_stays (d : Dev) (lane slot : Nat) (b : Burst) :
    StoreStays (d.putBurst lane slot b) (d.storeBurst lane slot b) := by
  have hput : StoreStays (d.putBurst lane slot b) (((d.pmu1 (0x240 + 8 * lane + 1)).pmu1 0x002 32).putBurst lane slot b) :=
    ⟨rfl, rfl, rfl, rfl, rfl⟩
  have hpmu : ∀ e : Dev, StoreStays e (if 16 ≤ lane then e.pmu1 0x02C else e) := by
    intro e
    split
    · exact ⟨rfl, rfl, rfl, rfl, rfl⟩
    · exact .refl e
  have hdrive : ∀ e : Dev, StoreStays e (e.driveWr lane slot b) := fun e =>
    (countAct_stays e lane _).trans ⟨rfl, rfl, rfl, rfl, rfl⟩
  exact (hput.trans (hpmu _)).trans (hdrive _)

theorem laneWrite_eq {d : Dev} {lane : Nat} (h : (d.lane lane).st ≠ 5) (slot : Nat) (data : LineData) (psn : Bool) :
    d.laneWrite lane slot data psn = (d.flipWrite lane slot (encodeLine data psn)).2.storeBurst lane slot
      (d.flipWrite lane slot (encodeLine data psn)).1 := by
  rw [Dev.laneWrite, if_neg h]
  rfl

/-- A zero line written to a lane whose next write is not altered: the slot holds a zero burst, and nothing else is stored. -/
theorem laneWrite_zero (d : Dev) (lane slot : Nat) (h : d.ecc.armed = false) :
    StoreStays d (d.laneWrite lane slot 0 false) ∨ StoreStays (d.putBurst lane slot 0) (d.laneWrite lane slot 0 false) := by
  by_cases hst : (d.lane lane).st = 5
  · left
    rw [Dev.laneWrite, if_pos hst]
    exact .refl d
  · right
    have hflip : d.flipWrite lane slot (encodeLine 0 false) = (0, d) := by
      rw [Dev.flipWrite, h, encodeLine_zero]
      rfl
    rw [laneWrite_eq hst, hflip]
    exact storeBurst_stays d lane slot 0

/-- The slot of a key holds a zero burst. -/
def zeroAt (d : Dev) (key : Nat) : Prop := (bankGet d.store key).getD 0 = 0

theorem zeroAt_putBurst {d : Dev} {key : Nat} (h : zeroAt d key) (lane slot : Nat) : zeroAt (d.putBurst lane slot 0) key := by
  unfold zeroAt Dev.putBurst at *
  rw [if_pos rfl]
  by_cases hk : key = slotKey lane slot
  · rw [hk, bankGet_bankErase_same]; rfl
  · rw [bankGet_bankErase_ne _ _ _ hk]; exact h

theorem StoreStays.zeroAt {d e : Dev} (h : StoreStays d e) {key : Nat} (hz : Machine.zeroAt d key) : Machine.zeroAt e key := by
  rw [Machine.zeroAt, h.store]; exact hz

theorem zeroAt_laneWrite {d : Dev} {key : Nat} (ha : d.ecc.armed = false) (h : zeroAt d key) (lane slot : Nat) :
    zeroAt (d.laneWrite lane slot 0 false) key := by
  rcases laneWrite_zero d lane slot ha with hs | hs
  · exact hs.zeroAt h
  · exact hs.zeroAt (zeroAt_putBurst h lane slot)

theorem laneWrite_zero_frame {d : Dev} (ha : d.ecc.armed = false) (lane slot : Nat) :
    (d.laneWrite lane slot 0 false).ecc.armed = false ∧
    (d.laneWrite lane slot 0 false).dsc = { d.dsc with lanes := (d.laneWrite lane slot 0 false).dsc.lanes } := by
  rcases laneWrite_zero d lane slot ha with hs | hs
  · exact ⟨by rw [hs.ecc, ha], hs.fill⟩
  · exact ⟨(congrArg (·.armed) hs.ecc).trans ha, hs.fill⟩

theorem bankGet_filter {α : Type} (l : List (Nat × α)) (p : Nat × α → Bool) (n : Nat) (h : ∀ v, p (n, v) = false) :
    bankGet (l.filter p) n = none := by
  induction l with
  | nil => rfl
  | cons e l ih =>
    obtain ⟨k, v⟩ := e
    by_cases hp : p (k, v) = true
    · rw [List.filter_cons_of_pos hp]
      have hk : k ≠ n := by
        rintro rfl
        rw [h v] at hp
        exact Bool.noConfusion hp
      rw [bankGet, if_neg (by simpa using hk)]
      exact ih
    · rw [List.filter_cons_of_neg hp]
      exact ih

/-- The slots of the header lanes from one index to another are erased, and the fill stands there. -/
def Dev.fillErased (d : Dev) (next : Nat) : Dev :=
  { d with store := d.store.filter (fun e => !(slotKey 16 d.dsc.fillProg ≤ e.1 && e.1 < slotKey 16 next) &&
                      !(slotKey 17 d.dsc.fillProg ≤ e.1 && e.1 < slotKey 17 next)),
           dsc := { d.dsc with fillProg := next } }

theorem zeroAt_fillErased (d : Dev) {lane k next : Nat} (hl : lane = 16 ∨ lane = 17) (hk : k < next) (hp : d.dsc.fillProg ≤ k) :
    zeroAt (d.fillErased next) (slotKey lane k) := by
  unfold zeroAt Dev.fillErased
  rw [bankGet_filter _ _ _ fun v => ?_]
  · rfl
  · rcases hl with rfl | rfl <;> simp [slotKey, hk, hp]

/-- The fill is two writes of a zero header at its first index; the others are erased together. -/
theorem fillTo_stays (d : Dev) {next : Nat} (h : ¬ next ≤ d.dsc.fillProg) :
    StoreStays (((d.fillErased next).laneWrite 16 d.dsc.fillProg 0 false).laneWrite 17 d.dsc.fillProg 0 false) (d.fillTo next) := by
  unfold Dev.fillTo
  rw [if_neg h]
  dsimp only
  have hpmu : ∀ e : Dev, StoreStays e (((e.pmu1 0x2C1 (next - d.dsc.fillProg - 1)).pmu1 0x2C9 (next - d.dsc.fillProg - 1)).pmu1
      0x02C (2 * (next - d.dsc.fillProg - 1))) := fun e => ⟨rfl, rfl, rfl, rfl, rfl⟩
  have hemit : ∀ e o, StoreStays e (Dev.emit e o) := fun e o => ⟨rfl, rfl, rfl, rfl, rfl⟩
  exact (((hpmu _).trans (runActs_stays _ _ _ _)).trans (runActs_stays _ _ _ _)).trans (hemit _ _)

/-- The fill up to an index writes zero headers from where it stood (R304). -/
theorem fillTo_effect (d : Dev) (next : Nat) (ha : d.ecc.armed = false) :
    (d.fillTo next).dsc.fillProg = max d.dsc.fillProg next ∧
    ∀ lane k, lane = 16 ∨ lane = 17 → k < next → d.dsc.fillProg ≤ k → zeroAt (d.fillTo next) (slotKey lane k) := by
  by_cases h : next ≤ d.dsc.fillProg
  · rw [Dev.fillTo, if_pos h]
    exact ⟨by omega, fun lane k _ h1 h2 => by omega⟩
  · have hstay := fillTo_stays d h
    have ha0 : (d.fillErased next).ecc.armed = false := ha
    obtain ⟨ha1, hdsc1⟩ := laneWrite_zero_frame ha0 16 d.dsc.fillProg
    obtain ⟨-, hdsc2⟩ := laneWrite_zero_frame ha1 17 d.dsc.fillProg
    refine ⟨?_, fun lane k hl hk hp => ?_⟩
    · rw [hstay.fill, hdsc2, hdsc1]
      simp only [Dev.fillErased]
      omega
    · exact hstay.zeroAt (zeroAt_laneWrite ha1 (zeroAt_laneWrite ha0 (zeroAt_fillErased d hl hk hp) _ _) _ _)

theorem fillDone_effect (d : Dev) (hf : d.dsc.filling = true) (ha : d.ecc.armed = false) :
    (fillDone d).dsc.filling = false ∧ (fillDone d).dsc.fillDone = true ∧
    (fillDone d).dsc.fillProg = max d.dsc.fillProg (d.sets / 2) ∧ (fillDone d).flag R.DSC_EVT.FILL_DONE = true ∧
    ∀ k, k < d.sets / 2 → d.dsc.fillProg ≤ k → (fillDone d).burst 16 k = 0 ∧ (fillDone d).burst 17 k = 0 := by
  obtain ⟨hprog, hzero⟩ := fillTo_effect d (d.sets / 2) ha
  unfold fillDone
  rw [if_pos hf]
  exact ⟨rfl, rfl, hprog, flag_raise_self _ _ (by decide), fun k hk hp => ⟨hzero 16 k (.inl rfl) hk hp, hzero 17 k (.inr rfl) hk hp⟩⟩

/-! ## A wake step that times out (R450, R451) -/

/-- The registers of the events of clocks and wake steps. -/
def wakeEvents : List Nat := [R.CLK_EVT.PLL_TIMEOUT.ofs, R.PWR_EVT.WAKE_TO.ofs]

/-- The record of a wake step's time-out stays: its step and domain, and the events of the page. -/
structure WakeStays (d e : Dev) : Prop where
  role : e.gcr.role = d.gcr.role
  fail : bankGet e.regs R.PWR_WAKE_FAIL.STEP.ofs = bankGet d.regs R.PWR_WAKE_FAIL.STEP.ofs
  event : ∀ o ∈ wakeEvents, ∀ b, (d.raw o).getLsbD b = true → (e.raw o).getLsbD b = true

theorem WakeStays.refl (d : Dev) : WakeStays d d := ⟨rfl, rfl, fun _ _ _ h => h⟩

theorem WakeStays.trans {a b c : Dev} (h : WakeStays a b) (k : WakeStays b c) : WakeStays a c where
  role := k.role.trans h.role
  fail := k.fail.trans h.fail
  event o ho i hi := k.event o ho i (h.event o ho i hi)

theorem WakeStays.foldl {α : Type} {f : Dev → α → Dev} (h : ∀ d x, WakeStays d (f d x)) (l : List α) (d : Dev) :
    WakeStays d (l.foldl f d) := by
  induction l generalizing d with
  | nil => exact .refl d
  | cons x l ih => exact (h d x).trans (ih _)

theorem WakeStays.of_regs {d e : Dev} (hr : e.gcr.role = d.gcr.role) (h : e.regs = d.regs) : WakeStays d e where
  role := hr
  fail := by rw [h]
  event o _ b hb := by rwa [Dev.raw, h, hr]

theorem WakeStays.set (d : Dev) {f : FieldRef} (v : Nat) (hf : f.ofs ≠ R.PWR_WAKE_FAIL.STEP.ofs)
    (he : f.ofs ∉ wakeEvents) : WakeStays d (d.set f v) where
  role := rfl
  fail := bankGet_bankSet_ne _ _ _ _ (Ne.symm hf)
  event o ho b hb := by
    have hne : o ≠ f.ofs := fun h => he (h ▸ ho)
    rw [Dev.raw, Dev.set, Dev.setRaw, bankGet_bankSet_ne _ _ _ _ hne]
    exact hb

theorem GrantRel.wake {d e : Dev} (h : GrantRel d e) : WakeStays d e where
  role := h.events.role
  fail := h.events.bank _ (by decide)
  event o _ b hb := h.events.raw o b hb

theorem StoreStays.wake {d e : Dev} (h : StoreStays d e) : WakeStays d e := .of_regs h.role h.regs

theorem WakeStays.setRaw (d : Dev) {o : Nat} (w : Word) (hf : o ≠ R.PWR_WAKE_FAIL.STEP.ofs)
    (he : o ∉ wakeEvents) : WakeStays d (d.setRaw o w) where
  role := rfl
  fail := bankGet_bankSet_ne _ _ _ _ (Ne.symm hf)
  event i hi b hb := by
    have hne : i ≠ o := fun h => he (h ▸ hi)
    rw [Dev.raw, Dev.setRaw, bankGet_bankSet_ne _ _ _ _ hne]
    exact hb

theorem flipWrite_wake (d : Dev) (lane slot : Nat) (b : Burst) : WakeStays d (d.flipWrite lane slot b).2 := by
  unfold Dev.flipWrite
  split
  · have harm : WakeStays d { d with ecc := { d.ecc with armed := false } } := .of_regs rfl rfl
    have haddr : ∀ e v, WakeStays e (Dev.set64 e R.ECC_FLIP_ADDR_LO.ADDR_LO.ofs v) := fun e v =>
      (WakeStays.setRaw e _ (by decide) (by decide)).trans (.setRaw _ _ (by decide) (by decide))
    exact (harm.trans (haddr _ _)).trans (.set _ _ (by decide) (by decide))
  · exact .refl d

theorem laneWrite_wake (d : Dev) (lane slot : Nat) (data : LineData) (psn : Bool) :
    WakeStays d (d.laneWrite lane slot data psn) := by
  by_cases hst : (d.lane lane).st = 5
  · rw [Dev.laneWrite, if_pos hst]
    exact .refl d
  · rw [laneWrite_eq hst]
    have hflip := flipWrite_wake d lane slot (encodeLine data psn)
    generalize d.flipWrite lane slot (encodeLine data psn) = r at hflip ⊢
    have hput : WakeStays r.2 (r.2.putBurst lane slot r.1) := .of_regs rfl rfl
    exact (hflip.trans hput).trans (storeBurst_stays r.2 lane slot r.1).wake

theorem cleanHeader_wake (d : Dev) (e : HdcEnt) : WakeStays d (d.cleanHeader e) :=
  (laneWrite_wake d _ _ _ _).trans (.of_regs rfl rfl)

theorem emit_wake (d : Dev) (o : Out) : WakeStays d (d.emit o) := .of_regs rfl rfl

theorem refreshOnce_wake (d : Dev) (n rank : Nat) : WakeStays d (d.refreshOnce n rank) := by
  have hpmu : ∀ e c v, WakeStays e (Dev.pmu1 e c v) := fun e c v => .of_regs rfl rfl
  have hease : ∀ e k p, WakeStays e (Dev.easeActs e n k p) := fun e k p => .of_regs rfl rfl
  unfold Dev.refreshOnce
  dsimp only
  split
  · exact ((WakeStays.foldl (fun e b => emit_wake e (.laneCmd n rank "REFsb" b)) _ d).trans (hpmu _ _ _)).trans (hease _ _ _)
  · exact ((emit_wake d _).trans (hpmu _ _ _)).trans (hease _ _ _)

theorem issueRefresh_wake (n rank k : Nat) (d : Dev) : WakeStays d (Dev.issueRefresh n rank k d) := by
  induction k generalizing d with
  | zero => exact .refl d
  | succ k ih => exact (refreshOnce_wake d n rank).trans (ih _)

theorem burstRefresh_wake (d : Dev) (n rank : Nat) : WakeStays d (d.burstRefresh n rank) := by
  have hdrop : ∀ (e : Dev) l, WakeStays e ((e.setLane n l).dropToken 0 (refreshOwner n rank)) := fun e l => .of_regs rfl rfl
  exact ((issueRefresh_wake n rank _ d).trans (hdrop _ _)).trans (grantTokens_grant _).wake

theorem rankSleeps_wake (n : Nat) (d : Dev) (rank : Nat) : WakeStays d (Dev.rankSleeps n d rank) := by
  unfold Dev.rankSleeps
  dsimp only
  split
  · exact emit_wake d _
  · exact (burstRefresh_wake d n rank).trans (emit_wake _ _)

theorem laneSleeps_wake (d : Dev) (n : Nat) : WakeStays d (d.laneSleeps n) := by
  unfold Dev.laneSleeps
  dsimp only
  split
  · exact (WakeStays.foldl (rankSleeps_wake n) _ d).trans (.of_regs rfl rfl)
  · exact .refl d

theorem clampDom_wake (d : Dev) (dom : Nat) : WakeStays d (d.clampDom dom) := by
  unfold Dev.clampDom
  split
  · unfold Dev.clampPads
    split
    · exact .refl d
    · exact .of_regs rfl rfl
  · exact .refl d

theorem latchPads_wake (d : Dev) (dom : Nat) : WakeStays d (d.latchPads dom) := by
  unfold Dev.latchPads
  split
  · exact .refl d
  · exact .of_regs rfl rfl

/-- Of a list by key, the entries below a bound stay. -/
theorem bankGet_filter_below {α : Type} (l : List (Nat × α)) {n k : Nat} (h : n < k) :
    bankGet (l.filter (fun e => decide (e.1 < k))) n = bankGet l n := by
  induction l with
  | nil => rfl
  | cons e l ih =>
    obtain ⟨m, v⟩ := e
    by_cases hm : m < k
    · rw [List.filter_cons_of_pos (by simpa using hm), bankGet, bankGet, ih]
    · rw [List.filter_cons_of_neg (by simpa using hm), ih, bankGet, if_neg]
      omega

theorem aonOnly_wake (d : Dev) : WakeStays d d.aonOnly where
  role := rfl
  fail := bankGet_filter_below _ (by decide)
  event o ho b hb := by
    have hlow : ∀ o ∈ wakeEvents, o < 0x7000 := by decide
    have hget : bankGet d.aonOnly.regs o = bankGet d.regs o := bankGet_filter_below _ (hlow o ho)
    rw [Dev.raw, hget]
    exact hb

theorem stopPlls_wake (d : Dev) : WakeStays d d.stopPlls := 
  WakeStays.foldl (f := Dev.stopPll) (fun _ _ => .of_regs rfl rfl) _ d

theorem outFalls_wake (e d : Dev) : WakeStays d (e.outFalls d) := by
  unfold Dev.outFalls
  split
  · exact .of_regs rfl rfl
  · exact .refl d

theorem toMode_wake (d : Dev) (m : Mode) : WakeStays d (d.toMode m) := by
  unfold Dev.toMode
  split
  · exact .refl d
  · have hmode : WakeStays d { d with gcr := { d.gcr with mode := m, prev := d.gcr.mode.code } } := .of_regs rfl rfl
    exact hmode.trans (.set _ (f := R.GCR_EVT.MODE_CHANGE) 1 (by decide) (by decide))

theorem recoverAon_wake (d : Dev) : WakeStays d d.recoverAon := by
  have hflush : ∀ e : Dev, WakeStays e e.flushReady := fun e => WakeStays.foldl cleanHeader_wake _ e
  have htok : ∀ e : Dev, WakeStays e { e with pur := { e.pur with tokens := [], waiting := [] } } := fun e => .of_regs rfl rfl
  have hend : ∀ e : Dev, WakeStays e (e.faultN.oweFrame 0) := fun e => .of_regs rfl rfl
  have hoff : ∀ e : Dev, WakeStays e (e.outFalls e.aonOnly.stopPlls) := fun e =>
    ((aonOnly_wake e).trans (stopPlls_wake _)).trans (outFalls_wake e _)
  unfold Dev.recoverAon
  dsimp only
  refine (WakeStays.trans ?_ (hoff _)).trans ((toMode_wake _ _).trans (hend _))
  refine (WakeStays.trans ?_ (WakeStays.foldl clampDom_wake _ _)).trans (WakeStays.foldl latchPads_wake _ _)
  exact ((hflush d).trans (htok _)).trans (WakeStays.foldl laneSleeps_wake _ _)

theorem pmbusWrite_wake (d : Dev) (cmd : String) (v : Nat) : WakeStays d (d.pmbusWrite cmd v) := (pmbusWrite_grant d cmd v).wake

theorem wakeRepeat_wake (d : Dev) (step dom : Nat) : WakeStays d (d.wakeRepeat step dom) := by
  unfold Dev.wakeRepeat
  split
  · exact pmbusWrite_wake d _ _
  · split
    · exact .of_regs rfl rfl
    · exact .refl d

section
variable {d e : Dev} (h : WakeStays d e)
include h

theorem WakeStays.get {f : FieldRef} (hf : f.ofs = R.PWR_WAKE_FAIL.STEP.ofs) : e.get f = d.get f := by
  simp only [Dev.get, Dev.raw, hf, h.fail, h.role]

theorem WakeStays.flag {f : FieldRef} (hf : f.ofs ∈ wakeEvents) (hb : f.hi = f.lo) (hd : d.flag f = true) : e.flag f = true := by
  have hbit : ∀ x : Dev, x.flag f = (x.raw f.ofs).getLsbD f.lo := fun x => by
    rw [Bool.eq_iff_iff, Dev.flag, Dev.get, bits, hb, BitVec.getLsbD, Nat.testBit_eq_decide_div_mod_eq, Nat.shiftRight_eq_div_pow,
      beq_iff_eq, decide_eq_true_eq, Nat.add_sub_cancel_left, Nat.pow_one]
  rw [hbit] at hd ⊢
  exact h.event _ hf _ hd

end

/-- A wake step's time-out is recorded (R450). -/
theorem wakeTimeout_effect (d : Dev) {step dom : Nat} (unit : Nat) (hs : step < 8) (hd : dom < 32) :
    (d.wakeTimeout step dom unit).flag R.PWR_EVT.WAKE_TO = true ∧
    (d.wakeTimeout step dom unit).get R.PWR_WAKE_FAIL.STEP = step ∧
    (d.wakeTimeout step dom unit).get R.PWR_WAKE_FAIL.DOM = dom := by
  unfold Dev.wakeTimeout
  dsimp only
  have hflag : ((((d.set R.PWR_WAKE_FAIL.DOM dom).set R.PWR_WAKE_FAIL.STEP step).set R.PWR_WAKE_FAIL.TRIES
    (d.wakeTries step unit)).raise R.PWR_EVT.WAKE_TO).flag R.PWR_EVT.WAKE_TO = true := flag_raise_self _ _ (by decide)
  have hstep : ((((d.set R.PWR_WAKE_FAIL.DOM dom).set R.PWR_WAKE_FAIL.STEP step).set R.PWR_WAKE_FAIL.TRIES
      (d.wakeTries step unit)).raise R.PWR_EVT.WAKE_TO).get R.PWR_WAKE_FAIL.STEP = step := by
    rw [get_raise_far _ _ _ (by decide), get_set_far _ _ _ _ (by decide), get_set_self _ _ _ (by decide)]
    exact Nat.mod_eq_of_lt hs
  have hdom : ((((d.set R.PWR_WAKE_FAIL.DOM dom).set R.PWR_WAKE_FAIL.STEP step).set R.PWR_WAKE_FAIL.TRIES
      (d.wakeTries step unit)).raise R.PWR_EVT.WAKE_TO).get R.PWR_WAKE_FAIL.DOM = dom := by
    rw [get_raise_far _ _ _ (by decide), get_set_far _ _ _ _ (by decide), get_set_far _ _ _ _ (by decide),
      get_set_self _ _ _ (by decide)]
    exact Nat.mod_eq_of_lt hd
  generalize (((d.set R.PWR_WAKE_FAIL.DOM dom).set R.PWR_WAKE_FAIL.STEP step).set R.PWR_WAKE_FAIL.TRIES
    (d.wakeTries step unit)).raise R.PWR_EVT.WAKE_TO = e at *
  split
  · have hrec := recoverAon_wake e
    exact ⟨hrec.flag (by decide) rfl hflag, (hrec.get rfl).trans hstep, (hrec.get (f := R.PWR_WAKE_FAIL.DOM) rfl).trans hdom⟩
  · have hdone : WakeStays e { e.wakeDone step unit with pwr := { (e.wakeDone step unit).pwr with
        tries := (e.wakeDone step unit).pwr.tries ++ [(step, unit, d.wakeTries step unit + 1)] } } := .of_regs rfl rfl
    have hrep := hdone.trans (wakeRepeat_wake _ step dom)
    exact ⟨hrep.flag (by decide) rfl hflag, (hrep.get rfl).trans hstep, (hrep.get (f := R.PWR_WAKE_FAIL.DOM) rfl).trans hdom⟩

end Sys2Proof.Machine
end

section
/-! THEOREM. The lanes: start-up, training, header fill, self-refresh exit and rails (R301 to R305, R312, R316 to R319). -/

namespace Sys2Proof.Machine

set_option Elab.async false

theorem headerFill_effect (d : Dev) (hm : d.gcr.mode = .train) (h16 : (d.lane 16).st = 3) (h17 : (d.lane 17).st = 3)
    (hf : d.dsc.filling = false) (hd : d.dsc.fillDone = false) :
    headerFill d = { d with dsc := { d.dsc with filling := true, fillProg := 0 } } := by
  simp [headerFill, hm, h16, h17, hf, hd]

/-- Settles O48: one lemma for each command, of what it does to the lanes and what it drives. -/
theorem laneCommands : Obligations.LaneCommands := by
  unfold Obligations.LaneCommands
  refine ⟨?_, ?_, ?_, ?_, ?_, ?_, ?_, ?_, ?_, ?_⟩
  · intro n s hrun hn hlen hp hf hm hst
    obtain ⟨h2, htries, hsent, hgood⟩ := laneStartUp_effect s.dev (by omega) (by omega) hp hf hm hst
    refine ⟨_, onCore_runs hrun _, ?_⟩
    simp only [State.setDev_dev, settle_lane, settle_pwr]
    refine ⟨h2, htries, ?_⟩
    split
    · next hg => rw [if_pos hg] at hgood; exact ⟨hgood.1, drove_settle hgood.2 hsent⟩
    · next hg => rw [if_neg hg] at hgood; exact hgood
  · intro g s hrun hg hlen he hgood
    obtain ⟨hrail, hsteps⟩ := dsVrPgRise_effect s.dev hg he hgood
    refine ⟨_, onCore_runs hrun _, ?_⟩
    simp only [State.setDev_dev, settle_lane, settle_pwr]
    exact ⟨hrail, fun n hn hmem hst hstep => hsteps n (by omega) hmem hst hstep⟩
  · intro n us s hrun hn hlen hst hstep ht
    obtain ⟨h3, h12, htok, hus, hsent, hdrive⟩ := trainingTokenGrant_effect s.dev us (by omega) hst hstep ht
    refine ⟨_, onCore_runs hrun _, ?_⟩
    simp only [State.setDev_dev, settle_lane, settle_get, Dev.hasToken, settle_pur]
    exact ⟨h3, h12, htok, hus, fun r hr => trainDriven_mono hsent (settle_rel _).sent (hdrive r hr)⟩
  · intro n step s hrun hn hlen hst hstep ht h4 h11 hdfe
    refine ⟨_, onCore_runs hrun _, ?_⟩
    simp only [State.setDev_dev, settle_lane, settle_flag]
    exact trainFail_effect s.dev (by omega) hst hstep ht h4 h11 hdfe
  · intro s hrun hm h16 h17 hf hd
    refine ⟨_, onCore_runs hrun _, ?_⟩
    rw [headerFill_effect _ hm h16 h17 hf hd]
    simp only [State.setDev_dev, settle_dsc, settle_store]
    exact ⟨trivial, trivial, trivial⟩
  · intro s hrun hf ha
    refine ⟨_, onCore_runs hrun _, ?_⟩
    simp only [State.setDev_dev, settle_dsc, settle_flag, Dev.burst, settle_store]
    exact fillDone_effect s.dev hf ha
  · intro n s hrun hn hlen hst hf
    obtain ⟨h3, hstore, hsent, hdrive⟩ := selfRefreshExit_effect s.dev (by omega) hst hf
    refine ⟨_, onCore_runs hrun _, ?_⟩
    simp only [State.setDev_dev, settle_lane, settle_store]
    refine ⟨h3, hstore, fun r hr => ?_⟩
    obtain ⟨hsrx, hzq, hmr⟩ := hdrive r hr
    exact ⟨drove_settle hsrx hsent, drove_settle hzq hsent, drove_settle hmr hsent⟩
  · intro g s hrun hg he hgood
    refine ⟨_, onCore_runs hrun _, ?_⟩
    simp only [State.setDev_dev, settle_flag, settle_get, dsVrPgTimeout, he, hgood, Bool.not_false, Bool.and_self, if_true]
    exact wakeTimeout_effect s.dev (5 + g) (by omega) (by omega)
  · intro g s hrun he
    refine ⟨_, onCore_runs hrun _, ?_⟩
    simp only [State.setDev_dev, settle_flag, settle_dsc, settle_pwr, vrStuck, he, Bool.not_false]
    exact ⟨flag_raiseIf_self _ _ _ (by decide) rfl, rfl, rfl⟩
  · intro g s hrun hg hlen he hgood
    obtain ⟨hflag, hrail, hst⟩ := vrFault_effect s.dev hg he hgood
    refine ⟨_, onCore_runs hrun _, ?_⟩
    simp only [State.setDev_dev, settle_flag, settle_lane, settle_pwr]
    exact ⟨hflag, hrail, fun n hn hmem => hst n (by omega) hmem⟩

end Sys2Proof.Machine
end

section
/-! SUPPORT. The vectors under R525 and R526: what the event controller does with one vector, and when a condition holds. -/

namespace Sys2Proof.Machine

set_option Elab.async false

/-! ## The mirror flit leaves the host port and the event controller alone -/

/-- The host port and the event controller stay. -/
structure EventsStay (d e : Dev) : Prop where
  hst : e.hst = d.hst
  evc : e.evc = d.evc

theorem EventsStay.trans {a b c : Dev} (h : EventsStay a b) (k : EventsStay b c) : EventsStay a c :=
  ⟨k.hst.trans h.hst, k.evc.trans h.evc⟩

theorem dataOut_eventsStay (d : Dev) (n : Nat) (slots : BitVec 1920) (mark : Nat) : EventsStay d (d.dataOut n slots mark) :=
  ⟨by simp [Dev.dataOut], by simp [Dev.dataOut]⟩

theorem pumpTwin_eventsStay (l : List (Nat × List Item)) (d : Dev) : EventsStay d (Dev.pumpTwin l d) := by
  induction l generalizing d with
  | nil => exact ⟨rfl, rfl⟩
  | cons f l ih =>
    unfold Dev.pumpTwin
    split
    · refine EventsStay.trans (EventsStay.trans ?_ (dataOut_eventsStay ..)) (ih _)
      exact ⟨rfl, rfl⟩
    · exact ⟨rfl, rfl⟩

theorem pumpTw_eventsStay (d : Dev) : EventsStay d d.pumpTw := by
  have hidle : ∀ e : Dev, EventsStay e e.twIdle := by
    intro e
    unfold Dev.twIdle
    split
    · exact ⟨by simp [Dev.idleFlit, Dev.controlOut], by simp [Dev.idleFlit, Dev.controlOut]⟩
    · exact ⟨rfl, rfl⟩
  unfold Dev.pumpTw
  split
  · exact ⟨rfl, rfl⟩
  · exact (pumpTwin_eventsStay _ d).trans (hidle _)

theorem flushTwin_eventsStay (d : Dev) : EventsStay d d.flushTwin := by
  unfold Dev.flushTwin
  split
  · exact ⟨rfl, rfl⟩
  · have hlive : ∀ (l : List (List Item)) (e : Dev), EventsStay e (l.foldl Dev.liveFlit e) := by
      intro l
      induction l with
      | nil => exact fun e => ⟨rfl, rfl⟩
      | cons i l ih =>
        intro e
        have hflit : EventsStay e (Dev.liveFlit e i) := ⟨rfl, rfl⟩
        exact hflit.trans (ih _)
    have hitems : EventsStay d { d with twn := { d.twn with items := [] } } := ⟨rfl, rfl⟩
    exact (hitems.trans (hlive _ _)).trans (pumpTw_eventsStay _)

/-! ## One vector -/

theorem getLsbD_setBit64_ne (m : BitVec 64) {u v : Nat} (b : Bool) (h : v ≠ u) : (setBit64 m u b).getLsbD v = m.getLsbD v := by
  have hbit : (BitVec.ofNat 64 (2 ^ u)).getLsbD v = false := by
    rw [BitVec.getLsbD_ofNat, Nat.testBit_two_pow]
    simp [Ne.symm h]
  unfold setBit64
  generalize BitVec.ofNat 64 (2 ^ u) = q at hbit ⊢
  by_cases hv : v < 64
  · split <;> simp [hbit, hv, -BitVec.getLsbD_eq_getElem]
  · rw [BitVec.getLsbD_of_ge _ _ (Nat.not_lt.mp hv), BitVec.getLsbD_of_ge _ _ (Nat.not_lt.mp hv)]

theorem getLsbD_setBit64_same (m : BitVec 64) {v : Nat} (b : Bool) (h : v < 64) : (setBit64 m v b).getLsbD v = b := by
  have hbit : (BitVec.ofNat 64 (2 ^ v)).getLsbD v = true := by
    rw [BitVec.getLsbD_ofNat, Nat.testBit_two_pow_self]
    simp [h]
  unfold setBit64
  generalize BitVec.ofNat 64 (2 ^ v) = q at hbit ⊢
  cases b <;> simp [hbit, h, -BitVec.getLsbD_eq_getElem]

/-- Another vector's turn leaves a vector's bits, and its table entry. -/
theorem settleVec_other (c : Nat) (d : Dev) {u v : Nat} (h : v ≠ u) :
    (Dev.settleVec c d u).evc.armed.getLsbD v = d.evc.armed.getLsbD v ∧
    (Dev.settleVec c d u).hst.pba.getLsbD v = d.hst.pba.getLsbD v ∧
    (Dev.settleVec c d u).msixBlocked v = d.msixBlocked v := by
  unfold Dev.settleVec Dev.sendMsix
  dsimp only
  repeat' split
  all_goals exact ⟨by simp [getLsbD_setBit64_ne _ _ h], by simp [getLsbD_setBit64_ne _ _ h], rfl⟩

theorem settleVecs_others (c : Nat) (l : List Nat) (d : Dev) {v : Nat} (h : v ∉ l) :
    (l.foldl (Dev.settleVec c) d).evc.armed.getLsbD v = d.evc.armed.getLsbD v ∧
    (l.foldl (Dev.settleVec c) d).hst.pba.getLsbD v = d.hst.pba.getLsbD v ∧
    (l.foldl (Dev.settleVec c) d).msixBlocked v = d.msixBlocked v := by
  induction l generalizing d with
  | nil => exact ⟨rfl, rfl, rfl⟩
  | cons u l ih =>
    rw [List.mem_cons, not_or] at h
    obtain ⟨harm, hpba, hblk⟩ := ih (Dev.settleVec c d u) h.2
    obtain ⟨harm0, hpba0, hblk0⟩ := settleVec_other c d h.1
    exact ⟨harm.trans harm0, hpba.trans hpba0, hblk.trans hblk0⟩

/-- The turn of an armed vector: it stays armed, or its pending bit is set, or its message goes out (R525, R526). -/
theorem settleVec_armed (c : Nat) (d : Dev) {v : Nat} (hv : v < 64) (h : d.evc.armed.getLsbD v = true) :
    (Dev.settleVec c d v).evc.armed.getLsbD v = true ∨ (Dev.settleVec c d v).hst.pba.getLsbD v = true ∨
    (Dev.settleVec c d v).drove d (.msix v) := by
  unfold Dev.settleVec
  dsimp only
  split
  · left
    split
    · exact h
    · exact h
  · split
    · split
      · exact .inr (.inl (getLsbD_setBit64_same _ _ hv))
      · exact .inr (.inr (drove_of_append (l := [.msix v]) rfl (by simp)))
    · exact .inl h

/-- The turn of a pending vector that is not blocked: it is no longer pending, and its message goes out if its condition holds
(R526). -/
theorem settleVec_pending (c : Nat) (d : Dev) {v : Nat} (hv : v < 64) (hp : d.hst.pba.getLsbD v = true)
    (hb : d.msixBlocked v = false) :
    (Dev.settleVec c d v).hst.pba.getLsbD v = false ∧
    (c.testBit v = true → (Dev.settleVec c d v).drove d (.msix v)) := by
  unfold Dev.settleVec
  rw [if_pos (by simp [hp, hb])]
  dsimp only
  refine ⟨?_, fun hc => ?_⟩
  · split
    · exact getLsbD_setBit64_same _ _ hv
    · exact getLsbD_setBit64_same _ _ hv
  · rw [if_pos hc]
    exact drove_of_append (l := [.msix v]) rfl (by simp)

/-- Each vector has one turn. -/
theorem range64_split {v : Nat} (hv : v < 64) :
    ∃ a b : List Nat, List.range 64 = a ++ v :: b ∧ v ∉ a ∧ v ∉ b := by
  refine ⟨List.range v, List.range' (v + 1) (63 - v), ?_, by simp, by simp⟩
  have h : List.range 64 = List.range (v + (1 + (63 - v))) := by congr 1; omega
  rw [h, List.range_add, List.range_add]
  simp [List.range'_eq_map_range, Nat.add_assoc]

/-- All the vectors' turns, as they bear on one of them. -/
theorem settleVecs_turn (c : Nat) (d : Dev) {v : Nat} (hv : v < 64) :
    ∃ a b : List Nat, (List.range 64).foldl (Dev.settleVec c) d =
      b.foldl (Dev.settleVec c) (Dev.settleVec c (a.foldl (Dev.settleVec c) d) v) ∧ v ∉ a ∧ v ∉ b := by
  obtain ⟨a, b, hab, ha, hb⟩ := range64_split hv
  exact ⟨a, b, by rw [hab, List.foldl_append, List.foldl_cons], ha, hb⟩

theorem settleVecs_armed (c : Nat) (d : Dev) {v : Nat} (hv : v < 64) (h : d.evc.armed.getLsbD v = true) :
    ((List.range 64).foldl (Dev.settleVec c) d).evc.armed.getLsbD v = true ∨
    ((List.range 64).foldl (Dev.settleVec c) d).hst.pba.getLsbD v = true ∨
    ((List.range 64).foldl (Dev.settleVec c) d).drove d (.msix v) := by
  obtain ⟨a, b, hfold, ha, hb⟩ := settleVecs_turn c d hv
  rw [hfold]
  obtain ⟨harm, -, -⟩ := settleVecs_others c a d ha
  obtain ⟨harm', hpba', -⟩ := settleVecs_others c b (Dev.settleVec c (a.foldl (Dev.settleVec c) d) v) hb
  rcases settleVec_armed c (a.foldl (Dev.settleVec c) d) hv (harm.trans h) with h1 | h1 | h1
  · exact .inl (harm'.trans h1)
  · exact .inr (.inl (hpba'.trans h1))
  · exact .inr (.inr (drove_before (settleVecs_rel c a d).sent ((settleVec_rel c _ v).sent.trans (settleVecs_rel c b _).sent)
      (drove_mono h1 (settleVec_rel c _ v).sent (settleVecs_rel c b _).sent)))

theorem settleVecs_pending (c : Nat) (d : Dev) {v : Nat} (hv : v < 64) (hp : d.hst.pba.getLsbD v = true)
    (hblk : d.msixBlocked v = false) :
    ((List.range 64).foldl (Dev.settleVec c) d).hst.pba.getLsbD v = false ∧
    (c.testBit v = true → ((List.range 64).foldl (Dev.settleVec c) d).drove d (.msix v)) := by
  obtain ⟨a, b, hfold, ha, hb⟩ := settleVecs_turn c d hv
  rw [hfold]
  obtain ⟨-, hpba, hblk0⟩ := settleVecs_others c a d ha
  obtain ⟨-, hpba', -⟩ := settleVecs_others c b (Dev.settleVec c (a.foldl (Dev.settleVec c) d) v) hb
  obtain ⟨hclear, hsend⟩ := settleVec_pending c (a.foldl (Dev.settleVec c) d) hv (hpba.trans hp) (hblk0.trans hblk)
  exact ⟨hpba'.trans hclear, fun hc =>
    drove_before (settleVecs_rel c a d).sent ((settleVec_rel c _ v).sent.trans (settleVecs_rel c b _).sent)
      (drove_mono (hsend hc) (settleVec_rel c _ v).sent (settleVecs_rel c b _).sent)⟩

/-! ## What follows a command, for one vector -/

/-- The device on which the event controller acts after a command. -/
def Dev.flushed (d : Dev) : Dev := { d.flushTwin with evc := { d.flushTwin.evc with seen := d.flushTwin.seenNow } }

theorem settle_eq (d : Dev) : settle d =
    if d.flushed.conditions = 0 ∧ d.flushed.hst.pba = 0 then d.flushed
    else (List.range 64).foldl (Dev.settleVec d.flushed.conditions) d.flushed := rfl

theorem flushed_hst (d : Dev) : d.flushed.hst = d.hst := (flushTwin_eventsStay d).hst
theorem flushed_armed (d : Dev) : d.flushed.evc.armed = d.evc.armed := congrArg (·.armed) (flushTwin_eventsStay d).evc
theorem flushed_sent (d : Dev) : d.sent <:+ d.flushed.sent := (flushTwin_rel d).sent
theorem flushed_regs (d : Dev) : d.flushed.regs = d.regs := (flushTwin_rel d).regs
theorem flushed_gcr (d : Dev) : d.flushed.gcr = d.gcr := (flushTwin_rel d).gcr

/-- A vector armed by a command is armed, pending or sent after it (R525, R526). -/
theorem settle_armed (d : Dev) {v : Nat} (hv : v < 64) (h : d.evc.armed.getLsbD v = true) :
    (settle d).evc.armed.getLsbD v = true ∨ (settle d).hst.pba.getLsbD v = true ∨ (settle d).drove d (.msix v) := by
  rw [settle_eq]
  split
  · left; rw [flushed_armed]; exact h
  · rcases settleVecs_armed d.flushed.conditions d.flushed hv (by rw [flushed_armed]; exact h) with h1 | h1 | h1
    · exact .inl h1
    · exact .inr (.inl h1)
    · exact .inr (.inr (drove_before (flushed_sent d) (settleVecs_rel _ _ _).sent h1))

/-- A pending vector that a command frees is pending no more, and its message goes out if its condition holds (R526). -/
theorem settle_pending (d : Dev) {v : Nat} (hv : v < 64) (hp : d.hst.pba.getLsbD v = true) (hb : d.msixBlocked v = false) :
    (settle d).hst.pba.getLsbD v = false ∧ (d.flushed.conditions.testBit v = true → (settle d).drove d (.msix v)) := by
  have hpf : d.flushed.hst.pba.getLsbD v = true := by rw [flushed_hst]; exact hp
  have hbf : d.flushed.msixBlocked v = false := by rw [Dev.msixBlocked, Dev.msixEnt, flushed_hst]; exact hb
  rw [settle_eq, if_neg]
  · obtain ⟨hclear, hsend⟩ := settleVecs_pending d.flushed.conditions d.flushed hv hpf hbf
    exact ⟨hclear, fun hc => drove_before (flushed_sent d) (settleVecs_rel _ _ _).sent (hsend hc)⟩
  · rintro ⟨-, h0⟩
    rw [h0] at hpf
    simp at hpf

/-! ## Conditions -/

theorem bitsOf_fold_ne_zero (p : Nat → Bool) (l : List Nat) (a : Nat) :
    l.foldl (fun a k => if p k then a + 2 ^ k else a) a ≠ 0 ↔ a ≠ 0 ∨ ∃ k ∈ l, p k = true := by
  induction l generalizing a with
  | nil => simp
  | cons k l ih =>
    rw [List.foldl_cons, ih]
    by_cases hp : p k = true
    · simp [hp]
    · simp [hp]

theorem bitsOf_ne_zero (n : Nat) (p : Nat → Bool) : bitsOf n p ≠ 0 ↔ ∃ k, k < n ∧ p k = true := by
  rw [bitsOf, bitsOf_fold_ne_zero]
  simp

theorem bitsOf_mono {n : Nat} {p q : Nat → Bool} (h : ∀ k, p k = true → q k = true) (hp : bitsOf n p ≠ 0) : bitsOf n q ≠ 0 := by
  rw [bitsOf_ne_zero] at hp ⊢
  obtain ⟨k, hk, hpk⟩ := hp
  exact ⟨k, hk, h k hpk⟩

theorem ne_zero_of_testBit_mono {a b : Nat} (h : ∀ i, a.testBit i = true → b.testBit i = true) (ha : a ≠ 0) : b ≠ 0 := by
  obtain ⟨i, hi⟩ := Nat.exists_testBit_of_ne_zero ha
  rintro rfl
  simpa using h i hi

section
variable {d e : Dev} (h : EventsGrow d e)
include h

theorem EventsGrow.latch (base i : Nat) (en : Bool) (hi : (d.latch base en).testBit i = true) : (e.latch base en).testBit i = true := by
  have hraw := fun o => h.raw0 o i
  simp only [BitVec.getLsbD] at hraw
  cases en with
  | false => exact hraw _ hi
  | true =>
    simp only [Dev.latch, if_true, Nat.testBit_and, Bool.and_eq_true] at hi ⊢
    exact ⟨hraw _ hi.1, hraw _ hi.2⟩

theorem EventsGrow.pend {w : Nat} (hw : d.pend w ≠ 0) : e.pend w ≠ 0 := by
  unfold Dev.pend Dev.wordBits at hw ⊢
  split at hw
  · next h1 =>
    rw [if_pos h1]
    exact ne_zero_of_testBit_mono (fun i => h.latch _ i _) hw
  next h1 =>
  rw [if_neg h1]
  split at hw
  · next h2 =>
    rw [if_pos h2]
    exact bitsOf_mono (fun n => h.latch _ _ _) hw
  next h2 =>
  rw [if_neg h2]
  split at hw
  · next h3 =>
    rw [if_pos h3]
    exact bitsOf_mono (fun n => h.latch _ _ _) hw
  next h3 =>
  rw [if_neg h3]
  split at hw
  · next h4 =>
    rw [if_pos h4]
    refine bitsOf_mono (fun b hb => ?_) hw
    have hflag : e.flag (R.PMU_SELn.INT (32 * (w - 34) + b)) = d.flag (R.PMU_SELn.INT (32 * (w - 34) + b)) := by
      simp only [Dev.flag, Dev.get, Dev.raw, h.role, h.bank (R.PMU_SELn.INT (32 * (w - 34) + b)).ofs
        (by simp only [grantEvents, R.PMU_SELn.INT, List.mem_cons, List.not_mem_nil, or_false]; omega)]
    simp only [hflag, Bool.and_eq_true, Nat.testBit_or, Bool.or_eq_true] at hb ⊢
    exact ⟨hb.1.imp (h.raw0 _ b) (h.raw0 _ b), hb.2⟩
  · exact absurd rfl hw

theorem EventsGrow.route {w : Nat} (hw : w < 36) : e.route w = d.route w := by
  rw [Dev.route, Dev.raw0, h.bank _ (by simp only [grantEvents, List.mem_cons, List.not_mem_nil, or_false]; omega)]
  rfl

end

theorem conditions_fold (d : Dev) (l : List Nat) (a v : Nat) :
    (l.foldl (fun a w => if (d.route w).testBit 8 && d.pend w != 0 then a ||| 2 ^ bits (d.route w) 5 0 else a) a).testBit v = true ↔
      a.testBit v = true ∨ ∃ w ∈ l, (d.route w).testBit 8 = true ∧ d.pend w ≠ 0 ∧ bits (d.route w) 5 0 = v := by
  induction l generalizing a with
  | nil => simp
  | cons w l ih =>
    rw [List.foldl_cons, ih]
    by_cases hc : ((d.route w).testBit 8 && d.pend w != 0) = true
    · have hc' := hc
      simp only [Bool.and_eq_true, bne_iff_ne, ne_eq] at hc'
      rw [if_pos hc]
      simp only [Nat.testBit_or, Nat.testBit_two_pow, Bool.or_eq_true, decide_eq_true_eq, List.mem_cons, exists_eq_or_imp, hc',
        not_false_eq_true, true_and, ne_eq, or_assoc]
    · rw [if_neg hc]
      simp only [Bool.and_eq_true, bne_iff_ne, ne_eq, not_and, not_not] at hc
      simp only [List.mem_cons, exists_eq_or_imp]
      constructor
      · rintro (h | h)
        · exact .inl h
        · exact .inr (.inr h)
      · rintro (h | ⟨h8, hp, -⟩ | h)
        · exact .inl h
        · exact absurd (hc h8) hp
        · exact .inr h

/-- C(v): a word routed to v has a pending bit (R525). -/
theorem conditions_testBit (d : Dev) (v : Nat) : d.conditions.testBit v = true ↔
    ∃ w, w < 36 ∧ (d.route w).testBit 8 = true ∧ d.pend w ≠ 0 ∧ bits (d.route w) 5 0 = v := by
  rw [Dev.conditions, conditions_fold]
  simp

/-- Events that are only raised keep every condition. -/
theorem EventsGrow.conditions {d e : Dev} (h : EventsGrow d e) {v : Nat} (hc : d.conditions.testBit v = true) :
    e.conditions.testBit v = true := by
  rw [conditions_testBit] at hc ⊢
  obtain ⟨w, hw, h8, hp, hv⟩ := hc
  exact ⟨w, hw, by rw [h.route hw]; exact h8, h.pend hp, by rw [h.route hw]; exact hv⟩

end Sys2Proof.Machine
end

section
/-! THEOREM. Messages, rearming and event frames (R525 to R530). -/

namespace Sys2Proof.Machine

set_option Elab.async false

/-- The host link comes up, as a master whose function is not masked; its token goes back. -/
theorem pbaRelease_rel (d : Dev) :
    ∃ e : Dev, e.hst.up = true ∧ e.hst.busMaster = true ∧ e.hst.fmask = false ∧ e.hst.pba = d.hst.pba ∧
      e.hst.table = d.hst.table ∧ e.sent = d.sent ∧ EventsGrow d e ∧ GrantRel e (pbaRelease d) := by
  unfold pbaRelease
  dsimp only
  refine ⟨_, ?_, ?_, ?_, ?_, ?_, ?_, ?_, grantTokens_grant _⟩
  · rfl
  · rfl
  · rfl
  · split <;> rfl
  · split <;> rfl
  · split <;> rfl
  · exact EventsGrow.of_regs (by split <;> rfl) (by split <;> rfl)

theorem GrantRel.hst {d e : Dev} (h : GrantRel d e) : e.hst = d.hst := by rw [h.frame]

theorem pbaRelease_effect (d : Dev) :
    (settle (pbaRelease d)).hst.up = true ∧ (settle (pbaRelease d)).hst.busMaster = true ∧
    (settle (pbaRelease d)).hst.fmask = false ∧
    ∀ v, v < 64 → d.hst.pba.getLsbD v = true → (d.msixEnt v).masked = false →
      (settle (pbaRelease d)).hst.pba.getLsbD v = false ∧
      (d.conditions.testBit v = true → (settle (pbaRelease d)).drove d (.msix v)) := by
  obtain ⟨e, hup, hbus, hmask, hpba, htable, hsent, hgrow, hgrant⟩ := pbaRelease_rel d
  have hhst := hgrant.hst
  refine ⟨by rw [settle_hst_up, hhst, hup], by rw [settle_hst_busMaster, hhst, hbus], by rw [settle_hst_fmask, hhst, hmask],
    fun v hv hp hm => ?_⟩
  have hblk : (pbaRelease d).msixBlocked v = false := by
    have hent : (pbaRelease d).msixEnt v = d.msixEnt v := by rw [Dev.msixEnt, hhst, htable]; rfl
    simp [Dev.msixBlocked, hent, hhst, hup, hbus, hmask, hm]
  obtain ⟨hclear, hsend⟩ := settle_pending (pbaRelease d) hv (by rw [hhst, hpba]; exact hp) hblk
  refine ⟨hclear, fun hc => ?_⟩
  have hflush : EventsGrow (pbaRelease d) (pbaRelease d).flushed :=
    EventsGrow.of_regs (by rw [flushed_gcr]) (flushed_regs _)
  have hcond := ((hgrow.trans hgrant.events).trans hflush).conditions hc
  exact drove_before (by rw [← hsent]; exact hgrant.sent) (settle_rel _).sent (hsend hcond)

/-- The frame of an event word that a device which is not the head owes, or has fresh bits for (R528 to R530). -/
theorem sendEvt_effect (d : Dev) (w bits : Nat) (hh : d.chn.head = false) :
    (d.sendEvt w bits).inFlight (isEvt w) = true ∧ (d.sendEvt w bits).evc.owed = d.evc.owed ∧
    (settle (d.sendEvt w bits)).drove d (chainOut ⟨0, d.addr, d.chn.seq, false, .evt d.addr w d.gcr.mode.code d.gcr.fault
      (BitVec.ofNat 32 bits)⟩) := by
  rw [Dev.sendEvt, hh]
  exact ⟨chainSend_inFlight _ _ _ _ _ _ (beq_self_eq_true w), rfl, drove_settle_emit _ (List.suffix_refl _)⟩

/-- Settles O25: a vector's own turn decides what its bits are after the command, and granting tokens keeps every condition. -/
theorem eventMessages : Obligations.EventMessages := by
  unfold Obligations.EventMessages
  refine ⟨?_, ?_, ?_, ?_⟩
  · intro src word mask s hw hreach
    refine ⟨_, onDev_write hreach src _, fun b hb hm => ?_⟩
    have hv : 32 * word + b < 64 := by omega
    have harm : ((evcRearm word mask s.dev).emit (.regOk src)).evc.armed.getLsbD (32 * word + b) = true := by
      simp [evcRearm, hm, hv]
    rcases settle_armed _ hv harm with h | h | h
    · exact .inl h
    · exact .inr (.inl h)
    · exact .inr (.inr (drove_before (List.suffix_cons ..) (settle_rel _).sent h))
  · intro s hw hd
    refine ⟨_, onDev_awake hw _, ?_⟩
    rw [State.setDev_dev, if_pos hd]
    exact pbaRelease_effect s.dev
  · intro w s hw hf ha hh
    refine ⟨_, onDev_awake hw _, ?_⟩
    have hopen : ¬ ((s.dev.inFlight (isEvt w) || (s.dev.addr == 0 && !s.dev.chn.head)) = true) := by simp [hf, ha]
    simp only [State.setDev_dev, settle_inFlight, settle_evc_owed, evtFrameSend, if_neg hopen]
    refine ⟨fun ho => ?_, fun ho hfresh => ?_⟩
    · rw [if_pos (List.contains_iff_mem.mpr ho)]
      obtain ⟨hfl, howed, hdrive⟩ := sendEvt_effect { s.dev with evc := { s.dev.evc with owed := s.dev.evc.owed.erase w } } w
        (s.dev.wordBits w false) hh
      exact ⟨howed, hfl, hdrive⟩
    · rw [if_neg (by simpa using ho), if_pos hfresh]
      obtain ⟨hfl, -, hdrive⟩ := sendEvt_effect { s.dev with evc := { s.dev.evc with
        seen := bankSet s.dev.evc.seen w (BitVec.ofNat 32 (s.dev.pend w)) } } w (s.dev.pend w) hh
      exact ⟨hfl, hdrive⟩
  · intro s hw hup
    refine ⟨_, onDev_awake hw _, ?_⟩
    have hhst : (hstLinkDown s.dev).hst.up = false := by
      rw [hstLinkDown, if_pos hup, (askToken_grant _ _ _).hst, wantToken_eq]
      rfl
    have hflag : (hstLinkDown s.dev).flag R.HST_EVT.LINK_DOWN = true := by
      rw [hstLinkDown, if_pos hup, askToken_flag _ _ _ (by decide)]
      exact flag_raise_self _ _ (by decide)
    simp only [State.setDev_dev, settle_hst_up, settle_flag]
    exact ⟨hhst, hflag⟩

end Sys2Proof.Machine
end

section
/-! SUPPORT. What reading and writing the lanes changes: the store, counts, errors and their events, and, where an error loses a
lane, its group and the mode (R319 to R341). -/

namespace Sys2Proof.Machine

set_option Elab.async false

/-- The configuration that the lines' path reads and never writes (R513). -/
def dataConfig (o : Nat) : Bool :=
  (0x11040 ≤ o && o < 0x11400) ||
  [0x4C, 0x10104, 0x10110, 0x10114, 0x10118, 0x1011C, 0x10120, 0x10124, 0x12040, 0x13040, 0x14040, 0x15040, 0x16040, 0x16044, 0x16050,
   0x17040, 0x17044, 0x17048, 0x1704C, 0x1C040, 0x1E040, 0x1E048, 0x1F040, 0x1F044, 0x1F048, 0x1F054, 0x20040, 0x20054,
   0x21040].contains o

theorem dataConfig_below {o : Nat} (h : dataConfig o = true) : o < 0x21200 := by
  have hall : [0x4C, 0x10104, 0x10110, 0x10114, 0x10118, 0x1011C, 0x10120, 0x10124, 0x12040, 0x13040, 0x14040, 0x15040, 0x16040,
      0x16044, 0x16050, 0x17040, 0x17044, 0x17048, 0x1704C, 0x1C040, 0x1E040, 0x1E048, 0x1F040, 0x1F044, 0x1F048, 0x1F054, 0x20040,
      0x20054, 0x21040].all (· < 0x21200) = true := by decide
  simp only [dataConfig, Bool.or_eq_true, Bool.and_eq_true, decide_eq_true_eq] at h
  rcases h with h | h
  · omega
  · simpa using List.all_eq_true.mp hall o (List.contains_iff_mem.mp h)

/-- The configuration of the lines' path is as it was. -/
def ConfigKept (d e : Dev) : Prop := ∀ o, dataConfig o = true → bankGet e.regs o = bankGet d.regs o

theorem ConfigKept.of_regs {d e : Dev} (h : e.regs = d.regs) : ConfigKept d e := fun _ _ => by rw [h]

theorem ConfigKept.trans {a b c : Dev} (h : ConfigKept a b) (k : ConfigKept b c) : ConfigKept a c := fun o ho =>
  (k o ho).trans (h o ho)

theorem setRaw_config (d : Dev) {o : Nat} (w : Word) (h : dataConfig o = false) : ConfigKept d (d.setRaw o w) := fun k hk =>
  bankGet_bankSet_ne _ _ _ _ fun he => by rw [he, h] at hk; exact Bool.false_ne_true hk

theorem RecordRel.config {l : List Nat} {d e : Dev} (h : RecordRel l d e) (hl : ∀ o ∈ l, dataConfig o = false) : ConfigKept d e :=
  fun o ho => h.bank o fun hm => by rw [hl o hm] at ho; exact Bool.false_ne_true ho

/-- The device after accesses to the lanes, and after what their errors lead to. -/
structure AccessRel (d e : Dev) : Prop where
  frame : e = { d with gcr := e.gcr, regs := e.regs, pwr := e.pwr, pur := e.pur, evc := e.evc, que := e.que, pmu := e.pmu,
                       pip := e.pip, twn := e.twn, dsc := e.dsc, ecc := e.ecc, store := e.store, sent := e.sent,
                       free := e.free }
  gcr : e.gcr = { d.gcr with mode := e.gcr.mode, prev := e.gcr.prev, fault := e.gcr.fault }
  pwr : e.pwr = { d.pwr with waking := e.pwr.waking }
  evc : e.evc = { d.evc with owed := e.evc.owed }
  pip : e.pip = { d.pip with sweep := e.pip.sweep, lastGroup := e.pip.lastGroup, lossWait := e.pip.lossWait,
                             lost := e.pip.lost }
  twn : e.twn = { d.twn with st := e.twn.st }
  dsc : e.dsc = { d.dsc with lanes := e.dsc.lanes }
  sent : d.sent <:+ e.sent
  pur : e.pur = { d.pur with tokens := e.pur.tokens, waiting := e.pur.waiting }
  config : ConfigKept d e

theorem AccessRel.refl (d : Dev) : AccessRel d d := ⟨rfl, rfl, rfl, rfl, rfl, rfl, rfl, List.suffix_refl _, rfl, .of_regs rfl⟩

theorem AccessRel.trans {a b c : Dev} (h : AccessRel a b) (k : AccessRel b c) : AccessRel a c where
  frame := by rw [k.frame, h.frame]
  gcr := by rw [k.gcr, h.gcr]
  pwr := by rw [k.pwr, h.pwr]
  evc := by rw [k.evc, h.evc]
  pip := by rw [k.pip, h.pip]
  twn := by rw [k.twn, h.twn]
  dsc := by rw [k.dsc, h.dsc]
  sent := h.sent.trans k.sent
  pur := by rw [k.pur, h.pur]
  config := h.config.trans k.config

theorem AccessRel.foldl {α : Type} {f : Dev → α → Dev} (h : ∀ d x, AccessRel d (f d x)) (l : List α) (d : Dev) :
    AccessRel d (l.foldl f d) := by
  induction l generalizing d with
  | nil => exact .refl d
  | cons x l ih => exact (h d x).trans (ih _)

/-- A change of registers, counts, the checker's tables, lanes, contents, outputs and free values alone. -/
theorem AccessRel.counts {d e : Dev}
    (frame : e = { d with regs := e.regs, que := e.que, pmu := e.pmu, dsc := e.dsc, ecc := e.ecc, store := e.store,
                          sent := e.sent, free := e.free })
    (dsc : e.dsc = { d.dsc with lanes := e.dsc.lanes }) (sent : d.sent <:+ e.sent) (config : ConfigKept d e) :
    AccessRel d e where
  frame := by rw [frame]
  gcr := by rw [frame]
  pwr := by rw [frame]
  evc := by rw [frame]
  pip := by rw [frame]
  twn := by rw [frame]
  dsc := dsc
  sent := sent
  pur := by rw [frame]
  config := config

theorem RecordRel.access {l : List Nat} {d e : Dev} (h : RecordRel l d e) (hl : ∀ o ∈ l, dataConfig o = false) : AccessRel d e :=
  .counts (by rw [h.frame]) (by rw [h.dsc]) (by rw [h.sent]) (h.config hl)

theorem set_access (d : Dev) (f : FieldRef) (v : Nat) (h : dataConfig f.ofs = false := by decide) : AccessRel d (d.set f v) :=
  .counts rfl rfl (List.suffix_refl _) (setRaw_config d _ h)

theorem raise_access (d : Dev) (f : FieldRef) (h : dataConfig f.ofs = false := by decide) : AccessRel d (d.raise f) :=
  set_access d f 1 h

theorem bumpSat_access (d : Dev) (f : FieldRef) (n : Nat) (h : dataConfig f.ofs = false := by decide) :
    AccessRel d (d.bumpSat f n) := set_access d f _ h

theorem setRaw_access (d : Dev) (o : Nat) (w : Word) (h : dataConfig o = false) : AccessRel d (d.setRaw o w) :=
  .counts rfl rfl (List.suffix_refl _) (setRaw_config d w h)

theorem set64_access (d : Dev) (lo v : Nat) (h : dataConfig lo = false := by decide) (hh : dataConfig (lo + 4) = false := by decide) :
    AccessRel d (d.set64 lo v) := (setRaw_access _ _ _ h).trans (setRaw_access _ _ _ hh)

theorem bump64_access (d : Dev) (lo n : Nat) (h : dataConfig lo = false := by decide) (hh : dataConfig (lo + 4) = false := by decide) :
    AccessRel d (d.bump64 lo n) := set64_access _ _ _ h hh

theorem pmu1_access (d : Dev) (c v : Nat) : AccessRel d (d.pmu1 c v) := .counts rfl rfl (List.suffix_refl _) (.of_regs rfl)

theorem report_access (d : Dev) (f : FieldRef) (inst sub a b : Nat) (h : dataConfig f.ofs = false := by decide) :
    AccessRel d (d.report f inst sub a b) :=
  (report_record ..).access fun o ho => by
    rcases List.mem_cons.mp ho with he | ho
    · rw [he, h]
    · exact (by decide : ∀ o ∈ recordRegs 0, dataConfig o = false) o ho

/-! ## Changes of mode and lost lanes -/

theorem toMode_access (d : Dev) (m : Mode) : AccessRel d (d.toMode m) := by
  have hmode : AccessRel d { d with gcr := { d.gcr with mode := m, prev := d.gcr.mode.code } } :=
    ⟨rfl, rfl, rfl, rfl, rfl, rfl, rfl, List.suffix_refl _, rfl, .of_regs rfl⟩
  unfold Dev.toMode
  split
  · exact .refl d
  · exact hmode.trans (raise_access _ _)

theorem remode_access (d : Dev) : AccessRel d d.remode := by
  unfold Dev.remode
  split
  · exact toMode_access d _
  · exact .refl d

theorem enterRecovery_access (d : Dev) : AccessRel d d.enterRecovery := by
  have hfault : ∀ e : Dev, AccessRel e (e.faultN.oweFrame 0) := fun e => ⟨rfl, rfl, rfl, rfl, rfl, rfl, rfl, List.suffix_refl _, rfl, .of_regs rfl⟩
  unfold Dev.enterRecovery
  split
  · exact .refl d
  · exact (toMode_access d _).trans (hfault _)

theorem startLossSweep_access (d : Dev) (g : Nat) : AccessRel d (d.startLossSweep g) := by
  unfold Dev.startLossSweep
  dsimp only
  split
  · exact ⟨rfl, rfl, rfl, rfl, rfl, rfl, rfl, List.suffix_refl _, rfl, .of_regs rfl⟩
  · split
    · exact ⟨rfl, rfl, rfl, rfl, rfl, rfl, rfl, List.suffix_refl _, rfl, .of_regs rfl⟩
    · split
      · exact ⟨rfl, rfl, rfl, rfl, rfl, rfl, rfl, List.suffix_refl _, rfl, .of_regs rfl⟩
      · have hsweep : AccessRel d { d with pip := { d.pip with sweep := some ⟨g, 0, true⟩, lastGroup := g } } :=
          ⟨rfl, rfl, rfl, rfl, rfl, rfl, rfl, List.suffix_refl _, rfl, .of_regs rfl⟩
        exact hsweep.trans (set_access _ _ _ (show dataConfig R.PWR_WG_REQ.REQ.ofs = false by decide))

theorem loseGroup_access (d : Dev) (g : Nat) : AccessRel d (d.loseGroup g) := by
  have hlost : AccessRel d { d with pip := { d.pip with lost := putBit d.pip.lost g true } } :=
    ⟨rfl, rfl, rfl, rfl, rfl, rfl, rfl, List.suffix_refl _, rfl, .of_regs rfl⟩
  unfold Dev.loseGroup
  dsimp only
  split
  · exact .refl d
  · split
    · exact (hlost.trans (startLossSweep_access _ g)).trans (enterRecovery_access _)
    · exact hlost.trans (startLossSweep_access _ g)

theorem groupFails_access (d : Dev) (g : Nat) : AccessRel d (d.groupFails g) := by
  have hwake : AccessRel d (({ d with pwr := { d.pwr with waking := putBit d.pwr.waking g false },
                                      pip := { d.pip with lost := putBit d.pip.lost g false } }).dropToken 3 g) :=
    ⟨rfl, rfl, rfl, rfl, rfl, rfl, rfl, List.suffix_refl _, rfl, .of_regs rfl⟩
  unfold Dev.groupFails
  split
  · exact hwake.trans (loseGroup_access _ g)
  · exact loseGroup_access d g

theorem loseLane_access (d : Dev) (n cause : Nat) : AccessRel d (d.loseLane n cause) := by
  have hset : ∀ l, AccessRel d (d.setLane n l) := fun l => .counts rfl rfl (List.suffix_refl _) (.of_regs rfl)
  have hgroup : ∀ e : Dev, AccessRel e (if 16 ≤ n then e.enterRecovery else e.groupFails (n / 4)) := by
    intro e
    split
    · exact enterRecovery_access e
    · exact groupFails_access e _
  have hpair : ∀ e : Dev, AccessRel e (if e.isMirror then ({ e with twn := { e.twn with st := .detached } }).enterRecovery
      else e.remode) := by
    intro e
    split
    · have hst : AccessRel e { e with twn := { e.twn with st := .detached } } :=
        ⟨rfl, rfl, rfl, rfl, rfl, rfl, rfl, List.suffix_refl _, rfl, .of_regs rfl⟩
      exact hst.trans (enterRecovery_access _)
    · exact remode_access e
  unfold Dev.loseLane
  split
  · exact .refl d
  · exact (((hset _).trans (report_access ..)).trans (hgroup _)).trans (hpair _)

/-! ## Accesses -/

theorem countAct_access (d : Dev) (lane : Nat) (a : DevAddr) : AccessRel d (d.countAct lane a) := by
  unfold Dev.countAct
  dsimp only
  split
  · split
    · exact .counts rfl rfl (List.suffix_refl _) (.of_regs rfl)
    · exact .counts rfl rfl (List.suffix_refl _) (.of_regs rfl)
  · exact .counts rfl rfl (List.suffix_refl _) (.of_regs rfl)

theorem emit_access (d : Dev) (o : Out) : AccessRel d (d.emit o) := .counts rfl rfl ⟨[o], rfl⟩ (.of_regs rfl)

theorem driveRd_access (d : Dev) (lane slot : Nat) : AccessRel d (d.driveRd lane slot) :=
  (countAct_access d lane _).trans (emit_access _ _)

theorem driveWr_access (d : Dev) (lane slot : Nat) (b : Burst) : AccessRel d (d.driveWr lane slot b) :=
  (countAct_access d lane _).trans (emit_access _ _)

theorem storeBurst_access (d : Dev) (lane slot : Nat) (b : Burst) : AccessRel d (d.storeBurst lane slot b) := by
  have hput : AccessRel d (((d.pmu1 (0x240 + 8 * lane + 1)).pmu1 0x002 32).putBurst lane slot b) :=
    .counts rfl rfl (List.suffix_refl _) (.of_regs rfl)
  have hpmu : ∀ e : Dev, AccessRel e (if 16 ≤ lane then e.pmu1 0x02C else e) := by
    intro e
    split
    · exact pmu1_access e _ _
    · exact .refl e
  exact (hput.trans (hpmu _)).trans (driveWr_access _ lane slot b)

theorem flipWrite_access (d : Dev) (lane slot : Nat) (b : Burst) : AccessRel d (d.flipWrite lane slot b).2 := by
  have hdone : AccessRel d { d with ecc := { d.ecc with armed := false } } := .counts rfl rfl (List.suffix_refl _) (.of_regs rfl)
  unfold Dev.flipWrite
  split
  · exact (hdone.trans (set64_access ..)).trans (raise_access ..)
  · exact .refl d

theorem laneWrite_access (d : Dev) (lane slot : Nat) (data : LineData) (psn : Bool) :
    AccessRel d (d.laneWrite lane slot data psn) := by
  by_cases hst : (d.lane lane).st = 5
  · rw [Dev.laneWrite, if_pos hst]
    exact .refl d
  · rw [laneWrite_eq hst]
    exact (flipWrite_access d lane slot _).trans (storeBurst_access _ lane slot _)

/-! ## Errors of a read -/

/-- A change of the checker's tables alone. -/
theorem ecc_access (d : Dev) (x : Ecc) : AccessRel d { d with ecc := x } := .counts rfl rfl (List.suffix_refl _) (.of_regs rfl)

theorem spare_access (d : Dev) (lane rank dev : Nat) : AccessRel d (d.spare lane rank dev) := by
  unfold Dev.spare
  dsimp only
  have hofs : dataConfig (0x21200 + lane * 0x4) = false := Bool.eq_false_iff.mpr fun h => by
    have := dataConfig_below h
    omega
  have hset : AccessRel d (if rank = 0 then (d.set (R.ECC_ERASEn.DEV0 lane) dev).set (R.ECC_ERASEn.EV0 lane) 1
      else (d.set (R.ECC_ERASEn.DEV1 lane) dev).set (R.ECC_ERASEn.EV1 lane) 1) := by
    split
    · exact (set_access _ _ _ hofs).trans (set_access _ _ _ hofs)
    · exact (set_access _ _ _ hofs).trans (set_access _ _ _ hofs)
  exact ((hset.trans (report_access ..)).trans (ecc_access ..)).trans (remode_access _)

theorem markHard_access (d : Dev) (lane rank dev : Nat) : AccessRel d (d.markHard lane rank dev) := by
  unfold Dev.markHard
  dsimp only
  have hmark := fun x => ((bumpSat_access d R.ECC_HARD_CNT.HARD 1).trans (raise_access _ R.ECC_EVT.HARD)).trans (ecc_access _ x)
  split
  · exact (hmark _).trans (spare_access ..)
  · exact hmark _

theorem newLoc_access (d : Dev) (l : Loc) : AccessRel d (d.newLoc l) := by
  unfold Dev.newLoc
  split
  · exact ecc_access d _
  · split
    · exact ecc_access d _
    · exact raise_access d _

theorem correction_access (lane rank slot : Nat) (d : Dev) (dev : Nat) : AccessRel d (Dev.correction lane rank slot d dev) := by
  unfold Dev.correction
  dsimp only
  split
  · exact .refl d
  · split
    · split
      · exact .refl d
      · split
        · exact (ecc_access d _).trans (markHard_access ..)
        · exact ecc_access d _
    · exact newLoc_access d _

theorem countUe_access (d : Dev) (lane rank : Nat) : AccessRel d (d.countUe lane rank) := by
  unfold Dev.countUe
  dsimp only
  have hcount := fun x => ((bumpSat_access d R.ECC_UE_CNT.UE 1).trans (raise_access _ R.ECC_EVT.UE)).trans (ecc_access _ x)
  split
  · exact ((hcount _).trans (raise_access ..)).trans (loseLane_access ..)
  · exact hcount _

theorem corrected_access (d : Dev) (lane slot : Nat) (r : Decoded) (psn : Bool) : AccessRel d (d.corrected lane slot r psn) := by
  unfold Dev.corrected
  dsimp only
  refine AccessRel.trans ?_ (AccessRel.foldl (correction_access _ _ _) _ _)
  refine AccessRel.trans ?_ (laneWrite_access _ lane slot _ _)
  refine AccessRel.trans ?_ (pmu1_access _ _ _)
  refine AccessRel.trans ?_ (pmu1_access _ _ _)
  exact (bump64_access d _ _).trans (raise_access _ _)

theorem poisonRead_access (d : Dev) : AccessRel d d.poisonRead := (bumpSat_access ..).trans (raise_access ..)

theorem laneRead_access (d : Dev) (lane slot : Nat) (noise : Burst) : AccessRel d (d.laneRead lane slot noise).2 := by
  have hcount : AccessRel d ((d.pmu1 (0x240 + 8 * lane)).pmu1 0x002 32) := (pmu1_access ..).trans (pmu1_access ..)
  have hread : AccessRel d (if 16 ≤ lane then ((d.pmu1 (0x240 + 8 * lane)).pmu1 0x002 32).pmu1 0x02B
      else (d.pmu1 (0x240 + 8 * lane)).pmu1 0x002 32) := by
    split
    · exact hcount.trans (pmu1_access _ _ _)
    · exact hcount
  rw [Dev.laneRead]
  generalize decodeLine (d.burst lane slot ^^^ noise) (d.erased lane (d.rankOf lane slot)) = r
  generalize (if 16 ≤ lane then ((d.pmu1 (0x240 + 8 * lane)).pmu1 0x002 32).pmu1 0x02B
      else (d.pmu1 (0x240 + 8 * lane)).pmu1 0x002 32) = x at hread ⊢
  cases r.out with
  | clean => exact hread
  | corrected => exact hread.trans (corrected_access ..)
  | poison =>
    dsimp only
    split
    · exact hread.trans (countUe_access ..)
    · exact hread.trans (poisonRead_access _)
  | poisonCorrected =>
    dsimp only
    split
    · exact (hread.trans (AccessRel.foldl (correction_access _ _ _) _ _)).trans (countUe_access ..)
    · exact (hread.trans (corrected_access ..)).trans (poisonRead_access _)
  | uncorrectable =>
    dsimp only
    split
    · exact (hread.trans (laneWrite_access ..)).trans (countUe_access ..)
    · exact hread.trans (countUe_access ..)

end Sys2Proof.Machine
end

section
/-! SUPPORT. What sending flits and messages changes: the sender's side of ports, credits owed with messages, traces and outputs
(R364 to R377, R542). -/

namespace Sys2Proof.Machine

set_option Elab.async false

/-- A port after flits have left it and messages have been given to it. -/
def PortSent (p q : Port) : Prop :=
  q = { p with txSeq := q.txSeq, told := q.told, buf := q.buf, cReq := q.cReq, cSnp := q.cSnp, cRsp := q.cRsp, cDat := q.cDat,
               cWb := q.cWb, pReq := q.pReq, pWb := q.pWb, outReq := q.outReq, outWb := q.outWb, txq := q.txq,
               late := q.late }

theorem PortSent.refl (p : Port) : PortSent p p := rfl

theorem PortSent.trans {p q r : Port} (h : PortSent p q) (k : PortSent q r) : PortSent p r := by
  unfold PortSent at h k ⊢
  rw [k, h]

theorem PortSent.st {p q : Port} (h : PortSent p q) : q.st = p.st := by rw [h]

/-- The queues but one are as they were. -/
def QueuesBut (n : Nat) (d e : Dev) : Prop := e.que.q.length = d.que.q.length ∧ ∀ k, k ≠ n → e.queue k = d.queue k

theorem QueuesBut.refl (n : Nat) (d : Dev) : QueuesBut n d d := ⟨rfl, fun _ _ => rfl⟩

theorem QueuesBut.trans {n : Nat} {a b c : Dev} (h : QueuesBut n a b) (k : QueuesBut n b c) : QueuesBut n a c :=
  ⟨k.1.trans h.1, fun i hi => (k.2 i hi).trans (h.2 i hi)⟩

theorem QueuesBut.of_que {n : Nat} {d e : Dev} (h : e.que = d.que) : QueuesBut n d e :=
  ⟨by rw [h], fun k _ => by rw [Dev.queue, h, ← Dev.queue]⟩

/-- A record goes to its own queue. -/
theorem push_queuesBut (d : Dev) (n : Nat) (r : List Word) : QueuesBut n d (d.push n r) := by
  unfold Dev.push
  dsimp only
  split
  · exact .refl n d
  · split
    · exact .of_que rfl
    · refine QueuesBut.trans (b := d.setQueue n { d.queue n with recs := (d.queue n).recs ++ [r] }) ⟨?_, fun k hk => ?_⟩
        (.of_que (Dev.raiseIf_que ..))
      · exact List.length_set ..
      · rw [Dev.queue, Dev.setQueue, List.getElem?_set_ne (Ne.symm hk), ← Dev.queue]

/-- The device after sending. -/
structure SendRel (d e : Dev) : Prop where
  frame : e = { d with regs := e.regs, que := e.que, pmu := e.pmu, cnf := e.cnf, hie := e.hie, twn := e.twn, ports := e.ports,
                       tw := e.tw, sent := e.sent }
  cnf : e.cnf = { d.cnf with owedWb := e.cnf.owedWb }
  hie : e.hie = { d.hie with depCredits := e.hie.depCredits }
  twn : e.twn = { d.twn with held := e.twn.held }
  bank : ∀ o, o ∉ recordRegs 2 → bankGet e.regs o = bankGet d.regs o
  ports : e.ports.length = d.ports.length
  port : ∀ n, PortSent (d.port n) (e.port n)
  sent : d.sent <:+ e.sent
  queues : QueuesBut 2 d e

theorem SendRel.refl (d : Dev) : SendRel d d :=
  ⟨rfl, rfl, rfl, rfl, fun _ _ => rfl, rfl, fun _ => rfl, List.suffix_refl _, .refl 2 d⟩

theorem SendRel.trans {a b c : Dev} (h : SendRel a b) (k : SendRel b c) : SendRel a c where
  frame := by rw [k.frame, h.frame]
  cnf := by rw [k.cnf, h.cnf]
  hie := by rw [k.hie, h.hie]
  twn := by rw [k.twn, h.twn]
  bank o ho := (k.bank o ho).trans (h.bank o ho)
  ports := k.ports.trans h.ports
  port n := (h.port n).trans (k.port n)
  sent := h.sent.trans k.sent
  queues := h.queues.trans k.queues

theorem SendRel.foldl {α : Type} {f : Dev → α → Dev} (h : ∀ d x, SendRel d (f d x)) (l : List α) (d : Dev) :
    SendRel d (l.foldl f d) := by
  induction l generalizing d with
  | nil => exact .refl d
  | cons x l ih => exact (h d x).trans (ih _)

/-! ## Ports and outputs -/

theorem port_of_ports {d e : Dev} (h : e.ports = d.ports) (ht : e.tw = d.tw) (n : Nat) : e.port n = d.port n := by
  rw [Dev.port, Dev.port, h, ht]

/-- A change of what leaves the ports as they are. -/
theorem SendRel.still {d e : Dev}
    (frame : e = { d with regs := e.regs, que := e.que, pmu := e.pmu, cnf := e.cnf, hie := e.hie, twn := e.twn, sent := e.sent })
    (cnf : e.cnf = { d.cnf with owedWb := e.cnf.owedWb }) (hie : e.hie = { d.hie with depCredits := e.hie.depCredits })
    (twn : e.twn = { d.twn with held := e.twn.held })
    (bank : ∀ o, o ∉ recordRegs 2 → bankGet e.regs o = bankGet d.regs o) (sent : d.sent <:+ e.sent)
    (queues : QueuesBut 2 d e := by exact .of_que rfl) : SendRel d e where
  frame := by rw [frame]
  cnf := cnf
  hie := hie
  twn := twn
  bank := bank
  ports := by rw [frame]
  port n := by
    have hp : e.port n = d.port n := port_of_ports (by rw [frame]) (by rw [frame]) n
    rw [hp]
    exact .refl _
  sent := sent
  queues := queues

theorem port_setPort_ne (d : Dev) {n k : Nat} (h : k ≠ n) (p : Port) : (d.setPort n p).port k = d.port k := by
  unfold Dev.setPort Dev.port
  by_cases hn : n = twPort
  · rw [if_pos hn, if_neg (fun hk => h (hk.trans hn.symm)), if_neg (fun hk => h (hk.trans hn.symm))]
  · rw [if_neg hn]
    dsimp only
    rw [List.getElem?_set_ne (Ne.symm h)]

theorem port_setPort_same {d : Dev} {n : Nat} (h : n = twPort ∨ n < d.ports.length) (p : Port) : (d.setPort n p).port n = p := by
  unfold Dev.setPort Dev.port
  by_cases hn : n = twPort
  · simp only [hn, if_true]
  · have hlen : n < d.ports.length := h.resolve_left hn
    simp only [if_neg hn, List.getElem?_set_self hlen, Option.getD_some]

/-- A port is set, unless its number names none. -/
theorem port_setPort_cases (d : Dev) (n : Nat) (p : Port) : (d.setPort n p).port n = p ∨ (d.setPort n p).port n = d.port n := by
  by_cases h : n = twPort ∨ n < d.ports.length
  · exact .inl (port_setPort_same h p)
  · rw [not_or] at h
    right
    unfold Dev.setPort Dev.port
    simp only [if_neg h.1, List.set_eq_of_length_le (Nat.not_lt.mp h.2)]

theorem setPort_frame (d : Dev) (n : Nat) (p : Port) :
    d.setPort n p = { d with ports := (d.setPort n p).ports, tw := (d.setPort n p).tw } := by
  unfold Dev.setPort
  split <;> rfl

theorem setPort_ports_length (d : Dev) (n : Nat) (p : Port) : (d.setPort n p).ports.length = d.ports.length := by
  unfold Dev.setPort
  split
  · rfl
  · exact List.length_set ..

theorem setPort_send {d : Dev} {n : Nat} {p : Port} (h : PortSent (d.port n) p) : SendRel d (d.setPort n p) where
  frame := by rw [setPort_frame]
  cnf := by rw [setPort_frame]
  hie := by rw [setPort_frame]
  twn := by rw [setPort_frame]
  bank _ _ := by rw [setPort_frame]
  ports := setPort_ports_length d n p
  port k := by
    by_cases hk : k = n
    · subst hk
      rcases port_setPort_cases d k p with hp | hp
      · rw [hp]; exact h
      · rw [hp]; exact .refl _
    · rw [port_setPort_ne d hk]; exact .refl _
  sent := by rw [setPort_frame]
  queues := .of_que (by rw [setPort_frame])

theorem emit_send (d : Dev) (o : Out) : SendRel d (d.emit o) := .still rfl rfl rfl rfl (fun _ _ => rfl) ⟨[o], rfl⟩

theorem pmu1_send (d : Dev) (c v : Nat) : SendRel d (d.pmu1 c v) := .still rfl rfl rfl rfl (fun _ _ => rfl) (List.suffix_refl _)

/-! ## Flits -/

theorem emitFlit_send (d : Dev) (n fk seq : Nat) (slots : BitVec 1920) (mark : Nat) : SendRel d (d.emitFlit n fk seq slots mark) :=
  (setPort_send (p := (d.port n).tell) rfl).trans (emit_send _ _)

theorem controlOut_send (d : Dev) (n fk : Nat) (slot0 : BitVec 128) : SendRel d (d.controlOut n fk slot0) := emitFlit_send ..

theorem idleFlit_send (d : Dev) (n : Nat) : SendRel d (d.idleFlit n) := controlOut_send ..

theorem dataOut_send (d : Dev) (n : Nat) (slots : BitVec 1920) (mark : Nat) : SendRel d (d.dataOut n slots mark) := by
  have hkeep : SendRel d (d.setPort n { d.port n with txSeq := ((d.port n).txSeq + 1) % 4096, buf := (d.port n).buf ++
      [⟨(d.port n).txSeq, slots, mark⟩] }) := setPort_send rfl
  exact hkeep.trans (emitFlit_send ..)

theorem idleRest_send (n k : Nat) (d : Dev) : SendRel d (Dev.idleRest n k d) := by
  induction k generalizing d with
  | zero => exact .refl d
  | succ k ih =>
    unfold Dev.idleRest
    split
    · exact .refl d
    · exact (idleFlit_send d n).trans (ih _)

theorem idleOut_send (d : Dev) (n : Nat) : SendRel d (d.idleOut n) := by
  unfold Dev.idleOut
  split
  · exact (idleFlit_send d n).trans (idleRest_send ..)
  · exact .refl d

theorem resendFlits_send (d : Dev) (n : Nat) : SendRel d (d.resendFlits n) := by
  unfold Dev.resendFlits
  dsimp only
  split
  · exact .refl d
  · exact (emit_send d _).trans 
      (SendRel.foldl (f := fun d (b : Sent) => d.emitFlit n 0 b.seq b.slots b.mark) (fun _ _ => emitFlit_send ..) _ _)

theorem sendLate_send (n : Nat) (d : Dev) (x : Late) : SendRel d (Dev.sendLate n d x) := by
  cases x with
  | nak =>
    unfold Dev.sendLate
    dsimp only
    split
    · exact (emit_send d _).trans (controlOut_send ..)
    · exact .refl d
  | lpm c => exact (emit_send d _).trans (controlOut_send ..)
  | replay => exact resendFlits_send d n

theorem flushLate_send (d : Dev) (n : Nat) : SendRel d (d.flushLate n) := by
  have hclear : SendRel d (d.setPort n { d.port n with late := [] }) := setPort_send rfl
  have hrest : ∀ e : Dev, SendRel e (if (e.port n).st == 3 then Dev.idleRest n 32 e else e) := by
    intro e
    split
    · exact idleRest_send ..
    · exact .refl e
  unfold Dev.flushLate
  dsimp only
  by_cases hq : d.quietOn n = true
  · rw [if_pos hq]
    exact .refl d
  · rw [if_neg hq]
    refine SendRel.trans ?_ (hrest _)
    split
    · exact .refl d
    · exact hclear.trans (SendRel.foldl (sendLate_send n) _ _)

theorem controlSend_send (d : Dev) (n : Nat) (x : Late) : SendRel d (d.controlSend n x) := by
  unfold Dev.controlSend
  split
  · exact setPort_send rfl
  · exact sendLate_send n d x

/-! ## Messages -/

theorem returnWb_send (d : Dev) (n : Nat) : SendRel d (d.returnWb n) := by
  have hcredit : SendRel d (d.setPort n { d.port n with pWb := (d.port n).pWb + 1, outWb := (d.port n).outWb + 1 }) :=
    setPort_send rfl
  exact hcredit.trans (idleOut_send ..)

theorem returnReq_send (d : Dev) (n : Nat) : SendRel d (d.returnReq n) := by
  have hcredit : SendRel d (d.setPort n { d.port n with pReq := (d.port n).pReq + 1, outReq := (d.port n).outReq + 1 }) :=
    setPort_send rfl
  unfold Dev.returnReq
  dsimp only
  split
  · exact hcredit.trans (idleOut_send ..)
  · exact .refl d

theorem returnOwedWb_send (d : Dev) (n oport tag : Nat) : SendRel d (d.returnOwedWb n oport tag) := by
  have howed : SendRel d { d with cnf := { d.cnf with owedWb := d.cnf.owedWb.erase (n, oport, tag) } } :=
    .still rfl rfl rfl rfl (fun _ _ => rfl) (List.suffix_refl _)
  unfold Dev.returnOwedWb
  split
  · exact howed.trans (returnWb_send ..)
  · exact .refl d

theorem returnOwedReq_send (d : Dev) (oport tag : Nat) : SendRel d (d.returnOwedReq oport tag) := by
  have howed : SendRel d { d with hie := { d.hie with depCredits := d.hie.depCredits.erase (oport, tag) } } :=
    .still rfl rfl rfl rfl (fun _ _ => rfl) (List.suffix_refl _)
  unfold Dev.returnOwedReq
  split
  · exact howed.trans (returnReq_send ..)
  · exact .refl d

theorem withMessage_send (d : Dev) (n : Nat) (m : Msg) : SendRel d (d.withMessage n m) := by
  unfold Dev.withMessage
  split
  · exact returnOwedWb_send ..
  · exact returnOwedWb_send ..
  · exact returnOwedReq_send ..
  · exact .refl d

theorem trace_send (d : Dev) (port : Nat) (tx : Bool) (opc id : Nat) (line : Option Nat) (st : Nat) (psn : Bool) :
    SendRel d (d.trace port tx opc id line st psn) := by
  unfold Dev.trace
  split
  · have hpush := push_record d 2 (trqWords d.bel.now.toNat (line.getD 0) port tx opc id st psn)
    exact .still (by rw [hpush.frame]) (by rw [hpush.frame]) (by rw [hpush.frame]) (by rw [hpush.frame]) hpush.bank
      (by rw [hpush.sent]) (push_queuesBut d 2 _)
  · exact .refl d

theorem PortSent.take (p : Port) (c : Option Nat) (k : Nat) : PortSent p { p.take c with cWb := k } := by
  unfold Port.take
  split <;> rfl

theorem sendOff_send (d : Dev) (n : Nat) (m : Msg) : SendRel d (d.sendOff n m) := by
  have hsnp : ∀ e : Dev, SendRel e (if msgClass m = some 1 then (e.pmu1 (0x100 + 8 * n + 3)).pmu1 0x019 else e) := by
    intro e
    split
    · exact (pmu1_send ..).trans (pmu1_send ..)
    · exact .refl e
  unfold Dev.sendOff
  dsimp only
  refine SendRel.trans ?_ (trace_send ..)
  refine SendRel.trans ?_ (hsnp _)
  refine SendRel.trans ?_ (pmu1_send ..)
  refine SendRel.trans ?_ (emit_send ..)
  exact (setPort_send (PortSent.take ..)).trans (withMessage_send ..)

theorem sendNow_send (d : Dev) (n : Nat) (m : Msg) : SendRel d (d.sendNow n m) :=
  ((sendOff_send d n m).trans (pmu1_send ..)).trans (dataOut_send ..)

theorem pumpList_send (n : Nat) (l : List Msg) (blocked : List (Option Nat)) (d : Dev) (keep : List Msg) :
    SendRel d (Dev.pumpList n l blocked d keep) := by
  induction l generalizing blocked d keep with
  | nil => exact setPort_send rfl
  | cons m l ih =>
    unfold Dev.pumpList
    split
    · exact (sendNow_send d n m).trans (ih ..)
    · exact ih ..

theorem idleWhenFull_send (d : Dev) (n : Nat) : SendRel d (d.idleWhenFull n) := by
  unfold Dev.idleWhenFull
  split
  · exact idleOut_send ..
  · exact .refl d

theorem pump_send (d : Dev) (n : Nat) : SendRel d (d.pump n) :=
  ((flushLate_send d n).trans (pumpList_send ..)).trans (idleWhenFull_send ..)

theorem txPush_send (d : Dev) (n : Nat) (m : Msg) : SendRel d (d.txPush n m) :=
  (setPort_send (d := d) (n := n) (p := { d.port n with txq := (d.port n).txq ++ [m] }) rfl).trans (pump_send ..)

theorem tell_send (d : Dev) (n : Nat) (m : Msg) : SendRel d (d.tell n m) := by
  unfold Dev.tell
  split
  · exact .refl d
  · split
    · exact .still rfl rfl rfl rfl (fun _ _ => rfl) (List.suffix_refl _)
    · exact txPush_send ..

/-! ## What sending leaves -/

section
variable {d e : Dev} (h : SendRel d e)
include h

theorem SendRel.get {f : FieldRef} (hf : f.ofs ∉ recordRegs 2) : e.get f = d.get f := by
  have hr : e.gcr = d.gcr := by rw [h.frame]
  simp only [Dev.get, Dev.raw, h.bank f.ofs hf, hr]

theorem SendRel.flag {f : FieldRef} (hf : f.ofs ∉ recordRegs 2) : e.flag f = d.flag f := by simp only [Dev.flag, h.get hf]

theorem SendRel.txns : e.cnf.txns = d.cnf.txns := by rw [h.cnf]
theorem SendRel.gcr : e.gcr = d.gcr := by rw [h.frame]
theorem SendRel.dep : e.dep = d.dep := by rw [h.frame]
theorem SendRel.apd : e.apd = d.apd := by rw [h.frame]
theorem SendRel.pip : e.pip = d.pip := by rw [h.frame]
theorem SendRel.sdr : e.sdr = d.sdr := by rw [h.frame]
theorem SendRel.pwr : e.pwr = d.pwr := by rw [h.frame]
theorem SendRel.wbf : e.wbf = d.wbf := by rw [h.frame]
theorem SendRel.hdc : e.hdc = d.hdc := by rw [h.frame]
theorem SendRel.dir : e.dir = d.dir := by rw [h.frame]
theorem SendRel.dsc : e.dsc = d.dsc := by rw [h.frame]
theorem SendRel.store : e.store = d.store := by rw [h.frame]
theorem SendRel.scb : e.scb = d.scb := by rw [h.frame]
theorem SendRel.ecc : e.ecc = d.ecc := by rw [h.frame]
theorem SendRel.portSt (n : Nat) : (e.port n).st = (d.port n).st := (h.port n).st

end

end Sys2Proof.Machine
end

section
/-! SUPPORT. What the write buffer and the copies of a way change: entries, their transactions' state, uplink phases, what is
sent, and what the reads of lanes lead to (R63 to R71, R169, R170). -/

namespace Sys2Proof.Machine

set_option Elab.async false

/-- The device after lines have been read, copied to the write buffer and sent on. -/
structure WorkRel (d e : Dev) : Prop where
  frame : e = { d with gcr := e.gcr, regs := e.regs, pwr := e.pwr, pur := e.pur, evc := e.evc, que := e.que, pmu := e.pmu,
                       hdc := e.hdc, pip := e.pip, wbf := e.wbf, cnf := e.cnf, hie := e.hie, twn := e.twn, dsc := e.dsc,
                       ecc := e.ecc, store := e.store, ports := e.ports, tw := e.tw, sent := e.sent, free := e.free }
  gcr : e.gcr = { d.gcr with mode := e.gcr.mode, prev := e.gcr.prev, fault := e.gcr.fault }
  pwr : e.pwr = { d.pwr with waking := e.pwr.waking }
  pip : e.pip = { d.pip with sweep := e.pip.sweep, lastGroup := e.pip.lastGroup, lossWait := e.pip.lossWait,
                             lost := e.pip.lost }
  cnf : e.cnf = { d.cnf with txns := e.cnf.txns, owedWb := e.cnf.owedWb }
  hie : e.hie = { d.hie with depCredits := e.hie.depCredits, phases := e.hie.phases }
  twn : e.twn = { d.twn with st := e.twn.st, held := e.twn.held, items := e.twn.items, lines := e.twn.lines }
  dsc : e.dsc = { d.dsc with lanes := e.dsc.lanes }
  ids : e.cnf.txns.map (·.id) = d.cnf.txns.map (·.id)
  port : ∀ n, PortSent (d.port n) (e.port n)
  sent : d.sent <:+ e.sent
  pur : e.pur = { d.pur with tokens := e.pur.tokens, waiting := e.pur.waiting }
  config : ConfigKept d e

theorem WorkRel.refl (d : Dev) : WorkRel d d :=
  ⟨rfl, rfl, rfl, rfl, rfl, rfl, rfl, rfl, rfl, fun _ => rfl, List.suffix_refl _, rfl, .of_regs rfl⟩

theorem WorkRel.trans {a b c : Dev} (h : WorkRel a b) (k : WorkRel b c) : WorkRel a c where
  frame := by rw [k.frame, h.frame]
  gcr := by rw [k.gcr, h.gcr]
  pwr := by rw [k.pwr, h.pwr]
  pip := by rw [k.pip, h.pip]
  cnf := by rw [k.cnf, h.cnf]
  hie := by rw [k.hie, h.hie]
  twn := by rw [k.twn, h.twn]
  dsc := by rw [k.dsc, h.dsc]
  ids := k.ids.trans h.ids
  port n := (h.port n).trans (k.port n)
  sent := h.sent.trans k.sent
  pur := by rw [k.pur, h.pur]
  config := h.config.trans k.config

theorem WorkRel.foldl {α : Type} {f : Dev → α → Dev} (h : ∀ d x, WorkRel d (f d x)) (l : List α) (d : Dev) :
    WorkRel d (l.foldl f d) := by
  induction l generalizing d with
  | nil => exact .refl d
  | cons x l ih => exact (h d x).trans (ih _)

theorem AccessRel.work {d e : Dev} (h : AccessRel d e) : WorkRel d e where
  frame := by rw [h.frame]
  gcr := h.gcr
  pwr := h.pwr
  pip := h.pip
  cnf := by rw [h.frame]
  hie := by rw [h.frame]
  twn := by rw [h.twn]
  dsc := h.dsc
  ids := by rw [h.frame]
  port n := by
    have hp : e.port n = d.port n := port_of_ports (by rw [h.frame]) (by rw [h.frame]) n
    rw [hp]
    exact .refl _
  sent := h.sent
  pur := h.pur
  config := h.config

theorem SendRel.work {d e : Dev} (h : SendRel d e) : WorkRel d e where
  frame := by rw [h.frame]
  gcr := by rw [h.frame]
  pwr := by rw [h.frame]
  pip := by rw [h.frame]
  cnf := by rw [h.cnf]
  hie := by rw [h.hie]
  twn := by rw [h.twn]
  dsc := by rw [h.frame]
  ids := by rw [h.txns]
  port := h.port
  sent := h.sent
  pur := by rw [h.frame]
  config o ho := h.bank o fun hm => by
    rw [(by decide : ∀ o ∈ recordRegs 2, dataConfig o = false) o hm] at ho
    exact Bool.false_ne_true ho

/-! ## Mirror items, header cache and write buffer -/

/-- A mirror item in the flit being filled, and the lines it tells of. -/
theorem mirror_work (d : Dev) (i : Item) : WorkRel d (d.mirror i) := by
  unfold Dev.mirror
  split
  · exact ⟨rfl, rfl, rfl, rfl, rfl, rfl, rfl, rfl, rfl, fun _ => rfl, List.suffix_refl _, rfl, .of_regs rfl⟩
  · exact .refl d

theorem setHdc_work (d : Dev) (l : List HdcEnt) : WorkRel d (d.setHdc l) :=
  ⟨rfl, rfl, rfl, rfl, rfl, rfl, rfl, rfl, rfl, fun _ => rfl, List.suffix_refl _, rfl, .of_regs rfl⟩

theorem wbf_work (d : Dev) (w : Wbf) : WorkRel d { d with wbf := w } :=
  ⟨rfl, rfl, rfl, rfl, rfl, rfl, rfl, rfl, rfl, fun _ => rfl, List.suffix_refl _, rfl, .of_regs rfl⟩

theorem setWb_work (d : Dev) (l : List WbEnt) : WorkRel d (d.setWb l) := wbf_work d _

theorem map_id_mapIf (l : List Txn) (i : Nat) (t : Txn) (h : t.id = i) :
    (mapIf (fun x => x.id == i) (fun _ => t) l).map (·.id) = l.map (·.id) := by
  unfold mapIf
  rw [List.map_map]
  refine List.map_congr_left fun x _ => ?_
  by_cases hx : x.id = i
  · simp [hx, h]
  · simp [hx]

/-- A transaction changes its state. -/
theorem putTxn_work (d : Dev) (t : Txn) : WorkRel d (d.putTxn t) := by
  have hset : WorkRel d (d.setTxns (mapIf (fun x => x.id == t.id) (fun _ => t) d.cnf.txns)) :=
    ⟨rfl, rfl, rfl, rfl, rfl, rfl, rfl, rfl, map_id_mapIf _ _ t rfl, fun _ => rfl, List.suffix_refl _, rfl, .of_regs rfl⟩
  exact hset.trans (mirror_work _ _)

theorem putHeader_work (d : Dev) (set : Nat) (h : Header) : WorkRel d (d.putHeader set h) := by
  unfold Dev.putHeader
  split
  · exact .refl d
  · exact (setHdc_work d _).trans (mirror_work _ _)

theorem cleanHeader_work (d : Dev) (e : HdcEnt) : WorkRel d (d.cleanHeader e) :=
  (laneWrite_access d _ _ _ _).work.trans (setHdc_work _ _)

theorem raiseIf_work (d : Dev) (c : Bool) (f : FieldRef) (h : dataConfig f.ofs = false := by decide) : WorkRel d (d.raiseIf c f) := by
  cases c with
  | false => exact .refl d
  | true => exact (raise_access d f h).work

theorem wbCross_work (d : Dev) (before : Nat) : WorkRel d (d.wbCross before) := (raiseIf_work ..).trans (raiseIf_work ..)

theorem wbAdd_work (d : Dev) (line : Nat) (mask : Mask) (p : Payload) (kind : WbKind) (rsv txn : Option Nat) (bound go : Bool) :
    WorkRel d (d.wbAdd line mask p kind rsv txn bound go) :=
  ((wbf_work d _).trans (wbCross_work _ _)).trans (mirror_work _ _)

/-! ## Issue (R71, R170) -/

theorem uplinkPhase_work (d : Dev) (port tag : Nat) (tph again : Bool) : WorkRel d (d.uplinkPhase port tag tph again).2 := by
  have hphase : ∀ l, WorkRel d { d with hie := { d.hie with phases := l } } := fun l =>
    ⟨rfl, rfl, rfl, rfl, rfl, rfl, rfl, rfl, rfl, fun _ => rfl, List.suffix_refl _, rfl, .of_regs rfl⟩
  exact (hphase _).trans (mirror_work _ _)

theorem pmu1_work (d : Dev) (c v : Nat) : WorkRel d (d.pmu1 c v) := (pmu1_access d c v).work

theorem issueOwn_work (d : Dev) (e : WbEnt) : WorkRel d (d.issueOwn e).2 :=
  ((uplinkPhase_work d 30 _ true false).trans (pmu1_work _ _ _)).trans (tell_send _ _ _).work

theorem issueAgent_work (d : Dev) (e : WbEnt) (t : Txn) : WorkRel d (d.issueAgent e t) :=
  (((uplinkPhase_work d _ _ t.tph false).trans (putTxn_work _ _)).trans (pmu1_work _ _ _)).trans (tell_send _ _ _).work

theorem memWrite_work (d : Dev) (line : Nat) (mask : Mask) (p : Payload) : WorkRel d (d.memWrite line mask p) := by
  unfold Dev.memWrite
  split
  · exact .refl d
  · dsimp only
    refine WorkRel.trans ?_ (mirror_work _ _)
    have hhalf : ∀ (e : Dev) (c : Prop) [Decidable c] (o : Out), WorkRel e (if c then e else e.emit o) := by
      intro e c _ o
      split
      · exact .refl e
      · exact (emit_send e o).work
    have hpart : ∀ (e : Dev) (c : Bool) (k : Nat), WorkRel e (if c then e.pmu1 k else e) := by
      intro e c k
      split
      · exact pmu1_work ..
      · exact .refl e
    exact (((hhalf d _ _).trans (hhalf _ _ _)).trans (pmu1_work _ _ _)).trans (hpart _ _ _)

theorem issueWrite_work (d : Dev) (e : WbEnt) : WorkRel d (d.issueWrite e).2 := by
  unfold Dev.issueWrite
  split
  · split
    · exact issueAgent_work ..
    · exact issueOwn_work ..
  · split
    · exact .refl d
    · exact memWrite_work ..

theorem issueList_work (l : List WbEnt) (busy : List Nat) (done : List WbEnt) (d : Dev) :
    WorkRel d (Dev.issueList l busy done d) := by
  induction l generalizing busy done d with
  | nil => exact setWb_work d _
  | cons e l ih =>
    unfold Dev.issueList
    split
    · exact ih ..
    · split
      · exact ih ..
      · exact ((setWb_work d _).trans (issueWrite_work ..)).trans (ih ..)

theorem wbKick_work (d : Dev) : WorkRel d d.wbKick := (setWb_work d _).trans (issueList_work ..)

theorem wbFullWrite_work (d : Dev) (line : Nat) (p : Payload) (kind : WbKind) (txn : Option Nat) :
    WorkRel d (d.wbFullWrite line p kind txn) := (wbAdd_work ..).trans (wbKick_work _)

/-! ## Copies of a way (R64, R71) -/

theorem freePoison_work (d : Dev) : WorkRel d d.freePoison.2 :=
  ⟨rfl, rfl, rfl, rfl, rfl, rfl, rfl, rfl, rfl, fun _ => rfl, List.suffix_refl _, rfl, .of_regs rfl⟩

/-- The device after a read of a line is the device of the read, whatever payload it delivers. -/
theorem payload_read_snd (r : Decoded × Dev) : (r.1.payload, r.2).2 = r.2 := rfl

/-- A line of a lane that is not lost is read from it. -/
theorem readWay_of_lane (d : Dev) (set w line : Nat) (h : (d.lane (d.lineLoc set w (line % 8)).1).st ≠ 5) :
    (d.readWay set w line).2 = ((d.driveRd (d.lineLoc set w (line % 8)).1 (d.lineLoc set w (line % 8)).2).laneRead
      (d.lineLoc set w (line % 8)).1 (d.lineLoc set w (line % 8)).2 0).2 := by
  rw [Dev.readWay]
  exact (congrArg Prod.snd (if_neg h)).trans (payload_read_snd _)

/-- A line of a lost lane is the mirror side's copy, or poisoned. -/
theorem readWay_of_lost (d : Dev) (set w line : Nat) (h : (d.lane (d.lineLoc set w (line % 8)).1).st = 5) :
    d.readWay set w line = match (if d.twn.st = .mirrored ∧ !d.twn.mirror then d.heldLine line else none) with
      | some p => (p, d)
      | none => d.freePoison := by
  rw [Dev.readWay]
  exact if_pos h

theorem readWay_work (d : Dev) (set w line : Nat) : WorkRel d (d.readWay set w line).2 := by
  by_cases h : (d.lane (d.lineLoc set w (line % 8)).1).st = 5
  · rw [readWay_of_lost d set w line h]
    split
    · exact .refl d
    · exact freePoison_work d
  · rw [readWay_of_lane d set w line h]
    exact ((driveRd_access ..).trans (laneRead_access ..)).work

theorem copyOut_work (set w tag : Nat) (kind : WbKind) (d : Dev) (n : Nat) : WorkRel d (Dev.copyOut set w tag kind d n) :=
  (readWay_work ..).trans (wbFullWrite_work ..)

theorem copyDirty_work (d : Dev) (set w : Nat) (x : Way) (kind : WbKind) : WorkRel d (d.copyDirty set w x kind) :=
  WorkRel.foldl (copyOut_work set w x.tag.toNat kind) _ d

theorem cleanSet_work (d : Dev) (set : Nat) (h : Header) : WorkRel d (d.cleanSet set h) := by
  unfold Dev.cleanSet
  refine WorkRel.trans (WorkRel.foldl (fun e w => ?_) _ d) (putHeader_work ..)
  split
  · exact copyDirty_work ..
  · exact .refl e

end Sys2Proof.Machine
end

section
/-! SUPPORT. Changes of mode: what they change and what they leave (R455, R456), and the clear of the SDR region. -/

namespace Sys2Proof.Machine

set_option Elab.async false

@[simp] theorem toMode_mode (d : Dev) (m : Mode) : (d.toMode m).gcr.mode = m := by
  unfold Dev.toMode
  split
  · next h => exact h
  · rfl

/-- A change of mode changes the mode, the mode before it, and the events of its page. -/
theorem toMode_frame (d : Dev) (m : Mode) :
    d.toMode m = { d with gcr := { d.gcr with mode := m, prev := (d.toMode m).gcr.prev }, regs := (d.toMode m).regs } := by
  unfold Dev.toMode
  split
  · next h => subst h; rfl
  · rfl

theorem toMode_get (d : Dev) (m : Mode) {f : FieldRef} (hf : fieldsApart R.GCR_EVT.MODE_CHANGE f = true) :
    (d.toMode m).get f = d.get f := by
  unfold Dev.toMode
  split
  · rfl
  · exact get_raise_far (d := { d with gcr := { d.gcr with mode := m, prev := d.gcr.mode.code } }) _ _ hf

theorem toMode_flag (d : Dev) (m : Mode) {f : FieldRef} (hf : fieldsApart R.GCR_EVT.MODE_CHANGE f = true) :
    (d.toMode m).flag f = d.flag f := by rw [Dev.flag, Dev.flag, toMode_get d m hf]

@[simp] theorem toMode_cfg (d : Dev) (m : Mode) : (d.toMode m).cfg = d.cfg := by rw [toMode_frame]
@[simp] theorem toMode_dsc (d : Dev) (m : Mode) : (d.toMode m).dsc = d.dsc := by rw [toMode_frame]
@[simp] theorem toMode_twn (d : Dev) (m : Mode) : (d.toMode m).twn = d.twn := by rw [toMode_frame]
@[simp] theorem toMode_pip (d : Dev) (m : Mode) : (d.toMode m).pip = d.pip := by rw [toMode_frame]
@[simp] theorem toMode_sdr (d : Dev) (m : Mode) : (d.toMode m).sdr = d.sdr := by rw [toMode_frame]
@[simp] theorem toMode_pwr (d : Dev) (m : Mode) : (d.toMode m).pwr = d.pwr := by rw [toMode_frame]

theorem toMode_gcr (d : Dev) (m : Mode) : (d.toMode m).gcr = { d.gcr with mode := m, prev := (d.toMode m).gcr.prev } := by
  rw [toMode_frame]

/-- A refused command raises CMD_REFUSED alone (R455). -/
theorem cmdRefused_effect (d : Dev) :
    d.cmdRefused.gcr = d.gcr ∧ d.cmdRefused.cfg = d.cfg ∧ d.cmdRefused.flag R.GCR_EVT.CMD_REFUSED = true :=
  ⟨rfl, rfl, flag_raise_self _ _ (by decide)⟩

/-! ## The clear of the SDR region (R184) -/

theorem memWrite_gcr (d : Dev) (line : Nat) (mask : Mask) (p : Payload) :
    (d.memWrite line mask p).gcr = d.gcr ∧ (d.memWrite line mask p).sdr = d.sdr := by
  unfold Dev.memWrite
  split
  · exact ⟨rfl, rfl⟩
  · dsimp only
    rw [Dev.mirror_gcr, Dev.mirror_sdr]
    constructor
    · repeat' split
      all_goals rfl
    · repeat' split
      all_goals rfl

theorem sdrClearOne_stays (d : Dev) : d.sdrClearOne.2.gcr = d.gcr ∧ d.sdrClearOne.2.sdr.clearing = d.sdr.clearing := by
  unfold Dev.sdrClearOne
  dsimp only
  split
  · exact ⟨rfl, rfl⟩
  · split
    · simp
    · split
      · have hrec := report_record (({ d with sdr := { d.sdr with prog := d.sdr.prog + 1 } }).mirror (.sdrClear (d.sdr.prog + 1) false))
          (R.MPn_EVT.WR_LOST (d.memLoc (d.sdrMem d.sdr.prog * 128)).1) (d.memLoc (d.sdrMem d.sdr.prog * 128)).1 0
          (d.sdrMem d.sdr.prog * 128) 0
        exact ⟨by rw [hrec.gcr]; simp, by rw [hrec.frame]; simp⟩
      · split
        · dsimp only
          rw [(memWrite_gcr ..).1, (memWrite_gcr ..).2]
          simp
        · exact ⟨rfl, rfl⟩

theorem sdrClear_stays (n : Nat) (d : Dev) : (Dev.sdrClear n d).gcr = d.gcr ∧ (Dev.sdrClear n d).sdr.clearing = d.sdr.clearing := by
  induction n generalizing d with
  | zero => exact ⟨rfl, rfl⟩
  | succ n ih =>
    obtain ⟨hgcr, hclear⟩ := sdrClearOne_stays d
    unfold Dev.sdrClear
    dsimp only
    split
    · exact ⟨rfl, rfl⟩
    · split
      · exact ⟨(ih _).1.trans hgcr, (ih _).2.trans hclear⟩
      · exact ⟨hgcr, hclear⟩

theorem sdrPump_stays (d : Dev) : d.sdrPump.gcr = d.gcr ∧ d.sdrPump.sdr.clearing = d.sdr.clearing := by
  unfold Dev.sdrPump
  split
  · exact ⟨rfl, rfl⟩
  · exact sdrClear_stays _ d

/-- The clear starts on a device that keeps the SDR and has not cleared it. -/
theorem startSdrClear_effect (d : Dev) :
    d.startSdrClear.gcr = d.gcr ∧ (d.gcr.role ≠ .worker → d.sdr.initDone = false → d.startSdrClear.sdr.clearing = true) := by
  unfold Dev.startSdrClear
  split
  · next h => exact ⟨rfl, fun hr hi => absurd h (by simp [hr, hi])⟩
  · exact ⟨(sdrPump_stays _).1, fun _ _ => (sdrPump_stays _).2⟩

end Sys2Proof.Machine
end

section
/-! THEOREM. Boot, GO, AUTOSTART, Self-test and the end of Train (R458, R463, R465 to R472). -/

namespace Sys2Proof.Machine

set_option Elab.async false

/-! ## Boot without a valid copy -/

theorem imageOrder_invalid {a b : Image} (ha : imageValid a = false) (hb : imageValid b = false) : imageOrder a b = [] := by
  simp [imageOrder, ha, hb]

theorem flashReads_frame (d : Dev) (slot : Nat) (i : Image) : d.flashReads slot i = { d with sent := (d.flashReads slot i).sent } := by
  unfold Dev.flashReads
  dsimp only
  split <;> rfl

/-- Boot ends in Configure with no copy (R463, R458). -/
theorem flashReadDone_effect (d : Dev) {a b : Image} (hm : d.gcr.mode = .boot) (ha : imageValid a = false)
    (hb : imageValid b = false) :
    (flashReadDone a b d).gcr.mode = .configure ∧ (flashReadDone a b d).flag R.GCR_EVT.NO_IMAGE = true ∧
    (flashReadDone a b d).get R.GCR_IMG_STAT.VALID_A = 0 ∧ (flashReadDone a b d).get R.GCR_IMG_STAT.VALID_B = 0 ∧
    (d.gcr.role = .reserved → (flashReadDone a b d).flag R.GCR_EVT.STRAP_BAD = true) := by
  unfold flashReadDone
  rw [if_neg (by simp [hm])]
  dsimp only
  rw [imageOrder_invalid ha hb, ha, hb]
  have hrole : ((d.flashReads 1 a).flashReads 2 b).gcr = d.gcr := by rw [flashReads_frame, flashReads_frame]
  generalize (d.flashReads 1 a).flashReads 2 b = e at hrole ⊢
  have ha0 : ((e.set R.GCR_IMG_STAT.VALID_A (b01 false)).set R.GCR_IMG_STAT.VALID_B (b01 false)).get R.GCR_IMG_STAT.VALID_A = 0 := by
    rw [get_set_far _ _ _ _ (by decide), get_set_self _ _ _ (by decide)]
    rfl
  have hb0 : ((e.set R.GCR_IMG_STAT.VALID_A (b01 false)).set R.GCR_IMG_STAT.VALID_B (b01 false)).get R.GCR_IMG_STAT.VALID_B = 0 := by
    rw [get_set_self _ _ _ (by decide)]
    rfl
  have hr0 : ((e.set R.GCR_IMG_STAT.VALID_A (b01 false)).set R.GCR_IMG_STAT.VALID_B (b01 false)).gcr = d.gcr := hrole
  generalize (e.set R.GCR_IMG_STAT.VALID_A (b01 false)).set R.GCR_IMG_STAT.VALID_B (b01 false) = x at ha0 hb0 hr0 ⊢
  have hboot : ((x.raise R.GCR_EVT.NO_IMAGE).toMode .configure).gcr.role = d.gcr.role := by
    rw [toMode_gcr]
    exact congrArg (·.role) hr0
  refine ⟨?_, ?_, ?_, ?_, fun hr => ?_⟩
  · rw [Dev.raiseIf_gcr]
    exact toMode_mode ..
  · rw [flag_raiseIf_far _ _ _ _ (by decide)]
    exact (toMode_flag _ _ (by decide)).trans (flag_raise_self _ _ (by decide))
  · rw [get_raiseIf_far _ _ _ _ (by decide)]
    exact ((toMode_get _ _ (by decide)).trans (get_raise_far _ _ _ (by decide))).trans ha0
  · rw [get_raiseIf_far _ _ _ _ (by decide)]
    exact ((toMode_get _ _ (by decide)).trans (get_raise_far _ _ _ (by decide))).trans hb0
  · refine flag_raiseIf_self _ _ _ (by decide) ?_
    exact beq_iff_eq.mpr (hboot.trans hr)

/-! ## GO (R467, R468) -/

theorem goCmd_refused (d : Dev) (h : d.gcr.mode ≠ .configure) : goCmd d = d.cmdRefused := if_pos (.inl h)

/-- GO accepted: Self-test, with a commit pass. -/
theorem goCmd_accepted (d : Dev) (hm : d.gcr.mode = .configure) (hz : d.dozeActive = false) (he : d.goErr = 0) :
    goCmd d = (cfgCommit d).toMode .selfTest := by
  rw [goCmd, if_neg (by simp [hm, hz])]
  exact if_pos he

theorem goErr_lt (d : Dev) : d.goErr < 6 := by
  unfold Dev.goErr
  repeat' split
  all_goals decide

/-- GO refused with its reason. -/
theorem goCmd_error (d : Dev) (hm : d.gcr.mode = .configure) (hz : d.dozeActive = false) (he : d.goErr ≠ 0) :
    (goCmd d).gcr.mode = .configure ∧ (goCmd d).get R.GCR_STAT.GO_ERR = d.goErr ∧ (goCmd d).flag R.GCR_EVT.CFG_ERR = true := by
  have hlt := goErr_lt d
  rw [goCmd, if_neg (by simp [hm, hz])]
  dsimp only
  rw [if_neg he]
  refine ⟨?_, ?_, ?_⟩
  · rw [Dev.raiseIf_gcr, Dev.raiseIf_gcr]
    exact hm
  · rw [get_raiseIf_far _ _ _ _ (by decide), get_raiseIf_far _ _ _ _ (by decide), get_raise_far _ _ _ (by decide),
      get_set_self _ _ _ (by decide)]
    exact Nat.mod_eq_of_lt (by rw [show 2 ^ (R.GCR_STAT.GO_ERR.hi + 1 - R.GCR_STAT.GO_ERR.lo) = 16 from rfl]; omega)
  · rw [flag_raiseIf_far _ _ _ _ (by decide), flag_raiseIf_far _ _ _ _ (by decide)]
    exact flag_raise_self _ _ (by decide)

theorem autostart_effect (d : Dev) (hm : d.gcr.mode = .configure) (ha : d.gcr.autostart = true) (hs : d.pwr.step = none)
    (hz : d.dozeActive = false) (he : d.goErr = 0) :
    (autostart d).gcr.mode = .selfTest ∧ (autostart d).gcr.autostart = false ∧ (autostart d).cfg.committing = true := by
  have heq : autostart d = goCmd { d with gcr := { d.gcr with autostart := false } } := by simp [autostart, ha, hm, hs]
  have hgo := goCmd_accepted { d with gcr := { d.gcr with autostart := false } } hm hz he
  rw [heq, hgo]
  exact ⟨toMode_mode .., by rw [toMode_gcr]; rfl, by rw [toMode_cfg]; rfl⟩

/-! ## Self-test (R470) -/

/-- With nothing wrong the outcome is DONE and PASS, and nothing but registers has changed. -/
theorem checkerResult_regs (d : Dev) (fails : Nat) : d.checkerResult fails = { d with regs := (d.checkerResult fails).regs } := by
  unfold Dev.checkerResult
  dsimp only
  split
  · rfl
  · unfold Dev.raiseIf
    split <;> rfl

theorem bistResult_regs (d : Dev) (bad : Bool) (arr us : Nat) :
    d.bistResult bad arr us = { d with regs := (d.bistResult bad arr us).regs } := by
  unfold Dev.bistResult
  dsimp only
  split
  · split <;> rfl
  · split <;> rfl

theorem checkerResult_get (d : Dev) (fails : Nat) {f : FieldRef} (hs : f.ofs ≠ R.ECC_TEST_STAT.DONE.ofs)
    (he : f.ofs ≠ R.ECC_EVT.CHK_FAIL.ofs) : (d.checkerResult fails).get f = d.get f := by
  have hfar : ∀ g : FieldRef, f.ofs ≠ g.ofs → fieldsApart g f = true := fun g hg => by simp [fieldsApart, hg]
  unfold Dev.checkerResult
  dsimp only
  split
  · rfl
  · have hstat : ∀ (g : FieldRef) (e : Dev) (v : Nat), g.ofs = R.ECC_TEST_STAT.DONE.ofs → (e.set g v).get f = e.get f :=
      fun g e v hg => get_set_far e g f v (hfar g (hg ▸ hs))
    rw [get_raiseIf_far _ _ _ _ (hfar _ he), hstat R.ECC_TEST_STAT.FAILS _ _ rfl, hstat R.ECC_TEST_STAT.PASS _ _ rfl,
      hstat R.ECC_TEST_STAT.DONE _ _ rfl]

theorem checkerResult_flag (d : Dev) (fails : Nat) {f : FieldRef} (hs : f.ofs ≠ R.ECC_TEST_STAT.DONE.ofs)
    (he : f.ofs ≠ R.ECC_EVT.CHK_FAIL.ofs) : (d.checkerResult fails).flag f = d.flag f := by
  rw [Dev.flag, Dev.flag, checkerResult_get d fails hs he]

theorem faultN_get (d : Dev) (f : FieldRef) : d.faultN.get f = d.get f := rfl

/-- The array test passes, or is off. -/
theorem bistResult_pass (d : Dev) {arr : Nat} (us : Nat) (h : d.flag R.TST_CFG.BIST_EN = false ∨ arr = 0) :
    d.bistResult false arr us = ((d.set R.TST_STAT.DONE 1).set R.TST_STAT.PASS 1).set R.TST_TIME.US us := by
  have hen : (((d.set R.TST_STAT.DONE 1).set R.TST_STAT.PASS 1).set R.TST_TIME.US us).flag R.TST_CFG.BIST_EN =
      d.flag R.TST_CFG.BIST_EN := by
    rw [flag_set_far _ _ _ _ (by decide), flag_set_far _ _ _ _ (by decide), flag_set_far _ _ _ _ (by decide)]
  unfold Dev.bistResult
  dsimp only
  rw [if_neg Bool.false_ne_true, hen, if_neg]
  rcases h with h | h
  · simp [h]
  · simp [h]

/-- The array test fails in some arrays. -/
theorem bistResult_fail (d : Dev) {arr : Nat} (us : Nat) (h : d.flag R.TST_CFG.BIST_EN = true) (h0 : 0 < arr) (h16 : arr < 16) :
    (d.bistResult true arr us).get R.TST_STAT.PASS = 0 ∧ (d.bistResult true arr us).get R.TST_STAT.FAIL_ARR = arr ∧
    (d.bistResult true arr us).flag R.TST_EVT.TST_FAIL = true := by
  have hen : (((d.set R.TST_STAT.DONE 1).set R.TST_STAT.PASS 0).set R.TST_TIME.US us).flag R.TST_CFG.BIST_EN =
      d.flag R.TST_CFG.BIST_EN := by
    rw [flag_set_far _ _ _ _ (by decide), flag_set_far _ _ _ _ (by decide), flag_set_far _ _ _ _ (by decide)]
  unfold Dev.bistResult
  dsimp only
  rw [if_pos rfl, hen, if_pos (by simp [h]; omega)]
  refine ⟨?_, ?_, flag_raise_self _ _ (by decide)⟩
  · rw [get_raise_far _ _ _ (by decide), get_set_far _ _ _ _ (by decide), get_set_far _ _ _ _ (by decide),
      get_set_self _ _ _ (by decide)]
    rfl
  · rw [get_raise_far _ _ _ (by decide), get_set_self _ _ _ (by decide)]
    exact Nat.mod_eq_of_lt h16

/-- Train begins: the lanes are to be started, and a pair is to form (R301, R206). -/
theorem enterTrain_effect (d : Dev) :
    d.enterTrain.gcr.mode = .train ∧ (d.twinOn = true → d.enterTrain.twn.st = .pairing) ∧
    (∀ n, n < 18 → (d.enterTrain.lane n).st = if d.populated n then 1 else 0) ∧
    ∀ f : FieldRef, fieldsApart R.GCR_EVT.MODE_CHANGE f = true → f.ofs ∉ grantEvents → d.enterTrain.get f = d.get f := by
  unfold Dev.enterTrain
  dsimp only
  generalize hx : (if ({ d with dsc := { lanes := (List.range 18).map (fun n => if d.populated n then ({ st := 1 } : Lane) else {}) } } :
    Dev).twinOn then _ else _ : Dev) = x
  have hdsc : x.dsc = { lanes := (List.range 18).map (fun n => if d.populated n then ({ st := 1 } : Lane) else {}) } := by
    rw [← hx]; split <;> rfl
  have hregs : x.regs = d.regs := by rw [← hx]; split <;> rfl
  have hrole : x.gcr.role = d.gcr.role := by rw [← hx]; split <;> rfl
  have hgrant := startPll_grant x 5
  refine ⟨toMode_mode .., fun ht => ?_, fun n hn => ?_, fun f hf hg => ?_⟩
  · have htwin : ({ d with dsc := { lanes := (List.range 18).map (fun n => if d.populated n then ({ st := 1 } : Lane) else {}) } } :
        Dev).twinOn = true := ht
    rw [toMode_twn, hgrant.frame, ← hx, if_pos htwin]
  · rw [lane_of_dsc (toMode_dsc ..), lane_of_dsc hgrant.dsc, Dev.lane, hdsc]
    simp only [List.getElem?_map, List.getElem?_range hn, Option.map_some, Option.getD_some]
    split <;> rfl
  · rw [toMode_get _ _ hf, hgrant.get hg, get_of_regs hregs hrole]

/-- Self-test passes: Train begins (R470). -/
theorem selfTestDone_pass (d : Dev) {arr fails : Nat} (us : Nat) (hm : d.gcr.mode = .selfTest)
    (hb : d.flag R.TST_CFG.BIST_EN = false ∨ arr = 0) (hc : d.flag R.ECC_TEST_SEL.SEL = true ∨ fails = 0) :
    selfTestDone arr fails us d =
      ((((d.set R.TST_STAT.DONE 1).set R.TST_STAT.PASS 1).set R.TST_TIME.US us).checkerResult (checkerFails + fails)).initArrays.enterTrain := by
  have hgood : (d.flag R.TST_CFG.BIST_EN && arr != 0 || !d.flag R.ECC_TEST_SEL.SEL && checkerFails + fails != 0) = false := by
    rw [checkerFails_zero]
    rcases hb with hb | hb
    · rcases hc with hc | hc
      · simp [hb, hc]
      · simp [hb, hc]
    · rcases hc with hc | hc
      · simp [hb, hc]
      · simp [hb, hc]
  unfold selfTestDone
  rw [if_neg (by simp [hm])]
  dsimp only
  rw [hgood, bistResult_pass d us hb, if_neg Bool.false_ne_true]

theorem populated_congr {d e : Dev} (h : e.get R.DSC_CFG.DLANES = d.get R.DSC_CFG.DLANES) (n : Nat) : e.populated n = d.populated n := by
  rw [Dev.populated, Dev.populated, Dev.lanesPerGroup, Dev.lanesPerGroup, h]

theorem selfTestDone_train (d : Dev) {arr fails : Nat} (us : Nat) (hm : d.gcr.mode = .selfTest)
    (hb : d.flag R.TST_CFG.BIST_EN = false ∨ arr = 0) (hc : d.flag R.ECC_TEST_SEL.SEL = true ∨ fails = 0) :
    (selfTestDone arr fails us d).gcr.mode = .train ∧ (selfTestDone arr fails us d).get R.TST_STAT.DONE = 1 ∧
    (selfTestDone arr fails us d).get R.TST_STAT.PASS = 1 ∧
    (d.twinOn = true → (selfTestDone arr fails us d).twn.st = .pairing) ∧
    ∀ n, n < 18 → ((selfTestDone arr fails us d).lane n).st = if d.populated n then 1 else 0 := by
  rw [selfTestDone_pass d us hm hb hc]
  have hget : ∀ f : FieldRef, f.ofs ≠ R.ECC_TEST_STAT.DONE.ofs → f.ofs ≠ R.ECC_EVT.CHK_FAIL.ofs →
      ((((d.set R.TST_STAT.DONE 1).set R.TST_STAT.PASS 1).set R.TST_TIME.US us).checkerResult (checkerFails + fails)).initArrays.get f =
      (((d.set R.TST_STAT.DONE 1).set R.TST_STAT.PASS 1).set R.TST_TIME.US us).get f := fun f hs he => checkerResult_get _ _ hs he
  generalize ((((d.set R.TST_STAT.DONE 1).set R.TST_STAT.PASS 1).set R.TST_TIME.US us).checkerResult (checkerFails + fails)).initArrays
    = e at hget ⊢
  obtain ⟨hmode, htwn, hlanes, hkeep⟩ := enterTrain_effect e
  refine ⟨hmode, ?_, ?_, fun ht => htwn ?_, fun n hn => (hlanes n hn).trans ?_⟩
  · rw [hkeep _ (by decide) (by decide), hget _ (by decide) (by decide), get_set_far _ _ _ _ (by decide),
      get_set_far _ _ _ _ (by decide), get_set_self _ _ _ (by decide)]
    rfl
  · rw [hkeep _ (by decide) (by decide), hget _ (by decide) (by decide), get_set_far _ _ _ _ (by decide),
      get_set_self _ _ _ (by decide)]
    rfl
  · rw [Dev.twinOn, Dev.flag, hget _ (by decide) (by decide), get_set_far _ _ _ _ (by decide), get_set_far _ _ _ _ (by decide),
      get_set_far _ _ _ _ (by decide)]
    exact ht
  · rw [populated_congr]
    rw [hget _ (by decide) (by decide), get_set_far _ _ _ _ (by decide), get_set_far _ _ _ _ (by decide),
      get_set_far _ _ _ _ (by decide)]

/-- The array test fails: the device stays in Self-test with FAULT_N asserted (R470). -/
theorem selfTestDone_fault (d : Dev) {arr : Nat} (fails us : Nat) (hm : d.gcr.mode = .selfTest)
    (hb : d.flag R.TST_CFG.BIST_EN = true) (h0 : 0 < arr) (h16 : arr < 16) :
    (selfTestDone arr fails us d).gcr.mode = .selfTest ∧ (selfTestDone arr fails us d).gcr.fault = true ∧
    (selfTestDone arr fails us d).get R.TST_STAT.PASS = 0 ∧ (selfTestDone arr fails us d).get R.TST_STAT.FAIL_ARR = arr ∧
    (selfTestDone arr fails us d).flag R.TST_EVT.TST_FAIL = true := by
  have hbad : (d.flag R.TST_CFG.BIST_EN && arr != 0 || !d.flag R.ECC_TEST_SEL.SEL && checkerFails + fails != 0) = true := by
    have harr : (arr != 0) = true := by simp; omega
    rw [hb, harr]
    rfl
  unfold selfTestDone
  generalize checkerFails + fails = n at hbad ⊢
  rw [if_neg (by simp [hm])]
  dsimp only
  rw [hbad, if_pos rfl]
  obtain ⟨hpass, harr, hev⟩ := bistResult_fail d us hb h0 h16
  have hgcr : ((d.bistResult true arr us).checkerResult n).gcr = d.gcr :=
    (congrArg (·.gcr) (checkerResult_regs _ n)).trans (congrArg (·.gcr) (bistResult_regs d true arr us))
  refine ⟨(congrArg (·.mode) hgcr).trans hm, rfl, ?_, ?_, ?_⟩
  · rw [faultN_get, checkerResult_get _ _ (by decide) (by decide), hpass]
  · rw [faultN_get, checkerResult_get _ _ (by decide) (by decide), harr]
  · rw [Dev.flag, faultN_get, ← Dev.flag, checkerResult_flag _ _ (by decide) (by decide), hev]

/-- Train ends in the mode that R456 gives, and the SDR clear begins (R471, R472). -/
theorem trainComplete_effect (d : Dev) (hm : d.gcr.mode = .train) (ht : d.trained = true) :
    (trainComplete d).gcr.mode = d.serviceMode ∧
    (d.gcr.role ≠ .worker → d.sdr.initDone = false → (trainComplete d).sdr.clearing = true) := by
  have hrole : (d.toMode d.serviceMode).gcr.role = d.gcr.role := by rw [toMode_gcr]
  unfold trainComplete
  rw [if_pos (by simp [hm, ht])]
  dsimp only
  split
  · next hw => exact ⟨toMode_mode .., fun hr => absurd (hrole ▸ hw) hr⟩
  · obtain ⟨hgcr, hclear⟩ := startSdrClear_effect (d.toMode d.serviceMode)
    refine ⟨by rw [hgcr, toMode_mode], fun hr hi => hclear (by rw [hrole]; exact hr) (by rw [toMode_sdr]; exact hi)⟩

/-- Settles O17: each command's own branch, with the changes of mode and of registers it makes. -/
theorem startUpCommands : Obligations.StartUpCommands := by
  unfold Obligations.StartUpCommands
  refine ⟨?_, ?_, ?_, ?_, ?_, ?_, ?_⟩
  · intro a b s hm ha hb
    refine ⟨_, onDev_awake (by simp [Dev.awake, hm]) _, ?_⟩
    simp only [State.setDev_dev, settle_gcr, settle_flag, settle_get]
    exact flashReadDone_effect s.dev hm ha hb
  · intro src s hr hm hz
    refine ⟨_, onDev_write hr src _, ?_⟩
    simp only [State.setDev_dev, settle_gcr, settle_get, settle_cfg, Dev.emit_gcr, Dev.emit_cfg, emit_get,
      Dev.flag]
    by_cases he : s.dev.goErr = 0
    · rw [if_pos he, goCmd_accepted _ hm hz he]
      exact ⟨toMode_mode .., by rw [toMode_cfg]; rfl⟩
    · rw [if_neg he]
      exact goCmd_error s.dev hm hz he
  · intro src s hr hm
    refine ⟨_, onDev_write hr src _, ?_⟩
    simp only [State.setDev_dev, settle_gcr, settle_cfg, Dev.emit_gcr, Dev.emit_cfg, emit_get, Dev.flag, settle_get]
    rw [goCmd_refused _ hm]
    exact cmdRefused_effect s.dev
  · intro s hm ha hs hz he
    refine ⟨_, onDev_awake (by simp [Dev.awake, hm]) _, ?_⟩
    simp only [State.setDev_dev, settle_gcr, settle_cfg]
    exact autostart_effect s.dev hm ha hs hz he
  · intro arr fails us s hrun hm hb hc
    refine ⟨_, onCore_runs hrun _, ?_⟩
    simp only [State.setDev_dev, settle_gcr, settle_get, settle_twn_st, settle_lane]
    exact selfTestDone_train s.dev us hm hb hc
  · intro arr fails us s hrun hm hb h0 h16
    refine ⟨_, onCore_runs hrun _, ?_⟩
    simp only [State.setDev_dev, settle_gcr, settle_get, settle_flag]
    exact selfTestDone_fault s.dev fails us hm hb h0 h16
  · intro s hrun hm ht
    refine ⟨_, onCore_runs hrun _, ?_⟩
    simp only [State.setDev_dev, settle_gcr, settle_sdr]
    exact trainComplete_effect s.dev hm ht

end Sys2Proof.Machine
end

section
/-! THEOREM. Service and SERVE, Drain, its pass and its end, RESUME and RESTART (R455, R456, R473 to R476). -/

namespace Sys2Proof.Machine

set_option Elab.async false

/-! ## The mode of service -/

/-- The mode of service rests on the lanes, the pair's state, SERVE and the erased devices (R456). -/
theorem serviceMode_congr {d e : Dev} (hl : e.dsc.lanes = d.dsc.lanes) (ht : e.twn.st = d.twn.st)
    (hf : ∀ f : FieldRef, f.ofs ≠ R.GCR_EVT.MODE_CHANGE.ofs → e.get f = d.get f) : e.serviceMode = d.serviceMode := by
  have herase : ∀ (n : Nat) (f : Nat → FieldRef), (∀ k, (f k).ofs = 0x21200 + k * 0x4) → e.get (f n) = d.get (f n) := by
    intro n f h
    refine hf _ ?_
    rw [h, show R.GCR_EVT.MODE_CHANGE.ofs = 0xC from rfl]
    omega
  have h340 : e.r340 = d.r340 := by
    unfold Dev.r340
    rw [hl]
    congr 2
    funext n
    rw [Dev.flag, Dev.flag, Dev.flag, Dev.flag, herase n R.ECC_ERASEn.EV0 fun _ => rfl, herase n R.ECC_ERASEn.DEV0 fun _ => rfl,
      herase n R.ECC_ERASEn.EV1 fun _ => rfl, herase n R.ECC_ERASEn.DEV1 fun _ => rfl]
  rw [Dev.serviceMode, Dev.serviceMode, h340, ht, Dev.flag, Dev.flag, hf _ (by decide)]

theorem toMode_serviceMode (d : Dev) (m : Mode) : (d.toMode m).serviceMode = d.serviceMode := by
  refine serviceMode_congr (by rw [toMode_dsc]) (by rw [toMode_twn]) fun f hf => toMode_get d m ?_
  simp [fieldsApart, hf]

theorem remode_serviceMode (d : Dev) : d.remode.serviceMode = d.serviceMode := by
  unfold Dev.remode
  split
  · exact toMode_serviceMode ..
  · rfl

theorem remode_mode (d : Dev) : d.remode.gcr.mode = if d.gcr.mode.service58 then d.serviceMode else d.gcr.mode := by
  unfold Dev.remode
  split
  · exact toMode_mode ..
  · rfl

theorem settle_serviceMode (d : Dev) : (settle d).serviceMode = d.serviceMode :=
  serviceMode_congr (by rw [settle_dsc]) (settle_twn_st d) fun f _ => settle_get d f

theorem emit_serviceMode (d : Dev) (o : Out) : (d.emit o).serviceMode = d.serviceMode := rfl

theorem remode_flag (d : Dev) {f : FieldRef} (hf : fieldsApart R.GCR_EVT.MODE_CHANGE f = true) : d.remode.flag f = d.flag f := by
  unfold Dev.remode
  split
  · exact toMode_flag d _ hf
  · rfl

theorem serve_effect (v : Bool) (d : Dev) :
    (serve v d).flag R.GCR_CFG.SERVE = v ∧
    (serve v d).gcr.mode = if d.gcr.mode.service58 then (serve v d).serviceMode else d.gcr.mode := by
  refine ⟨?_, ?_⟩
  · rw [serve, remode_flag _ (by decide), Dev.flag, get_set_self _ _ _ (by decide)]
    cases v <;> rfl
  · rw [serve, remode_mode, remode_serviceMode]
    rfl

/-! ## Drain -/

theorem drain_refused (d : Dev) (h : d.gcr.mode.service58 = false ∨ d.dozeActive = true) : drain d = d.cmdRefused :=
  if_pos (by rcases h with h | h <;> simp [h])

theorem drain_mirror (d : Dev) (h : ¬ (d.gcr.mode.service58 = false ∨ d.dozeActive = true)) (hm : d.isMirror = true) :
    drain d = { d with gcr := { d.gcr with drainAsked := true } } := by
  obtain ⟨hs, hz⟩ := not_or.mp h
  rw [drain, if_neg (by simp [hs, hz]), if_pos hm]

theorem drain_starts (d : Dev) (h : ¬ (d.gcr.mode.service58 = false ∨ d.dozeActive = true)) (hm : d.isMirror = false) :
    drain d = d.startDrain := by
  obtain ⟨hs, hz⟩ := not_or.mp h
  rw [drain, if_neg (by simp [hs, hz]), hm]
  rfl

theorem startDrain_effect (d : Dev) :
    d.startDrain.gcr.mode = .drain ∧ d.startDrain.gcr.drained = false ∧ d.startDrain.pip.drainOn = true ∧
    d.startDrain.pip.drainNext = 0 := by
  unfold Dev.startDrain
  refine ⟨toMode_mode .., ?_, ?_, ?_⟩
  · rw [toMode_gcr]
  · rw [toMode_pip]
  · rw [toMode_pip]

/-- A set whose header is resident, and whose dirty lines fit the write buffer, is passed (R474). -/
theorem drainSet_passes (d : Dev) (h : Header) (hon : d.pip.drainOn = true) (hn : d.pip.drainNext < d.sets)
    (hb : d.hdrBlocked d.pip.drainNext = none) (hh : d.header? d.pip.drainNext = some h)
    (hu : d.setInUse d.pip.drainNext h (fun _ => true) = false) (hp : dirtyIn h (fun _ => true) ≤ d.poolOpen) :
    (drainSet d).pip.drainNext = d.pip.drainNext + 1 := by
  have hpass : d.passHeader d.pip.drainNext = (some h, d) := by simp [Dev.passHeader, hb, hh]
  unfold drainSet
  rw [if_neg (by simp [hon, hn])]
  dsimp only
  rw [hpass]
  dsimp only
  split
  · rfl
  · rw [if_neg (by simp [hu, hp]), hh, if_pos (Option.isSome_some)]
    have hclean := (cleanSet_work d d.pip.drainNext h).pip
    exact congrArg (·.drainNext + 1) hclean

theorem driveWr_gcr (d : Dev) (lane slot : Nat) (b : Burst) : (d.driveWr lane slot b).gcr = d.gcr := by
  unfold Dev.driveWr Dev.countAct
  dsimp only [Dev.emit]
  split
  · split <;> rfl
  · rfl

theorem laneWrite_gcr (d : Dev) (lane slot : Nat) (data : LineData) (psn : Bool) : (d.laneWrite lane slot data psn).gcr = d.gcr := by
  unfold Dev.laneWrite
  split
  · rfl
  · have hflip : ∀ b, (d.flipWrite lane slot b).2.gcr = d.gcr := fun b => by
      unfold Dev.flipWrite
      split <;> rfl
    dsimp only
    rw [← hflip (encodeLine data psn)]
    generalize d.flipWrite lane slot (encodeLine data psn) = r
    rw [driveWr_gcr]
    split
    · rw [Dev.pmu1_gcr, Dev.putBurst_gcr, Dev.pmu1_gcr, Dev.pmu1_gcr]
    · rw [Dev.putBurst_gcr, Dev.pmu1_gcr, Dev.pmu1_gcr]

theorem flushHeaders_gcr (d : Dev) : d.flushHeaders.gcr = d.gcr := by
  unfold Dev.flushHeaders
  generalize d.hdc.ents.filter (·.changed) = l
  induction l generalizing d with
  | nil => rfl
  | cons x l ih => exact (ih _).trans (laneWrite_gcr ..)

theorem drainDone_effect (d : Dev) (hp : d.passOver = true) (hd : d.gcr.drained = false) :
    (drainDone d).gcr.drained = true ∧ (drainDone d).flag R.GCR_EVT.DRAIN_DONE = true ∧ (drainDone d).gcr.mode = .drain := by
  have hmode : d.gcr.mode = .drain := by
    simp only [Dev.passOver, Bool.and_eq_true, beq_iff_eq] at hp
    exact hp.1.1.1
  rw [drainDone, if_pos (by simp [hp, hd])]
  exact ⟨rfl, flag_raise_self _ _ (by decide), (congrArg (·.mode) (flushHeaders_gcr d)).trans hmode⟩

theorem drainResume_effect (d : Dev) (hz : d.dozeActive = false) (hm : d.gcr.mode = .drain) (hi : d.isMirror = false) :
    (drainResume d).gcr.mode = d.serviceMode ∧ (drainResume d).gcr.drained = false ∧ (drainResume d).pip.drainOn = false := by
  rw [drainResume, if_neg (by simp [hz]), if_neg (by simp [hi]), if_pos hm]
  refine ⟨toMode_mode .., ?_, ?_⟩
  · rw [toMode_gcr]
  · rw [toMode_pip]

/-! ## RESTART -/

/-- The bank of the registers that a predicate keeps. -/
theorem bankGet_filter_key {α : Type} (l : List (Nat × α)) (p : Nat → Bool) (n : Nat) :
    bankGet (l.filter fun e => p e.1) n = if p n then bankGet l n else none := by
  induction l with
  | nil => simp [bankGet]
  | cons x l ih =>
    obtain ⟨k, v⟩ := x
    by_cases hk : k = n
    · subst hk
      by_cases hp : p k
      · simp [bankGet, hp]
      · simp [hp, ih]
    · by_cases hp : p k
      · simp [bankGet, hp, hk, ih]
      · simp [bankGet, hp, hk, ih]

theorem keepHost_frame (old d : Dev) : Dev.keepHost old d = { d with hst := (Dev.keepHost old d).hst, regs := (Dev.keepHost old d).regs } := by
  unfold Dev.keepHost
  split <;> rfl

/-- Of the bank only the host's page stays, and that where the host domain is on. -/
theorem bankGet_keepHost (old d : Dev) (hd : d.regs = []) (ofs : Nat) :
    bankGet (Dev.keepHost old d).regs ofs =
      if old.domOn 20 && (decide (0x7000 ≤ ofs) && decide (ofs < 0x8000)) then bankGet old.regs ofs else none := by
  unfold Dev.keepHost
  cases old.domOn 20 with
  | false => simp [hd, bankGet]
  | true =>
    have h := bankGet_filter_key old.regs (fun k => decide (0x7000 ≤ k) && decide (k < 0x8000)) ofs
    simpa using h

theorem restart_starts (d : Dev) (hm : d.gcr.mode = .recovery ∨ d.gcr.mode = .selfTest) (hz : d.dozeActive = false) :
    restart d = { Dev.keepHost d (d.held .boot true) with sent := (restart d).sent } := by
  have hopen : ((d.gcr.mode == .recovery || d.gcr.mode == .selfTest) && !d.dozeActive) = true := by
    rcases hm with hm | hm <;> simp [hm, hz]
  rw [restart, if_pos hopen, pinsReset_eq]

theorem restart_effect (d : Dev) (hm : d.gcr.mode = .recovery ∨ d.gcr.mode = .selfTest) (hz : d.dozeActive = false) :
    (restart d).gcr.mode = .boot ∧ (restart d).gcr.role = d.gcr.role ∧ (restart d).gcr.fault = false ∧
    (restart d).chn.addr = d.chn.addr ∧ (restart d).cnf.txns = [] ∧
    (∀ ofs, ofs < 0x7000 → bankGet (restart d).regs ofs = none) ∧
    (d.domOn 20 = true → bankGet (restart d).regs 0x7010 = bankGet d.regs 0x7010) := by
  rw [restart_starts d hm hz]
  dsimp only
  have hbank := bankGet_keepHost d (d.held .boot true) rfl
  refine ⟨?_, ?_, ?_, ?_, ?_, fun ofs ho => ?_, fun hd => ?_⟩
  · rw [keepHost_frame]; rfl
  · rw [keepHost_frame]; rfl
  · rw [keepHost_frame]; rfl
  · rw [keepHost_frame]; rfl
  · rw [keepHost_frame]; rfl
  · rw [hbank, if_neg]
    simp only [Bool.and_eq_true, decide_eq_true_eq]
    omega
  · rw [hbank, if_pos]
    simp [hd]

theorem restart_refused (d : Dev) (hr : d.gcr.mode ≠ .recovery) (hs : d.gcr.mode ≠ .selfTest) : restart d = d.cmdRefused :=
  if_neg (by simp [hr, hs])

/-- Settles O18: each command's own branch, with the mode of service and the pass over the headers. -/
theorem serviceAndDrain : Obligations.ServiceAndDrain := by
  unfold Obligations.ServiceAndDrain
  refine ⟨?_, ?_, ?_, ?_, ?_, ?_, ?_⟩
  · intro src v s hr
    refine ⟨_, onDev_write hr src _, ?_⟩
    rw [State.setDev_dev, settle_serviceMode, settle_gcr, settle_flag, emit_serviceMode, emit_flag, Dev.emit_gcr]
    exact serve_effect v s.dev
  · intro src s hr
    refine ⟨_, onDev_write hr src _, ?_⟩
    rw [State.setDev_dev, settle_gcr, settle_flag, settle_pip, emit_flag, Dev.emit_gcr, Dev.emit_pip]
    split
    · next h =>
      rw [drain_refused _ h]
      exact ⟨(cmdRefused_effect s.dev).1, (cmdRefused_effect s.dev).2.2⟩
    · next h =>
      split
      · next hm => rw [drain_mirror _ h hm]
      · next hm =>
        rw [drain_starts _ h (by simpa using hm)]
        exact startDrain_effect s.dev
  · intro h s hrun hon hn hb hh hu hp
    refine ⟨_, onCore_runs hrun _, ?_⟩
    rw [State.setDev_dev, settle_pip]
    exact drainSet_passes s.dev h hon hn hb hh hu hp
  · intro s hrun hp hd
    refine ⟨_, onCore_runs hrun _, ?_⟩
    rw [State.setDev_dev, settle_gcr, settle_flag]
    exact drainDone_effect s.dev hp hd
  · intro src s hr hz hm hi
    refine ⟨_, onDev_write hr src _, ?_⟩
    rw [State.setDev_dev, settle_gcr, settle_pip, Dev.emit_gcr, Dev.emit_pip]
    exact drainResume_effect s.dev hz hm hi
  · intro src s hr hm hz
    refine ⟨_, onDev_write hr src _, ?_⟩
    rw [State.setDev_dev, settle_gcr, settle_chn, settle_cnf, settle_regs, Dev.emit_gcr, Dev.emit_chn, Dev.emit_cnf, Dev.emit_regs]
    exact restart_effect s.dev hm hz
  · intro src s hr hm hs
    refine ⟨_, onDev_write hr src _, ?_⟩
    rw [State.setDev_dev, settle_gcr, settle_flag, emit_flag, Dev.emit_gcr, restart_refused _ hm hs]
    exact ⟨(cmdRefused_effect s.dev).1, (cmdRefused_effect s.dev).2.2⟩

end Sys2Proof.Machine
end

section
/-! SUPPORT. Operating points: what the steps of voltage and frequency change, and what they leave (R431 to R437, R448). -/

namespace Sys2Proof.Machine

set_option Elab.async false

/-- The device after a part of a step of the operating point: sources, domains and the step's own state have changed, and
events are raised. -/
structure PointRel (d e : Dev) : Prop where
  frame : e = { d with regs := e.regs, clk := e.clk, pwr := e.pwr, pur := e.pur, ports := e.ports, tw := e.tw, mps := e.mps,
                       sent := e.sent, free := e.free }
  clk : e.clk = { d.clk with starting := e.clk.starting, ready := e.clk.ready, fail := e.clk.fail,
                             switching := e.clk.switching }
  pwr : e.pwr = { d.pwr with on := e.pwr.on, step := e.pwr.step, nextTarget := e.pwr.nextTarget, doze := e.pwr.doze,
                             tries := e.pwr.tries, railEn := e.pwr.railEn, waking := e.pwr.waking, clamps := e.pwr.clamps }
  pur : e.pur = { d.pur with tokens := e.pur.tokens, waiting := e.pur.waiting, level := e.pur.level }
  events : EventsGrow d e
  sent : d.sent <:+ e.sent

theorem PointRel.refl (d : Dev) : PointRel d d := ⟨rfl, rfl, rfl, rfl, EventsGrow.of_regs rfl rfl, List.suffix_refl _⟩

theorem PointRel.trans {a b c : Dev} (h : PointRel a b) (k : PointRel b c) : PointRel a c where
  frame := by rw [k.frame, h.frame]
  clk := by rw [k.clk, h.clk]
  pwr := by rw [k.pwr, h.pwr]
  pur := by rw [k.pur, h.pur]
  events := h.events.trans k.events
  sent := h.sent.trans k.sent

theorem GrantRel.point {d e : Dev} (h : GrantRel d e) : PointRel d e where
  frame := h.frame
  clk := by rw [h.clk]
  pwr := by rw [h.pwr]
  pur := h.pur
  events := h.events
  sent := h.sent

theorem PointRel.foldl {α : Type} {f : Dev → α → Dev} (h : ∀ d x, PointRel d (f d x)) (l : List α) (d : Dev) :
    PointRel d (l.foldl f d) := by
  induction l generalizing d with
  | nil => exact .refl d
  | cons x l ih => exact (h d x).trans (ih _)

theorem PointRel.raise (d : Dev) {f : FieldRef} (h : grantEvent f = true) : PointRel d (d.raise f) := (GrantRel.raise d h).point

theorem PointRel.get {d e : Dev} (h : PointRel d e) {f : FieldRef} (hf : f.ofs ∉ grantEvents) : e.get f = d.get f := by
  simp only [Dev.get, Dev.raw, h.events.bank f.ofs hf, h.events.role]

theorem PointRel.flag {d e : Dev} (h : PointRel d e) {f : FieldRef} (hf : f.ofs ∉ grantEvents) : e.flag f = d.flag f := by
  simp only [Dev.flag, h.get hf]

/-- A one-bit field that reads 1 still does. -/
theorem EventsGrow.flag_mono {d e : Dev} (h : EventsGrow d e) {f : FieldRef} (hb : f.hi = f.lo) (hf : d.flag f = true) :
    e.flag f = true := by
  have hbit : ∀ x : Dev, x.flag f = (x.raw f.ofs).getLsbD f.lo := by
    intro x
    rw [Dev.flag, Dev.get, bits, hb, Nat.add_sub_cancel_left, Nat.pow_one, BitVec.getLsbD, Nat.testBit_eq_decide_div_mod_eq,
      Nat.shiftRight_eq_div_pow]
    rfl
  rw [hbit] at hf ⊢
  exact h.raw _ _ hf

theorem wantToken_point (d : Dev) (k who : Nat) : PointRel d (d.wantToken k who) := by
  unfold Dev.wantToken
  split
  · exact .refl d
  · exact ⟨rfl, rfl, rfl, rfl, EventsGrow.of_regs rfl rfl, List.suffix_refl _⟩

theorem askToken_point (d : Dev) (k who : Nat) : PointRel d (d.askToken k who) :=
  (wantToken_point d k who).trans (grantTokens_grant _).point

theorem dropToken_point (d : Dev) (k who : Nat) : PointRel d (d.dropToken k who) :=
  ⟨rfl, rfl, rfl, rfl, EventsGrow.of_regs rfl rfl, List.suffix_refl _⟩

theorem dvfsBegin_point (d : Dev) (f v : Nat) (token : Bool) : PointRel d (d.dvfsBegin f v token) := by
  unfold Dev.dvfsBegin
  split
  · exact (setStep_grant d _).point.trans (wantToken_point _ _ _)
  · exact (dvfsWork_grant d f v).point

/-- A change of the power state's Doze and next target. -/
theorem setDoze_point (d : Dev) (z : Option Doze) (t : Option Nat) :
    PointRel d { d with pwr := { d.pwr with doze := z, nextTarget := t } } :=
  ⟨rfl, rfl, rfl, rfl, EventsGrow.of_regs rfl rfl, List.suffix_refl _⟩

theorem wakeDomains_point (d : Dev) (z : Doze) : PointRel d (d.wakeDomains z) := by
  unfold Dev.wakeDomains
  exact (setDoze_point d _ d.pwr.nextTarget).trans (.foldl (fun d k => (turnOn_grant d k).point) _ _)

theorem wakeMem_point (d : Dev) (z : Doze) : PointRel d (d.wakeMem z) := by
  unfold Dev.wakeMem
  split
  · exact wakeDomains_point d z
  · exact (setDoze_point d _ d.pwr.nextTarget).trans (startPll_grant _ _).point

theorem wakeStepped_point (d : Dev) : PointRel d d.wakeStepped := by
  unfold Dev.wakeStepped
  split
  · split
    · exact wakeMem_point d _
    · exact .refl d
  · exact .refl d

theorem dvfsEnd_point (d : Dev) : PointRel d d.dvfsEnd := by
  unfold Dev.dvfsEnd
  dsimp only
  have hend : PointRel d ((((({ d with pwr := { d.pwr with step := none } }) : Dev).dropToken 1 0).raise
      R.PWR_EVT.DVFS_DONE).wakeStepped) :=
    (((setStep_grant d none).point.trans (dropToken_point _ 1 0)).trans (.raise _ (by decide))).trans (wakeStepped_point _)
  refine hend.trans ?_
  generalize (((({ d with pwr := { d.pwr with step := none } }) : Dev).dropToken 1 0).raise R.PWR_EVT.DVFS_DONE).wakeStepped = e
  split
  · exact .refl e
  · refine (setDoze_point e e.pwr.doze none).trans ?_
    split
    · exact .raise _ (by decide)
    · exact dvfsBegin_point _ _ _ _

theorem startSwitch_point (d : Dev) (s : Selector) (t : Nat) : PointRel d (d.startSwitch s t) := by
  unfold Dev.startSwitch
  split
  · exact ⟨rfl, rfl, rfl, rfl, EventsGrow.of_regs rfl rfl, List.suffix_refl _⟩
  · refine .raise d ?_
    cases s <;> decide

theorem dvfsReady_point (d : Dev) : PointRel d d.dvfsReady := by
  unfold Dev.dvfsReady
  split
  · split
    · exact (setStep_grant d _).point.trans (startSwitch_point _ _ _)
    · exact .refl d
  · exact .refl d

/-! ## The switches in progress -/

theorem GrantRel.switching {d e : Dev} (h : GrantRel d e) : e.clk.switching = d.clk.switching := by rw [h.clk]

theorem dvfsBegin_switching (d : Dev) (f v : Nat) (token : Bool) : (d.dvfsBegin f v token).clk.switching = d.clk.switching := by
  unfold Dev.dvfsBegin
  split
  · rw [wantToken_eq]
  · exact (dvfsWork_grant d f v).switching

theorem wakeDomains_switching (d : Dev) (z : Doze) : (d.wakeDomains z).clk.switching = d.clk.switching := by
  unfold Dev.wakeDomains
  exact (GrantRel.foldl turnOn_grant _ _).switching

theorem wakeStepped_switching (d : Dev) : d.wakeStepped.clk.switching = d.clk.switching := by
  unfold Dev.wakeStepped Dev.wakeMem
  repeat' split
  · exact wakeDomains_switching d _
  · exact (startPll_grant _ _).switching
  · rfl
  · rfl

theorem dvfsEnd_switching (d : Dev) : d.dvfsEnd.clk.switching = d.clk.switching := by
  unfold Dev.dvfsEnd
  dsimp only
  split
  · exact wakeStepped_switching _
  · split
    · exact wakeStepped_switching _
    · exact (dvfsBegin_switching ..).trans (wakeStepped_switching _)

end Sys2Proof.Machine
end

section
/-! THEOREM. Clock switches, forced gates, CLK_OUT and the frequency measurement (R405 to R409, R418, R419). -/

namespace Sys2Proof.Machine

set_option Elab.async false

/-! ## Switches -/

theorem outFalls_frame (e d : Dev) : e.outFalls d = { d with sent := (e.outFalls d).sent } := by
  unfold Dev.outFalls
  split <;> rfl

theorem outFalls_clk (e d : Dev) : (e.outFalls d).clk = d.clk := by rw [outFalls_frame]

theorem hostStarts_point (d : Dev) : PointRel d d.hostStarts ∧ d.hostStarts.clk.switching = d.clk.switching := by
  unfold Dev.hostStarts
  split
  · refine ⟨askToken_point d 2 hstOwner, ?_⟩
    rw [(askToken_grant d 2 hstOwner).switching, wantToken_eq]
  · exact ⟨.refl d, rfl⟩

theorem dvfsStarted_grant (d : Dev) : GrantRel d d.dvfsStarted := by
  unfold Dev.dvfsStarted
  split
  · split
    · exact dvfsRun_grant d _ _
    · exact .refl d
  · exact .refl d

theorem voutCommand_grant (d : Dev) (p : Nat) : GrantRel d (d.voutCommand p) := pmbusWrite_grant d _ _

theorem dvfsSwitched_clk (d : Dev) : d.dvfsSwitched.clk.coreSrc = d.clk.coreSrc ∧ d.dvfsSwitched.clk.switching = d.clk.switching := by
  unfold Dev.dvfsSwitched
  split
  · split
    · dsimp only
      split
      · exact ⟨by rw [(voutCommand_grant _ _).clk], by rw [(voutCommand_grant _ _).clk]⟩
      · exact ⟨by rw [(dvfsEnd_point _).clk], by rw [dvfsEnd_switching]⟩
    · exact ⟨rfl, rfl⟩
  · exact ⟨rfl, rfl⟩

/-- A finished switch: its selector is no longer busy, and has its target. -/
theorem finishSwitch_effect (d : Dev) (sel : Selector) (k : Nat) :
    (d.finishSwitch sel k).clk.switching = d.otherSwitches sel ∧
    (sel = .ref → (d.finishSwitch sel k).clk.refXtal = (k == 1)) ∧ (sel = .core → (d.finishSwitch sel k).clk.coreSrc = k) ∧
    (sel = .out → (d.finishSwitch sel k).clk.outNow = k) ∧ (sel = .meas → (d.finishSwitch sel k).clk.measNow = k) := by
  unfold Dev.finishSwitch
  dsimp only
  cases sel with
  | ref =>
    dsimp only
    have h2 := startPll_grant { d with clk := { d.clk with switching := d.otherSwitches .ref, refXtal := k == 1 } } 2
    split
    · have h3 := startPll_grant (Dev.startPll { d with clk := { d.clk with switching := d.otherSwitches .ref, refXtal := k == 1 } } 2) 3
      obtain ⟨hp, hs⟩ := hostStarts_point ((Dev.startPll
        { d with clk := { d.clk with switching := d.otherSwitches .ref, refXtal := k == 1 } } 2).startPll 3)
      exact ⟨by rw [hs, h3.switching, h2.switching], fun _ => by rw [hp.clk, h3.clk, h2.clk], by simp, by simp, by simp⟩
    · exact ⟨by rw [h2.switching], fun _ => by rw [h2.clk], by simp, by simp, by simp⟩
  | core =>
    dsimp only
    split
    · have h := dvfsStarted_grant { d with clk := { d.clk with switching := d.otherSwitches .core, coreSrc := k } }
      exact ⟨by rw [h.switching], by simp, fun _ => by rw [h.clk], by simp, by simp⟩
    · obtain ⟨hc, hs⟩ := dvfsSwitched_clk ((Dev.stopPll
        { d with clk := { d.clk with switching := d.otherSwitches .core, coreSrc := k } } (2 + d.clk.coreSrc)))
      exact ⟨hs, by simp, fun _ => hc, by simp, by simp⟩
  | out => exact ⟨by rw [outFalls_clk], by simp, by simp, fun _ => by rw [outFalls_clk], by simp⟩
  | meas => exact ⟨rfl, by simp, by simp, by simp, fun _ => rfl⟩

theorem otherSwitches_idle (d : Dev) (sel : Selector) : (d.otherSwitches sel).any (fun e => e.1 = sel) = false := by
  simp [Dev.otherSwitches]

theorem finishSwitch_idle (d : Dev) (sel : Selector) (k : Nat) : (d.finishSwitch sel k).switchBusy sel = false := by
  rw [Dev.switchBusy, (finishSwitch_effect d sel k).1, otherSwitches_idle]

theorem clockSwitch_finishes (d : Dev) {sel : Selector} {k : Nat} (ht : d.switchTarget sel = some k) (ho : d.oldStopped sel = false) :
    clockSwitch sel d = d.finishSwitch sel k := by
  simp [clockSwitch, ht, ho]

theorem forced_finishes (d : Dev) {sel : Selector} {k : Nat} (ht : d.switchTarget sel = some k)
    (ho : d.oldStopped sel = true ∨ d.oldCode sel = some 23) :
    forced sel d = ((d.finishSwitch sel k).set (forcedBit sel) 1).raise R.CLK_EVT.FORCED := by
  have hcond : (d.oldStopped sel || d.oldCode sel == some 23) = true := by
    rcases ho with ho | ho <;> simp [ho]
  simp [forced, ht, hcond]

theorem forcedBit_apart (sel : Selector) : fieldsApart R.CLK_EVT.FORCED (forcedBit sel) = true ∧ fieldOk (forcedBit sel) = true := by
  cases sel with
  | ref => exact ⟨by decide, by decide⟩
  | core => exact ⟨by decide, by decide⟩
  | out => exact ⟨by decide, by decide⟩
  | meas => exact ⟨by decide, by decide⟩

theorem forced_flags (d : Dev) (sel : Selector) :
    ((d.set (forcedBit sel) 1).raise R.CLK_EVT.FORCED).flag R.CLK_EVT.FORCED = true ∧
    ((d.set (forcedBit sel) 1).raise R.CLK_EVT.FORCED).flag (forcedBit sel) = true := by
  refine ⟨flag_raise_self _ _ (by decide), ?_⟩
  rw [Dev.flag, get_raise_far _ _ _ (forcedBit_apart sel).1, ← Dev.flag]
  exact flag_raise_self d _ (forcedBit_apart sel).2

/-! ## Forced gates -/

/-- What a bit of the write leaves: the other gates, and whether a domain is in use. -/
theorem gateBit_other (v : BitVec 11) (d : Dev) {b c : Nat} (h : c ≠ b) :
    (d.gateBit v b).clk.gate.getLsbD c = d.clk.gate.getLsbD c ∧ (d.gateBit v b).clk.closed.getLsbD c = d.clk.closed.getLsbD c := by
  unfold Dev.gateBit
  repeat' split
  · exact ⟨getLsbD_putBit_ne _ _ _ _ h, getLsbD_putBit_ne _ _ _ _ h⟩
  · exact ⟨rfl, rfl⟩
  · exact ⟨rfl, rfl⟩
  · exact ⟨getLsbD_putBit_ne _ _ _ _ h, rfl⟩

theorem gateInUse_congr {d e : Dev} (hp : e.ports = d.ports) (ht : e.tw = d.tw)
    (hf : ∀ f : FieldRef, f.ofs ≠ R.CLK_EVT.GATE_REFUSED.ofs → e.get f = d.get f) (b : Nat) : e.gateInUse b = d.gateInUse b := by
  have hbusy : ∀ n, e.portBusy n = d.portBusy n := by
    intro n
    rw [Dev.portBusy, Dev.portBusy, port_of_ports hp ht, Dev.flag, Dev.flag, hf]
    show 0x80004 + n * 0x2000 ≠ 0x200C
    omega
  simp only [Dev.gateInUse, hbusy]
  rw [hf _ (by decide), Dev.flag, Dev.flag, hf _ (by decide)]

theorem gateBit_inUse (v : BitVec 11) (d : Dev) (b c : Nat) : (d.gateBit v b).gateInUse c = d.gateInUse c := by
  unfold Dev.gateBit
  split
  · rfl
  · split
    · rfl
    · split
      · refine gateInUse_congr (d := d) (e := d.raise R.CLK_EVT.GATE_REFUSED) rfl rfl (fun f hf => get_raise_far d _ f ?_) c
        simp [fieldsApart, hf]
      · rfl

/-- The bit's own gate: released, or taken where its domain is not in use. -/
theorem gateBit_self (v : BitVec 11) (d : Dev) {b : Nat} (hb : b < 11) :
    (v.getLsbD b = false → (d.gateBit v b).clk.gate.getLsbD b = false ∧ (d.gateBit v b).clk.closed.getLsbD b = false) ∧
    (v.getLsbD b = true → d.gateInUse b = false → (d.gateBit v b).clk.gate.getLsbD b = true) := by
  unfold Dev.gateBit
  refine ⟨fun hv => ?_, fun hv hu => ?_⟩
  · rw [if_pos (by simp [hv])]
    exact ⟨getLsbD_putBit_same _ _ _ hb, getLsbD_putBit_same _ _ _ hb⟩
  · rw [if_neg (by simp [hv])]
    split
    · next h => exact h
    · rw [if_neg (by simp [hu])]
      exact getLsbD_putBit_same _ _ _ hb

theorem gateBits_effect (v : BitVec 11) (l : List Nat) (d : Dev) {b : Nat} (hb : b < 11) (hl : b ∈ l) (hn : l.Nodup) :
    (v.getLsbD b = false → (l.foldl (Dev.gateBit v) d).clk.gate.getLsbD b = false ∧
      (l.foldl (Dev.gateBit v) d).clk.closed.getLsbD b = false) ∧
    (v.getLsbD b = true → d.gateInUse b = false → (l.foldl (Dev.gateBit v) d).clk.gate.getLsbD b = true) := by
  have hrest : ∀ (l : List Nat) (e : Dev), b ∉ l → (l.foldl (Dev.gateBit v) e).clk.gate.getLsbD b = e.clk.gate.getLsbD b ∧
      (l.foldl (Dev.gateBit v) e).clk.closed.getLsbD b = e.clk.closed.getLsbD b := by
    intro l
    induction l with
    | nil => exact fun e _ => ⟨rfl, rfl⟩
    | cons c l ih =>
      intro e hb
      obtain ⟨hne, hl⟩ := not_or.mp (fun h => hb (List.mem_cons.mpr h))
      obtain ⟨hg, hc⟩ := gateBit_other v e hne
      exact ⟨(ih _ hl).1.trans hg, (ih _ hl).2.trans hc⟩
  induction l generalizing d with
  | nil => cases hl
  | cons c l ih =>
    obtain ⟨hc, hn⟩ := List.nodup_cons.mp hn
    rcases List.mem_cons.mp hl with rfl | hl
    · obtain ⟨hoff, hon⟩ := gateBit_self v d hb
      obtain ⟨hg, hcl⟩ := hrest l (d.gateBit v b) hc
      exact ⟨fun hv => ⟨hg.trans (hoff hv).1, hcl.trans (hoff hv).2⟩, fun hv hu => hg.trans (hon hv hu)⟩
    · obtain ⟨hoff, hon⟩ := ih (d.gateBit v c) hl hn
      exact ⟨hoff, fun hv hu => hon hv (by rw [gateBit_inUse, hu])⟩

/-! ## CLK_OUT and the measurement -/

theorem startSwitch_get (d : Dev) (s : Selector) (t : Nat) {f : FieldRef} (hf : f.ofs ∉ grantEvents) :
    (d.startSwitch s t).get f = d.get f := (startSwitch_point d s t).get hf

theorem clkOutCfgWrite_ok (v : Word) (d : Dev) (h : d.clkOutOk (bits v.toNat 4 0) (bits v.toNat 17 8) = true) :
    (clkOutCfgWrite v d).get R.CLK_OUT_CFG.SEL = bits v.toNat 4 0 ∧
    (clkOutCfgWrite v d).get R.CLK_OUT_CFG.DIV_M1 = bits v.toNat 17 8 := by
  have hsel : ((d.set R.CLK_OUT_CFG.SEL (bits v.toNat 4 0)).set R.CLK_OUT_CFG.DIV_M1 (bits v.toNat 17 8)).get R.CLK_OUT_CFG.SEL =
      bits v.toNat 4 0 := by
    rw [get_set_far _ _ _ _ (by decide), get_set_self _ _ _ (by decide)]
    exact Nat.mod_mod _ _
  have hdiv : ((d.set R.CLK_OUT_CFG.SEL (bits v.toNat 4 0)).set R.CLK_OUT_CFG.DIV_M1 (bits v.toNat 17 8)).get R.CLK_OUT_CFG.DIV_M1 =
      bits v.toNat 17 8 := by
    rw [get_set_self _ _ _ (by decide)]
    exact Nat.mod_mod _ _
  unfold clkOutCfgWrite
  dsimp only
  rw [if_pos h]
  split
  · rw [startSwitch_get _ _ _ (by decide), startSwitch_get _ _ _ (by decide)]
    exact ⟨hsel, hdiv⟩
  · exact ⟨hsel, hdiv⟩

theorem clkOutCfgWrite_refused (v : Word) (d : Dev) (h : ¬ d.clkOutOk (bits v.toNat 4 0) (bits v.toNat 17 8) = true) :
    clkOutCfgWrite v d = d.raise R.CLK_EVT.OUT_REFUSED := if_neg h

theorem switchOk_congr {d e : Dev} (h : e.clk = d.clk) (s : Selector) (t : Nat) : e.switchOk s t = d.switchOk s t := by
  cases s <;> simp only [Dev.switchOk, Dev.switchBusy, Dev.switchSource, Dev.domainSource, Dev.srcReady, h]

theorem clkMeasGo_starts (sel : Nat) (d : Dev) (hm : d.clk.measuring = false) (hs : sel ≤ 24) (hok : d.switchOk .meas sel = true) :
    clkMeasGo sel d = (Dev.startSwitch { (d.set R.CLK_MEAS_CTRL.SEL sel).set R.CLK_MEAS.DONE 0 with
      clk := { d.clk with measuring := true } } .meas sel) := by
  have hclk : (d.set R.CLK_MEAS_CTRL.SEL sel).clk = d.clk := Dev.set_clk ..
  unfold clkMeasGo
  generalize d.set R.CLK_MEAS_CTRL.SEL sel = e at hclk ⊢
  dsimp only
  rw [hclk, if_neg (Bool.eq_false_iff.mp hm), if_pos ⟨hs, by rw [switchOk_congr hclk, hok]⟩, Dev.set_clk, hclk]

/-- The switch to the domain counted changes nothing of the measurement. -/
theorem measSwitch_effect (e : Dev) (c : Clk) (sel : Nat) (hd : e.get R.CLK_MEAS.DONE = 0) (hm : c.measuring = true) :
    (Dev.startSwitch { e with clk := c } .meas sel).clk.measuring = true ∧
    (Dev.startSwitch { e with clk := c } .meas sel).get R.CLK_MEAS.DONE = 0 := by
  refine ⟨?_, ?_⟩
  · rw [(startSwitch_point _ _ _).clk]
    exact hm
  · rw [startSwitch_get _ _ _ (by decide)]
    exact (get_of_regs (d := e) rfl rfl _).trans hd

theorem clkMeasGo_effect (sel : Nat) (d : Dev) (hm : d.clk.measuring = false) (hs : sel ≤ 24) (hok : d.switchOk .meas sel = true) :
    (clkMeasGo sel d).clk.measuring = true ∧ (clkMeasGo sel d).get R.CLK_MEAS.DONE = 0 := by
  rw [clkMeasGo_starts sel d hm hs hok]
  exact measSwitch_effect _ _ sel (get_set_self _ _ 0 (by decide)) rfl

theorem measDone_effect (khz : Nat) (d : Dev) (hm : d.clk.measuring = true) :
    (measDone khz d).clk.measuring = false ∧ (measDone khz d).get R.CLK_MEAS.DONE = 1 ∧
    (measDone khz d).get R.CLK_MEAS.KHZ = khz % 2 ^ (R.CLK_MEAS.KHZ.hi + 1) ∧ (measDone khz d).flag R.CLK_EVT.MEAS_DONE = true := by
  unfold measDone
  rw [if_neg (by simp [hm])]
  refine ⟨rfl, ?_, ?_, flag_raise_self _ _ (by decide)⟩
  · rw [get_raise_far _ _ _ (by decide), get_set_self _ _ _ (by decide)]
    rfl
  · rw [get_raise_far _ _ _ (by decide), get_set_far _ _ _ _ (by decide), get_set_self _ _ _ (by decide)]
    rfl

/-- Settles O10: each command's own branch; a finished switch is followed by what waited for it, which starts no switch. -/
theorem switchesAndGates : Obligations.SwitchesAndGates := by
  unfold Obligations.SwitchesAndGates
  refine ⟨?_, ?_, ?_, ?_, ?_, ?_, ?_⟩
  · intro sel k s ha ht ho
    refine ⟨_, onDev_awake ha _, ?_⟩
    rw [State.setDev_dev, Dev.switchBusy, settle_clk, ← Dev.switchBusy, clockSwitch_finishes _ ht ho]
    exact ⟨finishSwitch_idle _ _ _, (finishSwitch_effect _ _ _).2⟩
  · intro sel k s ha ht ho
    refine ⟨_, onDev_awake ha _, ?_⟩
    rw [State.setDev_dev, Dev.switchBusy, settle_clk, ← Dev.switchBusy, settle_flag, settle_flag, forced_finishes _ ht ho]
    exact ⟨finishSwitch_idle _ _ _, forced_flags _ sel⟩
  · intro src gate s hr
    refine ⟨_, onDev_write hr src _, fun b hb => ?_⟩
    rw [State.setDev_dev, settle_clk, Dev.emit_clk]
    exact gateBits_effect gate _ s.dev hb (List.mem_range.mpr hb) List.nodup_range
  · intro b s ha hb hg
    refine ⟨_, onDev_awake ha _, ?_⟩
    rw [State.setDev_dev, settle_clk, gateClose, if_pos ⟨hb, hg⟩, outFalls_clk]
    exact getLsbD_putBit_same _ _ _ hb
  · intro src v s hr
    refine ⟨_, onDev_write hr src _, ?_⟩
    rw [State.setDev_dev, settle_get, settle_get, settle_flag, emit_get, emit_get, emit_flag]
    split
    · next h => exact clkOutCfgWrite_ok v s.dev h
    · next h =>
      rw [clkOutCfgWrite_refused v s.dev h]
      exact ⟨get_raise_far _ _ _ (by decide), get_raise_far _ _ _ (by decide), flag_raise_self _ _ (by decide)⟩
  · intro src sel s hr hm hs hok
    refine ⟨_, onDev_write hr src _, ?_⟩
    rw [State.setDev_dev, settle_clk, settle_get, emit_get, Dev.emit_clk]
    exact clkMeasGo_effect sel s.dev hm hs hok
  · intro khz s ha hm
    refine ⟨_, onDev_awake ha _, ?_⟩
    rw [State.setDev_dev, settle_clk, settle_get, settle_get, settle_flag]
    exact measDone_effect khz s.dev hm

end Sys2Proof.Machine
end

section
/-! SUPPORT. What the departure engine's releases, records and cancels change: the timetable and what it sends (R258 to R273). -/

namespace Sys2Proof.Machine

set_option Elab.async false

/-- The registers that releases, records and cancels can change. -/
def depRegs : List Nat := R.DEP_EVT.MISSED.ofs :: R.DEP_DROP_CNT.DROP.ofs :: recordRegs 0 ++ recordRegs 1 ++ recordRegs 2

/-- The device after a part of a release, a record or a cancel. -/
structure DepRel (d e : Dev) : Prop where
  frame : e = { d with regs := e.regs, que := e.que, pmu := e.pmu, cnf := e.cnf, hie := e.hie, twn := e.twn, ports := e.ports,
                       tw := e.tw, sent := e.sent, dep := e.dep }
  cnf : e.cnf = { d.cnf with txns := e.cnf.txns, owedWb := e.cnf.owedWb }
  hie : e.hie = { d.hie with depCredits := e.hie.depCredits }
  twn : e.twn = { d.twn with held := e.twn.held, items := e.twn.items, lines := e.twn.lines }
  dep : e.dep = { d.dep with table := e.dep.table, stale := e.dep.stale, done := e.dep.done }
  bank : ∀ o, o ∉ depRegs → bankGet e.regs o = bankGet d.regs o
  event : ∀ b, (d.raw R.DEP_EVT.MISSED.ofs).getLsbD b = true → (e.raw R.DEP_EVT.MISSED.ofs).getLsbD b = true
  ports : e.ports.length = d.ports.length
  queLen : e.que.q.length = d.que.q.length
  records : (d.queue 1).recs <+: (e.queue 1).recs
  sent : d.sent <:+ e.sent

theorem DepRel.refl (d : Dev) : DepRel d d :=
  ⟨rfl, rfl, rfl, rfl, rfl, fun _ _ => rfl, fun _ h => h, rfl, rfl, List.prefix_refl _, List.suffix_refl _⟩

theorem DepRel.trans {a b c : Dev} (h : DepRel a b) (k : DepRel b c) : DepRel a c where
  frame := by rw [k.frame, h.frame]
  cnf := by rw [k.cnf, h.cnf]
  hie := by rw [k.hie, h.hie]
  twn := by rw [k.twn, h.twn]
  dep := by rw [k.dep, h.dep]
  bank o ho := (k.bank o ho).trans (h.bank o ho)
  event i hi := k.event i (h.event i hi)
  ports := k.ports.trans h.ports
  queLen := k.queLen.trans h.queLen
  records := h.records.trans k.records
  sent := h.sent.trans k.sent

theorem DepRel.foldl {α : Type} {f : Dev → α → Dev} (h : ∀ d x, DepRel d (f d x)) (l : List α) (d : Dev) :
    DepRel d (l.foldl f d) := by
  induction l generalizing d with
  | nil => exact .refl d
  | cons x l ih => exact (h d x).trans (ih _)

theorem recordRegs_depRegs {n : Nat} (hn : n < 3) {o : Nat} (h : o ∈ recordRegs n) : o ∈ depRegs := by
  simp only [depRegs, List.mem_cons, List.mem_append]
  match n, hn with
  | 0, _ => simp [h]
  | 1, _ => simp [h]
  | 2, _ => simp [h]

theorem raw_of_bank {d e : Dev} {o : Nat} (h : bankGet e.regs o = bankGet d.regs o) (hr : e.gcr.role = d.gcr.role) :
    e.raw o = d.raw o := by rw [Dev.raw, Dev.raw, h, hr]

theorem SendRel.depRel {d e : Dev} (h : SendRel d e) : DepRel d e where
  frame := by rw [h.frame]
  cnf := by rw [h.cnf]
  hie := h.hie
  twn := by rw [h.twn]
  dep := by rw [h.dep]
  bank o ho := h.bank o fun hm => ho (recordRegs_depRegs (by decide) hm)
  event b hb := by rwa [raw_of_bank (h.bank _ (by decide)) (by rw [h.gcr])]
  ports := h.ports
  queLen := h.queues.1
  records := by rw [h.queues.2 1 (by decide)]
  sent := h.sent

/-- Records of a queue other than the departures' own. -/
theorem RecordRel.depRel {d e : Dev} {l : List Nat} (h : RecordRel l d e) (hl : ∀ o ∈ l, o ∈ depRegs)
    (he : R.DEP_EVT.MISSED.ofs ∉ l) (hlen : e.que.q.length = d.que.q.length) (hrec : (d.queue 1).recs <+: (e.queue 1).recs) :
    DepRel d e where
  frame := by rw [h.frame]
  cnf := by rw [h.frame]
  hie := by rw [h.frame]
  twn := by rw [h.frame]
  dep := by rw [h.frame]
  bank o ho := h.bank o fun hm => ho (hl o hm)
  event b hb := by rwa [raw_of_bank (h.bank _ he) (by rw [h.frame])]
  ports := by rw [h.frame]
  queLen := hlen
  records := hrec
  sent := by rw [h.frame]

theorem mirror_dep (d : Dev) (i : Item) : DepRel d (d.mirror i) := by
  unfold Dev.mirror
  split
  · exact ⟨rfl, rfl, rfl, rfl, rfl, fun _ _ => rfl, fun _ h => h, rfl, rfl, List.prefix_refl _, List.suffix_refl _⟩
  · exact .refl d

/-- A change of the timetable, the announcements or the answered requests. -/
theorem DepRel.of_dep (d : Dev) (x : DepS) (h : x = { d.dep with table := x.table, stale := x.stale, done := x.done }) :
    DepRel d { d with dep := x } :=
  ⟨rfl, rfl, rfl, rfl, h, fun _ _ => rfl, fun _ h => h, rfl, rfl, List.prefix_refl _, List.suffix_refl _⟩

theorem setDeps_dep (d : Dev) (l : List Dep) : DepRel d (d.setDeps l) := .of_dep d _ rfl

theorem putDep_dep (d : Dev) (e : Dep) : DepRel d (d.putDep e) := setDeps_dep d _

theorem pumpDep_send (d : Dev) (e : Dep) : SendRel d (d.pumpDep e) := by
  unfold Dev.pumpDep
  split
  · exact .refl d
  · exact .foldl pump_send _ _

/-- The record of a queue is appended to it, or the queue stays. -/
theorem push_records (d : Dev) (n : Nat) (r : List Word) : (d.queue n).recs <+: ((d.push n r).queue n).recs := by
  unfold Dev.push
  dsimp only
  split
  · exact List.prefix_refl _
  · split
    · exact List.prefix_refl _
    · rw [Dev.queue, Dev.queue, Dev.raiseIf_que, Dev.setQueue]
      by_cases hn : n < d.que.q.length
      · simp [hn]
      · rw [List.set_eq_of_length_le (Nat.not_lt.mp hn)]

theorem push_dep (d : Dev) (r : List Word) : DepRel d (d.push 1 r) :=
  (push_record d 1 r).depRel (fun _ h => recordRegs_depRegs (by decide) h) (by decide) (push_queuesBut d 1 r).1 (push_records d 1 r)

theorem dropDep_dep (d : Dev) (e : Dep) : DepRel d (d.dropDep e) := by
  have horphan : DepRel d { d with cnf := { d.cnf with txns := d.cnf.txns.map (orphanRead e.idx) } } :=
    ⟨rfl, rfl, rfl, rfl, rfl, fun _ _ => rfl, fun _ h => h, rfl, rfl, List.prefix_refl _, List.suffix_refl _⟩
  exact (horphan.trans (setDeps_dep _ _)).trans (pumpDep_send _ e).depRel

theorem recordDep_dep (d : Dev) (e : Dep) (o : DepOut) : DepRel d (d.recordDep e o) :=
  (((push_dep d _).trans (dropDep_dep _ e)).trans (mirror_dep _ _)).trans (.of_dep _ _ rfl)

theorem tell_dep (d : Dev) (n : Nat) (m : Msg) : DepRel d (d.tell n m) := (tell_send d n m).depRel

theorem respond_send (d : Dev) (o : Origin) (f : Nat → Msg) : SendRel d (d.respond o f) := by
  unfold Dev.respond
  split
  · exact tell_send ..
  · exact .refl d

theorem setStale_dep (d : Dev) (l : List (Nat × Nat × Bool)) : DepRel d (d.setStale l) :=
  (DepRel.of_dep d { d.dep with stale := l } rfl).trans (mirror_dep _ _)

theorem unannounce_dep (d : Dev) (e : Dep) (adm : Bool) : DepRel d (d.unannounce e adm) := by
  unfold Dev.unannounce
  dsimp only
  refine (DepRel.foldl (fun d k => tell_dep d (d.slotPort k) (.depCancel e.cidx adm)) e.accepted d).trans ?_
  split
  · exact .refl _
  · exact setStale_dep _ _

theorem cancelDep_dep (d : Dev) (e : Dep) : DepRel d (d.cancelDep e) := by
  unfold Dev.cancelDep
  dsimp only
  refine DepRel.trans ?_ (recordDep_dep _ e _)
  have hanswer : DepRel d (if e.phase = .announcing then d.respond e.org (fun q => .ack q e.tag .I 0 none) else d) := by
    split
    · exact (respond_send ..).depRel
    · exact .refl d
  have htold : ∀ x : Dev, DepRel x (if x.gcr.role = .manager then x.unannounce e true else x) := by
    intro x
    split
    · exact unannounce_dep ..
    · exact .refl x
  exact hanswer.trans (htold _)

theorem cancelUnstarted_dep (d : Dev) : DepRel d d.cancelUnstarted := .foldl cancelDep_dep _ _

/-! ## Events and counters -/

theorem set_dep (d : Dev) (f : FieldRef) (v : Nat) (hf : f.ofs ∈ depRegs) (he : f.ofs ≠ R.DEP_EVT.MISSED.ofs) :
    DepRel d (d.set f v) := by
  have hne : ∀ o, o ≠ f.ofs → bankGet (d.set f v).regs o = bankGet d.regs o := fun o ho => bankGet_bankSet_ne _ _ _ _ ho
  exact ⟨rfl, rfl, rfl, rfl, rfl, fun o ho => hne o fun h => ho (h ▸ hf),
    fun b hb => by rwa [raw_of_bank (hne _ (Ne.symm he)) rfl], rfl, rfl, List.prefix_refl _, List.suffix_refl _⟩

theorem raise_dep (d : Dev) {f : FieldRef} (hf : f.ofs = R.DEP_EVT.MISSED.ofs) (hok : fieldOk f = true) (hb : f.hi = f.lo) :
    DepRel d (d.raise f) := by
  have hne : ∀ o, o ≠ f.ofs → bankGet (d.raise f).regs o = bankGet d.regs o := fun o ho => bankGet_bankSet_ne _ _ _ _ ho
  refine ⟨rfl, rfl, rfl, rfl, rfl, fun o ho => hne o fun h => ho (by rw [h, hf]; decide), fun b hbit => ?_, rfl, rfl,
    List.prefix_refl _, List.suffix_refl _⟩
  rw [← hf] at hbit ⊢
  exact raise_keeps_bit hok hb hbit

theorem raiseIf_dep (d : Dev) (c : Bool) {f : FieldRef} (hf : f.ofs = R.DEP_EVT.MISSED.ofs) (hok : fieldOk f = true)
    (hb : f.hi = f.lo) : DepRel d (d.raiseIf c f) := by
  cases c with
  | false => exact .refl d
  | true => exact raise_dep d hf hok hb

theorem evq_queues (d : Dev) (src inst sub a b : Nat) : QueuesBut 0 d (d.evq src inst sub a b) := by
  unfold Dev.evq Dev.evqRaw
  dsimp only
  split
  · exact .refl 0 d
  · exact (push_queuesBut d 0 _).trans ⟨rfl, fun _ _ => rfl⟩

theorem evq_dep (d : Dev) (src inst sub a b : Nat) : DepRel d (d.evq src inst sub a b) := by
  have hq := evq_queues d src inst sub a b
  exact (evq_record d src inst sub a b).depRel (fun _ h => recordRegs_depRegs (by decide) h) (by decide) hq.1
    (by rw [hq.2 1 (by decide)])

theorem report_dep (d : Dev) {f : FieldRef} (inst sub a b : Nat) (hf : f.ofs = R.DEP_EVT.MISSED.ofs) (hok : fieldOk f = true)
    (hb : f.hi = f.lo) : DepRel d (d.report f inst sub a b) := (raise_dep d hf hok hb).trans (evq_dep ..)

/-! ## Releases -/

theorem dropCopy_dep (d : Dev) (e : Dep) (n : Nat) : DepRel d (d.dropCopy e n).2 :=
  (report_dep d (f := R.DEP_EVT.PORT_DROP) n 0 0 e.dtag rfl (by decide) rfl).trans
    (set_dep _ R.DEP_DROP_CNT.DROP _ (by decide) (by decide))

theorem setPort_dep (d : Dev) (n : Nat) (p : Port) : DepRel d (d.setPort n p) where
  frame := by rw [setPort_frame]
  cnf := by rw [setPort_frame]
  hie := by rw [setPort_frame]
  twn := by rw [setPort_frame]
  dep := by rw [setPort_frame]
  bank _ _ := by rw [setPort_frame]
  event b hb := by rwa [raw_of_bank (by rw [setPort_frame]) (by rw [setPort_frame])]
  ports := setPort_ports_length d n p
  queLen := by rw [setPort_frame]
  records := by rw [setPort_frame]; exact List.prefix_refl _
  sent := by rw [setPort_frame]

theorem depFlit_send (n : Nat) (d : Dev) (l : List DepSlot) : SendRel d (Dev.depFlit n d l) :=
  ((dataOut_send ..).trans (pmu1_send ..)).trans (pmu1_send ..)

theorem sendLines_send (d : Dev) (n : Nat) (e : Dep) (l : List Boarded) : SendRel d (d.sendLines n e l) :=
  .foldl (fun d b => emit_send d (.msg n (.depData e.cidx b))) l d

theorem slotsBetween_dep (n k : Nat) (l : List Msg) (blocked : List (Option Nat)) (s : List DepSlot) (d : Dev) (keep : List Msg) :
    DepRel d (Dev.slotsBetween n k l blocked s d keep).2 := by
  induction l generalizing k blocked s d keep with
  | nil =>
    unfold Dev.slotsBetween
    exact setPort_dep ..
  | cons m l ih =>
    unfold Dev.slotsBetween
    split
    · exact (sendOff_send d n m).depRel.trans (ih ..)
    · exact ih ..

theorem slotsBetween_sent (n k : Nat) (l : List Msg) (blocked : List (Option Nat)) (s : List DepSlot) (d : Dev) (keep : List Msg) :
    (Dev.slotsBetween n k l blocked s d keep).2.dep = d.dep := by
  induction l generalizing k blocked s d keep with
  | nil =>
    unfold Dev.slotsBetween
    rw [setPort_frame]
  | cons m l ih =>
    unfold Dev.slotsBetween
    split
    · rw [ih, (sendOff_send d n m).dep]
    · exact ih ..

theorem mirror_depS (d : Dev) (i : Item) : (d.mirror i).dep = d.dep := by
  unfold Dev.mirror
  split <;> rfl

/-- A start sends the release itself, and leaves the timetable to its caller. -/
theorem startOn_effect (d : Dev) (e : Dep) (n : Nat) :
    DepRel d (d.startOn e n).2 ∧ (d.startOn e n).2.dep = d.dep ∧
    (d.startOn e n).1 = { e with started := e.started ++ [(n, d.bel.now)], phase := .releasing } ∧
    (.msg n (.depRel e e.flagLate)) :: d.sent <:+ (d.startOn e n).2.sent := by
  unfold Dev.startOn
  dsimp only
  have hfirst : ∀ x : Dev, DepRel x (if e.started.isEmpty then x.mirror (.released e.idx) else x) ∧
      (if e.started.isEmpty then x.mirror (.released e.idx) else x).dep = x.dep ∧
      (if e.started.isEmpty then x.mirror (.released e.idx) else x).sent = x.sent ∧
      (if e.started.isEmpty then x.mirror (.released e.idx) else x).bel = x.bel := by
    intro x
    split
    · exact ⟨mirror_dep x _, mirror_depS x _, by rw [Dev.mirror_sent], by rw [Dev.mirror_bel]⟩
    · exact ⟨.refl x, rfl, rfl, rfl⟩
  obtain ⟨hrel, hdep, hsent, hbel⟩ := hfirst d
  generalize (if e.started.isEmpty then d.mirror (.released e.idx) else d) = x at hrel hdep hsent hbel ⊢
  have hemit : DepRel x (x.emit (.msg n (.depRel e e.flagLate))) := (emit_send x _).depRel
  have hslots := slotsBetween_dep n 6 (x.port n).txq [] [] (x.emit (.msg n (.depRel e e.flagLate))) []
  have hslotsDep := slotsBetween_sent n 6 (x.port n).txq [] [] (x.emit (.msg n (.depRel e e.flagLate))) []
  generalize Dev.slotsBetween n 6 (x.port n).txq [] [] (x.emit (.msg n (.depRel e e.flagLate))) [] = r at hslots hslotsDep ⊢
  have hport := setPort_dep r.2 n { r.2.port n with cut := (depSecond e).drop (6 - r.1.length) }
  have hportDep : (r.2.setPort n { r.2.port n with cut := (depSecond e).drop (6 - r.1.length) }).dep = r.2.dep := by
    rw [setPort_frame]
  generalize r.2.setPort n { r.2.port n with cut := (depSecond e).drop (6 - r.1.length) } = y at hport hportDep ⊢
  have hflit := ((depFlit_send n y (depFirst e ++ r.1 ++ (depSecond e).take (6 - r.1.length))).trans
    (pmu1_send _ (0x080 + msgOpc (.depRel e e.flagLate)) 1)).trans
    (trace_send _ n true (msgOpc (.depRel e e.flagLate)) 0 (some e.line) 0 false)
  generalize Dev.trace _ n true (msgOpc (.depRel e e.flagLate)) 0 (some e.line) 0 false = z at hflit ⊢
  have hlines := sendLines_send z n e (e.boarded.filter (fun b => b.idx == 0))
  have hafter : DepRel (x.emit (.msg n (.depRel e e.flagLate))) (z.sendLines n e (e.boarded.filter (fun b => b.idx == 0))) :=
    ((hslots.trans hport).trans hflit.depRel).trans hlines.depRel
  refine ⟨(hrel.trans hemit).trans hafter, ?_, ?_, ?_⟩
  · rw [hlines.dep, hflit.dep, hportDep, hslotsDep]
    exact hdep
  · have hb : z.bel = d.bel := by
      rw [hflit.frame]
      show y.bel = d.bel
      rw [hport.frame]
      show r.2.bel = d.bel
      rw [hslots.frame]
      exact hbel
    rw [hb]
  · have h := hafter.sent
    rwa [show (x.emit (.msg n (.depRel e e.flagLate))).sent = .msg n (.depRel e e.flagLate) :: d.sent from congrArg _ hsent] at h

theorem releasePort_dep (r : Dep × Dev) (n : Nat) : DepRel r.2 (Dev.releasePort r n).2 := by
  unfold Dev.releasePort
  dsimp only
  split
  · exact .refl _
  · split
    · exact dropCopy_dep ..
    · split
      · exact raiseIf_dep _ _ rfl (by decide) rfl
      · exact (startOn_effect ..).1

theorem closeDep_dep (d : Dev) (e : Dep) : DepRel d (d.closeDep e) := by
  unfold Dev.closeDep
  split
  · exact recordDep_dep ..
  · exact .refl d

theorem startChain_dep (n k : Nat) (d : Dev) : DepRel d (Dev.startChain n k d) := by
  induction k generalizing d with
  | zero => exact .refl d
  | succ k ih =>
    unfold Dev.startChain
    split
    · next e _ =>
      dsimp only
      split
      · exact (((dropCopy_dep d e n).trans (putDep_dep ..)).trans (closeDep_dep ..)).trans (ih _)
      · exact (startOn_effect d e n).1.trans (putDep_dep ..)
    · exact .refl d

theorem startNexts_dep (d : Dev) (e : Dep) : DepRel d (d.startNexts e) := by
  unfold Dev.startNexts
  split
  · exact .refl d
  · exact .foldl (fun d n => startChain_dep n _ d) _ _

/-! ## What these leave -/

section
variable {d e : Dev} (h : DepRel d e)
include h

theorem DepRel.gcr : e.gcr = d.gcr := by rw [h.frame]

theorem DepRel.get {f : FieldRef} (hf : f.ofs ∉ depRegs) : e.get f = d.get f := by
  rw [Dev.get, Dev.get, raw_of_bank (h.bank _ hf) (by rw [h.gcr])]

theorem DepRel.flag {f : FieldRef} (hf : f.ofs ∉ depRegs) : e.flag f = d.flag f := by rw [Dev.flag, Dev.flag, h.get hf]

/-- An event of the departure engine stays raised. -/
theorem DepRel.raised {f : FieldRef} (hf : f.ofs = R.DEP_EVT.MISSED.ofs) (hb : f.hi = f.lo) (hd : d.flag f = true) :
    e.flag f = true := by
  have hbit : ∀ x : Dev, x.flag f = (x.raw f.ofs).getLsbD f.lo := by
    intro x
    rw [Dev.flag, Dev.get, bits, hb, Nat.add_sub_cancel_left, Nat.pow_one, BitVec.getLsbD, Nat.testBit_eq_decide_div_mod_eq,
      Nat.shiftRight_eq_div_pow]
    rfl
  rw [hbit, hf] at hd ⊢
  exact h.event _ hd

end

/-! ## Entries of the timetable -/

/-- The entries with an index: none, or copies of one. -/
def Dev.solo (d : Dev) (i : Nat) (o : Option Dep) : Prop := d.dep? i = o ∧ ∀ y ∈ d.dep.table, y.idx = i → o = some y

theorem solo_of_dep {d e : Dev} (h : e.dep = d.dep) {i : Nat} {o : Option Dep} (hs : d.solo i o) : e.solo i o := by
  unfold Dev.solo Dev.dep? at hs ⊢
  rwa [h]

theorem mapIf_find_same (l : List Dep) (e : Dep) {x : Dep} (hx : l.find? (fun y => y.idx == e.idx) = some x) :
    (mapIf (fun y => y.idx == e.idx) (fun _ => e) l).find? (fun y => y.idx == e.idx) = some e := by
  unfold mapIf
  induction l with
  | nil => cases hx
  | cons y l ih =>
    by_cases hy : y.idx = e.idx
    · simp [hy]
    · rw [List.find?_cons_of_neg (by simp [hy])] at hx
      rw [List.map_cons, List.find?_cons_of_neg (by simp [hy]), ih hx]

theorem mapIf_find_ne (l : List Dep) (e : Dep) {i : Nat} (hi : i ≠ e.idx) :
    (mapIf (fun y => y.idx == e.idx) (fun _ => e) l).find? (fun y => y.idx == i) = l.find? (fun y => y.idx == i) := by
  unfold mapIf
  induction l with
  | nil => rfl
  | cons y l ih =>
    by_cases hy : y.idx = e.idx
    · have hyi : y.idx ≠ i := fun h => hi (h.symm.trans hy)
      rw [List.map_cons, List.find?_cons_of_neg (by simp [hy, Ne.symm hi]), List.find?_cons_of_neg (by simp [hyi]), ih]
    · by_cases hyi : y.idx = i
      · simp [hyi, hi]
      · rw [List.map_cons, List.find?_cons_of_neg (by simp [hy, hyi]), List.find?_cons_of_neg (by simp [hyi]), ih]

/-- After an entry is put, it stands for all with its index. -/
theorem putDep_solo_same {d : Dev} {e x : Dep} (hx : d.dep? e.idx = some x) : (d.putDep e).solo e.idx (some e) := by
  refine ⟨mapIf_find_same _ e hx, fun y hy hi => ?_⟩
  obtain ⟨z, _, hz⟩ := List.mem_map.mp (show y ∈ (mapIf (fun x => x.idx == e.idx) (fun _ => e) d.dep.table) from hy)
  by_cases h : z.idx = e.idx
  · simp only [h, beq_self_eq_true, if_true] at hz
    rw [hz]
  · simp only [beq_iff_eq, h, if_false] at hz
    exact absurd (hz ▸ hi) h

theorem putDep_solo_ne {d : Dev} {e : Dep} {i : Nat} {o : Option Dep} (hi : i ≠ e.idx) (hs : d.solo i o) : (d.putDep e).solo i o := by
  refine ⟨(mapIf_find_ne _ e hi).trans hs.1, fun y hy hyi => ?_⟩
  obtain ⟨z, hz, hzy⟩ := List.mem_map.mp (show y ∈ (mapIf (fun x => x.idx == e.idx) (fun _ => e) d.dep.table) from hy)
  by_cases h : z.idx = e.idx
  · simp only [h, beq_self_eq_true, if_true] at hzy
    exact absurd (hzy ▸ hyi).symm hi
  · simp only [beq_iff_eq, h, if_false] at hzy
    exact hs.2 y (hzy ▸ hz) hyi

theorem recordDep_table (d : Dev) (e : Dep) (o : DepOut) :
    (d.recordDep e o).dep.table = d.dep.table.filter (fun x => x.idx != e.idx) := by
  have htable : ∀ x : Dev, (x.dropDep e).dep.table = x.dep.table.filter (fun y => y.idx != e.idx) := fun x => by
    unfold Dev.dropDep
    rw [(pumpDep_send _ e).dep]
    rfl
  show (Dev.mirror _ _).dep.table = _
  rw [mirror_depS, htable, (push_record d 1 _).frame]

theorem recordDep_solo_same (d : Dev) (e : Dep) (o : DepOut) : (d.recordDep e o).solo e.idx none := by
  unfold Dev.solo Dev.dep?
  rw [recordDep_table]
  refine ⟨?_, fun y hy hi => ?_⟩
  · rw [List.find?_eq_none]
    intro x hx
    simp only [List.mem_filter, bne_iff_ne] at hx
    simp [hx.2]
  · simp only [List.mem_filter, bne_iff_ne] at hy
    exact absurd hi hy.2

theorem recordDep_solo_ne {d : Dev} {e : Dep} (o : DepOut) {i : Nat} {x : Option Dep} (hi : i ≠ e.idx) (hs : d.solo i x) :
    (d.recordDep e o).solo i x := by
  unfold Dev.solo Dev.dep? at hs ⊢
  rw [recordDep_table]
  refine ⟨?_, fun y hy => hs.2 y (List.mem_of_mem_filter hy)⟩
  rw [← hs.1, List.find?_filter]
  congr 1
  funext y
  by_cases hy : y.idx = i
  · simp [hy, hi]
  · simp [hy]

theorem closeDep_solo_ne {d : Dev} {e : Dep} {i : Nat} {x : Option Dep} (hi : i ≠ e.idx) (hs : d.solo i x) : (d.closeDep e).solo i x := by
  unfold Dev.closeDep
  split
  · exact recordDep_solo_ne _ hi hs
  · exact hs

/-- What waits for a port is an entry in release that has not started there. -/
theorem waiterOn_some {d : Dev} {n : Nat} {e : Dep} (h : d.waiterOn n = some e) :
    e ∈ d.dep.table ∧ e.phase = .releasing ∧ e.ports.contains n = true ∧ e.startedOn n = false ∧ d.blockedOn e n = false := by
  unfold Dev.waiterOn at h
  generalize hl : d.dep.table.filter (fun e => e.phase == .releasing && e.ports.contains n && !e.startedOn n && !e.overOn n &&
      e.stagedLine 0 && !d.blockedOn e n) = l at h
  have hfold : ∀ (l : List Dep) (a : Option Dep), l.foldl (fun a e => match a with
      | some x => if x.before e then some x else some e
      | none => some e) a = some e → e ∈ l ∨ a = some e := by
    intro l
    induction l with
    | nil => exact fun a h => .inr h
    | cons y l ih =>
      intro a h
      rcases ih _ h with h | h
      · exact .inl (List.mem_cons_of_mem _ h)
      · cases a with
        | none =>
          simp only [Option.some.injEq] at h
          exact .inl (h ▸ List.mem_cons_self ..)
        | some x =>
          dsimp only at h
          split at h
          · exact .inr h
          · simp only [Option.some.injEq] at h
            exact .inl (h ▸ List.mem_cons_self ..)
  have hmem : e ∈ l := (hfold l none h).resolve_right (by simp)
  rw [← hl] at hmem
  simp only [List.mem_filter, Bool.and_eq_true, beq_iff_eq, Bool.not_eq_true'] at hmem
  obtain ⟨hin, ⟨⟨⟨⟨hph, hp⟩, hst⟩, _⟩, _⟩, hb⟩ := hmem
  exact ⟨hin, hph, hp, hst, hb⟩

/-- An entry that is not in release keeps its place while others take their turns. -/
theorem startChain_solo (n k : Nat) {d : Dev} {i : Nat} {o : Option Dep} (hs : d.solo i o) (ho : ∀ x, o = some x → x.phase ≠ .releasing) :
    (Dev.startChain n k d).solo i o := by
  induction k generalizing d with
  | zero => exact hs
  | succ k ih =>
    unfold Dev.startChain
    split
    · next e he =>
      obtain ⟨hin, hph, _⟩ := waiterOn_some he
      have hi : i ≠ e.idx := fun h => ho e (hs.2 e hin h.symm) hph
      dsimp only
      split
      · refine ih (closeDep_solo_ne hi (putDep_solo_ne hi (solo_of_dep ?_ hs)))
        have hreport := report_record d R.DEP_EVT.PORT_DROP n 0 0 e.dtag
        show (Dev.bumpSat _ _ _).dep = d.dep
        rw [Dev.bumpSat_dep, hreport.frame]
      · refine putDep_solo_ne ?_ (solo_of_dep (startOn_effect d e n).2.1 hs)
        rw [(startOn_effect d e n).2.2.1]
        exact hi
    · exact hs

theorem startNexts_solo {d : Dev} (e : Dep) {i : Nat} {o : Option Dep} (hs : d.solo i o) (ho : ∀ x, o = some x → x.phase ≠ .releasing) :
    (d.startNexts e).solo i o := by
  unfold Dev.startNexts
  have hfold : ∀ (l : List Nat) (d : Dev), d.solo i o → (l.foldl Dev.startNext d).solo i o := by
    intro l
    induction l with
    | nil => exact fun d hs => hs
    | cons n l ih => exact fun d hs => ih _ (startChain_solo n _ hs ho)
  split
  · exact hs
  · exact hfold _ _ hs

/-- While a departure runs on a port, none that waits there may start (R263). -/
theorem startNext_behind {d : Dev} {n : Nat} {x : Dep} (hs : d.solo x.idx (some x)) (hx : x ∈ d.dep.table) (hp : x.ports.contains n = true)
    (hst : x.startedOn n = true) (hov : x.overOn n = false) : d.startNext n = d := by
  have hnone : d.waiterOn n = none := by
    cases hw : d.waiterOn n with
    | none => rfl
    | some e =>
      obtain ⟨hin, _, _, hne, hb⟩ := waiterOn_some hw
      have hidx : x.idx ≠ e.idx := by
        intro h
        have := hs.2 e hin h.symm
        rw [← Option.some.inj this, hst] at hne
        cases hne
      have hbehind : d.behindOn e n = true := by
        unfold Dev.behindOn
        rw [List.any_eq_true]
        refine ⟨x, hx, ?_⟩
        simp [hidx, hst, hov, List.contains_iff_mem.mp hp]
      rw [Dev.blockedOn, hbehind] at hb
      cases hb
  unfold Dev.startNext
  cases hl : d.dep.table.length with
  | zero => rfl
  | succ k =>
    unfold Dev.startChain
    rw [hnone]

end Sys2Proof.Machine
end

section
/-! THEOREM. The bell counter: lock, arming, alignment, mark, loss and tick (R410 to R417). -/

namespace Sys2Proof.Machine

set_option Elab.async false

theorem bellLock_effect (d : Dev) (h : d.bel.locked = false) :
    (bellLock d).bel.locked = true ∧ (bellLock d).bel.run = true ∧ (bellLock d).srcReady 6 = true := by
  rw [bellLock, if_neg (by simp [h])]
  exact ⟨rfl, rfl, getLsbD_putBit_same _ _ _ (by decide)⟩

theorem belArm_effect (d : Dev) :
    if d.bel.locked = false ∨ d.bel.armed = true ∨ d.pendingDeps ≠ 0 then
      (belArm d).bel = d.bel ∧ (belArm d).flag R.BEL_EVT.ARM_REFUSED = true
    else (belArm d).bel = { d.bel with armed := true, was := d.bel.aligned, aligned := false } := by
  unfold belArm
  split
  · next h =>
    rw [if_pos (by rcases h with h | h | h <;> simp [h])]
    exact ⟨rfl, flag_raise_self _ _ (by decide)⟩
  · next h =>
    obtain ⟨hl, ha, hp⟩ : d.bel.locked = true ∧ d.bel.armed = false ∧ d.pendingDeps = 0 := by simpa using h
    rw [if_neg (by simp [hl, ha, hp])]

/-- A rising edge of BELL_SYNC (R411, R413). -/
theorem syncSeen_effect (d : Dev) :
    (syncSeen d).bel.armed = false ∧ (syncSeen d).flag R.BEL_EVT.SYNC_SEEN = true ∧
    (syncSeen d).bel.now = (if d.bel.armed then d.belLoad else d.bel.now) ∧
    (syncSeen d).bel.aligned = (d.bel.armed || d.bel.aligned) ∧
    (d.bel.armed = true → (syncSeen d).flag R.BEL_EVT.ALIGNED = true) ∧
    (syncSeen d).get64 R.BEL_SYNC_CAP_LO.CAP_LO.ofs = (syncSeen d).bel.now.toNat := by
  refine ⟨?_, syncSeen_flag d, syncSeen_bel_now d, ?_, fun ha => ?_, syncSeen_capture d⟩
  · cases h : d.bel.armed <;> simp [syncSeen, h]
  · cases h : d.bel.armed <;> simp [syncSeen, h]
  · have hset : ∀ (x : Dev) (v : Nat), (x.set64 R.BEL_SYNC_CAP_LO.CAP_LO.ofs v).get R.BEL_EVT.ALIGNED = x.get R.BEL_EVT.ALIGNED := by
      intro x v
      rw [Dev.get, Dev.get, Dev.set64, raw_of_bank (d := x)]
      · exact (bankGet_bankSet_ne _ _ _ _ (by decide)).trans (bankGet_bankSet_ne _ _ _ _ (by decide))
      · rfl
    rw [syncSeen, if_pos ha, Dev.flag, get_raise_far _ _ _ (by decide), hset]
    exact flag_raise_self { d with bel := { d.bel with now := d.belLoad, armed := false, aligned := true } } _ (by decide)

/-- The mark: it is disarmed, and seen on CLK_OUT where that carries the mark (R417, R418). -/
theorem fireMark_effect (d : Dev) :
    d.fireMark.bel.markArmed = false ∧ d.fireMark.flag R.BEL_EVT.MARK_DONE = true ∧
    (d.get R.CLK_OUT_CFG.SEL = 25 → d.fireMark.sent = .pin "CLK_OUT" false :: .pin "CLK_OUT" true :: d.sent) := by
  unfold Dev.fireMark
  refine ⟨?_, flag_raise_self _ _ (by decide), fun h => ?_⟩
  · dsimp only
    split <;> rfl
  · have hsel : Dev.get { d with bel := { d.bel with markArmed := false } } R.CLK_OUT_CFG.SEL = 25 :=
      (get_of_regs (d := d) rfl rfl _).trans h
    dsimp only
    rw [if_pos hsel]
    rfl

theorem markArm_effect (d : Dev) (h : d.get R.CLK_OUT_CFG.SEL = 25) :
    if d.get64 R.BEL_MARK_LO.MARK_LO.ofs < d.bel.now.toNat then
      (markArm d).bel.markArmed = false ∧ (markArm d).flag R.BEL_EVT.MARK_DONE = true ∧
      (markArm d).sent = .pin "CLK_OUT" false :: .pin "CLK_OUT" true :: d.sent
    else (markArm d).bel.markArmed = true := by
  have harm : markArm d = if d.get64 R.BEL_MARK_LO.MARK_LO.ofs < d.bel.now.toNat then
      Dev.fireMark { d with bel := { d.bel with markArmed := true } } else { d with bel := { d.bel with markArmed := true } } := by
    rw [markArm]
    exact if_neg (not_not.mpr h)
  rw [harm]
  split
  · obtain ⟨ha, hf, hs⟩ := fireMark_effect { d with bel := { d.bel with markArmed := true } }
    exact ⟨ha, hf, hs ((get_of_regs (d := d) rfl rfl _).trans h)⟩
  · rfl

/-- The report of the loss, and the cancels that follow, change neither the bell nor the clocks. -/
theorem reportBellLost_effect (x : Dev) :
    ((x.report R.BEL_EVT.BELL_LOST 0 0 x.bel.now.toNat 0).cancelUnstarted).bel = x.bel ∧
    ((x.report R.BEL_EVT.BELL_LOST 0 0 x.bel.now.toNat 0).cancelUnstarted).clk = x.clk ∧
    ((x.report R.BEL_EVT.BELL_LOST 0 0 x.bel.now.toNat 0).cancelUnstarted).flag R.BEL_EVT.BELL_LOST = true := by
  have hreport := report_record x R.BEL_EVT.BELL_LOST 0 0 x.bel.now.toNat 0
  have hflag := flag_report_self x (f := R.BEL_EVT.BELL_LOST) (by decide) (by decide) 0 0 x.bel.now.toNat 0
  generalize x.report R.BEL_EVT.BELL_LOST 0 0 x.bel.now.toNat 0 = y at hreport hflag ⊢
  have hcancel := cancelUnstarted_dep y
  have hbel : y.bel = x.bel := by rw [hreport.frame]
  have hclk : y.clk = x.clk := by rw [hreport.frame]
  exact ⟨by rw [hcancel.frame]; exact hbel, by rw [hcancel.frame]; exact hclk, by rw [hcancel.flag (by decide), hflag]⟩

/-- PLL_BELL loses lock: the counter stays, and departures that have not started are cancelled (R416). -/
theorem bellLost_effect (d : Dev) (h : d.bel.locked = true) :
    (bellLost d).bel.locked = false ∧ (bellLost d).bel.aligned = false ∧ (bellLost d).bel.now = d.bel.now ∧
    (bellLost d).srcReady 6 = false ∧ (bellLost d).clk.fail.getLsbD 6 = true ∧ (bellLost d).flag R.BEL_EVT.BELL_LOST = true := by
  rw [bellLost, if_neg (by simp [h])]
  obtain ⟨hbel, hclk, hflag⟩ := reportBellLost_effect { (d.setSource 6 false true).raise R.CLK_EVT.PLL_FAIL with
    bel := { ((d.setSource 6 false true).raise R.CLK_EVT.PLL_FAIL).bel with locked := false, aligned := false, was := false } }
  refine ⟨congrArg (·.locked) hbel, congrArg (·.aligned) hbel, congrArg (·.now) hbel, ?_, ?_, hflag⟩
  · exact (congrArg (·.ready.getLsbD 6) hclk).trans (getLsbD_putBit_same _ _ _ (by decide))
  · exact (congrArg (·.fail.getLsbD 6) hclk).trans (getLsbD_putBit_same _ _ _ (by decide))

/-- An output among those just driven is driven after the command. -/
theorem settle_drove_of_append {t d : Dev} {o : Out} {l : List Out} (h : t.sent = l ++ d.sent) (ho : o ∈ l) : (settle t).drove d o :=
  drove_settle (drove_of_append h ho) ⟨l, h.symm⟩

theorem bellTick_now (d : Dev) (h : d.bel.run = true) : (bellTick d).bel.now = d.bel.now + 1 := by
  rw [bellTick, if_pos h, Dev.pmu1_bel]

/-- Settles O11: each command's own branch; a loss goes on to cancels, which leave the bell. -/
theorem bellCommands : Obligations.BellCommands := by
  unfold Obligations.BellCommands
  refine ⟨?_, ?_, ?_, ?_, ?_, ?_, ?_, ?_⟩
  · intro s ha hl
    refine ⟨_, onDev_awake ha _, ?_⟩
    rw [State.setDev_dev, settle_bel, Dev.srcReady, settle_clk]
    exact bellLock_effect s.dev hl
  · intro src s hr
    refine ⟨_, onDev_write hr src _, ?_⟩
    rw [State.setDev_dev, settle_bel, settle_flag, Dev.emit_bel, emit_flag]
    exact belArm_effect s.dev
  · intro src s hr
    refine ⟨_, onDev_write hr src _, ?_⟩
    rw [State.setDev_dev, settle_bel, Dev.emit_bel, belDisarm]
    split <;> rfl
  · intro s ha
    refine ⟨_, onDev_awake ha _, ?_⟩
    rw [State.setDev_dev, settle_bel, settle_flag, settle_flag, settle_get64]
    exact syncSeen_effect s.dev
  · intro src s hr hsel
    refine ⟨_, onDev_write hr src _, ?_⟩
    have heff := markArm_effect s.dev hsel
    rw [State.setDev_dev, settle_bel, settle_flag, Dev.emit_bel, emit_flag]
    split at heff
    · next hlt =>
      obtain ⟨harm, hflag, hsent⟩ := heff
      rw [if_pos hlt]
      exact ⟨harm, hflag, settle_drove_of_append (l := [.regOk src, .pin "CLK_OUT" false, .pin "CLK_OUT" true])
        (congrArg _ hsent) (by simp)⟩
    · next hlt =>
      rw [if_neg hlt]
      exact heff
  · intro s ha hm hle
    refine ⟨_, onDev_awake ha _, ?_⟩
    have hfire : markDone s.dev = s.dev.fireMark := if_pos (by simp [hm, Dev.markReached, hle])
    obtain ⟨harm, hflag, hsent⟩ := fireMark_effect s.dev
    rw [State.setDev_dev, settle_bel, settle_flag, hfire]
    exact ⟨harm, hflag, fun hsel => settle_drove_of_append (l := [.pin "CLK_OUT" false, .pin "CLK_OUT" true])
      (hsent hsel) (by simp)⟩
  · intro s ha hl
    refine ⟨_, onDev_awake ha _, ?_⟩
    rw [State.setDev_dev, settle_bel, settle_flag, Dev.srcReady, settle_clk]
    exact bellLost_effect s.dev hl
  · intro s ha hrun
    refine ⟨_, onDev_awake ha _, ?_⟩
    rw [State.setDev_dev, settle_bel]
    exact bellTick_now s.dev hrun

end Sys2Proof.Machine
end

section
/-! THEOREM. Power domains, pads, wake time-outs, and the purser (R421 to R426, R438 to R442, R450, R451). -/

namespace Sys2Proof.Machine

set_option Elab.async false

/-! ## Domains and pads -/

theorem domOffBit_ok {bit : Nat} (h : bit < 11) : fieldOk (domOffBit bit) = true := by
  unfold fieldOk domOffBit
  simp only [Nat.le_refl, decide_true, Bool.true_and, decide_eq_true_eq]
  omega

theorem domOffBit_quiet (bit : Nat) : (domOffBit bit).ofs ∉ grantEvents := by
  show R.PWR_DOM_OFF.OFF.ofs ∉ grantEvents
  decide

/-- A change of the power state, sources, tokens, ports, outputs and free values alone: no register changes. -/
def SupplyOff (d e : Dev) : Prop :=
  e = { d with clk := e.clk, pwr := e.pwr, pur := e.pur, ports := e.ports, tw := e.tw, mps := e.mps, sent := e.sent, free := e.free }

theorem SupplyOff.trans {a b c : Dev} (h : SupplyOff a b) (k : SupplyOff b c) : SupplyOff a c := by
  unfold SupplyOff at h k ⊢
  rw [k, h]

theorem SupplyOff.foldl {α : Type} {f : Dev → α → Dev} (h : ∀ d x, SupplyOff d (f d x)) (l : List α) (d : Dev) :
    SupplyOff d (l.foldl f d) := by
  induction l generalizing d with
  | nil => rfl
  | cons x l ih => exact (h d x).trans (ih _)

theorem clampDom_off (d : Dev) (dom : Nat) : SupplyOff d (d.clampDom dom) := by
  unfold Dev.clampDom
  split
  · unfold Dev.clampPads
    split <;> rfl
  · rfl

theorem dropLinks_off (d : Dev) (dom : Nat) : SupplyOff d (d.dropLinks dom) := by
  unfold Dev.dropLinks
  dsimp only
  have htokens : SupplyOff d ((domainLinks dom).foldl (fun d k => d.dropToken 2 k) d) :=
    SupplyOff.foldl (f := fun d k => d.dropToken 2 k) (fun _ _ => rfl) _ d
  refine htokens.trans ?_
  repeat' split
  · exact .foldl (fun d i => setPort_frame d (4 * (dom - 10) + i) {} ▸ rfl) _ _
  · rfl
  · rfl
  · rfl

theorem latchPads_off (d : Dev) (dom : Nat) : SupplyOff d (d.latchPads dom) := by
  unfold Dev.latchPads
  split <;> rfl

theorem latchPads_held (d : Dev) {dom : Nat} (h : dom < 21) : (d.latchPads dom).padHeld dom = true := by
  unfold Dev.latchPads
  split
  · next hh => exact hh
  · exact getLsbD_putBit_same _ _ _ h

/-- A domain switched off: its pads are held, and no register has changed (R422, R425). -/
theorem turnOff_effect (d : Dev) {dom : Nat} (h : dom < 21) :
    (d.turnOff dom).domOn dom = false ∧ (d.turnOff dom).padHeld dom = true ∧ SupplyOff d (d.turnOff dom) := by
  unfold Dev.turnOff
  dsimp only
  have hoff : SupplyOff d ((domainPlls dom).foldl Dev.stopPll ((d.clampDom dom).dropLinks dom)) :=
    ((clampDom_off d dom).trans (dropLinks_off _ dom)).trans
      (SupplyOff.foldl (f := Dev.stopPll) (fun _ _ => rfl) _ _)
  generalize (domainPlls dom).foldl Dev.stopPll ((d.clampDom dom).dropLinks dom) = x at hoff ⊢
  have hheld := latchPads_held x h
  have hlatch := hoff.trans (latchPads_off x dom)
  generalize x.latchPads dom = y at hheld hlatch ⊢
  rw [outFalls_frame]
  exact ⟨getLsbD_putBit_same _ _ _ h, hheld, hlatch.trans rfl⟩

theorem offDomain_lt {bit : Nat} (h : bit < 11) : offDomain bit < 21 := by
  unfold offDomain
  repeat' split
  all_goals omega

theorem domainOff_refused (d : Dev) {bit : Nat} (hb : bit < 11) (hf : d.flag (domOffBit bit) = false)
    (h : d.dozeActive = true ∨ d.offInUse bit = true) : domainOff bit d = d.raise R.PWR_EVT.DOM_REFUSED := by
  rw [domainOff, if_neg (by omega)]
  by_cases hz : d.dozeActive = true
  · rw [if_pos hz]
  · rw [if_neg hz, hf, if_neg Bool.false_ne_true, if_pos (h.resolve_left hz)]

theorem domainOff_off (d : Dev) {bit : Nat} (hb : bit < 11) (hf : d.flag (domOffBit bit) = false)
    (h : ¬ (d.dozeActive = true ∨ d.offInUse bit = true)) :
    domainOff bit d = (d.set (domOffBit bit) 1).turnOff (offDomain bit) := by
  obtain ⟨hz, hu⟩ := not_or.mp h
  rw [domainOff, if_neg (by omega), if_neg hz, hf, if_neg Bool.false_ne_true, if_neg hu]

theorem domOffBit_set (d : Dev) {bit : Nat} (hb : bit < 11) (v : Bool) :
    (d.set (domOffBit bit) (if v then 1 else 0)).flag (domOffBit bit) = v := by
  rw [Dev.flag, get_set_self _ _ _ (domOffBit_ok hb), show (domOffBit bit).hi + 1 - (domOffBit bit).lo = 1 from
    Nat.add_sub_cancel_left ..]
  cases v <;> rfl

theorem domainOff_effect (d : Dev) {bit : Nat} (hb : bit < 11) (hf : d.flag (domOffBit bit) = false) :
    if d.dozeActive = true ∨ d.offInUse bit = true then
      (domainOff bit d).pwr = d.pwr ∧ (domainOff bit d).flag (domOffBit bit) = false ∧
      (domainOff bit d).flag R.PWR_EVT.DOM_REFUSED = true
    else (domainOff bit d).domOn (offDomain bit) = false ∧ (domainOff bit d).padHeld (offDomain bit) = true ∧
      (domainOff bit d).flag (domOffBit bit) = true := by
  split
  · next h =>
    rw [domainOff_refused d hb hf h]
    refine ⟨rfl, ?_, flag_raise_self _ _ (by decide)⟩
    rw [Dev.flag, get_raise_far _ _ _ (by rw [fieldsApart]; rfl), ← Dev.flag, hf]
  · next h =>
    rw [domainOff_off d hb hf h]
    obtain ⟨hon, hheld, hoff⟩ := turnOff_effect (d.set (domOffBit bit) 1) (offDomain_lt hb)
    refine ⟨hon, hheld, ?_⟩
    rw [flag_of_regs (d := d.set (domOffBit bit) 1) (by rw [hoff]) (by rw [hoff])]
    exact domOffBit_set d hb true

theorem turnOn_domOn (d : Dev) {dom : Nat} (h : dom < 21) : (d.turnOn dom).domOn dom = true := by
  unfold Dev.turnOn
  dsimp only
  have hon : (Dev.wakeDone { d with pwr := { d.pwr with on := putBit d.pwr.on dom true } } 2 dom).pwr.on.getLsbD dom = true :=
    getLsbD_putBit_same _ _ _ h
  generalize Dev.wakeDone { d with pwr := { d.pwr with on := putBit d.pwr.on dom true } } 2 dom = x at hon ⊢
  exact (((GrantRel.foldl startPll_grant (domainPlls dom) x).trans (unclamp_grant _ dom)).trans
    (.raiseIf _ _ (f := R.PWR_EVT.WAKE_HOLD) (by decide))).on dom hon

theorem domainOn_effect (d : Dev) {bit : Nat} (hb : bit < 11) (hf : d.flag (domOffBit bit) = true) :
    if d.dozeActive = true then (domainOn bit d).pwr = d.pwr ∧ (domainOn bit d).flag R.PWR_EVT.DOM_REFUSED = true
    else (domainOn bit d).domOn (offDomain bit) = true ∧ (domainOn bit d).flag (domOffBit bit) = false := by
  split
  · next hz =>
    rw [domainOn, if_neg (by omega), if_pos hz]
    exact ⟨rfl, flag_raise_self _ _ (by decide)⟩
  · next hz =>
    rw [domainOn, if_neg (by omega), if_neg hz, if_neg (by simp [hf])]
    refine ⟨turnOn_domOn _ (offDomain_lt hb), ?_⟩
    rw [(turnOn_grant _ _).flag (domOffBit_quiet bit)]
    exact domOffBit_set d hb false

theorem unlatch_pwr (l : List Nat) (d : Dev) :
    (l.foldl Dev.unlatch d).pwr.held = d.pwr.held ∧ (l.foldl Dev.unlatch d).pwr.on = d.pwr.on := by
  induction l generalizing d with
  | nil => exact ⟨rfl, rfl⟩
  | cons n l ih => exact ih _

theorem padRelease_effect (rel : BitVec 21) (d : Dev) :
    (padRelease rel d).pwr.held = d.pwr.held &&& ~~~ (rel &&& d.pwr.on) ∧ (padRelease rel d).pwr.on = d.pwr.on := by
  unfold padRelease
  obtain ⟨hheld, hon⟩ := unlatch_pwr ((List.range 21).filter (rel &&& d.pwr.on &&& d.pwr.held).getLsbD)
    { d with pwr := { d.pwr with held := d.pwr.held &&& ~~~ (rel &&& d.pwr.on &&& d.pwr.held) } }
  refine ⟨hheld.trans ?_, hon⟩
  ext i hi
  simp only [BitVec.getElem_and, BitVec.getElem_not]
  cases rel[i] <;> cases d.pwr.on[i] <;> cases d.pwr.held[i] <;> rfl

/-! ## Wake time-outs -/

/-- Recovery on AON: only AON is on (R451). -/
theorem recoverAon_mode (d : Dev) : d.recoverAon.gcr.mode = .recovery ∧ d.recoverAon.gcr.fault = true ∧ d.recoverAon.pwr.on = 1 := by
  have hplls : ∀ (l : List Nat) (e : Dev), (l.foldl Dev.stopPll e).pwr = e.pwr := by
    intro l
    induction l with
    | nil => exact fun _ => rfl
    | cons k l ih => exact fun e => ih _
  have hlast : ∀ e x : Dev, x.pwr.on = 1 → (((e.outFalls x).toMode .recovery).faultN.oweFrame 0).gcr.mode = .recovery ∧
      (((e.outFalls x).toMode .recovery).faultN.oweFrame 0).gcr.fault = true ∧
      (((e.outFalls x).toMode .recovery).faultN.oweFrame 0).pwr.on = 1 := by
    intro e x hx
    refine ⟨toMode_mode .., rfl, ?_⟩
    show ((e.outFalls x).toMode .recovery).pwr.on = 1
    rw [toMode_pwr, outFalls_frame]
    exact hx
  unfold Dev.recoverAon
  exact hlast _ _ (by rw [Dev.stopPlls, hplls]; rfl)

theorem wakeStep_lt {d : Dev} {step dom : Nat} (h : d.wakeStep step dom = true) : step < 8 := by
  unfold Dev.wakeStep at h
  repeat' split at h
  · omega
  · omega
  · omega
  · omega
  · cases h

theorem wakeTimeout_last (d : Dev) {step dom unit : Nat} (h : 3 ≤ d.wakeTries step unit) :
    (d.wakeTimeout step dom unit).gcr.mode = .recovery ∧ (d.wakeTimeout step dom unit).gcr.fault = true ∧
    (d.wakeTimeout step dom unit).pwr.on = 1 := by
  unfold Dev.wakeTimeout
  dsimp only
  rw [if_pos h]
  exact recoverAon_mode _

/-- PLL_TIMEOUT stays raised while the time-out is handled. -/
theorem wakeTimeout_pll (d : Dev) (step dom unit : Nat) (h : d.flag R.CLK_EVT.PLL_TIMEOUT = true) :
    (d.wakeTimeout step dom unit).flag R.CLK_EVT.PLL_TIMEOUT = true := by
  unfold Dev.wakeTimeout
  dsimp only
  have hkeep : ((((d.set R.PWR_WAKE_FAIL.DOM dom).set R.PWR_WAKE_FAIL.STEP step).set R.PWR_WAKE_FAIL.TRIES
      (d.wakeTries step unit)).raise R.PWR_EVT.WAKE_TO).flag R.CLK_EVT.PLL_TIMEOUT = true := by
    rw [Dev.flag, get_raise_far _ _ _ (by decide), get_set_far _ _ _ _ (by decide), get_set_far _ _ _ _ (by decide),
      get_set_far _ _ _ _ (by decide), ← Dev.flag, h]
  generalize (((d.set R.PWR_WAKE_FAIL.DOM dom).set R.PWR_WAKE_FAIL.STEP step).set R.PWR_WAKE_FAIL.TRIES
    (d.wakeTries step unit)).raise R.PWR_EVT.WAKE_TO = e at hkeep ⊢
  split
  · exact (recoverAon_wake e).flag (by decide) rfl hkeep
  · have hdone : WakeStays e { e.wakeDone step unit with pwr := { (e.wakeDone step unit).pwr with
        tries := (e.wakeDone step unit).pwr.tries ++ [(step, unit, d.wakeTries step unit + 1)] } } := .of_regs rfl rfl
    exact (hdone.trans (wakeRepeat_wake _ step dom)).flag (by decide) rfl hkeep

theorem pllDomain_lt (k : Nat) : pllDomain k < 32 := by
  unfold pllDomain
  repeat' split
  all_goals omega

/-- A wake step's time-out (R450, R451). -/
theorem wakeTo_effect (d : Dev) {step dom : Nat} (h : d.wakeStep step dom = true) (hd : dom < 32) :
    (wakeTo step dom d).flag R.PWR_EVT.WAKE_TO = true ∧
    (wakeTo step dom d).get R.PWR_WAKE_FAIL.STEP = step % 2 ^ (R.PWR_WAKE_FAIL.STEP.hi + 1 - R.PWR_WAKE_FAIL.STEP.lo) ∧
    (step = 3 → (wakeTo step dom d).flag R.CLK_EVT.PLL_TIMEOUT = true) ∧
    (3 ≤ d.wakeTries step (d.wakeUnit step dom) →
      (wakeTo step dom d).gcr.mode = .recovery ∧ (wakeTo step dom d).gcr.fault = true ∧ (wakeTo step dom d).pwr.on = 1) := by
  have hlt := wakeStep_lt h
  have hmod : step % 2 ^ (R.PWR_WAKE_FAIL.STEP.hi + 1 - R.PWR_WAKE_FAIL.STEP.lo) = step := Nat.mod_eq_of_lt hlt
  rw [hmod, wakeTo, if_neg (by simp [h])]
  generalize d.wakeUnit step dom = unit
  split
  · next hs =>
    subst hs
    rw [Dev.pllTimedOut]
    obtain ⟨hto, hstep, -⟩ := wakeTimeout_effect (d.raise R.CLK_EVT.PLL_TIMEOUT) unit hlt (pllDomain_lt unit)
    exact ⟨hto, hstep, fun _ => wakeTimeout_pll _ 3 _ unit (flag_raise_self _ _ (by decide)), fun ht => wakeTimeout_last _ ht⟩
  · next hs =>
    obtain ⟨hto, hstep, -⟩ := wakeTimeout_effect d unit hlt hd
    exact ⟨hto, hstep, fun h3 => absurd h3 hs, fun ht => wakeTimeout_last d ht⟩

/-! ## The purser -/

/-- The estimate and the cap of an interval, and the level it steps to (R438, R439, R442). -/
theorem purserUpdate_effect (d : Dev) :
    (purserUpdate d).pur.capNow = d.get R.PUR_CAP.CAP ∧ (purserUpdate d).pur.est = (Config.freeEstimate d.free).toNat ∧
    (purserUpdate d).pur.level ≤ 12 := by
  have hgrant : ∀ (x : Dev) (l : Nat), l ≤ 12 → (x.setLevel l).grantTokens.pur.capNow = x.pur.capNow ∧
      (x.setLevel l).grantTokens.pur.est = x.pur.est ∧ (x.setLevel l).grantTokens.pur.level ≤ 12 := by
    intro x l hl
    have hset := setLevel_grant x hl
    have htokens := grantTokens_grant (x.setLevel l)
    have hlevel : (x.setLevel l).pur.level = l := by
      unfold Dev.setLevel
      rw [Dev.raiseIf_pur]
    exact ⟨by rw [(hset.trans htokens).pur], by rw [(hset.trans htokens).pur],
      htokens.level.elim id fun h => by rw [h, hlevel]; exact hl⟩
  have htmax : ∀ (x : Dev) (n : Nat), min x.tmax n ≤ 12 := fun x n => (Nat.min_le_left ..).trans (Nat.min_le_left ..)
  unfold purserUpdate
  dsimp only
  generalize hx : Dev.raiseIf { d with free := d.free + 1, pur := { d.pur with
    est := (Config.freeEstimate d.free).toNat, capNow := d.get R.PUR_CAP.CAP } } _ R.PUR_EVT.CAP_REACHED = x
  have hcap : x.pur.capNow = d.get R.PUR_CAP.CAP ∧ x.pur.est = (Config.freeEstimate d.free).toNat := by
    rw [← hx, Dev.raiseIf_pur]
    exact ⟨rfl, rfl⟩
  rw [← hcap.1, ← hcap.2]
  split
  · exact hgrant x _ (htmax ..)
  · split
    · exact hgrant x _ (htmax ..)
    · exact hgrant x _ (htmax ..)

theorem tokenReturn_hasToken (d : Dev) {k who : Nat} (h : d.hasToken k who = true) : (tokenReturn k who d).hasToken k who = false := by
  rw [tokenReturn, if_pos h]
  exact hasToken_eq_false (returnToken_unknown d k who).1

/-- A token of a kind that may exceed the cap is granted (R440). -/
theorem overCap_effect (d : Dev) {k who : Nat} (h1 : 1 ≤ k) (h4 : k ≤ 4) (hw : (k, who) ∈ d.pur.waiting) :
    (overCap k who d).hasToken k who = true ∧ (overCap k who d).flag R.PUR_EVT.OVER_CAP = true := by
  have hgive : (k, who) ∈ (d.giveToken k who).pur.tokens := (onGrant_grant _ k who).tokens _ (by simp)
  unfold overCap
  rw [if_pos ⟨h1, h4, List.contains_iff_mem.mpr hw⟩]
  generalize d.giveToken k who = x at hgive ⊢
  refine ⟨?_, ?_⟩
  · rw [hasToken_iff, Dev.raiseIf_pur]
    exact hgive
  · rw [flag_raiseIf_far _ _ _ _ (by decide), Dev.flag]
    exact (congrArg (· == 1) (get_set_far _ R.PUR_OVER_CNT.OVER _ _ (by decide))).trans (flag_raise_self _ _ (by decide))

/-- Settles O13: each command's own branch, with what switches, time-outs and grants leave. -/
theorem powerAndPurser : Obligations.PowerAndPurser := by
  unfold Obligations.PowerAndPurser
  refine ⟨?_, ?_, ?_, ?_, ?_, ?_, ?_, ?_⟩
  · intro src bit s hr hb hf
    refine ⟨_, onDev_write hr src _, ?_⟩
    rw [State.setDev_dev, Dev.domOn, Dev.padHeld, settle_pwr, settle_flag, settle_flag, Dev.emit_pwr, emit_flag, emit_flag]
    exact domainOff_effect s.dev hb hf
  · intro src bit s hr hb hf
    refine ⟨_, onDev_write hr src _, ?_⟩
    rw [State.setDev_dev, Dev.domOn, settle_pwr, settle_flag, settle_flag, Dev.emit_pwr, emit_flag, emit_flag]
    exact domainOn_effect s.dev hb hf
  · intro src rel s hr
    refine ⟨_, onDev_write hr src _, ?_⟩
    rw [State.setDev_dev, settle_pwr, Dev.emit_pwr]
    exact padRelease_effect rel s.dev
  · intro step dom s ha hw _ hd
    refine ⟨_, onDev_awake ha _, ?_⟩
    rw [State.setDev_dev, settle_pwr, settle_gcr, settle_flag, settle_flag, settle_get]
    exact wakeTo_effect s.dev hw hd
  · intro s ha
    refine ⟨_, onDev_awake ha _, ?_⟩
    rw [State.setDev_dev, settle_pur]
    exact purserUpdate_effect s.dev
  · intro s ha
    refine ⟨_, onDev_awake ha _, ?_⟩
    rw [State.setDev_dev, settle_pur]
    rfl
  · intro k who s ha hh
    refine ⟨_, onDev_awake ha _, ?_⟩
    rw [State.setDev_dev, Dev.hasToken, settle_pur]
    exact tokenReturn_hasToken s.dev hh
  · intro k who s ha h1 h4 hw
    refine ⟨_, onDev_awake ha _, ?_⟩
    rw [State.setDev_dev, Dev.hasToken, settle_pur, settle_flag]
    exact overCap_effect s.dev h1 h4 hw

end Sys2Proof.Machine
end

section
/-! THEOREM. The core regulator on PMBus and the operating points (R427 to R437). -/

namespace Sys2Proof.Machine

set_option Elab.async false

/-! ## The regulator -/

theorem voutMode_read (d : Dev) (mode : Option (BitVec 8)) : (d.voutMode mode).pwr.pmbRead = true := by
  unfold Dev.voutMode
  split
  · next h => exact h
  · dsimp only
    split <;> rfl

/-- The mode is read with the first poll (R427). -/
theorem voutMode_first (d : Dev) (m : BitVec 8) (h : d.pwr.pmbRead = false) :
    (d.voutMode (some m)).pwr.pmbOk = (m.toNat / 32 == 0) ∧
    (d.voutMode (some m)).sent = [.pmbus (d.get R.PWR_VR_CFG.ADDR) (d.flag R.PWR_VR_CFG.PEC) "VOUT_MODE" 0] ++ d.sent := by
  unfold Dev.voutMode
  rw [if_neg (by simp [h])]
  exact ⟨rfl, rfl⟩

/-- The answers of the regulator, as they are measured (R427). -/
theorem vrRead_effect (d : Dev) (w ma : Nat) :
    (d.vrRead w ma).pwr = d.pwr ∧
    (d.vrRead w ma).get R.PWR_VR_MEAS.MV = linearMv d.pwr.voutExp w % 2 ^ (R.PWR_VR_MEAS.MV.hi + 1) ∧
    (d.vrRead w ma).get R.PWR_VR_POWER.QW = linearMv d.pwr.voutExp w * ma / 250000 % 2 ^ (R.PWR_VR_POWER.QW.hi + 1) := by
  unfold Dev.vrRead
  refine ⟨rfl, ?_, get_set_self _ _ _ (by decide)⟩
  rw [get_set_far _ _ _ _ (by decide)]
  exact get_set_self _ _ _ (by decide)

theorem vrRead_sent (d : Dev) (w ma : Nat) : d.sent <:+ (d.vrRead w ma).sent := ⟨[_, _], rfl⟩

theorem report_flag_far (d : Dev) {f g : FieldRef} (inst sub a b : Nat) (hf : fieldsApart f g = true) (hg : g.ofs ∉ recordRegs 0) :
    (d.report f inst sub a b).get g = d.get g := by
  rw [Dev.report, Dev.get, Dev.get, raw_of_bank ((evq_record ..).bank _ hg) (by rw [(evq_record ..).frame]), ← Dev.get, ← Dev.get]
  exact get_raise_far d f g hf

theorem vrAlert_some (d : Dev) (w : Nat) :
    (vrAlert (some w) d).flag R.PWR_EVT.VR_ALERT = true ∧
    (vrAlert (some w) d).get R.PWR_VR_STATUS.WORD = w % 2 ^ (R.PWR_VR_STATUS.WORD.hi + 1) := by
  refine ⟨flag_report_self _ (by decide) (by decide) .., ?_⟩
  exact (report_flag_far _ 0 0 _ 0 (by decide) (by decide)).trans (get_set_self _ _ _ (by decide))

theorem vrAlert_none (d : Dev) :
    (vrAlert none d).flag R.PWR_EVT.VR_ALERT = true ∧ (vrAlert none d).flag R.PWR_EVT.PMB_ERR = true := by
  refine ⟨flag_report_self _ (by decide) (by decide) .., ?_⟩
  exact (congrArg (· == 1) (report_flag_far _ 0 0 _ 0 (by decide) (by decide))).trans (flag_raise_self _ _ (by decide))

theorem foldl_pmbus_effect (cmd : String) (v : Nat) (l : List Nat) (d : Dev) :
    (l.foldl (fun d _ => d.pmbus cmd v) d).regs = d.regs ∧ (l.foldl (fun d _ => d.pmbus cmd v) d).pwr = d.pwr ∧
    d.sent <:+ (l.foldl (fun d _ => d.pmbus cmd v) d).sent := by
  induction l generalizing d with
  | nil => exact ⟨rfl, rfl, List.suffix_refl _⟩
  | cons x l ih =>
    obtain ⟨hregs, hpwr, hsent⟩ := ih (d.pmbus cmd v)
    exact ⟨hregs, hpwr, (List.suffix_cons _ _).trans hsent⟩

/-- A write on PMBus: driven, repeated while it fails, and PMB_ERR where every repeat fails (R428). -/
theorem pmbusWrite_effect (d : Dev) (cmd : String) (v : Nat) :
    (d.pmbusWrite cmd v).pwr = d.pwr ∧
    (if Config.pmbusFails d.free < 4 then (d.pmbusWrite cmd v).regs = d.regs
      else (d.pmbusWrite cmd v).flag R.PWR_EVT.PMB_ERR = true) ∧
    (.pmbus (d.get R.PWR_VR_CFG.ADDR) (d.flag R.PWR_VR_CFG.PEC) cmd v) :: d.sent <:+ (d.pmbusWrite cmd v).sent := by
  unfold Dev.pmbusWrite
  dsimp only
  obtain ⟨hregs, hpwr, hsent⟩ := foldl_pmbus_effect cmd v (List.range (min 3 (Config.pmbusFails d.free)))
    (({ d with free := d.free + 1 } : Dev).pmbus cmd v)
  generalize (List.range (min 3 (Config.pmbusFails d.free))).foldl (fun d _ => d.pmbus cmd v)
    (({ d with free := d.free + 1 } : Dev).pmbus cmd v) = x at hregs hpwr hsent ⊢
  refine ⟨by rw [Dev.raiseIf_pwr, hpwr]; rfl, ?_, by rw [Dev.raiseIf_sent]; exact hsent⟩
  split
  · next h =>
    rw [show decide (4 ≤ Config.pmbusFails d.free) = false from decide_eq_false (Nat.not_le.mpr h)]
    exact hregs
  · next h => exact flag_raiseIf_self _ _ _ (by decide) (decide_eq_true (Nat.not_lt.mp h))

theorem voutCommand_pwr (d : Dev) (p : Nat) : (d.voutCommand p).pwr = d.pwr := (pmbusWrite_effect ..).1

/-! ## A step that is under way -/

theorem startPll_pwr (d : Dev) (k : Nat) : (d.startPll k).pwr = d.pwr := by
  unfold Dev.startPll Dev.coast
  dsimp only
  repeat' split
  all_goals rfl

theorem foldl_startPll_pwr (l : List Nat) (d : Dev) : (l.foldl Dev.startPll d).pwr = d.pwr := by
  induction l generalizing d with
  | nil => rfl
  | cons k l ih => exact (ih _).trans (startPll_pwr d k)

theorem turnOn_step (d : Dev) (dom : Nat) : (d.turnOn dom).pwr.step = d.pwr.step := by
  have hunclamp : ∀ x : Dev, (x.unclamp dom).pwr.step = x.pwr.step := fun x => by
    unfold Dev.unclamp
    split <;> rfl
  unfold Dev.turnOn
  dsimp only
  rw [Dev.raiseIf_pwr, hunclamp, foldl_startPll_pwr]
  rfl

theorem startWake_step (d : Dev) (g : Nat) : (d.startWake g).pwr.step = d.pwr.step := by
  have hturn := turnOn_step { d with pwr := { d.pwr with waking := putBit d.pwr.waking g true } } (5 + g)
  unfold Dev.startWake
  dsimp only
  split
  · exact hturn
  · exact hturn

theorem dvfsRun_step (d : Dev) (f v : Nat) : ∃ x, (d.dvfsRun f v).pwr.step = some x ∧ x.ph = 1 := by
  unfold Dev.dvfsRun
  dsimp only
  split
  · exact ⟨_, rfl, rfl⟩
  · exact ⟨_, by rw [startPll_pwr], rfl⟩

/-- A step that changes the frequency or the voltage is under way once its work has started. -/
theorem dvfsWork_step (d : Dev) {f v : Nat} (h : f ≠ d.pwr.fpt ∨ v ≠ d.pwr.vpt) : ∃ x, (d.dvfsWork f v).pwr.step = some x ∧ x.ph ≠ 0 := by
  unfold Dev.dvfsWork
  split
  · obtain ⟨x, hx, hp⟩ := dvfsRun_step d f v
    exact ⟨x, hx, by omega⟩
  · next hf =>
    have hv : v ≠ d.pwr.vpt := h.resolve_left hf
    rw [if_pos (by simpa [Dev.needsVolt] using hv)]
    exact ⟨_, by rw [voutCommand_pwr], show (3 : Nat) ≠ 0 by decide⟩

/-- A step is under way, or waits for its token with something to change. -/
def Dev.stepDue (d : Dev) : Prop :=
  ∃ x, d.pwr.step = some x ∧ (x.ph = 0 → x.goalF ≠ d.pwr.fpt ∨ x.goalV ≠ d.pwr.vpt)

theorem Dev.stepDue.isSome {d : Dev} (h : d.stepDue) : d.pwr.step.isSome = true := by
  obtain ⟨x, hx, -⟩ := h
  rw [hx]
  rfl

theorem stepDue_of_step {d e : Dev} (hs : e.pwr.step = d.pwr.step) (hr : GrantRel d e) (h : d.stepDue) : e.stepDue := by
  obtain ⟨x, hx, hd⟩ := h
  exact ⟨x, hs.trans hx, by rw [hr.pwr]; exact hd⟩

theorem dvfsGranted_due {d : Dev} (h : d.stepDue) : d.dvfsGranted.stepDue := by
  obtain ⟨x, hx, hd⟩ := h
  unfold Dev.dvfsGranted
  rw [hx]
  dsimp only
  split
  · next hp =>
    obtain ⟨y, hy, hne⟩ := dvfsWork_step d (hd hp)
    exact ⟨y, hy, fun h => absurd h hne⟩
  · exact ⟨x, hx, hd⟩

theorem setPort_pwr (d : Dev) (n : Nat) (p : Port) : (d.setPort n p).pwr = d.pwr := by rw [setPort_frame]

theorem onGrant_due {d : Dev} (k who : Nat) (h : d.stepDue) : (d.onGrant k who).stepDue := by
  by_cases hk : k = 1
  · rw [Dev.onGrant, if_pos hk]
    exact dvfsGranted_due h
  · refine stepDue_of_step ?_ (onGrant_grant d k who) h
    rw [Dev.onGrant, if_neg hk]
    dsimp only
    repeat' split
    · rw [setPort_pwr, startPll_pwr]
    · exact congrArg (·.step) (startPll_pwr d _)
    · rw [startPll_pwr]
    · exact startWake_step d who
    · rfl

theorem grantList_due (l : List (Nat × Nat)) {d : Dev} (h : d.stepDue) : (d.grantList l).stepDue := by
  induction l generalizing d with
  | nil => exact h
  | cons t l ih =>
    rw [Dev.grantList]
    split
    · have hmoved : Dev.stepDue { d with pur := { d.pur with
          waiting := d.pur.waiting.filter (· != (t.1, t.2)), tokens := d.pur.tokens ++ [(t.1, t.2)] } } := h
      exact ih (onGrant_due t.1 t.2 hmoved)
    · exact h

theorem stepDue_of_pwr {d e : Dev} (hp : e.pwr = d.pwr) (h : d.stepDue) : e.stepDue := by
  unfold Dev.stepDue at h ⊢
  rwa [hp]

theorem grantTokens_due {d : Dev} (h : d.stepDue) : d.grantTokens.stepDue := by
  have hlist := grantList_due ((List.range 6).flatMap (fun k => d.pur.waiting.filter (fun t => t.1 == k))) h
  unfold Dev.grantTokens
  dsimp only
  split
  · refine stepDue_of_pwr ?_ hlist
    unfold Dev.setLevel
    rw [Dev.raiseIf_pwr]
    exact Dev.raiseIf_pwr ..
  · exact stepDue_of_pwr (Dev.raiseIf_pwr ..) hlist

theorem dvfsBegin_due {d : Dev} {f v : Nat} (token : Bool) (h : f ≠ d.pwr.fpt ∨ v ≠ d.pwr.vpt) : (d.dvfsBegin f v token).stepDue := by
  unfold Dev.dvfsBegin
  split
  · refine ⟨_, by rw [wantToken_eq], fun _ => ?_⟩
    rw [wantToken_eq]
    exact h
  · obtain ⟨x, hx, hp⟩ := dvfsWork_step d h
    exact ⟨x, hx, fun h => absurd h hp⟩

/-- The step begins, with its token asked for where it needs one (R433, R436). -/
theorem dvfsBegin_isSome (d : Dev) {f v : Nat} (h : f ≠ d.pwr.fpt ∨ v ≠ d.pwr.vpt) :
    ((d.dvfsBegin f v true).grantTokens).pwr.step.isSome = true := (grantTokens_due (dvfsBegin_due true h)).isSome

/-! ## TARGET and the manual commands -/

theorem stepTo_point (d : Dev) (t : Nat) : PointRel d (d.stepTo t) := by
  unfold Dev.stepTo
  split
  · exact setDoze_point d d.pwr.doze (some t)
  · split
    · exact .raise d (by decide)
    · exact (dvfsBegin_point ..).trans (grantTokens_grant _).point

theorem dvfsTarget_get (d : Dev) (p : Nat) : (dvfsTarget p d).get R.PWR_DVFS.TARGET = p % 4 := by
  have hset : (d.set R.PWR_DVFS.TARGET p).get R.PWR_DVFS.TARGET = p % 4 := get_set_self _ _ _ (by decide)
  unfold dvfsTarget
  generalize d.set R.PWR_DVFS.TARGET p = x at hset ⊢
  dsimp only
  have hstep : (x.stepTo p).get R.PWR_DVFS.TARGET = p % 4 := by rw [(stepTo_point x p).get (by decide), hset]
  split
  · exact hset
  · split
    · split
      · exact hstep
      · exact (get_of_regs (d := x) rfl rfl _).trans hset
    · exact hstep

theorem dvfsTarget_boot (d : Dev) (p : Nat) (h : d.gcr.mode = .boot) : (dvfsTarget p d).pwr = d.pwr := by
  have hx : dvfsTarget p d = d.set R.PWR_DVFS.TARGET p := if_pos h
  rw [hx, Dev.set_pwr]

/-- Outside Doze a TARGET starts a step, or is kept for after the step under way (R433, R435). -/
theorem dvfsTarget_awake (d : Dev) (p : Nat) (h : d.gcr.mode ≠ .boot) (hz : d.pwr.doze = none) :
    dvfsTarget p d = (d.set R.PWR_DVFS.TARGET p).stepTo p := by
  have hmode : (d.set R.PWR_DVFS.TARGET p).gcr.mode ≠ .boot := h
  have hdoze : (d.set R.PWR_DVFS.TARGET p).pwr.doze = none := hz
  unfold dvfsTarget
  generalize d.set R.PWR_DVFS.TARGET p = x at hmode hdoze ⊢
  dsimp only
  rw [if_neg hmode, hdoze]
  rfl

theorem dvfsTarget_dozing (d : Dev) (p : Nat) (h : d.gcr.mode ≠ .boot) (hall : d.pwr.doze.all (fun z => !z.waking) = true)
    (hz : d.pwr.doze.isSome = true) (hs : d.pwr.step = none) :
    (dvfsTarget p d).pwr.doze = d.pwr.doze.map (fun z => { z with retarget := true }) := by
  obtain ⟨z, hz⟩ := Option.isSome_iff_exists.mp hz
  have hw : z.waking = false := by simpa [hz] using hall
  have hmode : (d.set R.PWR_DVFS.TARGET p).gcr.mode ≠ .boot := h
  have hpwr : (d.set R.PWR_DVFS.TARGET p).pwr = d.pwr := Dev.set_pwr ..
  unfold dvfsTarget
  generalize d.set R.PWR_DVFS.TARGET p = x at hmode hpwr ⊢
  dsimp only
  have hfilter : (some z).filter (fun z => !((none : Option Dvfs).isSome && z.stage == 0)) = some z := by simp
  rw [if_neg hmode, hpwr, hz, hs, hfilter]
  dsimp only
  rw [if_neg (Bool.eq_false_iff.mp hw)]
  rfl

theorem stepTo_later (d : Dev) (p : Nat) (h : d.pwr.step.isSome = true) : (d.stepTo p).pwr.nextTarget = some p := by
  rw [Dev.stepTo, if_pos h]

theorem stepTo_refused (d : Dev) (p : Nat) (hs : d.pwr.step = none) (hp : p ≠ d.pwr.vpt) (hok : d.pwr.pmbOk = false) :
    d.stepTo p = d.raise R.PWR_EVT.DVFS_REFUSED := by
  rw [Dev.stepTo, hs, if_neg (by simp), if_pos (by simp [Dev.needsVolt, hp, hok])]

theorem stepTo_starts (d : Dev) (p : Nat) (hs : d.pwr.step = none) (hp : p ≠ d.pwr.fpt) (hok : d.pwr.pmbOk = true) :
    (d.stepTo p).pwr.step.isSome = true := by
  rw [Dev.stepTo, hs, if_neg (by simp), if_neg (by simp [hok])]
  exact dvfsBegin_isSome d (.inl hp)

theorem dvfsTarget_effect (d : Dev) (p : Nat) :
    (dvfsTarget p d).get R.PWR_DVFS.TARGET = p % 4 ∧ (d.gcr.mode = .boot → (dvfsTarget p d).pwr = d.pwr) ∧
    (d.gcr.mode ≠ .boot → d.pwr.doze = none → d.pwr.step.isSome = true → (dvfsTarget p d).pwr.nextTarget = some p) ∧
    (d.gcr.mode ≠ .boot → d.pwr.doze.all (fun z => !z.waking) = true → d.pwr.doze.isSome = true → d.pwr.step = none →
      (dvfsTarget p d).pwr.doze = d.pwr.doze.map (fun z => { z with retarget := true })) ∧
    (d.gcr.mode ≠ .boot → d.pwr.doze = none → d.pwr.step = none → p ≠ d.pwr.vpt → d.pwr.pmbOk = false →
      (dvfsTarget p d).pwr = d.pwr ∧ (dvfsTarget p d).flag R.PWR_EVT.DVFS_REFUSED = true) ∧
    (d.gcr.mode ≠ .boot → d.pwr.doze = none → d.pwr.step = none → p ≠ d.pwr.fpt → d.pwr.pmbOk = true →
      (dvfsTarget p d).pwr.step.isSome = true) := by
  refine ⟨dvfsTarget_get d p, dvfsTarget_boot d p, fun hm hz hs => ?_, dvfsTarget_dozing d p, fun hm hz hs hp hok => ?_,
    fun hm hz hs hp hok => ?_⟩
  · rw [dvfsTarget_awake d p hm hz]
    exact stepTo_later _ p hs
  · rw [dvfsTarget_awake d p hm hz, stepTo_refused (d.set R.PWR_DVFS.TARGET p) p hs hp hok]
    exact ⟨rfl, flag_raise_self _ _ (by decide)⟩
  · rw [dvfsTarget_awake d p hm hz]
    exact stepTo_starts _ p hs hp hok

theorem dvfsFgo_effect (d : Dev) :
    if d.get R.PWR_DVFS_MAN.FPT_REQ < d.pwr.vpt ∨ d.pwr.step.isSome ∨ d.dozeActive then
      (dvfsFgo d).pwr = d.pwr ∧ (dvfsFgo d).flag R.PWR_EVT.DVFS_REFUSED = true
    else d.get R.PWR_DVFS_MAN.FPT_REQ ≠ d.pwr.fpt → (dvfsFgo d).pwr.step.isSome = true := by
  unfold dvfsFgo
  dsimp only
  split
  · exact ⟨rfl, flag_raise_self _ _ (by decide)⟩
  · exact fun hf => dvfsBegin_isSome d (.inl hf)

theorem dvfsVgo_effect (d : Dev) :
    if d.pwr.fpt < d.get R.PWR_DVFS_MAN.VPT_REQ ∨ (d.get R.PWR_DVFS_MAN.VPT_REQ ≠ d.pwr.vpt ∧ d.pwr.pmbOk = false) ∨
        d.pwr.step.isSome ∨ d.dozeActive then
      (dvfsVgo d).pwr = d.pwr ∧ (dvfsVgo d).flag R.PWR_EVT.DVFS_REFUSED = true
    else d.get R.PWR_DVFS_MAN.VPT_REQ ≠ d.pwr.vpt → (dvfsVgo d).pwr.step.isSome = true := by
  have hcond : (d.needsVolt (d.get R.PWR_DVFS_MAN.VPT_REQ) && !d.pwr.pmbOk) = true ↔
      (d.get R.PWR_DVFS_MAN.VPT_REQ ≠ d.pwr.vpt ∧ d.pwr.pmbOk = false) := by simp [Dev.needsVolt]
  unfold dvfsVgo
  simp only [hcond]
  split
  · exact ⟨rfl, flag_raise_self _ _ (by decide)⟩
  · exact fun hv => dvfsBegin_isSome d (.inr hv)

/-! ## The voltage is reached -/

theorem dvfsVolt_effect (d : Dev) {x : Dvfs} (hs : d.pwr.step = some x) (hw : x.voltWait = true) :
    d.dvfsVolt.pwr.vpt = x.goalV ∧ d.dvfsVolt.get R.PWR_VR_MEAS.MV = d.get R.PWR_VR_MEAS.MV := by
  unfold Dev.dvfsVolt
  rw [hs]
  dsimp only
  rw [if_pos hw]
  split
  · have hp := dvfsEnd_point { d with pwr := { d.pwr with vpt := x.goalV, tries := d.pwr.tries.filter (fun e => e.1 != 1) } }
    exact ⟨by rw [hp.pwr], by rw [hp.get (by decide)]; exact get_of_regs rfl rfl _⟩
  · have hp := dvfsReady_point { d with pwr := { d.pwr with
      vpt := x.goalV, tries := d.pwr.tries.filter (fun e => e.1 != 1), step := some { x with voltWait := false } } }
    exact ⟨by rw [hp.pwr], by rw [hp.get (by decide)]; exact get_of_regs rfl rfl _⟩

theorem voltageReached_near (d : Dev) (w ma : Nat) {x : Dvfs} (hs : d.pwr.step = some x) (hw : x.voltWait = true)
    (hn : nearPoint (linearMv d.pwr.voutExp w) x.goalV = true) :
    (voltageReached (some (w, ma)) d).pwr.vpt = x.goalV ∧
    (voltageReached (some (w, ma)) d).get R.PWR_VR_MEAS.MV = linearMv d.pwr.voutExp w % 2 ^ (R.PWR_VR_MEAS.MV.hi + 1) := by
  obtain ⟨hpwr, hmv, -⟩ := vrRead_effect d w ma
  have heq : voltageReached (some (w, ma)) d = (d.vrRead w ma).dvfsVolt := by
    unfold voltageReached
    rw [hs]
    dsimp only
    rw [if_pos hw, hpwr, if_pos hn]
  obtain ⟨hv, hg⟩ := dvfsVolt_effect (d.vrRead w ma) (by rw [hpwr, hs]) hw
  rw [heq]
  exact ⟨hv, hg.trans hmv⟩

theorem voltageReached_far (d : Dev) (w ma : Nat) {x : Dvfs} (hs : d.pwr.step = some x) (hw : x.voltWait = true)
    (hn : nearPoint (linearMv d.pwr.voutExp w) x.goalV = false) : voltageReached (some (w, ma)) d = d.vrRead w ma := by
  unfold voltageReached
  rw [hs]
  dsimp only
  rw [if_pos hw, (vrRead_effect d w ma).1, hn]
  rfl

theorem voltageReached_none (d : Dev) {x : Dvfs} (hs : d.pwr.step = some x) (hw : x.voltWait = true) :
    voltageReached none d = d.raise R.PWR_EVT.PMB_ERR := by
  unfold voltageReached
  rw [hs]
  exact if_pos hw

/-- Settles O15: each command's own branch, with the steps of the operating point that it starts, goes on with or ends. -/
theorem regulatorAndPoints : Obligations.RegulatorAndPoints := by
  unfold Obligations.RegulatorAndPoints
  refine ⟨?_, ?_, ?_, ?_, ?_, ?_, ?_, ?_, ?_, ?_, ?_, ?_, ?_⟩
  · intro mode s ha
    refine ⟨_, onDev_awake ha _, ?_⟩
    rw [State.setDev_dev, settle_flag, settle_pwr]
    exact ⟨flag_raise_self _ _ (by decide), voutMode_read s.dev mode⟩
  · intro mode w ma s ha
    refine ⟨_, onDev_awake ha _, ?_⟩
    rw [State.setDev_dev, settle_get, settle_get, settle_pwr]
    obtain ⟨hpwr, hread⟩ := vrRead_effect (s.dev.voutMode mode) w ma
    rw [show pmbusPoll mode (some (w, ma)) s.dev = (s.dev.voutMode mode).vrRead w ma from rfl, hpwr]
    exact hread
  · intro m ans s ha hread
    obtain ⟨hok, hsent⟩ := voutMode_first s.dev m hread
    refine ⟨_, onDev_awake ha _, ?_⟩
    rw [State.setDev_dev, settle_pwr]
    have hdrove := drove_of_append (o := .pmbus (s.dev.get R.PWR_VR_CFG.ADDR) (s.dev.flag R.PWR_VR_CFG.PEC) "VOUT_MODE" 0) hsent
      (List.mem_singleton.mpr rfl)
    cases ans with
    | none => exact ⟨hok, drove_settle (drove_mono hdrove ⟨_, hsent.symm⟩ (List.suffix_refl _)) ⟨_, hsent.symm⟩⟩
    | some a =>
      have hlast := vrRead_sent (s.dev.voutMode (some m)) a.1 a.2
      refine ⟨(congrArg (·.pmbOk) (vrRead_effect _ a.1 a.2).1).trans hok, ?_⟩
      exact drove_settle (drove_mono hdrove ⟨_, hsent.symm⟩ hlast) (List.IsSuffix.trans ⟨_, hsent.symm⟩ hlast)
  · intro w s ha
    refine ⟨_, onDev_awake ha _, ?_⟩
    rw [State.setDev_dev, settle_flag, settle_get]
    exact vrAlert_some s.dev w
  · intro s ha
    refine ⟨_, onDev_awake ha _, ?_⟩
    rw [State.setDev_dev, settle_flag, settle_flag]
    exact vrAlert_none s.dev
  · intro src s hr
    obtain ⟨-, hregs, l, hsent⟩ := pmbusWrite_effect s.dev "CLEAR_FAULTS" 0
    refine ⟨_, onDev_write hr src _, ?_, ?_⟩
    · rw [State.setDev_dev, settle_regs, settle_flag, Dev.emit_regs, emit_flag]
      exact hregs
    · rw [State.setDev_dev]
      refine settle_drove_of_append (l := .regOk src :: l ++
        [.pmbus (s.dev.get R.PWR_VR_CFG.ADDR) (s.dev.flag R.PWR_VR_CFG.PEC) "CLEAR_FAULTS" 0]) ?_ (by simp)
      rw [Dev.emit_sent, vrClear, ← hsent]
      simp
  · intro s ha hc
    refine ⟨_, onDev_awake ha _, ?_⟩
    rw [State.setDev_dev, settle_gcr, settle_pwr, vrPgLost, if_pos hc]
    exact recoverAon_mode _
  · intro src p s hr
    refine ⟨_, onDev_write hr src _, ?_⟩
    rw [State.setDev_dev, settle_get, settle_pwr, settle_flag, emit_get, emit_flag, Dev.emit_pwr]
    exact dvfsTarget_effect s.dev p
  · intro src s hr
    refine ⟨_, onDev_write hr src _, ?_⟩
    rw [State.setDev_dev, settle_pwr, settle_flag, emit_flag, Dev.emit_pwr]
    exact dvfsFgo_effect s.dev
  · intro src s hr
    refine ⟨_, onDev_write hr src _, ?_⟩
    rw [State.setDev_dev, settle_pwr, settle_flag, emit_flag, Dev.emit_pwr]
    exact dvfsVgo_effect s.dev
  · intro w ma x s ha hs hw hn
    refine ⟨_, onDev_awake ha _, ?_⟩
    rw [State.setDev_dev, settle_pwr, settle_get]
    exact voltageReached_near s.dev w ma hs hw hn
  · intro w ma x s ha hs hw hn
    refine ⟨_, onDev_awake ha _, ?_⟩
    rw [State.setDev_dev, settle_pwr, settle_get, voltageReached_far s.dev w ma hs hw hn]
    obtain ⟨hpwr, hmv, -⟩ := vrRead_effect s.dev w ma
    exact ⟨hpwr, hmv⟩
  · intro x s ha hs hw
    refine ⟨_, onDev_awake ha _, ?_⟩
    rw [State.setDev_dev, settle_pwr, settle_flag, voltageReached_none s.dev hs hw]
    exact ⟨rfl, flag_raise_self _ _ (by decide)⟩

end Sys2Proof.Machine
end

section
/-! THEOREM. The directory and timetable probes, the counters, samples, and a core cycle (R13, R131, R138, R543 to R549). -/

namespace Sys2Proof.Machine

set_option Elab.async false

/-! ## Registers and pairs apart -/

theorem raw_set64_ne (d : Dev) (lo v : Nat) {o : Nat} (hl : o ≠ lo) (hh : o ≠ lo + 4) : (d.set64 lo v).raw o = d.raw o :=
  raw_of_bank ((bankGet_bankSet_ne _ _ _ _ hh).trans (bankGet_bankSet_ne _ _ _ _ hl)) rfl

theorem get64_set_ne (d : Dev) (f : FieldRef) (v : Nat) {lo : Nat} (hl : lo ≠ f.ofs) (hh : lo + 4 ≠ f.ofs) :
    (d.set f v).get64 lo = d.get64 lo := by
  simp only [Dev.get64, raw_set_ne d f v _ hl, raw_set_ne d f v _ hh]

theorem get_set64_ne (d : Dev) (lo v : Nat) {f : FieldRef} (hl : f.ofs ≠ lo) (hh : f.ofs ≠ lo + 4) :
    (d.set64 lo v).get f = d.get f := by
  rw [Dev.get, Dev.get, raw_set64_ne d lo v hl hh]

/-- Two pairs apart. -/
theorem get64_set64_ne (d : Dev) (lo v : Nat) {a : Nat} (h : a + 8 ≤ lo ∨ lo + 8 ≤ a) : (d.set64 lo v).get64 a = d.get64 a := by
  simp only [Dev.get64]
  rw [raw_set64_ne d lo v (by omega) (by omega), raw_set64_ne d lo v (by omega) (by omega)]

/-! ## What follows every command counts no event lost -/

/-- What changes of the performance counters' state is the events of the cycle alone. -/
def PmuEvents (d e : Dev) : Prop := e.pmu = { d.pmu with ev := e.pmu.ev }

theorem PmuEvents.of_pmu {d e : Dev} (h : e.pmu = d.pmu) : PmuEvents d e := by rw [PmuEvents, h]

theorem PmuEvents.trans {a b c : Dev} (h : PmuEvents a b) (k : PmuEvents b c) : PmuEvents a c := by
  unfold PmuEvents at h k ⊢
  rw [k, h]

theorem setPort_pmu (d : Dev) (n : Nat) (p : Port) : (d.setPort n p).pmu = d.pmu := by
  unfold Dev.setPort
  split <;> rfl

theorem emitFlit_pmu (d : Dev) (n fk seq : Nat) (slots : BitVec 1920) (mark : Nat) : (d.emitFlit n fk seq slots mark).pmu = d.pmu := by
  rw [Dev.emitFlit, Dev.emit_pmu, setPort_pmu]

theorem pumpTwin_pmu (l : List (Nat × List Item)) (d : Dev) : PmuEvents d (Dev.pumpTwin l d) := by
  induction l generalizing d with
  | nil => exact .of_pmu rfl
  | cons f l ih =>
    unfold Dev.pumpTwin
    split
    · refine PmuEvents.trans ?_ (ih _)
      rw [PmuEvents, Dev.dataOut, emitFlit_pmu, setPort_pmu, Dev.emit_pmu]
      rfl
    · exact .of_pmu rfl

theorem flushTwin_pmu (d : Dev) : PmuEvents d d.flushTwin := by
  unfold Dev.flushTwin
  split
  · exact .of_pmu rfl
  · have hlive : ∀ (l : List (List Item)) (x : Dev), (l.foldl Dev.liveFlit x).pmu = x.pmu := by
      intro l
      induction l with
      | nil => exact fun _ => rfl
      | cons i l ih => exact fun x => ih _
    have hpump : ∀ x : Dev, PmuEvents x x.pumpTw := by
      intro x
      unfold Dev.pumpTw Dev.twIdle
      split
      · exact .of_pmu rfl
      · split
        · exact (pumpTwin_pmu x.twn.wait x).trans (.of_pmu (emitFlit_pmu ..))
        · exact pumpTwin_pmu x.twn.wait x
    exact PmuEvents.trans (.of_pmu (hlive _ { d with twn := { d.twn with items := [] } })) (hpump _)

theorem settle_pmu (d : Dev) : PmuEvents d (settle d) := by
  have hvec : ∀ (c : Nat) (l : List Nat) (x : Dev), (l.foldl (Dev.settleVec c) x).pmu = x.pmu := by
    intro c l
    induction l with
    | nil => exact fun _ => rfl
    | cons v l ih =>
      intro x
      refine (ih _).trans ?_
      unfold Dev.settleVec Dev.sendMsix
      dsimp only
      split_ifs <;> rfl
  unfold settle
  dsimp only
  split
  · exact (flushTwin_pmu d).trans (.of_pmu rfl)
  · exact (flushTwin_pmu d).trans (.of_pmu (hvec _ _ _))

theorem settle_pmu_want (d : Dev) : (settle d).pmu.want = d.pmu.want := congrArg (·.want) (settle_pmu d)

theorem settle_pmu_wraps (d : Dev) : (settle d).pmu.wraps = d.pmu.wraps := congrArg (·.wraps) (settle_pmu d)

/-! ## Probes -/

theorem dirProbeGo_effect (d : Dev) (h : d.pip.probe = false) :
    (dirProbeGo d).pip.probe = true ∧ (dirProbeGo d).get R.DIR_PROBE_STAT.DONE = 0 := by
  rw [dirProbeGo, if_neg (by simp [h])]
  exact ⟨rfl, get_set_self _ _ 0 (by decide)⟩

/-- A probe takes a lookup slot, and reports what the directory holds (R131). -/
theorem dirProbeDone_effect (d : Dev) (o : Option DirEnt) (hp : d.pip.probe = true) (hs : d.slotsLeft ≠ 0)
    (he : d.dirEnt (d.get64 R.DIR_PROBE_ADDR_LO.ADDR_LO.ofs / 128) = o) :
    (dirProbeDone d).pip.probe = false ∧ (dirProbeDone d).get R.DIR_PROBE_STAT.DONE = 1 ∧
    (dirProbeDone d).get R.DIR_PROBE_STAT.HIT = b01 o.isSome ∧
    (dirProbeDone d).get64 R.DIR_PROBE_DATA_LO.DATA_LO.ofs = (o.map DirEnt.pack).getD 0 % 2 ^ 64 := by
  have hreport : ∀ (x : Dev) (hit v : Nat),
      (((x.set R.DIR_PROBE_STAT.DONE 1).set R.DIR_PROBE_STAT.HIT hit).set64 R.DIR_PROBE_DATA_LO.DATA_LO.ofs v).pip = x.pip ∧
      (((x.set R.DIR_PROBE_STAT.DONE 1).set R.DIR_PROBE_STAT.HIT hit).set64 R.DIR_PROBE_DATA_LO.DATA_LO.ofs v).get
        R.DIR_PROBE_STAT.DONE = 1 ∧
      (((x.set R.DIR_PROBE_STAT.DONE 1).set R.DIR_PROBE_STAT.HIT hit).set64 R.DIR_PROBE_DATA_LO.DATA_LO.ofs v).get
        R.DIR_PROBE_STAT.HIT = hit % 2 ∧
      (((x.set R.DIR_PROBE_STAT.DONE 1).set R.DIR_PROBE_STAT.HIT hit).set64 R.DIR_PROBE_DATA_LO.DATA_LO.ofs v).get64
        R.DIR_PROBE_DATA_LO.DATA_LO.ofs = v % 2 ^ 64 := by
    intro x hit v
    refine ⟨rfl, ?_, ?_, get64_set64 _ _ _⟩
    · rw [get_set64_ne _ _ _ (by decide) (by decide), get_set_far _ _ _ _ (by decide), get_set_self _ _ _ (by decide)]
      rfl
    · rw [get_set64_ne _ _ _ (by decide) (by decide), get_set_self _ _ _ (by decide)]
      rfl
  unfold dirProbeDone
  rw [if_neg (by simp [hp, hs])]
  dsimp only
  generalize hx : (Dev.slot { d with pip := { d.pip with probe := false }, cnf := { d.cnf with used := d.cnf.used + 1 } } _) = x
  have hpip : x.pip.probe = false := by rw [← hx]; rfl
  have hdir : (x.set R.DIR_PROBE_STAT.DONE 1).dirEnt (d.get64 R.DIR_PROBE_ADDR_LO.ADDR_LO.ofs / 128) = o := by
    rw [← he, ← hx]
    rfl
  rw [hdir]
  cases o with
  | none => exact ⟨by rw [(hreport x 0 0).1, hpip], (hreport x 0 0).2⟩
  | some e => exact ⟨by rw [(hreport x 1 e.pack).1, hpip], (hreport x 1 e.pack).2⟩

theorem depProbeGo_none (d : Dev) (h : d.dep? (d.get R.DEP_PROBE_IDX.IDX) = none) :
    (depProbeGo d).get R.DEP_PROBE_STAT.DONE = 1 ∧ (depProbeGo d).get R.DEP_PROBE_STAT.VALID = 0 ∧ (depProbeGo d).dep = d.dep := by
  have heq : depProbeGo d = (d.set R.DEP_PROBE_STAT.DONE 1).set R.DEP_PROBE_STAT.VALID 0 := by
    unfold depProbeGo
    dsimp only
    rw [get_set_far _ _ _ _ (by decide), show (d.set R.DEP_PROBE_STAT.DONE 1).dep? (d.get R.DEP_PROBE_IDX.IDX) = none from h]
  rw [heq]
  refine ⟨?_, get_set_self _ _ 0 (by decide), rfl⟩
  rw [get_set_far _ _ _ _ (by decide), get_set_self _ _ _ (by decide)]
  rfl

theorem depProbeGo_some (d : Dev) (e : Dep) (h : d.dep? (d.get R.DEP_PROBE_IDX.IDX) = some e) :
    (depProbeGo d).get R.DEP_PROBE_STAT.DONE = 1 ∧ (depProbeGo d).get R.DEP_PROBE_STAT.VALID = 1 ∧
    (depProbeGo d).get64 R.DEP_PROBE_T_LO.T_LO.ofs = e.t.toNat ∧ (depProbeGo d).dep = d.dep := by
  unfold depProbeGo
  dsimp only
  rw [get_set_far _ _ _ _ (by decide), show (d.set R.DEP_PROBE_STAT.DONE 1).dep? (d.get R.DEP_PROBE_IDX.IDX) = some e from h]
  dsimp only
  refine ⟨?_, ?_, ?_, by simp only [Dev.set_dep, Dev.set64_dep]⟩
  · rw [get_set_far _ _ _ _ (by decide), get_set_far _ _ _ _ (by decide), get_set_far _ _ _ _ (by decide),
      get_set_far _ _ _ _ (by decide), get_set64_ne _ _ _ (by decide) (by decide), get_set64_ne _ _ _ (by decide) (by decide),
      get_set_far _ _ _ _ (by decide), get_set_far _ _ _ _ (by decide), get_set_far _ _ _ _ (by decide),
      get_set_far _ _ _ _ (by decide), get_set_far _ _ _ _ (by decide), get_set_self _ _ _ (by decide)]
    rfl
  · rw [get_set_far _ _ _ _ (by decide), get_set_far _ _ _ _ (by decide), get_set_far _ _ _ _ (by decide),
      get_set_far _ _ _ _ (by decide), get_set64_ne _ _ _ (by decide) (by decide), get_set64_ne _ _ _ (by decide) (by decide),
      get_set_far _ _ _ _ (by decide), get_set_far _ _ _ _ (by decide), get_set_far _ _ _ _ (by decide),
      get_set_far _ _ _ _ (by decide), get_set_self _ _ _ (by decide)]
    rfl
  · rw [get64_set_ne _ _ _ (by decide) (by decide), get64_set_ne _ _ _ (by decide) (by decide),
      get64_set_ne _ _ _ (by decide) (by decide), get64_set_ne _ _ _ (by decide) (by decide), get64_set64_ne _ _ _ (by decide),
      get64_set64]
    exact Nat.mod_eq_of_lt e.t.isLt

/-! ## Counters and samples -/

/-- The counters' registers are 0 after a reset (R519). -/
theorem counter_reset : (∀ n, n < 64 → ∀ r : Role, resetAt r (0xC040 + n * 8) = 0 ∧ resetAt r (0xC040 + n * 8 + 4) = 0) ∧
    ∀ n, n < 8 → ∀ r : Role, resetAt r (0xB050 + n * 8) = 0 ∧ resetAt r (0xB050 + n * 8 + 4) = 0 := by
  have hall : ∀ r : Role, ((List.range 64).all fun n => resetAt r (0xC040 + n * 8) == 0 && resetAt r (0xC040 + n * 8 + 4) == 0) = true ∧
      ((List.range 8).all fun n => resetAt r (0xB050 + n * 8) == 0 && resetAt r (0xB050 + n * 8 + 4) == 0) = true := by
    intro r
    cases r with
    | standalone => decide +kernel
    | worker => decide +kernel
    | manager => decide +kernel
    | reserved => decide +kernel
  refine ⟨fun n hn r => ?_, fun n hn r => ?_⟩
  · have h := List.all_eq_true.mp (hall r).1 n (List.mem_range.mpr hn)
    simpa using h
  · have h := List.all_eq_true.mp (hall r).2 n (List.mem_range.mpr hn)
    simpa using h

/-- CLEAR: a pair of counters reads 0 (R548). -/
theorem pmuClear_get64 (d : Dev) {lo : Nat} (hl : (0xB048 ≤ lo ∧ lo + 4 < 0xB090) ∨ (0xC040 ≤ lo ∧ lo + 4 < 0xC240))
    (hr : resetAt d.gcr.role lo = 0 ∧ resetAt d.gcr.role (lo + 4) = 0) : (pmuClear d).get64 lo = 0 := by
  have hraw : ∀ o, ((0xB048 ≤ o ∧ o < 0xB090) ∨ (0xC040 ≤ o ∧ o < 0xC240)) → resetAt d.gcr.role o = 0 → (pmuClear d).raw o = 0 := by
    intro o ho hres
    have hget : bankGet (pmuClear d).regs o = none := by
      refine bankGet_filter _ _ _ fun v => ?_
      rcases ho with ho | ho <;> simp [ho]
    rw [Dev.raw, hget]
    exact hres
  rw [Dev.get64, hraw lo (by omega) hr.1, hraw (lo + 4) (by omega) hr.2]
  rfl

theorem counterWrap_fixed (d : Dev) (n : Nat) (hn : n < 8) (hw : (true, n) ∈ d.pmu.wraps) :
    (counterWrap true n d).flag R.PMU_EVT.FIX_OVF = true ∧
    (counterWrap true n d).flag (bitRef R.PMU_FIX_STAT.OVF.ofs (if (d.get R.PMU_FIX_CFG.SAT).testBit n then 8 + n else n)) = true := by
  have hok : ∀ k, k < 16 → fieldOk (bitRef R.PMU_FIX_STAT.OVF.ofs k) = true ∧
      fieldsApart R.PMU_EVT.FIX_OVF (bitRef R.PMU_FIX_STAT.OVF.ofs k) = true := by decide
  have hk : (if (d.get R.PMU_FIX_CFG.SAT).testBit n then 8 + n else n) < 16 := by split <;> omega
  unfold counterWrap
  rw [if_neg (by simpa using hw)]
  refine ⟨flag_raise_self _ _ (by decide), ?_⟩
  show Dev.flag (Dev.raise (Dev.set _ (bitRef _ (if (d.get R.PMU_FIX_CFG.SAT).testBit n then 8 + n else n)) 1) _) _ = true
  rw [Dev.flag, get_raise_far _ _ _ (hok _ hk).2, ← Dev.flag]
  exact flag_raise_self _ _ (hok _ hk).1

theorem counterWrap_programmed (d : Dev) (n : Nat) (hn : n < 64) (hw : (false, n) ∈ d.pmu.wraps) :
    (counterWrap false n d).flag (bitRef ((if d.flag (R.PMU_SELn.SAT n) then 0xC408 else 0xC400) + 4 * (n / 32)) (n % 32)) = true ∧
    (d.flag (R.PMU_SELn.SAMPLE n) = true → d.flag (R.PMU_SELn.SAT n) = false → (counterWrap false n d).pmu.want = d.pmu.want ++ [n]) := by
  have hok : ∀ a, fieldOk (bitRef a (n % 32)) = true := fun a => by
    have hlt := Nat.mod_lt n (show 32 > 0 by decide)
    simp only [fieldOk, bitRef, Bool.and_eq_true]
    exact ⟨decide_eq_true le_rfl, decide_eq_true hlt⟩
  unfold counterWrap
  rw [if_neg (by simpa using hw)]
  dsimp only
  rw [if_neg Bool.false_ne_true]
  generalize hx : ({ d with pmu := { d.pmu with wraps := d.pmu.wraps.erase (false, n) } } : Dev) = x
  have hflag : ∀ f, x.flag f = d.flag f := fun f => by rw [← hx]; exact flag_of_regs rfl rfl f
  have hwant : x.pmu.want = d.pmu.want := by rw [← hx]
  rw [hflag]
  generalize ha : (if d.flag (R.PMU_SELn.SAT n) then 0xC408 else 0xC400) + 4 * (n / 32) = a
  have hset : (x.set (bitRef a (n % 32)) 1).flag (bitRef a (n % 32)) = true := flag_raise_self x _ (hok a)
  refine ⟨?_, fun hs ht => ?_⟩
  · split
    · exact (flag_of_regs rfl rfl _).trans hset
    · exact hset
  · have hsel : (x.set (bitRef a (n % 32)) 1).flag (R.PMU_SELn.SAMPLE n) = true := by
      rw [flag_set_far _ _ _ _ ?_, hflag, hs]
      have hne : (R.PMU_SELn.SAMPLE n).ofs ≠ a := by
        rw [← ha]
        show 0xC300 + n * 0x4 ≠ _
        split <;> omega
      simp [fieldsApart, bitRef, hne]
    rw [hsel, ht]
    show x.pmu.want ++ [n] = _
    rw [hwant]

/-- A sample that is due is lost while one is held (R549). -/
theorem sample_lost (d : Dev) (skid : Nat) {n : Nat} {l : List Nat} (hw : d.pmu.want = n :: l) (hv : d.flag R.PMU_SMP_STAT.VALID = true) :
    (sample skid d).pmu.want = l ∧ (sample skid d).flag R.PMU_EVT.SMP_LOST = true := by
  have hv' : Dev.flag { d with pmu := { d.pmu with want := l } } R.PMU_SMP_STAT.VALID = true := (flag_of_regs (d := d) rfl rfl _).trans hv
  unfold sample
  rw [hw]
  dsimp only
  rw [if_pos hv']
  exact ⟨rfl, flag_raise_self _ _ (by decide)⟩

/-- The sample's status register once the sample is taken. -/
theorem smpStat_effect (x : Dev) {n skid : Nat} (code : Nat) (hn : n < 64) (hs : skid < 128) :
    ((((x.set R.PMU_SMP_STAT.VALID 1).set R.PMU_SMP_STAT.CTR n).set R.PMU_SMP_STAT.SKID skid).set R.PMU_SMP_STAT.CODE code).get
      R.PMU_SMP_STAT.VALID = 1 ∧
    ((((x.set R.PMU_SMP_STAT.VALID 1).set R.PMU_SMP_STAT.CTR n).set R.PMU_SMP_STAT.SKID skid).set R.PMU_SMP_STAT.CODE code).get
      R.PMU_SMP_STAT.CTR = n ∧
    ((((x.set R.PMU_SMP_STAT.VALID 1).set R.PMU_SMP_STAT.CTR n).set R.PMU_SMP_STAT.SKID skid).set R.PMU_SMP_STAT.CODE code).get
      R.PMU_SMP_STAT.SKID = skid := by
  refine ⟨?_, ?_, ?_⟩
  · rw [get_set_far _ _ _ _ (by decide), get_set_far _ _ _ _ (by decide), get_set_far _ _ _ _ (by decide),
      get_set_self _ _ _ (by decide)]
    rfl
  · rw [get_set_far _ _ _ _ (by decide), get_set_far _ _ _ _ (by decide), get_set_self _ _ _ (by decide)]
    exact Nat.mod_eq_of_lt hn
  · rw [get_set_far _ _ _ _ (by decide), get_set_self _ _ _ (by decide)]
    exact Nat.mod_eq_of_lt hs

/-- The end of a sample: its lookup, its time, and the freeze it asks for (R549). -/
def smpEnd (u : SlotUse) (lk : Bool) (d : Dev) : Dev :=
  let d := ((d.set R.PMU_SMP_ID.LKUP (if lk then 1 else 0)).set R.PMU_SMP_ID.PORT u.port).set R.PMU_SMP_ID.OPC u.opc
  let d := (d.set R.PMU_SMP_ID.TXID u.txid).set64 R.PMU_SMP_ADDR_LO.ADDR_LO.ofs (u.line * 128 % 2 ^ 48)
  let d := d.set64 R.PMU_SMP_TIME_LO.TIME_LO.ofs d.bel.now.toNat
  let d := if d.flag R.PMU_GCTL.FRZ_SMP then d.set R.PMU_GCTL.FREEZE 1 else d
  d.raise R.PMU_EVT.SAMPLE

theorem smpEnd_effect (u : SlotUse) (lk : Bool) (d : Dev) :
    (smpEnd u lk d).pmu = d.pmu ∧ (∀ f : FieldRef, f.ofs = R.PMU_SMP_STAT.VALID.ofs → (smpEnd u lk d).get f = d.get f) ∧
    (smpEnd u lk d).flag R.PMU_EVT.SAMPLE = true ∧ (smpEnd u lk d).get64 R.PMU_SMP_TIME_LO.TIME_LO.ofs = d.bel.now.toNat ∧
    (d.flag R.PMU_GCTL.FRZ_SMP = true → (smpEnd u lk d).flag R.PMU_GCTL.FREEZE = true) := by
  unfold smpEnd
  dsimp only
  generalize hx : (((((d.set R.PMU_SMP_ID.LKUP (if lk then 1 else 0)).set R.PMU_SMP_ID.PORT u.port).set R.PMU_SMP_ID.OPC
    u.opc).set R.PMU_SMP_ID.TXID u.txid).set64 R.PMU_SMP_ADDR_LO.ADDR_LO.ofs (u.line * 128 % 2 ^ 48)).set64
    R.PMU_SMP_TIME_LO.TIME_LO.ofs _ = x
  have hpmu : x.pmu = d.pmu := by rw [← hx]; simp only [Dev.set_pmu, Dev.set64_pmu]
  have hstat : ∀ f : FieldRef, (f.ofs = R.PMU_SMP_STAT.VALID.ofs ∨ f.ofs = R.PMU_GCTL.FRZ_SMP.ofs) → x.get f = d.get f := by
    intro f hf
    have hfar : f.ofs ≠ R.PMU_SMP_ID.LKUP.ofs ∧ f.ofs ≠ R.PMU_SMP_ADDR_LO.ADDR_LO.ofs ∧ f.ofs ≠ R.PMU_SMP_ADDR_LO.ADDR_LO.ofs + 4 ∧
        f.ofs ≠ R.PMU_SMP_TIME_LO.TIME_LO.ofs ∧ f.ofs ≠ R.PMU_SMP_TIME_LO.TIME_LO.ofs + 4 := by
      rcases hf with hf | hf <;> rw [hf] <;> decide
    obtain ⟨hid, ha, hb, hc, he⟩ := hfar
    have hset : ∀ (y : Dev) (g : FieldRef) (v : Nat), g.ofs = R.PMU_SMP_ID.LKUP.ofs → (y.set g v).get f = y.get f := fun y g v hg =>
      get_set_far y g f v (by simp [fieldsApart, hg, hid])
    rw [← hx, get_set64_ne _ _ _ hc he, get_set64_ne _ _ _ ha hb, hset _ R.PMU_SMP_ID.TXID _ rfl, hset _ R.PMU_SMP_ID.OPC _ rfl,
      hset _ R.PMU_SMP_ID.PORT _ rfl, hset _ R.PMU_SMP_ID.LKUP _ rfl]
  have htime : x.get64 R.PMU_SMP_TIME_LO.TIME_LO.ofs = d.bel.now.toNat := by
    rw [← hx, get64_set64]
    simp only [Dev.set_bel, Dev.set64_bel]
    exact Nat.mod_eq_of_lt d.bel.now.isLt
  have hfrz : x.flag R.PMU_GCTL.FRZ_SMP = d.flag R.PMU_GCTL.FRZ_SMP := by rw [Dev.flag, hstat _ (.inr rfl), ← Dev.flag]
  have hkeep : ∀ f : FieldRef, f.ofs = R.PMU_SMP_STAT.VALID.ofs → f.ofs ≠ R.PMU_EVT.SAMPLE.ofs ∧ f.ofs ≠ R.PMU_GCTL.FREEZE.ofs :=
    fun f hf => by rw [hf]; decide
  refine ⟨?_, fun f hf => ?_, flag_raise_self _ _ (by decide), ?_, fun hf => ?_⟩
  · rw [← hpmu]
    split <;> rfl
  · obtain ⟨he, hg⟩ := hkeep f hf
    rw [get_raise_far _ _ _ (by simp [fieldsApart, he]), ← hstat f (.inl hf)]
    split
    · exact get_set_far x _ f 1 (by simp [fieldsApart, hg])
    · rfl
  · rw [get64_raise_ne _ _ _ (by decide) (by decide), ← htime]
    split
    · exact get64_set_ne x _ _ (by decide) (by decide)
    · rfl
  · rw [hfrz, if_pos hf, Dev.flag, get_raise_far _ _ _ (by decide), ← Dev.flag]
    exact flag_raise_self _ _ (by decide)

theorem sample_taken (d : Dev) {skid n : Nat} {l : List Nat} (hw : d.pmu.want = n :: l) (hn : n < 64) (hs : skid < 128)
    (hv : ¬ d.flag R.PMU_SMP_STAT.VALID = true) :
    (sample skid d).pmu.want = l ∧ (sample skid d).flag R.PMU_SMP_STAT.VALID = true ∧ (sample skid d).get R.PMU_SMP_STAT.CTR = n ∧
    (sample skid d).get R.PMU_SMP_STAT.SKID = skid ∧ (sample skid d).flag R.PMU_EVT.SAMPLE = true ∧
    (sample skid d).get64 R.PMU_SMP_TIME_LO.TIME_LO.ofs = d.bel.now.toNat ∧
    (d.flag R.PMU_GCTL.FRZ_SMP = true → (sample skid d).flag R.PMU_GCTL.FREEZE = true) := by
  have hv' : ¬ Dev.flag { d with pmu := { d.pmu with want := l } } R.PMU_SMP_STAT.VALID = true := fun h =>
    hv ((flag_of_regs (d := d) rfl rfl _).symm.trans h)
  have heq : ∃ (u : SlotUse) (lk : Bool), sample skid d = smpEnd u lk (((((Dev.set { d with pmu := { d.pmu with want := l } }
      R.PMU_SMP_STAT.VALID 1).set R.PMU_SMP_STAT.CTR n).set R.PMU_SMP_STAT.SKID skid).set R.PMU_SMP_STAT.CODE u.code)) := by
    refine ⟨(d.pmu.last.head?).getD (emptySlot 0x006), ((d.pmu.last.head?).getD (emptySlot 0x006)).code == 0x004 ||
      (0x016 ≤ ((d.pmu.last.head?).getD (emptySlot 0x006)).code && ((d.pmu.last.head?).getD (emptySlot 0x006)).code ≤ 0x018), ?_⟩
    unfold sample
    rw [hw]
    dsimp only
    rw [if_neg hv']
    rfl
  obtain ⟨u, lk, heq⟩ := heq
  obtain ⟨hvalid, hctr, hskid⟩ := smpStat_effect { d with pmu := { d.pmu with want := l } } u.code hn hs
  have hfrz : ((((Dev.set { d with pmu := { d.pmu with want := l } } R.PMU_SMP_STAT.VALID 1).set R.PMU_SMP_STAT.CTR n).set
      R.PMU_SMP_STAT.SKID skid).set R.PMU_SMP_STAT.CODE u.code).flag R.PMU_GCTL.FRZ_SMP = d.flag R.PMU_GCTL.FRZ_SMP := by
    rw [flag_set_far _ _ _ _ (by decide), flag_set_far _ _ _ _ (by decide), flag_set_far _ _ _ _ (by decide),
      flag_set_far _ _ _ _ (by decide)]
    exact flag_of_regs rfl rfl _
  have hpmu : ((((Dev.set { d with pmu := { d.pmu with want := l } } R.PMU_SMP_STAT.VALID 1).set R.PMU_SMP_STAT.CTR n).set
      R.PMU_SMP_STAT.SKID skid).set R.PMU_SMP_STAT.CODE u.code).pmu.want = l := by simp only [Dev.set_pmu]
  have hbel : ((((Dev.set { d with pmu := { d.pmu with want := l } } R.PMU_SMP_STAT.VALID 1).set R.PMU_SMP_STAT.CTR n).set
      R.PMU_SMP_STAT.SKID skid).set R.PMU_SMP_STAT.CODE u.code).bel = d.bel := by simp only [Dev.set_bel]
  rw [heq]
  generalize (((Dev.set { d with pmu := { d.pmu with want := l } } R.PMU_SMP_STAT.VALID 1).set R.PMU_SMP_STAT.CTR n).set
    R.PMU_SMP_STAT.SKID skid).set R.PMU_SMP_STAT.CODE u.code = x at *
  obtain ⟨hp, hstat, hsam, htime, hfree⟩ := smpEnd_effect u lk x
  exact ⟨by rw [hp, hpmu], by rw [Dev.flag, hstat R.PMU_SMP_STAT.VALID rfl, hvalid]; rfl, by rw [hstat R.PMU_SMP_STAT.CTR rfl, hctr],
    by rw [hstat R.PMU_SMP_STAT.SKID rfl, hskid], hsam,
    by rw [htime, hbel], fun h => hfree (by rw [hfrz, h])⟩

theorem pmuSmpDone_valid (d : Dev) : (pmuSmpDone d).flag R.PMU_SMP_STAT.VALID = false := by
  rw [pmuSmpDone, Dev.flag, get_set_self _ _ _ (by decide)]
  rfl

/-! ## A core cycle -/

/-- What a core cycle counts: registers, counters and the purser's cycle. -/
def Counts (d e : Dev) : Prop :=
  e = { d with regs := e.regs, pmu := e.pmu, pur := { d.pur with cyc := e.pur.cyc } }

theorem Counts.refl (d : Dev) : Counts d d := rfl

theorem Counts.trans {a b c : Dev} (h : Counts a b) (k : Counts b c) : Counts a c := by
  unfold Counts at h k ⊢
  rw [k, h]

theorem Counts.foldl {α : Type} {f : Dev → α → Dev} (h : ∀ d x, Counts d (f d x)) (l : List α) (d : Dev) : Counts d (l.foldl f d) := by
  induction l generalizing d with
  | nil => exact .refl d
  | cons x l ih => exact (h d x).trans (ih _)

theorem set64_counts (d : Dev) (lo v : Nat) : Counts d (d.set64 lo v) := rfl

theorem count_counts (d : Dev) (fixed : Bool) (n lo v : Nat) (sat : Bool) : Counts d (d.count fixed n lo v sat) := by
  unfold Dev.count
  dsimp only
  split
  · exact .refl d
  · split
    · exact set64_counts ..
    · exact Counts.trans (b := { d with pmu := { d.pmu with wraps := d.pmu.wraps.erase (fixed, n) ++ [(fixed, n)] } }) rfl
        (set64_counts ..)

theorem laneWaits_counts (d : Dev) : Counts d d.laneWaits := by
  refine Counts.foldl (fun d n => ?_) _ d
  split
  · exact .refl d
  · exact rfl

theorem laneWaits_regs (d : Dev) : d.laneWaits.regs = d.regs := by
  unfold Dev.laneWaits
  generalize List.range 18 = l
  induction l generalizing d with
  | nil => rfl
  | cons n l ih =>
    refine (ih _).trans ?_
    dsimp only
    split <;> rfl

/-- A count of another counter leaves a pair. -/
theorem count_get64_ne (d : Dev) (fixed : Bool) (n v : Nat) (sat : Bool) {lo a : Nat} (h : a + 8 ≤ lo ∨ lo + 8 ≤ a) :
    (d.count fixed n lo v sat).get64 a = d.get64 a := by
  unfold Dev.count
  dsimp only
  split
  · rfl
  · split
    · exact get64_set64_ne d lo _ h
    · exact get64_set64_ne { d with pmu := { d.pmu with wraps := d.pmu.wraps.erase (fixed, n) ++ [(fixed, n)] } } lo _ h

theorem count_get64_same (d : Dev) (fixed : Bool) (n lo : Nat) (sat : Bool) (h : d.get64 lo < 2 ^ 64 - 1) :
    (d.count fixed n lo 1 sat).get64 lo = d.get64 lo + 1 := by
  unfold Dev.count
  dsimp only
  rw [if_neg (by decide), if_pos (by omega), get64_set64]
  exact Nat.mod_eq_of_lt (by omega)

/-- The fixed counter of cycles counts one (R543, R545). -/
theorem countCycle_cycles (d : Dev) (slots : List SlotUse) (he : (d.get R.PMU_FIX_CFG.EN).testBit 0 = true)
    (hf : d.flag R.PMU_GCTL.FREEZE = false) (hlt : d.get64 (R.PMU_FIXf_LO.CNT_LO 0).ofs < 2 ^ 64 - 1) :
    (d.countCycle slots).get64 (R.PMU_FIXf_LO.CNT_LO 0).ofs = d.get64 (R.PMU_FIXf_LO.CNT_LO 0).ofs + 1 := by
  have hfold : ∀ {β : Type} (f : Dev → β → Dev) (l : List β), (∀ x, ∀ b ∈ l, (f x b).get64 (R.PMU_FIXf_LO.CNT_LO 0).ofs =
      x.get64 (R.PMU_FIXf_LO.CNT_LO 0).ofs) → ∀ x, (l.foldl f x).get64 (R.PMU_FIXf_LO.CNT_LO 0).ofs = x.get64 (R.PMU_FIXf_LO.CNT_LO 0).ofs := by
    intro β f l
    induction l with
    | nil => exact fun _ _ => rfl
    | cons b l ih => exact fun h x => (ih (fun y c hc => h y c (List.mem_cons_of_mem _ hc)) _).trans (h x b (List.mem_cons_self ..))
  unfold Dev.countCycle
  rw [Dev.frozen, hf, if_neg Bool.false_ne_true]
  dsimp only
  rw [hfold, show List.range 8 = 0 :: (List.range 7).map (· + 1) from rfl, List.foldl_cons, hfold, if_pos he]
  · exact count_get64_same d true 0 _ _ hlt
  · intro x b hb
    obtain ⟨k, -, rfl⟩ := List.mem_map.mp hb
    split
    · exact count_get64_ne x _ _ _ _ (.inl (show 0xB050 + 0 * 0x8 + 8 ≤ 0xB050 + (k + 1) * 0x8 by omega))
    · rfl
  · intro x n _
    split
    · exact count_get64_ne x _ _ _ _ (.inl (show 0xB050 + 0 * 0x8 + 8 ≤ 0xC040 + n * 0x8 by omega))
    · rfl

theorem countCycle_counts (d : Dev) (slots : List SlotUse) : Counts d (d.countCycle slots) := by
  unfold Dev.countCycle
  split
  · exact .refl d
  · refine Counts.trans (Counts.foldl (fun x f => ?_) _ d) (Counts.foldl (fun x n => ?_) _ _)
    · split
      · exact count_counts ..
      · exact .refl x
    · dsimp only
      split
      · exact count_counts ..
      · exact .refl x

theorem tally_counts (d : Dev) : Counts d d.tally := by
  unfold Dev.tally
  dsimp only
  have hcycle := countCycle_counts d d.cycleSlots.1
  generalize d.countCycle d.cycleSlots.1 = x at hcycle ⊢
  have hthr : Counts x (if throttled d.pur.level d.pur.cyc then x.bump64 R.PUR_THR_CNT_LO.THR_LO.ofs 1 else x) := by
    split
    · exact set64_counts x _ _
    · exact .refl x
  exact (hcycle.trans hthr).trans rfl

theorem tally_cycles (d : Dev) (he : (d.get R.PMU_FIX_CFG.EN).testBit 0 = true)
    (hf : d.flag R.PMU_GCTL.FREEZE = false) (hlt : d.get64 (R.PMU_FIXf_LO.CNT_LO 0).ofs < 2 ^ 64 - 1) :
    d.tally.get64 (R.PMU_FIXf_LO.CNT_LO 0).ofs = d.get64 (R.PMU_FIXf_LO.CNT_LO 0).ofs + 1 := by
  rw [← countCycle_cycles d d.cycleSlots.1 he hf hlt]
  have hthr : ∀ (x : Dev) (c : Bool), (if c then x.bump64 R.PUR_THR_CNT_LO.THR_LO.ofs 1 else x).get64 (R.PMU_FIXf_LO.CNT_LO 0).ofs =
      x.get64 (R.PMU_FIXf_LO.CNT_LO 0).ofs := by
    intro x c
    split
    · exact get64_set64_ne x _ _ (by decide)
    · rfl
  exact hthr _ _

/-- An engine that has nothing to issue issues nothing. -/
theorem refill_idle (d : Dev) (h : d.cnf.pool = []) : d.refill = d ∧ d.nextIssue = none := by
  have hnext : d.nextIssue = none := by simp [Dev.nextIssue, h]
  refine ⟨?_, hnext⟩
  rw [Dev.refill, hnext]

theorem issueNext_idle (d : Dev) (h : d.cnf.pool = []) : d.issueNext = d := by
  unfold Dev.issueNext
  rw [(refill_idle d h).1]
  dsimp only
  split
  · rw [if_neg (by simp)]
  · rfl

theorem foldl_id {α : Type} (f : Dev → α → Dev) (d : Dev) (l : List α) (h : ∀ x ∈ l, f d x = d) : l.foldl f d = d := by
  induction l with
  | nil => rfl
  | cons x l ih => rw [List.foldl_cons, h x (List.mem_cons_self ..), ih fun y hy => h y (List.mem_cons_of_mem _ hy)]

/-- With nothing waiting and nothing to issue, a cycle's lookups do nothing. -/
theorem lookups_idle (d : Dev) (hw : d.cnf.waiting = []) (hp : d.cnf.pool = []) : d.lookups = d := by
  have hboard : d.boardSlot = d := by
    rw [Dev.boardSlot, (refill_idle d hp).2]
    rfl
  have htake : d.takeWaiting = d := by
    have hport : ∀ n ∈ (List.range 32).map (fun k => (d.cnf.ptr + k) % 32), d.takePort n = d := fun n _ => by
      have hoff : d.offered n = none := by
        unfold Dev.offered
        rw [hw]
        split <;> rfl
      rw [Dev.takePort, hoff]
    unfold Dev.takeWaiting
    split
    · rfl
    · split
      · exact foldl_id _ _ _ hport
      · rw [hw]
        rfl
  rw [Dev.lookups, hboard, hboard, htake, issueNext_idle d hp, issueNext_idle d hp]

/-- At the end of a cycle in which no stream is to close, only the streams' count of HEAD changes. -/
theorem streamCycles_open (d : Dev) (h : d.apd.streams.all (fun e => !e.2.closing) = true) :
    d.streamCycles = { d with apd := d.streamCycles.apd } := by
  have hclosing : ∀ (x : Dev) (n : Nat), x.apd.streams.all (fun e => !e.2.closing) = true → (x.stream n).closing = false := by
    intro x n hx
    unfold Dev.stream
    cases hg : bankGet x.apd.streams n with
    | none => rfl
    | some s =>
      have hmem : ∀ (l : List (Nat × Stream)), bankGet l n = some s → (n, s) ∈ l := by
        intro l
        induction l with
        | nil => exact fun h => by cases h
        | cons e l ih =>
          obtain ⟨k, v⟩ := e
          intro hl
          unfold bankGet at hl
          split at hl
          · next hk => exact List.mem_cons.mpr (.inl (by rw [← Option.some.inj hl, hk]))
          · exact List.mem_cons_of_mem _ (ih hl)
      simpa using List.all_eq_true.mp hx _ (hmem _ hg)
  have hput : ∀ (x : Dev) (n : Nat) (s : Stream), s.closing = false → x.apd.streams.all (fun e => !e.2.closing) = true →
      (x.putStream n s).apd.streams.all (fun e => !e.2.closing) = true := by
    intro x n s hs hx
    have herase : (bankErase x.apd.streams n).all (fun e => !e.2.closing) = true :=
      List.all_eq_true.mpr fun e he => List.all_eq_true.mp hx e (List.mem_of_mem_filter he)
    have hins : ∀ l : List (Nat × Stream), l.all (fun e => !e.2.closing) = true →
        (bankInsert l n s).all (fun e => !e.2.closing) = true := by
      intro l
      induction l with
      | nil => exact fun _ => by simp [bankInsert, hs]
      | cons e l ih =>
        intro hl
        rw [List.all_cons, Bool.and_eq_true] at hl
        unfold bankInsert
        split
        · simp [hs, hl.1, hl.2]
        · simp [hl.1, ih hl.2]
    unfold Dev.putStream
    dsimp only
    split
    · exact herase
    · exact hins _ herase
  have hone : ∀ (x : Dev) (n : Nat), x.apd.streams.all (fun e => !e.2.closing) = true →
      x.streamCycle n = { x with apd := (x.streamCycle n).apd } ∧ (x.streamCycle n).apd.streams.all (fun e => !e.2.closing) = true := by
    intro x n hx
    have hc := hclosing x n hx
    unfold Dev.streamCycle
    dsimp only
    rw [hc]
    rw [if_neg Bool.false_ne_true]
    split
    · exact ⟨rfl, hput x n _ rfl hx⟩
    · exact ⟨rfl, hx⟩
  unfold Dev.streamCycles
  generalize d.apd.streams.map (·.1) = l
  induction l generalizing d with
  | nil => rfl
  | cons n l ih =>
    obtain ⟨hframe, hall⟩ := hone d n h
    rw [List.foldl_cons, ih _ hall, hframe]

theorem enginePlaces_idle (d : Dev) (h : d.cnf.txns.all (fun x => x.phase != .waitPlace) = true) : d.enginePlaces = d := by
  have hnil : d.cnf.txns.filter (fun t => t.phase == .waitPlace) = [] := by
    rw [List.filter_eq_nil_iff]
    intro t ht
    simpa using List.all_eq_true.mp h t ht
  rw [Dev.enginePlaces, hnil]
  rfl

/-- A cycle in which nothing waits (R13, R138, R543). -/
theorem coreCycle_idle (d : Dev) (hb : d.switchBusy .core = false) (hw : d.cnf.waiting = []) (hp : d.cnf.pool = [])
    (hf : d.dsc.filling = false) (hx : d.cnf.txns.all (fun x => x.phase != .waitPlace) = true)
    (hs : d.apd.streams.all (fun e => !e.2.closing) = true) :
    coreCycle d = (Dev.tally (Dev.laneWaits { d with apd := d.streamCycles.apd })).turn := by
  unfold coreCycle
  dsimp only
  rw [hb, if_neg Bool.false_ne_true, if_neg Bool.false_ne_true, lookups_idle d hw hp, streamCycles_open d hs]
  dsimp only
  have hcounts : Counts d { (Dev.tally (Dev.laneWaits { d with apd := d.streamCycles.apd })) with apd := d.apd } := by
    have h := (laneWaits_counts { d with apd := d.streamCycles.apd }).trans (tally_counts _)
    unfold Counts at h ⊢
    rw [h]
  generalize Dev.tally (Dev.laneWaits { d with apd := d.streamCycles.apd }) = y at hcounts ⊢
  have hcnf : y.cnf = d.cnf := (congrArg (·.cnf) hcounts :)
  have hdsc : y.dsc = d.dsc := (congrArg (·.dsc) hcounts :)
  have hturn : y.turn.lookups = y.turn := lookups_idle _ (by show y.cnf.waiting = []; rw [hcnf, hw]) (by show y.cnf.pool = []; rw [hcnf, hp])
  have hplace : y.turn.enginePlaces = y.turn := enginePlaces_idle _ (by
    show y.cnf.txns.all (fun x => x.phase != .waitPlace) = true
    rw [hcnf, hx])
  rw [hturn, hplace, Dev.fillStep, if_neg]
  show ¬ y.dsc.filling = true
  rw [hdsc, hf]
  exact Bool.false_ne_true

/-- A cycle of a core whose clock is being switched counts, and turns nothing. -/
theorem coreCycle_switching (d : Dev) (hb : d.switchBusy .core = true) : ∃ x, Counts d x ∧ coreCycle d = x.countHolds := by
  refine ⟨d.laneWaits.tally, (laneWaits_counts d).trans (tally_counts _), ?_⟩
  unfold coreCycle
  dsimp only
  rw [hb, if_pos rfl, if_pos rfl]

/-- What an idle core cycle counts and turns. -/
theorem coreCycle_idle_effect (d : Dev) (hb : d.switchBusy .core = false) (hw : d.cnf.waiting = []) (hp : d.cnf.pool = [])
    (hf : d.dsc.filling = false) (hx : d.cnf.txns.all (fun x => x.phase != .waitPlace) = true)
    (hs : d.apd.streams.all (fun e => !e.2.closing) = true) :
    ∃ x, Counts { d with apd := d.streamCycles.apd } x ∧ coreCycle d = x.turn ∧
      ((d.get R.PMU_FIX_CFG.EN).testBit 0 = true → d.flag R.PMU_GCTL.FREEZE = false →
        d.get64 (R.PMU_FIXf_LO.CNT_LO 0).ofs < 2 ^ 64 - 1 →
        x.get64 (R.PMU_FIXf_LO.CNT_LO 0).ofs = d.get64 (R.PMU_FIXf_LO.CNT_LO 0).ofs + 1) := by
  refine ⟨_, (laneWaits_counts _).trans (tally_counts _), coreCycle_idle d hb hw hp hf hx hs, fun he hz hlt => ?_⟩
  have hregs := laneWaits_regs { d with apd := d.streamCycles.apd }
  have hgcr : (Dev.laneWaits { d with apd := d.streamCycles.apd }).gcr = d.gcr :=
    (congrArg (·.gcr) (laneWaits_counts { d with apd := d.streamCycles.apd }) :)
  generalize Dev.laneWaits { d with apd := d.streamCycles.apd } = y at hregs hgcr ⊢
  have hpair : y.get64 (R.PMU_FIXf_LO.CNT_LO 0).ofs = d.get64 (R.PMU_FIXf_LO.CNT_LO 0).ofs := by
    simp only [Dev.get64, Dev.raw, hregs, hgcr]
  rw [← hpair] at hlt ⊢
  exact tally_cycles y (by rw [get_of_regs (d := d) hregs (by rw [hgcr]), he])
    (by rw [flag_of_regs (d := d) hregs (by rw [hgcr]), hz]) hlt

/-- Settles O35: each command's own effect, and for a core cycle the frame of what it counts. -/
theorem observationCommands : Obligations.ObservationCommands := by
  refine ⟨?_, ?_, ?_, ?_, ?_, ?_, ?_, ?_, ?_, ?_, ?_, ?_⟩
  · intro src s hr hp
    refine ⟨_, onDev_write hr src _, ?_⟩
    rw [State.setDev_dev, settle_pip, settle_get, emit_get, Dev.emit_pip]
    exact dirProbeGo_effect s.dev hp
  · intro e s ha hp hl he
    refine ⟨_, onCore_runs ha _, ?_⟩
    rw [State.setDev_dev, settle_pip, settle_get, settle_get, settle_get64]
    exact dirProbeDone_effect s.dev (some e) hp hl he
  · intro s ha hp hl he
    refine ⟨_, onCore_runs ha _, ?_⟩
    rw [State.setDev_dev, settle_pip, settle_get, settle_get, settle_get64]
    exact dirProbeDone_effect s.dev none hp hl he
  · intro src e s hr he
    refine ⟨_, onDev_write hr src _, ?_⟩
    rw [State.setDev_dev, settle_dep, settle_get, settle_get, settle_get64, emit_get, emit_get, emit_get64, Dev.emit_dep]
    exact depProbeGo_some s.dev e he
  · intro src s hr he
    refine ⟨_, onDev_write hr src _, ?_⟩
    rw [State.setDev_dev, settle_dep, settle_get, settle_get, emit_get, emit_get, Dev.emit_dep]
    exact depProbeGo_none s.dev he
  · intro src s hr
    refine ⟨_, onDev_write hr src _, ?_, fun n hn => ?_, fun n hn => ?_⟩
    · rw [State.setDev_dev, settle_pmu_wraps, Dev.emit_pmu]
      rfl
    · rw [State.setDev_dev, settle_get64, emit_get64]
      refine pmuClear_get64 _ (.inr ?_) (counter_reset.1 n hn _)
      show 0xC040 ≤ 0xC040 + n * 8 ∧ 0xC040 + n * 8 + 4 < 0xC240
      omega
    · rw [State.setDev_dev, settle_get64, emit_get64]
      refine pmuClear_get64 _ (.inl ?_) (counter_reset.2 n hn _)
      show 0xB048 ≤ 0xB050 + n * 8 ∧ 0xB050 + n * 8 + 4 < 0xB090
      omega
  · intro n s ha hn hw
    refine ⟨_, onCore_runs ha _, ?_⟩
    rw [State.setDev_dev, settle_flag, settle_flag]
    exact counterWrap_fixed s.dev n hn hw
  · intro n s ha hn hw
    refine ⟨_, onCore_runs ha _, ?_⟩
    rw [State.setDev_dev, settle_flag, settle_pmu]
    exact counterWrap_programmed s.dev n hn hw
  · intro skid n l s ha hw hn hs
    refine ⟨_, onCore_runs ha _, ?_⟩
    rw [State.setDev_dev, settle_pmu_want, settle_flag, settle_flag, settle_flag, settle_flag, settle_get, settle_get, settle_get64]
    by_cases hv : s.dev.flag R.PMU_SMP_STAT.VALID = true
    · rw [if_pos hv]
      exact sample_lost s.dev skid hw hv
    · rw [if_neg hv]
      exact sample_taken s.dev hw hn hs hv
  · intro src s hr
    refine ⟨_, onDev_write hr src _, ?_⟩
    rw [State.setDev_dev, settle_flag, emit_flag]
    exact pmuSmpDone_valid s.dev
  · intro s ha hb hw hp hf hx hs
    obtain ⟨x, hcounts, heq, hcycles⟩ := coreCycle_idle_effect s.dev hb hw hp hf hx hs
    refine ⟨_, onCore_runs ha _, ?_⟩
    rw [State.setDev_dev, settle_cnf, settle_store, settle_dir, settle_get64, heq]
    have hcnf : x.cnf = s.dev.cnf := (congrArg (·.cnf) hcounts :)
    have hstore : x.store = s.dev.store := (congrArg (·.store) hcounts :)
    have hdir : x.dir = s.dev.dir := (congrArg (·.dir) hcounts :)
    simp only [Dev.turn, Dev.countHolds, hcnf, hstore, hdir, true_and]
    exact hcycles
  · intro s ha hb
    obtain ⟨x, hcounts, heq⟩ := coreCycle_switching s.dev hb
    refine ⟨_, onCore_runs ha _, ?_⟩
    have hcnf : x.cnf = s.dev.cnf := (congrArg (·.cnf) hcounts :)
    rw [State.setDev_dev, settle_cnf, heq, Dev.countHolds, hcnf]
    exact ⟨rfl, rfl, rfl, rfl⟩

end Sys2Proof.Machine
end

section
/-! SUPPORT. What an engine's issue comes to when its line is busy: a transaction is opened and queued, and nothing else happens
(R136, R137, R138). -/

namespace Sys2Proof.Machine

set_option Elab.async false

/-! ## Configuration -/

section
variable {d e : Dev} (h : ConfigKept d e) (hr : e.gcr.role = d.gcr.role)
include h hr

theorem ConfigKept.raw {o : Nat} (ho : dataConfig o = true) : e.raw o = d.raw o := raw_of_bank (h o ho) hr

theorem ConfigKept.get {f : FieldRef} (hf : dataConfig f.ofs = true) : e.get f = d.get f := by
  rw [Dev.get, Dev.get, h.raw hr hf]

theorem ConfigKept.sets : e.sets = d.sets := by
  have hl : e.lanesPerGroup = d.lanesPerGroup := by rw [Dev.lanesPerGroup, Dev.lanesPerGroup, h.get hr (by decide)]
  have hg : e.laneGb 0 = d.laneGb 0 := by
    simp only [Dev.laneGb, h.get hr (show dataConfig R.DSC_CFG.DDENS.ofs = true by decide),
      h.get hr (show dataConfig R.DSC_CFG.HDENS.ofs = true by decide)]
  have hk : e.laneRanks 0 = d.laneRanks 0 := by
    simp only [Dev.laneRanks, h.get hr (show dataConfig R.DSC_CFG.DRANKS.ofs = true by decide),
      h.get hr (show dataConfig R.DSC_CFG.HRANKS.ofs = true by decide)]
  rw [Dev.sets, Dev.sets, hl, hg, hk]

theorem ConfigKept.setOf (line : Nat) : e.setOf line = d.setOf line := by rw [Dev.setOf, Dev.setOf, h.sets hr]

theorem ConfigKept.tagOf (line : Nat) : e.tagOf line = d.tagOf line := by rw [Dev.tagOf, Dev.tagOf, h.sets hr]

theorem ConfigKept.hitWay (x : Header) (line : Nat) : e.hitWay x line = d.hitWay x line := by
  rw [Dev.hitWay, Dev.hitWay, h.tagOf hr]

end

/-! ## Issue -/

/-- The device after a transaction of an engine has been opened. -/
structure IssueRel (d e : Dev) : Prop where
  frame : e = { d with regs := e.regs, pmu := e.pmu, cnf := e.cnf, twn := e.twn }
  cnf : e.cnf = { d.cnf with txns := e.cnf.txns, pool := e.cnf.pool, ord := e.cnf.ord, used := e.cnf.used }
  twn : e.twn = { d.twn with items := e.twn.items, lines := e.twn.lines }
  bank : ∀ o, o ≠ R.CNF_EVT.TT_FULL.ofs → bankGet e.regs o = bankGet d.regs o

theorem mirror_frame (d : Dev) (i : Item) :
    d.mirror i = { d with twn := { d.twn with items := (d.mirror i).twn.items, lines := (d.mirror i).twn.lines } } := by
  unfold Dev.mirror
  split <;> rfl

theorem raiseIf_frame (d : Dev) (c : Bool) (f : FieldRef) : d.raiseIf c f = { d with regs := (d.raiseIf c f).regs } := by
  cases c <;> rfl

theorem raiseIf_bank_ne (d : Dev) (c : Bool) {f : FieldRef} {o : Nat} (h : o ≠ f.ofs) :
    bankGet (d.raiseIf c f).regs o = bankGet d.regs o := by
  cases c with
  | false => rfl
  | true => exact bankGet_bankSet_ne _ _ _ _ h

theorem IssueRel.config {d e : Dev} (h : IssueRel d e) : ConfigKept d e := fun o ho => h.bank o fun he => by
  rw [he] at ho
  exact absurd ho (by decide)

theorem IssueRel.role {d e : Dev} (h : IssueRel d e) : e.gcr.role = d.gcr.role := by rw [h.frame]

theorem IssueRel.trans {a b c : Dev} (h : IssueRel a b) (k : IssueRel b c) : IssueRel a c where
  frame := by rw [k.frame, h.frame]
  cnf := by rw [k.cnf, h.cnf]
  twn := by rw [k.twn, h.twn]
  bank o ho := (k.bank o ho).trans (h.bank o ho)

theorem mirror_issue (d : Dev) (i : Item) : IssueRel d (d.mirror i) := by
  unfold Dev.mirror
  split <;> exact ⟨rfl, rfl, rfl, fun _ _ => rfl⟩

theorem raiseIf_issue (d : Dev) (c : Bool) : IssueRel d (d.raiseIf c R.CNF_EVT.TT_FULL) := by
  cases c with
  | false => exact ⟨rfl, rfl, rfl, fun _ _ => rfl⟩
  | true => exact ⟨rfl, rfl, rfl, fun _ ho => bankGet_bankSet_ne _ _ _ _ ho⟩

/-- A transaction added goes behind the others, with the next order number. -/
theorem addTxn_cnf (d : Dev) (t : Txn) : (d.addTxn t).cnf = { d.cnf with
    txns := d.cnf.txns ++ [{ t with ord := d.cnf.ord, pol := d.policy t.line }], ord := d.cnf.ord + 1 } := by
  rw [Dev.addTxn, Dev.raiseIf_cnf, mirror_frame]

theorem addTxn_issue (d : Dev) (t : Txn) : IssueRel d (d.addTxn t) := by
  refine IssueRel.trans ?_ (raiseIf_issue _ _)
  refine IssueRel.trans ?_ (mirror_issue _ _)
  exact ⟨rfl, rfl, rfl, fun _ _ => rfl⟩

theorem issueTxn_issue (d : Dev) (t : Txn) (id : Nat) : IssueRel d (d.issueTxn t id) := by
  refine IssueRel.trans ?_ (addTxn_issue _ _)
  exact ⟨rfl, rfl, rfl, fun _ _ => rfl⟩

/-- The first free number is none of those in use. -/
theorem freeFrom_free {used : List Nat} {n k id : Nat} (h : freeFrom used n k = some id) : used.contains id = false := by
  induction n generalizing k with
  | zero => cases h
  | succ n ih =>
    unfold freeFrom at h
    split at h
    · exact ih h
    · next hc => exact Option.some.inj h ▸ Bool.eq_false_iff.mpr hc

theorem victimHeld_congr {d e : Dev} (hc : ConfigKept d e) (hr : e.gcr.role = d.gcr.role) (ha : e.pip.alloc = d.pip.alloc)
    (hw : e.pip.copyWait = d.pip.copyWait) (hh : e.hdc = d.hdc) (line : Nat) : e.victimHeld line = d.victimHeld line := by
  have hheader : ∀ set, e.header? set = d.header? set := fun set => by rw [Dev.header?, Dev.header?, hh]
  simp only [Dev.victimHeld, hc.setOf hr, hc.tagOf hr, ha, hw, hheader]

/-- A busy line stays busy while its transactions stay. -/
theorem keyActive_mono {d e : Dev} (hr : e.gcr.role = d.gcr.role) (ht : ∀ y ∈ d.cnf.txns, y ∈ e.cnf.txns) (hs : e.scb = d.scb)
    {line : Nat} (hv : e.victimHeld line = d.victimHeld line) (h : d.keyActive (d.key line) line = true) :
    e.keyActive (e.key line) line = true := by
  have hkey : ∀ l, e.key l = d.key l := fun l => by rw [Dev.key, Dev.key, hr]
  have hany : ∀ p : Txn → Bool, d.cnf.txns.any p = true → e.cnf.txns.any p = true := by
    intro p hp
    obtain ⟨y, hy, hpy⟩ := List.any_eq_true.mp hp
    exact List.any_eq_true.mpr ⟨y, ht y hy, hpy⟩
  simp only [Dev.keyActive, Bool.or_eq_true, hkey, hs, hv] at h ⊢
  rcases h with ((h | h) | h) | h
  · exact .inl (.inl (.inl (hany _ h)))
  · exact .inl (.inl (.inr h))
  · exact .inl (.inr h)
  · exact .inr (hany _ h)

/-- A transaction whose line is busy stays in its queue. -/
theorem promote_busy {d : Dev} {t : Txn} {id : Nat} (ht : d.txn? id = some t) (hq : t.phase = .queued) (hm : t.ofManager = false)
    (ha : d.keyActive (d.key t.line) t.line = true) : d.promote id = d := by
  unfold Dev.promote
  rw [ht]
  dsimp only
  rw [if_neg (by rw [hq]; decide), if_neg (by rw [hm]; decide), if_neg]
  simp [ha]

/-- The pool's next transaction, when it holds only one. -/
theorem nextIssue_single {d : Dev} {t : Txn} (h : d.cnf.pool = [t]) : d.nextIssue = some t := by
  have hrank : engineRank t.kind = 0 ∨ engineRank t.kind = 1 ∨ engineRank t.kind = 2 := by
    unfold engineRank
    split <;> simp
  rw [Dev.nextIssue, h]
  rcases hrank with hk | hk | hk <;> simp [hk]

/-- The transaction that an engine issues at a line that is busy: it is opened, and waits in its line's queue (R137). -/
theorem issue_queued {d : Dev} {t : Txn} {id : Nat} (hpool : d.cnf.pool = []) (hid : d.generalId = some id)
    (hslot : d.engineSlot t = true) (hfirst : d.portsFirst t = false) (hactive : d.keyActive (d.key t.line) t.line = true)
    (hqueue : (d.queueOf (d.key t.line)).length < 8) (hstandby : d.standbyOf (d.key t.line) = []) (hm : t.ofManager = false) :
    IssueRel d (d.issue t) ∧
    (d.issue t).txn? id = some { t with id := id, phase := .queued, ord := d.cnf.ord, pol := d.policy t.line } := by
  have hnext : (Dev.refill { d with cnf := { d.cnf with pool := d.cnf.pool ++ [t] } }) =
      Dev.issueTxn { d with cnf := { d.cnf with pool := dropFirst (· == t) (d.cnf.pool ++ [t]) } } t id := by
    have hid' : Dev.generalId { d with cnf := { d.cnf with pool := d.cnf.pool ++ [t] } } = some id := hid
    have hslot' : Dev.engineSlot { d with cnf := { d.cnf with pool := d.cnf.pool ++ [t] } } t = true := hslot
    rw [Dev.refill, nextIssue_single (t := t) (by rw [hpool]; rfl), hid']
    exact if_pos hslot'
  generalize hx : ({ d with cnf := { d.cnf with pool := dropFirst (· == t) (d.cnf.pool ++ [t]) } } : Dev) = x at hnext
  have hxcnf : x.cnf = { d.cnf with pool := dropFirst (· == t) (d.cnf.pool ++ [t]) } := by rw [← hx]
  have hroom : ((x.queueOf (x.key t.line)).length < 8 && (x.standbyOf (x.key t.line)).isEmpty && !x.portsFirst t) = true := by
    have hq : (x.queueOf (x.key t.line)).length < 8 := by rw [← hx]; exact hqueue
    have hs : (x.standbyOf (x.key t.line)) = [] := by rw [← hx]; exact hstandby
    have hp : x.portsFirst t = false := by rw [← hx]; exact hfirst
    simp [hq, hs, hp]
  have hopen : x.issueTxn t id = Dev.addTxn (Dev.slot { x with cnf := { x.cnf with used := x.cnf.used + 1 } }
      ⟨0x004, 0, kindOpc t.kind, id, t.line⟩) { t with id := id, phase := .queued } := by
    rw [Dev.issueTxn]
    dsimp only
    rw [if_pos hroom]
  generalize hu : ({ t with id := id, phase := .queued, ord := d.cnf.ord, pol := d.policy t.line } : Txn) = u
  have hcnf : (x.issueTxn t id).cnf = { x.cnf with used := x.cnf.used + 1, txns := d.cnf.txns ++ [u], ord := d.cnf.ord + 1 } := by
    rw [hopen, addTxn_cnf, ← hu, ← hx]
    rfl
  have hfree : d.cnf.txns.find? (fun y => y.id == id) = none := by
    rw [List.find?_eq_none]
    intro y hy hyid
    have hmem : (d.cnf.txns.map (·.id)).contains id = true := by
      rw [List.contains_iff_mem]
      exact List.mem_map.mpr ⟨y, hy, by simpa using hyid⟩
    rw [freeFrom_free hid] at hmem
    exact Bool.false_ne_true hmem
  have htxn : (x.issueTxn t id).txn? id = some u := by
    rw [Dev.txn?, hcnf]
    simp [hfree, ← hu]
  have hrel : IssueRel d (x.issueTxn t id) :=
    IssueRel.trans (b := x) (by rw [← hx]; exact ⟨rfl, rfl, rfl, fun _ _ => rfl⟩) (issueTxn_issue _ _ _)
  have hbusy : (x.issueTxn t id).keyActive ((x.issueTxn t id).key u.line) u.line = true := by
    have hline : u.line = t.line := by rw [← hu]
    rw [hline]
    refine keyActive_mono hrel.role (fun y hy => ?_) (by rw [hrel.frame]) ?_ hactive
    · rw [hcnf]
      exact List.mem_append_left _ hy
    · exact victimHeld_congr hrel.config hrel.role (by rw [hrel.frame]) (by rw [hrel.frame]) (by rw [hrel.frame]) _
  have hissue : d.issue t = x.issueTxn t id := by
    rw [Dev.issue, Dev.issueNext, hnext]
    dsimp only
    rw [hcnf]
    simp only [List.getLast?_concat]
    rw [if_pos (by simp [← hu]), ← hu]
    exact promote_busy htxn (by rw [← hu]) (by rw [← hu]; exact hm) hbusy
  rw [hissue]
  exact ⟨hrel, htxn⟩

end Sys2Proof.Machine
end

section
/-! THEOREM. A maintenance pass starts, skips or issues its lines, aborts and ends (R78 to R84, R569). -/

namespace Sys2Proof.Machine

set_option Elab.async false

/-! ## A header read for a pass -/

/-- The device after a header has been read that HDC does not keep. -/
structure PassRel (d e : Dev) : Prop where
  frame : e = { d with gcr := e.gcr, regs := e.regs, pwr := e.pwr, pur := e.pur, evc := e.evc, que := e.que, pmu := e.pmu,
                       pip := e.pip, twn := e.twn, dsc := e.dsc, ecc := e.ecc, store := e.store, sent := e.sent,
                       free := e.free }
  gcr : e.gcr = { d.gcr with mode := e.gcr.mode, prev := e.gcr.prev, fault := e.gcr.fault }
  pip : e.pip = { d.pip with sweep := e.pip.sweep, lastGroup := e.pip.lastGroup, lossWait := e.pip.lossWait,
                             lost := e.pip.lost, quar := e.pip.quar }
  pur : e.pur = { d.pur with tokens := e.pur.tokens, waiting := e.pur.waiting }
  config : ConfigKept d e

theorem AccessRel.pass {d e : Dev} (h : AccessRel d e) : PassRel d e where
  frame := h.frame
  gcr := h.gcr
  pip := by rw [h.pip]
  pur := h.pur
  config := h.config

theorem PassRel.trans {a b c : Dev} (h : PassRel a b) (k : PassRel b c) : PassRel a c where
  frame := by rw [k.frame, h.frame]
  gcr := by rw [k.gcr, h.gcr]
  pip := by rw [k.pip, h.pip]
  pur := by rw [k.pur, h.pur]
  config := h.config.trans k.config

theorem mirror_pass (d : Dev) (i : Item) : PassRel d (d.mirror i) := by
  unfold Dev.mirror
  split <;> exact ⟨rfl, rfl, rfl, rfl, .of_regs rfl⟩

theorem badHeader_pass (d : Dev) (set : Nat) : PassRel d (d.badHeader set) := by
  have hquar : ∀ (x : Dev) (l : List Nat), PassRel x { x with pip := { x.pip with quar := l } } := fun x l =>
    ⟨rfl, rfl, rfl, rfl, .of_regs rfl⟩
  unfold Dev.badHeader
  dsimp only
  have hreport := (report_access d R.PIP_EVT.HDR_QUAR 0 0 set 0).pass
  split
  · exact hreport.trans (enterRecovery_access _).pass
  · exact ((hreport.trans (hquar _ _)).trans (laneWrite_access ..).pass).trans (mirror_pass _ _)

/-- What a read of a header's line comes to (R345). -/
def headerRead (set : Nat) (r : Decoded × Dev) : Option Header × Dev :=
  match r.1.out with
  | .clean | .corrected => (some (Header.unpack r.1.data), r.2)
  | _ => (none, if r.2.gcr.mode.serving then r.2.badHeader set else r.2)

theorem readHeader_of_lost {d : Dev} {set : Nat} (h : (d.lane (headerLoc set).1).st = 5) (noise : Burst) :
    d.readHeader set noise = (none, d) := if_pos h

theorem readHeader_of_lane {d : Dev} {set : Nat} (h : (d.lane (headerLoc set).1).st ≠ 5) (noise : Burst) :
    d.readHeader set noise = headerRead set (d.laneRead (headerLoc set).1 (headerLoc set).2 noise) := by
  rw [Dev.readHeader, if_neg h]
  dsimp only
  obtain ⟨⟨out, data, pos⟩, e⟩ := d.laneRead (headerLoc set).1 (headerLoc set).2 noise
  cases out <;> rfl

theorem headerRead_pass (set : Nat) (r : Decoded × Dev) : PassRel r.2 (headerRead set r).2 := by
  have hbad : PassRel r.2 (if r.2.gcr.mode.serving then r.2.badHeader set else r.2) := by
    split
    · exact badHeader_pass ..
    · exact (AccessRel.refl _).pass
  unfold headerRead
  cases r.1.out with
  | clean => exact (AccessRel.refl _).pass
  | corrected => exact (AccessRel.refl _).pass
  | poison => exact hbad
  | poisonCorrected => exact hbad
  | uncorrectable => exact hbad

theorem readHeader_pass (d : Dev) (set : Nat) (noise : Burst) : PassRel d (d.readHeader set noise).2 := by
  by_cases h : (d.lane (headerLoc set).1).st = 5
  · rw [readHeader_of_lost h]
    exact (AccessRel.refl d).pass
  · rw [readHeader_of_lane h]
    exact (laneRead_access ..).pass.trans (headerRead_pass ..)

theorem passHeader_pass (d : Dev) (set : Nat) : PassRel d (d.passHeader set).2 := by
  unfold Dev.passHeader
  split
  · exact (AccessRel.refl d).pass
  · exact (AccessRel.refl d).pass
  · exact (driveRd_access ..).pass.trans (readHeader_pass ..)

theorem PassRel.tracked {d e : Dev} (h : PassRel d e) (line : Nat) : e.mntTracked line = d.mntTracked line := by
  have hrole : e.gcr.role = d.gcr.role := by rw [h.gcr]
  have hdir : e.dir = d.dir := by rw [h.frame]
  have hsdr : e.sdr = d.sdr := by rw [h.frame]
  simp only [Dev.mntTracked, Dev.dirEnt, Dev.dirFind, Dev.sdrEnt, hrole, hdir, hsdr]

/-- Whether a pass acts on a line (R82). -/
theorem mntActs_fst (d : Dev) (line : Nat) :
    (d.mntActs line).1 = (((d.passHeader (d.setOf line)).1.bind (fun h => d.hitWay h line)).isSome || d.mntTracked line) := by
  have hpass := passHeader_pass d (d.setOf line)
  rw [Dev.mntActs]
  generalize d.passHeader (d.setOf line) = r at hpass ⊢
  dsimp only
  rw [hpass.tracked]
  simp only [hpass.config.hitWay (by rw [hpass.gcr])]

theorem mntActs_pass (d : Dev) (line : Nat) : PassRel d (d.mntActs line).2 := passHeader_pass d _

/-- What a read drives leaves what it reads. -/
theorem driveRd_frame (d : Dev) (lane slot : Nat) : (d.driveRd lane slot).regs = d.regs ∧ (d.driveRd lane slot).gcr = d.gcr ∧
    (d.driveRd lane slot).store = d.store ∧ ∀ n, ((d.driveRd lane slot).lane n).st = (d.lane n).st := by
  have hset : ∀ (x : Dev) (acts : _) (n : Nat), ((x.setLane lane { x.lane lane with acts := acts }).lane n).st = (x.lane n).st := by
    intro x acts n
    by_cases hn : n = lane
    · subst hn
      by_cases hlen : n < x.dsc.lanes.length
      · rw [lane_setLane_same hlen]
      · rw [Dev.setLane, Dev.lane, Dev.lane, List.set_eq_of_length_le (Nat.not_lt.mp hlen)]
    · rw [lane_setLane_ne x hn]
  unfold Dev.driveRd Dev.countAct Dev.takeFree
  dsimp only
  split
  · split
    · exact ⟨rfl, rfl, rfl, hset (Dev.pmu1 { d with free := d.free + 1 } (0x242 + 8 * lane)) _⟩
    · exact ⟨rfl, rfl, rfl, fun _ => rfl⟩
  · exact ⟨rfl, rfl, rfl, fun _ => rfl⟩

theorem laneRead_fst (d : Dev) (lane slot : Nat) (noise : Burst) :
    (d.laneRead lane slot noise).1 = decodeLine (d.burst lane slot ^^^ noise) (d.erased lane (d.rankOf lane slot)) := rfl

theorem headerRead_fst_congr {set : Nat} {q r : Decoded × Dev} (h : q.1 = r.1) : (headerRead set q).1 = (headerRead set r).1 := by
  unfold headerRead
  rw [h]
  cases r.1.out <;> rfl

/-- What a header read finds rests on the lanes, their contents and the configuration alone. -/
theorem readHeader_fst_congr {d e : Dev} (hregs : e.regs = d.regs) (hrole : e.gcr.role = d.gcr.role) (hstore : e.store = d.store)
    (hlane : ∀ n, (e.lane n).st = (d.lane n).st) (set : Nat) (noise : Burst) :
    (e.readHeader set noise).1 = (d.readHeader set noise).1 := by
  have hget : ∀ f, e.get f = d.get f := fun f => get_of_regs hregs hrole f
  have hburst : ∀ l s, e.burst l s = d.burst l s := fun l s => by rw [Dev.burst, Dev.burst, hstore]
  have herased : ∀ l r, e.erased l r = d.erased l r := fun l r => by
    unfold Dev.erased Dev.flag
    simp only [hget]
  have hrank : ∀ l s, e.rankOf l s = d.rankOf l s := fun l s => by simp only [Dev.rankOf, Dev.laneGb, hget]
  by_cases h : (d.lane (headerLoc set).1).st = 5
  · rw [readHeader_of_lost h, readHeader_of_lost ((hlane _).trans h)]
  · rw [readHeader_of_lane h, readHeader_of_lane (fun he => h ((hlane _).symm.trans he))]
    refine headerRead_fst_congr ?_
    rw [laneRead_fst, laneRead_fst, hburst, hrank, herased]

/-- The device with another state of the pass and another order of the SDR cache. -/
def Dev.mntAside (d : Dev) (c : List Nat) (m : Mnt) : Dev :=
  { d with sdr := { d.sdr with cache := c }, pip := { d.pip with mnt := m } }

/-- The pass's own state and the order of the SDR cache change nothing of what a header read finds. -/
theorem passHeader_aside (d : Dev) (c : List Nat) (m : Mnt) (set : Nat) :
    ((d.mntAside c m).passHeader set).1 = (d.passHeader set).1 := by
  have hblocked : (d.mntAside c m).hdrBlocked set = d.hdrBlocked set := rfl
  have hheader : (d.mntAside c m).header? set = d.header? set := rfl
  have hread : (((d.mntAside c m).driveRd (headerLoc set).1 (headerLoc set).2).readHeader set 0).1 =
      ((d.driveRd (headerLoc set).1 (headerLoc set).2).readHeader set 0).1 := by
    obtain ⟨hregs, hgcr, hstore, hlane⟩ := driveRd_frame d (headerLoc set).1 (headerLoc set).2
    obtain ⟨hregs', hgcr', hstore', hlane'⟩ := driveRd_frame (d.mntAside c m) (headerLoc set).1 (headerLoc set).2
    exact readHeader_fst_congr (by rw [hregs, hregs']; rfl) (by rw [hgcr, hgcr']; rfl) (by rw [hstore, hstore']; rfl)
      (fun n => by rw [hlane, hlane']; rfl) set 0
  rw [Dev.passHeader, Dev.passHeader, hblocked, hheader]
  split
  · rfl
  · rfl
  · exact hread

theorem mntActs_aside (d : Dev) (c : List Nat) (m : Mnt) (line : Nat) :
    ((d.mntAside c m).mntActs line).1 = (d.mntActs line).1 := by
  have hset : (d.mntAside c m).setOf line = d.setOf line := rfl
  rw [mntActs_fst, mntActs_fst, hset, passHeader_aside]
  rfl

/-! ## START, ABORT and the end -/

/-- A pass as START begins it (R78). -/
def Dev.mntBegun (d : Dev) (op : Nat) (whole : Bool) : Mnt where
  busy := true
  op := op
  whole := whole
  next := d.get64 R.PIP_MNT_BASE_LO.BASE_LO.ofs / 128
  last := d.get64 R.PIP_MNT_LIMIT_LO.LIMIT_LO.ofs / 128

theorem mntStart_effect (d : Dev) (op : Nat) (whole : Bool) (hop : op < 4) :
    (if d.mntRefused op then (mntStart op whole d).flag R.PIP_EVT.MNT_REFUSED = true ∧ (mntStart op whole d).pip = d.pip
     else (mntStart op whole d).pip.mnt = d.mntBegun op whole) ∧
    (mntStart op whole d).get R.PIP_MNT_CTRL.OP = op ∧ (mntStart op whole d).cnf = d.cnf ∧ (mntStart op whole d).store = d.store := by
  generalize hx : (d.set R.PIP_MNT_CTRL.OP op).set R.PIP_MNT_CTRL.WHOLE (if whole then 1 else 0) = x
  have hget : x.get R.PIP_MNT_CTRL.OP = op := by
    rw [← hx, get_set_far _ _ _ _ (by decide), get_set_self _ _ _ (by decide)]
    exact Nat.mod_eq_of_lt hop
  have hpair : ∀ lo, lo ≠ R.PIP_MNT_CTRL.OP.ofs → lo + 4 ≠ R.PIP_MNT_CTRL.OP.ofs → x.get64 lo = d.get64 lo := fun lo hl hh => by
    rw [← hx]
    exact (get64_set_ne (d.set R.PIP_MNT_CTRL.OP op) R.PIP_MNT_CTRL.WHOLE _ hl hh).trans (get64_set_ne d R.PIP_MNT_CTRL.OP op hl hh)
  have hpip : x.pip = d.pip := by rw [← hx]; rfl
  have hcnf : x.cnf = d.cnf := by rw [← hx]; rfl
  have hstore : x.store = d.store := by rw [← hx]; rfl
  have hrefused : x.mntRefused op = d.mntRefused op := by rw [← hx]; rfl
  have heq : mntStart op whole d = if x.mntRefused op then x.raise R.PIP_EVT.MNT_REFUSED
      else x.setMnt (x.mntBegun op whole) := by rw [← hx]; rfl
  have hbegun : x.mntBegun op whole = d.mntBegun op whole := by
    rw [Dev.mntBegun, hpair _ (by decide) (by decide), hpair _ (by decide) (by decide), ← Dev.mntBegun]
  rw [heq, hrefused]
  by_cases hr : d.mntRefused op = true
  · rw [if_pos hr, if_pos hr]
    refine ⟨⟨flag_raise_self _ _ (by decide), hpip⟩, ?_, hcnf, hstore⟩
    rw [get_raise_far _ _ _ (by decide), hget]
  · rw [if_neg hr, if_neg hr, hbegun]
    exact ⟨rfl, (get_of_regs (d := x) rfl rfl _).trans hget, hcnf, hstore⟩

theorem mntAbort_effect (d : Dev) : (mntAbort d).cnf = d.cnf ∧
    (mntAbort d).pip.mnt = (if d.pip.mnt.busy then { d.pip.mnt with aborting := true } else d.pip.mnt) := by
  unfold mntAbort
  split <;> exact ⟨rfl, rfl⟩

theorem mntDone_effect (d : Dev) (hb : d.pip.mnt.busy = true) (ho : d.pip.mnt.aborting = true ∨ d.pip.mnt.over = true)
    (hf : d.mntFlight = 0) : (mntDone d).pip.mnt.busy = false ∧ (mntDone d).pip.mnt.aborted = d.pip.mnt.aborting ∧
    (mntDone d).flag R.PIP_EVT.MNT_DONE = true ∧ (mntDone d).cnf = d.cnf := by
  unfold mntDone
  dsimp only
  rw [if_pos (by simp [hb, hf, ho])]
  exact ⟨rfl, rfl, flag_raise_self _ _ (by decide), rfl⟩

/-! ## One line -/

/-- The device that considers a line: the pass has gone on, and the line's sector is in the SDR cache. -/
theorem mntLine_considers (d : Dev) (hb : d.pip.mnt.busy = true) (ha : d.pip.mnt.aborting = false) (hm : d.twn.mirror = false)
    (hf : d.mntFlight ≤ d.get R.PIP_MNT_CFG.DEPTH_M1) (hw : d.pip.mnt.whole = false) (hq : d.pip.mnt.asked = none)
    (hl : d.pip.mnt.next ≤ d.pip.mnt.last)
    (hs : d.gcr.role ≠ .manager ∨ d.sdrCached (sdrLine (sectorOf d.pip.mnt.next)) = true) :
    ∃ c, mntLine d = (d.mntAside c { d.pip.mnt with next := d.pip.mnt.next + 1 }).mntOne d.pip.mnt.next := by
  have hgo : mntLine d = d.mntConsider d.pip.mnt.next { d.pip.mnt with next := d.pip.mnt.next + 1 } := by
    unfold mntLine
    dsimp only
    rw [if_neg (by simp [hb, ha, hm, hq, hf]), if_neg (by simp [hw]), if_pos hl]
  rw [hgo]
  unfold Dev.mntConsider
  by_cases hc : d.gcr.role = .manager ∧ sdrLine (sectorOf d.pip.mnt.next) < d.sdrLines
  · have hcached := hs.resolve_left (fun h => h hc.1)
    rw [if_pos hc, Dev.sdrFetch, if_pos hcached]
    exact ⟨_, rfl⟩
  · rw [if_neg hc]
    exact ⟨d.sdr.cache, rfl⟩

/-- A line that nothing tracks and no way holds is passed over. -/
theorem mntLine_skips (d : Dev) (hb : d.pip.mnt.busy = true) (ha : d.pip.mnt.aborting = false) (hm : d.twn.mirror = false)
    (hf : d.mntFlight ≤ d.get R.PIP_MNT_CFG.DEPTH_M1) (hw : d.pip.mnt.whole = false) (hq : d.pip.mnt.asked = none)
    (hl : d.pip.mnt.next ≤ d.pip.mnt.last)
    (hs : d.gcr.role ≠ .manager ∨ d.sdrCached (sdrLine (sectorOf d.pip.mnt.next)) = true)
    (hacts : (d.mntActs d.pip.mnt.next).1 = false) :
    (mntLine d).pip.mnt = { d.pip.mnt with next := d.pip.mnt.next + 1 } ∧ (mntLine d).cnf = d.cnf := by
  obtain ⟨c, hline⟩ := mntLine_considers d hb ha hm hf hw hq hl hs
  rw [← mntActs_aside d c { d.pip.mnt with next := d.pip.mnt.next + 1 }] at hacts
  rw [hline, Dev.mntOne]
  generalize hx : d.mntAside c { d.pip.mnt with next := d.pip.mnt.next + 1 } = x at hacts ⊢
  have hpass := mntActs_pass x d.pip.mnt.next
  generalize x.mntActs d.pip.mnt.next = r at hacts hpass ⊢
  obtain ⟨acts, e⟩ := r
  dsimp only at hacts hpass
  subst hacts
  refine ⟨?_, ?_⟩
  · rw [hpass.pip, ← hx]; rfl
  · rw [hpass.frame, ← hx]; rfl

/-- A line that is to be acted on is issued. -/
theorem mntLine_issues (d : Dev) {id : Nat} (hb : d.pip.mnt.busy = true) (ha : d.pip.mnt.aborting = false) (hm : d.twn.mirror = false)
    (hf : d.mntFlight ≤ d.get R.PIP_MNT_CFG.DEPTH_M1) (hw : d.pip.mnt.whole = false) (hq : d.pip.mnt.asked = none)
    (hl : d.pip.mnt.next ≤ d.pip.mnt.last)
    (hs : d.gcr.role ≠ .manager ∨ d.sdrCached (sdrLine (sectorOf d.pip.mnt.next)) = true)
    (hacts : (d.mntActs d.pip.mnt.next).1 = true) (hwait : d.cnf.waiting = []) (hpool : d.cnf.pool = [])
    (hslot : d.probeSlot < d.slotsLeft) (hid : d.generalId = some id)
    (hactive : d.keyActive (d.key d.pip.mnt.next) d.pip.mnt.next = true) (hqueue : (d.queueOf (d.key d.pip.mnt.next)).length < 8)
    (hstandby : d.standbyOf (d.key d.pip.mnt.next) = []) :
    (mntLine d).pip.mnt.next = d.pip.mnt.next + 1 ∧ (mntLine d).pip.mnt.lines = min (2 ^ 32 - 1) (d.pip.mnt.lines + 1) ∧
    ((mntLine d).txn? id).map (fun x => (x.kind, x.line, x.phase)) = some (.maint d.pip.mnt.op, d.pip.mnt.next, .queued) := by
  obtain ⟨c, hline⟩ := mntLine_considers d hb ha hm hf hw hq hl hs
  rw [← mntActs_aside d c { d.pip.mnt with next := d.pip.mnt.next + 1 }] at hacts
  rw [hline, Dev.mntOne]
  generalize hx : d.mntAside c { d.pip.mnt with next := d.pip.mnt.next + 1 } = x at hacts ⊢
  have hpass := mntActs_pass x d.pip.mnt.next
  generalize x.mntActs d.pip.mnt.next = r at hacts hpass ⊢
  obtain ⟨acts, e⟩ := r
  dsimp only at hacts hpass
  subst hacts
  dsimp only
  have hmnt : e.pip.mnt = { d.pip.mnt with next := d.pip.mnt.next + 1 } := by rw [hpass.pip, ← hx]; rfl
  have hcnf : e.cnf = d.cnf := by rw [hpass.frame, ← hx]; rfl
  have hclk : e.clk = d.clk := by rw [hpass.frame, ← hx]; rfl
  have hscb : e.scb = d.scb := by rw [hpass.frame, ← hx]; rfl
  have hhdc : e.hdc = d.hdc := by rw [hpass.frame, ← hx]; rfl
  have hrole : e.gcr.role = d.gcr.role := by rw [hpass.gcr, ← hx]; rfl
  have hprobe : e.pip.probe = d.pip.probe := by rw [hpass.pip, ← hx]; rfl
  have halloc : e.pip.alloc = d.pip.alloc := by rw [hpass.pip, ← hx]; rfl
  have hcopy : e.pip.copyWait = d.pip.copyWait := by rw [hpass.pip, ← hx]; rfl
  have hlevel : e.pur.level = d.pur.level := by rw [hpass.pur, ← hx]; rfl
  have hcyc : e.pur.cyc = d.pur.cyc := by rw [hpass.pur, ← hx]; rfl
  have hconfig : ConfigKept d e := ConfigKept.trans (b := x) (.of_regs (by rw [← hx]; rfl)) hpass.config
  have hkey : ∀ l, e.key l = d.key l := fun l => by rw [Dev.key, Dev.key, hrole]
  rw [hmnt]
  generalize hy : e.setMnt _ = y
  have hypip : y.pip.mnt.next = d.pip.mnt.next + 1 ∧ y.pip.mnt.lines = min (2 ^ 32 - 1) (d.pip.mnt.lines + 1) := by
    rw [← hy]
    exact ⟨rfl, rfl⟩
  have hkeep : y.cnf = d.cnf ∧ y.clk = d.clk ∧ y.scb = d.scb ∧ y.hdc = d.hdc ∧ y.gcr.role = d.gcr.role ∧ y.pip.probe = d.pip.probe ∧
      y.pip.alloc = d.pip.alloc ∧ y.pip.copyWait = d.pip.copyWait ∧ y.pur.level = d.pur.level ∧ y.pur.cyc = d.pur.cyc := by
    rw [← hy]
    exact ⟨hcnf, hclk, hscb, hhdc, hrole, hprobe, halloc, hcopy, hlevel, hcyc⟩
  have hyconfig : ConfigKept d y := hconfig.trans (.of_regs (by rw [← hy]; rfl))
  obtain ⟨ycnf, yclk, yscb, yhdc, yrole, yprobe, yalloc, ycopy, ylevel, ycyc⟩ := hkeep
  have ykey : ∀ l, y.key l = d.key l := fun l => by rw [Dev.key, Dev.key, yrole]
  have yleft : y.slotsLeft = d.slotsLeft := by
    unfold Dev.slotsLeft Dev.switchBusy
    rw [ylevel, ycyc, yclk, ycnf]
  have yon : ∀ k, y.onKey k = d.onKey k := fun k => by simp only [Dev.onKey, ykey, ycnf]
  obtain ⟨hrel, htxn⟩ := issue_queued (d := y) (id := id)
    (t := { id := 0, kind := .maint d.pip.mnt.op, org := .maint, line := d.pip.mnt.next, phase := .queued })
    (by rw [ycnf, hpool]) (by simp only [Dev.generalId, Dev.freeId, Dev.generalSize, yrole, ycnf]; exact hid)
    (by
      rw [Dev.engineSlot, yleft, Dev.probeSlot, yprobe]
      exact Nat.ble_eq.mpr (Nat.succ_le_of_lt hslot))
    (by simp [Dev.portsFirst, ycnf, hwait])
    (keyActive_mono yrole (fun t ht => by rw [ycnf]; exact ht) yscb (victimHeld_congr hyconfig yrole yalloc ycopy yhdc _) hactive)
    (by rw [Dev.queueOf, ykey, yon]; exact hqueue) (by rw [Dev.standbyOf, ykey, yon]; exact hstandby) rfl
  have hpip := (congrArg (·.pip) hrel.frame :)
  refine ⟨?_, ?_, ?_⟩
  · rw [hpip]; exact hypip.1
  · rw [hpip]; exact hypip.2
  · rw [htxn]
    rfl

/-- Settles O37: START, ABORT and the end act on the pass alone; a line read for the pass leaves the nodes, and one that is acted on
is issued and queued behind its line. -/
theorem maintenanceCommands : Obligations.MaintenanceCommands := by
  refine ⟨?_, ?_, ?_, ?_, ?_, ?_⟩
  · intro src op s hr hop
    refine ⟨_, onDev_write hr src _, ?_⟩
    rw [State.setDev_dev, settle_flag, settle_pip, settle_get, settle_cnf, settle_store, emit_flag, Dev.emit_pip, emit_get,
      Dev.emit_cnf, Dev.emit_store]
    exact mntStart_effect s.dev op false hop
  · intro src op s hr hop hn
    obtain ⟨hmnt, -, hcnf, -⟩ := mntStart_effect s.dev op true hop
    rw [if_neg (by simp [hn])] at hmnt
    refine ⟨_, onDev_write hr src _, ?_⟩
    rw [State.setDev_dev, settle_pip, settle_cnf, Dev.emit_pip, Dev.emit_cnf]
    exact ⟨hcnf, hmnt⟩
  · intro src s hr
    refine ⟨_, onDev_write hr src _, ?_⟩
    rw [State.setDev_dev, settle_pip, settle_cnf, Dev.emit_pip, Dev.emit_cnf]
    exact mntAbort_effect s.dev
  · intro s ha hb hab hm hf hw hq hl hs hacts
    refine ⟨_, onCore_runs ha _, ?_⟩
    rw [State.setDev_dev, settle_pip, settle_cnf]
    exact mntLine_skips s.dev hb hab hm hf hw hq hl hs hacts
  · intro id s ha hb hab hm hf hw hq hl hs hacts hwait hpool hslot hid hactive hqueue hstandby
    refine ⟨_, onCore_runs ha _, ?_⟩
    rw [State.setDev_dev, settle_pip, Dev.txn?, settle_cnf, ← Dev.txn?]
    exact mntLine_issues s.dev hb hab hm hf hw hq hl hs hacts hwait hpool hslot hid hactive hqueue hstandby
  · intro s ha hb ho hf
    refine ⟨_, onCore_runs ha _, ?_⟩
    rw [State.setDev_dev, settle_pip, settle_cnf, settle_flag]
    exact mntDone_effect s.dev hb ho hf

end Sys2Proof.Machine
end

section
/-! THEOREM. The quiet window, release, its end, cancel and disable of departures (R257 to R273). -/

namespace Sys2Proof.Machine

set_option Elab.async false

/-! ## Starts -/

/-- The entry of a departure that starts on a port now. -/
def Dev.startEntry (d : Dev) (e : Dep) (n : Nat) : Dep :=
  { e with started := e.started ++ [(n, d.bel.now)], phase := .releasing }

theorem dep?_mem {d : Dev} {i : Nat} {e : Dep} (h : d.dep? i = some e) : e ∈ d.dep.table ∧ e.idx = i :=
  ⟨List.mem_of_find?_eq_some h, by simpa using List.find?_some h⟩

/-- A departure that starts on a port: its entry is in release there, its message has gone, and none that waits there may follow. -/
theorem startOn_put {d : Dev} {e : Dep} {n : Nat} (hx : d.dep? e.idx = some e) (hp : e.ports.contains n = true)
    (ho : e.overOn n = false) :
    (d.startOn e n).1 = d.startEntry e n ∧
    ((d.startOn e n).2.putDep (d.startEntry e n)).closeDep (d.startEntry e n) = (d.startOn e n).2.putDep (d.startEntry e n) ∧
    ((d.startOn e n).2.putDep (d.startEntry e n)).startNext n = (d.startOn e n).2.putDep (d.startEntry e n) ∧
    ((d.startOn e n).2.putDep (d.startEntry e n)).dep? e.idx = some (d.startEntry e n) ∧
    DepRel d ((d.startOn e n).2.putDep (d.startEntry e n)) ∧
    .msg n (.depRel e e.flagLate) :: d.sent <:+ ((d.startOn e n).2.putDep (d.startEntry e n)).sent := by
  obtain ⟨hrel, hdep, hentry, hsent⟩ := startOn_effect d e n
  have hfind : (d.startOn e n).2.dep? (d.startEntry e n).idx = some e := by rw [Dev.dep?, hdep]; exact hx
  have hsolo := putDep_solo_same hfind
  have hmem := (dep?_mem hsolo.1).1
  have hover : (d.startEntry e n).overOn n = false := ho
  have hstarted : (d.startEntry e n).startedOn n = true := by simp [Dep.startedOn, Dev.startEntry]
  refine ⟨hentry, ?_, startNext_behind hsolo hmem hp hstarted hover, hsolo.1, hrel.trans (putDep_dep ..), hsent⟩
  rw [Dev.closeDep, if_neg]
  rw [List.all_eq_true]
  intro hall
  have := hall n (List.contains_iff_mem.mp hp)
  rw [hover] at this
  exact Bool.false_ne_true this

theorem releasePort_starts {d : Dev} {e : Dep} {n : Nat} (hs : e.startedOn n = false) (ho : e.overOn n = false)
    (hm : d.mustDrop n = false) (hb : d.blockedOn e n = false) : Dev.releasePort (e, d) n = d.startOn e n := by
  unfold Dev.releasePort
  dsimp only
  rw [if_neg (by simp [hs, ho]), if_neg (by simp [hm]), if_neg (by simp [hb])]

/-- A departure with one port that is clear starts there (R258). -/
theorem releaseAll_starts {d : Dev} {e : Dep} {n : Nat} (hx : d.dep? e.idx = some e) (hp : e.ports = [n]) (hs : e.started = [])
    (hn : e.ended = []) (hd : e.droppedPorts = []) (hm : d.mustDrop n = false) (hb : d.blockedOn e n = false) :
    (d.releaseAll e).dep? e.idx = some (d.startEntry e n) ∧ DepRel d (d.releaseAll e) ∧
    .msg n (.depRel e e.flagLate) :: d.sent <:+ (d.releaseAll e).sent := by
  have hover : e.overOn n = false := by simp [Dep.overOn, hn, hd]
  have hclear : e.startedOn n = false := by simp [Dep.startedOn, hs]
  obtain ⟨hentry, hclose, hnext, hfind, hrel, hsent⟩ := startOn_put (n := n) hx (by simp [hp]) hover
  have heq : d.releaseAll e = (d.startOn e n).2.putDep (d.startEntry e n) := by
    rw [Dev.releaseAll, hp, List.foldl_cons, List.foldl_nil, releasePort_starts hclear hover hm hb, hentry, hclose, Dev.startNexts, hp]
    split
    · rfl
    · exact hnext
  rw [heq]
  exact ⟨hfind, hrel, hsent⟩

/-! ## Departures that are late or missed -/

/-- A departure whose instant passes before it is staged is dropped, or stays for a late release (R262, R272). -/
theorem missDep_effect {d : Dev} {e : Dep} (hx : d.dep? e.idx = some e) (hp : e.phase ≠ .releasing) :
    if d.flag R.DEP_MISS_POLICY.POL then
      ((d.missDep e).startNexts e).dep? e.idx = none ∧ ((d.missDep e).startNexts e).flag R.DEP_EVT.MISSED = true
    else (((d.missDep e).startNexts e).dep? e.idx).map (fun y => (y.late, y.out)) = some (true, .lateStaged) := by
  unfold Dev.missDep
  by_cases h : d.flag R.DEP_MISS_POLICY.POL = true
  · rw [if_pos h, if_pos h]
    refine ⟨(startNexts_solo e (recordDep_solo_same _ e _) (fun x hx => by cases hx)).1, ?_⟩
    refine ((recordDep_dep _ e _).trans (startNexts_dep _ e)).raised rfl rfl ?_
    rw [Dev.bumpSat, flag_set_far _ _ _ _ (by decide)]
    exact flag_raise_self d _ (by decide)
  · rw [if_neg h, if_neg h]
    dsimp only
    generalize hy : ({ e with late := true, imm := false, quiet := [], out := .lateStaged } : Dep) = y
    have hidx : y.idx = e.idx := by rw [← hy]
    have hphase : y.phase = e.phase := by rw [← hy]
    have hput : (d.putDep y).solo e.idx (some y) := hidx ▸ putDep_solo_same (hidx ▸ hx)
    have hsolo := startNexts_solo (d := (d.putDep y).pumpDep y) e (solo_of_dep (pumpDep_send _ y).dep hput)
      (fun x hxy => by rw [← Option.some.inj hxy, hphase]; exact hp)
    rw [hsolo.1, ← hy]
    rfl

/-! ## The end of a release -/

theorem setPort_queues (d : Dev) (n : Nat) (p : Port) : QueuesBut 2 d (d.setPort n p) := .of_que (by rw [setPort_frame])

theorem slotsBetween_queues (n k : Nat) (l : List Msg) (blocked : List (Option Nat)) (s : List DepSlot) (d : Dev) (keep : List Msg) :
    QueuesBut 2 d (Dev.slotsBetween n k l blocked s d keep).2 := by
  induction l generalizing k blocked s d keep with
  | nil =>
    unfold Dev.slotsBetween
    exact setPort_queues ..
  | cons m l ih =>
    unfold Dev.slotsBetween
    split
    · exact (sendOff_send d n m).queues.trans (ih ..)
    · exact ih ..

/-- A release that ends on a port sends what is left, and leaves the departures' own record to its caller. -/
theorem endOn_ends {d : Dev} {e : Dep} {n : Nat} (hs : e.startedOn n = true) (ho : e.overOn n = false) (hst : (d.port n).st = 3)
    (hroom : (d.port n).unacked + ((d.port n).cut.length + (depLater e).length + 59) / 15 ≤ 128) :
    (Dev.endOn (e, d) n).1 = { e with ended := e.ended ++ [n] } ∧ DepRel d (Dev.endOn (e, d) n).2 ∧
    (Dev.endOn (e, d) n).2.dep = d.dep ∧ QueuesBut 2 d (Dev.endOn (e, d) n).2 := by
  unfold Dev.endOn
  dsimp only
  rw [if_pos (by simp [hs, ho, hst, hroom])]
  have hslots := slotsBetween_dep n 45 (d.port n).txq [] [] d []
  have hdep := slotsBetween_sent n 45 (d.port n).txq [] [] d []
  have hque := slotsBetween_queues n 45 (d.port n).txq [] [] d []
  generalize Dev.slotsBetween n 45 (d.port n).txq [] [] d [] = r at hslots hdep hque ⊢
  generalize hy : r.2.setPort n { r.2.port n with cut := [] } = y
  have hport : DepRel r.2 y := hy ▸ setPort_dep ..
  have hportDep : y.dep = r.2.dep := by rw [← hy, setPort_frame]
  have hportQue : QueuesBut 2 r.2 y := hy ▸ setPort_queues ..
  have hsend : SendRel y (((chunk15 64 ((d.port n).cut ++ r.1 ++ depLater e)).foldl (Dev.depFlit n) y).sendLines n e e.restLines) :=
    (SendRel.foldl (depFlit_send n) _ y).trans (sendLines_send ..)
  exact ⟨rfl, (hslots.trans hport).trans hsend.depRel, by rw [hsend.dep, hportDep, hdep], (hque.trans hportQue).trans hsend.queues⟩

/-- A record of a departure goes to its queue (R273, R537). -/
theorem recordDep_record {d : Dev} (e : Dep) (o : DepOut) (hm : d.isMirror = false) (hq : d.que.q.length = 5)
    (hroom : (d.queue 1).recs.length < 1024) : dlqWords e o ∈ ((d.recordDep e o).queue 1).recs := by
  have hpush : dlqWords e o ∈ ((d.push 1 (dlqWords e o)).queue 1).recs := by
    unfold Dev.push
    dsimp only
    rw [if_neg (by simp [hm]), if_neg (by rw [show queueDepth 1 = 1024 from rfl]; omega), Dev.queue, Dev.raiseIf_que, Dev.setQueue]
    simp [hq]
  have hrest : DepRel (d.push 1 (dlqWords e o)) (d.recordDep e o) :=
    ((dropDep_dep _ e).trans (mirror_dep _ _)).trans (.of_dep _ _ rfl)
  exact hrest.records.subset hpush

theorem releaseEnd_effect {d : Dev} {e : Dep} {i n : Nat} {bt : BitVec 64} (hx : d.dep? i = some e) (hf : e.fullyStaged = true)
    (hp : e.ports = [n]) (hs : e.started = [(n, bt)]) (hn : e.ended = []) (hd : e.droppedPorts = []) (hst : (d.port n).st = 3)
    (hroom : (d.port n).unacked + ((d.port n).cut.length + (depLater e).length + 59) / 15 ≤ 128)
    (hm : d.isMirror = false) (hq : d.que.q.length = 5) (hrec : (d.queue 1).recs.length < 1024) :
    (releaseEnd i d).dep? i = none ∧ dlqWords e e.out ∈ ((releaseEnd i d).queue 1).recs := by
  have hidx := (dep?_mem hx).2
  have hstarted : e.startedOn n = true := by simp [Dep.startedOn, hs]
  have hover : e.overOn n = false := by simp [Dep.overOn, hn, hd]
  obtain ⟨hentry, hrel, hdep, hque⟩ := endOn_ends hstarted hover hst hroom
  generalize hy : ({ e with ended := e.ended ++ [n] } : Dep) = y at hentry
  have heq : releaseEnd i d = ((((Dev.endOn (e, d) n).2.putDep y).recordDep y y.out).startNexts e).pumpDep e := by
    have hclose : ∀ x : Dev, x.closeDep y = x.recordDep y y.out := by
      intro x
      rw [Dev.closeDep, if_pos (by rw [← hy]; simp [hp, Dep.overOn]), if_neg (by rw [← hy]; simp)]
    unfold releaseEnd
    rw [hx]
    dsimp only
    rw [if_pos (by simp [hf, hs]), hp, List.foldl_cons, List.foldl_nil, hentry, hclose]
  generalize (Dev.endOn (e, d) n).2 = x at hrel hdep hque heq
  have hyidx : y.idx = i := by rw [← hy, ← hidx]
  have hafter : DepRel ((x.putDep y).recordDep y y.out) (releaseEnd i d) := by
    rw [heq]
    exact (startNexts_dep _ e).trans (pumpDep_send _ e).depRel
  refine ⟨?_, hafter.records.subset ?_⟩
  · have hsolo := startNexts_solo e (recordDep_solo_same (x.putDep y) y y.out) (fun z hz => by cases hz)
    rw [heq, ← hyidx]
    exact (solo_of_dep (pumpDep_send _ e).dep hsolo).1
  · have hwords : dlqWords e e.out = dlqWords y y.out := by rw [← hy]; rfl
    have hmirror : x.isMirror = false := by
      rw [Dev.isMirror, hrel.twn, ← hm]
      rfl
    rw [hwords]
    exact recordDep_record (d := x.putDep y) y y.out hmirror (hrel.queLen.trans hq)
      (by rw [show (x.putDep y).queue 1 = x.queue 1 from rfl, hque.2 1 (by decide)]; exact hrec)

/-! ## The commands -/

theorem quietWindow_effect {d : Dev} {e : Dep} {i : Nat} (hr : d.gcr.role ≠ .manager) (hm : d.twn.mirror = false)
    (hx : d.dep? i = some e) (hi : e.imm = false) (hl : e.late = false) (hs : e.started = []) :
    (quietWindow i d).dep? i = some { e with quiet := e.quiet ++ (d.quietDue e).filter (fun n => !e.quiet.contains n) } ∧
    (quietWindow i d).cnf = d.cnf ∧ (quietWindow i d).store = d.store := by
  have hidx := (dep?_mem hx).2
  unfold quietWindow
  rw [hx]
  dsimp only
  rw [if_pos (by simp [hr, hm, hi, hl, hs])]
  subst hidx
  exact ⟨(putDep_solo_same (e := { e with quiet := e.quiet ++ (d.quietDue e).filter (fun n => !e.quiet.contains n) }) hx).1, rfl, rfl⟩

/-- The release of a departure that has been late. -/
theorem lateStaged_effect {d : Dev} {e : Dep} {i n : Nat} (hm : d.twn.mirror = false) (hx : d.dep? i = some e) (hl : e.late = true)
    (hph : e.phase = .staged) (hf : e.fullyStaged = true) (hfresh : d.freshOver e = true) (hp : e.ports = [n]) (hs : e.started = [])
    (hn : e.ended = []) (hd : e.droppedPorts = []) (hdrop : d.mustDrop n = false) (hb : d.blockedOn e n = false) :
    (lateStaged i d).flag R.DEP_EVT.LATE_STAGED = true ∧ (lateStaged i d).dep? i = some (d.startEntry e n) ∧
    .msg n (.depRel e e.flagLate) :: d.sent <:+ (lateStaged i d).sent := by
  have hidx := (dep?_mem hx).2
  have heq : lateStaged i d = (((d.raise R.DEP_EVT.LATE_STAGED).bumpSat R.DEP_LATE_CNT.LATE 1).pmu1 0x022).releaseAll e := by
    unfold lateStaged
    rw [hx]
    dsimp only
    rw [if_pos (by simp [hl, hf, hfresh, hph, hm])]
  have hflag : ((d.raise R.DEP_EVT.LATE_STAGED).bumpSat R.DEP_LATE_CNT.LATE 1).flag R.DEP_EVT.LATE_STAGED = true := by
    rw [Dev.bumpSat, flag_set_far _ _ _ _ (by decide)]
    exact flag_raise_self d _ (by decide)
  have hkeep : ((d.raise R.DEP_EVT.LATE_STAGED).bumpSat R.DEP_LATE_CNT.LATE 1).flag (portEN n) = d.flag (portEN n) := by
    have hne : 0x80004 + n * 0x2000 ≠ 0x1700C ∧ 0x80004 + n * 0x2000 ≠ 0x1706C := by omega
    rw [Dev.bumpSat, flag_set_far _ _ _ _ (by simp [fieldsApart, portEN, R.DEP_LATE_CNT.LATE, hne.2]),
      flag_raise_far _ _ _ (by simp [fieldsApart, portEN, R.DEP_EVT.LATE_STAGED, hne.1])]
  generalize hy : ((d.raise R.DEP_EVT.LATE_STAGED).bumpSat R.DEP_LATE_CNT.LATE 1).pmu1 0x022 = y at heq
  have hyx : y = { d with regs := y.regs, pmu := y.pmu } := by rw [← hy]; rfl
  have hyflag : y.flag R.DEP_EVT.LATE_STAGED = true := by rw [← hy]; exact (flag_of_regs rfl rfl _).trans hflag
  have hydrop : y.mustDrop n = false := by
    have hyen : y.flag (portEN n) = d.flag (portEN n) := by rw [← hy]; exact (flag_of_regs rfl rfl _).trans hkeep
    have hyport : y.port n = d.port n := by rw [hyx]; rfl
    rw [Dev.mustDrop, hyen, hyport]
    exact hdrop
  have hyb : y.blockedOn e n = false := by rw [hyx]; exact hb
  have hystart : y.startEntry e n = d.startEntry e n := by rw [hyx]; rfl
  have hysent : y.sent = d.sent := by rw [hyx]
  have hyfind : y.dep? e.idx = some e := by
    rw [hidx, hyx]
    exact hx
  obtain ⟨hfind, hrel, hsent⟩ := releaseAll_starts hyfind hp hs hn hd hydrop hyb
  rw [heq]
  exact ⟨hrel.raised rfl rfl hyflag, by rw [← hidx, hfind, hystart], hysent ▸ hsent⟩

/-- An immediate release on a port that is clear. -/
theorem immediateRelease_effect {d : Dev} {e : Dep} {i n : Nat} (hr : d.gcr.role ≠ .manager) (hm : d.twn.mirror = false)
    (hx : d.dep? i = some e) (hi : e.imm = true) (hp : n ∈ e.ports) (hs : e.startedOn n = false) (ho : e.overOn n = false)
    (h0 : e.stagedLine 0 = true) (hdrop : d.mustDrop n = false) (hb : d.blockedOn e n = false) :
    (immediateRelease i n d).dep? i = some (d.startEntry e n) ∧
    .msg n (.depRel e e.flagLate) :: d.sent <:+ (immediateRelease i n d).sent := by
  have hidx := (dep?_mem hx).2
  have hpc : e.ports.contains n = true := List.contains_iff_mem.mpr hp
  generalize hy : d.pmu1 0x022 (if e.started.isEmpty then 1 else 0) = y
  have hystart : y.startEntry e n = d.startEntry e n := by rw [← hy]; rfl
  have hysent : y.sent = d.sent := by rw [← hy]; rfl
  have hydrop : y.mustDrop n = false := by rw [← hy]; exact hdrop
  have hyb : y.blockedOn e n = false := by rw [← hy]; exact hb
  have hyfind : y.dep? e.idx = some e := by rw [← hy, hidx]; exact hx
  obtain ⟨hentry, hclose, hnext, hfind, -, hsent⟩ := startOn_put hyfind hpc ho
  have heq : immediateRelease i n d = (y.startOn e n).2.putDep (y.startEntry e n) := by
    unfold immediateRelease
    rw [hx]
    dsimp only
    rw [if_pos (by simp [hr, hm, hi, hp, hs, ho, h0]), hy, releasePort_starts hs ho hydrop hyb, hentry, hclose, hnext]
  rw [heq]
  exact ⟨by rw [← hidx, hfind, hystart], hysent ▸ hsent⟩

theorem depCancelGo_effect {d : Dev} {e : Dep} (hx : d.dep? (d.get R.DEP_CANCEL_IDX.IDX) = some e) (hc : e.cancellable = true) :
    (depCancelGo d).get R.DEP_CANCEL_CTRL.RESULT = 1 ∧ (depCancelGo d).dep? e.idx = none := by
  unfold depCancelGo
  rw [hx, Option.filter_some, if_pos hc]
  dsimp only
  refine ⟨get_set_self _ _ 1 (by decide), ?_⟩
  have hcancel : (d.cancelDep e).solo e.idx none := recordDep_solo_same _ e _
  exact (solo_of_dep rfl (startNexts_solo e hcancel fun x hx => by cases hx)).1

theorem depCancelGo_none {d : Dev} (h : (d.dep? (d.get R.DEP_CANCEL_IDX.IDX)).all (fun e => !e.cancellable) = true) :
    (depCancelGo d).get R.DEP_CANCEL_CTRL.RESULT = 0 ∧ (depCancelGo d).dep = d.dep := by
  have hnone : (d.dep? (d.get R.DEP_CANCEL_IDX.IDX)).filter Dep.cancellable = none := by
    cases hx : d.dep? (d.get R.DEP_CANCEL_IDX.IDX) with
    | none => rfl
    | some e =>
      rw [hx] at h
      simp only [Option.all_some, Bool.not_eq_true'] at h
      rw [Option.filter_some, if_neg (by rw [h]; decide)]
  unfold depCancelGo
  rw [hnone]
  exact ⟨get_set_self _ _ 0 (by decide), rfl⟩

theorem depDisable_effect {d : Dev} (h : d.flag depEN = true) : (depDisable d).flag depEN = false ∧
    (depDisable d).dep.table = d.dep.table ∧ (depDisable d).dep.draining = !d.dep.table.isEmpty := by
  unfold depDisable
  rw [if_pos h]
  refine ⟨(flag_of_regs (d := d.set depEN 0) rfl rfl _).trans ?_, rfl, rfl⟩
  rw [Dev.flag, get_set_self _ _ _ (by decide)]
  rfl

/-- Settles O45: a departure starts on a clear port and stays first there, ends with its record, and is dropped by a miss or a
cancel; nothing that takes its turn afterwards touches its entry. -/
theorem releaseCommands : Obligations.ReleaseCommands := by
  refine ⟨?_, ?_, ?_, ?_, ?_, ?_, ?_, ?_, ?_⟩
  · intro idx e s ha hr hm hx hi hl hs
    refine ⟨_, onCore_runs ha _, ?_⟩
    rw [State.setDev_dev, Dev.dep?, settle_dep, ← Dev.dep?, settle_cnf, settle_store]
    exact quietWindow_effect hr hm hx hi hl hs
  · intro idx n e s ha hr hm hx hi hl hph hb hf hp hn hlen hs he hd hdrop hblk
    have hidx := (dep?_mem hx).2
    obtain ⟨hfind, -, hsent⟩ := releaseAll_starts (by rw [hidx]; exact hx) hp hs he hd hdrop hblk
    have heq : departureRelease idx s.dev = s.dev.releaseAll e := by
      unfold departureRelease
      rw [hx]
      dsimp only
      rw [if_neg (by simp [hr, hm, hi, hl, hph, hb]), if_pos hf]
    refine ⟨_, onCore_runs ha _, ?_⟩
    rw [State.setDev_dev, Dev.dep?, settle_dep, ← Dev.dep?, heq, ← hidx, hfind]
    refine ⟨by simp [Dev.startEntry, hs], ?_⟩
    obtain ⟨l, hl⟩ := hsent
    exact settle_drove_of_append (l := l ++ [.msg n (.depRel e e.flagLate)]) (by rw [← hl]; simp) (by simp)
  · intro idx e s ha hr hm hx hi hl hph hb hf
    have hidx := (dep?_mem hx).2
    have heq : departureRelease idx s.dev = (s.dev.missDep e).startNexts e := by
      unfold departureRelease
      rw [hx]
      dsimp only
      rw [if_neg (by simp [hr, hm, hi, hl, hph, hb]), if_neg (by simp [hf])]
    refine ⟨_, onCore_runs ha _, ?_⟩
    rw [State.setDev_dev, Dev.dep?, settle_dep, ← Dev.dep?, settle_flag, heq, ← hidx]
    exact missDep_effect (by rw [hidx]; exact hx) hph
  · intro idx n e s ha hm hx hl hph hf hfresh hp hn hlen hs he hd hdrop hblk
    obtain ⟨hflag, hfind, l, hsent⟩ := lateStaged_effect hm hx hl hph hf hfresh hp hs he hd hdrop hblk
    refine ⟨_, onCore_runs ha _, ?_⟩
    rw [State.setDev_dev, Dev.dep?, settle_dep, ← Dev.dep?, settle_flag, hfind]
    refine ⟨hflag, by simp [Dev.startEntry, hs], ?_⟩
    exact settle_drove_of_append (l := l ++ [.msg n (.depRel e e.flagLate)]) (by rw [← hsent]; simp) (by simp)
  · intro idx n e s ha hr hm hx hi hp hs ho h0 hn hlen hdrop hblk
    obtain ⟨hfind, l, hsent⟩ := immediateRelease_effect hr hm hx hi hp hs ho h0 hdrop hblk
    refine ⟨_, onCore_runs ha _, ?_⟩
    rw [State.setDev_dev, Dev.dep?, settle_dep, ← Dev.dep?, hfind]
    refine ⟨?_, rfl⟩
    exact settle_drove_of_append (l := l ++ [.msg n (.depRel e e.flagLate)]) (by rw [← hsent]; simp) (by simp)
  · intro idx n bt e s ha hx hf hp hs he hd hst hroom hm hq hrec
    refine ⟨_, onCore_runs ha _, ?_⟩
    rw [State.setDev_dev, Dev.dep?, settle_dep, ← Dev.dep?, settle_queue]
    exact releaseEnd_effect hx hf hp hs he hd hst hroom hm hq hrec
  · intro src e s hr hx hc
    refine ⟨_, onDev_write hr src _, ?_⟩
    rw [State.setDev_dev, Dev.dep?, settle_dep, settle_get, emit_get, Dev.emit_dep, ← Dev.dep?]
    exact depCancelGo_effect hx hc
  · intro src s hr hx
    refine ⟨_, onDev_write hr src _, ?_⟩
    rw [State.setDev_dev, settle_dep, settle_get, emit_get, Dev.emit_dep]
    exact depCancelGo_none hx
  · intro src s hr hf
    refine ⟨_, onDev_write hr src _, ?_⟩
    rw [State.setDev_dev, settle_dep, settle_flag, emit_flag, Dev.emit_dep]
    exact depDisable_effect hf

end Sys2Proof.Machine
end

section
/-! SUPPORT. Messages told to a port: what sending keeps of them, and that a message told is sent or waits (R211, R376). -/

namespace Sys2Proof.Machine

set_option Elab.async false

/-- Copies of a message that wait or have been driven. -/
def Dev.copies (d : Dev) (n : Nat) (m : Msg) : Nat := d.waitingCopies n m + (d.sent.filter (· == Out.msg n m)).length

theorem told_iff {t d : Dev} (h : d.sent <:+ t.sent) (n : Nat) (m : Msg) : t.told d n m ↔ d.copies n m < t.copies n m := by
  obtain ⟨l, hl⟩ := h
  have htake : t.sent.take (t.sent.length - d.sent.length) = l := by
    rw [← hl]
    simp
  rw [Dev.told, htake, Dev.copies, Dev.copies, ← hl, List.filter_append, List.length_append]
  omega

/-- No message that waits or was driven is lost. -/
structure CopiesGrow (d e : Dev) : Prop where
  sent : d.sent <:+ e.sent
  copies : ∀ n m, d.copies n m ≤ e.copies n m

theorem CopiesGrow.refl (d : Dev) : CopiesGrow d d := ⟨List.suffix_refl _, fun _ _ => Nat.le_refl _⟩

theorem CopiesGrow.trans {a b c : Dev} (h : CopiesGrow a b) (k : CopiesGrow b c) : CopiesGrow a c :=
  ⟨h.sent.trans k.sent, fun n m => (h.copies n m).trans (k.copies n m)⟩

theorem CopiesGrow.foldl {α : Type} {f : Dev → α → Dev} (h : ∀ d x, CopiesGrow d (f d x)) (l : List α) (d : Dev) :
    CopiesGrow d (l.foldl f d) := by
  induction l generalizing d with
  | nil => exact .refl d
  | cons x l ih => exact (h d x).trans (ih _)

/-- A message told stays told. -/
theorem CopiesGrow.told {a b c : Dev} {n : Nat} {m : Msg} (h : CopiesGrow b c) (hab : a.sent <:+ b.sent) (ht : b.told a n m) :
    c.told a n m := by
  rw [told_iff hab] at ht
  rw [told_iff (hab.trans h.sent)]
  exact ht.trans_le (h.copies n m)

/-- A message told after a step that loses none is told since before it. -/
theorem CopiesGrow.told_before {a b c : Dev} {n : Nat} {m : Msg} (h : CopiesGrow a b) (hbc : b.sent <:+ c.sent) (ht : c.told b n m) :
    c.told a n m := by
  rw [told_iff hbc] at ht
  rw [told_iff (h.sent.trans hbc)]
  exact (h.copies n m).trans_lt ht

/-- The messages that wait are as they were. -/
structure QuietSend (d e : Dev) : Prop where
  sent : d.sent <:+ e.sent
  txq : ∀ n, (e.port n).txq = (d.port n).txq
  held : e.twn.held = d.twn.held
  ports : e.ports.length = d.ports.length

theorem QuietSend.refl (d : Dev) : QuietSend d d := ⟨List.suffix_refl _, fun _ => rfl, rfl, rfl⟩

theorem QuietSend.trans {a b c : Dev} (h : QuietSend a b) (k : QuietSend b c) : QuietSend a c :=
  ⟨h.sent.trans k.sent, fun n => (k.txq n).trans (h.txq n), k.held.trans h.held, k.ports.trans h.ports⟩

theorem QuietSend.foldl {α : Type} {f : Dev → α → Dev} (h : ∀ d x, QuietSend d (f d x)) (l : List α) (d : Dev) :
    QuietSend d (l.foldl f d) := by
  induction l generalizing d with
  | nil => exact .refl d
  | cons x l ih => exact (h d x).trans (ih _)

theorem QuietSend.grow {d e : Dev} (h : QuietSend d e) : CopiesGrow d e := by
  refine ⟨h.sent, fun n m => ?_⟩
  have hlen := (h.sent.sublist.filter (· == Out.msg n m)).length_le
  rw [Dev.copies, Dev.copies, Dev.waitingCopies, Dev.waitingCopies, h.txq, h.held]
  omega

/-- A change of nothing that sending rests on. -/
theorem QuietSend.aside {d e : Dev} (hp : e.ports = d.ports) (ht : e.tw = d.tw) (hh : e.twn.held = d.twn.held)
    (hs : d.sent <:+ e.sent) : QuietSend d e :=
  ⟨hs, fun n => by rw [port_of_ports hp ht], hh, by rw [hp]⟩

theorem setPort_quiet {d : Dev} {n : Nat} {p : Port} (h : p.txq = (d.port n).txq) : QuietSend d (d.setPort n p) where
  sent := by rw [setPort_frame]
  txq k := by
    by_cases hk : k = n
    · subst hk
      rcases port_setPort_cases d k p with hp | hp
      · rw [hp, h]
      · rw [hp]
    · rw [port_setPort_ne d hk]
  held := by rw [setPort_frame]
  ports := setPort_ports_length d n p

theorem emit_quiet (d : Dev) (o : Out) : QuietSend d (d.emit o) := .aside rfl rfl rfl ⟨[o], rfl⟩

theorem pmu1_quiet (d : Dev) (c v : Nat) : QuietSend d (d.pmu1 c v) := .aside rfl rfl rfl (List.suffix_refl _)

/-! ## Flits -/

theorem emitFlit_quiet (d : Dev) (n fk seq : Nat) (slots : BitVec 1920) (mark : Nat) : QuietSend d (d.emitFlit n fk seq slots mark) :=
  (setPort_quiet (p := (d.port n).tell) rfl).trans (emit_quiet _ _)

theorem controlOut_quiet (d : Dev) (n fk : Nat) (slot0 : BitVec 128) : QuietSend d (d.controlOut n fk slot0) := emitFlit_quiet ..

theorem idleFlit_quiet (d : Dev) (n : Nat) : QuietSend d (d.idleFlit n) := controlOut_quiet ..

theorem dataOut_quiet (d : Dev) (n : Nat) (slots : BitVec 1920) (mark : Nat) : QuietSend d (d.dataOut n slots mark) := by
  have hkeep : QuietSend d (d.setPort n { d.port n with txSeq := ((d.port n).txSeq + 1) % 4096, buf := (d.port n).buf ++
      [⟨(d.port n).txSeq, slots, mark⟩] }) := setPort_quiet rfl
  exact hkeep.trans (emitFlit_quiet ..)

theorem idleRest_quiet (n k : Nat) (d : Dev) : QuietSend d (Dev.idleRest n k d) := by
  induction k generalizing d with
  | zero => exact .refl d
  | succ k ih =>
    unfold Dev.idleRest
    split
    · exact .refl d
    · exact (idleFlit_quiet d n).trans (ih _)

theorem idleOut_quiet (d : Dev) (n : Nat) : QuietSend d (d.idleOut n) := by
  unfold Dev.idleOut
  split
  · exact (idleFlit_quiet d n).trans (idleRest_quiet ..)
  · exact .refl d

theorem resendFlits_quiet (d : Dev) (n : Nat) : QuietSend d (d.resendFlits n) := by
  unfold Dev.resendFlits
  dsimp only
  split
  · exact .refl d
  · exact (emit_quiet d _).trans
      (QuietSend.foldl (f := fun d (b : Sent) => d.emitFlit n 0 b.seq b.slots b.mark) (fun _ _ => emitFlit_quiet ..) _ _)

theorem sendLate_quiet (n : Nat) (d : Dev) (x : Late) : QuietSend d (Dev.sendLate n d x) := by
  cases x with
  | nak =>
    unfold Dev.sendLate
    dsimp only
    split
    · exact (emit_quiet d _).trans (controlOut_quiet ..)
    · exact .refl d
  | lpm c => exact (emit_quiet d _).trans (controlOut_quiet ..)
  | replay => exact resendFlits_quiet d n

theorem flushLate_quiet (d : Dev) (n : Nat) : QuietSend d (d.flushLate n) := by
  have hclear : QuietSend d (d.setPort n { d.port n with late := [] }) := setPort_quiet rfl
  have hrest : ∀ e : Dev, QuietSend e (if (e.port n).st == 3 then Dev.idleRest n 32 e else e) := by
    intro e
    split
    · exact idleRest_quiet ..
    · exact .refl e
  unfold Dev.flushLate
  dsimp only
  by_cases hq : d.quietOn n = true
  · rw [if_pos hq]
    exact .refl d
  · rw [if_neg hq]
    refine QuietSend.trans ?_ (hrest _)
    split
    · exact .refl d
    · exact hclear.trans (QuietSend.foldl (sendLate_quiet n) _ _)

theorem controlSend_quiet (d : Dev) (n : Nat) (x : Late) : QuietSend d (d.controlSend n x) := by
  unfold Dev.controlSend
  split
  · exact setPort_quiet rfl
  · exact sendLate_quiet n d x

/-! ## Messages -/

theorem returnWb_quiet (d : Dev) (n : Nat) : QuietSend d (d.returnWb n) := by
  have hcredit : QuietSend d (d.setPort n { d.port n with pWb := (d.port n).pWb + 1, outWb := (d.port n).outWb + 1 }) :=
    setPort_quiet rfl
  exact hcredit.trans (idleOut_quiet ..)

theorem returnReq_quiet (d : Dev) (n : Nat) : QuietSend d (d.returnReq n) := by
  have hcredit : QuietSend d (d.setPort n { d.port n with pReq := (d.port n).pReq + 1, outReq := (d.port n).outReq + 1 }) :=
    setPort_quiet rfl
  unfold Dev.returnReq
  dsimp only
  split
  · exact hcredit.trans (idleOut_quiet ..)
  · exact .refl d

theorem returnOwedWb_quiet (d : Dev) (n oport tag : Nat) : QuietSend d (d.returnOwedWb n oport tag) := by
  have howed : QuietSend d { d with cnf := { d.cnf with owedWb := d.cnf.owedWb.erase (n, oport, tag) } } :=
    .aside rfl rfl rfl (List.suffix_refl _)
  unfold Dev.returnOwedWb
  split
  · exact howed.trans (returnWb_quiet ..)
  · exact .refl d

theorem returnOwedReq_quiet (d : Dev) (oport tag : Nat) : QuietSend d (d.returnOwedReq oport tag) := by
  have howed : QuietSend d { d with hie := { d.hie with depCredits := d.hie.depCredits.erase (oport, tag) } } :=
    .aside rfl rfl rfl (List.suffix_refl _)
  unfold Dev.returnOwedReq
  split
  · exact howed.trans (returnReq_quiet ..)
  · exact .refl d

theorem withMessage_quiet (d : Dev) (n : Nat) (m : Msg) : QuietSend d (d.withMessage n m) := by
  unfold Dev.withMessage
  split
  · exact returnOwedWb_quiet ..
  · exact returnOwedWb_quiet ..
  · exact returnOwedReq_quiet ..
  · exact .refl d

theorem RecordRel.quiet {l : List Nat} {d e : Dev} (h : RecordRel l d e) : QuietSend d e :=
  .aside (by rw [h.frame]) (by rw [h.frame]) (by rw [h.frame]) (by rw [h.frame])

theorem trace_quiet (d : Dev) (port : Nat) (tx : Bool) (opc id : Nat) (line : Option Nat) (st : Nat) (psn : Bool) :
    QuietSend d (d.trace port tx opc id line st psn) := by
  unfold Dev.trace
  split
  · exact (push_record d 2 _).quiet
  · exact .refl d

theorem take_txq (p : Port) (c : Option Nat) : (p.take c).txq = p.txq := by
  unfold Port.take
  split <;> rfl

/-- A message that is sent is driven. -/
theorem sendNow_quiet (d : Dev) (n : Nat) (m : Msg) : ∃ x, QuietSend d x ∧ QuietSend (x.emit (.msg n m)) (d.sendNow n m) := by
  have hport : ∀ k, QuietSend d (d.setPort n { (d.port n).take (msgClass m) with cWb := k }) := fun k =>
    setPort_quiet (take_txq ..)
  have hsnp : ∀ e : Dev, QuietSend e (if msgClass m = some 1 then (e.pmu1 (0x100 + 8 * n + 3)).pmu1 0x019 else e) := by
    intro e
    split
    · exact (pmu1_quiet ..).trans (pmu1_quiet ..)
    · exact .refl e
  refine ⟨_, (hport (if needsWb m then (d.port n).cWb - 1 else (d.port n).cWb)).trans (withMessage_quiet _ n m), ?_⟩
  unfold Dev.sendNow Dev.sendOff
  dsimp only
  refine QuietSend.trans ?_ (dataOut_quiet ..)
  refine QuietSend.trans ?_ (pmu1_quiet ..)
  refine QuietSend.trans ?_ (trace_quiet ..)
  refine QuietSend.trans ?_ (hsnp _)
  exact pmu1_quiet ..

/-- Copies of a message in a list. -/
def copiesIn (l : List Msg) (m : Msg) : Nat := (l.filter (· == m)).length

theorem copiesIn_append (l k : List Msg) (m : Msg) : copiesIn (l ++ k) m = copiesIn l m + copiesIn k m := by
  rw [copiesIn, List.filter_append, List.length_append, copiesIn, copiesIn]

/-- Copies of a message to a port that have been driven, or wait for the mirror side. -/
def Dev.copiesElse (d : Dev) (n : Nat) (m : Msg) : Nat :=
  (d.twn.held.filter (fun e => e.2 == (n, m))).length + (d.sent.filter (· == Out.msg n m)).length

theorem copies_eq (d : Dev) (n : Nat) (m : Msg) : d.copies n m = copiesIn (d.port n).txq m + d.copiesElse n m := by
  rw [Dev.copies, Dev.waitingCopies, copiesIn, Dev.copiesElse]
  omega

theorem QuietSend.copiesElse {d e : Dev} (h : QuietSend d e) (n : Nat) (m : Msg) : d.copiesElse n m ≤ e.copiesElse n m := by
  have hlen := (h.sent.sublist.filter (· == Out.msg n m)).length_le
  rw [Dev.copiesElse, Dev.copiesElse, h.held]
  omega

theorem setPort_copies_ne (d : Dev) {n k : Nat} (h : k ≠ n) (p : Port) (m : Msg) : (d.setPort n p).copies k m = d.copies k m := by
  rw [Dev.copies, Dev.copies, Dev.waitingCopies, Dev.waitingCopies, port_setPort_ne d h]
  rw [setPort_frame]

/-- What a port's queue of messages gives out is driven, and what it keeps waits. -/
theorem pumpList_copies {n : Nat} (l : List Msg) (blocked : List (Option Nat)) (d : Dev) (keep : List Msg)
    (hn : n = twPort ∨ n < d.ports.length) (m : Msg) :
    copiesIn keep m + copiesIn l m + d.copiesElse n m ≤ (Dev.pumpList n l blocked d keep).copies n m ∧
    (∀ k, k ≠ n → d.copies k m ≤ (Dev.pumpList n l blocked d keep).copies k m) ∧
    d.sent <:+ (Dev.pumpList n l blocked d keep).sent := by
  induction l generalizing blocked d keep with
  | nil =>
    refine ⟨?_, fun k hk => (setPort_copies_ne d hk _ m).ge, by rw [Dev.pumpList, setPort_frame]⟩
    rw [copies_eq, Dev.pumpList, port_setPort_same hn, Dev.copiesElse, Dev.copiesElse, setPort_frame]
    exact Nat.le_refl _
  | cons y l ih =>
    unfold Dev.pumpList
    split
    · obtain ⟨x, hx, hy⟩ := sendNow_quiet d n y
      have hports : n = twPort ∨ n < (d.sendNow n y).ports.length := by
        rw [hy.ports, Dev.emit_ports, hx.ports]
        exact hn
      obtain ⟨hsame, hother, hsent⟩ := ih blocked (d.sendNow n y) keep hports
      have hall := (hx.trans (emit_quiet x (.msg n y))).trans hy
      refine ⟨?_, fun k hk => (hall.grow.copies k m).trans (hother k hk), hall.sent.trans hsent⟩
      have hone : copiesIn [y] m + x.copiesElse n m ≤ (x.emit (.msg n y)).copiesElse n m := by
        rw [copiesIn, Dev.copiesElse, Dev.copiesElse, Dev.emit_sent, Dev.emit_twn]
        by_cases hym : y = m
        · subst hym
          simp
          omega
        · have hne : ¬ (y == m) = true := by simpa using hym
          rw [List.filter_cons_of_neg (by simpa using hne)]
          have hlen := (List.suffix_cons (Out.msg n y) x.sent).sublist.filter (· == Out.msg n m) |>.length_le
          simp only [List.filter_nil, List.length_nil]
          omega
      have hcons : copiesIn (y :: l) m = copiesIn [y] m + copiesIn l m := copiesIn_append [y] l m
      have hd := hx.copiesElse n m
      have he := hy.copiesElse n m
      omega
    · obtain ⟨hsame, hother, hsent⟩ := ih (msgClass y :: blocked) d (keep ++ [y]) hn
      refine ⟨?_, hother, hsent⟩
      have hcons : copiesIn (y :: l) m = copiesIn [y] m + copiesIn l m := copiesIn_append [y] l m
      rw [copiesIn_append] at hsame
      omega

theorem idleWhenFull_quiet (d : Dev) (n : Nat) : QuietSend d (d.idleWhenFull n) := by
  unfold Dev.idleWhenFull
  split
  · exact idleOut_quiet ..
  · exact .refl d

theorem port_none {d : Dev} {n : Nat} (h : ¬ (n = twPort ∨ n < d.ports.length)) : d.port n = {} := by
  rw [not_or] at h
  rw [Dev.port, if_neg h.1, List.getElem?_eq_none (Nat.not_lt.mp h.2)]
  rfl

theorem pumpList_grow (d : Dev) (n : Nat) : CopiesGrow d (Dev.pumpList n (d.port n).txq [] d []) := by
  by_cases hn : n = twPort ∨ n < d.ports.length
  · refine ⟨(pumpList_copies (d.port n).txq [] d [] hn (.depAck 0 0)).2.2, fun k m => ?_⟩
    obtain ⟨hsame, hother, -⟩ := pumpList_copies (d.port n).txq [] d [] hn m
    by_cases hk : k = n
    · subst hk
      rw [copies_eq d]
      exact le_trans (by simp [copiesIn]) hsame
    · exact hother k hk
  · rw [port_none hn]
    exact (setPort_quiet (by rw [port_none hn])).grow

theorem pump_grow (d : Dev) (n : Nat) : CopiesGrow d (d.pump n) :=
  ((flushLate_quiet d n).grow.trans (pumpList_grow _ n)).trans (idleWhenFull_quiet _ n).grow

/-- A message queued at a port waits there, or is sent. -/
theorem txPush_copies (d : Dev) {n : Nat} (m : Msg) (hn : n = twPort ∨ n < d.ports.length) :
    d.copies n m < (d.txPush n m).copies n m := by
  refine lt_of_lt_of_le ?_ ((pump_grow _ n).copies n m)
  rw [copies_eq, copies_eq, port_setPort_same hn, copiesIn_append, Dev.copiesElse, Dev.copiesElse, setPort_frame]
  simp [copiesIn]

theorem queueMsg_grow (d : Dev) (n : Nat) (m : Msg) :
    CopiesGrow d (d.setPort n { d.port n with txq := (d.port n).txq ++ [m] }) := by
  refine ⟨by rw [setPort_frame], fun k x => ?_⟩
  by_cases hk : k = n
  · subst hk
    by_cases hn : k = twPort ∨ k < d.ports.length
    · rw [copies_eq, copies_eq, port_setPort_same hn, copiesIn_append, Dev.copiesElse, Dev.copiesElse, setPort_frame]
      simp
    · rcases port_setPort_cases d k { d.port k with txq := (d.port k).txq ++ [m] } with hp | hp
      · rw [copies_eq, copies_eq, hp, copiesIn_append, Dev.copiesElse, Dev.copiesElse, setPort_frame]
        simp
      · rw [copies_eq, copies_eq, hp, Dev.copiesElse, Dev.copiesElse, setPort_frame]
  · exact (setPort_copies_ne d hk _ x).ge

theorem txPush_grow (d : Dev) (n : Nat) (m : Msg) : CopiesGrow d (d.txPush n m) := (queueMsg_grow d n m).trans (pump_grow _ n)

theorem held_grow (d : Dev) (k n : Nat) (m : Msg) : CopiesGrow d { d with twn := { d.twn with held := d.twn.held ++ [(k, n, m)] } } := by
  refine ⟨List.suffix_refl _, fun i x => ?_⟩
  show d.waitingCopies i x + _ ≤ _
  simp only [Dev.copies, Dev.waitingCopies, List.filter_append, List.length_append]
  show _ ≤ ((d.port i).txq.filter _).length + _ + _
  omega

theorem tell_grow (d : Dev) (n : Nat) (m : Msg) : CopiesGrow d (d.tell n m) := by
  unfold Dev.tell
  split
  · exact .refl d
  · split
    · exact held_grow ..
    · exact txPush_grow ..

/-- A side that sends and is not superseded tells a port that it has. -/
theorem tell_told {d : Dev} {n : Nat} {m : Msg} (hs : d.twn.st ≠ .superseded) (hm : d.twn.mirror = false)
    (hn : n = twPort ∨ n < d.ports.length) : (d.tell n m).told d n m := by
  rw [told_iff (tell_grow d n m).sent]
  unfold Dev.tell
  rw [if_neg (by simp [hs, hm])]
  split
  · rw [Dev.copies, Dev.copies, Dev.waitingCopies, Dev.waitingCopies]
    show ((d.port n).txq.filter _).length + _ + _ < ((d.port n).txq.filter _).length + _ + _
    simp
  · exact txPush_copies d m hn

theorem respond_grow (d : Dev) (o : Origin) (f : Nat → Msg) : CopiesGrow d (d.respond o f) := by
  unfold Dev.respond
  split
  · exact tell_grow ..
  · exact .refl d

/-! ## What follows a command -/

theorem settle_copies (d : Dev) (n : Nat) (m : Msg) : (settle d).waitingCopies n m = d.waitingCopies n m := by
  have hport : ((settle d).port n).txq = (d.port n).txq := by
    by_cases hn : n = twPort
    · subst hn
      simp [Dev.port, settle_tw_txq]
    · simp [Dev.port, hn]
  rw [Dev.waitingCopies, Dev.waitingCopies, hport, settle_twn_held]

theorem settle_grow (d : Dev) : CopiesGrow d (settle d) := by
  have hs := (settle_rel d).sent
  refine ⟨hs, fun n m => ?_⟩
  have hlen := (hs.sublist.filter (· == Out.msg n m)).length_le
  rw [Dev.copies, Dev.copies, settle_copies]
  omega

end Sys2Proof.Machine
end

section
/-! THEOREM. Boarding reads, the lines of other devices, and their acknowledgements (R243 to R257). -/

namespace Sys2Proof.Machine

set_option Elab.async false

/-! ## A line staged -/

theorem GrantRel.quiet {d e : Dev} (h : GrantRel d e) : QuietSend d e where
  sent := h.sent
  txq n := (congrArg Port.txq (h.port n) :)
  held := by rw [h.frame]
  ports := h.ports

/-- The device after tokens have been asked for. -/
structure AskRel (d e : Dev) : Prop where
  frame : e = { d with regs := e.regs, clk := e.clk, pwr := e.pwr, pur := e.pur, ports := e.ports, tw := e.tw, mps := e.mps,
                       sent := e.sent, free := e.free }
  quiet : QuietSend d e

theorem AskRel.refl (d : Dev) : AskRel d d := ⟨rfl, .refl d⟩

theorem AskRel.trans {a b c : Dev} (h : AskRel a b) (k : AskRel b c) : AskRel a c where
  frame := by rw [k.frame, h.frame]
  quiet := h.quiet.trans k.quiet

theorem AskRel.foldl {α : Type} {f : Dev → α → Dev} (h : ∀ d x, AskRel d (f d x)) (l : List α) (d : Dev) : AskRel d (l.foldl f d) := by
  induction l generalizing d with
  | nil => exact .refl d
  | cons x l ih => exact (h d x).trans (ih _)

theorem askToken_ask (d : Dev) (k who : Nat) : AskRel d (d.askToken k who) := by
  have hwant : AskRel d (d.wantToken k who) := by
    rw [wantToken_eq]
    exact ⟨rfl, .aside rfl rfl rfl (List.suffix_refl _)⟩
  have hgrant := askToken_grant d k who
  exact hwant.trans ⟨by rw [hgrant.frame], hgrant.quiet⟩

theorem wakePorts_ask (d : Dev) (e : Dep) : AskRel d (d.wakePorts e) := by
  unfold Dev.wakePorts
  split
  · exact .refl d
  · exact .foldl (fun d n => askToken_ask d 2 n) _ d

theorem mirror_quiet (d : Dev) (i : Item) : QuietSend d (d.mirror i) := by
  rw [mirror_frame]
  exact .aside rfl rfl rfl (List.suffix_refl _)

/-- The device after a line of a departure has been staged. -/
structure StageRel (d e : Dev) : Prop where
  frame : e = { d with regs := e.regs, clk := e.clk, pwr := e.pwr, pur := e.pur, ports := e.ports, tw := e.tw, mps := e.mps,
                       sent := e.sent, free := e.free, twn := e.twn, dep := e.dep }
  twn : e.twn = { d.twn with items := e.twn.items, lines := e.twn.lines }
  quiet : QuietSend d e

/-- A line staged stands behind those that the departure holds. -/
theorem stageLine_effect {d : Dev} {e x : Dep} (b : Boarded) (hx : d.dep? e.idx = some x) :
    StageRel d (d.stageLine e b) ∧ ((d.stageLine e b).dep? e.idx).map (·.boarded) = some (e.boarded ++ [b]) := by
  unfold Dev.stageLine
  dsimp only
  have hask : AskRel d (if e.boarded.isEmpty then d.wakePorts e else d) := by
    split
    · exact wakePorts_ask d e
    · exact .refl d
  generalize (if e.boarded.isEmpty then d.wakePorts e else d) = y at hask ⊢
  have hrel : StageRel d (y.mirror (.boarded e.idx b)) := by
    refine ⟨?_, ?_, hask.quiet.trans (mirror_quiet y _)⟩
    · rw [mirror_frame, hask.frame]
    · rw [mirror_frame, hask.frame]
  have hfind : (y.mirror (.boarded e.idx b)).dep? e.idx = some x := by
    rw [Dev.dep?, Dev.mirror_dep, hask.frame]
    exact hx
  generalize y.mirror (.boarded e.idx b) = z at hrel hfind ⊢
  generalize he : ({ e with boarded := _, phase := _, waits := _ } : Dep) = f
  have hidx : f.idx = e.idx := by rw [← he]
  have hboarded : f.boarded = e.boarded ++ [b] := by rw [← he]
  have hput : (z.putDep f).dep? e.idx = some f := by
    rw [← hidx] at hfind ⊢
    exact (putDep_solo_same hfind).1
  have hset : ∀ (w : Dev) (g : Dep), StageRel d w → StageRel d (w.putDep g) := fun w g hw => by
    refine ⟨?_, hw.twn, hw.quiet.trans (.aside rfl rfl rfl (List.suffix_refl _))⟩
    conv_lhs => rw [Dev.putDep, Dev.setDeps, hw.frame]
    rfl
  unfold Dev.stagedNow
  split
  · refine ⟨hset _ _ (hset _ _ hrel), ?_⟩
    have hagain := (putDep_solo_same (d := z.putDep f) (e := { f with quiet := f.ports, qat := (z.putDep f).bel.now }) (x := f)
      (by rw [← hput, ← hidx])).1
    rw [← hidx, hagain, ← hboarded]
    rfl
  · exact ⟨hset _ _ hrel, by rw [hput, ← hboarded]; rfl⟩

theorem badLine_frame (d : Dev) (e : Dep) (b : Boarded) : d.badLine e b = { d with regs := (d.badLine e b).regs, que := (d.badLine e b).que } := by
  unfold Dev.badLine
  dsimp only
  generalize hx : d.bumpSat R.DEP_BADLINE_CNT.BAD (if b.st = .ok then 0 else 1) = x
  have hxd : x = { d with regs := x.regs, que := x.que } := by rw [← hx]; rfl
  split
  · exact hxd
  · rw [hxd]
    rfl
  · have hreport := (report_record x R.DEP_EVT.LINE_BAD e.idx b.idx ((e.line + b.idx) * 128) e.dtag).frame
    rw [hreport, hxd]

/-- A line boarded at a manager with no worker to tell of it. -/
theorem boardLine_manager {d : Dev} {e : Dep} {idx : Nat} {k : Nat} (st : LineSt) (p : Payload) (hr : d.gcr.role = .manager)
    (hx : d.dep? idx = some e) (hh : e.has k = false) (hk : k < e.count) (ha : e.accepted = []) :
    ((d.boardLine idx (e.line + k) st p).dep? idx).map (·.boarded) =
      some (e.boarded ++ [⟨k, st, ⟨p.data, p.psn || st == .fail⟩⟩]) ∧
    (d.boardLine idx (e.line + k) st p).hdc = d.hdc ∧ (d.boardLine idx (e.line + k) st p).sdr = d.sdr ∧
    (d.boardLine idx (e.line + k) st p).store = d.store := by
  have hidx := (dep?_mem hx).2
  unfold Dev.boardLine
  rw [hx]
  dsimp only
  rw [show e.line + k - e.line = k by omega, if_neg (by rw [hh]; simp only [Bool.false_eq_true, or_false]; omega)]
  generalize hy : (d.pmu1 0x021).badLine e ⟨k, st, ⟨p.data, p.psn || st == .fail⟩⟩ = y
  have hyd : y = { d with regs := y.regs, que := y.que, pmu := y.pmu } := by
    rw [← hy, badLine_frame]
    rfl
  have hyrole : y.gcr.role = .manager := by rw [hyd]; exact hr
  have hto : e.accepted.filter (fun s => !y.portDead (y.slotPort s)) = [] := by rw [ha]; rfl
  rw [if_pos hyrole, hto]
  dsimp only [List.foldl_nil]
  have hyfind : y.dep? idx = some e := by rw [hyd]; exact hx
  generalize hf : ({ e with acks := _ } : Dep) = f
  have hfidx : f.idx = idx := by rw [← hf, ← hidx]
  have hfb : f.boarded = e.boarded := by rw [← hf]
  subst hfidx
  obtain ⟨hrel, hboard⟩ := stageLine_effect ⟨k, st, ⟨p.data, p.psn || st == .fail⟩⟩ (putDep_solo_same hyfind).1
  refine ⟨by rw [hboard, hfb], ?_, ?_, ?_⟩
  · rw [hrel.frame, hyd]
    rfl
  · rw [hrel.frame, hyd]
    rfl
  · rw [hrel.frame, hyd]
    rfl

/-! ## The transactions of a boarding read -/

theorem mapIf_txn_same (l : List Txn) (t : Txn) {x : Txn} (hx : l.find? (fun y => y.id == t.id) = some x) :
    (mapIf (fun y => y.id == t.id) (fun _ => t) l).find? (fun y => y.id == t.id) = some t := by
  unfold mapIf
  induction l with
  | nil => cases hx
  | cons y l ih =>
    by_cases hy : y.id = t.id
    · simp [hy]
    · rw [List.find?_cons_of_neg (by simp [hy])] at hx
      rw [List.map_cons, List.find?_cons_of_neg (by simp [hy]), ih hx]

/-- A transaction put is found. -/
theorem putTxn_txn {d : Dev} {t x : Txn} (hx : d.txn? t.id = some x) : (d.putTxn t).txn? t.id = some t := by
  rw [Dev.txn?, Dev.putTxn, Dev.mirror_cnf]
  exact mapIf_txn_same _ _ hx

/-- No transaction with a number still owes a line. -/
def Dev.settled (d : Dev) (id line : Nat) : Prop := ∀ y ∈ d.cnf.txns, y.id = id → y.owed.contains line = false

theorem settled_of_txns {d e : Dev} {id line : Nat} (h : e.cnf.txns = d.cnf.txns) (hd : d.settled id line) : e.settled id line := by
  unfold Dev.settled
  rw [h]
  exact hd

theorem putTxn_settles (d : Dev) {t : Txn} {line : Nat} (h : t.owed.contains line = false) : (d.putTxn t).settled t.id line := by
  intro y hy hyid
  rw [Dev.putTxn, Dev.mirror_cnf] at hy
  obtain ⟨z, -, hz⟩ := List.mem_map.mp (show y ∈ (mapIf (fun x => x.id == t.id) (fun _ => t) d.cnf.txns) from hy)
  by_cases hzi : z.id = t.id
  · rw [if_pos (by simpa using hzi)] at hz
    rw [← hz]
    exact h
  · rw [if_neg (by simpa using hzi)] at hz
    exact absurd (hz ▸ hyid) hzi

/-- A change of a transaction that owes as before. -/
theorem putTxn_keeps {d : Dev} {t x : Txn} {id line : Nat} (hx : x ∈ d.cnf.txns) (hid : t.id = x.id) (ho : t.owed = x.owed)
    (hd : d.settled id line) : (d.putTxn t).settled id line := by
  intro y hy hyid
  rw [Dev.putTxn, Dev.mirror_cnf] at hy
  obtain ⟨z, hz, hzy⟩ := List.mem_map.mp (show y ∈ (mapIf (fun x => x.id == t.id) (fun _ => t) d.cnf.txns) from hy)
  by_cases hzi : z.id = t.id
  · rw [if_pos (by simpa using hzi)] at hzy
    have hty : t = y := hzy
    rw [← hty, ho]
    exact hd x hx (by rw [← hid, hty, hyid])
  · rw [if_neg (by simpa using hzi)] at hzy
    exact hd y (hzy ▸ hz) hyid

theorem uplinkPhase_cnf (d : Dev) (port tag : Nat) (tph again : Bool) : (d.uplinkPhase port tag tph again).2.cnf = d.cnf :=
  Dev.mirror_cnf ..

theorem memWrite_cnf (d : Dev) (line : Nat) (mask : Mask) (p : Payload) : (d.memWrite line mask p).cnf = d.cnf := by
  unfold Dev.memWrite
  split
  · rfl
  · dsimp only
    rw [Dev.mirror_cnf]
    split_ifs <;> rfl

theorem issueWrite_settled {d : Dev} {e : WbEnt} {id line : Nat} (hd : d.settled id line) : (d.issueWrite e).2.settled id line := by
  unfold Dev.issueWrite
  split
  · split
    · next t ht =>
      have hmem : t ∈ d.cnf.txns := by
        obtain ⟨howner, -⟩ := Option.filter_eq_some_iff.mp ht
        obtain ⟨i, -, hi⟩ := Option.bind_eq_some_iff.mp howner
        exact List.mem_of_find?_eq_some hi
      unfold Dev.issueAgent
      dsimp only
      refine settled_of_txns (tell_send _ _ _).txns ?_
      have hphase := uplinkPhase_cnf d (Txn.upTag t).1 (Txn.upTag t).2 t.tph false
      generalize d.uplinkPhase (Txn.upTag t).1 (Txn.upTag t).2 t.tph false = r at hphase ⊢
      exact settled_of_txns rfl (putTxn_keeps (d := r.2) (x := t) (by rw [hphase]; exact hmem) rfl rfl (settled_of_txns (by rw [hphase]) hd))
    · unfold Dev.issueOwn
      dsimp only
      have hphase := uplinkPhase_cnf d 30 ((d.ownTag e).getD 0) true false
      generalize d.uplinkPhase 30 ((d.ownTag e).getD 0) true false = r at hphase ⊢
      refine settled_of_txns (d := r.2) ?_ (settled_of_txns (by rw [hphase]) hd)
      unfold Dev.ownWrite
      exact (tell_send _ _ _).txns
  · split
    · exact hd
    · exact settled_of_txns (by rw [memWrite_cnf]) hd

theorem issueList_settled (l : List WbEnt) (busy : List Nat) (done : List WbEnt) {d : Dev} {id line : Nat} (hd : d.settled id line) :
    (Dev.issueList l busy done d).settled id line := by
  induction l generalizing busy done d with
  | nil => exact hd
  | cons e l ih =>
    unfold Dev.issueList
    split
    · exact ih _ _ hd
    · split
      · exact ih _ _ hd
      · exact ih _ _ (issueWrite_settled hd)

theorem wbForce_settled {d : Dev} {id line : Nat} (p : WbEnt → Bool) (hd : d.settled id line) : (d.wbForce p).settled id line :=
  issueList_settled _ _ _ hd

theorem upRequest_settles (d : Dev) {t : Txn} (k : Kind) (tkt : Option Nat) {line : Nat} (h : t.owed.contains line = false) :
    (d.upRequest t k tkt).settled t.id line := by
  unfold Dev.upRequest
  dsimp only
  refine settled_of_txns (tell_send _ _ _).txns ?_
  generalize d.uplinkPhase (Txn.upTag t).1 (Txn.upTag t).2 t.tph false = r
  exact settled_of_txns rfl (putTxn_settles r.2 (t := { t with phase := .uplink, up := some k, upTph := r.1 }) h)

theorem memRead_cnf (d : Dev) (line : Nat) : (d.memRead line).cnf = d.cnf := by
  unfold Dev.memRead
  dsimp only
  split_ifs <;> rfl

theorem askNext_settles (d : Dev) {t : Txn} {line : Nat} (h : t.owed.contains line = false) : (d.askNext t).settled t.id line := by
  unfold Dev.askNext
  split
  · exact upRequest_settles d _ none h
  · exact settled_of_txns (by rw [memRead_cnf]) (putTxn_settles d (t := { t with phase := .readMem }) h)

/-- A transaction that reads its line waits with what it owes. -/
theorem readSource_settles (d : Dev) (t : Txn) {line : Nat} (h : t.owed.contains line = false) (hnone : (d.readSource t).1 = none) :
    (d.readSource t).2.settled t.id line := by
  have hfar : ∀ x : Dev, (if x.wbPartial t.snooped then
      (none, (x.putTxn { t with phase := .waitWbf }).wbForce (fun e => e.line == t.snooped))
      else match x.wbFull t.snooped with
        | some e => (some e.pay, x)
        | none => (none, x.askNext t) : Option Payload × Dev).1 = none →
      (if x.wbPartial t.snooped then
      (none, (x.putTxn { t with phase := .waitWbf }).wbForce (fun e => e.line == t.snooped))
      else match x.wbFull t.snooped with
        | some e => (some e.pay, x)
        | none => (none, x.askNext t) : Option Payload × Dev).2.settled t.id line := by
    intro x
    split
    · exact fun _ => wbForce_settled _ (putTxn_settles x (t := { t with phase := .waitWbf }) h)
    · split
      · exact fun h => by cases h
      · exact fun _ => askNext_settles x h
  revert hnone
  unfold Dev.readSource
  dsimp only
  split
  · exact hfar d
  · exact fun h => by cases h
  · exact fun h => by cases h
  · split
    · split
      · exact fun h => by cases h
      · intro _
        unfold Dev.readHitLine
        exact putTxn_settles _ (t := { t with phase := .readLane, way := some _ }) h
    · exact hfar _

theorem boardLines_settles (d : Dev) {t : Txn} (l : Nat) {line : Nat} (h : t.owed.contains line = false) :
    (Dev.boardLines [l] t d).settled t.id line := by
  have hread := readSource_settles d { t with victim := some l, lines := [] } h
  unfold Dev.boardLines
  dsimp only
  generalize Dev.readSource d { t with victim := some l, lines := [] } = r at hread ⊢
  obtain ⟨p, e⟩ := r
  cases p with
  | none => exact hread rfl
  | some p =>
    dsimp only
    unfold Dev.boardLines
    dsimp only
    split
    · exact putTxn_settles _ (t := { t with victim := none, lines := [], phase := .done, await := [] }) h
    · exact putTxn_settles _ (t := { t with victim := none, lines := [], phase := .snooping }) h

/-- A boarding read whose line is found missing no longer owes it (R249). -/
theorem depBoardMiss_settles {d : Dev} {port idx line : Nat} {x : Txn} (hx : d.boardTxn port idx line = some x) (hv : x.victim = none) :
    (depBoardMiss port idx line d).settled x.id line := by
  unfold depBoardMiss
  rw [hx]
  dsimp only
  rw [hv, if_neg (by simp)]
  exact boardLines_settles d (t := { x with owed := x.owed.filter (· != line) }) line (by simp)

/-! ## The commands -/

theorem boardingStart_effect {d : Dev} {e : Dep} {idx id : Nat} (hr : d.gcr.role ≠ .manager) (hm : d.twn.mirror = false)
    (hx : d.dep? idx = some e) (hph : e.phase = .waiting) (hdue : d.boardDue e = true) (hc : e.count = 1) (hpool : d.cnf.pool = [])
    (hslot : d.slotsLeft ≠ 0) (hid : d.generalId = some id) (hactive : d.keyActive (d.key e.line) e.line = true)
    (hqueue : (d.queueOf (d.key e.line)).length < 8) (hstandby : d.standbyOf (d.key e.line) = []) :
    ((boardingStart idx d).dep? idx).map (·.phase) = some .boarding ∧
    ((boardingStart idx d).txn? id).map (fun x => (x.kind, x.aux, x.line, x.phase)) = some (.board, idx, e.line, .queued) := by
  have hidx := (dep?_mem hx).2
  generalize hf : ({ e with phase := .boarding } : Dep) = f
  have hfidx : f.idx = e.idx := by rw [← hf]
  have hfline : f.line = e.line := by rw [← hf]
  have hfc : f.count = 1 := by rw [← hf, ← hc]
  have hfph : f.phase = .boarding := by rw [← hf]
  have heq : boardingStart idx d = Dev.boardRead f (d.saveDep f) [e.line] := by
    have hreads : d.boardReads f = [[e.line]] := by
      rw [Dev.boardReads, if_neg hr, hfc, hfline]
      rfl
    unfold boardingStart
    rw [hx]
    dsimp only
    rw [if_pos (by simp [hph, hdue, hm]), Dev.startBoarding, hf, hreads]
    rfl
  generalize hy : d.saveDep f = y at heq
  have hyd : y = { d with dep := y.dep, twn := y.twn } := by
    rw [← hy, Dev.saveDep, mirror_frame]
    rfl
  have hyfind : y.dep? idx = some f := by
    rw [← hy, Dev.dep?, Dev.saveDep, Dev.mirror_dep, ← hidx, ← hfidx]
    exact (putDep_solo_same (by rw [hfidx, hidx]; exact hx)).1
  obtain ⟨hrel, htxn⟩ := issue_queued (d := y) (id := id)
    (t := { id := 0, kind := .board, org := .board f.idx, line := e.line, phase := .queued, aux := f.idx, lines := [],
            ch := e.line - f.line })
    (by rw [hyd]; exact hpool) (by rw [hyd]; exact hid)
    (by
      rw [Dev.engineSlot, hyd]
      exact Nat.ble_eq.mpr (Nat.pos_of_ne_zero hslot))
    rfl (by rw [hyd]; exact hactive) (by rw [hyd]; exact hqueue) (by rw [hyd]; exact hstandby) rfl
  rw [heq, Dev.boardRead, htxn]
  refine ⟨?_, by rw [← hidx, ← hfidx]; rfl⟩
  have hdep := (congrArg (·.dep) hrel.frame :)
  rw [Dev.dep?, hdep]
  show (y.dep? idx).map _ = _
  rw [hyfind, ← hfph]
  rfl

theorem depLineToWorker_effect {d : Dev} {e : Dep} {idx : Nat} (b : Boarded) (hw : d.gcr.role = .worker) (hst : d.twn.st = .single)
    (hm : d.twn.mirror = false) (hports : d.ports.length = 32) (hupl : d.hie.upl < 2) (hc : d.depC? idx = some e)
    (hx : d.dep? e.idx = some e) (hh : e.has b.idx = false) (hk : b.idx < e.count) :
    ((depLineToWorker d.hie.upl idx b d).dep? e.idx).map (·.boarded) = some (e.boarded ++ [b]) ∧
    (depLineToWorker d.hie.upl idx b d).told d d.uplink (.depAck idx b.idx) ∧ d.sent <:+ (depLineToWorker d.hie.upl idx b d).sent := by
  obtain ⟨hrel, hboard⟩ := stageLine_effect b hx
  have heq : depLineToWorker d.hie.upl idx b d = (d.stageLine e b).tell d.uplink (.depAck idx b.idx) := by
    have hup : (d.stageLine e b).uplink = d.uplink := by rw [Dev.uplink, Dev.uplink, hrel.frame]
    unfold depLineToWorker
    rw [if_neg (by simp [Dev.heeds, hw, hm]), hc]
    dsimp only
    rw [if_neg (by simp [hh, hk]), hup]
  rw [heq]
  refine ⟨?_, ?_, hrel.quiet.sent.trans (tell_grow _ _ _).sent⟩
  · rw [Dev.dep?, (tell_send _ _ _).dep, ← Dev.dep?, hboard]
  · refine hrel.quiet.grow.told_before (tell_grow _ _ _).sent (tell_told ?_ ?_ (.inr ?_))
    · rw [hrel.twn, hst]
      decide
    · rw [hrel.twn, hm]
    · rw [hrel.quiet.ports, hports, Dev.uplink]
      omega

/-- A record of a departure at a manager is the last of its queue. -/
theorem recordDep_last {d : Dev} (e : Dep) (o : DepOut) (hr : d.gcr.role = .manager) (hm : d.isMirror = false)
    (hq : d.que.q.length = 5) (hroom : (d.queue 1).recs.length < 1024) :
    ((d.recordDep e o).queue 1).recs = (d.queue 1).recs ++ [dlqWords e o] := by
  have hpush : ((d.push 1 (dlqWords e o)).queue 1).recs = (d.queue 1).recs ++ [dlqWords e o] := by
    unfold Dev.push
    dsimp only
    rw [if_neg (by simp [hm]), if_neg (by rw [show queueDepth 1 = 1024 from rfl]; omega), Dev.queue, Dev.raiseIf_que, Dev.setQueue]
    simp [hq]
  have hdrop : ∀ x : Dev, x.gcr.role = .manager → (x.dropDep e).que = x.que := by
    intro x hx
    unfold Dev.dropDep Dev.pumpDep
    dsimp only
    split
    · rfl
    · next hne => exact absurd hx hne
  have hque : (d.recordDep e o).que = ((d.push 1 (dlqWords e o)).dropDep e).que := Dev.mirror_que ..
  rw [← hpush, Dev.queue, Dev.queue, hque, hdrop _ (by rw [(push_record d 1 _).frame]; exact hr)]

theorem depAckAtManager_acked {d : Dev} {e : Dep} {port idx lidx : Nat} (hr : d.gcr.role = .manager) (hm : d.twn.mirror = false)
    (hx : d.dep? idx = some e) (ha : e.acks = [(port / 2, lidx)]) :
    ∃ x : Dev, x = { d with dep := x.dep, twn := x.twn } ∧ x.twn.mirror = d.twn.mirror ∧ x.dep? idx = some { e with acks := [] } ∧
      depAckAtManager port idx lidx d = x.managerDone { e with acks := [] } := by
  have hidx := (dep?_mem hx).2
  refine ⟨d.saveDep { e with acks := [] }, ?_, ?_, ?_, ?_⟩
  · rw [Dev.saveDep, mirror_frame]
    rfl
  · rw [Dev.saveDep, mirror_frame]
    rfl
  · rw [Dev.dep?, Dev.saveDep, Dev.mirror_dep, ← hidx]
    exact (putDep_solo_same (e := { e with acks := [] }) (by rw [hidx]; exact hx)).1
  · unfold depAckAtManager
    rw [if_neg (by simp [hr, hm]), hx]
    dsimp only
    rw [if_pos (by simp [ha])]
    have hfilter : e.acks.filter (· != (port / 2, lidx)) = [] := by simp [ha]
    rw [hfilter]

/-- Settles O44: a boarding read is issued, a missing or a delivered line is staged or no longer owed, and the last acknowledgement
records the departure. -/
theorem boardingCommands : Obligations.BoardingCommands := by
  refine ⟨?_, ?_, ?_, ?_, ?_, ?_, ?_⟩
  · intro idx id e s ha hr hm hx hph hdue hc hpool hslot hid hactive hqueue hstandby
    refine ⟨_, onCore_runs ha _, ?_⟩
    rw [State.setDev_dev, Dev.dep?, settle_dep, ← Dev.dep?, Dev.txn?, settle_cnf, ← Dev.txn?]
    exact boardingStart_effect hr hm hx hph hdue hc hpool hslot hid hactive hqueue hstandby
  · intro port idx line x s ha hx ht hv
    refine ⟨_, onCore_runs ha _, ?_⟩
    rw [State.setDev_dev, Dev.txn?, settle_cnf, ← Dev.txn?]
    unfold depBoardMiss
    rw [hx]
    dsimp only
    rw [if_pos hv]
    exact putTxn_txn (t := { x with owed := x.owed.filter (· != line), lines := x.lines ++ [line] }) ht
  · intro port idx line x s ha hx ht hv
    have hsettles := depBoardMiss_settles hx hv
    refine ⟨_, onCore_runs ha _, ?_⟩
    rw [State.setDev_dev, Dev.txn?, settle_cnf, ← Dev.txn?]
    cases hf : (depBoardMiss port idx line s.dev).txn? x.id with
    | none => rfl
    | some y =>
      have hy := hsettles y (List.mem_of_find?_eq_some hf) (by simpa using List.find?_some hf)
      rw [Option.all_some, hy]
      rfl
  · intro port idx b x e s hman hx hh hk hacc hfind haux hline
    simp only [Dev.manager, Bool.and_eq_true, beq_iff_eq, Bool.not_eq_true'] at hman
    obtain ⟨⟨⟨⟨⟨hrun, hr⟩, -⟩, -⟩, -⟩, -⟩ := hman
    refine ⟨_, onCore_runs hrun _, ?_⟩
    rw [State.setDev_dev, Dev.dep?, settle_dep, ← Dev.dep?, settle_hdc, settle_sdr, settle_store]
    unfold depLineFromWorker
    rw [hfind]
    dsimp only
    rw [hline, haux]
    have hput : s.dev.putTxn (boardAnswered x (e.line + b.idx)) = { s.dev with
        cnf := (s.dev.putTxn (boardAnswered x (e.line + b.idx))).cnf, twn := (s.dev.putTxn (boardAnswered x (e.line + b.idx))).twn } := by
      rw [Dev.putTxn, mirror_frame]
      rfl
    generalize s.dev.putTxn (boardAnswered x (e.line + b.idx)) = y at hput ⊢
    obtain ⟨hboard, hhdc, hsdr, hstore⟩ := boardLine_manager (d := y) b.st b.pay (by rw [hput]; exact hr) (by rw [hput]; exact hx) hh hk hacc
    exact ⟨hboard, by rw [hhdc, hput], by rw [hsdr, hput], by rw [hstore, hput]⟩
  · intro uplink idx b e s hwork hup hc hx hh hk
    simp only [Dev.worker, Bool.and_eq_true, beq_iff_eq, Bool.not_eq_true', decide_eq_true_eq] at hwork
    obtain ⟨⟨⟨⟨⟨⟨hrun, hw⟩, -⟩, hst⟩, hm⟩, hports⟩, hupl⟩ := hwork
    subst hup
    obtain ⟨hboard, htold, hsent⟩ := depLineToWorker_effect b hw hst hm hports hupl hc hx hh hk
    refine ⟨_, onCore_runs hrun _, ?_⟩
    rw [State.setDev_dev, Dev.dep?, settle_dep, ← Dev.dep?]
    exact ⟨hboard, (settle_grow _).told hsent htold⟩
  · intro port idx lidx e s hman hx ha hb hi hbell hq hroom
    simp only [Dev.manager, Bool.and_eq_true, beq_iff_eq, Bool.not_eq_true'] at hman
    obtain ⟨⟨⟨⟨⟨hrun, hr⟩, -⟩, hst⟩, hm⟩, -⟩ := hman
    obtain ⟨x, hxd, hmirror, hfind, heq⟩ := depAckAtManager_acked hr hm hx ha
    have hdone : x.managerDone { e with acks := [] } = x.recordDep { e with acks := [] } .onTime := by
      have hpast : x.bellPast e.t = false := by rw [hxd]; exact hbell
      unfold Dev.managerDone
      rw [if_neg (by simp [hb]), if_neg (by simp [hi]), if_neg (by simp [hpast])]
    refine ⟨_, onCore_runs hrun _, ?_⟩
    rw [State.setDev_dev, Dev.dep?, settle_dep, ← Dev.dep?, settle_queue, heq, hdone]
    have hidx := (dep?_mem hx).2
    refine ⟨by rw [← hidx]; exact (recordDep_solo_same x { e with acks := [] } _).1, ?_⟩
    rw [recordDep_last _ _ (by rw [hxd]; exact hr) (by rw [Dev.isMirror, hmirror, hm]; rfl) (by rw [hxd]; exact hq)
      (by rw [hxd]; exact hroom), hxd]
    rfl
  · intro port idx lidx e s hman hx ha hb
    simp only [Dev.manager, Bool.and_eq_true, beq_iff_eq, Bool.not_eq_true'] at hman
    obtain ⟨⟨⟨⟨⟨hrun, hr⟩, -⟩, hst⟩, hm⟩, -⟩ := hman
    obtain ⟨x, hxd, hmirror, hfind, heq⟩ := depAckAtManager_acked hr hm hx ha
    have hwait : x.managerDone { e with acks := [] } = x := by
      unfold Dev.managerDone
      exact if_pos (.inl (Nat.ne_of_lt hb))
    refine ⟨_, onCore_runs hrun _, ?_⟩
    rw [State.setDev_dev, Dev.dep?, settle_dep, ← Dev.dep?, heq, hwait, hfind]
    rfl

end Sys2Proof.Machine
end

section
/-! THEOREM. A memory port that waits for a token while the wake from Doze ends (R438, R445, R448). -/

namespace Sys2Proof.Machine

set_option Elab.async false

/-- A device whose wake from Doze is about to end: memory port 0 is READY but still waits for a token, the link of agent port 0 is in LP,
set 0 is quarantined, and a Depart of line 0 for port 0 was held when requests stopped. -/
def wakingDev : Dev :=
  { ((((cacheDev.set (portEN 0) 1).set depEN 1).set (R.DEP_MANm.PORTS 0) 1).set R.AMP_MEM_CFG.PORT_EN 1).set R.AMP_MEM_CAP.CAP 1 with
    bel := { locked := true, aligned := true }
    pwr := { doze := some { waking := true, wakeStep := 3 } }
    pur := { waiting := [(2, mpTokenBase)] }
    pip := { stopped := true, quar := [0] }
    ports := { st := 4 } :: List.replicate 31 {}
    mps := { st := 3 } :: List.replicate 7 {}
    dep := { held := [⟨{ port := 0, tag := 0, tph := false, addr := 0, widx := 0, oport := 0 }, 1, 0, 0, 0, 0, 0⟩] } }

theorem wakingDev_ready :
    wakingDev.runs = true ∧ wakingDev.dozeReady { waking := true, wakeStep := 3 } = true ∧ wakingDev.mpsReady = true := by
  decide +kernel

/-- The line boards at once, the port's link leaves LP, and the token granted with its own trains memory port 0 again. -/
theorem wakingDev_dozes : (dozeOut wakingDev).pwr.doze ≠ none := by decide +kernel

/-- Refutes O16 in its seventh clause: it asks that the memory ports are READY before DOZE_OUT, but the requests that flow again can
have a waiting memory port given its token (R438), which trains it anew: ACTIVE stays 1. -/
theorem not_dozeCommands : ¬ Obligations.DozeCommands := by
  unfold Obligations.DozeCommands
  rintro ⟨-, -, -, -, -, -, hout⟩
  obtain ⟨hruns, hready, hmps⟩ := wakingDev_ready
  obtain ⟨t, hrun, hdoze, -⟩ := hout { waking := true, wakeStep := 3 } { dev := wakingDev } hruns rfl rfl hready hmps
  rw [exec_dozeOut, onCore_runs hruns] at hrun
  obtain rfl := Host.Outcome.next.inj hrun
  rw [State.setDev_dev, settle_pwr] at hdoze
  exact wakingDev_dozes hdoze

end Sys2Proof.Machine
end

section
/-! THEOREM. A request at an idle line opens its transaction; ownership snoops the holder or is granted at once (R49, R50, R92,
R110). -/

namespace Sys2Proof.Machine

set_option Elab.async false

/-! ## A request taken at an idle line -/

/-- The device with a port served in the cycle. -/
def Dev.served (d : Dev) (port : Nat) : Dev :=
  { d with cnf := { d.cnf with took := d.cnf.took ++ [port], stuck := d.cnf.stuck.filter (· != port) } }

/-- The transaction that a request opens, in its line's queue. -/
def Dev.joining (d : Dev) (r : Req) (id : Nat) : Txn :=
  { d.txnOf r with id := id, ord := d.cnf.ord, pol := d.policy (d.txnOf r).line }

/-- The device with the transaction of a request in its line's queue. -/
def Dev.joined (d : Dev) (r : Req) (id : Nat) : Dev :=
  ((d.served r.head.port).reqSlot 0x004 { d.txnOf r with id := id } r.head.port).addTxn { d.txnOf r with id := id }

/-- The transaction that a request opens, active in the pipeline. -/
def Dev.opening (d : Dev) (r : Req) (id : Nat) : Txn := { d.joining r id with phase := .snooping }

/-- The device with the transaction of a request in the pipeline. -/
def Dev.entered (d : Dev) (r : Req) (id : Nat) : Dev := (d.joined r id).putTxn (d.opening r id)

/-- A request taken at an idle line. -/
structure Dev.Enters (d : Dev) (h : Head) (b : Body) (id : Nat) : Prop where
  plain : d.plain = true
  port : h.port < 32
  waiting : d.cnf.waiting.any (fun x => x.head.port == h.port) = false
  slot : d.slotFor h.port = true
  refusal : d.refusal ⟨h, b, none⟩ = none
  resent : d.resentRequest (d.txnOf ⟨h, b, none⟩) = none
  free : d.generalId = some id
  key : d.onKey (lineOf h.addr) = []
  active : d.keyActive (lineOf h.addr) (lineOf h.addr) = false
  unsent : d.twn.unsent.contains id = false
  header : d.hdrBlocked (d.setOf (lineOf h.addr)) = none
  dir : (d.dirFind (lineOf h.addr)).isSome = true ∨ (d.freeDirWay (lineOf h.addr)).isSome = true

theorem takesNow_iff {d : Dev} {h : Head} {b : Body} {id : Nat} (ht : d.takesNow h b id = true) : d.Enters h b id := by
  simp only [Dev.takesNow, Bool.and_eq_true, Bool.not_eq_true', Option.isNone_iff_eq_none, List.isEmpty_iff, beq_iff_eq,
    decide_eq_true_eq, Bool.or_eq_true] at ht
  obtain ⟨⟨⟨⟨⟨⟨⟨⟨⟨⟨⟨⟨hplain, hport⟩, -⟩, hwait⟩, hslot⟩, href⟩, hres⟩, hid⟩, hkey⟩, hact⟩, huns⟩, hhdr⟩, hdir⟩ := ht
  exact ⟨hplain, hport, hwait, hslot, href, hres, hid, hkey, hact, huns, hhdr, hdir⟩

/-- A device alone that serves. -/
structure Dev.Alone (d : Dev) : Prop where
  runs : d.runs = true
  role : d.gcr.role = .standalone
  mode : d.gcr.mode.serving = true
  st : d.twn.st = .single
  mirror : d.twn.mirror = false
  ports : d.ports.length = 32

theorem plain_iff {d : Dev} : d.plain = true ↔ d.Alone := by
  simp only [Dev.plain, Bool.and_eq_true, beq_iff_eq, Bool.not_eq_true']
  exact ⟨fun ⟨⟨⟨⟨⟨a, b⟩, c⟩, e⟩, f⟩, g⟩ => ⟨a, b, c, e, f, g⟩, fun ⟨a, b, c, e, f, g⟩ => ⟨⟨⟨⟨⟨a, b⟩, c⟩, e⟩, f⟩, g⟩⟩

theorem mirror_alone {d : Dev} (h : d.twn.st = .single) (i : Item) : d.mirror i = d := by
  unfold Dev.mirror
  rw [if_neg]
  simp [Dev.mirrors, h]

theorem txnOf_line {d : Dev} {h : Head} {b : Body} {tkt : Option Nat} (hb : b.kind ≠ .append) :
    (d.txnOf ⟨h, b, tkt⟩).line = lineOf h.addr := by
  cases b with
  | append => exact absurd rfl hb
  | _ => rfl

theorem txnOf_queued (d : Dev) (r : Req) : (d.txnOf r).phase = .queued := by
  unfold Dev.txnOf
  split <;> rfl

theorem txnOf_kind (d : Dev) (r : Req) : (d.txnOf r).kind = r.body.kind := by
  unfold Dev.txnOf
  cases hb : r.body <;> rfl

theorem txnOf_victim (d : Dev) (r : Req) : (d.txnOf r).victim = none := by
  unfold Dev.txnOf
  cases hb : r.body <;> rfl

theorem txnOf_tag (d : Dev) (r : Req) : (d.txnOf r).tag = r.head.tag := by
  unfold Dev.txnOf
  cases hb : r.body <;> rfl

theorem txnOf_org {d : Dev} (hr : d.gcr.role = .standalone) (r : Req) : (d.txnOf r).org = .agent r.head.port := by
  have horg : d.orgOf r.head = .agent r.head.port := if_neg (by rw [hr]; decide)
  rw [← horg]
  unfold Dev.txnOf
  cases hb : r.body <;> rfl

/-- When no request is a resent one. -/
theorem resentRequest_none {d : Dev} {t : Txn} : d.resentRequest t = none ↔ d.inWindow t.org = false ∨
    d.cnf.txns.find? (fun x => sameRequester x.org t.org && x.tag == t.tag && x.tph == t.tph && x.line == t.line) = none ∧
    ∀ e, newestLog d.twn.log t.org t.tag = some e → ¬ (e.tph == t.tph && e.line == ticketKey t && e.kind == t.kind) = true := by
  unfold Dev.resentRequest
  cases hw : d.inWindow t.org with
  | false => simp
  | true =>
    cases hf : d.cnf.txns.find? (fun x => sameRequester x.org t.org && x.tag == t.tag && x.tph == t.tph && x.line == t.line) with
    | some x => simp
    | none =>
      cases hl : newestLog d.twn.log t.org t.tag with
      | none => simp
      | some e => simp

theorem resentRequest_served {d : Dev} {t : Txn} (port : Nat) (h : d.resentRequest t = none) :
    (d.served port).resentRequest t = none :=
  resentRequest_none.mpr (resentRequest_none.mp h :)

/-- The device after a request has been taken, with the request's credit back. -/
def Dev.credited (d : Dev) (port : Nat) : Dev := if d.cnf.stuck.contains port then d else d.returnReq port

theorem credited_send (d : Dev) (port : Nat) : SendRel d (d.credited port) := by
  unfold Dev.credited
  split
  · exact .refl d
  · exact returnReq_send d port

theorem credited_quiet (d : Dev) (port : Nat) : QuietSend d (d.credited port) := by
  unfold Dev.credited
  split
  · exact .refl d
  · exact returnReq_quiet d port

/-- A transaction alone on its line goes on. -/
theorem promote_first {d : Dev} {t : Txn} {id k : Nat} (ht : d.txn? id = some t) (hp : t.phase = .queued) (hm : t.ofManager = false)
    (hk : d.key t.line = k) (hon : d.onKey k = [t]) (hid : t.id = id) (ha : d.keyActive k t.line = false)
    (hw : d.mustWait t = false) (hb : d.heldBack t = false) :
    d.promote id = ((d.putTxn { t with phase := .snooping }).activate { t with phase := .snooping }).fillPlace k := by
  unfold Dev.promote
  rw [ht]
  dsimp only
  rw [if_neg (by rw [hp]; decide), if_neg (by rw [hm]; decide), if_pos, hk]
  simp [Dev.queueOf, hk, hon, hp, hid, ha, hw, hb]

/-- A line is as busy as before when a queued transaction has come to the table. -/
theorem keyActive_queued {d e : Dev} {t : Txn} {k line : Nat} (hr : e.gcr.role = d.gcr.role) (ht : e.cnf.txns = d.cnf.txns ++ [t])
    (hp : t.phase = .queued) (hm : t.ofManager = false) (hs : e.scb = d.scb) (hv : e.victimHeld line = d.victimHeld line) :
    e.keyActive k line = d.keyActive k line := by
  have hkey : ∀ l, e.key l = d.key l := fun l => by rw [Dev.key, Dev.key, hr]
  simp [Dev.keyActive, ht, hkey, hs, hv, hp, hm, Phase.active, show (Phase.queued == .backInv) = false from rfl]

/-- The number of the transaction is none of those in the table. -/
theorem enters_fresh {d : Dev} {id : Nat} (hid : d.generalId = some id) : ∀ y ∈ d.cnf.txns, ¬ (y.id == id) = true := by
  intro y hy hyid
  have hmem : (d.cnf.txns.map (·.id)).contains id = true := by
    rw [List.contains_iff_mem]
    exact List.mem_map.mpr ⟨y, hy, by simpa using hyid⟩
  rw [freeFrom_free hid] at hmem
  exact Bool.false_ne_true hmem

theorem joined_table (d : Dev) (r : Req) (id : Nat) : (d.joined r id).cnf.txns = d.cnf.txns ++ [d.joining r id] := by
  rw [Dev.joined, addTxn_cnf]
  rfl

theorem joined_issue (d : Dev) (r : Req) (id : Nat) : IssueRel (d.served r.head.port) (d.joined r id) := by
  have hslot : IssueRel (d.served r.head.port) ((d.served r.head.port).reqSlot 0x004 { d.txnOf r with id := id } r.head.port) :=
    ⟨rfl, rfl, rfl, fun _ _ => rfl⟩
  exact hslot.trans (addTxn_issue _ _)

theorem entered_table {d : Dev} {id : Nat} {r : Req} (hid : d.generalId = some id) :
    (d.entered r id).cnf.txns = d.cnf.txns ++ [d.opening r id] := by
  have hold : (mapIf (fun x => x.id == id) (fun _ => d.opening r id) d.cnf.txns) = d.cnf.txns :=
    (List.map_congr_left fun y hy => if_neg (enters_fresh hid y hy)).trans (List.map_id _)
  have htab : mapIf (fun x => x.id == id) (fun _ => d.opening r id) (d.joined r id).cnf.txns =
      d.cnf.txns ++ [d.opening r id] := by
    rw [joined_table, mapIf, List.map_append, ← mapIf, hold]
    simp [Dev.joining, Dev.opening]
  rw [Dev.entered, Dev.putTxn, mirror_frame]
  exact htab

theorem entered_issue (d : Dev) (r : Req) (id : Nat) : IssueRel (d.served r.head.port) (d.entered r id) := by
  have hset : ∀ (e : Dev) l, IssueRel e (e.setTxns l) := fun e l => ⟨rfl, rfl, rfl, fun _ _ => rfl⟩
  exact ((joined_issue d r id).trans (hset _ _)).trans (mirror_issue _ _)

section
variable {d : Dev} {h : Head} {b : Body} {id : Nat} (ht : d.Enters h b id) (hb : b.kind ≠ .append)
include ht hb

theorem dirHeldUp_enters : (d.served h.port).dirHeldUp { d.txnOf ⟨h, b, none⟩ with id := id } = false := by
  have hfull : (d.served h.port).dirFull (d.txnOf ⟨h, b, none⟩).line = false := by
    rw [txnOf_line hb]
    change d.dirFull (lineOf h.addr) = false
    unfold Dev.dirFull
    rcases ht.dir with hd | hd
    · rw [Option.isNone_eq_false_iff.mpr hd, Bool.false_and, Bool.false_and]
    · rw [Option.isNone_eq_false_iff.mpr hd, Bool.and_false, Bool.false_and]
  rw [Dev.dirHeldUp, hfull, Bool.and_false]

theorem take_enters : (d.served h.port).take ⟨h, b, none⟩ = (d.joined ⟨h, b, none⟩ id).promote id := by
  have hkey : (d.served h.port).key (d.txnOf ⟨h, b, none⟩).line = lineOf h.addr := by
    rw [txnOf_line hb]
    exact if_neg (by rw [show (d.served h.port).gcr = d.gcr from rfl, (plain_iff.mp ht.plain).role]; decide)
  have hon : (d.served h.port).onKey (lineOf h.addr) = [] := ht.key
  have hq : (d.served h.port).queueOf (lineOf h.addr) = [] := by rw [Dev.queueOf, hon]; rfl
  have hs : (d.served h.port).standbyOf (lineOf h.addr) = [] := by rw [Dev.standbyOf, hon]; rfl
  have hroom : ¬ (8 ≤ ((d.served h.port).queueOf (lineOf h.addr)).length ||
      !((d.served h.port).standbyOf (lineOf h.addr)).isEmpty) = true := by simp [hq, hs]
  have hkind : (d.txnOf ⟨h, b, none⟩).kind ≠ .append := by
    rw [txnOf_kind]
    exact hb
  have hnew : (d.served h.port).admitNew ⟨h, b, none⟩ (d.txnOf ⟨h, b, none⟩) =
      (d.joined ⟨h, b, none⟩ id).promote id := by
    unfold Dev.admitNew
    rw [show Dev.generalId (d.served h.port) = some id from ht.free]
    dsimp only
    rw [hkey, if_neg hkind, if_neg hroom]
    exact if_neg (by simp [dirHeldUp_enters ht hb])
  unfold Dev.take
  rw [show (d.served h.port).refusal ⟨h, b, none⟩ = none from ht.refusal]
  dsimp only
  rw [show (d.served h.port).txnOf ⟨h, b, none⟩ = d.txnOf ⟨h, b, none⟩ from rfl, resentRequest_served h.port ht.resent]
  exact hnew

/-- The transaction goes on in the pipeline at once. -/
theorem promote_enters : (d.joined ⟨h, b, none⟩ id).promote id =
    ((d.entered ⟨h, b, none⟩ id).activate (d.opening ⟨h, b, none⟩ id)).fillPlace (lineOf h.addr) := by
  have hissue := joined_issue d ⟨h, b, none⟩ id
  have htable := joined_table d ⟨h, b, none⟩ id
  generalize hu : d.joining ⟨h, b, none⟩ id = u at htable
  have hline : u.line = lineOf h.addr := by rw [← hu]; exact txnOf_line hb
  have hqueued : u.phase = .queued := by rw [← hu]; exact txnOf_queued d _
  have hnum : u.id = id := by rw [← hu]; rfl
  have hkind : u.kind = b.kind := by rw [← hu]; exact txnOf_kind d _
  have halone := plain_iff.mp ht.plain
  have horg : u.org = .agent h.port := by
    rw [← hu]
    exact txnOf_org halone.role _
  have hman : u.ofManager = false := by rw [Txn.ofManager, horg]
  have hkey : ∀ l, (d.joined ⟨h, b, none⟩ id).key l = l := fun l =>
    if_neg (by rw [hissue.role, show (d.served h.port).gcr = d.gcr from rfl, halone.role]; decide)
  have hon : (d.joined ⟨h, b, none⟩ id).onKey (lineOf h.addr) = [u] := by
    have hold : (d.cnf.txns.filter fun y => (d.joined ⟨h, b, none⟩ id).key y.line == lineOf h.addr) = [] := by
      rw [← ht.key, Dev.onKey]
      exact congrArg (d.cnf.txns.filter ·) (funext fun y => by rw [hkey, Dev.key, if_neg (by rw [halone.role]; decide)])
    rw [Dev.onKey, htable, List.filter_append, hold]
    simp [hkey, hline]
  have htxn : (d.joined ⟨h, b, none⟩ id).txn? id = some u := by
    have hfree : d.cnf.txns.find? (fun y => y.id == id) = none := List.find?_eq_none.mpr (enters_fresh ht.free)
    rw [Dev.txn?, htable]
    simp [hfree, hnum]
  have hactive : (d.joined ⟨h, b, none⟩ id).keyActive (lineOf h.addr) (lineOf h.addr) = false := by
    rw [keyActive_queued hissue.role htable hqueued hman (by rw [hissue.frame])
      (victimHeld_congr hissue.config hissue.role (by rw [hissue.frame]) (by rw [hissue.frame]) (by rw [hissue.frame]) _)]
    exact ht.active
  have hwait : (d.joined ⟨h, b, none⟩ id).mustWait u = false := by
    rw [Dev.mustWait, hnum, hissue.twn]
    exact ht.unsent
  have hback : (d.joined ⟨h, b, none⟩ id).heldBack u = false := by
    rw [Dev.heldBack, hkind]
    cases b <;> rfl
  have hgo := promote_first htxn hqueued hman ((hkey _).trans hline) hon hnum (by rw [hline, hactive]) hwait hback
  rw [hgo, Dev.entered, Dev.opening, hu]

theorem arrive_enters : arrive false ⟨h, b, none⟩ d =
    (((d.entered ⟨h, b, none⟩ id).activate (d.opening ⟨h, b, none⟩ id)).fillPlace (lineOf h.addr)).credited h.port := by
  unfold arrive
  rw [if_neg (by rw [(plain_iff.mp ht.plain).mirror]; decide), if_neg (by simp [ht.waiting, ht.slot])]
  have htake := (take_enters ht hb).trans (promote_enters ht hb)
  rw [← htake]
  rfl

end

theorem entered_setOf (d : Dev) (r : Req) (id l : Nat) : (d.entered r id).setOf l = d.setOf l :=
  have hissue := entered_issue d r id
  hissue.config.setOf hissue.role l

/-! ## Its header is fetched -/

/-- A line's place is filled only by what waits for it. -/
theorem fillPlace_idle {d : Dev} {k : Nat} (h : ∀ y ∈ d.onKey k, y.phase ≠ .standby ∧ y.phase ≠ .waitPlace) : d.fillPlace k = d := by
  have hstandby : d.standbyOf k = [] := List.filter_eq_nil_iff.mpr fun y hy => by simp [(h y hy).1]
  have hwait : (d.onKey k).filter (fun t => t.phase == .waitPlace) = [] := List.filter_eq_nil_iff.mpr fun y hy => by simp [(h y hy).2]
  unfold Dev.fillPlace
  rw [hstandby, Dev.nextEngine, hwait]
  split <;> rfl

/-- The device after headers have begun to be fetched. -/
structure FetchRel (d e : Dev) : Prop where
  access : AccessRel { d with hdc := e.hdc } e
  fetch : ∀ n ∈ d.hdc.fetch, n ∈ e.hdc.fetch

theorem AccessRel.withHdc {d e : Dev} (h : AccessRel d e) (x : Hdc) : AccessRel { d with hdc := x } { e with hdc := x } :=
  ⟨by rw [h.frame], h.gcr, h.pwr, h.evc, h.pip, h.twn, h.dsc, h.sent, h.pur, h.config⟩

theorem AccessRel.fetching {d e : Dev} (h : AccessRel d e) : FetchRel d e :=
  have hhdc : e.hdc = d.hdc := by rw [h.frame]
  ⟨by rw [hhdc]; exact h, fun _ hn => by rw [hhdc]; exact hn⟩

theorem FetchRel.trans {a b c : Dev} (h : FetchRel a b) (k : FetchRel b c) : FetchRel a c :=
  ⟨(h.access.withHdc c.hdc).trans k.access, fun n hn => k.fetch n (h.fetch n hn)⟩

theorem FetchRel.refl (d : Dev) : FetchRel d d := (AccessRel.refl d).fetching

theorem FetchRel.sent {d e : Dev} (h : FetchRel d e) : d.sent <:+ e.sent := h.access.sent

theorem FetchRel.cnf {d e : Dev} (h : FetchRel d e) : e.cnf = d.cnf := by rw [h.access.frame]

theorem makeRoom_fetching {d e : Dev} {set : Nat} {prefetch : Bool} (h : d.makeRoom set prefetch = some e) : FetchRel d e := by
  unfold Dev.makeRoom at h
  dsimp only at h
  split at h
  · cases h
    exact .refl d
  · split at h
    · cases h
    · next v _ =>
      split at h
      · cases h
      · have hput : ∀ (x : Dev) l, FetchRel x (x.setHdc l) := fun x l => ⟨.refl _, fun _ hn => hn⟩
        cases h
        split
        · exact (laneWrite_access d _ _ _ _).fetching.trans (hput ..)
        · exact hput ..

theorem startFetch_fetching (d : Dev) (set : Nat) (prefetch : Bool) : FetchRel d (d.startFetch set prefetch) := by
  unfold Dev.startFetch
  split
  · exact .refl d
  · split
    · exact .refl d
    · next e he =>
      have hput : FetchRel e { e with hdc := { e.hdc with fetch := e.hdc.fetch ++ [set] } } :=
        ⟨.refl _, fun _ hn => List.mem_append_left _ hn⟩
      exact ((makeRoom_fetching he).trans hput).trans (driveRd_access _ _ _).fetching

theorem ConfigKept.devAddr {d e : Dev} (h : ConfigKept d e) (hr : e.gcr.role = d.gcr.role) (lane slot : Nat) :
    e.devAddr lane slot = d.devAddr lane slot := by
  have hget : ∀ l, e.laneGb l = d.laneGb l := fun l => by
    simp only [Dev.laneGb, h.get hr (show dataConfig R.DSC_CFG.DDENS.ofs = true by decide),
      h.get hr (show dataConfig R.DSC_CFG.HDENS.ofs = true by decide)]
  simp only [Dev.devAddr, Dev.rankOf, hget]

/-- A header that is away and has room is fetched. -/
theorem startFetch_drives {d : Dev} {set : Nat} (hf : d.hdc.fetch.contains set = false) (hh : d.header? set = none)
    (hl : (d.lane (headerLoc set).1).st ≠ 5) (hroom : (d.makeRoom set false).isSome = true) :
    set ∈ (d.startFetch set false).hdc.fetch ∧ (d.startFetch set false).drove d (d.laneRdOut (headerLoc set)) := by
  obtain ⟨e, he⟩ := Option.isSome_iff_exists.mp hroom
  have hrel := makeRoom_fetching he
  have heq : d.startFetch set false = ({ e with hdc := { e.hdc with fetch := e.hdc.fetch ++ [set] } } : Dev).driveRd
      (headerLoc set).1 (headerLoc set).2 := by
    unfold Dev.startFetch
    rw [hf, hh, if_neg (by simp [hl]), he]
  generalize hx : ({ e with hdc := { e.hdc with fetch := e.hdc.fetch ++ [set] } } : Dev) = x at heq
  have hxd : AccessRel { d with hdc := x.hdc } x := by
    rw [← hx]
    exact hrel.access.withHdc _
  have hrole : x.gcr.role = d.gcr.role := by rw [hxd.gcr]
  have haddr : x.devAddr (headerLoc set).1 (headerLoc set).2 = d.devAddr (headerLoc set).1 (headerLoc set).2 :=
    hxd.config.devAddr hrole _ _
  have hcount := countAct_access x (headerLoc set).1 (x.devAddr (headerLoc set).1 (headerLoc set).2)
  rw [heq]
  refine ⟨?_, ?_⟩
  · rw [(driveRd_access x _ _).frame]
    show set ∈ x.hdc.fetch
    rw [← hx]
    exact List.mem_append_right _ (List.mem_singleton_self _)
  · have hdrive : x.driveRd (headerLoc set).1 (headerLoc set).2 = (x.countAct (headerLoc set).1
        (x.devAddr (headerLoc set).1 (headerLoc set).2)).emit (d.laneRdOut (headerLoc set)) := by
      rw [Dev.laneRdOut, ← haddr]
      rfl
    have hsent : d.sent <:+ (x.countAct (headerLoc set).1 (x.devAddr (headerLoc set).1 (headerLoc set).2)).sent :=
      hxd.sent.trans hcount.sent
    rw [hdrive]
    exact drove_before hsent (List.suffix_cons ..) (drove_emit ..)

/-- When a set of the header cache has room. -/
theorem makeRoom_isSome (d : Dev) (set : Nat) : (d.makeRoom set false).isSome =
    (decide ((d.hdcSet set).length + d.hdcFetches set < 16) || (d.hdcSet set).any (fun x => !d.pinned x.set)) := by
  unfold Dev.makeRoom
  dsimp only
  split
  · next hroom => simp [hroom]
  · next hfull =>
    split
    · next hnone =>
      have hall : (d.hdcSet set).any (fun x => !d.pinned x.set) = false := by
        rw [List.any_eq_false]
        intro x hx
        exact List.find?_eq_none.mp hnone x (List.mem_reverse.mpr hx)
      simp [hfull, hall]
    · next x hfind =>
      have hany : (d.hdcSet set).any (fun x => !d.pinned x.set) = true :=
        List.any_eq_true.mpr ⟨x, List.mem_reverse.mp (List.mem_of_find?_eq_some hfind),
          List.find?_some (p := fun x : HdcEnt => !d.pinned x.set) hfind⟩
      simp [hany]

theorem makeRoom_congr {d e : Dev} {set : Nat} (hh : e.hdc = d.hdc) (hp : ∀ x ∈ d.hdc.ents, e.pinned x.set = d.pinned x.set) :
    (e.makeRoom set false).isSome = (d.makeRoom set false).isSome := by
  have hset : e.hdcSet set = d.hdcSet set := by rw [Dev.hdcSet, Dev.hdcSet, hh]
  have hfetch : e.hdcFetches set = d.hdcFetches set := by rw [Dev.hdcFetches, Dev.hdcFetches, hh]
  have hany : (d.hdcSet set).any (fun x => !e.pinned x.set) = (d.hdcSet set).any (fun x => !d.pinned x.set) := by
    rw [Bool.eq_iff_iff, List.any_eq_true, List.any_eq_true]
    exact exists_congr fun x => and_congr_right fun hx => by rw [hp x (List.mem_filter.mp hx).1]
  rw [makeRoom_isSome, makeRoom_isSome, hset, hfetch, hany]

theorem prefetch_fetching (l : List Nat) (d : Dev) : FetchRel d (l.foldl Dev.prefetch d) := by
  induction l generalizing d with
  | nil => exact .refl d
  | cons n l ih => exact (startFetch_fetching d n true).trans (ih _)

/-- A missed header is fetched. -/
theorem missHeader_drives {d : Dev} {set : Nat} (hf : d.hdc.fetch.contains set = false) (hh : d.header? set = none)
    (hl : (d.lane (headerLoc set).1).st ≠ 5) (hroom : (d.makeRoom set false).isSome = true) :
    FetchRel d (d.missHeader set) ∧ set ∈ (d.missHeader set).hdc.fetch ∧
      (d.missHeader set).drove d (d.laneRdOut (headerLoc set)) := by
  have hcount : FetchRel d (d.pmu1 0x009) := (pmu1_access d _ _).fetching
  have hroom' : ((d.pmu1 0x009).makeRoom set false).isSome = true := by
    rw [makeRoom_congr (d := d) (by rfl) fun _ _ => by rfl]
    exact hroom
  obtain ⟨hmem, hdrove⟩ := startFetch_drives (d := d.pmu1 0x009) hf hh hl hroom'
  have hrest : FetchRel ((d.pmu1 0x009).startFetch set false) (d.missHeader set) := prefetch_fetching _ _
  have hstart := startFetch_fetching (d.pmu1 0x009) set false
  refine ⟨(hcount.trans hstart).trans hrest, hrest.fetch _ hmem, ?_⟩
  exact drove_mono hdrove hstart.sent hrest.sent

/-- A transaction whose header is away waits for it. -/
theorem headerStep_away {d : Dev} {t : Txn} {set : Nat} (hset : d.setOf t.line = set) (hm : d.gcr.mode ≠ .train)
    (hb : d.hdrBlocked set = none) (hh : d.header? set = none) (hroom : (d.makeRoom set false).isSome = true)
    (hp : t.phase = .snooping) : d.headerStep t = (d.putTxn { t with phase := .waitHeader }).missHeader set := by
  unfold Dev.headerStep
  dsimp only
  rw [hset, hb, hh, if_neg (by simp [hm])]
  dsimp only
  rw [hroom, Bool.or_true, if_neg (by rw [hp]; decide)]
  rfl

theorem putDir_alone {d : Dev} (hs : d.twn.st = .single) (e : DirEnt) : d.putDir e = { d with dir := (d.putDir e).dir } := by
  unfold Dev.putDir
  rw [mirror_alone (by exact hs)]

/-- A request whose line has a place in the directory goes on to its header. -/
theorem activate_placed {d : Dev} {t : Txn} (hr : d.gcr.role = .standalone) (hs : d.twn.st = .single)
    (hd : recordsHolder t.kind = true → (d.dirFind t.line).isSome = true ∨ (d.freeDirWay t.line).isSome = true) :
    ∃ x, d.activate t = Dev.headerStep { d with dir := x } t := by
  have hput : ∀ e, ∃ x, d.putDir e = { d with dir := x } := fun e => ⟨_, putDir_alone hs e⟩
  unfold Dev.activate
  rw [if_neg (by rw [hr]; decide)]
  split
  · next hrec =>
    unfold Dev.dirStep
    split
    · next e _ =>
      obtain ⟨x, hx⟩ := hput e
      exact ⟨x, by rw [hx]⟩
    · next hnone =>
      split
      · next w _ =>
        obtain ⟨x, hx⟩ := hput ⟨t.line, w, .DI, [none, none, none, none], false, none⟩
        exact ⟨x, by rw [Dev.dirAssign, hx]⟩
      · next hfull =>
        exact absurd (hd hrec) (by simp [hnone, hfull])
  · exact ⟨d.dir, rfl⟩

theorem freeDirWay_queued {d e : Dev} {t : Txn} (hd : e.dir = d.dir) (ht : e.cnf.txns = d.cnf.txns ++ [t]) (hm : t.ofManager = false)
    (hv : t.victim = none) (hno : d.dirFind t.line = none) : e.freeDirWay t.line = d.freeDirWay t.line := by
  have hset : e.dirSet t.line = d.dirSet t.line := by rw [Dev.dirSet, Dev.dirSet, hd]
  have hline : ∀ x ∈ d.dirSet t.line, e.lineTxn x.line = d.lineTxn x.line := by
    intro x hx
    have hne : ¬ (x.line == t.line) = true := List.find?_eq_none.mp hno x (List.mem_filter.mp hx).1
    have hne' : (t.line == x.line) = false := beq_eq_false_iff_ne.mpr fun he => hne (beq_iff_eq.mpr he.symm)
    have hself : [t].any (fun u => u.line == x.line || u.victim == some x.line || (u.ofManager && sectorOf u.line == sectorOf x.line)) =
        false := by
      rw [List.any_cons, List.any_nil, hne', hv, hm]
      rfl
    rw [Dev.lineTxn, Dev.lineTxn, ht, List.any_append, hself, Bool.or_false]
  rw [Dev.freeDirWay, Dev.freeDirWay, hset]
  congr 1
  funext w
  rw [Bool.eq_iff_iff, List.all_eq_true, List.all_eq_true]
  exact forall₂_congr fun x hx => by rw [hline x hx]

/-- The transaction at the table's end is replaced by its number. -/
theorem putTxn_last {d : Dev} {l : List Txn} {t u : Txn} (hl : ∀ y ∈ l, ¬ (y.id == u.id) = true) (ht : d.cnf.txns = l ++ [t])
    (hid : t.id = u.id) : (d.putTxn u).cnf.txns = l ++ [u] := by
  have hold : mapIf (fun x => x.id == u.id) (fun _ => u) l = l :=
    (List.map_congr_left fun y hy => if_neg (hl y hy)).trans (List.map_id _)
  rw [Dev.putTxn, mirror_frame]
  show mapIf (fun x => x.id == u.id) (fun _ => u) d.cnf.txns = _
  rw [ht, mapIf, List.map_append, ← mapIf, hold]
  simp [hid]

theorem putTxn_table {d : Dev} (hs : d.twn.st = .single) (t : Txn) :
    d.putTxn t = d.setTxns (mapIf (fun x => x.id == t.id) (fun _ => t) d.cnf.txns) := mirror_alone (by exact hs) _

theorem putTxn_alone {d : Dev} (hs : d.twn.st = .single) (t : Txn) : d.putTxn t = { d with cnf := (d.putTxn t).cnf } := by
  rw [putTxn_table hs]
  rfl

/-- A transaction of a set that is away pins no header of the cache. -/
theorem pinned_away {d e : Dev} {t : Txn} (hset : ∀ l, e.setOf l = d.setOf l) (ht : e.cnf.txns = d.cnf.txns ++ [t])
    (hv : t.victim = none) (ha : d.header? (d.setOf t.line) = none) : ∀ x ∈ d.hdc.ents, e.pinned x.set = d.pinned x.set := by
  intro x hx
  have hne : (d.setOf t.line == x.set) = false := by
    rw [beq_eq_false_iff_ne]
    intro he
    have hnone := List.find?_eq_none.mp (Option.map_eq_none_iff.mp ha) x hx
    exact hnone (beq_iff_eq.mpr he.symm)
  simp [Dev.pinned, ht, hset, hne, hv]

/-- A transaction at a line whose header is away has it fetched. -/
theorem activate_fetches {y : Dev} {t : Txn} {l : List Txn} (hr : y.gcr.role = .standalone) (hs : y.twn.st = .single)
    (hm : y.gcr.mode ≠ .train) (hb : y.hdrBlocked (y.setOf t.line) = none) (ha : y.headerAway t.line = true)
    (hp : t.phase = .snooping) (hv : t.victim = none) (ht : y.cnf.txns = l ++ [t]) (hl : ∀ u ∈ l, ¬ (u.id == t.id) = true)
    (hd : recordsHolder t.kind = true → (y.dirFind t.line).isSome = true ∨ (y.freeDirWay t.line).isSome = true) :
    (y.activate t).cnf.txns = l ++ [{ t with phase := .waitHeader }] ∧ y.setOf t.line ∈ (y.activate t).hdc.fetch ∧
      (y.activate t).drove y (y.laneRdOut (headerLoc (y.setOf t.line))) ∧ y.sent <:+ (y.activate t).sent ∧
      (y.activate t).gcr.role = .standalone := by
  simp only [Dev.headerAway, Bool.and_eq_true, Option.isNone_iff_eq_none, Bool.not_eq_true'] at ha
  obtain ⟨⟨haway, hfetch⟩, hroom⟩ := ha
  obtain ⟨x, hx⟩ := activate_placed hr hs hd
  have hlane : (y.lane (headerLoc (y.setOf t.line)).1).st ≠ 5 := by
    intro hst
    unfold Dev.hdrBlocked at hb
    split at hb
    · split at hb <;> cases hb
    · rw [if_pos (.inl hst)] at hb
      cases hb
  have hzroom : (Dev.makeRoom { y with dir := x } (y.setOf t.line) false).isSome = true := by
    rw [makeRoom_congr (d := y) (by rfl) fun _ _ => by rfl]
    exact hroom
  rw [hx, headerStep_away (d := { y with dir := x }) (set := y.setOf t.line) rfl hm hb haway hzroom hp]
  have hv' := putTxn_alone (d := { y with dir := x }) hs { t with phase := .waitHeader }
  have htab := putTxn_last (d := { y with dir := x }) (u := { t with phase := .waitHeader }) hl ht rfl
  generalize Dev.putTxn { y with dir := x } { t with phase := .waitHeader } = v at hv' htab ⊢
  have hvset : ∀ n, v.setOf n = y.setOf n := fun n => by rw [hv']; rfl
  have hbase : Dev.header? { y with cnf := { y.cnf with txns := l } } (y.setOf t.line) = none := haway
  have hvroom : (v.makeRoom (y.setOf t.line) false).isSome = true := by
    rw [makeRoom_congr (d := y) (by rw [hv']), hroom]
    intro e he
    rw [pinned_away (d := { y with cnf := { y.cnf with txns := l } }) hvset htab hv hbase e he,
      pinned_away (d := { y with cnf := { y.cnf with txns := l } }) (e := y) (fun _ => rfl) ht hv hbase e he]
  obtain ⟨hrel, hmem, hdrove⟩ := missHeader_drives (d := v) (set := y.setOf t.line) (by rw [hv']; exact hfetch) (by rw [hv']; exact haway)
    (by rw [hv']; exact hlane) hvroom
  have hsent : v.sent = y.sent := by rw [hv']
  have hout : v.laneRdOut (headerLoc (y.setOf t.line)) = y.laneRdOut (headerLoc (y.setOf t.line)) := by rw [hv']; rfl
  refine ⟨by rw [hrel.cnf, htab], hmem, ?_, hsent ▸ hrel.sent, ?_⟩
  · rw [Dev.drove, hsent, hout] at hdrove
    exact hdrove
  · rw [hrel.access.gcr]
    show v.gcr.role = _
    rw [hv']
    exact hr

section
variable {d : Dev} {h : Head} {b : Body} {id : Nat} (ht : d.Enters h b id) (hb : b.kind ≠ .append)
include ht hb

/-- The transaction of a request taken at an idle line is alone on its line. -/
theorem arrive_alone {m : Dev} {w : Txn} (hm : (d.entered ⟨h, b, none⟩ id).activate (d.opening ⟨h, b, none⟩ id) = m)
    (htab : m.cnf.txns = d.cnf.txns ++ [w]) (hr : m.gcr.role = .standalone) (hp : w.phase ≠ .standby ∧ w.phase ≠ .waitPlace) :
    arrive false ⟨h, b, none⟩ d = m.credited h.port := by
  have hkey : ∀ x, m.key x = x := fun x => if_neg (by rw [hr]; decide)
  rw [arrive_enters ht hb, hm, fillPlace_idle]
  intro y hy
  obtain ⟨hmem, hline⟩ := List.mem_filter.mp hy
  rw [htab] at hmem
  rcases List.mem_append.mp hmem with hold | hnew
  · have hon : y ∈ d.onKey (lineOf h.addr) := by
      refine List.mem_filter.mpr ⟨hold, ?_⟩
      rw [Dev.key, if_neg (by rw [(plain_iff.mp ht.plain).role]; decide), ← hkey y.line]
      exact hline
    rw [ht.key] at hon
    cases hon
  · rw [List.mem_singleton.mp hnew]
    exact hp

theorem arrive_opened {m : Dev} {w : Txn} (hm : (d.entered ⟨h, b, none⟩ id).activate (d.opening ⟨h, b, none⟩ id) = m)
    (htab : m.cnf.txns = d.cnf.txns ++ [w]) (hr : m.gcr.role = .standalone) (hp : w.phase ≠ .standby ∧ w.phase ≠ .waitPlace)
    (hid : w.id = id) : (arrive false ⟨h, b, none⟩ d).txn? id = some w := by
  have hfree : d.cnf.txns.find? (fun y => y.id == id) = none := List.find?_eq_none.mpr (enters_fresh ht.free)
  rw [arrive_alone ht hb hm htab hr hp, Dev.txn?, (credited_send m h.port).txns, htab]
  simp [hfree, hid]

omit hb in
theorem entered_mode : (d.entered ⟨h, b, none⟩ id).gcr.mode ≠ .train := by
  have hissue := entered_issue d ⟨h, b, none⟩ id
  rw [hissue.frame]
  intro hc
  have hserving := (plain_iff.mp ht.plain).mode
  rw [show d.gcr.mode = .train from hc] at hserving
  cases hserving

theorem entered_unblocked : (d.entered ⟨h, b, none⟩ id).hdrBlocked
    ((d.entered ⟨h, b, none⟩ id).setOf (d.opening ⟨h, b, none⟩ id).line) = none := by
  have hissue := entered_issue d ⟨h, b, none⟩ id
  have hline : (d.opening ⟨h, b, none⟩ id).line = lineOf h.addr := txnOf_line hb
  rw [entered_setOf, hline, hissue.frame]
  exact ht.header

theorem entered_placed :
    ((d.entered ⟨h, b, none⟩ id).dirFind (d.opening ⟨h, b, none⟩ id).line).isSome = true ∨
      ((d.entered ⟨h, b, none⟩ id).freeDirWay (d.opening ⟨h, b, none⟩ id).line).isSome = true := by
  have hissue := entered_issue d ⟨h, b, none⟩ id
  have hline : (d.opening ⟨h, b, none⟩ id).line = lineOf h.addr := txnOf_line hb
  have horg : (d.opening ⟨h, b, none⟩ id).org = .agent h.port := txnOf_org (plain_iff.mp ht.plain).role _
  have hman : (d.opening ⟨h, b, none⟩ id).ofManager = false := by rw [Txn.ofManager, horg]
  have hdir : (d.entered ⟨h, b, none⟩ id).dir = d.dir := by rw [hissue.frame]; rfl
  have hfind : ∀ l, (d.entered ⟨h, b, none⟩ id).dirFind l = d.dirFind l := fun l => by rw [Dev.dirFind, Dev.dirFind, hdir]
  cases hd : d.dirFind (lineOf h.addr) with
  | some e => exact .inl (by rw [hfind, hline, hd]; rfl)
  | none =>
    refine .inr ?_
    rw [freeDirWay_queued hdir (entered_table (r := ⟨h, b, none⟩) ht.free) hman (txnOf_victim d _) (by rw [hline, hd]), hline]
    exact ht.dir.resolve_left (by rw [hd]; decide)

/-- What a transaction opened for a request shows. -/
theorem opening_view (ph : Phase) :
    (ph, (d.opening ⟨h, b, none⟩ id).kind, (d.opening ⟨h, b, none⟩ id).line, (d.opening ⟨h, b, none⟩ id).tag,
      (d.opening ⟨h, b, none⟩ id).org) = (ph, b.kind, lineOf h.addr, h.tag, Origin.agent h.port) := by
  have hline : (d.opening ⟨h, b, none⟩ id).line = lineOf h.addr := txnOf_line hb
  have hkind : (d.opening ⟨h, b, none⟩ id).kind = b.kind := txnOf_kind d _
  have htag : (d.opening ⟨h, b, none⟩ id).tag = h.tag := txnOf_tag d _
  have horg : (d.opening ⟨h, b, none⟩ id).org = .agent h.port := txnOf_org (plain_iff.mp ht.plain).role _
  rw [hline, hkind, htag, horg]

theorem entered_away (ha : d.headerAway (lineOf h.addr) = true) : (d.entered ⟨h, b, none⟩ id).headerAway (lineOf h.addr) = true := by
  have hissue := entered_issue d ⟨h, b, none⟩ id
  have htable := entered_table (r := ⟨h, b, none⟩) ht.free
  have hline : (d.opening ⟨h, b, none⟩ id).line = lineOf h.addr := txnOf_line hb
  have hvictim : (d.opening ⟨h, b, none⟩ id).victim = none := txnOf_victim d _
  have hhdc : (d.entered ⟨h, b, none⟩ id).hdc = d.hdc := by rw [hissue.frame]; rfl
  simp only [Dev.headerAway, Bool.and_eq_true, Option.isNone_iff_eq_none, Bool.not_eq_true'] at ha
  obtain ⟨⟨haway, hfetch⟩, hroom⟩ := ha
  simp only [Dev.headerAway, Bool.and_eq_true, Option.isNone_iff_eq_none, Bool.not_eq_true', entered_setOf]
  refine ⟨⟨?_, ?_⟩, ?_⟩
  · rw [Dev.header?, hhdc]
    exact haway
  · rw [hhdc]
    exact hfetch
  · rw [makeRoom_congr hhdc, hroom]
    exact pinned_away ((entered_setOf d _ id)) htable hvictim (by rw [hline]; exact haway)

/-- A request taken at an idle line whose header is away opens its transaction, and the header is fetched (R49). -/
theorem arrive_fetches (ha : d.headerAway (lineOf h.addr) = true) :
    (arrive false ⟨h, b, none⟩ d).fetchesFor d id b.kind h ∧ d.sent <:+ (arrive false ⟨h, b, none⟩ d).sent := by
  have halone := plain_iff.mp ht.plain
  have hissue := entered_issue d ⟨h, b, none⟩ id
  have htable := entered_table (r := ⟨h, b, none⟩) ht.free
  have hline : (d.opening ⟨h, b, none⟩ id).line = lineOf h.addr := txnOf_line hb
  have hgcr : (d.entered ⟨h, b, none⟩ id).gcr = d.gcr := by rw [hissue.frame]; rfl
  have hst : (d.entered ⟨h, b, none⟩ id).twn.st = .single := by rw [hissue.twn]; exact halone.st
  have hmode := entered_mode (id := id) ht
  have hblocked := entered_unblocked ht hb
  obtain ⟨htab, hmem, hdrove, hsent, hrole⟩ := activate_fetches (y := d.entered ⟨h, b, none⟩ id) (t := d.opening ⟨h, b, none⟩ id)
    (l := d.cnf.txns) (by rw [hgcr]; exact halone.role) hst hmode hblocked (by rw [hline]; exact entered_away ht hb ha) rfl
    (txnOf_victim d _) htable (enters_fresh ht.free)
    fun _ => entered_placed ht hb
  have hphase : Phase.waitHeader ≠ .standby ∧ Phase.waitHeader ≠ .waitPlace := by decide
  have hopen := arrive_opened ht hb rfl htab hrole hphase rfl
  have hbase : (d.entered ⟨h, b, none⟩ id).sent = d.sent := by rw [hissue.frame]; rfl
  refine ⟨⟨?_, ?_, ?_⟩, ?_⟩
  · rw [Dev.opened, hopen]
    exact congrArg some (opening_view ht hb .waitHeader)
  · rw [arrive_alone ht hb rfl htab hrole hphase, (credited_send _ _).hdc]
    rw [entered_setOf, hline] at hmem
    exact hmem
  · rw [arrive_alone ht hb rfl htab hrole hphase]
    have hout : (d.entered ⟨h, b, none⟩ id).laneRdOut (headerLoc (d.setOf (lineOf h.addr))) =
        d.laneRdOut (headerLoc (d.setOf (lineOf h.addr))) := by
      rw [Dev.laneRdOut, Dev.laneRdOut]
      exact congrArg _ (hissue.config.devAddr hissue.role _ _)
    rw [entered_setOf, hline, hout] at hdrove
    have hlast := drove_mono hdrove hsent (credited_send _ h.port).sent
    rw [Dev.drove, hbase] at hlast
    exact hlast
  · rw [arrive_alone ht hb rfl htab hrole hphase, ← hbase]
    exact hsent.trans (credited_send _ h.port).sent

end

/-! ## Ownership snoops the holder -/

/-- The same request, in some phase. -/
structure SameRequest (t u : Txn) : Prop where
  id : u.id = t.id
  kind : u.kind = t.kind
  line : u.line = t.line
  tag : u.tag = t.tag
  org : u.org = t.org

/-- A transaction with its plan. -/
def planned (t : Txn) (plan : Plan) : Txn := { t with phase := .snooping, rollCall := plan.roll, ownerGone := false, victim := none }

/-- A transaction takes its plan: its snoops go out, and it is gathered when none is awaited. -/
def Dev.carry (d : Dev) (t : Txn) (plan : Plan) : Dev :=
  let r := ((if plan.roll then d.countRoll else d).putTxn (planned t plan)).snoopAll (planned t plan) plan.snoops
  let d := r.2.putTxn r.1
  if Machine.answered r.1 then (d.endRoll r.1).gather r.1 else d

/-- A transaction that asks for ownership decides on a device alone. -/
theorem decide_owner {d : Dev} {t : Txn} {p : Nat} (hr : d.gcr.role = .standalone) (hk : t.kind = .rdOwn ∨ t.kind = .upgrade)
    (ho : t.org = .agent p) : ∃ (own shared cached : Bool),
      (own = true → t.kind = .upgrade ∧ (t.asOwn = true ∨ ∀ e, d.dirEnt t.line = some e → e.st = .DS → e.records p = false)) ∧
      d.decide t = (d.dirTouch t.line).carry { t with asOwn := own, wasShared := shared, hadX := false }
        ((d.dirTouch t.line).agentPlan { t with asOwn := own, wasShared := shared, hadX := false } cached) := by
  have hman : t.ofManager = false := by rw [Txn.ofManager, ho]
  have hrole : (d.gcr.role == .manager) = false := by rw [hr]; rfl
  have hwork : (d.gcr.role == .worker) = false := by rw [hr]; rfl
  refine ⟨t.kind == .upgrade && (t.asOwn || !(match d.dirEnt t.line, t.reader with
    | some e, some r => e.st == .DS && e.records r | _, _ => false)),
    match d.dirEnt t.line with | some e => e.st == .DS | none => false,
    match d.view (d.setOf t.line) with | .ok h => (d.servedHit h t.line).isSome | _ => false, ?_, ?_⟩
  · intro hown
    rw [Bool.and_eq_true, beq_iff_eq, Bool.or_eq_true, Txn.reader, ho] at hown
    refine ⟨hown.1, hown.2.imp_right fun hnot e he hst => ?_⟩
    simpa [he, hst] using hnot
  · unfold Dev.decide
    rw [if_neg (by rw [hman]; decide)]
    simp only [hrole, hwork, Bool.false_and, if_false, Bool.false_eq_true]
    rcases hk with hk | hk
    · simp only [hk, Txn.reader, ho]
      rfl
    · simp only [hk, Txn.reader, ho]
      rfl

theorem dirTouch_dirFind (d : Dev) (line : Nat) : (d.dirTouch line).dirFind line = d.dirFind line := by
  rw [Dev.dirFind, Dev.dirTouch]
  dsimp only
  have hrest : (d.dir.ents.filter (fun x => x.line != line)).find? (fun e => e.line == line) = none :=
    List.find?_eq_none.mpr fun x hx => by simpa using (List.mem_filter.mp hx).2
  rw [List.find?_append, hrest, Option.or_none, List.find?_filter]
  exact congrArg (List.find? · d.dir.ents) (funext fun e => Bool.eq_iff_iff.mpr (by simp))

/-- RdOwn of a line that another port holds exclusive asks the holder (Table COH-6). -/
theorem decide_snoops {d : Dev} {t : Txn} {e : DirEnt} {p q : Nat} (hs : d.twn.st = .single) (hr : d.gcr.role = .standalone)
    (hk : t.kind = .rdOwn) (ho : t.org = .agent p)
    (he : d.dirEnt t.line = some e) (hx : e.st = .DX) (hq : holdersOf e.ptr = [q]) (hne : q ≠ p) (hdead : d.portDead q = false)
    (hhold : d.onHold t.line q = false) : ∃ x u v, SameRequest t u ∧ u.phase = .snooping ∧ v.id = t.id ∧
      d.decide t = ((Dev.putTxn { d with dir := x } v).tell q (.snp .own t.id t.line)).putTxn u := by
  obtain ⟨own, shared, cached, -, hdecide⟩ := decide_owner hr (.inl hk) ho
  have hent : (d.dirTouch t.line).dirEnt t.line = some e := by
    rw [Dev.dirEnt, dirTouch_dirFind]
    exact he
  have hplan : (d.dirTouch t.line).agentPlan { t with asOwn := own, wasShared := shared, hadX := false } cached =
      ⟨[(q, .own)], false⟩ := by
    simp [Dev.agentPlan, hent, hk, hx, hq, Txn.reader, ho, hne]
  generalize hv' : planned { t with asOwn := own, wasShared := shared, hadX := false } ⟨[(q, .own)], false⟩ = v
  have hvline : v.snooped = t.line := by rw [← hv']; rfl
  have hput := putTxn_table (d := d.dirTouch t.line) hs v
  have hkey : ∀ l, ((d.dirTouch t.line).putTxn v).key l = l := fun l => by
    rw [hput]
    exact if_neg (by show d.gcr.role ≠ _; rw [hr]; decide)
  have hlive : ((d.dirTouch t.line).putTxn v).portDead q = false := by rw [hput]; exact hdead
  have hfree : ((d.dirTouch t.line).putTxn v).onHold t.line q = false := by rw [hput]; exact hhold
  have hrole : ((d.dirTouch t.line).putTxn v).gcr.role ≠ .manager := by
    rw [hput]
    show d.gcr.role ≠ _
    rw [hr]
    decide
  have hsend : ((d.dirTouch t.line).putTxn v).snoopAll v [(q, .own)] = ({ v with await := v.await ++ [(q, .own)] },
      ((d.dirTouch t.line).putTxn v).tell q (.snp .own t.id t.line)) := by
    show Dev.snoopOne (v, _) (q, .own) = _
    unfold Dev.snoopOne
    dsimp only
    rw [hlive, Bool.false_and, if_neg Bool.false_ne_true]
    unfold Dev.sendSnoop
    dsimp only
    rw [hvline, hkey, hfree, if_neg Bool.false_ne_true, if_neg hrole, ← hv']
    rfl
  rw [hdecide, hplan, Dev.carry, hv']
  dsimp only
  rw [if_neg Bool.false_ne_true, hsend]
  have hwait : Machine.answered { v with await := v.await ++ [(q, .own)] } = false := by
    simp [Machine.answered]
  dsimp only
  rw [hwait, if_neg Bool.false_ne_true]
  refine ⟨_, { v with await := v.await ++ [(q, .own)] }, v, ?_, ?_, ?_, rfl⟩
  · rw [← hv']
    exact ⟨rfl, rfl, rfl, rfl, rfl⟩
  · rw [← hv']
    rfl
  · rw [← hv']
    rfl

theorem putDir_dirFind {d : Dev} {e : DirEnt} (hs : d.twn.st = .single) (hk : d.keepsEntry e = true) :
    (d.putDir e).dirFind e.line = some e := by
  unfold Dev.putDir
  rw [mirror_alone (by exact hs), if_pos hk, Dev.dirFind]
  exact List.find?_cons_of_pos (by simp)

theorem dirEnt_some {d : Dev} {line : Nat} {e : DirEnt} (h : d.dirEnt line = some e) : d.dirFind line = some e ∧ e.line = line := by
  have hfind : d.dirFind line = some e := by
    unfold Dev.dirEnt at h
    split at h
    · next heq =>
      split at h
      · cases h
      · rw [heq, h]
    · cases h
  exact ⟨hfind, by simpa using List.find?_some hfind⟩

/-- The device with the directory entry and the header of a line in front. -/
def Dev.fronted (d : Dev) (e : DirEnt) (set : Nat) : Dev := ((d.putDir e).pmu1 0x008).useHeader set

/-- A request that records a holder of a line with an entry and its header at hand is decided on. -/
theorem activate_found {d : Dev} {t : Txn} {e : DirEnt} {x : Header} (hr : d.gcr.role = .standalone) (hs : d.twn.st = .single)
    (hk : recordsHolder t.kind = true) (he : d.dirFind t.line = some e) (hm : d.gcr.mode ≠ .train)
    (hb : d.hdrBlocked (d.setOf t.line) = none) (hx : d.header? (d.setOf t.line) = some x) :
    d.activate t = (d.fronted e (d.setOf t.line)).decide t := by
  have hset : (d.putDir e).setOf t.line = d.setOf t.line := by rw [putDir_alone hs]; rfl
  have hmode : (d.putDir e).gcr.mode ≠ .train := by rw [putDir_alone hs]; exact hm
  have hblocked : (d.putDir e).hdrBlocked (d.setOf t.line) = none := by rw [putDir_alone hs]; exact hb
  have hheader : (d.putDir e).header? (d.setOf t.line) = some x := by rw [putDir_alone hs]; exact hx
  unfold Dev.activate
  rw [if_neg (by rw [hr]; decide), if_pos hk, Dev.dirStep, he]
  dsimp only
  unfold Dev.headerStep
  dsimp only
  rw [hset, hblocked, hheader, if_neg (by simp [hmode])]
  rfl

/-- What bringing an entry and a header to the front leaves. -/
theorem fronted_alone {y : Dev} (hs : y.twn.st = .single) (e : DirEnt) (set : Nat) :
    y.fronted e set = { y with dir := (y.fronted e set).dir, pmu := (y.fronted e set).pmu, hdc := (y.fronted e set).hdc } := by
  unfold Dev.fronted
  rw [putDir_alone hs]
  rfl

theorem fronted_dirFind (y : Dev) (e : DirEnt) (set line : Nat) : (y.fronted e set).dirFind line = (y.putDir e).dirFind line := by
  unfold Dev.fronted Dev.useHeader
  rfl

/-- The device with a request's transaction in the pipeline, and what it needs in front. -/
structure Front (d f : Dev) (r : Req) (id : Nat) (e : DirEnt) : Prop where
  txns : f.cnf.txns = d.cnf.txns ++ [d.opening r id]
  st : f.twn.st = .single
  mirror : f.twn.mirror = false
  role : f.gcr.role = .standalone
  ports : f.ports.length = 32
  quiet : QuietSend d f
  dead : ∀ q, f.portDead q = d.portDead q
  hold : ∀ k q, f.onHold k q = d.onHold k q
  ent : f.dirFind e.line = some e

section
variable {d : Dev} {h : Head} {b : Body} {id : Nat} (ht : d.Enters h b id) (hb : b.kind ≠ .append)
include ht hb

/-- A request that records a holder of a line with an entry and its header at hand is decided on. -/
theorem arrive_decides {e : DirEnt} {x : Header} (hk : recordsHolder b.kind = true) (he : d.dirFind (lineOf h.addr) = some e)
    (hx : d.header? (d.setOf (lineOf h.addr)) = some x) :
    (d.entered ⟨h, b, none⟩ id).activate (d.opening ⟨h, b, none⟩ id) =
      ((d.entered ⟨h, b, none⟩ id).fronted e (d.setOf (lineOf h.addr))).decide (d.opening ⟨h, b, none⟩ id) := by
  have halone := plain_iff.mp ht.plain
  have hissue := entered_issue d ⟨h, b, none⟩ id
  have hline : (d.opening ⟨h, b, none⟩ id).line = lineOf h.addr := txnOf_line hb
  have hkind : (d.opening ⟨h, b, none⟩ id).kind = b.kind := txnOf_kind d _
  have hgcr : (d.entered ⟨h, b, none⟩ id).gcr = d.gcr := by rw [hissue.frame]; rfl
  have hgo := activate_found (d := d.entered ⟨h, b, none⟩ id) (t := d.opening ⟨h, b, none⟩ id) (e := e) (x := x)
    (by rw [hgcr]; exact halone.role) (by rw [hissue.twn]; exact halone.st) (by rw [hkind]; exact hk)
    (by rw [hline, hissue.frame]; exact he) (entered_mode ht) (entered_unblocked ht hb)
    (by rw [entered_setOf, hline, hissue.frame]; exact hx)
  rw [hgo, entered_setOf, hline]

omit hb in
theorem entered_front {e : DirEnt} (he : e.st ≠ .DI) (set : Nat) :
    Front d ((d.entered ⟨h, b, none⟩ id).fronted e set) ⟨h, b, none⟩ id e := by
  have halone := plain_iff.mp ht.plain
  have hissue := entered_issue d ⟨h, b, none⟩ id
  have htable := entered_table (r := ⟨h, b, none⟩) ht.free
  have hst : (d.entered ⟨h, b, none⟩ id).twn.st = .single := by rw [hissue.twn]; exact halone.st
  have hfront := fronted_alone hst e set
  refine ⟨by rw [hfront]; exact htable, by rw [hfront]; exact hst, ?_, ?_, ?_, ?_, fun q => ?_, fun k q => ?_, ?_⟩
  · rw [hfront]
    show (d.entered ⟨h, b, none⟩ id).twn.mirror = false
    rw [hissue.twn]
    exact halone.mirror
  · rw [hfront, hissue.frame]
    exact halone.role
  · rw [hfront, hissue.frame]
    exact halone.ports
  · refine .aside ?_ ?_ ?_ ?_
    · rw [hfront, hissue.frame]; rfl
    · rw [hfront, hissue.frame]; rfl
    · rw [hfront]
      show (d.entered ⟨h, b, none⟩ id).twn.held = _
      rw [hissue.twn]
      rfl
    · rw [hfront, hissue.frame]; exact List.suffix_refl _
  · have hraw : (d.entered ⟨h, b, none⟩ id).raw (portEN q).ofs = d.raw (portEN q).ofs :=
      raw_of_bank (hissue.bank _ (by simp [portEN, R.CNF_EVT.TT_FULL]; omega)) hissue.role
    have hdead : (d.entered ⟨h, b, none⟩ id).portDead q = d.portDead q := by
      rw [Dev.portDead, Dev.portDead, Dev.flag, Dev.flag, Dev.get, Dev.get, hraw, hissue.frame]
      rfl
    rw [← hdead, hfront]
    rfl
  · rw [hfront]
    show (d.entered ⟨h, b, none⟩ id).onHold k q = _
    rw [Dev.onHold, hissue.cnf, Dev.holderId, hissue.role]
    rfl
  · rw [fronted_dirFind]
    exact putDir_dirFind hst (by simp [Dev.keepsEntry, he])

/-- The exclusive holder of a line is asked for it (R110). -/
theorem arrive_snoops {q : Nat} {x : Header} {e : DirEnt} (hk : b = .rdOwn) (hx : d.header? (d.setOf (lineOf h.addr)) = some x)
    (he : d.dirEnt (lineOf h.addr) = some e) (hst : e.st = .DX) (hq : holdersOf e.ptr = [q]) (hne : q ≠ h.port) (hport : q < 32)
    (hdead : d.portDead q = false) (hhold : d.onHold (lineOf h.addr) q = false) :
    (arrive false ⟨h, b, none⟩ d).opened id .snooping b.kind h ∧
      (arrive false ⟨h, b, none⟩ d).told d q (.snp .own id (lineOf h.addr)) ∧ d.sent <:+ (arrive false ⟨h, b, none⟩ d).sent := by
  have halone := plain_iff.mp ht.plain
  have hissue := entered_issue d ⟨h, b, none⟩ id
  have htable := entered_table (r := ⟨h, b, none⟩) ht.free
  have hline : (d.opening ⟨h, b, none⟩ id).line = lineOf h.addr := txnOf_line hb
  have hview := opening_view (id := id) ht hb .snooping
  have hkind : (d.opening ⟨h, b, none⟩ id).kind = .rdOwn := by rw [hk]; rfl
  have horg : (d.opening ⟨h, b, none⟩ id).org = .agent h.port := txnOf_org halone.role _
  have hfind : d.dirFind (lineOf h.addr) = some e ∧ e.line = lineOf h.addr := dirEnt_some he
  have hgo := arrive_decides ht hb (id := id) (by rw [hk]; rfl) hfind.1 hx
  have hF := entered_front (id := id) ht (by rw [hst]; decide) (d.setOf (lineOf h.addr)) (e := e)
  generalize (d.entered ⟨h, b, none⟩ id).fronted e (d.setOf (lineOf h.addr)) = f at hgo hF
  have hent : f.dirEnt (lineOf h.addr) = some e := by
    rw [Dev.dirEnt, ← hfind.2, hF.ent]
    simp [hst]
  obtain ⟨y, u, v, hsame, hu, hv, hdecide⟩ := decide_snoops (d := f) (t := d.opening ⟨h, b, none⟩ id) (e := e) (p := h.port) (q := q)
    hF.st hF.role hkind horg (by rw [hline]; exact hent) hst hq hne (by rw [hF.dead]; exact hdead)
    (by rw [hline, hF.hold]; exact hhold)
  rw [hdecide] at hgo
  generalize hf : Dev.putTxn { f with dir := y } v = g at hgo
  have hg := putTxn_alone (d := { f with dir := y }) hF.st v
  have hgtab := putTxn_last (d := { f with dir := y }) (u := v) (by rw [hv]; exact enters_fresh ht.free) hF.txns hv.symm
  rw [hf] at hg hgtab
  have hgquiet : QuietSend d g := hF.quiet.trans (by rw [hg]; exact .aside rfl rfl rfl (List.suffix_refl _))
  have hsend := tell_send g q (.snp .own (d.opening ⟨h, b, none⟩ id).id (d.opening ⟨h, b, none⟩ id).line)
  have htold := tell_told (d := g) (n := q) (m := .snp .own (d.opening ⟨h, b, none⟩ id).id (d.opening ⟨h, b, none⟩ id).line)
    (by rw [hg]; show f.twn.st ≠ _; rw [hF.st]; decide) (by rw [hg]; exact hF.mirror)
    (.inr (by rw [hg]; show q < f.ports.length; rw [hF.ports]; exact hport))
  generalize g.tell q _ = k at hsend htold hgo
  have hput := putTxn_alone (d := k) (by rw [hsend.twn, hg]; exact hF.st) u
  have htab := putTxn_last (d := k) (l := d.cnf.txns) (t := v) (u := u) (by rw [hsame.id]; exact enters_fresh ht.free)
    (by rw [hsend.txns]; exact hgtab) (by rw [hv, hsame.id])
  have hphase : u.phase ≠ .standby ∧ u.phase ≠ .waitPlace := by rw [hu]; decide
  have hrole : (k.putTxn u).gcr.role = .standalone := by
    rw [hput]
    show k.gcr.role = _
    rw [hsend.gcr, hg]
    exact hF.role
  refine ⟨?_, ?_, ?_⟩
  · rw [Dev.opened, arrive_opened ht hb hgo htab hrole hphase hsame.id, ← hview, ← hsame.kind, ← hsame.line, ← hsame.tag, ← hsame.org, ← hu]
    rfl
  · rw [arrive_alone ht hb hgo htab hrole hphase]
    have hlast : QuietSend k ((k.putTxn u).credited h.port) :=
      QuietSend.trans (by rw [hput]; exact .aside rfl rfl rfl (List.suffix_refl _)) (credited_quiet _ _)
    rw [show (d.opening ⟨h, b, none⟩ id).id = id from rfl, hline] at htold
    exact hlast.grow.told (hgquiet.sent.trans hsend.sent) (hgquiet.grow.told_before hsend.sent htold)
  · rw [arrive_alone ht hb hgo htab hrole hphase]
    refine ((hgquiet.sent.trans hsend.sent).trans ?_).trans (credited_send _ h.port).sent
    rw [hput]

end

/-! ## The only sharer is granted ownership -/

theorem SendRel.dead {d e : Dev} (h : SendRel d e) (n : Nat) : e.portDead n = d.portDead n := by
  have hofs : (portEN n).ofs ∉ recordRegs 2 := by
    simp [recordRegs, portEN]
    omega
  have hport : (e.port n).draining = (d.port n).draining := (congrArg Port.draining (h.port n) :)
  rw [Dev.portDead, Dev.portDead, h.flag hofs, hport]

/-- A device alone grants an Upgrade whose line no other port holds (R110). -/
theorem gather_upgrade {d : Dev} {t : Txn} {p : Nat} (hr : d.gcr.role = .standalone) (hk : t.kind = .upgrade) (ha : t.asOwn = false)
    (ho : t.org = .agent p) (hdead : d.portDead p = false) (hs : d.twn.st = .single) :
    d.gather t = ((d.dirMap t.line (fun e => e.exclusive p)).putTxn { t with grant := .E, got := none, phase := .grantAck }).tell p
      (.ack 0 t.tag .E t.id none) := by
  have hstands : d.standsX t = true := by
    simp [Dev.standsX, Dev.hasX, hr]
  have hmap : (d.dirMap t.line (fun e => e.exclusive p)).portDead p = false ∧
      (d.dirMap t.line (fun e => e.exclusive p)).twn.st = .single := by
    unfold Dev.dirMap
    split
    · split
      · exact ⟨hdead, hs⟩
      · rw [putDir_alone hs]
        exact ⟨hdead, hs⟩
    · exact ⟨hdead, hs⟩
  have hgranted : d.gather t = (d.dirMap t.line (fun e => e.exclusive p)).granted { t with grant := .E, got := none }
      (fun q => .ack q t.tag .E t.id none) := by
    simp [Dev.gather, Dev.gatherRead, hk, hstands, ha, Dev.deliverAck, Dev.recordGrant, Txn.reader, ho]
  rw [hgranted, Dev.granted]
  dsimp only
  rw [if_neg]
  · rw [Dev.respond, ho]
    rfl
  · rw [show Txn.port { t with grant := .E, got := none, phase := .grantAck } = p by rw [Txn.port, ho], Dev.respond, ho]
    dsimp only [destOf]
    rw [(tell_send _ _ _).dead, putTxn_table hmap.2]
    exact fun hc => Bool.false_ne_true (hmap.1.symm.trans hc)

/-- The device with the grant of a transaction recorded. -/
structure Granting (d g : Dev) (t : Txn) (e : DirEnt) (p : Nat) : Prop where
  frame : g = { d with dir := g.dir, cnf := g.cnf }
  txns : ∀ l, (∀ y ∈ l, ¬ (y.id == t.id) = true) → d.cnf.txns = l ++ [t] → ∃ v, v.id = t.id ∧ g.cnf.txns = l ++ [v]
  ent : g.dirFind t.line = some (e.exclusive p)

theorem putTxn_twice {d : Dev} (hs : d.twn.st = .single) (v : Txn) : ∃ l, (d.putTxn v).putTxn v = d.setTxns l := by
  have hput := putTxn_table hs v
  refine ⟨mapIf (fun x => x.id == v.id) (fun _ => v) (d.putTxn v).cnf.txns, ?_⟩
  rw [putTxn_table (d := d.putTxn v) (by rw [hput]; exact hs), hput]
  rfl

theorem exclusive_granting {d : Dev} {t v : Txn} {e : DirEnt} {p : Nat} (hs : d.twn.st = .single) (hv : v.id = t.id)
    (he : d.dirFind t.line = some e) (hst : e.st = .DS) :
    Granting d ((((d.dirTouch t.line).putTxn v).putTxn v).dirMap t.line (fun e => e.exclusive p)) t e p := by
  have hline : e.line = t.line := by simpa using List.find?_some he
  obtain ⟨l, hput⟩ := putTxn_twice (d := d.dirTouch t.line) hs v
  have hlast : ∀ l, (∀ y ∈ l, ¬ (y.id == t.id) = true) → d.cnf.txns = l ++ [t] →
      (((d.dirTouch t.line).putTxn v).putTxn v).cnf.txns = l ++ [v] := fun l hl ht =>
    putTxn_last (d := (d.dirTouch t.line).putTxn v) (t := v) (by rw [hv]; exact hl)
      (putTxn_last (d := d.dirTouch t.line) (t := t) (by rw [hv]; exact hl) ht hv.symm) rfl
  generalize ((d.dirTouch t.line).putTxn v).putTxn v = g at hput hlast ⊢
  have hgst : g.twn.st = .single := by rw [hput]; exact hs
  have hfind : g.dirFind t.line = some e := by
    rw [hput]
    exact (dirTouch_dirFind d t.line).trans he
  have hmap : g.dirMap t.line (fun e => e.exclusive p) = g.putDir (e.exclusive p) := by
    rw [Dev.dirMap, hfind]
    exact if_neg fun hc => by
      have hsame := congrArg DirEnt.st hc
      rw [hst] at hsame
      cases hsame
  rw [hmap]
  refine ⟨?_, fun l hl ht => ⟨v, hv, ?_⟩, ?_⟩
  · rw [putDir_alone hgst, hput]
    rfl
  · rw [putDir_alone hgst]
    exact hlast l hl ht
  · rw [← hline]
    exact putDir_dirFind (e := e.exclusive p) hgst (by rfl)

/-- An Upgrade by the only sharer of a line is granted at once (Table COH-6). -/
theorem decide_grants {d : Dev} {t : Txn} {e : DirEnt} {p : Nat} (hs : d.twn.st = .single) (hr : d.gcr.role = .standalone)
    (hk : t.kind = .upgrade) (ho : t.org = .agent p) (hown : t.asOwn = false) (hq : Machine.answered t = true)
    (he : d.dirEnt t.line = some e) (hst : e.st = .DS) (hovf : e.ovf = false) (hp : holdersOf e.ptr = [p])
    (hdead : d.portDead p = false) : ∃ u g, SameRequest t u ∧ u.phase = .grantAck ∧ Granting d g t e p ∧
      d.decide t = (g.putTxn u).tell p (.ack 0 t.tag .E t.id none) := by
  obtain ⟨own, shared, cached, hkind, hdecide⟩ := decide_owner hr (.inr hk) ho
  obtain ⟨hfind, hline⟩ := dirEnt_some he
  have hrec : e.records p = true := by
    have hmem : p ∈ holdersOf e.ptr := by rw [hp]; exact List.mem_singleton_self _
    obtain ⟨y, hy, hyp⟩ := List.mem_filterMap.mp hmem
    rw [DirEnt.records, List.contains_iff_mem, ← hyp]
    exact hy
  have hno : own = false := by
    rw [Bool.eq_false_iff]
    intro hc
    rcases (hkind hc).2 with hasOwn | hnone
    · rw [hown] at hasOwn
      exact Bool.false_ne_true hasOwn
    · rw [hnone e he hst] at hrec
      exact Bool.false_ne_true hrec
  subst hno
  have hent : (d.dirTouch t.line).dirEnt t.line = some e := by
    rw [Dev.dirEnt, dirTouch_dirFind]
    exact he
  have hplan : (d.dirTouch t.line).agentPlan { t with asOwn := false, wasShared := shared, hadX := false } cached = ⟨[], false⟩ := by
    simp [Dev.agentPlan, hent, hk, hst, hp, Txn.reader, ho, Dev.invPlan, hovf]
  generalize hv : planned { t with asOwn := false, wasShared := shared, hadX := false } ⟨[], false⟩ = v
  have hcarry : d.decide t = (((d.dirTouch t.line).putTxn v).putTxn v).gather v := by
    rw [hdecide, hplan, Dev.carry, hv]
    dsimp only
    rw [if_neg Bool.false_ne_true]
    show (if Machine.answered v = true then _ else _) = _
    rw [if_pos (by rw [← hv]; exact hq), Dev.endRoll, if_pos (by rw [← hv]; rfl)]
    rfl
  have hvline : v.line = t.line := by rw [← hv]; rfl
  obtain ⟨l, hput⟩ : ∃ l, ((d.dirTouch t.line).putTxn v).putTxn v = (d.dirTouch t.line).setTxns l :=
    putTxn_twice (d := d.dirTouch t.line) hs v
  have hgather := gather_upgrade (d := ((d.dirTouch t.line).putTxn v).putTxn v) (t := v) (p := p) (by rw [hput]; exact hr)
    (by rw [← hv]; exact hk) (by rw [← hv]; rfl) (by rw [← hv]; exact ho) (by rw [hput]; exact hdead) (by rw [hput]; exact hs)
  refine ⟨{ v with grant := .E, got := none, phase := .grantAck }, _, ?_, rfl,
    exclusive_granting (v := v) hs (by rw [← hv]; rfl) hfind hst, ?_⟩
  · rw [← hv]
    exact ⟨rfl, rfl, rfl, rfl, rfl⟩
  · rw [hcarry, hgather, hvline, ← hv]
    rfl

section
variable {d : Dev} {h : Head} {b : Body} {id : Nat} (ht : d.Enters h b id) (hb : b.kind ≠ .append)
include ht hb

omit hb in
/-- The port of a request that is taken is in service. -/
theorem enters_live : d.portDead h.port = false := by
  have href := ht.refusal
  unfold Dev.refusal at href
  dsimp only at href
  split at href
  · cases href
  · next hc =>
    have hserves : d.portServes h.port = true := by
      by_contra hno
      exact hc (by simp [hno])
    rw [Dev.portServes, Bool.and_eq_true] at hserves
    rw [Dev.portDead, hserves.1]
    rfl

/-- The only sharer of a line is granted ownership (R107, R110). -/
theorem arrive_grants {x : Header} {e : DirEnt} (hk : b = .upgrade) (hx : d.header? (d.setOf (lineOf h.addr)) = some x)
    (he : d.dirEnt (lineOf h.addr) = some e) (hst : e.st = .DS) (hovf : e.ovf = false) (hp : holdersOf e.ptr = [h.port]) :
    (arrive false ⟨h, b, none⟩ d).opened id .grantAck b.kind h ∧
      (arrive false ⟨h, b, none⟩ d).told d h.port (.ack 0 h.tag .E id none) ∧
      (arrive false ⟨h, b, none⟩ d).dirFind (lineOf h.addr) = some (e.exclusive h.port) ∧
      d.sent <:+ (arrive false ⟨h, b, none⟩ d).sent := by
  have halone := plain_iff.mp ht.plain
  have hline : (d.opening ⟨h, b, none⟩ id).line = lineOf h.addr := txnOf_line hb
  have htag : (d.opening ⟨h, b, none⟩ id).tag = h.tag := txnOf_tag d _
  have hview := opening_view (id := id) ht hb .grantAck
  have hkind : (d.opening ⟨h, b, none⟩ id).kind = .upgrade := by rw [hk]; rfl
  have hfresh : (d.opening ⟨h, b, none⟩ id).asOwn = false ∧ answered (d.opening ⟨h, b, none⟩ id) = true := by
    rw [hk]
    exact ⟨rfl, rfl⟩
  have horg : (d.opening ⟨h, b, none⟩ id).org = .agent h.port := txnOf_org halone.role _
  have hlive := enters_live ht
  obtain ⟨hfind, heline⟩ := dirEnt_some he
  have hgo := arrive_decides ht hb (id := id) (by rw [hk]; rfl) hfind hx
  have hF := entered_front (id := id) ht (by rw [hst]; decide) (d.setOf (lineOf h.addr)) (e := e)
  generalize (d.entered ⟨h, b, none⟩ id).fronted e (d.setOf (lineOf h.addr)) = f at hgo hF
  have hent : f.dirEnt (lineOf h.addr) = some e := by
    rw [Dev.dirEnt, ← heline, hF.ent]
    simp [hst]
  obtain ⟨u, g, hsame, hu, hg, hdecide⟩ := decide_grants (d := f) (t := d.opening ⟨h, b, none⟩ id) (e := e) (p := h.port)
    hF.st hF.role hkind horg hfresh.1 hfresh.2 (by rw [hline]; exact hent) hst hovf hp (by rw [hF.dead]; exact hlive)
  obtain ⟨v, hv, hgtab⟩ := hg.txns d.cnf.txns (enters_fresh ht.free) hF.txns
  have hgst : g.twn.st = .single := by rw [hg.frame]; exact hF.st
  have hput := putTxn_alone hgst u
  have htab := putTxn_last (d := g) (u := u) (by rw [hsame.id]; exact enters_fresh ht.free) hgtab (by rw [hv, hsame.id])
  have hquiet : QuietSend d (g.putTxn u) := hF.quiet.trans (by rw [hput, hg.frame]; exact .aside rfl rfl rfl (List.suffix_refl _))
  have hent' : (g.putTxn u).dirFind (lineOf h.addr) = some (e.exclusive h.port) := by
    rw [hput, ← hline]
    exact hg.ent
  have hsend := tell_send (g.putTxn u) h.port (.ack 0 h.tag .E id none)
  have htold := tell_told (d := g.putTxn u) (n := h.port) (m := .ack 0 h.tag .E id none)
    (by rw [hput]; show g.twn.st ≠ _; rw [hgst]; decide)
    (by rw [hput, hg.frame]; exact hF.mirror) (.inr (by rw [hput, hg.frame]; show _ < f.ports.length; rw [hF.ports]; exact ht.port))
  have hrole : (g.putTxn u).gcr.role = .standalone := by rw [hput, hg.frame]; exact hF.role
  rw [hdecide, htag, show (d.opening ⟨h, b, none⟩ id).id = id from rfl] at hgo
  have hphase : u.phase ≠ .standby ∧ u.phase ≠ .waitPlace := by rw [hu]; decide
  generalize hk' : (g.putTxn u).tell h.port _ = k at hsend htold hgo
  have hkrole : k.gcr.role = .standalone := by rw [hsend.gcr]; exact hrole
  have hktab : k.cnf.txns = d.cnf.txns ++ [u] := by rw [hsend.txns]; exact htab
  refine ⟨?_, ?_, ?_, ?_⟩
  · rw [Dev.opened, arrive_opened ht hb hgo hktab hkrole hphase hsame.id, ← hview, ← hsame.kind, ← hsame.line, ← hsame.tag, ← hsame.org,
      ← hu]
    rfl
  · rw [arrive_alone ht hb hgo hktab hkrole hphase]
    exact (credited_quiet k h.port).grow.told (hquiet.sent.trans hsend.sent) (hquiet.grow.told_before hsend.sent htold)
  · rw [arrive_alone ht hb hgo hktab hkrole hphase, Dev.dirFind, (credited_send k h.port).dir, hsend.dir]
    exact hent'
  · rw [arrive_alone ht hb hgo hktab hkrole hphase]
    exact (hquiet.sent.trans hsend.sent).trans (credited_send k h.port).sent

end

/-! ## The obligation -/

theorem arrives_first {s : State} {r : Req} (hruns : s.dev.runs = true) (hf : s.first r = true) :
    ∃ t, s.arrives r = .next t ∧ t.dev = settle (arrive false r s.dev) := by
  have hlate : s.thisCycle.any (s.dev.goesBefore r) = false := by simpa [State.first] using hf
  exact ⟨_, by rw [State.arrives, onCore_runs hruns, hlate], State.setDev_dev ..⟩

theorem takesNow_arrives {s : State} {h : Head} {b : Body} {id : Nat} (ht : s.takesNow h b id = true) :
    s.dev.Enters h b id ∧ ∃ t, s.arrives ⟨h, b, none⟩ = .next t ∧ t.dev = settle (arrive false ⟨h, b, none⟩ s.dev) := by
  rw [State.takesNow, Bool.and_eq_true] at ht
  have henters := takesNow_iff ht.1
  exact ⟨henters, arrives_first (plain_iff.mp henters.plain).runs ht.2⟩

theorem settle_opened {d : Dev} {id : Nat} {ph : Phase} {k : Kind} {h : Head} (ho : d.opened id ph k h) :
    (settle d).opened id ph k h := by
  rw [Dev.opened, settle_txn?]
  exact ho

/-- A request at an idle line whose header is away opens its transaction and has the header fetched. -/
theorem arrives_fetches {s : State} {h : Head} {b : Body} {id : Nat} (hb : b.kind ≠ .append) (ht : s.takesNow h b id = true)
    (ha : s.dev.headerAway (lineOf h.addr) = true) :
    ∃ t, s.arrives ⟨h, b, none⟩ = .next t ∧ t.dev.fetchesFor s.dev id b.kind h := by
  obtain ⟨henters, t, hrun, hdev⟩ := takesNow_arrives ht
  obtain ⟨⟨hopen, hmem, hdrove⟩, hsent⟩ := arrive_fetches henters hb ha
  refine ⟨t, hrun, ?_⟩
  rw [hdev]
  refine ⟨settle_opened hopen, ?_, drove_settle hdrove hsent⟩
  rw [settle_hdc]
  exact hmem

/-- Settles O28: a request taken at an idle line opens its transaction; the header of its set is fetched, the exclusive holder is
asked, and the only sharer is granted ownership. -/
theorem requestsOpenTransactions : Obligations.RequestsOpenTransactions := by
  unfold Obligations.RequestsOpenTransactions
  refine ⟨fun h id s => arrives_fetches (by decide), fun h id s => arrives_fetches (by decide), fun h id s => arrives_fetches (by decide),
    fun h ch id s => arrives_fetches nofun, fun h id s => arrives_fetches (by decide), fun h ch id p s => arrives_fetches nofun,
    fun h ch id m p s => arrives_fetches nofun, ?_, ?_⟩
  · intro h id q x e s ht hx he hst hq hne hport hdead hhold
    obtain ⟨henters, t, hrun, hdev⟩ := takesNow_arrives ht
    obtain ⟨hopen, htold, hsent⟩ := arrive_snoops henters (by decide) rfl hx he hst hq hne hport hdead hhold
    refine ⟨t, hrun, ?_⟩
    rw [hdev]
    exact ⟨settle_opened hopen, (settle_grow _).told hsent htold⟩
  · intro h id x e s ht hx he hst hovf hp
    obtain ⟨henters, t, hrun, hdev⟩ := takesNow_arrives ht
    obtain ⟨hopen, htold, hent, hsent⟩ := arrive_grants henters (by decide) rfl hx he hst hovf hp
    refine ⟨t, hrun, ?_⟩
    rw [hdev]
    refine ⟨settle_opened hopen, (settle_grow _).told hsent htold, ?_⟩
    have hfind : (settle (arrive false ⟨h, .upgrade, none⟩ s.dev)).dirFind (lineOf h.addr) = some (e.exclusive h.port) := by
      rw [Dev.dirFind, settle_dir]
      exact hent
    rw [Dev.dirEnt, hfind]
    rfl

end Sys2Proof.Machine
end

section
/-! SUPPORT. Moves of the device: the small changes that the pipeline, its engines and its links are made of, and what no run of
them touches. -/

namespace Sys2Proof.Machine

set_option Elab.async false

/-- What a run of moves may reach beyond its own ground. -/
inductive Part where
  /-- the directory records holders of a line -/
  | grants (line : Nat)
  | streams
  /-- the receive buffers -/
  | receives
  /-- Doze, and the stop of requests -/
  | sleeps
  /-- registers other than counts and events -/
  | registers
  /-- anything that keeps the invariant of the device -/
  | rest

/-- A write of a register field that clears no event below the checker's registers and is not of PWR_REFUSE. -/
def steady (f : FieldRef) (v : Nat) : Bool :=
  Nat.ble 0x21010 f.ofs ||
    f.ofs != R.PWR_REFUSE.STAGE.ofs && (f.ofs % 0x1000 != 0xC || (fieldOk f && f.hi == f.lo && v == 1))

theorem steady_high {f : FieldRef} (v : Nat) (h : 0x21010 ≤ f.ofs) : steady f v = true := by
  rw [steady, Nat.ble_eq_true_of_le h, Bool.true_or]

/-- The pair of words at an offset holds no event and is not PWR_REFUSE. -/
def steadyPair (o : Nat) : Bool :=
  o != R.PWR_REFUSE.STAGE.ofs && o + 4 != R.PWR_REFUSE.STAGE.ofs && o % 0x1000 != 0xC && (o + 4) % 0x1000 != 0xC

/-- A serving side that keeps a mirror side up to date. -/
def Twn.serving (x : Twn) : Prop := x.mirror = false ∧ (x.st = .mirrored ∨ x.st = .copy)

/-- The state of the pair is the same: what it decides on, the copies that wait, and, without a mirror side, what is sent there. -/
structure SamePair (a b : Twn) : Prop where
  st : b.st = a.st
  mirror : b.mirror = a.mirror
  epoch : b.epoch = a.epoch
  window : b.window = a.window
  peer : b.peer = a.peer
  matched : b.matched = a.matched
  heard : b.heard = a.heard
  candidate : b.candidate = a.candidate
  alone : b.alone = a.alone
  found : b.found = a.found
  fromCopy : b.fromCopy = a.fromCopy
  held : b.held = a.held
  stream : Twn.serving b ∨ b.unacked = a.unacked ∧ b.items = a.items

/-- What is known of a transaction of the table: the directory may record its grant, it waits for a place, or it was there before
with its line in its phase. -/
def Known (F : Part → Prop) (base : Dev) (t : Txn) : Prop :=
  F (.grants t.line) ∨ F .rest ∨ base.gcr.role ≠ .standalone ∨ t.phase = .queued ∨ t.phase = .waitPlace ∨
    ∃ u ∈ base.cnf.txns, u.line = t.line ∧ u.phase = t.phase

/-- A device is reached from another by moves that keep to the parts F. -/
inductive Moves (F : Part → Prop) (base : Dev) : Dev → Prop
  | refl : Moves F base base
  | mode {d : Dev} (h : Moves F base d) (m : Mode) (p : Nat) (x : Bool) :
      Moves F base { d with gcr := { d.gcr with mode := m, prev := p, fault := x } }
  | writeTo {d : Dev} (h : Moves F base d) (f : FieldRef) (v : Nat) (hs : F .registers ∨ steady f v = true) : Moves F base (d.set f v)
  | writePair {d : Dev} (h : Moves F base d) (o v : Nat) (hs : F .registers ∨ steadyPair o = true) : Moves F base (d.set64 o v)
  | clk {d : Dev} (h : Moves F base d) (x : Clk) : Moves F base { d with clk := x }
  | pwrTo {d : Dev} (h : Moves F base d) (x : Pwr) (hx : F .sleeps ∨ x.doze = d.pwr.doze) : Moves F base { d with pwr := x }
  | pur {d : Dev} (h : Moves F base d) (x : Pur) : Moves F base { d with pur := x }
  | evc {d : Dev} (h : Moves F base d) (x : Evc) : Moves F base { d with evc := x }
  | queueTo {d : Dev} (h : Moves F base d) (n : Nat) (q : Queue)
      (hq : q.recs.length ≤ queueDepth n ∨ q.recs.length ≤ (d.queue n).recs.length) : Moves F base (d.setQueue n q)
  | seq {d : Dev} (h : Moves F base d) (x : Nat) : Moves F base { d with que := { d.que with seq := x } }
  | pmu {d : Dev} (h : Moves F base d) (x : Pmu) : Moves F base { d with pmu := x }
  | hdc {d : Dev} (h : Moves F base d) (x : Hdc) : Moves F base { d with hdc := x }
  | pipTo {d : Dev} (h : Moves F base d) (x : Pip) (hx : F .sleeps ∨ x.stopped = d.pip.stopped)
      (hq : d.pip.quar.length ≤ 64 → x.quar.length ≤ 64) : Moves F base { d with pip := x }
  | wbf {d : Dev} (h : Moves F base d) (x : Wbf) : Moves F base { d with wbf := x }
  | dirTo {d : Dev} (h : Moves F base d) (l : List DirEnt) (hl : ∀ e ∈ l, F (.grants e.line) ∨
      ∀ p, e.records p = true → ∃ y ∈ d.dir.ents, y.line = e.line ∧ y.records p = true) :
      Moves F base { d with dir := { d.dir with ents := l } }
  | sdr {d : Dev} (h : Moves F base d) (x : Sdr) : Moves F base { d with sdr := x }
  | cnfTo {d : Dev} (h : Moves F base d) (x : Cnf) (hx : F .receives ∨ x.waiting = d.cnf.waiting)
      (hk : ∀ t ∈ x.txns, Known F base t) : Moves F base { d with cnf := x }
  | dep {d : Dev} (h : Moves F base d) (x : DepS) : Moves F base { d with dep := x }
  | apd {d : Dev} (h : Moves F base d) (hF : F .streams) (x : Apd) : Moves F base { d with apd := x }
  | hie {d : Dev} (h : Moves F base d) (u : List (Nat × Bool × Bool)) (f : List (Nat × Nat × Msg)) (l : List (Nat × Nat)) :
      Moves F base { d with hie := { d.hie with phases := u, fwd := f, depCredits := l } }
  | twnTo {d : Dev} (h : Moves F base d) (x : Twn) (hx : SamePair d.twn x) : Moves F base { d with twn := x }
  | held {d : Dev} (h : Moves F base d) (k n : Nat) (m : Msg) (hk : d.awaits = some k) :
      Moves F base { d with twn := { d.twn with held := d.twn.held ++ [(k, n, m)] } }
  | detached {d : Dev} (h : Moves F base d) (hm : d.isMirror = true) :
      Moves F base { d with twn := { d.twn with st := .detached } }
  | lane {d : Dev} (h : Moves F base d) (n : Nat) (l : Lane) : Moves F base (d.setLane n l)
  | eccTo {d : Dev} (h : Moves F base d) (x : Ecc) (hx : d.ecc.loc.length ≤ 1024 → x.loc.length ≤ 1024) :
      Moves F base { d with ecc := x }
  | burst {d : Dev} (h : Moves F base d) (lane slot : Nat) (x : Burst) : Moves F base (d.putBurst lane slot x)
  | portTo {d : Dev} (h : Moves F base d) (n : Nat) (p : Port) (hp : F .rest ∨ p.txq = (d.port n).txq) :
      Moves F base (d.setPort n p)
  | portSent {c d : Dev} (hc : Moves F base c) (h : Moves F base d) (n : Nat) (p : Port) (hg : CopiesGrow c (d.setPort n p)) :
      Moves F base (d.setPort n p)
  | mp {d : Dev} (h : Moves F base d) (n : Nat) (m : Mp) : Moves F base (d.setMp n m)
  | emit {d : Dev} (h : Moves F base d) (o : Out) : Moves F base (d.emit o)
  | free {d : Dev} (h : Moves F base d) (n : Nat) : Moves F base { d with free := n }
  | rest {d e : Dev} (h : Moves F base d) (hF : F .rest) (hi : d.Inv → e.Inv) : Moves F base e

/-! ## The invariant of the device -/

theorem depth_setQueue {d : Dev} {n : Nat} {q : Queue} (h : ∀ k, (d.queue k).recs.length ≤ queueDepth k)
    (hq : q.recs.length ≤ queueDepth n ∨ q.recs.length ≤ (d.queue n).recs.length) (k : Nat) :
    ((d.setQueue n q).queue k).recs.length ≤ queueDepth k := by
  rw [Dev.queue, Dev.setQueue, List.getElem?_set]
  split
  · next he =>
    subst he
    split
    · exact hq.elim id fun hq => hq.trans (h n)
    · exact Nat.zero_le _
  · exact h k

/-- Moves keep the invariant of the device. -/
theorem Moves.inv {F : Part → Prop} {base d : Dev} (h : Moves F base d) (hb : base.Inv) : d.Inv := by
  induction h with
  | refl => exact hb
  | rest _ _ hi ih => exact hi ih
  | writeTo _ f v _ ih => exact { ih with regs := rising_setRaw _ _ ih.regs }
  | writePair _ o v _ ih => exact { ih with regs := rising_setRaw _ _ (rising_setRaw _ _ ih.regs) }
  | queueTo _ n q hq ih =>
    exact { ih with queues := by rw [Dev.setQueue, List.length_set]; exact ih.queues, depth := depth_setQueue ih.depth hq }
  | pipTo _ x _ hq ih => exact { ih with quar := hq ih.quar }
  | eccTo _ x hx ih => exact { ih with loc := hx ih.loc }
  | burst _ lane slot x ih => exact { ih with store := Memory.wf_putBurst lane slot x ih.store }
  | lane _ n l ih => exact { ih with lanes := by rw [Dev.setLane, List.length_set]; exact ih.lanes }
  | mp _ n m ih => exact { ih with mps := by rw [Dev.setMp, List.length_set]; exact ih.mps }
  | portTo _ n p _ ih | portSent _ _ n p _ _ ih =>
    rw [setPort_frame]
    exact { ih with ports := (setPort_ports_length _ n p).trans ih.ports }
  | mode _ _ _ _ ih | clk _ _ ih | pwrTo _ _ _ ih | pur _ _ ih | evc _ _ ih | seq _ _ ih | pmu _ _ ih | hdc _ _ ih | wbf _ _ ih
  | dirTo _ _ _ ih | sdr _ _ ih | cnfTo _ _ _ _ ih | dep _ _ ih | apd _ _ _ ih | hie _ _ _ _ ih | twnTo _ _ _ ih | held _ _ _ _ _ ih
  | detached _ _ ih | emit _ _ ih | free _ _ ih => exact { ih with }

/-- Every transaction of the table is known. -/
theorem Moves.known {F : Part → Prop} {base d : Dev} (h : Moves F base d) : ∀ t ∈ d.cnf.txns, Known F base t := by
  induction h with
  | refl => exact fun t ht => .inr (.inr (.inr (.inr (.inr ⟨t, ht, rfl, rfl⟩))))
  | rest _ hF _ _ => exact fun _ _ => .inr (.inl hF)
  | cnfTo _ _ _ hk _ => exact hk
  | portTo _ n p _ ih | portSent _ _ n p _ _ ih => rw [setPort_frame]; exact ih
  | _ => assumption

/-! ## What no run of moves touches -/

section
variable {F : Part → Prop} {base d : Dev}

/-- The role and side of the device stay. -/
theorem Moves.gcr (hF : ¬ F .rest) (h : Moves F base d) : { d.gcr with mode := base.gcr.mode, prev := base.gcr.prev, fault := base.gcr.fault } = base.gcr := by
  induction h with
  | rest _ h _ _ => exact absurd h hF
  | portTo _ n p _ ih | portSent _ _ n p _ _ ih => rw [setPort_frame]; exact ih
  | refl => rfl
  | _ => assumption

theorem Moves.role (hF : ¬ F .rest) (h : Moves F base d) : d.gcr.role = base.gcr.role := (congrArg Gcr.role (h.gcr hF) :)

theorem Moves.apd_eq (hF : ¬ F .rest) (hs : ¬ F .streams) (h : Moves F base d) : d.apd = base.apd := by
  induction h with
  | rest _ h _ _ => exact absurd h hF
  | apd _ h _ _ => exact absurd h hs
  | portTo _ n p _ ih | portSent _ _ n p _ _ ih => rw [setPort_frame]; exact ih
  | refl => rfl
  | _ => assumption

/-- Messages told stay told. -/
theorem Moves.grow (hF : ¬ F .rest) (h : Moves F base d) : CopiesGrow base d := by
  induction h with
  | rest _ h _ _ => exact absurd h hF
  | refl => exact .refl base
  | portSent _ _ n p hg ihc _ => exact ihc.trans hg
  | portTo _ n p hp ih => exact ih.trans (setPort_quiet (hp.resolve_left hF)).grow
  | held _ k n m _ ih => exact ih.trans (held_grow ..)
  | twnTo _ x hx ih => exact ih.trans (QuietSend.grow (.aside rfl rfl hx.held (List.suffix_refl _)))
  | emit _ o ih => exact ih.trans (emit_quiet ..).grow
  | _ =>
    rename_i ih
    refine ih.trans (QuietSend.grow (.aside ?_ ?_ ?_ (List.suffix_refl _))) <;> rfl

/-- What is decided about the pair, its state aside. -/
structure SameTerms (a b : Twn) : Prop where
  mirror : b.mirror = a.mirror
  epoch : b.epoch = a.epoch
  window : b.window = a.window
  peer : b.peer = a.peer
  matched : b.matched = a.matched
  heard : b.heard = a.heard
  candidate : b.candidate = a.candidate
  alone : b.alone = a.alone
  found : b.found = a.found
  fromCopy : b.fromCopy = a.fromCopy

theorem Moves.terms (hF : ¬ F .rest) (h : Moves F base d) : SameTerms base.twn d.twn := by
  induction h with
  | rest _ h _ _ => exact absurd h hF
  | portTo _ n p _ ih | portSent _ _ n p _ _ ih => rw [setPort_frame]; exact ih
  | refl => exact ⟨rfl, rfl, rfl, rfl, rfl, rfl, rfl, rfl, rfl, rfl⟩
  | held _ _ _ _ _ ih | detached _ _ ih =>
    exact ⟨ih.mirror, ih.epoch, ih.window, ih.peer, ih.matched, ih.heard, ih.candidate, ih.alone, ih.found, ih.fromCopy⟩
  | twnTo _ x hx ih =>
    exact ⟨hx.mirror.trans ih.mirror, hx.epoch.trans ih.epoch, hx.window.trans ih.window, hx.peer.trans ih.peer,
      hx.matched.trans ih.matched, hx.heard.trans ih.heard, hx.candidate.trans ih.candidate, hx.alone.trans ih.alone,
      hx.found.trans ih.found, hx.fromCopy.trans ih.fromCopy⟩
  | _ => assumption

theorem Moves.mirror_eq (hF : ¬ F .rest) (h : Moves F base d) : d.twn.mirror = base.twn.mirror := (h.terms hF).mirror

/-- A side that is no mirror stays in its state of the pair. -/
theorem Moves.pair (hF : ¬ F .rest) (hm : base.twn.mirror = false) (h : Moves F base d) : d.twn.st = base.twn.st := by
  induction h with
  | rest _ h _ _ => exact absurd h hF
  | portTo _ n p _ ih | portSent _ _ n p _ _ ih => rw [setPort_frame]; exact ih
  | refl => rfl
  | detached h hd _ =>
    rw [Dev.isMirror, h.mirror_eq hF, hm] at hd
    exact absurd hd Bool.false_ne_true
  | twnTo _ x hx ih => exact hx.st.trans ih
  | _ => assumption

/-- Without a mirror side nothing is sent to one. -/
theorem Moves.stream_eq (hF : ¬ F .rest) (hm : base.twn.mirror = false) (hs : ¬ Twn.serving base.twn) (h : Moves F base d) :
    d.twn.unacked = base.twn.unacked ∧ d.twn.items = base.twn.items := by
  induction h with
  | rest _ h _ _ => exact absurd h hF
  | portTo _ n p _ ih | portSent _ _ n p _ _ ih => rw [setPort_frame]; exact ih
  | refl => exact ⟨rfl, rfl⟩
  | twnTo h x hx ih =>
    rcases hx.stream with ⟨hxm, hxs⟩ | ⟨hu, hi⟩
    · rw [hx.st, h.pair hF hm] at hxs
      exact absurd ⟨hm, hxs⟩ hs
    · exact ⟨hu.trans ih.1, hi.trans ih.2⟩
  | _ => assumption

theorem awaits_none {d : Dev} (hm : d.twn.mirror = false) (hf : d.twn.st ≠ .fenced) (h1 : d.twn.st ≠ .mirrored)
    (h2 : d.twn.st ≠ .copy) : d.awaits = none := by
  have hmir : d.mirrors = false := by simp [Dev.mirrors, hm, h1, h2]
  simp [Dev.awaits, hf, hmir]

/-- No copy waits on a side that awaits no mirror side. -/
theorem Moves.held_eq (hF : ¬ F .rest) (hm : base.twn.mirror = false) (hs : ¬ Twn.serving base.twn) (hf : base.twn.st ≠ .fenced)
    (h : Moves F base d) : d.twn.held = base.twn.held := by
  induction h with
  | rest _ h _ _ => exact absurd h hF
  | portTo _ n p _ ih | portSent _ _ n p _ _ ih => rw [setPort_frame]; exact ih
  | refl => rfl
  | twnTo _ x hx ih => exact hx.held.trans ih
  | held h k n m hk _ =>
    have hmir : _ = false := (h.mirror_eq hF).trans hm
    rw [← h.pair hF hm] at hf
    have hno : ¬ (_ ∨ _) := fun hc => hs ⟨hm, h.pair hF hm ▸ hc⟩
    have hnone := awaits_none hmir hf (fun hc => hno (.inl hc)) (fun hc => hno (.inr hc))
    rw [hnone] at hk
    cases hk
  | _ => assumption

/-- The device's place on the chain stays. -/
theorem Moves.chn_eq (hF : ¬ F .rest) (h : Moves F base d) : d.chn = base.chn := by
  induction h with
  | rest _ h _ _ => exact absurd h hF
  | portTo _ n p _ ih | portSent _ _ n p _ _ ih => rw [setPort_frame]; exact ih
  | refl => rfl
  | _ => assumption

theorem Moves.ports_length (hF : ¬ F .rest) (h : Moves F base d) : d.ports.length = base.ports.length := by
  induction h with
  | rest _ h _ _ => exact absurd h hF
  | portTo _ n p _ ih | portSent _ _ n p _ _ ih => rw [setPort_ports_length]; exact ih
  | refl => rfl
  | _ => assumption

theorem Moves.waiting_eq (hF : ¬ F .rest) (hw : ¬ F .receives) (h : Moves F base d) : d.cnf.waiting = base.cnf.waiting := by
  induction h with
  | rest _ h _ _ => exact absurd h hF
  | cnfTo _ x hx _ ih => exact (hx.resolve_left hw).trans ih
  | portTo _ n p _ ih | portSent _ _ n p _ _ ih => rw [setPort_frame]; exact ih
  | refl => rfl
  | _ => assumption

theorem Moves.doze_eq (hF : ¬ F .rest) (hw : ¬ F .sleeps) (h : Moves F base d) : d.pwr.doze = base.pwr.doze := by
  induction h with
  | rest _ h _ _ => exact absurd h hF
  | pwrTo _ x hx ih => exact (hx.resolve_left hw).trans ih
  | portTo _ n p _ ih | portSent _ _ n p _ _ ih => rw [setPort_frame]; exact ih
  | refl => rfl
  | _ => assumption

theorem Moves.stopped_eq (hF : ¬ F .rest) (hw : ¬ F .sleeps) (h : Moves F base d) : d.pip.stopped = base.pip.stopped := by
  induction h with
  | rest _ h _ _ => exact absurd h hF
  | pipTo _ x hx _ ih => exact (hx.resolve_left hw).trans ih
  | portTo _ n p _ ih | portSent _ _ n p _ _ ih => rw [setPort_frame]; exact ih
  | refl => rfl
  | _ => assumption

theorem flag_iff_bit {d : Dev} {f : FieldRef} (hf : f.hi = f.lo) : d.flag f = true ↔ (d.raw f.ofs).getLsbD f.lo = true := by
  rw [Dev.flag, Dev.get, bits, hf, Nat.add_sub_cancel_left, Nat.pow_one, beq_iff_eq, Nat.shiftRight_eq_div_pow, BitVec.getLsbD,
    Nat.testBit_eq_decide_div_mod_eq, decide_eq_true_eq]

/-- Pending bits of the event words below the checker's registers stay. -/
theorem Moves.event_bit (hF : ¬ F .rest) (hr : ¬ F .registers) (h : Moves F base d) {o : Nat} (ho : o % 0x1000 = 0xC)
    (hlow : o < 0x21010) (i : Nat) (hi : (base.raw o).getLsbD i = true) : (d.raw o).getLsbD i = true := by
  induction h with
  | rest _ h _ _ => exact absurd h hF
  | refl => exact hi
  | portTo _ n p _ ih | portSent _ _ n p _ _ ih => rw [setPort_frame]; exact ih
  | writeTo _ f v hs ih =>
    have hs := hs.resolve_left hr
    by_cases he : o = f.ofs
    · have hlt : Nat.ble 0x21010 f.ofs = false := by
        rw [Bool.eq_false_iff, Ne, Nat.ble_eq]
        omega
      have hev : fieldOk f = true ∧ f.hi = f.lo ∧ v = 1 := by
        rw [steady, hlt, Bool.false_or, Bool.and_eq_true] at hs
        simpa [← he, ho, and_assoc] using hs.2
      obtain ⟨hok, hb, rfl⟩ := hev
      subst he
      exact raise_keeps_bit hok hb ih
    · rwa [raw_set_ne _ _ _ _ he]
  | writePair _ k v hs ih =>
    have hs := hs.resolve_left hr
    simp only [steadyPair, Bool.and_eq_true, bne_iff_ne] at hs
    obtain ⟨⟨-, hk⟩, hk4⟩ := hs
    rw [raw_set64_ne _ _ _ (by rintro rfl; exact hk ho) (by rintro rfl; exact hk4 ho)]
    exact ih
  | _ => assumption

/-- An event that has been raised stays raised. -/
theorem Moves.flag (hF : ¬ F .rest) (hr : ¬ F .registers) (h : Moves F base d) {f : FieldRef} (ho : f.ofs % 0x1000 = 0xC)
    (hlow : f.ofs < 0x21010) (hf : f.hi = f.lo) (hb : base.flag f = true) : d.flag f = true := by
  rw [flag_iff_bit hf] at hb ⊢
  exact h.event_bit hF hr ho hlow _ hb

/-- The reason Doze was refused stays. -/
theorem Moves.refusal_raw (hF : ¬ F .rest) (hr : ¬ F .registers) (h : Moves F base d) :
    d.raw R.PWR_REFUSE.STAGE.ofs = base.raw R.PWR_REFUSE.STAGE.ofs := by
  induction h with
  | rest _ h _ _ => exact absurd h hF
  | refl => rfl
  | portTo _ n p _ ih | portSent _ _ n p _ _ ih => rw [setPort_frame]; exact ih
  | writeTo _ f v hs ih =>
    have hne : R.PWR_REFUSE.STAGE.ofs ≠ f.ofs := by
      intro he
      have hs := hs.resolve_left hr
      rw [steady, ← he] at hs
      exact Bool.false_ne_true hs
    rw [raw_set_ne _ _ _ _ hne]
    exact ih
  | writePair _ k v hs ih =>
    have hs := hs.resolve_left hr
    simp only [steadyPair, Bool.and_eq_true, bne_iff_ne] at hs
    obtain ⟨⟨⟨hk, hk4⟩, -⟩, -⟩ := hs
    rw [raw_set64_ne _ _ _ hk.symm hk4.symm]
    exact ih
  | _ => assumption

/-- A port that no entry of a line records stays so. -/
theorem Moves.unrecorded {line p : Nat} (hF : ¬ F .rest) (hg : ¬ F (.grants line)) (h : Moves F base d)
    (hb : ∀ e ∈ base.dir.ents, e.line = line → e.records p = false) : ∀ e ∈ d.dir.ents, e.line = line → e.records p = false := by
  induction h with
  | rest _ h _ _ => exact absurd h hF
  | dirTo _ l hl ih =>
    intro e he hline
    by_contra hr
    rcases hl e he with h | h
    · exact hg (hline ▸ h)
    · obtain ⟨y, hy, hyl, hyr⟩ := h p (by simpa using hr)
      rw [ih y hy (hyl.trans hline)] at hyr
      exact Bool.false_ne_true hyr
  | portTo _ n p _ ih | portSent _ _ n p _ _ ih => rw [setPort_frame]; exact ih
  | refl => exact hb
  | _ => assumption

end

end Sys2Proof.Machine
end

section
/-! SUPPORT. What the shared operations are moves of: registers, records, ports and their flits, the mirror stream, tokens. -/

namespace Sys2Proof.Machine

set_option Elab.async false

variable {F : Part → Prop} {base d : Dev}

/-! ## Ways to move -/

theorem Moves.ite {c : Prop} [Decidable c] {x y : Dev} (hx : Moves F base x) (hy : Moves F base y) :
    Moves F base (if c then x else y) := by
  split
  · exact hx
  · exact hy

theorem Moves.iteSnd {α : Type} {c : Prop} [Decidable c] {x y : α × Dev} (hx : Moves F base x.2) (hy : Moves F base y.2) :
    Moves F base (if c then x else y).2 := by
  split
  · exact hx
  · exact hy

theorem Moves.foldl {α : Type} {f : Dev → α → Dev} (h : Moves F base d) (l : List α)
    (hf : ∀ e x, Moves F base e → Moves F base (f e x)) : Moves F base (l.foldl f d) := by
  induction l generalizing d with
  | nil => exact h
  | cons x l ih => exact ih (hf d x h)

/-- A run over a list whose elements each keep a property that the moves need. -/
theorem Moves.foldl_mem {α : Type} {f : Dev → α → Dev} (h : Moves F base d) (l : List α)
    (hf : ∀ x ∈ l, ∀ e, Moves F base e → Moves F base (f e x)) : Moves F base (l.foldl f d) := by
  induction l generalizing d with
  | nil => exact h
  | cons x l ih =>
    exact ih (hf x (List.mem_cons_self ..) d h) fun y hy => hf y (List.mem_cons_of_mem _ hy)

theorem Moves.snd {α : Type} {r : α × Dev} {a : α} (h : Moves F base r.2) (he : r = (a, d)) : Moves F base d := by
  subst he
  exact h

theorem Moves.set (h : Moves F base d) (f : FieldRef) (v : Nat)
    (hs : F .registers ∨ steady f v = true := by first | exact .inl trivial | exact .inr rfl) : Moves F base (d.set f v) :=
  h.writeTo f v hs

theorem Moves.set64 (h : Moves F base d) (o v : Nat)
    (hs : F .registers ∨ steadyPair o = true := by first | exact .inl trivial | exact .inr rfl) : Moves F base (d.set64 o v) :=
  h.writePair o v hs

theorem Moves.raise (h : Moves F base d) (f : FieldRef)
    (hs : F .registers ∨ steady f 1 = true := by first | exact .inl trivial | exact .inr rfl) : Moves F base (d.raise f) :=
  h.set f 1 hs

theorem Moves.raiseIf (h : Moves F base d) (c : Bool) (f : FieldRef)
    (hs : F .registers ∨ steady f 1 = true := by first | exact .inl trivial | exact .inr rfl) : Moves F base (d.raiseIf c f) :=
  .ite (h.raise f hs) h

/-- A field that may be cleared may be written. -/
theorem steady_of_zero {f : FieldRef} (v : Nat) (h : steady f 0 = true) : steady f v = true := by
  rw [steady, Bool.or_eq_true, Bool.and_eq_true] at h ⊢
  refine h.imp_right fun h => ⟨h.1, ?_⟩
  have hofs : (f.ofs % 0x1000 != 0xC) = true := by simpa using h.2
  rw [hofs, Bool.true_or]

theorem Moves.bumpSat (h : Moves F base d) (f : FieldRef) (n : Nat)
    (hs : F .registers ∨ steady f 0 = true := by first | exact .inl trivial | exact .inr rfl) : Moves F base (d.bumpSat f n) :=
  h.set _ _ (hs.imp_right (steady_of_zero _))

theorem Moves.bump64 (h : Moves F base d) (o n : Nat)
    (hs : F .registers ∨ steadyPair o = true := by first | exact .inl trivial | exact .inr rfl) : Moves F base (d.bump64 o n) :=
  h.set64 _ _ hs

theorem Moves.pwr (h : Moves F base d) (x : Pwr)
    (hx : F .sleeps ∨ x.doze = d.pwr.doze := by first | exact .inl trivial | exact .inr rfl) :
    Moves F base { d with pwr := x } := h.pwrTo x hx

theorem Moves.pip (h : Moves F base d) (x : Pip)
    (hx : F .sleeps ∨ x.stopped = d.pip.stopped := by first | exact .inl trivial | exact .inr rfl)
    (hq : d.pip.quar.length ≤ 64 → x.quar.length ≤ 64 := by exact fun h => h) : Moves F base { d with pip := x } := h.pipTo x hx hq

theorem Moves.cnf (h : Moves F base d) (x : Cnf)
    (hx : F .receives ∨ x.waiting = d.cnf.waiting := by first | exact .inl trivial | exact .inr rfl)
    (hk : x.txns = d.cnf.txns := by exact rfl) : Moves F base { d with cnf := x } :=
  h.cnfTo x hx fun t ht => h.known t (hk ▸ ht)

theorem Moves.ecc (h : Moves F base d) (x : Ecc) (hx : d.ecc.loc.length ≤ 1024 → x.loc.length ≤ 1024 := by exact fun h => h) :
    Moves F base { d with ecc := x } := h.eccTo x hx

theorem Moves.twn (h : Moves F base d) (x : Twn) (hx : SamePair d.twn x := by
      exact ⟨rfl, rfl, rfl, rfl, rfl, rfl, rfl, rfl, rfl, rfl, rfl, rfl, .inr ⟨rfl, rfl⟩⟩) :
    Moves F base { d with twn := x } := h.twnTo x hx

theorem Moves.setPort (h : Moves F base d) (n : Nat) (p : Port)
    (hp : F .rest ∨ p.txq = (d.port n).txq := by first | exact .inl trivial | exact .inr rfl) : Moves F base (d.setPort n p) :=
  h.portTo n p hp

theorem Moves.tw (h : Moves F base d) (p : Port)
    (hp : F .rest ∨ p.txq = d.tw.txq := by first | exact .inl trivial | exact .inr rfl) : Moves F base { d with tw := p } :=
  h.portTo twPort p hp

theorem Moves.setLane (h : Moves F base d) (n : Nat) (l : Lane) : Moves F base (d.setLane n l) := h.lane n l

theorem Moves.setMp (h : Moves F base d) (n : Nat) (m : Mp) : Moves F base (d.setMp n m) := h.mp n m

theorem Moves.putBurst (h : Moves F base d) (lane slot : Nat) (x : Burst) : Moves F base (d.putBurst lane slot x) :=
  h.burst lane slot x

theorem Moves.takeFree (h : Moves F base d) : Moves F base d.takeFree.2 := h.free _

theorem Moves.pmu1 (h : Moves F base d) (c : Nat) (v : Nat) : Moves F base (d.pmu1 c v) := h.pmu _

theorem Moves.slot (h : Moves F base d) (u : SlotUse) : Moves F base (d.slot u) :=
  h.pmu _

/-! ## Records -/

theorem steady_queue {n : Nat} (hn : n < 5) :
    steady (R.QUEn_STAT.OVERFLOW n) 1 = true ∧ steady (R.QUEn_LOST.LOST n) 0 = true ∧ steady (evOverflow n) 1 = true ∧
      steady (evWm n) 1 = true := by
  revert n
  decide

theorem Moves.push (h : Moves F base d) (n : Nat) (r : List Word) (hn : n < 5 := by decide) : Moves F base (d.push n r) := by
  obtain ⟨hover, hlost, hevent, hwm⟩ := steady_queue hn
  unfold Dev.push
  dsimp only
  split
  · exact h
  · split
    · exact ((h.set _ _ (.inr hover)).bumpSat _ _ (.inr hlost)).raise _ (.inr hevent)
    · next hc =>
      have hdepth : ((d.queue n).recs ++ [r]).length ≤ queueDepth n := by
        rw [List.length_append, List.length_singleton]
        exact Nat.lt_of_not_le hc
      exact (h.queueTo n _ (.inl hdepth)).raiseIf _ _ (.inr hwm)

theorem Moves.evqRaw (h : Moves F base d) (src dev mode : Nat) (relayed : Bool) (inst sub a b : Nat) :
    Moves F base (d.evqRaw src dev mode relayed inst sub a b) :=
  .ite h ((h.push 0 _).seq _)

theorem Moves.report (h : Moves F base d) (f : FieldRef) (inst sub a b : Nat)
    (hs : F .registers ∨ steady f 1 = true := by first | exact .inl trivial | exact .inr rfl) :
    Moves F base (d.report f inst sub a b) :=
  (h.raise f hs).evqRaw ..

/-! ## Modes -/

theorem Moves.toMode (h : Moves F base d) (m : Mode) : Moves F base (d.toMode m) := .ite h ((h.mode ..).raise _)

theorem Moves.faultN (h : Moves F base d) : Moves F base d.faultN := h.mode ..

theorem Moves.remode (h : Moves F base d) : Moves F base d.remode :=
  .ite (h.toMode _) h

theorem Moves.oweFrame (h : Moves F base d) (w : Nat) : Moves F base (d.oweFrame w) :=
  h.evc _

theorem Moves.enterRecovery (h : Moves F base d) : Moves F base d.enterRecovery :=
  .ite h (((h.toMode _).faultN).oweFrame _)

/-! ## Flits -/

theorem Moves.emitFlit (h : Moves F base d) (n fk seq : Nat) (slots : BitVec 1920) (mark : Nat) :
    Moves F base (d.emitFlit n fk seq slots mark) :=
  (h.setPort _ _).emit _

theorem Moves.dataOut (h : Moves F base d) (n : Nat) (slots : BitVec 1920) (mark : Nat) :
    Moves F base (d.dataOut n slots mark) :=
  (h.setPort _ _).emitFlit _ _ _ _ _

theorem Moves.controlOut (h : Moves F base d) (n fk : Nat) (slot0 : BitVec 128) : Moves F base (d.controlOut n fk slot0) :=
  h.emitFlit _ _ _ _ _

theorem Moves.idleFlit (h : Moves F base d) (n : Nat) : Moves F base (d.idleFlit n) :=
  h.controlOut _ _ _

theorem Moves.idleRest (h : Moves F base d) (n k : Nat) : Moves F base (Dev.idleRest n k d) := by
  induction k generalizing d with
  | zero => exact h
  | succ k ih => exact .ite h (ih (h.idleFlit n))

theorem Moves.nakOut (h : Moves F base d) (n exp : Nat) : Moves F base (d.nakOut n exp) :=
  (h.emit _).controlOut _ _ _

theorem Moves.lpmOut (h : Moves F base d) (n code : Nat) : Moves F base (d.lpmOut n code) :=
  (h.emit _).controlOut _ _ _

theorem Moves.heartbeatOut (h : Moves F base d) : Moves F base d.heartbeatOut :=
  (h.emit _).controlOut _ _ _

theorem Moves.resendFlits (h : Moves F base d) (n : Nat) : Moves F base (d.resendFlits n) :=
  .ite h ((h.emit _).foldl _ (fun _ _ h => h.emitFlit _ _ _ _ _))

theorem serving_of_mirrors (hm : d.mirrors = true) : Twn.serving d.twn := by
  simpa [Dev.mirrors, Twn.serving] using hm

theorem Moves.mirror (h : Moves F base d) (i : Item) : Moves F base (d.mirror i) := by
  unfold Dev.mirror
  split
  · next hm => exact h.twn _ ⟨rfl, rfl, rfl, rfl, rfl, rfl, rfl, rfl, rfl, rfl, rfl, rfl, .inl (serving_of_mirrors hm)⟩
  · exact h

/-! ## Messages -/

theorem Moves.trace (h :
    Moves F base d) (port : Nat) (tx : Bool) (opc id : Nat) (line : Option Nat) (st : Nat) (psn : Bool) : Moves F base
      (d.trace port tx opc id line st psn) :=
  .ite (h.push _ _) h

theorem Moves.idleOut (h : Moves F base d) (n : Nat) : Moves F base (d.idleOut n) :=
  .ite ((h.idleFlit _).idleRest _ _) h

theorem Moves.sendLate (h : Moves F base d) (n : Nat) (x : Late) : Moves F base (Dev.sendLate n d x) := by
  cases x with
  | nak => exact .ite (h.nakOut ..) h
  | lpm c => exact h.lpmOut ..
  | replay => exact h.resendFlits n

theorem Moves.controlSend (h : Moves F base d) (n : Nat) (x : Late) : Moves F base (d.controlSend n x) :=
  .ite (h.setPort _ _) (h.sendLate _ _)

theorem Moves.flushLate (h : Moves F base d) (n : Nat) : Moves F base (d.flushLate n) := by
  have hlate : ∀ c : Bool, Moves F base (if c then d else
      (d.port n).late.foldl (Dev.sendLate n) (d.setPort n { d.port n with late := [] })) := fun c =>
    .ite h ((h.setPort n { d.port n with late := [] }).foldl _ fun _ _ h => h.sendLate n _)
  exact .ite h (.ite ((hlate _).idleRest ..) (hlate _))

theorem Moves.returnWb (h : Moves F base d) (n : Nat) : Moves F base (d.returnWb n) :=
  (h.setPort _ _).idleOut _

theorem Moves.returnOwedWb (h : Moves F base d) (n oport tag : Nat) : Moves F base (d.returnOwedWb n oport tag) :=
  .ite ((h.cnf _).returnWb _) h

theorem Moves.returnReq (h : Moves F base d) (n : Nat) : Moves F base (d.returnReq n) :=
  .ite ((h.setPort _ _).idleOut _) h

theorem Moves.returnOwedReq (h : Moves F base d) (oport tag : Nat) : Moves F base (d.returnOwedReq oport tag) :=
  .ite ((h.hie _ _ _).returnReq _) h

theorem Moves.withMessage (h : Moves F base d) (n : Nat) (m : Msg) : Moves F base (d.withMessage n m) := by
  unfold Dev.withMessage
  split
  · exact h.returnOwedWb ..
  · exact h.returnOwedWb ..
  · exact h.returnOwedReq ..
  · exact h

theorem Moves.sendOff (h : Moves F base d) (n : Nat) (m : Msg) : Moves F base (d.sendOff n m) := by
  have hout := (((h.setPort n { (d.port n).take (msgClass m) with cWb := if needsWb m then (d.port n).cWb - 1 else (d.port n).cWb }
    (.inr (take_txq ..))).withMessage n m).emit (.msg n m)).pmu1 (0x080 + msgOpc m) 1
  exact Moves.trace (.ite ((hout.pmu1 ..).pmu1 ..) hout) ..

theorem Moves.sendNow (h : Moves F base d) (n : Nat) (m : Msg) : Moves F base (d.sendNow n m) :=
  ((h.sendOff _ _).pmu1 _ _).dataOut _ _ _

theorem Moves.idleWhenFull (h : Moves F base d) (n : Nat) : Moves F base (d.idleWhenFull n) := .ite (h.idleOut _) h

/-- What a port's queue gives out, as long as no copy is lost since an earlier device. -/
theorem Moves.pumpList {c : Dev} (hc : Moves F base c) (h : Moves F base d) (n : Nat) (l : List Msg) (blocked : List (Option Nat))
    (keep : List Msg) (hg : CopiesGrow c (Dev.pumpList n l blocked d keep)) :
    Moves F base (Dev.pumpList n l blocked d keep) := by
  induction l generalizing blocked d keep with
  | nil => exact hc.portSent h n _ hg
  | cons m l ih =>
    unfold Dev.pumpList at hg ⊢
    split
    · next hm =>
      rw [if_pos hm] at hg
      exact ih (h.sendNow n m) _ _ hg
    · next hm =>
      rw [if_neg hm] at hg
      exact ih h _ _ hg

theorem Moves.pump (h : Moves F base d) (n : Nat) : Moves F base (d.pump n) :=
  ((h.flushLate n).pumpList (h.flushLate n) n _ _ _ (pumpList_grow _ n)).idleWhenFull n

theorem Moves.txPush (h : Moves F base d) (n : Nat) (m : Msg) : Moves F base (d.txPush n m) :=
  (h.portSent h n _ (queueMsg_grow d n m)).pump n

theorem Moves.tell (h : Moves F base d) (n : Nat) (m : Msg) : Moves F base (d.tell n m) := by
  unfold Dev.tell
  split
  · exact h
  · split
    · next hk => exact h.held _ _ _ hk
    · exact h.txPush ..

theorem Moves.oweWb (h : Moves F base d) (n oport tag : Nat) : Moves F base (d.oweWb n oport tag) :=
  h.cnf _

theorem steady_port (n v : Nat) : steady (portEN n) v = true ∧ steady (R.APnn_EVT.PROTO_ERR n) v = true ∧
    steady (R.APnn_PROTO_CNT.PROTO n) v = true :=
  ⟨steady_high v (by simp [portEN]; omega), steady_high v (by simp [R.APnn_EVT.PROTO_ERR]; omega),
    steady_high v (by simp [R.APnn_PROTO_CNT.PROTO]; omega)⟩

theorem Moves.stopPort (h : Moves F base d) (n : Nat) : Moves F base (d.stopPort n) :=
  .ite ((h.set _ _ (.inr (steady_port n 0).1)).setPort n _) h

theorem Moves.protoRaise (h : Moves F base d) (n opc : Nat) : Moves F base (d.protoRaise n opc) := by
  obtain ⟨-, herr, -⟩ := steady_port n 1
  obtain ⟨-, -, hcnt⟩ := steady_port n 0
  have hrec := (h.report _ n opc 0 0 (.inr herr)).bumpSat _ 1 (.inr hcnt)
  exact .ite (.ite (hrec.stopPort n) hrec) h

theorem Moves.protoErr (h : Moves F base d) (n opc : Nat) : Moves F base (d.protoErr n opc) :=
  .ite h (h.protoRaise _ _)

/-! ## Clocks and tokens -/

theorem Moves.setSource (h : Moves F base d) (k : Nat) (ready fail : Bool) : Moves F base (d.setSource k ready fail) :=
  h.clk _

theorem Moves.coast (h : Moves F base d) (k : Nat) : Moves F base (d.coast k) :=
  .ite (((h.clk _).setSource _ _ _).raise _) h

theorem Moves.startPll (h : Moves F base d) (k : Nat) : Moves F base (d.startPll k) :=
  .ite h (.ite ((h.clk _).coast _) (h.clk _))

theorem Moves.wantToken (h : Moves F base d) (k who : Nat) : Moves F base (d.wantToken k who) :=
  .ite h (h.pur _)

theorem Moves.dropToken (h : Moves F base d) (k who : Nat) : Moves F base (d.dropToken k who) :=
  h.pur _

theorem Moves.setLevel (h : Moves F base d) (l : Nat) : Moves F base (d.setLevel l) :=
  (h.pur _).raiseIf _ _

theorem Moves.driveRail (h : Moves F base d) (g : Nat) (on : Bool) : Moves F base (d.driveRail g on) :=
  (h.pwr _).emit _

theorem Moves.wakeDone (h : Moves F base d) (step unit : Nat) : Moves F base (d.wakeDone step unit) :=
  h.pwr _

theorem Moves.unclamp (h : Moves F base d) (dom : Nat) : Moves F base (d.unclamp dom) :=
  .ite ((h.pwr _).emit _) h

theorem Moves.turnOn (h : Moves F base d) (dom : Nat) : Moves F base (d.turnOn dom) :=
  ((((h.pwr _).wakeDone _ _).foldl _ (fun _ _ h => h.startPll _)).unclamp _).raiseIf _ _

theorem Moves.pmbus (h : Moves F base d) (cmd : String) (v : Nat) : Moves F base (d.pmbus cmd v) :=
  h.emit _

theorem Moves.pmbusWrite (h : Moves F base d) (cmd : String) (v : Nat) : Moves F base (d.pmbusWrite cmd v) :=
  (((h.free _).pmbus _ _).foldl _ (fun _ _ h => h.pmbus _ _)).raiseIf _ _

theorem Moves.voutCommand (h : Moves F base d) (p : Nat) : Moves F base (d.voutCommand p) :=
  h.pmbusWrite _ _

theorem Moves.dvfsRun (h : Moves F base d) (f v : Nat) : Moves F base (d.dvfsRun f v) :=
  .ite (h.pwr _) (((Moves.ite (h.voutCommand _) h).pwr _).startPll _)

theorem Moves.dvfsWork (h : Moves F base d) (f v : Nat) : Moves F base (d.dvfsWork f v) :=
  .ite (h.dvfsRun _ _) (.ite ((h.pwr _).voutCommand _) ((h.pwr _).raise _))

theorem Moves.dvfsGranted (h : Moves F base d) : Moves F base d.dvfsGranted := by
  unfold Dev.dvfsGranted
  split
  · exact .ite (h.dvfsWork _ _) h
  · exact h

theorem Moves.startWake (h : Moves F base d) (g : Nat) : Moves F base (d.startWake g) :=
  .ite ((h.pwr _).turnOn _) (((h.pwr _).turnOn _).driveRail _ _)

theorem Moves.onGrant (h : Moves F base d) (k who : Nat) : Moves F base (d.onGrant k who) :=
  .ite (h.dvfsGranted) (.ite (.ite ((h.startPll _).setPort _ _) (.ite ((h.startPll _).setMp _ _) (h.startPll _))) (.ite
    (h.startWake _) h))

theorem Moves.giveToken (h : Moves F base d) (k who : Nat) : Moves F base (d.giveToken k who) :=
  (h.pur _).onGrant _ _

theorem Moves.grantList (h : Moves F base d) (l : List (Nat × Nat)) : Moves F base (d.grantList l) := by
  induction l generalizing d with
  | nil => exact h
  | cons t l ih => exact .ite (ih (h.giveToken ..)) h

theorem Moves.grantTokens (h : Moves F base d) : Moves F base d.grantTokens := by
  have hcap := fun c => (h.grantList ((List.range 6).flatMap (fun k => d.pur.waiting.filter (fun t => t.1 == k)))).raiseIf c
    R.PUR_EVT.CAP_REACHED
  exact .ite ((hcap _).setLevel _) (hcap _)

theorem Moves.askToken (h : Moves F base d) (k who : Nat) : Moves F base (d.askToken k who) :=
  (h.wantToken _ _).grantTokens

end Sys2Proof.Machine
end

section
/-! SUPPORT. What accesses to the lanes, the header cache and the write buffer are moves of. -/

namespace Sys2Proof.Machine

set_option Elab.async false

variable {F : Part → Prop} {base d : Dev}

/-! ## Lanes -/

theorem Moves.countAct (h : Moves F base d) (lane : Nat) (a : DevAddr) : Moves F base (d.countAct lane a) :=
  .ite (.ite ((h.takeFree.pmu1 _ _).setLane _ _) (h.takeFree.pmu1 _ _)) (h.takeFree)

theorem Moves.driveRd (h : Moves F base d) (lane slot : Nat) : Moves F base (d.driveRd lane slot) :=
  (h.countAct _ _).emit _

theorem Moves.driveWr (h : Moves F base d) (lane slot : Nat) (b : Burst) : Moves F base (d.driveWr lane slot b) :=
  (h.countAct _ _).emit _

theorem Moves.flipWrite (h : Moves F base d) (lane slot : Nat) (b : Burst) : Moves F base (d.flipWrite lane slot b).2 := by
  unfold Dev.flipWrite
  dsimp only
  refine .iteSnd ?_ ?_
  · dsimp only
    exact ((h.ecc _).set64 _ _).raise _
  · exact h

theorem Moves.laneWrite (h : Moves F base d) (lane slot : Nat) (data : LineData) (psn : Bool) :
    Moves F base (d.laneWrite lane slot data psn) := by
  have hput := (((h.flipWrite lane slot (encodeLine data psn)).pmu1 (0x240 + 8 * lane + 1) 1).pmu1 0x002 32).putBurst lane slot
    (d.flipWrite lane slot (encodeLine data psn)).1
  exact .ite h ((Moves.ite (hput.pmu1 0x02C 1) hput).driveWr ..)

theorem Moves.setWgReq (h : Moves F base d) (g : Nat) (on : Bool) : Moves F base (d.setWgReq g on) :=
  h.set _ _ (.inr (steady_of_zero _ (by simp [steady, R.PWR_WG_REQ.REQ, R.PWR_REFUSE.STAGE])))

theorem Moves.startLossSweep (h : Moves F base d) (g : Nat) : Moves F base (d.startLossSweep g) := by
  unfold Dev.startLossSweep
  dsimp only
  split
  · exact h.pip _
  · exact .ite (h.pip _) (.ite (h.pip _) ((h.pip _).setWgReq _ _))

theorem Moves.loseGroup (h : Moves F base d) (g : Nat) : Moves F base (d.loseGroup g) := by
  have hlost := (h.pip { d.pip with lost := putBit d.pip.lost g true }).startLossSweep g
  exact .ite h (.ite hlost.enterRecovery hlost)

theorem Moves.groupFails (h : Moves F base d) (g : Nat) : Moves F base (d.groupFails g) := by
  have hwake := ((h.pwr { d.pwr with waking := putBit d.pwr.waking g false }).pip
    { d.pip with lost := putBit d.pip.lost g false }).dropToken 3 g
  unfold Dev.groupFails
  split
  · exact hwake.loseGroup g
  · exact h.loseGroup g

/-- A mirror side whose lane is gone falls aside. -/
theorem Moves.laneGone (h : Moves F base d) :
    Moves F base (if d.isMirror then ({ d with twn := { d.twn with st := .detached } } : Dev).enterRecovery else d.remode) := by
  split
  · next hm => exact (h.detached hm).enterRecovery
  · exact h.remode

theorem Moves.loseLane (h : Moves F base d) (lane cause : Nat) : Moves F base (d.loseLane lane cause) := by
  have hlost := (h.setLane lane { d.lane lane with st := 5, lost := true, live := false, due0 := 0, due1 := 0 }).report
    R.DSC_EVT.LANE_LOST lane cause 0 0
  have hgroup : Moves F base _ := .ite (c := 16 ≤ lane) hlost.enterRecovery (hlost.groupFails (lane / 4))
  exact .ite h hgroup.laneGone

theorem steady_erase (lane v : Nat) : steady (R.ECC_ERASEn.DEV0 lane) v = true ∧ steady (R.ECC_ERASEn.EV0 lane) v = true ∧
    steady (R.ECC_ERASEn.DEV1 lane) v = true ∧ steady (R.ECC_ERASEn.EV1 lane) v = true :=
  ⟨steady_high v (by simp [R.ECC_ERASEn.DEV0]; omega), steady_high v (by simp [R.ECC_ERASEn.EV0]; omega),
    steady_high v (by simp [R.ECC_ERASEn.DEV1]; omega), steady_high v (by simp [R.ECC_ERASEn.EV1]; omega)⟩

theorem Moves.spare (h : Moves F base d) (lane rank dev : Nat) : Moves F base (d.spare lane rank dev) := by
  obtain ⟨hdev0, -, hdev1, -⟩ := steady_erase lane dev
  obtain ⟨-, hev0, -, hev1⟩ := steady_erase lane 1
  have hset : Moves F base _ := .ite (c := rank = 0) ((h.set _ dev (.inr hdev0)).set _ 1 (.inr hev0))
    ((h.set _ dev (.inr hdev1)).set _ 1 (.inr hev1))
  exact ((hset.report R.ECC_EVT.SPARED ..).ecc _ (List.length_filter_le ..).trans).remode

theorem Moves.markHard (h : Moves F base d) (lane rank dev : Nat) : Moves F base (d.markHard lane rank dev) := by
  have hcount := ((h.bumpSat R.ECC_HARD_CNT.HARD 1).raise R.ECC_EVT.HARD).ecc
    { d.ecc with hard := d.ecc.hard.filter (fun e => !(e.1 == lane && e.2.1 == rank && e.2.2.1 == dev)) ++
      [(lane, rank, dev, d.hardCount lane rank dev + 1)] }
  exact .ite (hcount.spare ..) hcount

/-- The location with the lowest count is there to drop. -/
theorem dropLoc_length {l : List Loc} {n : Nat} (h : lowestCount l = some n) : (dropLoc n l).length + 1 = l.length := by
  induction l generalizing n with
  | nil => cases h
  | cons x l ih =>
    unfold dropLoc
    split
    · rfl
    · next hx =>
      rw [List.length_cons, List.length_cons]
      congr 1
      unfold lowestCount at h
      cases hl : lowestCount l with
      | none => simp_all
      | some k =>
        rw [hl] at h
        have hk : k = n := by
          by_cases hh : x.hard = true
          · simpa [hh] using h
          · simp only [hh] at h hx
            have hmin : min k x.count = n := by simpa using h
            have hne : x.count ≠ n := by simpa using hx
            omega
        exact ih (hk ▸ hl)

theorem Moves.newLoc (h : Moves F base d) (l : Loc) : Moves F base (d.newLoc l) := by
  unfold Dev.newLoc
  split
  · next hl => exact h.ecc _ fun _ => by simpa using hl
  · split
    · next n hn =>
      refine h.ecc _ fun hd => ?_
      rw [List.length_append, List.length_singleton, dropLoc_length hn]
      exact hd
    · exact h.raise _

theorem Moves.correction (h : Moves F base d) (lane rank slot dev : Nat) : Moves F base (Dev.correction lane rank slot d dev) := by
  unfold Dev.correction
  split
  · exact h
  · split
    · next l _ =>
      have hcount : ∀ x : Loc, Moves F base
          { d with ecc := { d.ecc with loc := mapIf (fun y => y.is lane rank dev slot) (fun _ => x) d.ecc.loc } } := fun x =>
        h.ecc _ fun hl => by rw [mapIf, List.length_map]; exact hl
      exact .ite h (.ite ((hcount _).markHard ..) (hcount _))
    · exact h.newLoc _

theorem Moves.countUe (h : Moves F base d) (lane rank : Nat) : Moves F base (d.countUe lane rank) := by
  have hcount := ((h.bumpSat R.ECC_UE_CNT.UE 1).raise R.ECC_EVT.UE).ecc
    { d.ecc with ue := d.ecc.ue.filter (fun e => !(e.1 == lane && e.2.1 == rank)) ++ [(lane, rank, d.ueTotal lane rank + 1)] }
  exact .ite ((hcount.raise R.ECC_EVT.UE_LOSS).loseLane lane 2) hcount

theorem Moves.corrected (h : Moves F base d) (lane slot : Nat) (r : Decoded) (psn : Bool) :
    Moves F base (d.corrected lane slot r psn) :=
  (((((h.bump64 _ _).raise _).pmu1 _ _).pmu1 _ _).laneWrite _ _ _ _).foldl _ (fun _ _ h => h.correction _ _ _ _)

theorem Moves.poisonRead (h : Moves F base d) : Moves F base d.poisonRead :=
  (h.bumpSat _ _).raise _

theorem Moves.laneRead (h : Moves F base d) (lane slot : Nat) (noise : Burst) : Moves F base (d.laneRead lane slot noise).2 := by
  have hcount := (h.pmu1 (0x240 + 8 * lane) 1).pmu1 0x002 32
  have hread : Moves F base _ := .ite (c := 16 ≤ lane) (hcount.pmu1 0x02B 1) hcount
  rw [Dev.laneRead]
  generalize decodeLine (d.burst lane slot ^^^ noise) (d.erased lane (d.rankOf lane slot)) = r
  generalize (if 16 ≤ lane then ((d.pmu1 (0x240 + 8 * lane)).pmu1 0x002 32).pmu1 0x02B
      else (d.pmu1 (0x240 + 8 * lane)).pmu1 0x002 32) = x at hread ⊢
  cases r.out with
  | clean => exact hread
  | corrected => exact hread.corrected ..
  | poison => exact .ite (hread.countUe ..) hread.poisonRead
  | poisonCorrected => exact .ite ((hread.foldl _ fun _ _ h => h.correction ..).countUe ..) (hread.corrected ..).poisonRead
  | uncorrectable =>
    dsimp only
    split
    · exact (hread.laneWrite ..).countUe ..
    · exact hread.countUe ..

theorem Moves.freeLine (h : Moves F base d) : Moves F base d.freeLine.2 :=
  h.takeFree

theorem Moves.freePoison (h : Moves F base d) : Moves F base d.freePoison.2 :=
  h.freeLine

/-! ## Headers -/

theorem Moves.setHdc (h : Moves F base d) (l : List HdcEnt) : Moves F base (d.setHdc l) :=
  h.hdc _

theorem Moves.useHeader (h : Moves F base d) (set : Nat) : Moves F base (d.useHeader set) :=
  h.setHdc _

theorem Moves.putHeader (hd : Moves F base d) (set : Nat) (h : Header) : Moves F base (d.putHeader set h) :=
  .ite hd ((hd.setHdc _).mirror _)

theorem Moves.writeHeader (h : Moves F base d) (e : HdcEnt) : Moves F base (d.writeHeader e) :=
  h.laneWrite _ _ _ _

theorem Moves.cleanHeader (h : Moves F base d) (e : HdcEnt) : Moves F base (d.cleanHeader e) :=
  (h.writeHeader _).setHdc _

theorem Moves.makeRoom (h : Moves F base d) {set : Nat} {prefetch : Bool} {e : Dev} (he : d.makeRoom set prefetch = some e) :
    Moves F base e := by
  unfold Dev.makeRoom at he
  dsimp only at he
  split at he
  · cases he
    exact h
  · split at he
    · cases he
    · split at he
      · cases he
      · cases he
        exact (Moves.ite (h.writeHeader _) h).setHdc _

theorem Moves.installHeader (hd : Moves F base d) (set : Nat) (h : Header) : Moves F base (d.installHeader set h) :=
  hd.setHdc _

theorem Moves.startFetch (h : Moves F base d) (set : Nat) (prefetch : Bool) : Moves F base (d.startFetch set prefetch) := by
  unfold Dev.startFetch
  refine .ite h ?_
  dsimp only
  split
  · exact h
  · next d heq =>
      have h := h.makeRoom heq
      exact (h.hdc _).driveRd _ _

theorem Moves.prefetch (h : Moves F base d) (set : Nat) : Moves F base (d.prefetch set) :=
  h.startFetch _ _

theorem Moves.missHeader (h : Moves F base d) (set : Nat) : Moves F base (d.missHeader set) :=
  ((h.pmu1 _ _).startFetch _ _).foldl _ (fun _ _ h => h.prefetch _)

theorem Moves.quarantine (h : Moves F base d) (set : Nat) (hroom : ¬ (64 ≤ d.pip.quar.length ∧ ¬ d.pip.quar.contains set = true)) :
    Moves F base { d with pip := { d.pip with
      quar := if d.pip.quar.contains set then d.pip.quar else d.pip.quar ++ [set] } } := by
  refine h.pip _ (.inr rfl) fun hq => ?_
  dsimp only
  split
  · exact hq
  · next hl =>
    have hlt : ¬ 64 ≤ d.pip.quar.length := fun hle => hroom ⟨hle, hl⟩
    rw [List.length_append, List.length_singleton]
    omega

theorem Moves.badHeader (h : Moves F base d) (set : Nat) : Moves F base (d.badHeader set) := by
  have hrec := h.report R.PIP_EVT.HDR_QUAR 0 0 set 0
  rw [Dev.badHeader]
  generalize d.report R.PIP_EVT.HDR_QUAR 0 0 set 0 = x at hrec ⊢
  dsimp only
  split
  · exact hrec.enterRecovery
  · next hfull => exact ((hrec.quarantine set (by simpa using hfull)).laneWrite ..).mirror _

theorem Moves.headerRead {r : Decoded × Dev} (h : Moves F base r.2) (set : Nat) : Moves F base (headerRead set r).2 := by
  unfold Machine.headerRead
  split
  · exact h
  · exact h
  · exact .ite (h.badHeader set) h

theorem Moves.readHeader (h : Moves F base d) (set : Nat) (noise : Burst) : Moves F base (d.readHeader set noise).2 := by
  by_cases hl : (d.lane (headerLoc set).1).st = 5
  · rw [readHeader_of_lost hl]
    exact h
  · rw [readHeader_of_lane hl]
    exact (h.laneRead ..).headerRead set

/-! ## The write buffer -/

theorem Moves.setTxns (h : Moves F base d) (l : List Txn) (hk : ∀ t ∈ l, Known F base t) : Moves F base (d.setTxns l) :=
  h.cnfTo _ (.inr rfl) hk

theorem Moves.putTxn (h : Moves F base d) (t : Txn)
    (ht : Known F base t := by first | exact .inl (by assumption) | exact .inl trivial) : Moves F base (d.putTxn t) := by
  refine (h.setTxns _ fun x hx => ?_).mirror _
  obtain ⟨y, hy, he⟩ := List.mem_map.mp hx
  split at he
  · exact he ▸ ht
  · exact he ▸ h.known y hy

theorem Moves.setWb (h : Moves F base d) (l : List WbEnt) : Moves F base (d.setWb l) :=
  h.wbf _

theorem Moves.wbCross (h : Moves F base d) (before : Nat) : Moves F base (d.wbCross before) :=
  (h.raiseIf _ _).raiseIf _ _

theorem Moves.wbAdd (h : Moves F base d) (line : Nat) (mask : Mask) (p : Payload) (kind : WbKind) (rsv txn : Option Nat)
  (bound go : Bool) : Moves F base (d.wbAdd line mask p kind rsv txn bound go) :=
  ((h.wbf _).wbCross _).mirror _

theorem Moves.wbPlaceNext (h : Moves F base d) : Moves F base d.wbPlaceNext := by
  unfold Dev.wbPlaceNext
  split
  · exact .ite h ((h.setWb _).wbCross _)
  · exact h

theorem Moves.wbPlaceAll (h : Moves F base d) : Moves F base d.wbPlaceAll :=
  h.foldl _ (fun _ _ h => h.wbPlaceNext)

theorem Moves.uplinkPhase (h : Moves F base d) (port tag : Nat) (tph again : Bool) :
    Moves F base (d.uplinkPhase port tag tph again).2 := by
  unfold Dev.uplinkPhase
  dsimp only
  exact (h.hie _ _ _).mirror _

theorem Moves.memWrite (h : Moves F base d) (line : Nat) (mask : Mask) (p : Payload) : Moves F base (d.memWrite line mask p) := by
  unfold Dev.memWrite
  split
  · exact h
  · dsimp only
    have hhalf : ∀ (x : Dev) (c : Prop) [Decidable c] (o : Out), Moves F base x → Moves F base (if c then x else x.emit o) :=
      fun x c _ o hx => .ite hx (hx.emit o)
    have hpart : ∀ (x : Dev) (c : Bool) (k : Nat), Moves F base x → Moves F base (if c then x.pmu1 k else x) := by
      intro x c k hx
      split
      · exact hx.pmu1 k 1
      · exact hx
    exact (hpart _ _ _ ((hhalf _ _ _ (hhalf d _ _ h)).pmu1 _ 1)).mirror _

theorem Moves.ownWrite (h : Moves F base d) (e : WbEnt) : Moves F base (d.ownWrite e) :=
  h.tell _ _

theorem Moves.issueOwn (h : Moves F base d) (e : WbEnt) : Moves F base (d.issueOwn e).2 := by
  unfold Dev.issueOwn
  dsimp only
  exact ((h.uplinkPhase _ _ _ _).pmu1 _ _).ownWrite _

theorem Moves.issueAgent (h : Moves F base d) (e : WbEnt) (t : Txn) (hr : F .rest ∨ base.gcr.role ≠ .standalone) :
    Moves F base (d.issueAgent e t) :=
  (((h.uplinkPhase ..).putTxn _ (.inr (hr.imp_right .inl))).pmu1 ..).tell ..

/-- A device whose role is not that of a standalone one began so. -/
theorem Moves.notAlone (h : Moves F base d) {r : Role} (hd : d.gcr.role = r) (hr : r ≠ .standalone) :
    F .rest ∨ base.gcr.role ≠ .standalone := by
  by_cases hF : F .rest
  · exact .inl hF
  · exact .inr (h.role hF ▸ hd ▸ hr)

theorem Moves.issueWrite (h : Moves F base d) (e : WbEnt) : Moves F base (d.issueWrite e).2 := by
  unfold Dev.issueWrite
  split
  · next hr =>
    split
    · exact h.issueAgent _ _ (h.notAlone hr (by decide))
    · exact h.issueOwn _
  · split
    · exact h
    · exact h.memWrite ..

theorem Moves.issueList (h : Moves F base d) (l : List WbEnt) (busy : List Nat) (done : List WbEnt) :
    Moves F base (Dev.issueList l busy done d) := by
  induction l generalizing d busy done with
  | nil => exact h.setWb _
  | cons e l ih =>
    unfold Dev.issueList
    split
    · exact ih h ..
    · split
      · exact ih h ..
      · exact ih ((h.setWb _).issueWrite e) ..

theorem Moves.wbKick (h : Moves F base d) : Moves F base d.wbKick :=
  (h.setWb _).issueList _ _ _

theorem Moves.wbForce (h : Moves F base d) (p : WbEnt → Bool) : Moves F base (d.wbForce p) :=
  (h.setWb _).wbKick

theorem Moves.wbFullWrite (h : Moves F base d) (line : Nat) (p : Payload) (kind : WbKind) (txn : Option Nat) :
    Moves F base (d.wbFullWrite line p kind txn) :=
  (h.wbAdd _ _ _ _ _ _ _ _).wbKick

theorem Moves.wbPlace (h : Moves F base d) (line : Nat) (m : Mask) (p : Payload) (owner : Option Nat) :
    Moves F base (d.wbPlace line m p owner) := by
  unfold Dev.wbPlace
  split
  · exact ((h.setWb _).mirror _).wbKick
  · exact (h.wbAdd _ _ _ _ _ _ _ _).wbKick

theorem Moves.wbFree (h : Moves F base d) (e : WbEnt) : Moves F base (d.wbFree e) := by
  unfold Dev.wbFree
  dsimp only
  split
  · exact ((h.setWb _).wbPlaceNext).returnWb _
  · exact (h.setWb _).wbPlaceNext

end Sys2Proof.Machine
end

section
/-! SUPPORT. What the directories, the ways and the written-back data are moves of. -/

namespace Sys2Proof.Machine

set_option Elab.async false

variable {F : Part → Prop} {base d : Dev}

/-! ## The agent directory -/

/-- A change of an entry adds no holder. -/
def Lessens (f : DirEnt → DirEnt) : Prop := ∀ e p, (f e).line = e.line ∧ ((f e).records p = true → e.records p = true)

theorem lessens_free : Lessens DirEnt.free := fun e p => ⟨rfl, fun h => by simp [DirEnt.free, DirEnt.records] at h⟩

theorem lessens_noPf : Lessens DirEnt.noPf := fun _ _ => ⟨rfl, id⟩

theorem lessens_norm : Lessens DirEnt.norm := by
  intro e p
  unfold DirEnt.norm
  split
  · exact lessens_free e p
  · exact ⟨rfl, id⟩

theorem lessens_drop (q : Nat) : Lessens (fun e => e.drop q) := by
  intro e p
  obtain ⟨hline, hrec⟩ := lessens_norm { e with ptr := dropPtr e.ptr q, pf := if e.prefect = some q then none else e.pf } p
  refine ⟨hline, fun h => ?_⟩
  have h' := hrec h
  simp only [DirEnt.records, List.contains_iff_mem, dropPtr, List.mem_map] at h' ⊢
  obtain ⟨x, hx, he⟩ := h'
  split at he
  · cases he
  · exact he ▸ hx

theorem lessens_withoutReader (r : Nat) : Lessens (fun e => withoutReader e r) := by
  intro e p
  dsimp only
  unfold withoutReader
  split
  · exact lessens_free e p
  · split
    · exact lessens_noPf e p
    · exact ⟨rfl, id⟩

/-- An entry is written that adds no holder to those recorded. -/
theorem Moves.putDir (h : Moves F base d) (e : DirEnt) (he : F (.grants e.line) ∨
    ∀ p, e.records p = true → ∃ y ∈ d.dir.ents, y.line = e.line ∧ y.records p = true) : Moves F base (d.putDir e) := by
  refine (h.dirTo _ fun x hx => ?_).mirror _
  have hrest : x ∈ d.dir.ents → F (.grants x.line) ∨
      ∀ p, x.records p = true → ∃ y ∈ d.dir.ents, y.line = x.line ∧ y.records p = true :=
    fun hm => .inr fun p hp => ⟨x, hm, rfl, hp⟩
  split at hx
  · rcases List.mem_cons.mp hx with rfl | hx
    · exact he
    · exact hrest (List.mem_filter.mp hx).1
  · exact hrest (List.mem_filter.mp hx).1

theorem Moves.dirTouch (h : Moves F base d) (line : Nat) : Moves F base (d.dirTouch line) := by
  refine h.dirTo _ fun x hx => .inr fun p hp => ⟨x, ?_, rfl, hp⟩
  rcases List.mem_append.mp hx with hx | hx
  · exact (List.mem_filter.mp hx).1
  · exact (List.mem_filter.mp hx).1

theorem Moves.dirTidy (h : Moves F base d) : Moves F base d.dirTidy :=
  h.dirTo _ fun x hx => .inr fun _ hp => ⟨x, (List.mem_filter.mp hx).1, rfl, hp⟩

theorem dirFind_some {line : Nat} {e : DirEnt} (h : d.dirFind line = some e) : e ∈ d.dir.ents ∧ e.line = line :=
  ⟨List.mem_of_find?_eq_some h, by simpa using List.find?_some h⟩

theorem Moves.dirMap (h : Moves F base d) (line : Nat) (f : DirEnt → DirEnt) (hf : Lessens f) : Moves F base (d.dirMap line f) := by
  unfold Dev.dirMap
  split
  · next e he =>
    obtain ⟨hmem, -⟩ := dirFind_some he
    exact .ite (h.dirTouch line) (h.putDir _ (.inr fun p hp => ⟨e, hmem, (hf e p).1.symm, (hf e p).2 hp⟩))
  · exact h

/-- The entry of a line gains a holder. -/
theorem Moves.dirGain (h : Moves F base d) (line : Nat) (f : DirEnt → DirEnt) (hf : ∀ e, (f e).line = e.line)
    (hF : F (.grants line)) : Moves F base (d.dirMap line f) := by
  unfold Dev.dirMap
  split
  · next e he =>
    obtain ⟨-, hline⟩ := dirFind_some he
    exact .ite (h.dirTouch line) (h.putDir _ (.inl ((hf e).trans hline ▸ hF)))
  · exact h

theorem Moves.dirAssign (h : Moves F base d) (line w : Nat) : Moves F base (d.dirAssign line w) :=
  h.putDir _ (.inr fun p hp => by simp [DirEnt.records] at hp)

/-! ## The sector directory -/

theorem Moves.sdrUse (h : Moves F base d) (k : Nat) : Moves F base (d.sdrUse k) :=
  h.sdr _

theorem steady_wrLost (n : Nat) : steady (R.MPn_EVT.WR_LOST n) 1 = true := steady_high 1 (by simp [R.MPn_EVT.WR_LOST]; omega)

theorem Moves.sdrWrite (h : Moves F base d) (k : Nat) : Moves F base (d.sdrWrite k) :=
  .ite (h.wbAdd _ _ _ _ _ _ _ _) (.ite (h.report _ _ _ _ _ (.inr (steady_wrLost _))) (h.memWrite _ _ _))

theorem Moves.sdrInstall (h : Moves F base d) (k : Nat) : Moves F base (d.sdrInstall k) := by
  unfold Dev.sdrInstall
  refine ((Moves.sdrUse ?_ _).mirror _).foldl _ (fun _ _ h => h.mirror _)
  dsimp only
  split
  · exact (Moves.ite (h.sdrWrite _) h).sdr _
  · exact h

theorem Moves.setUnknown (h : Moves F base d) (l : List Nat) : Moves F base (d.setUnknown l) :=
  .ite h ((h.sdr _).mirror _)

theorem Moves.putSdr (h : Moves F base d) (e : SdrEnt) : Moves F base (d.putSdr e) :=
  (((Moves.ite h (h.sdrInstall _)).sdr _).setUnknown _).mirror _

theorem Moves.sdrUnknown (h : Moves F base d) (k sector : Nat) : Moves F base (d.sdrUnknown k sector) :=
  ((h.sdr _).setUnknown _).report _ _ _ _ _

theorem Moves.readWay (h : Moves F base d) (set w line : Nat) : Moves F base (d.readWay set w line).2 := by
  by_cases hl : (d.lane (d.lineLoc set w (line % 8)).1).st = 5
  · rw [readWay_of_lost d set w line hl]
    split
    · exact h
    · exact h.freePoison
  · rw [readWay_of_lane d set w line hl]
    exact (h.driveRd ..).laneRead ..

theorem Moves.copyOut (h : Moves F base d) (set w tag : Nat) (kind : WbKind) (n : Nat) :
    Moves F base (Dev.copyOut set w tag kind d n) :=
  (h.readWay _ _ _).wbFullWrite _ _ _ _

theorem Moves.copyDirty (h : Moves F base d) (set w : Nat) (x : Way) (kind : WbKind) :
    Moves F base (d.copyDirty set w x kind) :=
  h.foldl _ (fun _ _ h => h.copyOut _ _ _ _ _)

/-! ## Fills, write hits and written-back data -/

theorem Moves.allocWay (hd : Moves F base d) (set : Nat) (h : Header) (w line : Nat) (stream exc : Bool) :
    Moves F base (d.allocWay set h w line stream exc) :=
  (Moves.ite ((hd.copyDirty _ _ _ _).pmu1 _ _) (((hd.copyDirty _ _ _ _).pmu1 _ _).pmu1 _ _)).putHeader _ _

theorem Moves.allocDone (h : Moves F base d) (set w id : Nat) : Moves F base (d.allocDone set w id) :=
  h.pip _

theorem Moves.allocFill (h : Moves F base d) (set w id : Nat) : Moves F base (d.allocFill set w id) :=
  .ite h (h.pip _)

theorem Moves.fillLine (h : Moves F base d) (set w line : Nat) (p : Payload) (dirty : Bool) :
    Moves F base (d.fillLine set w line p dirty) := by
  unfold Dev.fillLine
  split
  · exact h
  · exact (Moves.ite ((h.laneWrite _ _ _ _).mirror _) (h.laneWrite _ _ _ _)).putHeader _ _

theorem Moves.dropLine (h : Moves F base d) (set w line : Nat) : Moves F base (d.dropLine set w line) := by
  unfold Dev.dropLine
  split
  · exact h
  · exact h.putHeader _ _

theorem Moves.writeHit (h : Moves F base d) (set w line : Nat) (p : Payload) : Moves F base (d.writeHit set w line p) :=
  .ite ((h.dropLine _ _ _).wbFullWrite _ _ _ _) (.ite ((h.fillLine _ _ _ _ _).wbFullWrite _ _ _ _) (h.fillLine _ _ _ _ _))

theorem Moves.cleanMark (h : Moves F base d) (line : Nat) : Moves F base (d.cleanMark line) :=
  h.mirror _

theorem Moves.dropWaiter (h : Moves F base d) (e : WbEnt) : Moves F base (d.dropWaiter e) :=
  h.pip _

theorem Moves.waitCopyOf (h : Moves F base d) (set w who : Nat) : Moves F base (d.waitCopyOf set w who) :=
  h.pip _

theorem Moves.wbBind (h : Moves F base d) (e : WbEnt) : Moves F base (d.wbBind e) :=
  ((h.dropWaiter _).setWb _).wbKick

theorem Moves.setWbWay (h : Moves F base d) (e : WbEnt) (w : Option Nat) : Moves F base (d.setWbWay e w) :=
  h.setWb _

theorem Moves.wbFill (hd : Moves F base d) (e : WbEnt) (h : Header) (w : Nat) (stream : Bool) :
    Moves F base (d.wbFill e h w stream) :=
  ((((hd.dropWaiter _).allocWay _ _ _ _ _ _).fillLine _ _ _ _ _).wbFree _).wbPlaceAll

theorem Moves.wbChoose (hd : Moves F base d) (e : WbEnt) (h : Header) (stream : Bool) :
    Moves F base (d.wbChoose e h stream) := by
  unfold Dev.wbChoose
  refine .ite hd ?_
  split
  · exact hd
  · exact .ite (hd.wbFill _ _ _ _) ((hd.setWbWay _ _).waitCopyOf _ _ _)

theorem Moves.wbAllocate (hd : Moves F base d) (e : WbEnt) (h : Header) (stream : Bool) :
    Moves F base (d.wbAllocate e h stream) := by
  unfold Dev.wbAllocate
  split
  · exact hd.wbChoose _ _ _
  · exact .ite (((hd.dropWaiter _).setWbWay _ _).wbChoose _ _ _) (.ite (hd.wbFill _ _ _ _) hd)

theorem Moves.wbLand (hd : Moves F base d) (e : WbEnt) (h : Header) : Moves F base (d.wbLand e h) := by
  unfold Dev.wbLand
  dsimp only
  split
  · exact ((hd.dropWaiter _).writeHit _ _ _ _).wbFree _
  · split
    · exact hd.wbBind _
    · split
      · exact .ite (((hd.dropWaiter _).fillLine _ _ _ _ _).wbFree _) (hd.wbBind _)
      · exact hd.wbAllocate _ _ _

theorem Moves.wbLookup (h : Moves F base d) (line : Nat) : Moves F base (d.wbLookup line) :=
  .ite h (h.missHeader _)

theorem Moves.wbSettle (h : Moves F base d) (e : WbEnt) : Moves F base (d.wbSettle e) := by
  unfold Dev.wbSettle
  refine .ite h (.ite (h.wbBind _) ?_)
  split
  · exact h.wbLand _ _
  · exact h.startFetch _ _

theorem Moves.wbSettleAll (h : Moves F base d) : Moves F base d.wbSettleAll :=
  h.foldl _ (fun _ _ h => h.wbSettle _)

theorem Moves.takeDirty (h : Moves F base d) (line : Nat) (p : Payload) : Moves F base (d.takeDirty line p) :=
  (((h.wbAdd _ _ _ _ _ _ _ _).wbLookup _).wbSettleAll).wbKick

end Sys2Proof.Machine
end

section
/-! SUPPORT. What the conflict unit and the timetable are moves of. -/

namespace Sys2Proof.Machine

set_option Elab.async false

variable {F : Part → Prop} {base d : Dev}

/-! ## The transaction table -/

theorem Moves.addTxn (h : Moves F base d) (t : Txn) (ht : Known F base t) : Moves F base (d.addTxn t) := by
  refine ((h.cnfTo { d.cnf with txns := d.cnf.txns ++ [{ t with ord := d.cnf.ord, pol := d.policy t.line }], ord := d.cnf.ord + 1 }
    (.inr rfl) fun x hx => ?_).mirror _).raiseIf _ _
  rcases List.mem_append.mp hx with hx | hx
  · exact h.known x hx
  · exact List.mem_singleton.mp hx ▸ ht

theorem Moves.enqueue (h : Moves F base d) (t : Txn) : Moves F base (d.enqueue t) := by
  refine ((h.cnf { d.cnf with ord := d.cnf.ord + 1 }).setTxns _ fun x hx => ?_).mirror _
  rcases List.mem_append.mp hx with hx | hx
  · exact h.known x (List.mem_filter.mp hx).1
  · exact List.mem_singleton.mp hx ▸ .inr (.inr (.inr (.inl rfl)))

theorem Moves.fillPlace (h : Moves F base d) (k : Nat) : Moves F base (d.fillPlace k) := by
  unfold Dev.fillPlace
  refine .ite h ?_
  split
  · exact h.enqueue _
  · split
    · exact h.enqueue _
    · exact h

/-- An engine's issue waits for its place or in it. -/
theorem Moves.issueTxn (h : Moves F base d) (t : Txn) (id : Nat) : Moves F base (d.issueTxn t id) := by
  refine Moves.addTxn (Moves.slot (h.cnf _) _) _ (.inr (.inr (.inr ?_)))
  dsimp only
  split
  · exact .inl rfl
  · exact .inr (.inl rfl)

theorem Moves.refill (h : Moves F base d) : Moves F base d.refill := by
  unfold Dev.refill
  split
  · exact .ite ((h.cnf _).issueTxn _ _) h
  · exact h

theorem Moves.freeTxn (h : Moves F base d) (id : Nat) : Moves F base (d.freeTxn id) := by
  have hlist := (h.twn { d.twn with unsent := d.twn.unsent.filter (· != id) }).pip
    { d.pip with alloc := d.pip.alloc.filter (fun a => a.2.2 != id) }
  exact ((hlist.setTxns _ fun x hx => h.known x (List.mem_filter.mp hx).1).mirror _).dirTidy.refill

/-! ## Responses, tickets, holds and snoops -/

theorem Moves.respond (h : Moves F base d) (o : Origin) (f : Nat → Msg) : Moves F base (d.respond o f) := by
  unfold Dev.respond
  split
  · exact h.tell _ _
  · exact h

theorem Moves.sendErr (h : Moves F base d) (o : Origin) (tag sub : Nat) : Moves F base (d.sendErr o tag sub) :=
  h.respond _ _

theorem Moves.logRetired (h : Moves F base d) (e : LogEnt) : Moves F base (d.logRetired e) :=
  .ite h ((h.twn _).mirror _)

theorem Moves.ticketFor (h : Moves F base d) (o : Origin) (port tag key : Nat) (apd : Bool) :
    Moves F base (d.ticketFor o port tag key apd) :=
  ((((h.cnf _).mirror _).bump64 _ _).pmu1 _ _).respond _ _

theorem Moves.dropTicket (h : Moves F base d) (n : Nat) : Moves F base (d.dropTicket n) :=
  (h.cnf _).mirror _

theorem Moves.holdRequest (h : Moves F base d) (r : Req) (hw : F .receives) : Moves F base (d.holdRequest r) :=
  (h.cnf _ (.inl hw)).raise _

theorem Moves.setHolds (h : Moves F base d) (l : List Hold) : Moves F base (d.setHolds l) :=
  (h.cnf _).mirror _

theorem Moves.beginHold (h : Moves F base d) (k port : Nat) : Moves F base (d.beginHold k port) :=
  .ite h (((Moves.ite ((h.bumpSat _ _).raise _) h).pmu1 _ _).setHolds _)

theorem Moves.retireGrant (h : Moves F base d) (t : Txn) : Moves F base (d.retireGrant t) := by
  unfold Dev.retireGrant
  dsimp only
  split
  · exact (h.freeTxn _).beginHold _ _
  · exact (h.freeTxn _).beginHold _ _
  · exact h.freeTxn _

theorem Moves.sendSnoop (h : Moves F base d) (t : Txn) (port : Nat) (s : Snoop) : Moves F base (d.sendSnoop t port s).2 := by
  unfold Dev.sendSnoop
  dsimp only
  refine .iteSnd ?_ ?_
  · exact h
  · refine .iteSnd ?_ ?_
    · refine .iteSnd ?_ ?_
      · dsimp only
        exact h.tell _ _
      · dsimp only
        exact (h.bump64 _ _).tell _ _
    · dsimp only
      exact h.tell _ _

/-! ## The timetable -/

theorem Moves.setDeps (h : Moves F base d) (l : List Dep) : Moves F base (d.setDeps l) :=
  h.dep _

theorem Moves.putDep (h : Moves F base d) (e : Dep) : Moves F base (d.putDep e) :=
  h.setDeps _

theorem Moves.saveDep (h : Moves F base d) (e : Dep) : Moves F base (d.saveDep e) :=
  (h.putDep _).mirror _

theorem Moves.pumpDep (h : Moves F base d) (e : Dep) : Moves F base (d.pumpDep e) :=
  .ite h (h.foldl _ (fun _ _ h => h.pump _))

theorem Moves.stagedNow (h : Moves F base d) (e : Dep) : Moves F base (d.stagedNow e) :=
  .ite (h.putDep _) h

theorem Moves.wakePorts (h : Moves F base d) (e : Dep) : Moves F base (d.wakePorts e) :=
  .ite h (h.foldl _ (fun _ _ h => h.askToken _ _))

theorem Moves.stageLine (h : Moves F base d) (e : Dep) (b : Boarded) : Moves F base (d.stageLine e b) :=
  (((Moves.ite (h.wakePorts _) h).mirror _).putDep _).stagedNow _

theorem Moves.sendDepLine (h : Moves F base d) (e : Dep) (b : Boarded) (k : Nat) : Moves F base (Dev.sendDepLine e b d k) :=
  h.tell _ _

theorem Moves.badLine (h : Moves F base d) (e : Dep) (b : Boarded) : Moves F base (d.badLine e b) := by
  unfold Dev.badLine
  dsimp only
  split
  · exact h.bumpSat _ _
  · exact (h.bumpSat _ _).raise _
  · exact (h.bumpSat _ _).report _ _ _ _ _

theorem Moves.boardLine (h : Moves F base d) (idx line : Nat) (st : LineSt) (p : Payload) :
    Moves F base (d.boardLine idx line st p) := by
  unfold Dev.boardLine
  split
  · exact h
  · exact .ite h (.ite (((((h.pmu1 _ _).badLine _ _).putDep _).stageLine _ _).foldl _ (fun _ _ h => h.sendDepLine _ _ _))
    (((h.pmu1 _ _).badLine _ _).stageLine _ _))

end Sys2Proof.Machine
end

section
/-! SUPPORT. What serving a line is moves of: its way, its data, its grant. -/

namespace Sys2Proof.Machine

set_option Elab.async false

variable {F : Part → Prop} {base d : Dev}

/-! ## The next level and a way for a line -/

theorem Moves.setExc (h : Moves F base d) (line : Nat) : Moves F base (d.setExc line) := by
  unfold Dev.setExc
  split
  · split
    · exact h.putHeader _ _
    · exact h
  · exact h

theorem Moves.memRead (h : Moves F base d) (line : Nat) : Moves F base (d.memRead line) :=
  .ite (h.setMp _ _) (.ite ((((h.setMp _ _).pmu1 _ _).emit _).emit _) (h.setMp _ _))

theorem Moves.upRequest (h : Moves F base d) (t : Txn) (k : Kind) (tkt : Option Nat)
    (ht : F (.grants t.line) := by first | assumption | exact trivial) : Moves F base (d.upRequest t k tkt) :=
  (((h.uplinkPhase _ _ _ _).putTxn _).pmu1 _ _).tell _ _

theorem Moves.askNext (h : Moves F base d) (t : Txn)
    (ht : F (.grants t.line) := by first | assumption | exact trivial) : Moves F base (d.askNext t) :=
  .ite (h.upRequest _ _ _) ((h.putTxn _).memRead _)

theorem Moves.reserveWay (hd : Moves F base d) (t : Txn) (h : Header)
    (ht : F (.grants t.line) := by first | assumption | exact trivial) : Moves F base (d.reserveWay t h).2.2 := by
  unfold Dev.reserveWay
  dsimp only
  split
  · exact hd
  · split
    · split
      · dsimp only
        exact hd.allocFill _ _ _
      · dsimp only
        exact hd.allocDone _ _ _
    · split
      · exact hd.putTxn _
      · split
        · exact hd.putTxn _
        · split
          · dsimp only
            exact (hd.allocFill _ _ _).allocWay _ _ _ _ _ _
          · dsimp only
            exact (hd.waitCopyOf _ _ _).putTxn _

/-- A way is reserved for the transaction's own line. -/
theorem reserveWay_line (d : Dev) (t : Txn) (h : Header) : (d.reserveWay t h).2.1.line = t.line := by
  unfold Dev.reserveWay
  dsimp only
  repeat' split
  all_goals rfl

theorem reserved {t : Txn} {h : Header} (ht : F (.grants t.line)) : F (.grants (d.reserveWay t h).2.1.line) :=
  (reserveWay_line d t h).symm ▸ ht

theorem Moves.giveUpWay (h : Moves F base d) (t : Txn) : Moves F base (d.giveUpWay t) := by
  unfold Dev.giveUpWay
  split
  · exact h
  · refine .ite ?_ h
    dsimp only
    split
    · exact .ite (h.allocDone _ _ _) ((h.allocDone _ _ _).putHeader _ _)
    · exact h.allocDone _ _ _

theorem Moves.fillFor (h : Moves F base d) (t : Txn) (p : Payload) (dirty : Bool) : Moves F base (d.fillFor t p dirty) := by
  unfold Dev.fillFor
  split
  · exact h
  · refine .ite (h.giveUpWay _) (.ite (((Moves.fillLine ?_ _ _ _ _ _).allocDone _ _ _).setExc _) ((Moves.fillLine ?_ _ _ _ _
    _).allocDone _ _ _))
    all_goals
      split
      · exact .ite (h.putHeader _ _) h
      · exact h

theorem Moves.trap (h : Moves F base d) (t : Txn) : Moves F base (d.trap t) :=
  (((h.giveUpWay _).report _ _ _ _ _).sendErr _ _ _).freeTxn _

theorem steady_halt (n hi lo v : Nat) : steady ⟨(R.ECC_CHAN_HALTn.HALT n).ofs, hi, lo⟩ v = true :=
  steady_high v (by simp [R.ECC_CHAN_HALTn.HALT]; omega)

theorem Moves.haltChannel (h : Moves F base d) (t : Txn) : Moves F base (d.haltChannel t) :=
  (((((h.ecc _).set _ _ (.inr (steady_halt ..))).giveUpWay _).report _ _ _ _ _).sendErr _ _ _).freeTxn _

theorem Moves.haltWrite (h : Moves F base d) (t : Txn) : Moves F base (d.haltWrite t) := by
  unfold Dev.haltWrite
  refine Moves.haltChannel ?_ _
  split
  · exact h.takeDirty _ _
  · exact h

theorem Moves.refuseData (h : Moves F base d) (t : Txn) : Moves F base (d.refuseData t) := by
  unfold Dev.refuseData
  split
  · exact h.haltChannel _
  · exact h.haltChannel _
  · exact h.trap _

/-! ## Grants and writes -/

theorem share_line (e : DirEnt) (p : Nat) : (e.share p).line = e.line := by
  unfold DirEnt.share
  split <;> rfl

theorem Moves.recordGrant (h : Moves F base d) (t : Txn) (g : LState)
    (ht : F (.grants t.line) := by first | assumption | exact trivial) : Moves F base (d.recordGrant t g) := by
  unfold Dev.recordGrant
  split
  · split
    · exact h
    · exact h.dirGain _ _ (fun e => share_line e _) ht
    · exact h.dirGain _ _ (fun e => share_line e _) ht
    · exact h.dirGain _ _ (fun _ => rfl) ht
    · exact h.dirGain _ _ (fun _ => rfl) ht
  · dsimp only
    split
    · exact h
    · exact h.putSdr _
    · exact h.putSdr _
    · exact h.putSdr _
    · exact h.putSdr _
  · exact h

theorem Moves.granted (h : Moves F base d) (t : Txn) (answer : Nat → Msg)
    (ht : F (.grants t.line) := by first | assumption | exact trivial) : Moves F base (d.granted t answer) :=
  .ite (((h.putTxn _).respond _ _).retireGrant _) ((h.putTxn _).respond _ _)

theorem Moves.deliver (h : Moves F base d) (t : Txn) (p : Payload)
    (ht : F (.grants t.line) := by first | assumption | exact trivial) : Moves F base (d.deliver t p) :=
  .ite (h.refuseData _) (.ite (((Moves.ite (h.recordGrant _ _) h).respond _ _).freeTxn _) ((Moves.ite (h.recordGrant _ _)
    h).granted _ _))

theorem Moves.deliverAck (h : Moves F base d) (t : Txn)
    (ht : F (.grants t.line) := by first | assumption | exact trivial) : Moves F base (d.deliverAck t) :=
  (h.recordGrant _ _).granted _ _

theorem Moves.recordWrite (h : Moves F base d) (t : Txn) : Moves F base (d.recordWrite t) := by
  unfold Dev.recordWrite
  split
  · exact h
  · exact h.dirMap _ _ lessens_free

theorem Moves.finishWrite (h : Moves F base d) (t : Txn)
    (ht : F (.grants t.line) := by first | assumption | exact trivial) : Moves F base (d.finishWrite t) := by
  unfold Dev.finishWrite
  dsimp only
  split
  · exact (h.recordWrite _).putTxn _
  · exact (((h.recordWrite _).logRetired _).respond _ _).freeTxn _

theorem Moves.writeAround (h : Moves F base d) (t : Txn) (m : Mask) (p : Payload)
    (ht : F (.grants t.line) := by first | assumption | exact trivial) : Moves F base (d.writeAround t m p) :=
  .ite (h.putTxn _) (.ite ((h.putTxn _).wbPlace _ _ _ _) ((h.wbPlace _ _ _ _).finishWrite _))

theorem Moves.writeLine (h : Moves F base d) (t : Txn) (p : Payload)
    (ht : F (.grants t.line) := by first | assumption | exact trivial) : Moves F base (d.writeLine t p) := by
  unfold Dev.writeLine
  split
  · split
    · exact (h.writeHit _ _ _ _).finishWrite _
    · split
      · exact .ite ((h.giveUpWay _).writeAround _ _ _) ((h.fillFor _ _ _).finishWrite _)
      · exact h.writeAround _ _ _
  · exact h.writeAround _ _ _

theorem Moves.mergeBase (h : Moves F base d) (t : Txn) (y : Payload)
    (ht : F (.grants t.line) := by first | assumption | exact trivial) : Moves F base (d.mergeBase t y) :=
  .ite (h.haltChannel _) (h.writeLine _ _)

/-! ## Reads -/

theorem Moves.readHitLine (h : Moves F base d) (t : Txn) (w : Nat)
    (ht : F (.grants t.line) := by first | assumption | exact trivial) : Moves F base (d.readHitLine t w) := by
  unfold Dev.readHitLine
  refine (((Moves.pmu1 ?_ _ _).useHeader _).driveRd _ _).putTxn _
  split
  · exact .ite (h.putHeader _ _) h
  · exact h

theorem Moves.lostLine (h : Moves F base d) (set w line : Nat) : Moves F base (d.lostLine set w line).2 := by
  unfold Dev.lostLine
  dsimp only
  exact ((h.readWay _ _ _).dropLine _ _ _).wbFullWrite _ _ _ _

theorem Moves.leaveLost (h : Moves F base d) (set w line : Nat) (p : Payload) : Moves F base (d.leaveLost set w line p) := by
  unfold Dev.leaveLost
  refine .ite h ?_
  dsimp only
  split
  · exact .ite ((h.dropLine _ _ _).wbFullWrite _ _ _ _) (h.dropLine _ _ _)
  · exact h

/-- Data that neither the cache nor the write buffer has is asked of the next level. -/
theorem Moves.far (h : Moves F base d) (t : Txn) (line : Nat)
    (ht : F (.grants t.line) := by first | assumption | exact trivial) :
    Moves F base (if d.wbPartial line then
        ((none : Option Payload), (d.putTxn { t with phase := .waitWbf }).wbForce (fun e => e.line == line))
      else match d.wbFull line with
        | some e => (some e.pay, d)
        | none => (none, d.askNext t)).2 := by
  split
  · exact (h.putTxn _).wbForce _
  · split
    · exact h
    · exact h.askNext _

theorem Moves.readSource (h : Moves F base d) (t : Txn) (ht : F (.grants t.line) := by first | assumption | exact trivial) :
    Moves F base (d.readSource t).2 := by
  unfold Dev.readSource
  dsimp only
  split
  · exact h.far t _
  · exact h.freePoison
  · exact h.freePoison
  · split
    · split
      · exact h.lostLine ..
      · exact h.readHitLine ..
    · refine Moves.far (Moves.pmu1 ?_ ..) t _
      split
      · exact h.dropLine ..
      · exact h

theorem Moves.boardOne (h : Moves F base d) (t : Txn) (l : Nat) (st : LineSt) (p : Payload) :
    Moves F base (d.boardOne t l st p) :=
  .ite (h.boardLine _ _ _ _) ((h.boardLine _ _ _ _).tell _ _)

theorem Moves.boardLines (h : Moves F base d) (l : List Nat) (t : Txn)
    (ht : F (.grants t.line) := by first | assumption | exact trivial) : Moves F base (Dev.boardLines l t d) := by
  induction l generalizing d t with
  | nil =>
    refine h.putTxn _ (.inl ?_)
    split
    · exact ht
    · exact ht
  | cons l ls ih =>
    unfold Dev.boardLines
    dsimp only
    split
    · next p d' heq =>
      have hread := (h.readSource { t with victim := some l, lines := ls }).snd heq
      exact ih (hread.boardOne ..) _ ht
    · next d' heq => exact (h.readSource { t with victim := some l, lines := ls }).snd heq

theorem Moves.boarded (h : Moves F base d) (t : Txn) (st : LineSt) (p : Payload)
    (ht : F (.grants t.line) := by first | assumption | exact trivial) : Moves F base (d.boarded t st p) :=
  (h.boardOne _ _ _ _).boardLines _ _

theorem Moves.arrived (h : Moves F base d) (t : Txn) (p : Payload)
    (ht : F (.grants t.line) := by first | assumption | exact trivial) : Moves F base (d.arrived t p) := by
  unfold Dev.arrived
  split
  · exact h.mergeBase _ _
  · exact h.boarded _ _ _
  · exact .ite (h.refuseData _) ((h.fillFor _ _ _).deliver _ _)

theorem Moves.laneArrived (h : Moves F base d) (t : Txn) (p : Payload)
    (ht : F (.grants t.line) := by first | assumption | exact trivial) : Moves F base (d.laneArrived t p) := by
  unfold Dev.laneArrived
  dsimp only
  split
  · exact h.mergeBase _ _
  · exact (h.leaveLost _ _ _ _).putTxn _
  · exact (h.leaveLost _ _ _ _).boarded _ _ _
  · exact (h.leaveLost _ _ _ _).deliver _ _

theorem Moves.askX (h : Moves F base d) (t : Txn)
    (ht : F (.grants t.line) := by first | assumption | exact trivial) : Moves F base (d.askX t) :=
  h.upRequest _ _ _

theorem Moves.gatherX (h : Moves F base d) (t : Txn)
    (ht : F (.grants t.line) := by first | assumption | exact trivial) : Moves F base (d.gatherX t) := by
  unfold Dev.gatherX
  refine .ite ((h.putTxn _).wbForce _) (.ite (h.askX _) ?_)
  dsimp only
  split
  · exact .ite (h.askX _) (.ite ((h.reserveWay _ _).askX _ (reserved ht)) (h.reserveWay _ _))
  · exact h.askX _

theorem Moves.readAndArrive (h : Moves F base d) (t : Txn)
    (ht : F (.grants t.line) := by first | assumption | exact trivial) : Moves F base (match d.readSource t with
      | (some p, d) => d.arrived t p
      | (none, d) => d) := by
  split
  · next heq => exact ((h.readSource _).snd heq).arrived _ _
  · next heq => exact (h.readSource _).snd heq

theorem Moves.readAndMerge (h : Moves F base d) (t : Txn)
    (ht : F (.grants t.line) := by first | assumption | exact trivial) : Moves F base (match d.readSource t with
      | (some b, d) => d.mergeBase t b
      | (none, d) => d) := by
  split
  · next heq => exact ((h.readSource _).snd heq).mergeBase _ _
  · next heq => exact (h.readSource _).snd heq

theorem Moves.gatherRead (h : Moves F base d) (t : Txn)
    (ht : F (.grants t.line) := by first | assumption | exact trivial) : Moves F base (d.gatherRead t) := by
  unfold Dev.gatherRead
  refine .ite (h.gatherX _) (.ite (h.deliverAck _) ?_)
  split
  · next hh _ =>
    refine .ite ?_ (.ite (h.deliver _ _) ?_)
    · split
      · next heq => exact ((h.readSource _).snd heq).deliver _ _
      · next heq => exact (h.readSource _).snd heq
    · have hgive : ∀ c : Bool, Moves F base (if c then (true, { t with way := none }, d.giveUpWay t) else d.reserveWay t hh).2.2 ∧
          F (.grants (if c then (true, { t with way := none }, d.giveUpWay t) else d.reserveWay t hh).2.1.line) := by
        intro c
        cases c
        · exact ⟨h.reserveWay _ _, reserved ht⟩
        · exact ⟨h.giveUpWay _, ht⟩
      dsimp only
      obtain ⟨hway, hline⟩ := hgive (d.hitWay hh t.line).isSome
      refine .ite hway ?_
      split
      · exact .ite (hway.deliver _ _) (hway.arrived _ _)
      · exact hway.readAndArrive _
  · exact (h.freePoison.giveUpWay _).arrived _ _
  · exact (h.freePoison.giveUpWay _).arrived _ _
  · split
    · exact h.deliver _ _
    · exact h.readAndArrive _

theorem Moves.gatherWrite (h : Moves F base d) (t : Txn)
    (ht : F (.grants t.line) := by first | assumption | exact trivial) : Moves F base (d.gatherWrite t) := by
  unfold Dev.gatherWrite
  refine .ite (h.haltWrite _) ?_
  dsimp only
  split
  · exact h.writeAround _ _ _
  · exact h.writeAround _ _ _
  · exact .ite (h.haltWrite _) (h.writeAround _ _ _)
  · refine .ite (h.writeAround _ _ _) ?_
    split
    · exact .ite ((h.writeHit _ _ _ _).finishWrite _) (.ite ((h.dropLine _ _ _).writeAround _ _ _) (.ite ((h.readWay _ _
      _).mergeBase _ _) (h.readHitLine _ _)))
    · refine .ite (h.reserveWay _ _) (.ite ((h.reserveWay _ _).writeAround _ _ _ (reserved ht)) (.ite (((h.reserveWay _
      _).fillFor _ _ _).finishWrite _ (reserved ht)) ?_))
      exact (h.reserveWay _ _).readAndMerge _ (reserved ht)

/-! ## Range maintenance -/

theorem Moves.maintAck (h : Moves F base d) (t : Txn) (op : Nat)
    (ht : F (.grants t.line) := by first | assumption | exact trivial) : Moves F base (d.maintAck t op) := by
  unfold Dev.maintAck
  refine Moves.putTxn ?_ _
  dsimp only
  split
  · split
    · exact .ite (h.putHeader _ _) (h.putHeader _ _)
    · exact h
  · exact h

theorem Moves.maintUnplaced (h : Moves F base d) (t : Txn) (op : Nat)
    (ht : F (.grants t.line) := by first | assumption | exact trivial) : Moves F base (d.maintUnplaced t op) :=
  .ite ((Moves.ite (h.foldl _ (fun _ _ h => h.wbFree _)) ((h.foldl _ (fun _ _ h => h.wbFree _)).cleanMark _)).putTxn _)
    ((h.putTxn _).foldl _ (fun _ _ h => h.wbBind _))

theorem Moves.gatherMaint (h : Moves F base d) (t : Txn) (op : Nat)
    (ht : F (.grants t.line) := by first | assumption | exact trivial) : Moves F base (d.gatherMaint t op) := by
  unfold Dev.gatherMaint
  dsimp only
  split
  · split
    · refine .ite (.ite (((h.wbSettleAll.dropLine _ _ _).cleanMark _).maintUnplaced _ _) (((h.wbSettleAll.dropLine _ _
      _).cleanMark _).putTxn _)) ?_
      split
      · exact ((h.wbSettleAll.fillLine _ _ _ _ _).putTxn _).wbFullWrite _ _ _ _
      · exact .ite (((h.wbSettleAll.readWay _ _ _).putTxn _).wbFullWrite _ _ _ _) (.ite (.ite ((h.wbSettleAll.dropLine _ _
        _).maintUnplaced _ _) ((h.wbSettleAll.dropLine _ _ _).putTxn _)) (.ite (h.wbSettleAll.maintUnplaced _ _)
          (h.wbSettleAll.putTxn _)))
    · split
      · exact .ite ((h.wbSettleAll.putTxn _).wbFullWrite _ _ _ _) (.ite (h.wbSettleAll.maintUnplaced _ _)
        (h.wbSettleAll.putTxn _))
      · exact .ite (h.wbSettleAll.maintUnplaced _ _) (h.wbSettleAll.putTxn _)
  · split
    · exact .ite ((h.wbSettleAll.putTxn _).wbFullWrite _ _ _ _) (.ite (h.wbSettleAll.maintUnplaced _ _) (h.wbSettleAll.putTxn
      _))
    · exact .ite (h.wbSettleAll.maintUnplaced _ _) (h.wbSettleAll.putTxn _)

theorem Moves.gather (h : Moves F base d) (t : Txn)
    (ht : F (.grants t.line) := by first | assumption | exact trivial) : Moves F base (d.gather t) := by
  unfold Dev.gather
  split
  · exact h.gatherRead _
  · exact h.gatherRead _
  · exact h.gatherRead _
  · exact h.gatherRead _
  · exact h.gatherRead _
  · exact h.gatherWrite _
  · exact h.gatherWrite _
  · exact h.gatherWrite _
  · split
    · exact h.boarded _ _ _
    · exact h.boardLines _ _
  · exact h.gatherMaint _ _
  · exact h

end Sys2Proof.Machine
end

section
/-! SUPPORT. What the home's decisions are moves of: snoops, their answers, and what follows. -/

namespace Sys2Proof.Machine

set_option Elab.async false

variable {F : Part → Prop} {base d : Dev}

/-! ## Answers to snoops -/

theorem lessens_setPf (p : Nat) : Lessens (fun e => e.setPf p) := fun _ _ => ⟨rfl, id⟩

theorem lessens_shared : Lessens (fun e => { e with st := .DS }) := fun _ _ => ⟨rfl, id⟩

theorem Lessens.comp {f g : DirEnt → DirEnt} (hf : Lessens f) (hg : Lessens g) : Lessens (fun e => f (g e)) := fun e p =>
  ⟨(hf _ p).1.trans (hg e p).1, fun h => (hg e p).2 ((hf _ p).2 h)⟩

theorem lessens_prefectOff (p : Nat) : Lessens (fun e => if e.prefect = some p then e.noPf else e) := by
  intro e q
  dsimp only
  split
  · exact lessens_noPf e q
  · exact ⟨rfl, id⟩

/-- No answer to a snoop adds a holder. -/
theorem lessens_entryAfter (s : Snoop) (a : SnpAns) (p : Nat) : Lessens (entryAfter s a p) := by
  intro e q
  unfold entryAfter
  split
  · split
    · exact lessens_drop p e q
    · dsimp only
      split
      · exact lessens_setPf p { e with st := .DS } q
      · exact lessens_prefectOff p { e with st := .DS } q
  · split
    · exact lessens_drop p e q
    · exact lessens_prefectOff p e q
  · split
    · exact ⟨rfl, id⟩
    · exact lessens_drop p e q
  · exact lessens_drop p e q

/-- A transaction as it stands after a step of its snoops: the same line, in the same phase. -/
def SameWork (t u : Txn) : Prop := u.line = t.line ∧ u.phase = t.phase

theorem SameWork.trans {t u v : Txn} (h : SameWork t u) (h' : SameWork u v) : SameWork t v := ⟨h'.1.trans h.1, h'.2.trans h.2⟩

theorem SameWork.ite {α : Type} {t : Txn} {c : Prop} [Decidable c] {x y : Txn × α} (hx : SameWork t x.1) (hy : SameWork t y.1) :
    SameWork t (if c then x else y).1 := by
  split
  · exact hx
  · exact hy

theorem useAnswer_work (d : Dev) (t : Txn) (p : Nat) (s : Snoop) (a : SnpAns) : SameWork t (d.useAnswer t p s a).1 := by
  unfold Dev.useAnswer
  dsimp only
  split
  · exact .ite ⟨rfl, rfl⟩ ⟨rfl, rfl⟩
  · exact ⟨rfl, rfl⟩
  · refine .ite ⟨rfl, rfl⟩ ?_
    split <;> exact ⟨rfl, rfl⟩
  · split
    · exact .ite ⟨rfl, rfl⟩ ⟨rfl, rfl⟩
    · exact ⟨rfl, rfl⟩
  · exact ⟨rfl, rfl⟩

theorem Moves.useAnswer (h : Moves F base d) (t : Txn) (p : Nat) (s : Snoop) (a : SnpAns) :
    Moves F base (d.useAnswer t p s a).2 := by
  unfold Dev.useAnswer
  dsimp only
  split
  · refine .iteSnd ?_ ?_
    · exact h
    · dsimp only
      exact .ite (h.takeDirty _ _) h
  · exact h
  · refine .iteSnd ?_ ?_
    · exact h
    · split
      · exact h
      · exact h
      · dsimp only
        exact h.takeDirty _ _
  · split
    · refine .iteSnd ?_ ?_
      · exact h
      · exact h
    · exact h
  · exact h

theorem Moves.takeAnswer (h : Moves F base d) (t : Txn) (p : Nat) (s : Snoop) (a : SnpAns) :
    Moves F base (d.takeAnswer t p s a).2 := by
  unfold Dev.takeAnswer
  dsimp only
  split
  · exact .ite (h.useAnswer ..) ((h.useAnswer ..).putSdr _)
  · exact (h.useAnswer ..).dirMap _ _ (lessens_entryAfter s a p)

theorem takeAnswer_work (d : Dev) (t : Txn) (p : Nat) (s : Snoop) (a : SnpAns) : SameWork t (d.takeAnswer t p s a).1 := by
  unfold Dev.takeAnswer
  dsimp only
  split
  · exact useAnswer_work ..
  · exact useAnswer_work ..

theorem Moves.poisonSector (h : Moves F base d) (line : Nat) (target : Bool) : Moves F base (d.poisonSector line target) :=
  h.foldl _ (fun _ _ h => h.takeDirty _ _)

theorem Moves.standIn (h : Moves F base d) (t : Txn) (port : Nat) (s : Snoop) : Moves F base (d.standIn t port s).2 := by
  unfold Dev.standIn
  dsimp only
  refine .iteSnd ?_ ?_
  · refine .iteSnd ?_ ?_
    · dsimp only
      exact h.poisonSector _ _
    · exact h
  · exact h

theorem Moves.slotPoison (h : Moves F base d) (port line : Nat) : Moves F base (d.slotPoison port line) :=
  .ite (h.poisonSector _ _) h

theorem sendSnoop_work (d : Dev) (t : Txn) (port : Nat) (s : Snoop) : SameWork t (d.sendSnoop t port s).1 := by
  unfold Dev.sendSnoop
  dsimp only
  repeat' split
  all_goals exact ⟨rfl, rfl⟩

theorem Moves.snoopOne {r : Txn × Dev} (h : Moves F base r.2) (e : Nat × Snoop) : Moves F base (Dev.snoopOne r e).2 := by
  unfold Dev.snoopOne
  dsimp only
  split
  · exact (h.standIn ..).takeAnswer ..
  · exact h.sendSnoop ..

theorem snoopOne_work (r : Txn × Dev) (e : Nat × Snoop) : SameWork r.1 (Dev.snoopOne r e).1 := by
  unfold Dev.snoopOne
  dsimp only
  split
  · exact takeAnswer_work ..
  · exact sendSnoop_work ..

theorem snoopFold {r : Txn × Dev} (h : Moves F base r.2) (l : List (Nat × Snoop)) :
    Moves F base (l.foldl Dev.snoopOne r).2 ∧ SameWork r.1 (l.foldl Dev.snoopOne r).1 := by
  induction l generalizing r with
  | nil => exact ⟨h, rfl, rfl⟩
  | cons e l ih =>
    obtain ⟨hm, hw⟩ := ih (h.snoopOne e)
    exact ⟨hm, (snoopOne_work r e).trans hw⟩

theorem Moves.snoopAll (h : Moves F base d) (t : Txn) (l : List (Nat × Snoop)) : Moves F base (d.snoopAll t l).2 :=
  (snoopFold (r := (t, d)) h l).1

theorem snoopAll_work (d : Dev) (t : Txn) (l : List (Nat × Snoop)) : SameWork t (d.snoopAll t l).1 :=
  (snoopFold (F := fun _ => True) (r := (t, d)) .refl l).2

/-- The directory may record the grant of a transaction that has sent its snoops. -/
theorem snooped {t : Txn} {l : List (Nat × Snoop)} (ht : F (.grants t.line)) : F (.grants (d.snoopAll t l).1.line) :=
  (snoopAll_work d t l).1 ▸ ht

theorem Moves.countRoll (h : Moves F base d) : Moves F base d.countRoll :=
  .ite (h.bump64 _ _) ((h.bump64 _ _).pmu1 _ _)

theorem Moves.endRoll (h : Moves F base d) (t : Txn) : Moves F base (d.endRoll t) :=
  .ite h (.ite (h.putSdr _) (h.dirMap _ _ lessens_free))

/-! ## Manager snoops and DepBoard at a worker -/

theorem Moves.emptySector (h : Moves F base d) (line : Nat) : Moves F base (d.emptySector line) := by
  unfold Dev.emptySector
  split
  · exact h.putHeader _ _
  · exact h

theorem Moves.clearExc (h : Moves F base d) (line : Nat) : Moves F base (d.clearExc line) := by
  unfold Dev.clearExc
  split
  · exact h.putHeader _ _
  · exact h

theorem Moves.dirtyValue (h : Moves F base d) (t : Txn) (line : Nat) : Moves F base (d.dirtyValue t line).2 := by
  unfold Dev.dirtyValue
  dsimp only
  refine .iteSnd ?_ ?_
  · exact h
  · split
    · refine .iteSnd ?_ ?_
      · exact h.readWay _ _ _
      · exact h
    · exact h

/-- A cached copy that stays is clean. -/
theorem Moves.leaveClean (h : Moves F base d) (line : Nat) (p : Payload) : Moves F base (match d.sectorWay line with
    | some (set, h, w) => if (h.way w).v.getLsbD (line % 8) then d.fillLine set w line p false else d
    | none => d) := by
  split
  · exact .ite (h.fillLine ..) h
  · exact h

theorem Moves.mgrLineDone (h : Moves F base d) (t : Txn) (line : Nat) : Moves F base (d.mgrLineDone t line).2 := by
  unfold Dev.mgrLineDone
  split
  · next heq => exact (h.dirtyValue ..).snd heq
  · next p d' heq =>
    have hclean := ((h.dirtyValue ..).snd heq).leaveClean line p
    exact .iteSnd (.ite hclean (hclean.cleanMark _)) (hclean.wbFullWrite ..)

theorem Moves.mgrAnswer (h : Moves F base d) (t : Txn) (s : Snoop) : Moves F base (d.mgrAnswer t s) :=
  (h.tell _ _).freeTxn _

theorem Moves.depMisses (h : Moves F base d) (t : Txn)
    (ht : F (.grants t.line) := by first | assumption | exact trivial) : Moves F base (d.depMisses t) :=
  .ite ((h.foldl _ (fun _ _ h => h.tell _ _)).freeTxn _) ((h.foldl _ (fun _ _ h => h.tell _ _)).putTxn _)

theorem Moves.mgrDrained (h : Moves F base d) (t : Txn)
    (ht : F (.grants t.line) := by first | assumption | exact trivial) : Moves F base (d.mgrDrained t) := by
  unfold Dev.mgrDrained
  refine .ite h ?_
  split
  · exact h.mgrAnswer _ _
  · exact .ite h (h.depMisses _)

theorem Moves.bindSector (h : Moves F base d) (line : Nat) : Moves F base (d.bindSector line) :=
  h.foldl _ (fun _ _ h => h.wbBind _)

theorem losesSector_work (t : Txn) (s : Snoop) : SameWork t (t.losesSector s) := by
  unfold Txn.losesSector
  split <;> exact ⟨rfl, rfl⟩

theorem Known.of_work {t u : Txn} (ht : Known F base t) (h : SameWork t u) : Known F base u := by
  unfold Known at ht ⊢
  rwa [h.1, h.2]

theorem Moves.loseSector (h : Moves F base d) (line : Nat) (s : Snoop) : Moves F base (d.loseSector line s) :=
  h.foldl_mem _ fun u hu _ hd => hd.putTxn _ ((h.known u (List.mem_filter.mp hu).1).of_work (losesSector_work u s))

theorem Moves.mgrFinish (h : Moves F base d) (t : Txn) (s : Snoop)
    (ht : F (.grants t.line) := by first | assumption | exact trivial) : Moves F base (d.mgrFinish t s) := by
  unfold Dev.mgrFinish
  refine (((Moves.ite (.ite h (h.loseSector _ _)) ?_).bindSector _).putTxn _).mgrDrained _
  split
  · exact (Moves.ite h (h.loseSector _ _)).clearExc _
  · exact (Moves.ite h (h.loseSector _ _)).emptySector _

theorem mgrLineDone_work (d : Dev) (t : Txn) (line : Nat) : SameWork t (d.mgrLineDone t line).1 := by
  unfold Dev.mgrLineDone
  split
  · exact ⟨rfl, rfl⟩
  · exact .ite ⟨rfl, rfl⟩ ⟨rfl, rfl⟩

theorem Moves.mgrLines (h : Moves F base d) (s : Snoop) (l : List Nat) (t : Txn)
    (ht : F (.grants t.line) := by first | assumption | exact trivial) : Moves F base (Dev.mgrLines s l t d) := by
  induction l generalizing d t with
  | nil => exact h.mgrFinish t s
  | cons l ls ih =>
    have hsent := fun (c : Prop) [Decidable c] (u : Txn) (hu : F (.grants u.line)) (p : List (Nat × Snoop)) =>
      ((Moves.ite (c := c) h.countRoll h).putTxn u (.inl hu)).snoopAll u p
    unfold Dev.mgrLines
    refine .ite (ih (((hsent _ _ ?_ _).endRoll _).mgrLineDone _ _) _ ?_) ((hsent _ _ ?_ _).putTxn _ (.inl (snooped ?_)))
    · exact ht
    · rw [(mgrLineDone_work ..).1]
      exact snooped ht
    · exact ht
    · exact ht

theorem Moves.depSend (h : Moves F base d) (t : Txn) (line : Nat) (p : Payload) : Moves F base (d.depSend t line p) :=
  h.tell _ _

theorem Moves.depAtHand (h : Moves F base d) (t : Txn) (line : Nat) : Moves F base (d.depAtHand t line).2 := by
  unfold Dev.depAtHand
  dsimp only
  split
  · exact h
  · refine .iteSnd ?_ ?_
    · exact h.freePoison
    · split
      · refine .iteSnd ?_ ?_
        · exact h.lostLine _ _ _
        · exact h
      · exact h

end Sys2Proof.Machine
end

section
/-! SUPPORT. What becoming active, going on and the issue of an engine are moves of. -/

namespace Sys2Proof.Machine

set_option Elab.async false

variable {F : Part → Prop} {base d : Dev}

/-- A transaction's snoops are sent and its state is kept. -/
theorem Moves.sendPlan (h : Moves F base d) (c : Prop) [Decidable c] (t : Txn) (l : List (Nat × Snoop))
    (ht : F (.grants t.line) := by first | assumption | exact trivial) :
    Moves F base ((((if c then d.countRoll else d).putTxn t).snoopAll t l).2.putTxn
      (((if c then d.countRoll else d).putTxn t).snoopAll t l).1) :=
  (((Moves.ite h.countRoll h).putTxn t (.inl ht)).snoopAll t l).putTxn _ (.inl (snooped ht))

theorem Moves.depBoardLines (h : Moves F base d) (l : List Nat) (t : Txn)
    (ht : F (.grants t.line) := by first | assumption | exact trivial) : Moves F base (Dev.depBoardLines l t d) := by
  induction l generalizing d t with
  | nil =>
    refine .ite (h.freeTxn _) ((h.putTxn _ (.inl ?_)).mgrDrained _ ?_)
    · exact ht
    · exact ht
  | cons l ls ih =>
    unfold Dev.depBoardLines
    have hsent : ∀ (u : Txn) (p : List (Nat × Snoop)), F (.grants u.line) → Moves F base ((d.putTxn u).snoopAll u p).2 :=
      fun u p hu => (h.putTxn u (.inl hu)).snoopAll u p
    refine .ite ((hsent _ _ ?_).putTxn _ (.inl (snooped ?_))) ?_
    · exact ht
    · exact ht
    dsimp only
    split
    · next heq =>
      refine ih ((((hsent _ _ ?_).depAtHand ..).snd heq).depSend ..) _ (snooped ?_)
      · exact ht
      · exact ht
    · next heq =>
      split
      · refine Moves.readHitLine (((hsent _ _ ?_).depAtHand ..).snd heq) _ _ (snooped ?_)
        · exact ht
        · exact ht
      · refine ih (((hsent _ _ ?_).depAtHand ..).snd heq) _ (snooped (t := { t with victim := _, lines := _, got := _ }) ?_)
        · exact ht
        · exact ht

theorem Moves.depBoardOn (h : Moves F base d) (t : Txn)
    (ht : F (.grants t.line) := by first | assumption | exact trivial) : Moves F base (d.depBoardOn t) := by
  unfold Dev.depBoardOn
  dsimp only
  split
  · next p d heq =>
      have h := (h.depAtHand _ _).snd heq
      exact (h.depSend _ _ _).depBoardLines _ _
  · next d heq =>
      have h := (h.depAtHand _ _).snd heq
      split
      · exact h.readHitLine _ _
      · exact h.depBoardLines _ _

theorem Moves.mgrDecide (h : Moves F base d) (t : Txn)
    (ht : F (.grants t.line) := by first | assumption | exact trivial) : Moves F base (d.mgrDecide t) := by
  unfold Dev.mgrDecide
  dsimp only
  split
  · exact .ite ((h.foldl _ (fun _ _ h => h.dirTouch _)).mgrFinish _ _) ((h.foldl _ (fun _ _ h => h.dirTouch _)).mgrLines _ _ _)
  · exact .ite ((h.foldl _ (fun _ _ h => h.dirTouch _)).depBoardLines _ _) ((((h.foldl _ (fun _ _ h => h.dirTouch
    _)).bindSector _).putTxn _).mgrDrained _)

theorem Moves.mgrOn (h : Moves F base d) (t : Txn)
    (ht : F (.grants t.line) := by first | assumption | exact trivial) : Moves F base (d.mgrOn t) := by
  unfold Dev.mgrOn
  split
  · exact ((h.endRoll _).mgrLineDone _ _).mgrLines _ _ _ ((mgrLineDone_work (d.endRoll t) t t.snooped).1.symm ▸ ht)
  · exact h.depBoardOn _

/-- A request treats its own record as gone. -/
theorem Moves.ownRecordGone (h : Moves F base d) (t : Txn) : Moves F base (match t.reader, t.kind with
    | some r, .rdShared | some r, .rdFetch | some r, .rdOnce => d.dirMap t.line (fun e => withoutReader e r)
    | some r, .wrFull | some r, .wrPart => d.dirMap t.line (fun e => e.drop r)
    | _, _ => d.dirTouch t.line) := by
  split
  · exact h.dirMap _ _ (lessens_withoutReader _)
  · exact h.dirMap _ _ (lessens_withoutReader _)
  · exact h.dirMap _ _ (lessens_withoutReader _)
  · exact h.dirMap _ _ (lessens_drop _)
  · exact h.dirMap _ _ (lessens_drop _)
  · exact h.dirTouch _

theorem Moves.decide (h : Moves F base d) (t : Txn)
    (ht : F (.grants t.line) := by first | assumption | exact trivial) : Moves F base (d.decide t) := by
  unfold Dev.decide
  refine .ite (h.mgrDecide _) (.ite (((Moves.sendPlan (Moves.ownRecordGone h _) _ _ _ ?_).endRoll _).gather _ (snooped ?_))
    (Moves.sendPlan (Moves.ownRecordGone h _) _ _ _ ?_))
  all_goals exact ht

theorem Moves.headerStep (h : Moves F base d) (t : Txn)
    (ht : F (.grants t.line) := by first | assumption | exact trivial) : Moves F base (d.headerStep t) := by
  unfold Dev.headerStep
  refine .ite (h.decide _) ?_
  dsimp only
  split
  · exact ((h.pmu1 _ _).useHeader _).decide _
  · exact .ite ((h.putTxn _).startFetch _ _) ((h.putTxn _).missHeader _)

theorem Moves.dirPinned (h : Moves F base d) (t : Txn)
    (ht : F (.grants t.line) := by first | assumption | exact trivial) : Moves F base (d.dirPinned t) :=
  .ite ((h.raise _).putTxn _) ((((h.raise _).freeTxn _).fillPlace _).ticketFor _ _ _ _ _)

theorem Moves.endBackInv (h : Moves F base d) (t : Txn)
    (ht : F (.grants t.line) := by first | assumption | exact trivial) : Moves F base (d.endBackInv t) := by
  unfold Dev.endBackInv
  split
  · exact ((h.endRoll _).dirAssign _ _).headerStep _
  · exact h.headerStep _

theorem Moves.backInvalidate (h : Moves F base d) (t : Txn) (e : DirEnt)
    (ht : F (.grants t.line) := by first | assumption | exact trivial) : Moves F base (d.backInvalidate t e) := by
  unfold Dev.backInvalidate
  refine .ite ((((h.bump64 _ _).pmu1 _ _).sendPlan _ _ _ ?_).endBackInv _ (snooped ?_))
    (((h.bump64 _ _).pmu1 _ _).sendPlan _ _ _ ?_)
  all_goals exact ht

theorem Moves.dirStep (h : Moves F base d) (t : Txn)
    (ht : F (.grants t.line) := by first | assumption | exact trivial) : Moves F base (d.dirStep t) := by
  unfold Dev.dirStep
  split
  · next e he => exact (h.putDir _ (.inr fun _ hp => ⟨e, (dirFind_some he).1, rfl, hp⟩)).headerStep _
  · split
    · exact (h.dirAssign _ _).headerStep _
    · split
      · exact h.backInvalidate _ _
      · exact h.dirPinned _

theorem Moves.sdrKnown (h : Moves F base d) (t : Txn)
    (ht : F (.grants t.line) := by first | assumption | exact trivial) : Moves F base (d.sdrKnown t) :=
  (((h.putSdr _).sdrWrite _).sdr _).headerStep _

theorem Moves.sdrFetch (h : Moves F base d) (k : Nat) : Moves F base (d.sdrFetch k).2 := by
  unfold Dev.sdrFetch
  dsimp only
  refine .iteSnd ?_ ?_
  · dsimp only
    exact h.sdrUse _
  · refine .iteSnd ?_ ?_
    · dsimp only
      exact (h.bump64 _ _).sdrInstall _
    · dsimp only
      exact (h.bump64 _ _).memRead _

theorem Moves.sdrStep (h : Moves F base d) (t : Txn)
    (ht : F (.grants t.line) := by first | assumption | exact trivial) : Moves F base (d.sdrStep t) := by
  unfold Dev.sdrStep
  dsimp only
  split
  · next heq => exact ((h.sdrFetch _).snd heq).putTxn _
  · next heq =>
    have hfetched := (h.sdrFetch _).snd heq
    refine .ite (.ite (((hfetched.countRoll.putTxn _ (.inl ?_)).snoopAll _ _).putTxn _ (.inl (snooped ?_)) |>.sdrKnown _
      (snooped ?_)) (((hfetched.countRoll.putTxn _ (.inl ?_)).snoopAll _ _).putTxn _ (.inl (snooped ?_)))) (hfetched.headerStep _)
    all_goals exact ht

theorem Moves.activate (h : Moves F base d) (t : Txn)
    (ht : F (.grants t.line) := by first | assumption | exact trivial) : Moves F base (d.activate t) :=
  .ite (h.sdrStep _) (.ite (h.dirStep _) (h.headerStep _))

theorem Moves.promote (h : Moves F base d) (id : Nat)
    (hg : ∀ l, F (.grants l) := by first | assumption | exact fun _ => trivial) : Moves F base (d.promote id) := by
  unfold Dev.promote
  split
  · exact h
  · next t _ =>
    have ht := hg t.line
    exact .ite (h.dirStep _) (.ite (.ite (h.headerStep _) h) (.ite (((h.putTxn _).activate _).fillPlace _) h))

theorem Moves.proceed (h : Moves F base d) (t : Txn)
    (ht : F (.grants t.line) := by first | assumption | exact trivial) : Moves F base (d.proceed t) :=
  .ite h (.ite (h.endBackInv _) (.ite (h.sdrKnown _) (.ite (.ite (h.mgrOn _) ((h.endRoll _).gather _)) h)))

theorem Moves.answer (h : Moves F base d) (t : Txn) (port : Nat) (a : SnpAns)
    (ht : F (.grants t.line) := by first | assumption | exact trivial) : Moves F base (d.answer t port a) := by
  unfold Dev.answer
  split
  · exact h
  · refine ((h.takeAnswer _ _ _ _).putTxn _ (.inl ?_)).proceed _ ?_
    all_goals
      rw [(takeAnswer_work ..).1]
      exact ht

theorem Moves.issueNext (h : Moves F base d)
    (hg : ∀ l, F (.grants l) := by first | assumption | exact fun _ => trivial) : Moves F base d.issueNext := by
  unfold Dev.issueNext
  dsimp only
  split
  · exact .ite (h.refill.promote _) (h.refill)
  · exact h.refill

theorem Moves.issue (h : Moves F base d) (t : Txn)
    (hg : ∀ l, F (.grants l) := by first | assumption | exact fun _ => trivial) : Moves F base (d.issue t) :=
  (h.cnf _).issueNext

end Sys2Proof.Machine
end

section
/-! SUPPORT. What admitting, taking and re-sending requests, departures, Appends and write-backs are moves of. -/

namespace Sys2Proof.Machine

set_option Elab.async false

variable {F : Part → Prop} {base d : Dev}

/-! ## Departures -/

theorem Moves.refuseDep (h : Moves F base d) (e : Dep) : Moves F base (d.refuseDep e) :=
  ((h.raise _).bumpSat _ _).sendErr _ _ _

theorem Moves.enterDep (h : Moves F base d) (e : Dep) : Moves F base (d.enterDep e) :=
  ((h.setDeps _).mirror _).raiseIf _ _

theorem Moves.countDep (h : Moves F base d) (e : Dep) : Moves F base (d.countDep e) :=
  .ite ((((h.bump64 _ _).pmu1 _ _).raise _).bumpSat _ _) ((h.bump64 _ _).pmu1 _ _)

theorem Moves.boardRead (h : Moves F base d) (e : Dep) (l : List Nat)
    (hg : ∀ l, F (.grants l) := by first | assumption | exact fun _ => trivial) : Moves F base (Dev.boardRead e d l) := by
  unfold Dev.boardRead
  split
  · exact h
  · exact h.issue _

theorem Moves.startBoarding (h : Moves F base d) (e : Dep)
    (hg : ∀ l, F (.grants l) := by first | assumption | exact fun _ => trivial) : Moves F base (d.startBoarding e) :=
  (h.saveDep _).foldl _ (fun _ _ h => h.boardRead _ _)

theorem Moves.admitDep (h : Moves F base d) (e : Dep)
    (hg : ∀ l, F (.grants l) := by first | assumption | exact fun _ => trivial) : Moves F base (d.admitDep e) :=
  .ite (((h.countDep _).respond _ _).startBoarding _) ((h.countDep _).respond _ _)

theorem Moves.depKnown (h : Moves F base d) (e : Dep) {x : Dev} (hx : d.depKnown e = some x) : Moves F base x := by
  unfold Dev.depKnown at hx
  split at hx
  · cases hx
  · split at hx
    · dsimp only at hx
      cases hx
      exact .ite (h.saveDep _) ((h.saveDep _).respond _ _)
    · split at hx
      · cases hx
        exact h.respond _ _
      · cases hx

theorem Moves.announceTo (h : Moves F base d) (e : Dep) (k : Nat) : Moves F base (Dev.announceTo e d k) :=
  .ite h (h.tell _ _)

theorem Moves.announceDep (h : Moves F base d) (e : Dep) : Moves F base (d.announceDep e) :=
  .ite (h.refuseDep _) ((h.enterDep _).foldl _ (fun _ _ h => h.announceTo _ _))

theorem Moves.coordinate (h : Moves F base d) (e : Dep) (came : BitVec 64)
    (hg : ∀ l, F (.grants l) := by first | assumption | exact fun _ => trivial) : Moves F base (d.coordinate e came) := by
  unfold Dev.coordinate
  split
  · next d heq =>
      have h := h.depKnown _ heq
      exact h
  · split
    · exact .ite (h.announceDep _) ((h.enterDep _).admitDep _)
    · exact h.refuseDep _

theorem Moves.forwardDep (h : Moves F base d) (x : Depart) (e : Dep) : Moves F base (d.forwardDep x e) :=
  .ite ((h.returnReq _).refuseDep _) ((((h.uplinkPhase _ _ _ _).hie _ _ _).pmu1 _ _).tell _ _)

theorem Moves.takeDepart (h : Moves F base d) (x : Depart)
    (hg : ∀ l, F (.grants l) := by first | assumption | exact fun _ => trivial) : Moves F base (d.takeDepart x) :=
  .ite ((h.returnReq _).sendErr _ _ _) (.ite (((h.returnReq _).raise _).sendErr _ _ _) (.ite (h.forwardDep _ _) (.ite
    ((h.returnReq _).refuseDep _) ((h.returnReq _).coordinate _ _))))

theorem Moves.takeDeparts (h : Moves F base d)
    (hg : ∀ l, F (.grants l) := by first | assumption | exact fun _ => trivial) : Moves F base d.takeDeparts :=
  (h.dep _).foldl _ (fun _ _ h => h.takeDepart _)

/-! ## Append streams -/

theorem Moves.putStream (h : Moves F base d) (n : Nat) (s : Stream)
    (hs : F .streams := by first | assumption | exact trivial) : Moves F base (d.putStream n s) :=
  h.apd hs _

theorem Moves.setStream (h : Moves F base d) (n : Nat) (s : Stream)
    (hs : F .streams := by first | assumption | exact trivial) : Moves F base (d.setStream n s) :=
  (h.putStream _ _).mirror _

theorem Moves.commitStream (h : Moves F base d) (n : Nat) (s : Stream)
    (hs : F .streams := by first | assumption | exact trivial) : Moves F base (d.commitStream n s) :=
  (h.setStream _ _).raiseIf _ _

theorem Moves.issueLine (h : Moves F base d) (n : Nat) (l : StreamLine) (hs : F .streams := by first | assumption | exact
  trivial) (hg : ∀ l, F (.grants l) := by first | assumption | exact fun _ => trivial) : Moves F base (Dev.issueLine n d l) :=
  .ite h ((h.setStream _ _).issue _)

theorem Moves.pumpStreams (h : Moves F base d) (hs : F .streams := by first | assumption | exact trivial)
    (hg : ∀ l, F (.grants l) := by first | assumption | exact fun _ => trivial) : Moves F base d.pumpStreams :=
  h.foldl _ (fun _ _ h => h.foldl _ (fun _ _ h => h.issueLine _ _))

theorem Moves.placeRecord (h : Moves F base d) (n len : Nat) (p : Payload) (hs : F .streams := by first | assumption | exact
  trivial) (hg : ∀ l, F (.grants l) := by first | assumption | exact fun _ => trivial) : Moves F base (d.placeRecord n len
    p).2 := by
  unfold Dev.placeRecord
  dsimp only
  exact ((((h.commitStream _ _).bump64 _ _).pmu1 _ _).raiseIf _ _).pumpStreams

theorem Moves.refuseAppend (h : Moves F base d) (o : Origin) (tag : Nat) (full : Option Nat)
    (hs : F .streams := by first | assumption | exact trivial) : Moves F base (d.refuseAppend o tag full) := by
  unfold Dev.refuseAppend
  refine ((Moves.raise ?_ _).bumpSat _ _).sendErr _ _ _
  dsimp only
  split
  · exact (h.setStream _ _).raise _
  · exact h

theorem Moves.takeAppend (h : Moves F base d) (o : Origin) (tag : Nat) (tph : Bool) (n len : Nat) (p : Payload) {x : Dev}
    (hx : d.takeAppend o tag tph n len p = some x) (hs : F .streams := by first | assumption | exact trivial)
    (hg : ∀ l, F (.grants l) := by first | assumption | exact fun _ => trivial) : Moves F base x := by
  unfold Dev.takeAppend at hx
  dsimp only at hx
  split at hx
  · cases hx
    exact h.refuseAppend _ _ _
  · split at hx
    · cases hx
      exact h.refuseAppend _ _ _
    · split at hx
      · cases hx
      · cases hx
        exact ((h.placeRecord _ _ _).logRetired _).respond _ _

/-- An Append goes up from a worker alone. -/
theorem Moves.goesUp (h : Moves F base d) {t : Txn} (ht : d.appendGoesUp t = true) : F .rest ∨ base.gcr.role ≠ .standalone := by
  simp only [Dev.appendGoesUp, Bool.and_eq_true, beq_iff_eq] at ht
  obtain ⟨⟨⟨hr, -⟩, -⟩, -⟩ := ht
  exact h.notAlone hr (by decide)

theorem Moves.forwardAppend (h : Moves F base d) (t : Txn) (hr : F .rest ∨ base.gcr.role ≠ .standalone) :
    Moves F base (d.forwardAppend t) :=
  (((h.uplinkPhase ..).putTxn _ (.inr (hr.imp_right .inl))).pmu1 ..).tell ..

theorem Moves.retryAppend (h : Moves F base d) (t : Txn) (hs : F .streams := by first | assumption | exact trivial)
    (hg : ∀ l, F (.grants l) := by first | assumption | exact fun _ => trivial) : Moves F base (d.retryAppend t) := by
  unfold Dev.retryAppend
  split
  · exact h
  · split
    · next hup => exact h.forwardAppend t (h.goesUp hup)
    · split
      · next heq => exact (h.takeAppend _ _ _ _ _ _ heq).freeTxn _
      · exact h

theorem Moves.appendAgain (h : Moves F base d) (t : Txn) (hs : F .streams := by first | assumption | exact trivial)
    (hg : ∀ l, F (.grants l) := by first | assumption | exact fun _ => trivial) : Moves F base (d.appendAgain t) :=
  .ite h ((h.putTxn _ (.inl (hg _))).retryAppend _)

theorem Moves.admitAppend (h : Moves F base d) (t : Txn) (hs : F .streams := by first | assumption | exact trivial)
    (hg : ∀ l, F (.grants l) := by first | assumption | exact fun _ => trivial) : Moves F base (d.admitAppend t) := by
  unfold Dev.admitAppend
  split
  · next hup => exact (h.addTxn _ (.inr ((h.goesUp hup).imp_right .inl))).forwardAppend _ (h.goesUp hup)
  · split
    · next heq => exact h.takeAppend _ _ _ _ _ _ heq
    · exact h.addTxn _ (.inl (hg _))

/-! ## Requests -/

theorem Moves.reqSlot (h : Moves F base d) (code : Nat) (t : Txn) (port : Nat) : Moves F base (d.reqSlot code t port) :=
  h.slot _

theorem Moves.refuse (h : Moves F base d) (r : Req) (t : Txn) (sub : Nat)
    (hs : F .streams := by first | assumption | exact trivial) : Moves F base (d.refuse r t sub) := by
  unfold Dev.refuse
  refine .ite (((Moves.raiseIf ?_ _ _).reqSlot _ _ _).refuseAppend _ _ _) (((Moves.raiseIf ?_ _ _).reqSlot _ _ _).sendErr _ _ _)
  all_goals
    split
    · exact h.dropTicket _
    · exact h

/-- A request without a place: a ticket while a reservation is free. -/
theorem Moves.noPlace (h : Moves F base d) (r : Req) (t : Txn) (hw : F .receives ∨ d.rsvUsed < 512) :
    Moves F base (d.noPlace r t) := by
  unfold Dev.noPlace
  split
  · exact (h.reqSlot _ _ _).ticketFor _ _ _ _ _
  · next hfull => exact h.holdRequest r (hw.resolve_right hfull)

theorem Moves.admitNew (h : Moves F base d) (r : Req) (t : Txn) (hw : F .receives ∨ d.rsvUsed < 512)
    (hs : F .streams := by first | assumption | exact trivial)
    (hg : ∀ l, F (.grants l) := by first | assumption | exact fun _ => trivial) : Moves F base (d.admitNew r t) := by
  unfold Dev.admitNew
  split
  · exact h.noPlace r t hw
  · exact .ite ((h.reqSlot _ _ _).admitAppend _) (.ite (h.noPlace r _ hw) (.ite ((h.raise _).noPlace r _ hw)
      (((h.reqSlot _ _ _).addTxn _ (.inl (hg _))).promote _)))

theorem Moves.admitRetry (h : Moves F base d) (r : Req) (t : Txn) (x : Ticket)
    (hs : F .streams := by first | assumption | exact trivial)
    (hg : ∀ l, F (.grants l) := by first | assumption | exact fun _ => trivial) : Moves F base (d.admitRetry r t x) := by
  unfold Dev.admitRetry
  dsimp only
  split
  · exact h.dropTicket _
  · have hslot := (h.dropTicket x.num).reqSlot 0x004
    exact .ite ((hslot _ _).admitAppend _) (.ite (((hslot _ _).addTxn _ (.inl (hg _))).promote _)
      ((hslot _ _).addTxn _ (.inl (hg _))))

theorem Moves.resendGrant (h : Moves F base d) (t : Txn)
    (ht : F (.grants t.line) := by first | assumption | exact trivial) : Moves F base (d.resendGrant t) := by
  unfold Dev.resendGrant
  split
  · exact h.respond _ _
  · refine .ite (h.respond _ _) ?_
    split
    · next p d heq =>
        have h := (h.readSource _).snd heq
        exact h.deliver _ _
    · next d heq =>
        have h := (h.readSource _).snd heq
        exact h

theorem Moves.resentRequest (h : Moves F base d) (t : Txn) {x : Dev} (hx : d.resentRequest t = some x)
    (hs : F .streams := by first | assumption | exact trivial)
    (hg : ∀ l, F (.grants l) := by first | assumption | exact fun _ => trivial) : Moves F base x := by
  unfold Dev.resentRequest at hx
  split at hx
  · cases hx
  · split at hx
    · next y _ =>
      dsimp only at hx
      cases hx
      have hput := (h.putTxn { y with org := t.org } (.inl (hg _))).twn
        { (d.putTxn { y with org := t.org }).twn with
          unsent := ((d.putTxn { y with org := t.org }).twn.unsent).filter (· != y.id) }
      refine .ite (hput.appendAgain _) ?_
      split
      · exact hput.resendGrant _ (hg _)
      · exact hput.promote _
      · exact hput.proceed _ (hg _)
    · split at hx
      · split at hx
        · cases hx
          exact (h.bumpSat _ _).respond _ _
        · cases hx
      · cases hx

theorem Moves.take (h : Moves F base d) (r : Req) (hw : F .receives ∨ d.rsvUsed < 512)
    (hs : F .streams := by first | assumption | exact trivial)
    (hg : ∀ l, F (.grants l) := by first | assumption | exact fun _ => trivial) : Moves F base (d.take r) := by
  unfold Dev.take
  dsimp only
  split
  · exact (h.raiseIf _ _).refuse _ _ _
  · split
    · next heq => exact h.resentRequest _ heq
    · split
      · exact h.admitRetry _ _ _
      · refine (h.raiseIf _ _).admitNew _ _ (hw.imp_right fun hroom => ?_)
        unfold Dev.raiseIf
        split <;> exact hroom

theorem Moves.takeIn (h : Moves F base d) (r : Req) (hw : F .receives ∨ d.rsvUsed < 512)
    (hs : F .streams := by first | assumption | exact trivial)
    (hg : ∀ l, F (.grants l) := by first | assumption | exact fun _ => trivial) : Moves F base (d.takeIn r) :=
  have htake := (h.cnf { d.cnf with took := d.cnf.took ++ [r.head.port], stuck := d.cnf.stuck.filter (· != r.head.port) }).take r hw
  .ite htake (htake.returnReq _)

/-! ## Write-backs -/

/-- A transaction that waits for a place goes nowhere. -/
theorem proceed_waiting (d : Dev) {t : Txn} (ht : t.phase = .queued ∨ t.phase = .waitPlace) : d.proceed t = d := by
  unfold Dev.proceed
  rcases ht with ht | ht
  · simp [ht]
  · simp [ht]

/-- A transaction's snoops are sent, and it goes on unless it waits for a place. -/
theorem Moves.sendSome (h : Moves F base d) (t : Txn) (l : List (Nat × Snoop))
    (ht : F (.grants t.line) ∨ t.phase = .queued ∨ t.phase = .waitPlace) :
    Moves F base (((d.snoopAll t l).2.putTxn (d.snoopAll t l).1).proceed (d.snoopAll t l).1) := by
  obtain ⟨hline, hphase⟩ := snoopAll_work d t l
  have hknown : Known F base (d.snoopAll t l).1 :=
    Known.of_work (ht.elim .inl fun ht => .inr (.inr (.inr (ht.imp_right .inl)))) ⟨hline, hphase⟩
  have hput := (h.snoopAll t l).putTxn _ hknown
  rcases ht with ht | ht
  · exact hput.proceed _ (hline.symm ▸ ht)
  · rw [proceed_waiting _ (hphase.symm ▸ ht)]
    exact hput

theorem Moves.sendHeld (h : Moves F base d) (t : Txn)
    (ht : F (.grants t.line) ∨ t.phase = .queued ∨ t.phase = .waitPlace) : Moves F base (d.sendHeld t) :=
  .ite h (h.sendSome _ _ ht)

theorem Moves.sendAllHeld (h : Moves F base d)
    (ht : ∀ t ∈ d.cnf.txns, F (.grants t.line) ∨ t.phase = .queued ∨ t.phase = .waitPlace) : Moves F base d.sendAllHeld :=
  h.foldl_mem _ fun t hm _ hd => hd.sendHeld t (ht t (List.mem_filter.mp hm).1)

theorem Moves.wbReached (h : Moves F base d) (port : Nat) (p : Payload) (t : Txn)
    (ht : F (.grants t.line) ∨ t.phase = .queued ∨ t.phase = .waitPlace) : Moves F base (Dev.wbReached port p d t) := by
  have hput := h.putTxn { t with wbFrom := t.wbFrom.filter (· != port), got := some p, fromHolder := true }
    (ht.elim .inl fun ht => .inr (.inr (.inr (ht.imp_right .inl))))
  rcases ht with ht | ht
  · exact hput.proceed _ ht
  · unfold Dev.wbReached
    dsimp only
    rw [proceed_waiting _ (by exact ht)]
    exact hput

theorem Moves.oweCredit (h : Moves F base d) (o : Origin) (tag : Nat) : Moves F base (d.oweCredit o tag) := by
  unfold Dev.oweCredit
  split
  · exact h.oweWb _ _ _
  · exact h

theorem Moves.ackWrBack (hd : Moves F base d) (h : Head) : Moves F base (d.ackWrBack h) :=
  (hd.logRetired _).respond _ _

theorem Moves.bufferWrBack (hd : Moves F base d) (h : Head) (p : Payload) : Moves F base (d.bufferWrBack h p) :=
  (Moves.ite (((hd.wbForce _).wbAdd _ _ _ _ _ _ _ _).oweCredit _ _) ((hd.wbForce _).wbAdd _ _ _ _ _ _ _ _)).ackWrBack _

theorem Moves.releaseHolder (hd : Moves F base d) (h : Head) : Moves F base (d.releaseHolder h) :=
  .ite ((Moves.ite hd (hd.dirMap _ _ (lessens_drop _))).setHolds _) (.ite hd (hd.dirMap _ _ (lessens_drop _)))

/-- What waits for a write-back has its data: the directory may record the grants of the transactions that do not wait for a place. -/
theorem Moves.settleWrBack (h : Moves F base d) (hd : Head) (p : Payload)
    (hq : ∀ x, Moves F base x → ∀ t ∈ x.cnf.txns, F (.grants t.line) ∨ t.phase = .queued ∨ t.phase = .waitPlace) :
    Moves F base (d.settleWrBack hd p) := by
  have hkick := ((h.wbLookup (lineOf hd.addr)).wbSettleAll).wbKick
  have hall := hkick.foldl_mem ((((d.wbLookup (lineOf hd.addr)).wbSettleAll).wbKick).cnf.txns.filter
      (fun t => t.snooped == lineOf hd.addr && t.wbFrom.contains hd.port)) (f := Dev.wbReached hd.port p) fun t hm _ hx =>
    hx.wbReached _ _ _ (hq _ hkick t (List.mem_filter.mp hm).1)
  exact hall.sendAllHeld (hq _ hall)

theorem Moves.awaitRecord (hd : Moves F base d) (h : Head) (n : Nat) : Moves F base (d.awaitRecord h n) :=
  hd.sdr _

theorem Moves.strayWrBack (h : Moves F base d) (hd : Head) : Moves F base (d.strayWrBack hd) := by
  refine (((h.report _ _ _ _ _ (.inr ?_)).oweCredit _ _).ackWrBack _)
  split <;> rfl

theorem Moves.landWrBack (h : Moves F base d) (hd : Head) (p : Payload)
    (hg : ∀ l, F (.grants l) := by first | assumption | exact fun _ => trivial) : Moves F base (d.landWrBack hd p) :=
  .ite (((h.releaseHolder hd).bufferWrBack hd p).settleWrBack hd p fun _ _ _ _ => .inl (hg _))
    (h.strayWrBack hd)

theorem Moves.sdrWrBack (h : Moves F base d) (hd : Head) (p : Payload)
    (hg : ∀ l, F (.grants l) := by first | assumption | exact fun _ => trivial) : Moves F base (d.sdrWrBack hd p) := by
  unfold Dev.sdrWrBack
  split
  · next heq => exact ((h.sdrFetch _).snd heq).landWrBack hd p
  · next heq => exact ((((h.sdrFetch _).snd heq).bufferWrBack hd p).setWb _).awaitRecord hd _

theorem Moves.takeWrBack (h : Moves F base d) (hd : Head) (p : Payload)
    (hs : F .streams := by first | assumption | exact trivial)
    (hg : ∀ l, F (.grants l) := by first | assumption | exact fun _ => trivial) : Moves F base (takeWrBack hd p d) := by
  unfold Machine.takeWrBack
  split
  · exact ((h.raiseIf _ _).oweCredit _ _).sendErr _ _ _
  · split
    · next heq => exact (h.oweCredit _ _).resentRequest _ heq
    · exact .ite (h.sdrWrBack hd p) (h.landWrBack hd p)

theorem Moves.releaseWaiting (h : Moves F base d) (hs : F .streams := by first | assumption | exact trivial)
    (hg : ∀ l, F (.grants l) := by first | assumption | exact fun _ => trivial) : Moves F base d.releaseWaiting :=
  ((h.cnf _).foldl _ fun _ e h => h.takeWrBack e.1 e.2).takeDeparts

end Sys2Proof.Machine
end

section
/-! THEOREM. Append requests, and the streams' lines, enables and descriptors (R274 to R291). -/

namespace Sys2Proof.Machine

set_option Elab.async false

/-! ## Streams written and read -/

theorem stream_putStream (d : Dev) (n : Nat) (x : Stream) : (d.putStream n x).stream n = x := by
  unfold Dev.putStream Dev.stream
  split
  · next hx =>
    dsimp only
    rw [bankGet_bankErase_same]
    exact hx.symm
  · dsimp only
    rw [bankGet_bankSet_same]
    rfl

theorem stream_of_apd {d e : Dev} (h : e.apd = d.apd) (n : Nat) : e.stream n = d.stream n := by rw [Dev.stream, Dev.stream, h]

theorem mirror_apd (d : Dev) (i : Item) : (d.mirror i).apd = d.apd := by rw [mirror_frame]

theorem stream_setStream (d : Dev) (n : Nat) (x : Stream) : (d.setStream n x).stream n = x :=
  (stream_of_apd (mirror_apd _ _) n).trans (stream_putStream d n x)

theorem stream_setStream_ne (d : Dev) {n k : Nat} (h : k ≠ n) (x : Stream) : (d.setStream n x).stream k = d.stream k := by
  rw [Dev.setStream, stream_of_apd (mirror_apd _ _)]
  unfold Dev.putStream Dev.stream
  dsimp only
  split
  · rw [bankGet_bankErase_ne _ _ _ h]
  · rw [bankGet_bankSet_ne _ _ _ _ h]

/-! ## Where records go -/

theorem placeBytes_tail (s : Stream) (data len : Nat) (psn : Bool) : (placeBytes s data len psn).tail = s.tail + len := by
  unfold placeBytes
  dsimp only
  split <;> rfl

theorem closeLine_tail (s : Stream) : (closeLine s).tail = (s.tail + 127) / 128 * 128 := by
  unfold closeLine
  split
  · omega
  · rw [placePad, placeBytes_tail]
    omega

theorem commitStream_tail (d : Dev) (n : Nat) (s : Stream) : ((d.commitStream n s).stream n).tail = s.tail := by
  have hset : (d.commitStream n s).stream n = advanceCommit s := by
    unfold Dev.commitStream
    dsimp only
    rw [stream_of_apd (Dev.raiseIf_apd ..), stream_setStream]
  rw [hset]
  rfl

/-! ## Lines issued -/

/-- The engine's lines go through the pipeline. -/
def Pipeline (p : Part) : Prop := ∃ l, p = .grants l

/-- The engine's lines are issued, and go through the pipeline. -/
def Engine (p : Part) : Prop := p = .streams ∨ ∃ l, p = .grants l

theorem issueLine_tail (d : Dev) (n k : Nat) (l : StreamLine) : ((Dev.issueLine n d l).stream k).tail = (d.stream k).tail := by
  unfold Dev.issueLine
  split
  · rfl
  · dsimp only
    have hissue := fun (e : Dev) (t : Txn) => (Moves.refl (F := Pipeline) (base := e)).issue t (fun l => ⟨l, rfl⟩)
    rw [stream_of_apd ((hissue _ _).apd_eq (by rintro ⟨_, h⟩; cases h) (by rintro ⟨_, h⟩; cases h))]
    by_cases hk : k = n
    · subst hk
      rw [stream_setStream]
    · rw [stream_setStream_ne _ hk]

theorem foldl_tail {α : Type} {f : Dev → α → Dev} {k : Nat} (hf : ∀ e x, ((f e x).stream k).tail = (e.stream k).tail) (l : List α)
    (d : Dev) : ((l.foldl f d).stream k).tail = (d.stream k).tail := by
  induction l generalizing d with
  | nil => rfl
  | cons x l ih => exact (ih _).trans (hf d x)

theorem pumpStreams_tail (d : Dev) (k : Nat) : (d.pumpStreams.stream k).tail = (d.stream k).tail := by
  unfold Dev.pumpStreams
  have hline : ∀ (e : Dev) (x : Nat × Stream), (((e.stream x.1).lines.foldl (Dev.issueLine x.1) e).stream k).tail =
      (e.stream k).tail := fun e x => foldl_tail (f := Dev.issueLine x.1) (fun e l => issueLine_tail e x.1 k l) _ e
  exact foldl_tail hline _ d

/-- The partial line closed at once. -/
theorem closeStream_tail {d : Dev} {n : Nat} (hm : d.twn.mirror = false) (he : (d.stream n).en = true) :
    ((d.closeStream n).stream n).tail = ((d.stream n).tail + 127) / 128 * 128 := by
  unfold Dev.closeStream
  dsimp only
  rw [hm, he]
  split
  · rw [pumpStreams_tail, commitStream_tail, closeLine_tail]
  · next hc =>
    have hwhole : (d.stream n).tail % 128 = 0 := by simpa using hc
    omega

/-! ## A record placed -/

theorem engine_parts : ¬ Engine .rest ∧ ¬ Engine .registers ∧ Engine .streams ∧ ∀ l, Engine (.grants l) := by
  refine ⟨?_, ?_, .inl rfl, fun l => .inr ⟨l, rfl⟩⟩
  · rintro (h | ⟨_, h⟩) <;> cases h
  · rintro (h | ⟨_, h⟩) <;> cases h

theorem placeRecord_tail {d : Dev} {n len : Nat} {p : Payload} (hto : d.get R.APD_ENG_CFG.FLUSH_TO ≠ 0) :
    ((d.placeRecord n len p).2.stream n).tail = (d.stream n).tail + d.apdPad n (recLen len) + recLen len ∧
      (d.placeRecord n len p).1 = (d.stream n).tail + d.apdPad n (recLen len) := by
  have hpad : ∀ s : Stream, (if d.apdPad n (recLen len) = 0 then s else placePad s (d.apdPad n (recLen len))).tail =
      s.tail + d.apdPad n (recLen len) := by
    intro s
    split
    · next h0 => rw [h0, Nat.add_zero]
    · rw [placePad, placeBytes_tail]
  unfold Dev.placeRecord
  dsimp only
  refine ⟨?_, hpad _⟩
  rw [pumpStreams_tail, stream_of_apd (Dev.raiseIf_apd ..)]
  show ((Dev.commitStream _ _ _).stream n).tail = _
  rw [commitStream_tail, if_neg hto]
  show (placeBytes _ _ _ _).tail = _
  rw [placeBytes_tail, hpad]

/-- A poisoned record is told of. -/
theorem placeRecord_poison {d : Dev} {n len : Nat} {p : Payload} (hp : p.psn = true) :
    (d.placeRecord n len p).2.flag R.APD_EVT.REC_POISON = true := by
  obtain ⟨hrest, hregs, hstreams, hgrants⟩ := engine_parts
  have hpump := fun e : Dev => (Moves.refl (F := Engine) (base := e)).pumpStreams hstreams hgrants
  unfold Dev.placeRecord
  dsimp only
  refine (hpump _).flag hrest hregs (by decide) (by decide) (by decide) ?_
  exact flag_raiseIf_self (h := by decide) (hc := hp) ..

/-! ## An Append taken -/

/-- The transaction of an Append. -/
def Dev.appending (d : Dev) (h : Head) (n len : Nat) (p : Payload) (id : Nat) : Txn :=
  { d.txnOf ⟨h, .append n len p, none⟩ with id := id }

/-- The device that an Append finds at its lookup slot. -/
def Dev.slotted (d : Dev) (h : Head) (n len : Nat) (p : Payload) (id : Nat) : Dev :=
  (d.served h.port).reqSlot 0x004 (d.appending h n len p id) h.port

/-- An Append taken at its lookup slot reaches the engine at once. -/
theorem arrive_append {d : Dev} {h : Head} {n len id : Nat} {p : Payload} {e : Dev} (ha : d.Alone)
    (hslot : d.slotFor h.port = true) (hwait : d.cnf.waiting.any (fun x => x.head.port == h.port) = false)
    (href : d.refusal ⟨h, .append n len p, none⟩ = none)
    (hres : d.resentRequest (d.txnOf ⟨h, .append n len p, none⟩) = none) (hid : d.generalId = some id)
    (htake : (d.slotted h n len p id).takeAppend (.agent h.port) h.tag (d.txnOf ⟨h, .append n len p, none⟩).tph n len p = some e) :
    arrive false ⟨h, .append n len p, none⟩ d = e.credited h.port := by
  have horg := txnOf_org ha.role ⟨h, .append n len p, none⟩
  have hnew : (d.served h.port).admitNew ⟨h, .append n len p, none⟩ (d.txnOf ⟨h, .append n len p, none⟩) =
      (d.slotted h n len p id).admitAppend (d.appending h n len p id) := by
    unfold Dev.admitNew
    rw [show Dev.generalId (d.served h.port) = some id from hid]
    exact if_pos rfl
  have hup : (d.slotted h n len p id).appendGoesUp (d.appending h n len p id) = false := by
    have hrole : (d.slotted h n len p id).gcr.role = .standalone := ha.role
    simp [Dev.appendGoesUp, hrole]
  have hadmit : (d.slotted h n len p id).admitAppend (d.appending h n len p id) = e := by
    have hline : (d.appending h n len p id).line - 2 ^ 41 = n := Nat.add_sub_cancel_left _ _
    unfold Dev.admitAppend
    rw [hup, if_neg Bool.false_ne_true, hline, show (d.appending h n len p id).org = .agent h.port from horg]
    rw [show (d.slotted h n len p id).takeAppend (.agent h.port) (d.appending h n len p id).tag (d.appending h n len p id).tph n
      (d.appending h n len p id).ch (d.appending h n len p id).pay = some e from htake]
  unfold arrive
  rw [if_neg (by rw [ha.mirror]; decide), if_neg (by simp [hwait, hslot])]
  have htaken : (d.served h.port).take ⟨h, .append n len p, none⟩ = e := by
    unfold Dev.take
    rw [show (d.served h.port).refusal ⟨h, .append n len p, none⟩ = none from href]
    dsimp only
    rw [show (d.served h.port).txnOf ⟨h, .append n len p, none⟩ = d.txnOf ⟨h, .append n len p, none⟩ from rfl,
      resentRequest_served h.port hres]
    exact hnew.trans hadmit
  rw [← htaken]
  rfl

/-- What is answered at once is told. -/
theorem answered_told {d x : Dev} {port : Nat} {m : Msg} (hg : CopiesGrow d x) (hs : x.twn.st ≠ .superseded)
    (hm : x.twn.mirror = false) (hp : port < x.ports.length) : (settle ((x.tell port m).credited port)).told d port m := by
  have htold := hg.told_before (tell_grow x port m).sent (tell_told hs hm (.inr hp))
  have hsent := hg.sent.trans (tell_grow x port m).sent
  have hcredit := (credited_quiet (x.tell port m) port).grow
  exact (settle_grow _).told (hsent.trans hcredit.sent) (hcredit.told hsent htold)

section
variable {d : Dev} {h : Head} {n len id : Nat} {p : Payload} (ha : d.Alone)

theorem slotted_quiet (d : Dev) (h : Head) (n len : Nat) (p : Payload) (id : Nat) : QuietSend d (d.slotted h n len p id) :=
  .aside rfl rfl rfl (List.suffix_refl _)

include ha

/-- A record refused without a place leaves every stream. -/
theorem refuse_append (tag : Nat) (hp : h.port < 32) :
    let e := ((d.slotted h n len p id).refuseAppend (.agent h.port) tag none).credited h.port
    (settle e).apd = d.apd ∧ (settle e).flag R.APD_EVT.REC_REFUSED = true ∧ (settle e).told d h.port (.err 0 tag 2) := by
  have hx : ∀ x : Dev, x = (((d.slotted h n len p id).raise R.APD_EVT.REC_REFUSED).bumpSat R.APD_REFUSE_CNT.REF 1) →
      (d.slotted h n len p id).refuseAppend (.agent h.port) tag none = x.tell h.port (.err 0 tag 2) := fun x hx => by rw [hx]; rfl
  generalize hx' : (((d.slotted h n len p id).raise R.APD_EVT.REC_REFUSED).bumpSat R.APD_REFUSE_CNT.REF 1) = x at hx
  have hflag : x.flag R.APD_EVT.REC_REFUSED = true := by
    rw [← hx', flag_bumpSat_far (h := by decide)]
    exact flag_raise_self _ _ (by decide)
  have hquiet : QuietSend d x := by
    rw [← hx']
    exact .aside rfl rfl rfl (List.suffix_refl _)
  have htwn : x.twn = d.twn := by rw [← hx']; rfl
  have hports : x.ports = d.ports := by rw [← hx']; rfl
  have hsend := (tell_send x h.port (.err 0 tag 2)).trans (credited_send _ h.port)
  dsimp only
  rw [hx x rfl]
  refine ⟨?_, ?_, answered_told hquiet.grow (by rw [htwn, ha.st]; decide) (by rw [htwn]; exact ha.mirror)
    (by rw [hports, ha.ports]; exact hp)⟩
  · rw [settle_apd, hsend.apd, ← hx']
    rfl
  · rw [settle_flag, hsend.flag (by decide)]
    exact hflag

/-- A record refused for want of room leaves its stream FULL. -/
theorem refuse_full (tag : Nat) (hp : h.port < 32) :
    let e := ((d.slotted h n len p id).refuseAppend (.agent h.port) tag (some n)).credited h.port
    (settle e).stream n = { d.stream n with full := true } ∧ (settle e).flag R.APD_EVT.FULL = true ∧
      (settle e).told d h.port (.err 0 tag 2) := by
  generalize hy : (d.slotted h n len p id).setStream n { d.stream n with full := true } = y
  have hyeq : y = (d.slotted h n len p id).putStream n { d.stream n with full := true } := by
    rw [← hy]
    exact mirror_alone (by exact ha.st) _
  have hx : ∀ x : Dev, x = (((y.raise R.APD_EVT.FULL).raise R.APD_EVT.REC_REFUSED).bumpSat R.APD_REFUSE_CNT.REF 1) →
      (d.slotted h n len p id).refuseAppend (.agent h.port) tag (some n) = x.tell h.port (.err 0 tag 2) := fun x hx => by
    rw [hx, ← hy]
    rfl
  generalize hx' : (((y.raise R.APD_EVT.FULL).raise R.APD_EVT.REC_REFUSED).bumpSat R.APD_REFUSE_CNT.REF 1) = x at hx
  have hflag : x.flag R.APD_EVT.FULL = true := by
    rw [← hx', flag_bumpSat_far (h := by decide), flag_raise_far (h := by decide)]
    exact flag_raise_self _ _ (by decide)
  have hstream : x.stream n = { d.stream n with full := true } := by
    rw [← hx', ← hy]
    exact stream_setStream _ _ _
  have hquiet : QuietSend d x := by
    rw [← hx', hyeq]
    exact .aside rfl rfl rfl (List.suffix_refl _)
  have htwn : x.twn = d.twn := by rw [← hx', hyeq]; rfl
  have hports : x.ports = d.ports := by rw [← hx', hyeq]; rfl
  have hsend := (tell_send x h.port (.err 0 tag 2)).trans (credited_send _ h.port)
  dsimp only
  rw [hx x rfl]
  refine ⟨?_, ?_, answered_told hquiet.grow (by rw [htwn, ha.st]; decide) (by rw [htwn]; exact ha.mirror)
    (by rw [hports, ha.ports]; exact hp)⟩
  · rw [stream_of_apd (settle_apd _), stream_of_apd hsend.apd]
    exact hstream
  · rw [settle_flag, hsend.flag (by decide)]
    exact hflag

/-- A record placed is acknowledged with its offset. -/
theorem append_placed (tag : Nat) (tph : Bool) (hp : h.port < 32) (hto : d.get R.APD_ENG_CFG.FLUSH_TO ≠ 0) :
    let r := (d.slotted h n len p id).placeRecord n len p
    let e := ((r.2.logRetired ⟨.agent h.port, tag, tph, n, .append, r.1⟩).respond (.agent h.port)
      (fun q => .ack q tag .I 0 (some r.1))).credited h.port
    ((settle e).stream n).tail = (d.stream n).tail + d.apdPad n (recLen len) + recLen len ∧
      (settle e).told d h.port (.ack 0 tag .I 0 (some ((d.stream n).tail + d.apdPad n (recLen len)))) ∧
      (p.psn = true → (settle e).flag R.APD_EVT.REC_POISON = true) := by
  obtain ⟨hrest, hregs, hstreams, hgrants⟩ := engine_parts
  have hmoves := (Moves.refl (F := Engine) (base := d.slotted h n len p id)).placeRecord n len p hstreams hgrants
  obtain ⟨htail, hoff⟩ := placeRecord_tail (d := d.slotted h n len p id) (n := n) (len := len) (p := p) hto
  have hpoison := placeRecord_poison (d := d.slotted h n len p id) (n := n) (len := len) (p := p)
  dsimp only
  rw [hoff]
  generalize ((d.slotted h n len p id).placeRecord n len p).2 = x at hmoves htail hpoison ⊢
  have hst : x.twn.st = .single := (hmoves.pair hrest (by exact ha.mirror)).trans ha.st
  have hmirror : x.twn.mirror = false := (hmoves.mirror_eq hrest).trans ha.mirror
  have hrole : x.gcr.role = .standalone := (hmoves.role hrest).trans ha.role
  have hports : x.ports.length = 32 := (hmoves.ports_length hrest).trans ha.ports
  have hlog : ∀ l, x.logRetired l = x := fun l => if_pos ⟨hst, by rw [hrole]; decide⟩
  rw [hlog]
  have hsend := fun m => (tell_send x h.port m).trans (credited_send _ h.port)
  refine ⟨?_, answered_told ((slotted_quiet d h n len p id).grow.trans (hmoves.grow hrest)) (by rw [hst]; decide) hmirror
    (by rw [hports]; exact hp), fun hpsn => ?_⟩
  · rw [stream_of_apd (settle_apd _)]
    show (Dev.stream (Dev.credited (x.tell h.port _) h.port) n).tail = _
    rw [stream_of_apd (hsend _).apd]
    exact htail
  · rw [settle_flag]
    show Dev.flag (Dev.credited (x.tell h.port _) h.port) _ = true
    rw [(hsend _).flag (by decide)]
    exact hpoison hpsn

end

/-! ## A line write ends -/

/-- No run of moves reaches anything beyond its own ground. -/
def Nothing (_ : Part) : Prop := False

theorem freeTxn_cnf {d : Dev} (id : Nat) (hp : d.cnf.pool = []) :
    (d.freeTxn id).cnf = { d.cnf with txns := d.cnf.txns.filter (fun t => t.id != id) } := by
  have hidle : ∀ e : Dev, e.cnf.pool = [] → e.refill = e := by
    intro e he
    have hnext : e.nextIssue = none := by rw [Dev.nextIssue, he]; rfl
    rw [Dev.refill, hnext]
  have hcnf : ∀ (e : Dev) i, ((e.mirror i).dirTidy).cnf = e.cnf := fun e i => Dev.mirror_cnf e i
  unfold Dev.freeTxn
  dsimp only
  rw [hidle _ (by rw [hcnf]; exact hp), hcnf]
  rfl

theorem earliest_mem {l : List Txn} {t : Txn} (h : earliest l = some t) : t ∈ l := by
  induction l generalizing t with
  | nil => cases h
  | cons x l ih =>
    unfold earliest at h
    split at h
    · cases h
      exact List.mem_cons_self ..
    · next u hu =>
      split at h
      · cases h
        exact List.mem_cons_of_mem _ (ih hu)
      · cases h
        exact List.mem_cons_self ..

/-- What fills a line's place is of the table. -/
theorem fillPlace_table {d : Dev} {k : Nat} {y : Txn} (hy : y ∈ (d.fillPlace k).cnf.txns) :
    ∃ x ∈ d.cnf.txns, y.id = x.id ∧ y.kind = x.kind := by
  have hput : ∀ t ∈ d.cnf.txns, y ∈ (d.enqueue t).cnf.txns → ∃ x ∈ d.cnf.txns, y.id = x.id ∧ y.kind = x.kind := by
    intro t ht hmem
    unfold Dev.enqueue at hmem
    dsimp only at hmem
    rw [Dev.mirror_cnf] at hmem
    rcases List.mem_append.mp hmem with hold | hnew
    · exact ⟨y, (List.mem_filter.mp hold).1, rfl, rfl⟩
    · rw [List.mem_singleton.mp hnew]
      exact ⟨t, ht, rfl, rfl⟩
  unfold Dev.fillPlace at hy
  split at hy
  · exact ⟨y, hy, rfl, rfl⟩
  · split at hy
    · next t ht => exact hput t (List.mem_filter.mp (List.mem_filter.mp (earliest_mem ht)).1).1 hy
    · split at hy
      · next t ht =>
        have hmem := List.mem_of_mem_head? ht
        obtain ⟨_, _, hmem⟩ := List.mem_flatMap.mp hmem
        exact hput t (List.mem_filter.mp (List.mem_filter.mp (List.mem_filter.mp hmem).1).1).1 hy
      · exact ⟨y, hy, rfl, rfl⟩

/-- A transaction's place is given on. -/
structure Retired (d e : Dev) (id : Nat) : Prop where
  apd : e.apd = d.apd
  gone : ∀ y ∈ e.cnf.txns, y.id ≠ id
  noAppend : ∀ y ∈ e.cnf.txns, y.kind ≠ .append

theorem freeTxn_retired {d : Dev} (id k : Nat) (hp : d.cnf.pool = []) (ha : ∀ y ∈ d.cnf.txns, y.kind ≠ .append) :
    Retired d ((d.freeTxn id).fillPlace k) id := by
  have hmoves := ((Moves.refl (F := Nothing) (base := d)).freeTxn id).fillPlace k
  have htable : ∀ y ∈ ((d.freeTxn id).fillPlace k).cnf.txns, y.id ≠ id ∧ y.kind ≠ .append := by
    intro y hy
    obtain ⟨x, hx, hid, hkind⟩ := fillPlace_table hy
    rw [freeTxn_cnf id hp] at hx
    obtain ⟨hmem, hne⟩ := List.mem_filter.mp hx
    exact ⟨by rw [hid]; simpa using hne, by rw [hkind]; exact ha x hmem⟩
  exact ⟨hmoves.apd_eq (fun h => h) (fun h => h), fun y hy => (htable y hy).1, fun y hy => (htable y hy).2⟩

/-- With every line issued the engine has nothing to issue. -/
theorem pumpStreams_idle {d : Dev} (h : ∀ k, ∀ l ∈ (d.stream k).lines, l.issued = true) : d.pumpStreams = d := by
  have hline : ∀ (n : Nat) (ls : List StreamLine), (∀ l ∈ ls, l.issued = true) → ls.foldl (Dev.issueLine n) d = d := by
    intro n ls hls
    induction ls with
    | nil => rfl
    | cons l ls ih =>
      have hl : Dev.issueLine n d l = d := by
        unfold Dev.issueLine
        rw [if_pos (by simp [hls l (List.mem_cons_self ..)])]
      rw [List.foldl_cons, hl]
      exact ih fun x hx => hls x (List.mem_cons_of_mem _ hx)
  have hall : ∀ es : List (Nat × Stream), es.foldl (fun d e => (d.stream e.1).lines.foldl (Dev.issueLine e.1) d) d = d := by
    intro es
    induction es with
    | nil => rfl
    | cons e es ih =>
      rw [List.foldl_cons, hline e.1 _ (h e.1)]
      exact ih
  exact hall _

theorem bankGet_mem {α : Type} {l : List (Nat × α)} {n : Nat} {v : α} (h : bankGet l n = some v) : (n, v) ∈ l := by
  induction l with
  | nil => cases h
  | cons x l ih =>
    obtain ⟨k, w⟩ := x
    unfold bankGet at h
    split at h
    · next hk =>
      cases h
      rw [hk]
      exact List.mem_cons_self ..
    · exact List.mem_cons_of_mem _ (ih h)

theorem lines_issued {d : Dev} (h : d.apdBacklog = false) (k : Nat) : ∀ l ∈ (d.stream k).lines, l.issued = true := by
  intro l hl
  unfold Dev.stream at hl
  cases hs : bankGet d.apd.streams k with
  | none =>
    rw [hs] at hl
    cases hl
  | some x =>
    rw [hs] at hl
    have hstream := List.any_eq_false.mp h (k, x) (bankGet_mem hs)
    have hline := List.any_eq_false.mp (Bool.eq_false_iff.mpr hstream) l hl
    simpa using hline

/-- With no Append in the table none is tried again. -/
theorem retryAppends_idle {d : Dev} (h : ∀ y ∈ d.cnf.txns, y.kind ≠ .append) : d.retryAppends = d := by
  have hnone : d.cnf.txns.filter (fun t => t.kind == .append) = [] := List.filter_eq_nil_iff.mpr fun y hy => by simp [h y hy]
  rw [Dev.retryAppends, hnone]
  rfl

/-- A stream's lines stay issued when another stream takes its place. -/
theorem setStream_issued {d : Dev} {n : Nat} {x : Stream} (h : ∀ k, ∀ l ∈ (d.stream k).lines, l.issued = true)
    (hx : ∀ l ∈ x.lines, l.issued = true) (k : Nat) : ∀ l ∈ ((d.setStream n x).stream k).lines, l.issued = true := by
  by_cases hk : k = n
  · subst hk
    rw [stream_setStream]
    exact hx
  · rw [stream_setStream_ne _ hk]
    exact h k

/-- The line write of a stream is done, and COMMIT goes on. -/
theorem apdComplete_effect {d : Dev} {t : Txn} {n off : Nat} (hp : d.cnf.pool = []) (ha : ∀ y ∈ d.cnf.txns, y.kind ≠ .append)
    (hb : d.apdBacklog = false) : (d.apdComplete t n off).txn? t.id = none ∧
      (d.apdComplete t n off).stream n =
        advanceCommit { d.stream n with lines := (d.stream n).lines.filter (fun l => l.off != off) } := by
  obtain ⟨hapd, hgone, hnone⟩ := freeTxn_retired t.id (d.key t.line) hp ha
  unfold Dev.apdComplete
  dsimp only
  generalize (d.freeTxn t.id).fillPlace (d.key t.line) = e at hapd hgone hnone ⊢
  have hissued : ∀ k, ∀ l ∈ (e.stream k).lines, l.issued = true := fun k => by
    rw [stream_of_apd hapd]
    exact lines_issued hb k
  generalize hx : advanceCommit { e.stream n with lines := (e.stream n).lines.filter (fun l => l.off != off) } = x
  have hxlines : ∀ l ∈ x.lines, l.issued = true := by
    rw [← hx]
    exact fun l hl => hissued n l (List.mem_filter.mp hl).1
  have hcommit : ∃ c, e.commitStream n { e.stream n with lines := (e.stream n).lines.filter (fun l => l.off != off) } =
      (e.setStream n x).raiseIf c R.APD_EVT.COMMIT_WM := ⟨_, by rw [← hx]; rfl⟩
  obtain ⟨c, hcommit⟩ := hcommit
  have hcnf : (e.commitStream n { e.stream n with lines := (e.stream n).lines.filter (fun l => l.off != off) }).cnf = e.cnf := by
    rw [hcommit, Dev.raiseIf_cnf, Dev.setStream, Dev.mirror_cnf]
    rfl
  have hapd' := Dev.raiseIf_apd (d := e.setStream n x) (c := c) (f := R.APD_EVT.COMMIT_WM)
  rw [← hcommit] at hapd'
  generalize e.commitStream n _ = f at hcnf hapd' ⊢
  have hpump : f.pumpStreams = f := pumpStreams_idle fun k => by
    rw [stream_of_apd hapd']
    exact setStream_issued hissued hxlines k
  rw [hpump, retryAppends_idle (by rw [hcnf]; exact hnone)]
  refine ⟨?_, ?_⟩
  · rw [Dev.txn?, hcnf]
    exact List.find?_eq_none.mpr fun y hy => by simpa using hgone y hy
  · rw [stream_of_apd hapd', stream_setStream, ← hx, stream_of_apd hapd]

theorem putHeader_cnf (d : Dev) (set : Nat) (h : Header) : (d.putHeader set h).cnf = d.cnf := by
  unfold Dev.putHeader
  split
  · rfl
  · rw [Dev.mirror_cnf]
    rfl

theorem giveUpWay_cnf (d : Dev) (t : Txn) : (d.giveUpWay t).cnf = d.cnf := by
  unfold Dev.giveUpWay
  split
  · rfl
  · dsimp only
    split
    · split
      · split
        · rfl
        · exact putHeader_cnf ..
      · rfl
    · rfl

/-- The line write of a stream fails, and the stream with it. -/
theorem apdFail_effect {d : Dev} {t : Txn} {n off : Nat} (hp : d.cnf.pool = []) (ha : ∀ y ∈ d.cnf.txns, y.kind ≠ .append)
    (hb : d.apdBacklog = false) : (d.apdFail t n off).txn? t.id = none ∧ ((d.apdFail t n off).stream n).fault = true ∧
      ((d.apdFail t n off).stream n).commit = (d.stream n).commit ∧ (d.apdFail t n off).flag R.APD_EVT.LINE_FAIL = true := by
  have hway := (Moves.refl (F := Nothing) (base := d)).giveUpWay t
  have hwcnf := giveUpWay_cnf d t
  obtain ⟨hapd, hgone, hnone⟩ := freeTxn_retired (d := d.giveUpWay t) t.id (d.key t.line) (by rw [hwcnf]; exact hp)
    (by rw [hwcnf]; exact ha)
  rw [hway.apd_eq (fun h => h) (fun h => h)] at hapd
  unfold Dev.apdFail
  dsimp only
  generalize ((d.giveUpWay t).freeTxn t.id).fillPlace (d.key t.line) = e at hapd hgone hnone ⊢
  have hissued : ∀ k, ∀ l ∈ (e.stream k).lines, l.issued = true := fun k => by
    rw [stream_of_apd hapd]
    exact lines_issued hb k
  generalize hx : ({ e.stream n with
    fault := true, lines := mapIf (fun l => l.off == off) (fun l => { l with failed := true }) (e.stream n).lines } : Stream) = x
  have hxlines : ∀ l ∈ x.lines, l.issued = true := by
    rw [← hx]
    intro l hl
    obtain ⟨y, hy, hyl⟩ := List.mem_map.mp hl
    have hyi := hissued n y hy
    rw [← hyl]
    split
    · exact hyi
    · exact hyi
  have hcnf : (e.setStream n x).cnf = e.cnf := by
    rw [Dev.setStream, Dev.mirror_cnf]
    rfl
  have hset := stream_setStream e n x
  have hflag := flag_report_self (e.setStream n x) (f := R.APD_EVT.LINE_FAIL) (by decide) (by decide) n 0 (t.line * 128) 0
  have hall := setStream_issued (n := n) hissued hxlines
  generalize e.setStream n x = f at hcnf hset hflag hall ⊢
  have hrep : (f.report R.APD_EVT.LINE_FAIL n 0 (t.line * 128) 0).apd = f.apd ∧
      (f.report R.APD_EVT.LINE_FAIL n 0 (t.line * 128) 0).cnf = f.cnf := by
    rw [(report_record f R.APD_EVT.LINE_FAIL n 0 (t.line * 128) 0).frame]
    exact ⟨rfl, rfl⟩
  generalize f.report R.APD_EVT.LINE_FAIL n 0 (t.line * 128) 0 = g at hflag hrep ⊢
  have hpump : g.pumpStreams = g := pumpStreams_idle fun k => by
    rw [stream_of_apd hrep.1]
    exact hall k
  rw [hpump, retryAppends_idle (by rw [hrep.2, hcnf]; exact hnone), stream_of_apd hrep.1, hset, ← hx, stream_of_apd hapd]
  refine ⟨?_, rfl, rfl, hflag⟩
  rw [Dev.txn?, hrep.2, hcnf]
  exact List.find?_eq_none.mpr fun y hy => by simpa using hgone y hy

/-! ## What the engine answers -/

section
variable {d : Dev} {o : Origin} {tag n len : Nat} {tph : Bool} {p : Payload}

theorem takeAppend_refused (h : (d.stream n).en = false ∨ (d.stream n).fault = true ∨ headerOk len p = false) :
    d.takeAppend o tag tph n len p = some (d.refuseAppend o tag none) := by
  unfold Dev.takeAppend
  exact if_pos (by rcases h with h | h | h <;> simp [h])

theorem takeAppend_full (hen : (d.stream n).en = true) (hfault : (d.stream n).fault = false) (hok : headerOk len p = true)
    (hroom : d.apdNoRoom n (recLen len) = true) : d.takeAppend o tag tph n len p = some (d.refuseAppend o tag (some n)) := by
  unfold Dev.takeAppend
  dsimp only
  rw [if_neg (by simp [hen, hfault, hok]), if_pos hroom]

theorem takeAppend_placed (hen : (d.stream n).en = true) (hfault : (d.stream n).fault = false) (hok : headerOk len p = true)
    (hroom : d.apdNoRoom n (recLen len) = false) (hflight : d.apdInFlight < 256) (hback : d.apdBacklog = false) :
    d.takeAppend o tag tph n len p = some (((d.placeRecord n len p).2.logRetired
      ⟨o, tag, tph, n, .append, (d.placeRecord n len p).1⟩).respond o
        (fun q => .ack q tag .I 0 (some (d.placeRecord n len p).1))) := by
  unfold Dev.takeAppend
  dsimp only
  rw [if_neg (by simp [hen, hfault, hok]), if_neg (by rw [hroom]; decide), if_neg (by simp [hback, hflight])]

end

/-! ## The obligation -/

theorem arrives_append {s : State} {h : Head} {n len id : Nat} {p : Payload} {e : Dev} (hplain : s.dev.plain = true)
    (hslot : s.dev.slotFor h.port = true) (hwait : s.dev.cnf.waiting.any (fun x => x.head.port == h.port) = false)
    (href : s.dev.refusal ⟨h, .append n len p, none⟩ = none) (hfirst : s.first ⟨h, .append n len p, none⟩ = true)
    (hres : s.dev.resentRequest (s.dev.txnOf ⟨h, .append n len p, none⟩) = none) (hid : s.dev.generalId = some id)
    (htake : (s.dev.slotted h n len p id).takeAppend (.agent h.port) h.tag (s.dev.txnOf ⟨h, .append n len p, none⟩).tph n len p =
      some e) : ∃ t, exec (.append h n len p) s = .next t ∧ t.dev = settle (e.credited h.port) := by
  have ha := plain_iff.mp hplain
  obtain ⟨t, hrun, hdev⟩ := arrives_first ha.runs hfirst
  exact ⟨t, hrun, by rw [hdev, arrive_append ha hslot hwait href hres hid htake]⟩

/-- A command on one register of the engine. -/
theorem stream_write {s : State} {ofs : Nat} (h : s.dev.reaches ofs = true) (src : Src) (k : Dev → Dev) :
    ∃ t, onDev s (fun d => d.write src ofs k) = .next t ∧ t.dev = settle ((k s.dev).emit (.regOk src)) :=
  ⟨_, onDev_write h src k, State.setDev_dev ..⟩

theorem settled_stream (d : Dev) (n : Nat) (x : Stream) (o : Out) : (settle ((d.putStream n x).emit o)).stream n = x := by
  rw [stream_of_apd (settle_apd _)]
  exact stream_putStream d n x

/-- A command refused with an event leaves the streams. -/
theorem settled_refusal (d : Dev) {f : FieldRef} (hf : fieldOk f = true) (o : Out) :
    (settle ((d.raise f).emit o)).apd = d.apd ∧ (settle ((d.raise f).emit o)).flag f = true := by
  refine ⟨by rw [settle_apd]; rfl, ?_⟩
  rw [settle_flag]
  exact flag_raise_self d f hf

theorem streamEnable_idle {d : Dev} {n : Nat} (h : (d.stream n).en = false) : streamEnable n d =
    if d.streamOk n then d.putStream n { Stream.idle with
      en := true, full := (d.stream n).full, tail := (d.stream n).tail, commit := (d.stream n).tail, head := (d.stream n).tail }
    else d.raise R.APD_EVT.CFG_BAD := if_neg (by rw [h]; decide)

/-- A stream whose last line is whole has nothing to close. -/
theorem streamDisable_whole {d : Dev} {n : Nat} (hen : (d.stream n).en = true) (hw : (d.stream n).tail % 128 = 0) :
    streamDisable n d = d.putStream n { d.stream n with en := false, draining := streamBusy (d.stream n) } := by
  have hclosed : d.closeStream n = d := by
    unfold Dev.closeStream
    exact if_neg (by simp [hw])
  rw [streamDisable, if_pos hen, hclosed]

theorem apdDescriptorWrite_busy {d : Dev} {n : Nat} (h : (d.stream n).en = true ∨ (d.stream n).draining = true) (r : ApdReg)
    (v : BitVec 64) : apdDescriptorWrite n r v d = d.raise R.APD_EVT.CFG_BAD := by
  unfold apdDescriptorWrite
  exact if_pos (by rcases h with h | h <;> simp [h])

section
variable {d : Dev} {n : Nat} (hen : (d.stream n).en = false) (hdrain : (d.stream n).draining = false) (v : BitVec 64)
include hen hdrain

theorem apdDescriptorWrite_base : apdDescriptorWrite n .base v d = d.set64 (apdReg n 0) (v.toNat % 2 ^ 48 / 65536 * 65536) := by
  unfold apdDescriptorWrite
  exact if_neg (by simp [hen, hdrain])

theorem apdDescriptorWrite_tail : apdDescriptorWrite n .tail v d = d.putStream n { d.stream n with tail := v.toNat / 128 * 128 } := by
  unfold apdDescriptorWrite
  exact if_neg (by simp [hen, hdrain])

end

theorem settled_base (d : Dev) (n : Nat) (v : BitVec 64) (o : Out) :
    (settle ((d.set64 (apdReg n 0) (v.toNat % 2 ^ 48 / 65536 * 65536)).emit o)).apdBase n = v.toNat % 2 ^ 48 / 65536 * 65536 := by
  rw [Dev.apdBase, settle_get64, emit_get64, get64_set64]
  omega

/-- Settles O46: an Append is placed or refused at once; a stream is enabled, disabled, flushed and set up; its lines end. -/
theorem appendCommands : Obligations.AppendCommands := by
  unfold Obligations.AppendCommands
  refine ⟨?_, ?_, ?_, ?_, ?_, ?_, ?_, ?_, ?_, ?_, ?_, ?_, ?_, ?_⟩
  · intro h n len id p s hplain hport hn hstop hslot hwait href hfirst hres hid hen hfault hok hroom hflight hback hto
    obtain ⟨t, hrun, hdev⟩ := arrives_append hplain hslot hwait href hfirst hres hid
      (takeAppend_placed (d := s.dev.slotted h n len p id) hen hfault hok hroom hflight hback)
    refine ⟨t, hrun, ?_⟩
    rw [hdev]
    exact append_placed (plain_iff.mp hplain) _ _ hport hto
  · intro h n len id p s hplain hport hn hstop hslot hwait href hfirst hres hid hbad
    obtain ⟨t, hrun, hdev⟩ := arrives_append hplain hslot hwait href hfirst hres hid
      (takeAppend_refused (d := s.dev.slotted h n len p id) hbad)
    refine ⟨t, hrun, ?_⟩
    rw [hdev]
    exact refuse_append (plain_iff.mp hplain) _ hport
  · intro h n len id p s hplain hport hn hstop hslot hwait href hfirst hres hid hen hfault hok hroom
    obtain ⟨t, hrun, hdev⟩ := arrives_append hplain hslot hwait href hfirst hres hid
      (takeAppend_full (d := s.dev.slotted h n len p id) hen hfault hok hroom)
    refine ⟨t, hrun, ?_⟩
    rw [hdev]
    exact refuse_full (plain_iff.mp hplain) _ hport
  · intro src n s hreach hn hen
    obtain ⟨t, hrun, hdev⟩ := stream_write hreach src (streamEnable n)
    refine ⟨t, hrun, ?_⟩
    rw [hdev, streamEnable_idle hen]
    split
    · exact settled_stream ..
    · exact settled_refusal _ (by decide) _
  · intro src n s hreach hn hen hwhole
    obtain ⟨t, hrun, hdev⟩ := stream_write hreach src (streamDisable n)
    refine ⟨t, hrun, ?_⟩
    rw [hdev, streamDisable_whole hen hwhole]
    exact settled_stream ..
  · intro src n s hreach hn hmirror hen hcomes
    obtain ⟨t, hrun, hdev⟩ := stream_write hreach src (fun d => d.closeSoon n (s.appendComes n))
    refine ⟨t, hrun, ?_⟩
    rw [hdev, hcomes, stream_of_apd (settle_apd _)]
    exact closeStream_tail hmirror hen
  · intro src n s hreach hn hcomes
    obtain ⟨t, hrun, hdev⟩ := stream_write hreach src (fun d => d.closeSoon n (s.appendComes n))
    refine ⟨t, hrun, ?_⟩
    rw [hdev, hcomes]
    exact settled_stream ..
  · intro n s hruns hn hmirror hen hcomes
    refine ⟨_, (exec_appendCombineTimeout n s).trans (onCore_runs hruns _), ?_⟩
    rw [State.setDev_dev, hcomes, stream_of_apd (settle_apd _)]
    exact closeStream_tail hmirror hen
  · intro n off x s hruns hx hdone hid hnone hwait hpool hback
    have heff : apdLineWriteDone n off s.dev = s.dev.apdComplete x n off := by
      rw [apdLineWriteDone, hx]
      exact if_pos hdone
    obtain ⟨hgone, hstream⟩ := apdComplete_effect (t := x) (n := n) (off := off) hpool (by simpa using hnone) hback
    refine ⟨_, (exec_apdLineWriteDone n off s).trans (onCore_runs hruns _), ?_⟩
    rw [State.setDev_dev, heff, settle_txn?, stream_of_apd (settle_apd _), hstream]
    exact ⟨hgone, rfl, rfl⟩
  · intro n off x s hruns hx hdone hid hnone hwait hpool hback
    have heff : lineFail n off s.dev = s.dev.apdFail x n off := by
      rw [lineFail, hx]
      exact if_pos (.inl hdone)
    obtain ⟨hgone, hfault, hcommit, hflag⟩ := apdFail_effect (t := x) (n := n) (off := off) hpool (by simpa using hnone) hback
    refine ⟨_, (exec_lineFail n off s).trans (onCore_runs hruns _), ?_⟩
    rw [State.setDev_dev, heff, settle_txn?, stream_of_apd (settle_apd _), settle_flag]
    exact ⟨hgone, hfault, hcommit, hflag⟩
  · intro src n h s hreach hn
    obtain ⟨t, hrun, hdev⟩ := stream_write hreach src (apdHeadWrite n h)
    refine ⟨t, hrun, ?_⟩
    rw [hdev, apdHeadWrite]
    dsimp only
    split
    · exact settled_stream ..
    · exact settled_refusal _ (by decide) _
  · intro src n r v s hreach hn hbusy
    obtain ⟨t, hrun, hdev⟩ := stream_write hreach src (apdDescriptorWrite n r v)
    refine ⟨t, hrun, ?_⟩
    rw [hdev, apdDescriptorWrite_busy hbusy]
    exact settled_refusal _ (by decide) _
  · intro src n v s hreach hn hen hdrain
    obtain ⟨t, hrun, hdev⟩ := stream_write hreach src (apdDescriptorWrite n .base v)
    refine ⟨t, hrun, ?_⟩
    rw [hdev, apdDescriptorWrite_base hen hdrain]
    exact ⟨by rw [settle_apd]; rfl, settled_base ..⟩
  · intro src n v s hreach hn hen hdrain
    obtain ⟨t, hrun, hdev⟩ := stream_write hreach src (apdDescriptorWrite n .tail v)
    refine ⟨t, hrun, ?_⟩
    rw [hdev, apdDescriptorWrite_tail hen hdrain]
    exact settled_stream ..

end Sys2Proof.Machine
end

section
/-! THEOREM. Refused requests, standby tickets, retries, their expiry, and freed reservations (R92, R140 to R149). -/

namespace Sys2Proof.Machine

set_option Elab.async false

/-! ## A request taken as it arrives -/

theorem arrive_taken {d : Dev} {r : Req} (hm : d.twn.mirror = false)
    (hw : d.cnf.waiting.all (fun y => y.head.port != r.head.port) = true) (hs : d.slotFor r.head.port = true) :
    arrive false r d = ((d.served r.head.port).take r).credited r.head.port := by
  have hnone : d.cnf.waiting.any (fun x => x.head.port == r.head.port) = false := by simpa using hw
  unfold arrive
  rw [if_neg (by rw [hm]; decide), if_neg (by simp [hnone, hs])]
  rfl

section
variable {d : Dev} {h : Head} (ha : d.Alone)

theorem served_quiet (d : Dev) (port : Nat) : QuietSend d (d.served port) := .aside rfl rfl rfl (List.suffix_refl _)

/-- A request that cannot be served is refused (R92). -/
theorem take_refused (hr : d.gcr.role = .standalone) {sub : Nat} (href : d.refusal ⟨h, .rdShared, none⟩ = some sub) :
    ∃ x : Dev, QuietSend d x ∧ x.cnf.txns = d.cnf.txns ∧ x.twn = d.twn ∧ x.ports.length = d.ports.length ∧
      (d.served h.port).take ⟨h, .rdShared, none⟩ = x.tell h.port (.err 0 h.tag sub) := by
  generalize hx : Dev.reqSlot ((d.served h.port).raiseIf (!(d.served h.port).indexOk h) R.HIE_EVT.IDX_MISMATCH) 0x017
    (d.txnOf ⟨h, .rdShared, none⟩)
    h.port = x
  have hframe : x = { d with regs := x.regs, pmu := x.pmu, cnf := (d.served h.port).cnf } := by
    rw [← hx, raiseIf_frame]
    rfl
  have hsender : x.senderOf h = .agent h.port := if_neg (by rw [hframe]; show d.gcr.role ≠ _; rw [hr]; decide)
  refine ⟨x, by rw [hframe]; exact .aside rfl rfl rfl (List.suffix_refl _), by rw [hframe]; rfl, by rw [hframe], by rw [hframe], ?_⟩
  have hrefuse : (d.served h.port).refuse ⟨h, .rdShared, none⟩ (d.txnOf ⟨h, .rdShared, none⟩) sub =
      x.tell h.port (.err 0 h.tag sub) := by
    unfold Dev.refuse
    rw [show (d.served h.port).ticketOf ⟨h, .rdShared, none⟩ (d.txnOf ⟨h, .rdShared, none⟩) = none from rfl]
    dsimp only
    rw [if_neg (by rw [txnOf_kind]; exact fun hc => nomatch hc.1)]
    show Dev.sendErr (Dev.reqSlot _ _ _ _) (Dev.senderOf (Dev.reqSlot _ _ _ _) h) _ sub = _
    rw [show Dev.reqSlot _ _ _ _ = x from hx, hsender]
    rfl
  unfold Dev.take
  rw [show (d.served h.port).refusal ⟨h, .rdShared, none⟩ = some sub from href]
  exact hrefuse

/-- The device with a ticket more. -/
def Dev.ticketed (d : Dev) (x : Ticket) : Dev :=
  (({ d with cnf := { d.cnf with tickets := d.cnf.tickets ++ [x], nextTkt := (d.cnf.nextTkt + 1) % 65536 } }).bump64
    R.CNF_STBY_CNT_LO.STBY_LO.ofs 1).pmu1 0x01D

theorem ticketFor_alone {d : Dev} (hs : d.twn.st = .single) (p port tag key : Nat) (apd : Bool) :
    d.ticketFor (.agent p) port tag key apd =
      (d.ticketed ⟨d.cnf.nextTkt, port, tag, key, apd⟩).tell p (.stby 0 tag d.cnf.nextTkt) := by
  unfold Dev.ticketFor
  dsimp only
  rw [mirror_alone (by exact hs)]
  rfl

/-- A request at a full line gets a ticket (R140). -/
theorem take_ticket (hk : d.gcr.role = .standalone) (hs : d.twn.st = .single) {id : Nat}
    (href : d.refusal ⟨h, .rdShared, none⟩ = none) (hres : d.resentRequest (d.txnOf ⟨h, .rdShared, none⟩) = none)
    (hid : d.generalId = some id) (hfull : 8 ≤ (d.queueOf (lineOf h.addr)).length) (hroom : d.rsvUsed < 512) :
    (d.served h.port).take ⟨h, .rdShared, none⟩ =
      (((d.served h.port).reqSlot 0x016 { d.txnOf ⟨h, .rdShared, none⟩ with id := id } h.port).ticketed
        ⟨d.cnf.nextTkt, h.port, h.tag, lineOf h.addr, false⟩).tell h.port (.stby 0 h.tag d.cnf.nextTkt) := by
  have horg : (d.txnOf ⟨h, .rdShared, none⟩).org = .agent h.port := txnOf_org hk _
  have hkey : (d.served h.port).key (d.txnOf ⟨h, .rdShared, none⟩).line = lineOf h.addr :=
    if_neg (by show d.gcr.role ≠ _; rw [hk]; decide)
  have hplace : (d.served h.port).noPlace ⟨h, .rdShared, none⟩ { d.txnOf ⟨h, .rdShared, none⟩ with id := id } =
      (((d.served h.port).reqSlot 0x016 { d.txnOf ⟨h, .rdShared, none⟩ with id := id } h.port).ticketed
        ⟨d.cnf.nextTkt, h.port, h.tag, lineOf h.addr, false⟩).tell h.port (.stby 0 h.tag d.cnf.nextTkt) := by
    unfold Dev.noPlace
    rw [if_pos (by exact hroom)]
    dsimp only
    rw [horg]
    exact ticketFor_alone (d := (d.served h.port).reqSlot 0x016 { d.txnOf ⟨h, .rdShared, none⟩ with id := id } h.port) hs ..
  have hnew : (d.served h.port).admitNew ⟨h, .rdShared, none⟩ (d.txnOf ⟨h, .rdShared, none⟩) =
      (d.served h.port).noPlace ⟨h, .rdShared, none⟩ { d.txnOf ⟨h, .rdShared, none⟩ with id := id } := by
    unfold Dev.admitNew
    rw [show Dev.generalId (d.served h.port) = some id from hid]
    dsimp only
    rw [hkey, if_neg (by rw [txnOf_kind]; exact nofun)]
    exact if_pos (by
      rw [show (d.served h.port).queueOf (lineOf h.addr) = d.queueOf (lineOf h.addr) from rfl]
      simp [hfull])
  unfold Dev.take
  rw [show (d.served h.port).refusal ⟨h, .rdShared, none⟩ = none from href]
  dsimp only
  rw [show (d.served h.port).txnOf ⟨h, .rdShared, none⟩ = d.txnOf ⟨h, .rdShared, none⟩ from rfl, resentRequest_served h.port hres]
  exact hnew.trans hplace

end

/-! ## A ticket used -/

/-- The device with a ticket less. -/
def Dev.unticketed (d : Dev) (n : Nat) : Dev :=
  { d with cnf := { d.cnf with tickets := d.cnf.tickets.filter (fun t => t.num != n) } }

/-- The transaction that a retry opens. -/
def Dev.retrying (d : Dev) (r : Req) (x : Ticket) (id : Nat) : Txn := { d.txnOf r with id := id, ticket := some x.num }

/-- The device with the transaction of a retry in its line's queue. -/
def Dev.retried (d : Dev) (r : Req) (x : Ticket) (id : Nat) : Dev :=
  (((d.served r.head.port).unticketed x.num).reqSlot 0x004 (d.retrying r x id) r.head.port).addTxn (d.retrying r x id)

theorem retried_issue (d : Dev) (r : Req) (x : Ticket) (id : Nat) :
    IssueRel ((d.served r.head.port).unticketed x.num) (d.retried r x id) := by
  have hslot : IssueRel ((d.served r.head.port).unticketed x.num)
      (((d.served r.head.port).unticketed x.num).reqSlot 0x004 (d.retrying r x id) r.head.port) := ⟨rfl, rfl, rfl, fun _ _ => rfl⟩
  exact hslot.trans (addTxn_issue _ _)

theorem retried_table (d : Dev) (r : Req) (x : Ticket) (id : Nat) : (d.retried r x id).cnf.txns =
    d.cnf.txns ++ [{ d.retrying r x id with ord := d.cnf.ord, pol := d.policy (d.txnOf r).line }] := by
  rw [Dev.retried, addTxn_cnf]
  rfl

theorem freeId_fresh {d : Dev} {n k id : Nat} (hid : d.freeId n k = some id) : ∀ y ∈ d.cnf.txns, ¬ (y.id == id) = true := by
  intro y hy hyid
  have hmem : (d.cnf.txns.map (·.id)).contains id = true := by
    rw [List.contains_iff_mem]
    exact List.mem_map.mpr ⟨y, hy, by simpa using hyid⟩
  rw [freeFrom_free hid] at hmem
  exact Bool.false_ne_true hmem

/-- A retry at a busy line waits in its line's queue (R143). -/
theorem take_retry {d : Dev} {h : Head} {tkt id : Nat} {b : Body} {x : Ticket} (ha : d.Alone) (hb : b.kind ≠ .append)
    (href : d.refusal ⟨h, b, some tkt⟩ = none) (hres : d.resentRequest (d.txnOf ⟨h, b, some tkt⟩) = none)
    (hx : d.ticketOf ⟨h, b, some tkt⟩ (d.txnOf ⟨h, b, some tkt⟩) = some x) (hid : d.freeId 512 3584 = some id)
    (hact : d.keyActive (lineOf h.addr) (lineOf h.addr) = true) (hq : (d.queueOf (lineOf h.addr)).length < 8)
    (hs : d.standbyOf (lineOf h.addr) = []) : (d.served h.port).take ⟨h, b, some tkt⟩ = d.retried ⟨h, b, some tkt⟩ x id := by
  have hrole : (d.served h.port).gcr.role = .standalone := ha.role
  have hline : (d.txnOf ⟨h, b, some tkt⟩).line = lineOf h.addr := txnOf_line hb
  have hissue := retried_issue d ⟨h, b, some tkt⟩ x id
  have htable := retried_table d ⟨h, b, some tkt⟩ x id
  have hkey : ∀ e : Dev, e.gcr.role = .standalone → ∀ l, e.key l = l := fun e he l => if_neg (by rw [he]; decide)
  have htxn : (d.retried ⟨h, b, some tkt⟩ x id).txn? id =
      some { d.retrying ⟨h, b, some tkt⟩ x id with ord := d.cnf.ord, pol := d.policy (d.txnOf ⟨h, b, some tkt⟩).line } := by
    have hfree : d.cnf.txns.find? (fun y => y.id == id) = none := List.find?_eq_none.mpr (freeId_fresh hid)
    rw [Dev.txn?, htable]
    simp [hfree, Dev.retrying]
  have hbusy : (d.retried ⟨h, b, some tkt⟩ x id).keyActive ((d.retried ⟨h, b, some tkt⟩ x id).key (lineOf h.addr)) (lineOf h.addr) =
      true := by
    refine keyActive_mono (d := d) (hissue.role.trans rfl) (fun y hy => ?_) (by rw [hissue.frame]; rfl) ?_ ?_
    · rw [htable]
      exact List.mem_append_left _ hy
    · exact victimHeld_congr (d := (d.served h.port).unticketed x.num) hissue.config hissue.role (by rw [hissue.frame])
        (by rw [hissue.frame]) (by rw [hissue.frame]) _
    · rw [hkey d ha.role]
      exact hact
  have hdrop : (d.served h.port).dropTicket x.num = (d.served h.port).unticketed x.num := mirror_alone (by exact ha.st) _
  have hretry : (d.served h.port).admitRetry ⟨h, b, some tkt⟩ (d.txnOf ⟨h, b, some tkt⟩) x = d.retried ⟨h, b, some tkt⟩ x id := by
    unfold Dev.admitRetry
    dsimp only
    rw [hdrop, show Dev.freeId ((d.served h.port).unticketed x.num) 512 3584 = some id from hid]
    dsimp only
    have hkl : ∀ e : Dev, e.gcr.role = .standalone → e.key (d.txnOf ⟨h, b, some tkt⟩).line = lineOf h.addr := fun e he =>
      (hkey e he _).trans hline
    rw [if_neg (by rw [txnOf_kind]; exact hb), hkl _ (by exact hrole)]
    have hroom : ((d.queueOf (lineOf h.addr)).length < 8 && (d.standbyOf (lineOf h.addr)).isEmpty) = true := by simp [hq, hs]
    refine (if_pos (by exact hroom)).trans ?_
    refine promote_busy (d := d.retried ⟨h, b, some tkt⟩ x id) htxn (txnOf_queued d _) ?_ ?_
    · have horg : (d.txnOf ⟨h, b, some tkt⟩).org = .agent h.port := txnOf_org ha.role _
      rw [Txn.ofManager, show Txn.org { d.retrying ⟨h, b, some tkt⟩ x id with
        ord := d.cnf.ord, pol := d.policy (d.txnOf ⟨h, b, some tkt⟩).line } = .agent h.port from horg]
    · rw [show Txn.line { d.retrying ⟨h, b, some tkt⟩ x id with
        ord := d.cnf.ord, pol := d.policy (d.txnOf ⟨h, b, some tkt⟩).line } = lineOf h.addr from hline]
      exact hbusy
  unfold Dev.take
  rw [show (d.served h.port).refusal ⟨h, b, some tkt⟩ = none from href]
  dsimp only
  rw [show (d.served h.port).txnOf ⟨h, b, some tkt⟩ = d.txnOf ⟨h, b, some tkt⟩ from rfl, resentRequest_served h.port hres]
  dsimp only
  rw [show (d.served h.port).ticketOf ⟨h, b, some tkt⟩ (d.txnOf ⟨h, b, some tkt⟩) = some x from hx]
  exact hretry

/-! ## Tickets -/

/-- A ticket that has run out is dropped (R149). -/
theorem stbyExpired_effect {d : Dev} {tkt : Nat} {x : Ticket} (hx : d.cnf.tickets.find? (fun y => y.num == tkt) = some x)
    (hl : d.ticketLive x = true) (hw : d.retryWaits tkt = false) : (stbyExpired tkt d).flag R.CNF_EVT.STBY_EXPIRED = true ∧
      (stbyExpired tkt d).cnf = { d.cnf with tickets := d.cnf.tickets.filter (fun y => y.num != tkt) } := by
  unfold stbyExpired
  rw [hx]
  dsimp only
  rw [if_neg (by simp [hl, hw])]
  refine ⟨?_, ?_⟩
  · rw [flag_bumpSat_far (h := by decide)]
    exact flag_report_self _ (by decide) (by decide) ..
  · rw [Dev.bumpSat_cnf, (report_record ..).frame]
    show (d.dropTicket tkt).cnf = _
    rw [Dev.dropTicket, Dev.mirror_cnf]

/-! ## Freed reservations -/

/-- What a request that is taken may reach. -/
def Taking (p : Part) : Prop := p ≠ .rest ∧ p ≠ .receives

/-- The oldest request of a port takes the freed reservation (R142). -/
theorem reservationFreed_waiting {d : Dev} {port : Nat} {r : Req} (hroom : d.rsvUsed < 512) (hs : d.slotFor port = true)
    (hr : d.cnf.waiting.find? (fun y => y.head.port == port) = some r) :
    (reservationFreed port d).cnf.waiting = dropFirst (fun y => y == r) d.cnf.waiting := by
  generalize hb : ({ d with cnf := { d.cnf with
    stuck := d.cnf.stuck.filter (· != port), waiting := dropFirst (fun x => x == r) d.cnf.waiting,
    inOrder := d.cnf.inOrder - 1 } } : Dev) = b
  have htake : reservationFreed port d = b.takeIn r := by
    have hfree : (d.cnf.stuck.filter (· != port)).contains port = false := by
      rw [Bool.eq_false_iff, Ne, List.contains_iff_mem, List.mem_filter]
      rintro ⟨_, h⟩
      simp at h
    have hoffer : Dev.offered { d with cnf := { d.cnf with stuck := d.cnf.stuck.filter (· != port) } } port = some r := by
      unfold Dev.offered
      rw [if_neg (by rw [hfree]; decide)]
      exact hr
    unfold reservationFreed Dev.takePort
    rw [if_pos hroom, hoffer]
    dsimp only
    rw [if_pos (by exact hs), ← hb]
    rfl
  have hmoves := (Moves.refl (F := Taking) (base := b)).takeIn r (.inr (by rw [← hb]; exact hroom)) ⟨nofun, nofun⟩
    (fun _ => ⟨nofun, nofun⟩)
  rw [htake, hmoves.waiting_eq (fun h => h.1 rfl) (fun h => h.2 rfl), ← hb]

/-! ## The obligation -/

/-- A request answered as it is taken: the answer is told, and the tables are as they were then. -/
theorem answered_taken {s : State} {r : Req} {x : Dev} {m : Msg} (ha : s.dev.Alone) (hp : r.head.port < 32)
    (hw : s.dev.cnf.waiting.all (fun y => y.head.port != r.head.port) = true) (hs : s.dev.slotFor r.head.port = true)
    (hf : s.first r = true) (hx : QuietSend s.dev x) (ht : x.twn = s.dev.twn) (hl : x.ports.length = s.dev.ports.length)
    (htake : (s.dev.served r.head.port).take r = x.tell r.head.port m) :
    ∃ t, s.arrives r = .next t ∧ t.dev.told s.dev r.head.port m ∧ t.dev.cnf.txns = x.cnf.txns ∧
      t.dev.cnf.tickets = x.cnf.tickets ∧ t.dev.cnf.nextTkt = x.cnf.nextTkt := by
  obtain ⟨t, hrun, hdev⟩ := arrives_first ha.runs hf
  rw [arrive_taken ha.mirror hw hs, htake] at hdev
  have hsend := (tell_send x r.head.port m).trans (credited_send _ r.head.port)
  refine ⟨t, hrun, ?_, ?_, ?_, ?_⟩
  · rw [hdev]
    exact answered_told hx.grow (by rw [ht, ha.st]; decide) (by rw [ht]; exact ha.mirror) (by rw [hl, ha.ports]; exact hp)
  · rw [hdev, settle_cnf, hsend.cnf]
  · rw [hdev, settle_cnf, hsend.cnf]
  · rw [hdev, settle_cnf, hsend.cnf]

/-- Settles O30: a request is refused, gets a ticket, or waits in its line's queue on its ticket; a ticket runs out; a port's oldest
request takes a freed reservation. -/
theorem ticketCommands : Obligations.TicketCommands := by
  unfold Obligations.TicketCommands
  refine ⟨?_, ?_, ?_, ?_, ?_, ?_⟩
  · intro h sub s hplain hport hslot hwait hfirst href
    have ha := plain_iff.mp hplain
    obtain ⟨x, hx, htxns, htwn, hports, htake⟩ := take_refused ha.role href
    obtain ⟨t, hrun, htold, htab, -, -⟩ := answered_taken (r := ⟨h, .rdShared, none⟩) ha hport hwait
      hslot hfirst hx htwn hports htake
    exact ⟨t, hrun, htold, htab.trans htxns⟩
  · intro h id s hplain hport hslot hwait hfirst href hres hid hfull hroom
    have ha := plain_iff.mp hplain
    have htake := take_ticket ha.role ha.st href hres hid hfull hroom
    obtain ⟨t, hrun, htold, htab, htkt, hnext⟩ := answered_taken (r := ⟨h, .rdShared, none⟩)
      (x := Dev.ticketed (Dev.reqSlot (s.dev.served h.port) 0x016 { s.dev.txnOf ⟨h, .rdShared, none⟩ with id := id } h.port)
        ⟨s.dev.cnf.nextTkt, h.port, h.tag, lineOf h.addr, false⟩) ha hport hwait hslot hfirst
      (.aside rfl rfl rfl (List.suffix_refl _)) rfl rfl htake
    exact ⟨t, hrun, htab, htkt, hnext, htold⟩
  · intro h tkt id b x s hplain hport hslot hwait hb hfirst href hres hx hid hact hq hstandby
    have ha := plain_iff.mp hplain
    have htake := take_retry ha hb href hres hx hid hact hq hstandby
    obtain ⟨t, hrun, hdev⟩ := arrives_first (r := ⟨h, b, some tkt⟩) ha.runs hfirst
    rw [arrive_taken ha.mirror hwait hslot, htake] at hdev
    have hsend := credited_send (s.dev.retried ⟨h, b, some tkt⟩ x id) h.port
    have hissue := retried_issue s.dev ⟨h, b, some tkt⟩ x id
    refine ⟨t, hrun, ?_, ?_⟩
    · rw [hdev]
      refine settle_opened ?_
      have hfree : s.dev.cnf.txns.find? (fun y => y.id == id) = none := List.find?_eq_none.mpr (freeId_fresh hid)
      have htxn : (Dev.credited (s.dev.retried ⟨h, b, some tkt⟩ x id) h.port).txn? id =
          some { s.dev.retrying ⟨h, b, some tkt⟩ x id with
          ord := s.dev.cnf.ord, pol := s.dev.policy (s.dev.txnOf ⟨h, b, some tkt⟩).line } := by
        rw [Dev.txn?, hsend.txns, retried_table]
        simp [hfree, Dev.retrying]
      rw [Dev.opened, htxn]
      have horg : (s.dev.txnOf ⟨h, b, some tkt⟩).org = .agent h.port := txnOf_org ha.role _
      have hline : (s.dev.txnOf ⟨h, b, some tkt⟩).line = lineOf h.addr := txnOf_line hb
      have hphase := txnOf_queued s.dev ⟨h, b, some tkt⟩
      have hkind : (s.dev.txnOf ⟨h, b, some tkt⟩).kind = b.kind := txnOf_kind s.dev _
      have htag : (s.dev.txnOf ⟨h, b, some tkt⟩).tag = h.tag := txnOf_tag s.dev _
      show some ((s.dev.txnOf ⟨h, b, some tkt⟩).phase, (s.dev.txnOf ⟨h, b, some tkt⟩).kind, (s.dev.txnOf ⟨h, b, some tkt⟩).line,
        (s.dev.txnOf ⟨h, b, some tkt⟩).tag, (s.dev.txnOf ⟨h, b, some tkt⟩).org) = _
      rw [hphase, hkind, hline, htag, horg]
    · rw [hdev, settle_cnf, hsend.cnf, hissue.cnf]
      rfl
  · intro tkt x s hruns hx hlive hwaits
    obtain ⟨hflag, hcnf⟩ := stbyExpired_effect hx hlive hwaits
    refine ⟨_, (exec_stbyExpired tkt s).trans (onCore_runs hruns _), ?_⟩
    rw [State.setDev_dev, settle_flag, settle_cnf, hcnf]
    exact ⟨hflag, rfl, rfl⟩
  · intro port r s hruns hroom hslot hr
    refine ⟨_, (exec_reservationFreed port s).trans (onCore_runs hruns _), ?_⟩
    rw [State.setDev_dev, settle_cnf]
    exact reservationFreed_waiting hroom hslot hr
  · intro h s hruns hmirror hslot
    refine ⟨_, (exec_rdShared h s).trans (onCore_runs hruns _), ?_⟩
    have hwait : ∀ late, arrive late ⟨h, .rdShared, none⟩ s.dev =
        { s.dev with cnf := { s.dev.cnf with waiting := s.dev.cnf.waiting ++ [⟨h, .rdShared, none⟩] } } := by
      intro late
      unfold arrive
      rw [if_neg (by rw [hmirror]; decide), if_pos (by simp [hslot])]
    rw [State.setDev_dev, hwait, settle_cnf, settle_dir]
    exact ⟨rfl, rfl⟩

end Sys2Proof.Machine
end

section
/-! THEOREM. Answers to snoops, and write-backs of holders, strays and senders without a credit (R66, R110 to R119, R155). -/

namespace Sys2Proof.Machine

set_option Elab.async false

/-! ## A holder gone from the directory -/

theorem drop_records (e : DirEnt) (p : Nat) : (e.drop p).records p = false := by
  have hnorm : ∀ x : DirEnt, x.records p = false → x.norm.records p = false := by
    intro x hx
    unfold DirEnt.norm
    split
    · simp [DirEnt.records, DirEnt.free]
    · exact hx
  refine hnorm _ ?_
  simp only [DirEnt.records, dropPtr, Bool.eq_false_iff, Ne, List.contains_iff_mem, List.mem_map]
  rintro ⟨x, -, hx⟩
  split at hx
  · cases hx
  · next hne => exact hne hx

theorem drop_line (e : DirEnt) (p : Nat) : (e.drop p).line = e.line := by
  exact (lessens_drop p e 0).1

/-- The first entry of a line after an entry has taken its place. -/
theorem putDir_first (d : Dev) (e : DirEnt) : ∀ y, (d.putDir e).dirFind e.line = some y → y = e := by
  intro y hy
  unfold Dev.putDir at hy
  rw [Dev.dirFind, mirror_frame] at hy
  have hrest : (d.dir.ents.filter (fun x => x.line != e.line &&
      !(x.line % 65536 == e.line % 65536 && x.way == e.way))).find? (fun x => x.line == e.line) = none :=
      List.find?_eq_none.mpr fun x hx => by
    have := (List.mem_filter.mp hx).2
    simp only [Bool.and_eq_true, bne_iff_ne] at this
    simpa using this.1
  dsimp only at hy
  split at hy
  · rw [List.find?_cons_of_pos (by simp)] at hy
    exact (Option.some.inj hy).symm
  · rw [hrest] at hy
    cases hy

/-- A port dropped from a line's entry is not recorded there. -/
theorem dirMap_drop (d : Dev) (line p : Nat) :
    ((d.dirMap line (fun e => e.drop p)).dirEnt line).all (fun e => !e.records p) = true := by
  have hfind : ∀ y, (d.dirMap line (fun e => e.drop p)).dirFind line = some y → y.records p = false := by
    intro y hy
    unfold Dev.dirMap at hy
    split at hy
    · next e he =>
      have hline : e.line = line := by simpa using List.find?_some he
      split at hy
      · next hsame =>
        rw [dirTouch_dirFind, he] at hy
        rw [← Option.some.inj hy, ← hsame]
        exact drop_records e p
      · have hput : (d.putDir (e.drop p)).dirFind (e.drop p).line = some y := by
          rw [drop_line, hline]
          exact hy
        rw [putDir_first d _ y hput]
        exact drop_records e p
    · next hnone =>
      rw [hnone] at hy
      cases hy
  unfold Dev.dirEnt
  split
  · next e he =>
    split
    · rfl
    · simp [hfind e he]
  · rfl

/-! ## Answers that bring nothing -/

theorem awaiting_txn {d : Dev} {port txid : Nat} {x : Txn} (h : d.awaiting port txid = some x) :
    d.txn? txid = some x ∧ x.id = txid := by
  have htxn : d.txn? txid = some x := (Option.filter_eq_some_iff.mp h).1
  exact ⟨htxn, by simpa using List.find?_some htxn⟩

theorem dirMap_cnf (d : Dev) (line : Nat) (f : DirEnt → DirEnt) : (d.dirMap line f).cnf = d.cnf := by
  unfold Dev.dirMap
  split
  · split
    · rfl
    · rw [Dev.putDir, Dev.mirror_cnf]
  · rfl

/-- A holder answers without data: it is dropped, and the others are still awaited (R116). -/
theorem answer_dropped {d : Dev} {port txid : Nat} {x : Txn} {s : Snoop} {a : SnpAns} (hr : d.gcr.role ≠ .manager)
    (hx : d.awaiting port txid = some x) (hs : (port, s) ∈ x.await.head?.toList) (hl : 1 < x.await.length)
    (hsa : s = .inv ∧ a = .ack ∨ s = .own ∧ a = .miss false) :
    ((d.answer x port a).txn? txid).map (·.await) = some x.await.tail ∧
      ((d.answer x port a).dirEnt x.snooped).all (fun e => !e.records port) = true := by
  obtain ⟨htxn, hid⟩ := awaiting_txn hx
  obtain ⟨l, hl'⟩ : ∃ l, x.await = (port, s) :: l := by
    cases hawait : x.await with
    | nil => rw [hawait] at hs; cases hs
    | cons y l =>
      rw [hawait] at hs
      exact ⟨l, by rw [List.mem_singleton.mp hs]⟩
  have hwait : answered { x with await := l } = false := by
    have hne : l.isEmpty = false := by
      cases l with
      | nil => simp [hl'] at hl
      | cons => rfl
    simp [answered, hne]
  have htake : d.takeAnswer { x with await := l } port s a = ({ x with await := l }, d.dirMap x.snooped (fun e => e.drop port)) := by
    unfold Dev.takeAnswer
    rcases hsa with ⟨rfl, rfl⟩ | ⟨rfl, rfl⟩
    · exact if_neg hr
    · exact if_neg hr
  have hanswer : d.answer x port a = (d.dirMap x.snooped (fun e => e.drop port)).putTxn { x with await := l } := by
    unfold Dev.answer
    rw [hl', List.find?_cons_of_pos (by simp)]
    dsimp only
    rw [show dropFirst (fun e : Nat × Snoop => e.1 == port) ((port, s) :: l) = l by simp [dropFirst], htake]
    unfold Dev.proceed
    rw [hwait]
    rfl
  rw [hanswer, hl']
  refine ⟨?_, ?_⟩
  · have hput := putTxn_txn (d := d.dirMap x.snooped (fun e => e.drop port)) (t := { x with await := l }) (x := x)
      (by rw [Dev.txn?, dirMap_cnf]; exact hid.symm ▸ htxn)
    rw [show txid = Txn.id { x with await := l } from hid.symm, hput]
    rfl
  · rw [Dev.putTxn, mirror_frame]
    exact dirMap_drop d x.snooped port

/-! ## An answer or a write-back that nobody waits for -/

/-- A message that is not due is a protocol error of its port, and has no other effect (R155). -/
theorem protoErr_effect {d : Dev} {n : Nat} (hn : n < 32) (hd : d.portDead n = false) (opc : Nat) :
    (d.protoErr n opc).flag (R.APnn_EVT.PROTO_ERR n) = true ∧ (d.protoErr n opc).cnf = d.cnf ∧ (d.protoErr n opc).dir = d.dir ∧
      (d.protoErr n opc).wbf = d.wbf := by
  have hrep := flag_report_self d (f := R.APnn_EVT.PROTO_ERR n) rfl
    (by simp [recordRegs, R.APnn_EVT.PROTO_ERR]; omega) n opc 0 0
  have hframe := (report_record d (R.APnn_EVT.PROTO_ERR n) n opc 0 0).frame
  generalize hx : (d.report (R.APnn_EVT.PROTO_ERR n) n opc 0 0).bumpSat (R.APnn_PROTO_CNT.PROTO n) 1 = x
  have hflag : x.flag (R.APnn_EVT.PROTO_ERR n) = true := by
    rw [← hx, Dev.bumpSat, flag_set_ne _ _ _ _ (by simp [R.APnn_EVT.PROTO_ERR, R.APnn_PROTO_CNT.PROTO])]
    exact hrep
  have hkept : x.cnf = d.cnf ∧ x.dir = d.dir ∧ x.wbf = d.wbf := by
    rw [← hx, hframe]
    exact ⟨rfl, rfl, rfl⟩
  have hraise : d.protoErr n opc = if x.flag (R.APnn_CFG.PROTO_STOP n) && x.flag (portEN n) then x.stopPort n else x := by
    rw [Dev.protoErr, if_neg (by rw [hd]; decide), Dev.protoRaise, if_pos hn, hx]
  rw [hraise]
  split
  · rw [Dev.stopPort, if_pos hn, setPort_frame]
    refine ⟨?_, hkept⟩
    show (x.set (portEN n) 0).flag (R.APnn_EVT.PROTO_ERR n) = true
    rw [flag_set_ne _ _ _ _ (by simp [R.APnn_EVT.PROTO_ERR, portEN])]
    exact hflag
  · exact ⟨hflag, hkept⟩

/-! ## A dirty answer to RdOwn -/

theorem dirMap_alone {d : Dev} (hs : d.twn.st = .single) (line : Nat) (f : DirEnt → DirEnt) :
    d.dirMap line f = { d with dir := (d.dirMap line f).dir } := by
  unfold Dev.dirMap
  split
  · split
    · rfl
    · rw [putDir_alone hs]
  · rfl

/-- The device with changes of the directory and of the table of transactions alone. -/
def Dev.tabled (d : Dev) (x : Dir) (l : List Txn) : Dev := { d with dir := x, cnf := { d.cnf with txns := l } }

theorem tabled_dirMap {d : Dev} (hs : d.twn.st = .single) (x : Dir) (l : List Txn) (line : Nat) (f : DirEnt → DirEnt) :
    ∃ y, (d.tabled x l).dirMap line f = d.tabled y l := ⟨_, dirMap_alone (by exact hs) line f⟩

theorem tabled_putTxn {d : Dev} (hs : d.twn.st = .single) (x : Dir) (l : List Txn) (t : Txn) :
    (d.tabled x l).putTxn t = d.tabled x (mapIf (fun y => y.id == t.id) (fun _ => t) l) := putTxn_table (by exact hs) t

/-- Ownership is granted with dirty data of a holder (Table COH-6). -/
theorem gather_dirty {d : Dev} {t : Txn} {p : Payload} {q : Nat} (ha : d.Alone) (hk : t.kind = .rdOwn) (ho : t.org = .agent q)
    (hgot : t.got = some p) (hdirty : t.dirty = true) (hg : t.grant = .I) (hdead : d.portDead q = false)
    (hblock : d.hdrBlocked (d.setOf t.line) = none) (hhead : (d.header? (d.setOf t.line)).isSome = true) (x : Dir) (l : List Txn) :
    ∃ y, (d.tabled x l).gather t = ((d.tabled y l).putTxn { t with grant := .D, got := some p, phase := .grantAck }).tell q
      (.data 0 t.tag t.line .D t.id p) := by
  obtain ⟨y, hy⟩ := tabled_dirMap (d := d) ha.st x l t.line (fun e => e.exclusive q)
  refine ⟨y, ?_⟩
  have hmode : d.gcr.mode.serving = true := ha.mode
  obtain ⟨hd, hhd⟩ := Option.isSome_iff_exists.mp hhead
  have hview : (d.tabled x l).view ((d.tabled x l).setOf t.line) = .ok hd := by
    unfold Dev.view
    rw [if_neg (by intro hc; rw [show d.gcr.mode = .train from hc] at hmode; cases hmode),
      show (d.tabled x l).hdrBlocked ((d.tabled x l).setOf t.line) = none from hblock,
      show (d.tabled x l).header? ((d.tabled x l).setOf t.line) = some hd from hhd]
  have hstands : (d.tabled x l).standsX t = true := by
    simp [Dev.standsX, Dev.hasX, show (d.tabled x l).gcr.role = .standalone from ha.role]
  have hgather : (d.tabled x l).gather t = (d.tabled x l).deliver t p := by
    simp [Dev.gather, Dev.gatherRead, hk, hstands, hview, hgot, hdirty]
  have hgrant : (d.tabled x l).grantOf t = .D := by
    simp [Dev.grantOf, Dev.agentGrant, show (d.tabled x l).gcr.role = .standalone from ha.role, hk, hdirty]
  have hrecord : (d.tabled x l).recordGrant t .D = d.tabled y l := by
    simp only [Dev.recordGrant, Txn.reader, ho]
    exact hy
  have htraps : d.gcr.mode.traps = false := by
    revert hmode
    cases d.gcr.mode <;> decide
  rw [hgather, Dev.deliver, if_neg (by rw [show (d.tabled x l).gcr.mode = d.gcr.mode from rfl, htraps, Bool.and_false]; decide)]
  dsimp only
  rw [if_pos hg, if_pos hg, hgrant, hrecord, if_neg (by decide), Dev.granted]
  dsimp only
  have hrespond : ∀ e : Dev, e.respond t.org (fun r => .data r t.tag t.line .D t.id p) =
      e.tell q (.data 0 t.tag t.line .D t.id p) :=
    fun e => by rw [ho]; rfl
  rw [hrespond, if_neg]
  rw [show Txn.port { t with grant := .D, got := some p, phase := .grantAck } = q by rw [Txn.port, ho], (tell_send _ _ _).dead,
    tabled_putTxn ha.st]
  exact fun hc => Bool.false_ne_true (hdead.symm.trans hc)

/-- Dirty data of the only holder goes to the requester with ownership (R110, R116). -/
theorem answer_owned {d : Dev} {port txid q : Nat} {p : Payload} {x : Txn} (ha : d.Alone) (hx : d.awaiting port txid = some x)
    (hk : x.kind = .rdOwn) (hp : x.phase = .snooping) (hw : x.await = [(port, .own)]) (hh : x.held = [])
    (hb : x.wbFrom = []) (hg : x.grant = .I) (ho : x.org = .agent q) (hq : q < 32) (hdead : d.portDead q = false)
    (hu : d.twn.unsent = []) (hblock : d.hdrBlocked (d.setOf x.line) = none) (hhead : (d.header? (d.setOf x.line)).isSome = true) :
    d.sent <:+ (d.answer x port (.data true .I p)).sent ∧
      (d.answer x port (.data true .I p)).told d q (.data 0 x.tag x.line .D txid p) ∧
      ((d.answer x port (.data true .I p)).txn? txid).map (fun y => (y.phase, y.grant)) = some (.grantAck, .D) := by
  obtain ⟨htxn, hid⟩ := awaiting_txn hx
  generalize hu' : ({ x with await := [], got := some p, dirty := true, fromHolder := true } : Txn) = u
  have huline : u.line = x.line := by rw [← hu']
  have huid : u.id = txid := by rw [← hu']; exact hid
  have hans : answered u = true := by rw [← hu']; simp [answered, hh, hb]
  have hman : u.ofManager = false := by rw [← hu', Txn.ofManager]; simp [ho]
  obtain ⟨y, hy⟩ := tabled_dirMap (d := d) ha.st d.dir d.cnf.txns x.snooped (fun e => e.drop port)
  have htake : d.takeAnswer { x with await := [] } port .own (.data true .I p) = (u, d.tabled y d.cnf.txns) := by
    rw [← hy, ← hu']
    exact if_neg (by rw [ha.role]; decide)
  generalize hl : mapIf (fun z => z.id == u.id) (fun _ => u) d.cnf.txns = l
  have hput : (d.tabled y d.cnf.txns).putTxn u = d.tabled y l := by rw [tabled_putTxn ha.st, hl]
  obtain ⟨z, hz⟩ : ∃ z, (d.tabled y l).endRoll u = d.tabled z l := by
    unfold Dev.endRoll
    split
    · exact ⟨y, rfl⟩
    · rw [if_neg (by show d.gcr.role ≠ _; rw [ha.role]; decide)]
      exact tabled_dirMap ha.st ..
  have hproceed : (d.tabled y l).proceed u = (d.tabled z l).gather u := by
    have hphase : u.phase = .snooping := by rw [← hu']; exact hp
    have hsent : (d.tabled y l).twn.unsent.contains u.id = false := by rw [show (d.tabled y l).twn.unsent = [] from hu]; rfl
    unfold Dev.proceed
    rw [hans, hsent, hphase, hman, hz]
    rfl
  obtain ⟨v, hv⟩ := gather_dirty (d := d) (t := u) (p := p) (q := q) ha (by rw [← hu']; exact hk) (by rw [← hu']; exact ho)
    (by rw [← hu']) (by rw [← hu']) (by rw [← hu']; exact hg) hdead (by rw [huline]; exact hblock)
    (by rw [huline]; exact hhead) z l
  have hanswer : d.answer x port (.data true .I p) =
      ((d.tabled v l).putTxn { u with grant := .D, got := some p, phase := .grantAck }).tell q (.data 0 u.tag u.line .D u.id p) := by
    unfold Dev.answer
    rw [hw, List.find?_cons_of_pos (by simp)]
    dsimp only
    rw [show dropFirst (fun e : Nat × Snoop => e.1 == port) [(port, .own)] = [] by simp [dropFirst], htake]
    dsimp only
    rw [hput, hproceed, hv]
  have hmsg : Msg.data 0 u.tag u.line .D u.id p = Msg.data 0 x.tag x.line .D txid p := by rw [← hu', ← hid]
  rw [hmsg] at hanswer
  generalize hg' : ({ u with grant := .D, got := some p, phase := .grantAck } : Txn) = g at hanswer
  have hgid : g.id = u.id := by rw [← hg']
  have hgview : (g.phase, g.grant) = (.grantAck, .D) := by rw [← hg']
  have hwrite := tabled_putTxn ha.st v l g
  have hfirst : (d.tabled v l).txn? g.id = some u := by
    rw [hgid, ← hl]
    exact mapIf_txn_same _ _ (huid.symm ▸ htxn)
  have hsecond := putTxn_txn hfirst
  have hquiet : QuietSend d ((d.tabled v l).putTxn g) := by
    rw [hwrite]
    exact .aside rfl rfl rfl (List.suffix_refl _)
  have htold := tell_told (d := (d.tabled v l).putTxn g) (n := q) (m := .data 0 x.tag x.line .D txid p)
    (by rw [hwrite]; show d.twn.st ≠ _; rw [ha.st]; decide) (by rw [hwrite]; exact ha.mirror)
    (.inr (by rw [hwrite]; show q < d.ports.length; rw [ha.ports]; exact hq))
  have hlast := tell_send ((d.tabled v l).putTxn g) q (.data 0 x.tag x.line .D txid p)
  rw [hanswer]
  refine ⟨hquiet.sent.trans hlast.sent, hquiet.grow.told_before hlast.sent htold, ?_⟩
  rw [Dev.txn?, hlast.txns, ← Dev.txn?, ← huid, ← hgid, hsecond, Option.map_some, hgview]

/-! ## Write-backs -/

theorem ackWrBack_alone {d : Dev} (ha : d.twn.st = .single) (hr : d.gcr.role = .standalone) (h : Head) :
    d.ackWrBack h = d.tell h.port (.ack 0 h.tag .I 0 none) := by
  have horg : d.orgOf h = .agent h.port := if_neg (by rw [hr]; decide)
  rw [Dev.ackWrBack, Dev.logRetired, if_pos ⟨ha, by rw [hr]; decide⟩, horg]
  rfl

/-- A write-back that is served is accepted of the recorded holder, and stray otherwise (R112, R113). -/
theorem takeWrBack_alone {d : Dev} (hr : d.gcr.role = .standalone) {h : Head} (p : Payload) (hs : d.wrBackServed h = true)
    (hres : d.resentRequest { d.txnOf ⟨h, .rdShared, none⟩ with kind := .wrBack } = none) :
    takeWrBack h p d = d.landWrBack h p := by
  have howed : (d.oweCredit (d.orgOf h) h.tag).resentRequest { d.txnOf ⟨h, .rdShared, none⟩ with kind := .wrBack } = none := by
    unfold Dev.oweCredit
    split
    · exact resentRequest_none.mpr (resentRequest_none.mp hres :)
    · exact hres
  rw [takeWrBack, if_neg (by rw [hs]; decide), howed]
  exact if_neg (by rw [hr]; decide)

/-- The directory records grants of other lines alone. -/
def GrantsElsewhere (line : Nat) (x : Part) : Prop := ∃ l, x = .grants l ∧ l ≠ line

/-- The recorded holder of a line is taken off the directory. -/
theorem releaseHolder_unrecorded {d : Dev} (ha : d.Alone) {h : Head} (ho : d.ownsLine h = true) :
    ∀ e ∈ (d.releaseHolder h).dir.ents, e.line = lineOf h.addr → e.records h.port = false := by
  have hnot : d.gcr.role ≠ .manager := by rw [ha.role]; decide
  have hents : (d.releaseHolder h).dir.ents = (d.dirMap (lineOf h.addr) (fun e => e.drop h.port)).dir.ents := by
    unfold Dev.releaseHolder
    dsimp only
    rw [if_neg hnot]
    split
    · rw [Dev.setHolds, mirror_frame]
    · rfl
  rw [Dev.ownsLine, if_neg hnot] at ho
  rw [hents]
  intro e he hline
  split at ho
  · next x hx =>
    obtain ⟨hfind, hxl⟩ := dirEnt_some hx
    have hrec : x.records h.port = true := (Bool.and_eq_true_iff.mp ho).2
    have hmoved : x.drop h.port ≠ x := fun hc => by
      have := drop_records x h.port
      rw [hc, hrec] at this
      cases this
    rw [Dev.dirMap, hfind] at he
    dsimp only at he
    rw [if_neg hmoved, Dev.putDir, mirror_frame] at he
    have hrest : ∀ y ∈ d.dir.ents.filter (fun y => y.line != (x.drop h.port).line &&
        !(y.line % 65536 == (x.drop h.port).line % 65536 && y.way == (x.drop h.port).way)), y.line ≠ lineOf h.addr := fun y hy => by
      have := (Bool.and_eq_true_iff.mp (List.mem_filter.mp hy).2).1
      rw [drop_line, hxl] at this
      simpa using this
    dsimp only at he
    split at he
    · rcases List.mem_cons.mp he with rfl | he
      · exact drop_records x h.port
      · exact absurd hline (hrest e he)
    · exact absurd hline (hrest e he)
  · cases ho

/-- No transaction of a line has a grant to be recorded. -/
def Ungranted (d : Dev) (line : Nat) : Prop :=
  ∀ t ∈ d.cnf.txns, GrantsElsewhere line (.grants t.line) ∨ t.phase = .queued ∨ t.phase = .waitPlace

theorem elsewhere_rest {line : Nat} : ¬ GrantsElsewhere line .rest := fun ⟨_, hx, _⟩ => nomatch hx

theorem elsewhere_self {line : Nat} : ¬ GrantsElsewhere line (.grants line) := fun ⟨_, hx, hl⟩ => hl (Part.grants.inj hx).symm

theorem Ungranted.moves {line : Nat} {b d : Dev} (hr : b.gcr.role = .standalone) (hb : Ungranted b line)
    (h : Moves (GrantsElsewhere line) b d) : Ungranted d line := by
  intro t ht
  rcases h.known t ht with hg | hg | hg | hg | hg | ⟨u, hu, hul, hup⟩
  · exact .inl hg
  · exact absurd hg elsewhere_rest
  · exact absurd hr hg
  · exact .inr (.inl hg)
  · exact .inr (.inr hg)
  · rw [← hul, ← hup]
    exact hb u hu

/-- The device with a write-back in its buffer, before the answer. -/
def Dev.keptWrBack (d : Dev) (h : Head) (p : Payload) : Dev :=
  let shared : Bool := d.poolOpen != 0
  let x := (d.wbForce (fun e => e.line == lineOf h.addr && e.mask != Mask.full)).wbAdd (lineOf h.addr) Mask.full p .wrBack
    (if shared then none else some h.port) none false false
  if shared then x.oweCredit (x.orgOf h) h.tag else x

theorem bufferWrBack_kept (d : Dev) (h : Head) (p : Payload) : d.bufferWrBack h p = (d.keptWrBack h p).ackWrBack h := rfl

theorem Moves.keptWrBack {F : Part → Prop} {base d : Dev} (hd : Moves F base d) (h : Head) (p : Payload) :
    Moves F base (d.keptWrBack h p) :=
  .ite (((hd.wbForce _).wbAdd _ _ _ _ _ _ _ _).oweCredit _ _) ((hd.wbForce _).wbAdd _ _ _ _ _ _ _ _)

/-- The recorded holder's write-back is acknowledged, and it holds the line no more (R112, R119). -/
theorem acceptWrBack_effect {d : Dev} (ha : d.Alone) {h : Head} (p : Payload) (hp : h.port < 32) (ho : d.ownsLine h = true)
    (hn : ∀ x ∈ d.cnf.txns, x.line ≠ lineOf h.addr) :
    d.sent <:+ (d.acceptWrBack h p).sent ∧ (d.acceptWrBack h p).told d h.port (.ack 0 h.tag .I 0 none) ∧
      ((d.acceptWrBack h p).dirEnt (lineOf h.addr)).all (fun e => !e.records h.port) = true := by
  have hstart : Ungranted d (lineOf h.addr) := fun t ht => .inl ⟨_, rfl, hn t ht⟩
  have hrel : Moves (GrantsElsewhere (lineOf h.addr)) d (d.releaseHolder h) := Moves.refl.releaseHolder h
  have hkept := hrel.keptWrBack h p
  have hbuf := hrel.bufferWrBack h p
  have hbase := releaseHolder_unrecorded ha ho
  generalize hb : d.releaseHolder h = b at hrel hkept hbuf hbase
  have hrole : ∀ x, Moves (GrantsElsewhere (lineOf h.addr)) d x → x.gcr.role = .standalone := fun x hx =>
    (hx.role elsewhere_rest).trans ha.role
  have heq : d.acceptWrBack h p = (b.bufferWrBack h p).settleWrBack h p := by rw [Dev.acceptWrBack, hb]
  rw [heq, ← and_assoc]
  refine ⟨?_, ?_⟩
  · have hst : (b.keptWrBack h p).twn.st = .single := (hkept.pair elsewhere_rest ha.mirror).trans ha.st
    have hack : b.bufferWrBack h p = (b.keptWrBack h p).tell h.port (.ack 0 h.tag .I 0 none) := by
      rw [bufferWrBack_kept, ackWrBack_alone hst (hrole _ hkept)]
    have htold := tell_told (d := b.keptWrBack h p) (n := h.port) (m := .ack 0 h.tag .I 0 none) (by rw [hst]; decide)
      ((hkept.mirror_eq elsewhere_rest).trans ha.mirror) (.inr (by rw [hkept.ports_length elsewhere_rest, ha.ports]; exact hp))
    rw [← hack] at htold
    have hheld : Ungranted (b.bufferWrBack h p) (lineOf h.addr) := hstart.moves ha.role hbuf
    have hlast : Moves (GrantsElsewhere (lineOf h.addr)) (b.bufferWrBack h p) ((b.bufferWrBack h p).settleWrBack h p) :=
      Moves.refl.settleWrBack h p fun _ hx => hheld.moves (hrole (b.bufferWrBack h p) hbuf) hx
    have hnew := (hlast.grow elsewhere_rest).told (by rw [hack]; exact (tell_send ..).sent) htold
    have hsent : (b.keptWrBack h p).sent <:+ (b.bufferWrBack h p).sent := by
      rw [hack]
      exact (tell_send ..).sent
    have hafter := hsent.trans (hlast.grow elsewhere_rest).sent
    exact ⟨(hkept.grow elsewhere_rest).sent.trans hafter, (hkept.grow elsewhere_rest).told_before hafter hnew⟩
  · have hlast : Moves (GrantsElsewhere (lineOf h.addr)) b ((b.bufferWrBack h p).settleWrBack h p) :=
      (Moves.refl.bufferWrBack h p).settleWrBack h p fun _ hx => (hstart.moves ha.role hrel).moves (hrole _ hrel) hx
    have hall := hlast.unrecorded elsewhere_rest elsewhere_self hbase
    rw [Option.all_eq_true]
    intro e he
    obtain ⟨hfind, hline⟩ := dirEnt_some he
    rw [Dev.dirFind] at hfind
    simp [hall e (List.mem_of_find?_eq_some hfind) hline]

/-- A stray write-back is recorded and acknowledged, and its data are discarded (R113). -/
theorem strayWrBack_effect {d : Dev} (ha : d.Alone) {h : Head} (hp : h.port < 32) :
    d.sent <:+ (d.strayWrBack h).sent ∧ (d.strayWrBack h).told d h.port (.ack 0 h.tag .I 0 none) ∧
      (d.strayWrBack h).flag R.DIR_EVT.WB_STRAY = true ∧
      (d.strayWrBack h).wbf = d.wbf ∧ (d.strayWrBack h).dir = d.dir ∧ (d.strayWrBack h).store = d.store ∧
      (d.strayWrBack h).hdc = d.hdc := by
  have hrep := report_record d R.DIR_EVT.WB_STRAY h.port 0 (lineOf h.addr * 128) h.tag
  have hflag := flag_report_self d (f := R.DIR_EVT.WB_STRAY) rfl (by decide) h.port 0 (lineOf h.addr * 128) h.tag
  have hstray : d.strayWrBack h =
      ((d.report R.DIR_EVT.WB_STRAY h.port 0 (lineOf h.addr * 128) h.tag).oweCredit (d.orgOf h) h.tag).ackWrBack h := by
    rw [Dev.strayWrBack, if_neg (by rw [ha.role]; decide)]
  generalize hx : d.report R.DIR_EVT.WB_STRAY h.port 0 (lineOf h.addr * 128) h.tag = x at hrep hflag hstray
  have howe : x.oweCredit (d.orgOf h) h.tag = x.oweWb h.port 0 h.tag := by
    rw [show d.orgOf h = .agent h.port from if_neg (by rw [ha.role]; decide)]
    rfl
  rw [hstray, howe, ackWrBack_alone (by show x.twn.st = _; rw [hrep.twn]; exact ha.st)
    (by show x.gcr.role = _; rw [hrep.gcr]; exact ha.role)]
  have hquiet : QuietSend d (x.oweWb h.port 0 h.tag) := .aside hrep.ports (by show x.tw = _; rw [hrep.frame])
    (by show x.twn.held = _; rw [hrep.twn]) (by show _ <:+ x.sent; rw [hrep.sent])
  have hsend := tell_send (x.oweWb h.port 0 h.tag) h.port (.ack 0 h.tag .I 0 none)
  have htold := tell_told (d := x.oweWb h.port 0 h.tag) (n := h.port) (m := .ack 0 h.tag .I 0 none)
    (by show x.twn.st ≠ _; rw [hrep.twn, ha.st]; decide) (by show x.twn.mirror = _; rw [hrep.twn]; exact ha.mirror)
    (.inr (by show _ < x.ports.length; rw [hrep.ports, ha.ports]; exact hp))
  refine ⟨hquiet.sent.trans hsend.sent, hquiet.grow.told_before hsend.sent htold, (hsend.flag (by decide)).trans hflag,
    hsend.wbf.trans ?_, hsend.dir.trans ?_,
    hsend.store.trans hrep.store, hsend.hdc.trans ?_⟩
  · show x.wbf = _; rw [hrep.frame]
  · show x.dir = _; rw [hrep.frame]
  · show x.hdc = _; rw [hrep.frame]

/-! ## The commands -/

/-- A device alone with one write-back credit of a port spent. -/
def Dev.spentWb (d : Dev) (n : Nat) : Dev := d.setPort n { d.port n with pWb := (d.port n).pWb - 1 }

theorem spentWb_frame (d : Dev) (n : Nat) :
    d.spentWb n = { d with ports := (d.spentWb n).ports, tw := (d.spentWb n).tw } := setPort_frame ..

theorem spentWb_caches (d : Dev) (n : Nat) :
    (d.spentWb n).wbf = d.wbf ∧ (d.spentWb n).dir = d.dir ∧ (d.spentWb n).store = d.store ∧ (d.spentWb n).hdc = d.hdc := by
  rw [spentWb_frame]
  exact ⟨rfl, rfl, rfl, rfl⟩

theorem spentWb_quiet (d : Dev) (n : Nat) : QuietSend d (d.spentWb n) := setPort_quiet rfl

theorem spentWb_alone {d : Dev} (ha : d.Alone) (n : Nat) : (d.spentWb n).Alone where
  runs := by rw [spentWb_frame]; exact ha.runs
  role := by rw [spentWb_frame]; exact ha.role
  mode := by rw [spentWb_frame]; exact ha.mode
  st := by rw [spentWb_frame]; exact ha.st
  mirror := by rw [spentWb_frame]; exact ha.mirror
  ports := (setPort_ports_length ..).trans ha.ports

theorem spentWb_port (d : Dev) (n k : Nat) : ((d.spentWb n).port k).draining = (d.port k).draining := by
  unfold Dev.spentWb
  by_cases hk : k = n
  · subst hk
    rcases port_setPort_cases d k { d.port k with pWb := (d.port k).pWb - 1 } with h | h <;> rw [h]
  · rw [port_setPort_ne d hk]

theorem spentWb_dead (d : Dev) (n k : Nat) : (d.spentWb n).portDead k = d.portDead k := by
  rw [Dev.portDead, Dev.portDead, spentWb_port, spentWb_frame]
  rfl

theorem wrBack_alone {d : Dev} (ha : d.Alone) {h : Head} (p : Payload) (hl : (d.port h.port).lacks 4 = false)
    (hw : d.wbAsleep = false) (hs : d.wrBackServed h = true)
    (hres : d.resentRequest { d.txnOf ⟨h, .rdShared, none⟩ with kind := .wrBack } = none) :
    wrBack h p d = (d.spentWb h.port).landWrBack h p := by
  have hasleep : (d.spentWb h.port).wbAsleep = false := by rw [spentWb_frame]; exact hw
  have hserved : (d.spentWb h.port).wrBackServed h = true := by
    rw [Dev.wrBackServed, (spentWb_alone ha _).mode, spentWb_dead, spentWb_frame]
    rw [Dev.wrBackServed, ha.mode] at hs
    exact hs
  have hnew : (d.spentWb h.port).resentRequest { (d.spentWb h.port).txnOf ⟨h, .rdShared, none⟩ with kind := .wrBack } = none := by
    rw [spentWb_frame]
    exact resentRequest_none.mpr (resentRequest_none.mp hres :)
  rw [wrBack, if_neg (by rw [ha.mirror]; decide), if_neg (by rw [hl]; decide)]
  dsimp only
  rw [show d.setPort h.port { d.port h.port with pWb := (d.port h.port).pWb - 1 } = d.spentWb h.port from rfl,
    if_neg (by rw [hasleep]; decide), takeWrBack_alone (spentWb_alone ha _).role p hserved hnew]

/-- A device alone, whatever answers a mirror side has reported. -/
theorem alone_reported {d : Dev} (ha : d.Alone) (l : List (Nat × Nat)) : Dev.Alone { d with twn := { d.twn with reported := l } } :=
  { ha with }

theorem settle_told {a b : Dev} {n : Nat} {m : Msg} (hs : a.sent <:+ b.sent) (h : b.told a n m) : (settle b).told a n m :=
  (settle_grow b).told hs h

theorem settle_dirEnt (d : Dev) (line : Nat) : (settle d).dirEnt line = d.dirEnt line := by
  simp [Dev.dirEnt, Dev.dirFind]

/-- Settles O31: an answer takes its holder off the directory, and the last one serves the requester; a write-back of the recorded
holder is taken into the buffer and acknowledged, a stray one is discarded, and one nobody waits for is a protocol error. -/
theorem snoopAndWriteBackAnswers : Obligations.SnoopAndWriteBackAnswers := by
  unfold Obligations.SnoopAndWriteBackAnswers
  refine ⟨?_, ?_, ?_, ?_, ?_, ?_, ?_⟩
  · intro port txid q p x s hp hx hk hphase _ hw hh hb hg ho hq hdead hu hblock hhead
    have ha := plain_iff.mp hp
    refine ⟨_, onCore_runs ha.runs _, ?_⟩
    have hrun : snpData port txid true .I p s.dev =
        Dev.answer { s.dev with
          twn := { s.dev.twn with reported := s.dev.twn.reported.erase (txid, port) } } x port (.data true .I p) := by
      rw [snpData, if_neg (by rw [ha.mirror]; decide), hx]
      exact if_neg (by simp [Dev.mirrors, ha.st])
    have hans := answer_owned (p := p) (alone_reported ha (s.dev.twn.reported.erase (txid, port))) hx hk hphase hw hh hb hg ho hq
      hdead hu hblock hhead
    rw [← hrun] at hans
    obtain ⟨hsent, htold, htxn⟩ := hans
    exact ⟨settle_told hsent htold, by rw [← htxn, State.setDev_dev, settle_txn?]⟩
  · intro port txid x s hruns hm hr hx hs hl
    refine ⟨_, onCore_runs hruns _, ?_⟩
    have hrun : plainAnswer port txid 0x23 .ack s.dev = s.dev.answer x port .ack := by
      rw [plainAnswer, if_neg (by rw [hm]; decide), hx]
    have hans := answer_dropped hr hx hs hl (.inl ⟨rfl, rfl⟩)
    rw [hrun]
    simpa [settle_dirEnt] using hans
  · intro port txid x s hruns hm hr hx hs hl
    refine ⟨_, onCore_runs hruns _, ?_⟩
    have hrun : plainAnswer port txid 0x24 (.miss false) s.dev = s.dev.answer x port (.miss false) := by
      rw [plainAnswer, if_neg (by rw [hm]; decide), hx]
    have hans := answer_dropped hr hx hs hl (.inr ⟨rfl, rfl⟩)
    rw [hrun]
    simpa [settle_dirEnt] using hans
  · intro port txid s hruns hm hn hx hdead
    refine ⟨_, onCore_runs hruns _, ?_⟩
    have hrun : plainAnswer port txid 0x23 .ack s.dev = s.dev.protoErr port 0x23 := by
      rw [plainAnswer, if_neg (by rw [hm]; decide), hx]
    obtain ⟨hflag, hcnf, hdir, -⟩ := protoErr_effect hn hdead 0x23
    rw [hrun]
    exact ⟨by simpa using hflag, by simpa using hcnf, by simpa using hdir⟩
  · intro h p s hp hport hl hw hs hres ho hn
    have ha := plain_iff.mp hp
    refine ⟨_, onCore_runs ha.runs _, ?_⟩
    have ho' : (s.dev.spentWb h.port).ownsLine h = true := by rw [spentWb_frame]; exact ho
    have hn' : ∀ x ∈ (s.dev.spentWb h.port).cnf.txns, x.line ≠ lineOf h.addr := by
      intro x hx
      rw [spentWb_frame] at hx
      simpa using (Bool.and_eq_true_iff.mp (List.all_eq_true.mp hn x hx)).1
    obtain ⟨hsent, htold, hdir⟩ := acceptWrBack_effect (spentWb_alone ha _) p hport ho' hn'
    have hrun : wrBack h p s.dev = (s.dev.spentWb h.port).acceptWrBack h p := by
      rw [wrBack_alone ha p hl hw hs hres, Dev.landWrBack, if_pos ho']
    have hquiet := spentWb_quiet s.dev h.port
    rw [hrun]
    exact ⟨settle_told (hquiet.sent.trans hsent) (hquiet.grow.told_before hsent htold), by simpa [settle_dirEnt] using hdir⟩
  · intro h p s hp hport hl hw hs hres ho
    have ha := plain_iff.mp hp
    refine ⟨_, onCore_runs ha.runs _, ?_⟩
    have ho' : ¬ (s.dev.spentWb h.port).ownsLine h = true := by
      rw [spentWb_frame]
      show ¬ s.dev.ownsLine h = true
      rw [ho]
      decide
    obtain ⟨hsent, htold, hflag, hwbf, hdir, hstore, hhdc⟩ := strayWrBack_effect (spentWb_alone ha h.port) hport
    have hrun : wrBack h p s.dev = (s.dev.spentWb h.port).strayWrBack h := by
      rw [wrBack_alone ha p hl hw hs hres, Dev.landWrBack, if_neg ho']
    have hquiet := spentWb_quiet s.dev h.port
    obtain ⟨hw', hd', hs', hh'⟩ := spentWb_caches s.dev h.port
    rw [hrun]
    exact ⟨settle_told (hquiet.sent.trans hsent) (hquiet.grow.told_before hsent htold), by simpa using hflag,
      by simpa [hw'] using hwbf, by simpa [hd'] using hdir, by simpa [hs'] using hstore, by simpa [hh'] using hhdc⟩
  · intro h p s hruns hm hport hl hdead
    refine ⟨_, onCore_runs hruns _, ?_⟩
    have hrun : wrBack h p s.dev = s.dev.protoErr h.port 0x0A := by
      rw [wrBack, if_neg (by rw [hm]; decide), if_pos hl]
    obtain ⟨hflag, -, hdir, hwbf⟩ := protoErr_effect hport hdead 0x0A
    rw [hrun]
    exact ⟨by simpa using hflag, by simpa using hwbf, by simpa using hdir⟩

end Sys2Proof.Machine
end

section
/-! THEOREM. The mirror stream (R210 to R216). -/

namespace Sys2Proof.Machine

set_option Elab.async false

/-! ## What settling and sending leave of the stream -/

/-- Without items to send, settling leaves the state of the pair. -/
theorem settle_twn_empty {d : Dev} (h : d.twn.items = []) : (settle d).twn = d.twn := by
  have hvec : ∀ (c v : Nat) (x : Dev), (Dev.settleVec c x v).twn = x.twn := fun c v x => by
    unfold Dev.settleVec Dev.sendMsix
    dsimp only
    repeat' split
    all_goals rfl
  have hfold : ∀ (c : Nat) (l : List Nat) (x : Dev), (l.foldl (Dev.settleVec c) x).twn = x.twn := by
    intro c l
    induction l with
    | nil => exact fun _ => rfl
    | cons v l ih => exact fun x => (ih _).trans (hvec c v x)
  have hflush : d.flushTwin = d := if_pos (by rw [h]; rfl)
  unfold settle
  rw [hflush]
  dsimp only
  split
  · rfl
  · exact hfold ..

theorem idleRest_tw_rel (k : Nat) (d : Dev) : SettleRel d (Dev.idleRest twPort k d) := by
  induction k generalizing d with
  | zero => exact .refl d
  | succ k ih =>
    unfold Dev.idleRest
    split
    · exact .refl d
    · exact (idleFlit_tw_rel d).trans (ih _)

/-- The flits that return what the TW port owes leave all that settling leaves. -/
theorem idleOut_tw_rel (d : Dev) : SettleRel d (d.idleOut twPort) := by
  unfold Dev.idleOut
  split
  · exact (idleFlit_tw_rel d).trans (idleRest_tw_rel ..)
  · exact .refl d

theorem idleOut_twn (d : Dev) (n : Nat) : (d.idleOut n).twn = d.twn := by
  rw [(idleOut_send d n).twn, (idleOut_quiet d n).held]

theorem pumpList_held (n : Nat) (l : List Msg) (blocked : List (Option Nat)) (d : Dev) (keep : List Msg) :
    (Dev.pumpList n l blocked d keep).twn.held = d.twn.held := by
  induction l generalizing blocked d keep with
  | nil =>
    unfold Dev.pumpList
    rw [setPort_frame]
  | cons m l ih =>
    unfold Dev.pumpList
    split
    · rw [ih]
      obtain ⟨x, hdx, hx⟩ := sendNow_quiet d n m
      exact hx.held.trans hdx.held
    · exact ih ..

/-- What a port sends leaves the state of the pair. -/
theorem txPush_twn (d : Dev) (n : Nat) (m : Msg) : (d.txPush n m).twn = d.twn := by
  have hheld : (d.txPush n m).twn.held = d.twn.held := by
    unfold Dev.txPush Dev.pump
    dsimp only
    rw [(idleWhenFull_quiet _ n).held, pumpList_held, (flushLate_quiet _ n).held, setPort_frame]
  rw [(txPush_send d n m).twn, hheld]

theorem sendAll_twn (l : List (Nat × Nat × Msg)) (d : Dev) : (d.sendAll l).twn = d.twn := by
  induction l generalizing d with
  | nil => rfl
  | cons x l ih => exact (ih _).trans (txPush_twn ..)

theorem sendAll_send (l : List (Nat × Nat × Msg)) (d : Dev) : SendRel d (d.sendAll l) :=
  .foldl (fun d _ => txPush_send d _ _) l d

/-! ## A flit that arrives -/

theorem ackPlaced_rel (d : Dev) (mseq : Nat) :
    (d.ackPlaced mseq).twn.queue = d.twn.queue ∧ (d.ackPlaced mseq).tw.pReq = d.tw.pReq ∧ (d.ackPlaced mseq).cnf = d.cnf ∧
      (d.ackPlaced mseq).dir = d.dir ∧ (d.ackPlaced mseq).store = d.store ∧ d.sent <:+ (d.ackPlaced mseq).sent := by
  unfold Dev.ackPlaced
  split
  · have h := idleOut_tw_rel { d with twn := { d.twn with arriving := d.twn.arriving.erase mseq },
                                      tw := { d.tw with unplaced := d.tw.unplaced - 1 } }
    exact ⟨h.twn_queue, h.tw_pReq, h.cnf, h.dir, h.store, h.sent⟩
  · exact ⟨rfl, rfl, rfl, rfl, rfl, List.suffix_refl _⟩

/-- The device with a flit that arrived at the end of the apply queue. -/
def Dev.queuedFlit (d : Dev) (mseq : Nat) (items : List Item) : Dev :=
  { d with twn := { d.twn with queue := d.twn.queue ++ [(mseq, items)] },
           tw := { d.tw with pReq := d.tw.pReq - flitCost items } }

/-! ## A flit that is applied -/

theorem noteLive_kept (d : Dev) (copy : Bool) (line id : Option Nat) :
    ∃ l t, d.noteLive copy line id = { d with twn := { d.twn with liveLines := l, liveTxns := t } } := by
  unfold Dev.noteLive
  split
  · exact ⟨_, _, rfl⟩
  · exact ⟨_, _, rfl⟩

/-- A flit of one live item is applied: the item takes effect, and MSEQ is the flit's. -/
theorem applyFlit_one {d x : Dev} {i : Item} {copy : Bool} {line id : Option Nat} (n : Nat) (hc : isCopy [i] = false)
    (hx : Dev.applyItem false d i = x.noteLive copy line id) :
    (d.applyFlit (n, [i])).twn.queue = x.twn.queue ∧ (d.applyFlit (n, [i])).twn.mseq = n ∧
      (d.applyFlit (n, [i])).twn.items = x.twn.items ∧ (d.applyFlit (n, [i])).dir = x.dir ∧
      (d.applyFlit (n, [i])).cnf = x.cnf := by
  obtain ⟨l, t, hl⟩ := noteLive_kept x copy line id
  unfold Dev.applyFlit
  dsimp only
  rw [hc, List.foldl_cons, List.foldl_nil, hx, hl]
  have hrel := idleOut_tw_rel { x with
    twn := { x.twn with liveLines := l, liveTxns := t, mseq := n },
    tw := { x.tw with pReq := x.tw.pReq + flitCost [i], outReq := x.tw.outReq + flitCost [i] } }
  rw [idleOut_twn]
  exact ⟨rfl, rfl, rfl, hrel.dir, hrel.cnf⟩

/-- The first flit of the queue is applied. -/
theorem mirrorApply_one {d x : Dev} {i : Item} {copy : Bool} {line id : Option Nat} {n : Nat} {l : List (Nat × List Item)}
    (hm : d.twn.mirror = true) (hi : d.twn.items = []) (hq : d.twn.queue = (n, [i]) :: l) (hc : isCopy [i] = false)
    (hx : Dev.applyItem false { d with twn := { d.twn with queue := l } } i = x.noteLive copy line id)
    (hxq : x.twn.queue = l) (hxi : x.twn.items = d.twn.items) :
    (settle (mirrorApply d)).twn.queue = l ∧ (settle (mirrorApply d)).twn.mseq = n ∧ (settle (mirrorApply d)).dir = x.dir ∧
      (settle (mirrorApply d)).cnf = x.cnf := by
  have hrun : mirrorApply d = ({ d with twn := { d.twn with queue := l } } : Dev).applyFlit (n, [i]) := by
    rw [mirrorApply, hq]
    exact if_pos hm
  obtain ⟨hqueue, hmseq, hitems, hdir, hcnf⟩ := applyFlit_one n hc hx
  rw [hrun, settle_twn_empty (by rw [hitems, hxi, hi])]
  exact ⟨hqueue.trans hxq, hmseq, by simpa using hdir, by simpa using hcnf⟩

/-! ## The acknowledgement of the last flit -/

/-- With nothing else waiting, the acknowledgement of the last flit frees what is held (R211). -/
theorem mirrorAck_last {d : Dev} {mseq : Nat} (hm : d.mirrors = true) (hi : d.twn.items = []) (hu : d.twn.unacked = [mseq])
    (hc : d.twn.copyUn = []) (hs : d.twn.st = .mirrored) (hd : d.dep.table = []) (hw : d.twn.dirtyWait = []) :
    (settle (mirrorAck mseq d)).twn.unacked = [] ∧ (settle (mirrorAck mseq d)).twn.held = [] := by
  generalize hfree : { d with twn := { d.twn with unacked := [], held := [], dirtyWait := [] } } = x
  have hitems : x.twn.items = [] := by rw [← hfree]; exact hi
  obtain ⟨l, hl⟩ : ∃ l, mirrorAck mseq d = x.sendAll l := by
    refine ⟨d.twn.held, ?_⟩
    have hdeps : ∀ p, (x.sendAll d.twn.held).mirroredDeps p = x.sendAll d.twn.held := fun p => by
      rw [Dev.mirroredDeps, (sendAll_send _ x).dep, ← hfree]
      simp [hd]
    rw [mirrorAck, if_neg (by rw [hm]; decide), if_neg (by simp [hc]), if_neg (by simp [hu])]
    have hdue : Dev.ackedUpTo { d with twn := { d.twn with unacked := [] } } (fun k => !([] : List Nat).contains k) =
        x.sendAll d.twn.held := by
      have hold : ({ d with
          twn := { d.twn with unacked := [], held := d.twn.held.filter fun _ => false, dirtyWait := [] } } : Dev) = x := by
        rw [← hfree, List.filter_false]
      simpa [Dev.ackedUpTo, hw, hdeps, ← hfree] using hdeps fun _ => true
    simp only [hu, List.erase_cons_head]
    rw [hdue, Dev.copyPump, if_pos]
    rw [sendAll_twn, ← hfree]
    simp [hs]
  rw [hl, settle_twn_empty (by rw [sendAll_twn]; exact hitems), sendAll_twn, ← hfree]
  exact ⟨rfl, rfl⟩

/-! ## A dirty answer waits for its copy -/

theorem awaitCopy_effect (d : Dev) (t : Txn) (port : Nat) (rst : LState) (p : Payload) :
    (d.awaitCopy t port rst p).twn.dirtyWait.map (fun e => (e.1, e.2.1, e.2.2.2)) =
      d.twn.dirtyWait.map (fun e => (e.1, e.2.1, e.2.2.2)) ++ [(t.id, port, rst, p)] ∧ (d.awaitCopy t port rst p).cnf = d.cnf := by
  unfold Dev.awaitCopy
  dsimp only
  cases Config.mirrorLinkDown d.free with
  | false => simp
  | true =>
    rw [if_pos rfl, if_pos rfl, mirror_frame]
    simp

/-- Settles O41: flits of the mirror stream are queued and acknowledged, and applied in their order; what waits for them goes on when
they are acknowledged, and dirty answers wait for their copies. -/
theorem mirrorStream : Obligations.MirrorStream := by
  unfold Obligations.MirrorStream
  refine ⟨?_, ?_, ?_, ?_, ?_, ?_⟩
  · intro mseq items s hr hon ht hm hs hc hf
    refine ⟨_, onCore_runs hr _, ?_⟩
    have hrun : mirrorFlit mseq items s.dev = ((s.dev.queuedFlit mseq items).emit (.twinAck mseq)).ackPlaced mseq := by
      simp [mirrorFlit, Dev.queuedFlit, hon, ht, hc, hm, hs, hf]
    obtain ⟨hqueue, hcred, hcnf, hdir, hstore, hsent⟩ := ackPlaced_rel ((s.dev.queuedFlit mseq items).emit (.twinAck mseq)) mseq
    have hfirst : s.dev.sent <:+ ((s.dev.queuedFlit mseq items).emit (.twinAck mseq)).sent := List.suffix_cons _ _
    have hdrove : ((s.dev.queuedFlit mseq items).emit (.twinAck mseq)).drove s.dev (.twinAck mseq) :=
      drove_emit (s.dev.queuedFlit ..) _
    rw [hrun]
    refine ⟨?_, ?_, drove_settle (drove_mono hdrove hfirst hsent) (hfirst.trans hsent), ?_, ?_, ?_⟩
    · exact (settle_twn_queue _).trans hqueue
    · exact (settle_tw_pReq _).trans hcred
    · exact (settle_cnf _).trans hcnf
    · exact (settle_dir _).trans hdir
    · exact (settle_store _).trans hstore
  · intro n e l s hr hm hi hq
    refine ⟨_, onCore_runs hr _, ?_⟩
    have hput : ∀ x : Dev, x.twn.mirror = true → (x.putDir e).twn = x.twn := fun x hx => by
      rw [Dev.putDir, Dev.mirror, if_neg (by simp [Dev.mirrors, hx])]
    obtain ⟨hqueue, hmseq, hdir, -⟩ := mirrorApply_one (copy := false) (line := some e.line) (id := none) hm hi hq rfl rfl
      (by rw [hput _ (by exact hm)]) (by rw [hput _ (by exact hm)])
    refine ⟨hqueue, hmseq, hdir.trans ?_⟩
    rw [Dev.putDir, Dev.putDir, Dev.mirror_dir, Dev.mirror_dir]
    rfl
  · intro n x l s hr hm hi hq
    refine ⟨_, onCore_runs hr _, ?_⟩
    obtain ⟨hqueue, hmseq, -, hcnf⟩ := mirrorApply_one (copy := false) (line := none) (id := some x.id) hm hi hq rfl rfl rfl rfl
    exact ⟨hqueue, hmseq, congrArg Cnf.txns hcnf⟩
  · intro mseq s hr hm hi hu hc hs hd hw
    exact ⟨_, onCore_runs hr _, mirrorAck_last hm hi hu hc hs hd hw⟩
  · intro txid port x s hr hm hw hx
    refine ⟨_, onCore_runs hr _, ?_⟩
    have hrun : dirtyCopyReport txid port s.dev =
        { s.dev with twn := { s.dev.twn with reported := s.dev.twn.reported ++ [(txid, port)] } } := by
      rw [dirtyCopyReport, hw, hx]
      exact if_pos hm
    rw [hrun]
    simp
  · intro txid port dty rst p x s hr hm hx hrep hdty
    refine ⟨_, onCore_runs hr _, ?_⟩
    have hmir : s.dev.twn.mirror = false := by
      simp only [Dev.mirrors, Bool.and_eq_true, Bool.not_eq_true'] at hm
      exact hm.1
    have hrun : snpData port txid dty rst p s.dev = s.dev.awaitCopy x port rst p := by
      rw [snpData, if_neg (by rw [hmir]; decide), hx]
      exact if_pos (by simp [hdty, hm, hrep])
    rw [hrun]
    obtain ⟨hwait, hcnf⟩ := awaitCopy_effect s.dev x port rst p
    rw [(awaiting_txn hx).2] at hwait
    exact ⟨(congrArg _ (settle_twn_dirtyWait _)).trans hwait, (settle_cnf _).trans hcnf⟩

end Sys2Proof.Machine
end

section
/-! THEOREM. A lost port and the halt of a channel (R349, R373, R374). -/

namespace Sys2Proof.Machine

set_option Elab.async false

/-- The requester whose word of ECC_CHAN_HALTn would stand where AP00_CTRL stands. -/
def strayRequester : Nat := 97217

theorem strayRequester_halt : (R.ECC_CHAN_HALTn.HALT strayRequester).ofs = (portEN 0).ofs := by decide

/-- A device in Train whose port 0 is enabled and has kept its link, and that awaits an answer of that port for a read of the stray
requester whose data are Poison. -/
def strayDev : Dev :=
  { cacheDev with
    gcr := { cacheDev.gcr with mode := .train }
    regs := [((portEN 0).ofs, 1)]
    ports := { keep := true } :: List.replicate 31 {}
    cnf := { txns := [{ id := 1, kind := .rdOnce, org := .agent strayRequester, line := 0, phase := .snooping,
                        await := [(0, .own)], got := some ⟨0, true⟩ }] } }

/-- The answer supplied for the lost port ends the read, whose requester's channel is halted: the port counts as enabled again. -/
theorem strayDev_enabled : (linkLost 0 strayDev).flag (portEN 0) = true := by decide +kernel

/-- Refutes O51 in its ninth clause: no premise bounds the ports of the open requests. The loss of port 0 supplies the answer that a
read waits for, its Poison halts the channel of its requester, and that channel's bit may be AP00_CTRL.EN, which then reads 1. -/
theorem not_linkCommands : ¬ Obligations.LinkCommands := by
  unfold Obligations.LinkCommands
  rintro ⟨-, -, -, -, -, -, -, -, hlost, -⟩
  obtain ⟨t, hrun, -, -, -, -, hen⟩ := hlost 0 { dev := strayDev } (by decide +kernel) (by decide) (by decide +kernel) rfl (by decide)
    (by decide +kernel) (by decide +kernel)
  rw [exec_lost, onCore_runs (by decide +kernel)] at hrun
  obtain rfl := Host.Outcome.next.inj hrun
  rw [State.setDev_dev, settle_flag] at hen
  exact Bool.false_ne_true (hen.symm.trans strayDev_enabled)

end Sys2Proof.Machine
end

section
/-! SUPPORT. What releases, the flits of the mirror stream and the copy of a join are moves of. -/

namespace Sys2Proof.Machine

set_option Elab.async false

/-! ## What a release sends of a port's queue -/

theorem sendOff_quiet (d : Dev) (n : Nat) (m : Msg) : ∃ x, QuietSend d x ∧ QuietSend (x.emit (.msg n m)) (d.sendOff n m) := by
  have hport : ∀ k, QuietSend d (d.setPort n { (d.port n).take (msgClass m) with cWb := k }) := fun k =>
    setPort_quiet (take_txq ..)
  refine ⟨_, (hport (if needsWb m then (d.port n).cWb - 1 else (d.port n).cWb)).trans (withMessage_quiet _ n m), ?_⟩
  have hsnp : ∀ e : Dev, QuietSend e (if msgClass m = some 1 then (e.pmu1 (0x100 + 8 * n + 3)).pmu1 0x019 else e) := by
    intro e
    split
    · exact (pmu1_quiet ..).trans (pmu1_quiet ..)
    · exact .refl e
  unfold Dev.sendOff
  dsimp only
  exact ((pmu1_quiet ..).trans (hsnp _)).trans (trace_quiet ..)

/-- A message driven between quiet steps counts one copy more. -/
theorem driven_copies {d x e : Dev} {n : Nat} {y : Msg} (hx : QuietSend d x) (he : QuietSend (x.emit (.msg n y)) e) (m : Msg) :
    copiesIn [y] m + d.copiesElse n m ≤ e.copiesElse n m := by
  have hd := hx.copiesElse n m
  have hlast := he.copiesElse n m
  have hone : copiesIn [y] m + x.copiesElse n m ≤ (x.emit (.msg n y)).copiesElse n m := by
    rw [copiesIn, Dev.copiesElse, Dev.copiesElse, Dev.emit_sent, Dev.emit_twn]
    by_cases hym : y = m
    · subst hym
      simp
      omega
    · have hne : ¬ (y == m) = true := by simpa using hym
      have hout : ¬ (Out.msg n y == Out.msg n m) = true := by simpa using hym
      rw [List.filter_cons_of_neg (by simpa using hne), List.filter_cons_of_neg (by simpa using hout)]
      simp
  omega

theorem slotsBetween_copies {n : Nat} (l : List Msg) (k : Nat) (blocked : List (Option Nat)) (s : List DepSlot) (d : Dev)
    (keep : List Msg) (hn : n = twPort ∨ n < d.ports.length) (m : Msg) :
    copiesIn keep m + copiesIn l m + d.copiesElse n m ≤ (Dev.slotsBetween n k l blocked s d keep).2.copies n m ∧
    (∀ k', k' ≠ n → d.copies k' m ≤ (Dev.slotsBetween n k l blocked s d keep).2.copies k' m) ∧
    d.sent <:+ (Dev.slotsBetween n k l blocked s d keep).2.sent := by
  induction l generalizing k blocked s d keep with
  | nil =>
    refine ⟨?_, fun k' hk => (setPort_copies_ne d hk _ m).ge, by rw [Dev.slotsBetween, setPort_frame]⟩
    rw [copies_eq, Dev.slotsBetween, port_setPort_same hn, Dev.copiesElse, Dev.copiesElse, setPort_frame]
    exact Nat.le_refl _
  | cons y l ih =>
    have hcons : copiesIn (y :: l) m = copiesIn [y] m + copiesIn l m := copiesIn_append [y] l m
    unfold Dev.slotsBetween
    split
    · obtain ⟨x, hx, hy⟩ := sendOff_quiet d n y
      have hall := (hx.trans (emit_quiet x (.msg n y))).trans hy
      obtain ⟨hsame, hother, hsent⟩ := ih (k - 1) blocked (s ++ (msgSlots (d.linkWidx n) y).map (fun x => ⟨x, false, none⟩))
        (d.sendOff n y) keep (by rwa [hall.ports])
      have hone := driven_copies hx hy m
      exact ⟨by omega, fun k' hk => (hall.grow.copies k' m).trans (hother k' hk), hall.sent.trans hsent⟩
    · obtain ⟨hsame, hother, hsent⟩ := ih k (msgClass y :: blocked) s d (keep ++ [y]) hn
      rw [copiesIn_append] at hsame
      exact ⟨by omega, hother, hsent⟩

theorem slotsBetween_grow (d : Dev) (n k : Nat) (s : List DepSlot) :
    CopiesGrow d (Dev.slotsBetween n k (d.port n).txq [] s d []).2 := by
  by_cases hn : n = twPort ∨ n < d.ports.length
  · refine ⟨(slotsBetween_copies (d.port n).txq k [] s d [] hn (.depAck 0 0)).2.2, fun q m => ?_⟩
    obtain ⟨hsame, hother, -⟩ := slotsBetween_copies (d.port n).txq k [] s d [] hn m
    by_cases hq : q = n
    · subst hq
      rw [copies_eq d]
      exact le_trans (by simp [copiesIn]) hsame
    · exact hother q hq
  · rw [port_none hn]
    exact (setPort_quiet (by rw [port_none hn])).grow

variable {F : Part → Prop} {base d : Dev}

/-! ## Releases -/

theorem Moves.dropDep (h : Moves F base d) (e : Dep) : Moves F base (d.dropDep e) := by
  have hwork : ∀ t : Txn, SameWork t (orphanRead e.idx t) := fun t => by
    unfold orphanRead
    split <;> exact ⟨rfl, rfl⟩
  have hmap := h.setTxns (d.cnf.txns.map (orphanRead e.idx)) fun t ht => ?_
  · exact (hmap.setDeps _).pumpDep _
  obtain ⟨u, hu, rfl⟩ := List.mem_map.mp ht
  exact (h.known u hu).of_work (hwork u)

theorem Moves.recordDep (h : Moves F base d) (e : Dep) (o : DepOut) : Moves F base (d.recordDep e o) :=
  (((h.push _ _).dropDep _).mirror _).dep _

theorem Moves.depFlit (h : Moves F base d) (n : Nat) (l : List DepSlot) : Moves F base (Dev.depFlit n d l) :=
  ((h.dataOut _ _ _).pmu1 _ _).pmu1 _ _

theorem Moves.slotsBetween {c : Dev} (hc : Moves F base c) (h : Moves F base d) (n k : Nat) (l : List Msg)
    (blocked : List (Option Nat)) (s : List DepSlot) (keep : List Msg)
    (hg : CopiesGrow c (Dev.slotsBetween n k l blocked s d keep).2) :
    Moves F base (Dev.slotsBetween n k l blocked s d keep).2 := by
  induction l generalizing k blocked s d keep with
  | nil => exact hc.portSent h n _ hg
  | cons m l ih =>
    unfold Dev.slotsBetween at hg ⊢
    split
    · next hm =>
      rw [if_pos hm] at hg
      exact ih (h.sendOff n m) _ _ _ _ hg
    · next hm =>
      rw [if_neg hm] at hg
      exact ih h _ _ _ _ hg

theorem Moves.sendLines (h : Moves F base d) (n : Nat) (e : Dep) (l : List Boarded) : Moves F base (d.sendLines n e l) :=
  h.foldl _ (fun _ _ h => h.emit _)

theorem Moves.startOn (h : Moves F base d) (e : Dep) (n : Nat) : Moves F base (d.startOn e n).2 := by
  have hnote : Moves F base (if e.started.isEmpty then d.mirror (.released e.idx) else d) := .ite (h.mirror _) h
  have hport : ∀ x : Dev, (x.emit (.msg n (.depRel e e.flagLate))).port n = x.port n := fun _ => rfl
  have hout := hnote.emit (.msg n (.depRel e e.flagLate))
  unfold Dev.startOn
  dsimp only
  have hslots := hout.slotsBetween hout n 6 _ [] [] [] (slotsBetween_grow _ n 6 [])
  rw [hport] at hslots
  exact ((((hslots.setPort n _).depFlit _ _).pmu1 _ _).trace _ _ _ _ _ _ _).sendLines _ _ _

theorem Moves.dropCopy (h : Moves F base d) (e : Dep) (n : Nat) : Moves F base (d.dropCopy e n).2 := by
  unfold Dev.dropCopy
  dsimp only
  exact (h.report _ _ _ _ _).bumpSat _ _

theorem Moves.closeDep (h : Moves F base d) (e : Dep) : Moves F base (d.closeDep e) :=
  .ite (h.recordDep _ _) h

theorem Moves.startChain (h : Moves F base d) (n k : Nat) : Moves F base (Dev.startChain n k d) := by
  induction k generalizing d with
  | zero => exact h
  | succ k ih =>
    unfold Dev.startChain
    split
    · next e _ =>
      dsimp only
      split
      · exact ih (((h.dropCopy e n).putDep _).closeDep _)
      · exact (h.startOn e n).putDep _
    · exact h

theorem Moves.startNext (h : Moves F base d) (n : Nat) : Moves F base (d.startNext n) :=
  h.startChain _ _

theorem Moves.dropReleases (h : Moves F base d) (n : Nat) : Moves F base (d.dropReleases n) := by
  unfold Dev.dropReleases
  split
  · exact (((h.dropCopy _ _).putDep _).closeDep _).startNext _
  · exact h

theorem Moves.missDep (h : Moves F base d) (e : Dep) : Moves F base (d.missDep e) :=
  .ite (((h.raise _).bumpSat _ _).recordDep _ _) ((h.putDep _).pumpDep _)

/-! ## The mirror stream -/

theorem Moves.pumpTwin (h : Moves F base d) (l : List (Nat × List Item)) : Moves F base (Dev.pumpTwin l d) := by
  induction l generalizing d with
  | nil => exact h.twn _
  | cons f l ih =>
    unfold Dev.pumpTwin
    split
    · have hspent := (h.tw { d.tw with cReq := d.tw.cReq - flitCost f.2 }).twn
        { d.twn with after := d.twn.after + flitCost f.2 }
      have hdraw := (hspent.pmu1 0x026 1).free (d.free + (shownItems f.2).length)
      exact ih ((hdraw.emit (.twin f.1 f.2)).dataOut twPort (flitSlots (flitImage (shownItems f.2) d.free)) (f.1 * 2 ^ 64))
    · exact h.twn _

theorem Moves.twIdle (h : Moves F base d) : Moves F base d.twIdle :=
  .ite (h.idleFlit _) h

theorem Moves.pumpTw (h : Moves F base d) : Moves F base d.pumpTw :=
  .ite h ((h.pumpTwin _).twIdle)

theorem Moves.queueFlit (h : Moves F base d) (l : List Item) : Moves F base (d.queueFlit l) :=
  h.twn _

/-- A serving side adds to its stream. -/
theorem Moves.liveFlit (h : Moves F base d) (hs : Twn.serving d.twn) (l : List Item) : Moves F base (d.liveFlit l) :=
  (h.twn { d.twn with unacked := d.twn.unacked ++ [d.nextMseq] }
    ⟨rfl, rfl, rfl, rfl, rfl, rfl, rfl, rfl, rfl, rfl, rfl, rfl, .inl hs⟩).queueFlit _

theorem Moves.liveFlits (h : Moves F base d) (hs : Twn.serving d.twn) (l : List (List Item)) :
    Moves F base (l.foldl Dev.liveFlit d) := by
  induction l generalizing d with
  | nil => exact h
  | cons i l ih => exact ih (h.liveFlit hs i) hs

theorem Moves.flushTwin (h : Moves F base d) (hs : Twn.serving d.twn) : Moves F base d.flushTwin :=
  .ite h ((Moves.liveFlits (h.twn { d.twn with items := [] }
    ⟨rfl, rfl, rfl, rfl, rfl, rfl, rfl, rfl, rfl, rfl, rfl, rfl, .inl hs⟩) hs _).pumpTw)

theorem Moves.passHeader (h : Moves F base d) (set : Nat) : Moves F base (d.passHeader set).2 := by
  unfold Dev.passHeader
  split
  · exact h
  · exact h
  · exact (h.driveRd _ _).readHeader _ _

theorem Moves.keepHeader (hd : Moves F base d) (set : Nat) (h : Header) : Moves F base (d.keepHeader set h) :=
  .ite (hd.putHeader _ _) (hd.writeHeader _)

theorem Moves.dropMirrored (h : Moves F base d) (line : Nat) : Moves F base (d.dropMirrored line) := by
  unfold Dev.dropMirrored
  refine .ite (h.twn _) ?_
  have hpass := (h.twn { d.twn with cleaned := d.twn.cleaned.filter (· != line), lines := bankErase d.twn.lines line }).passHeader
    (d.setOf line)
  dsimp only
  split
  · next heq =>
    have hpass := hpass.snd heq
    split
    · exact hpass.keepHeader _ _
    · exact hpass
  · next heq => exact hpass.snd heq

/-! ## The SDR clear -/

theorem Moves.sdrClearOne (h : Moves F base d) : Moves F base d.sdrClearOne.2 := by
  unfold Dev.sdrClearOne
  dsimp only
  refine .iteSnd ?_ ?_
  · exact h
  · refine .iteSnd ?_ ?_
    · exact (h.sdr _).mirror _
    · refine .iteSnd ?_ ?_
      · dsimp only
        exact ((h.sdr _).mirror _).report _ _ _ _ _ (.inr (steady_wrLost _))
      · refine .iteSnd ?_ ?_
        · dsimp only
          exact (((h.sdr _).mirror _).sdr _).memWrite _ _ _
        · exact h

theorem Moves.sdrClear (h : Moves F base d) (n : Nat) : Moves F base (Dev.sdrClear n d) := by
  induction n generalizing d with
  | zero => exact h
  | succ n ih =>
    unfold Dev.sdrClear
    exact .ite h (.ite (ih h.sdrClearOne) h.sdrClearOne)

theorem Moves.sdrPump (h : Moves F base d) : Moves F base d.sdrPump :=
  .ite h (h.sdrClear _)

/-! ## The copy of a join -/

theorem Moves.sendCopy (h : Moves F base d) (l : List Item) : Moves F base (d.sendCopy l) :=
  (((h.twn _).queueFlit _).pumpTw).twn _

theorem Moves.copyDirtyLine (h : Moves F base d) (line : Nat) : Moves F base (d.copyDirtyLine line).2 := by
  unfold Dev.copyDirtyLine
  dsimp only
  split
  · refine .iteSnd ?_ ?_
    · exact (h.passHeader _).readWay _ _ _
    · exact h.passHeader _
  · exact h.passHeader _

theorem Moves.jobItem (h : Moves F base d) (j : CopyJob) : Moves F base (d.jobItem j).2 := by
  cases j
  case dirty line => exact h.copyDirtyLine line
  case header set => exact h.passHeader set
  all_goals exact h

theorem Moves.runJobs (h : Moves F base d) (l : List CopyJob) : Moves F base (Dev.runJobs l d) := by
  induction l generalizing d with
  | nil => exact h.twn _
  | cons j l ih =>
    have hitem := h.jobItem j
    unfold Dev.runJobs
    split
    · next heq => cases heq
    · exact (h.twn _).sendCopy _
    · next heq =>
      obtain ⟨rfl, rfl⟩ := List.cons.inj heq
      split
      · next he => exact ((hitem.snd he).twn _).sendCopy _
      · next he => exact ih (hitem.snd he)

theorem Moves.copyAt (h : Moves F base d) (phase cur : Nat) : Moves F base (d.copyAt phase cur) :=
  h.twn _

theorem Moves.copyStep (h : Moves F base d) (phase cur : Nat) (l : List CopyJob) : Moves F base (d.copyStep phase cur l) :=
  (h.copyAt _ _).twn _

theorem Moves.copyMemory (h : Moves F base d) : Moves F base d.copyMemory :=
  .ite (h.copyStep _ _ _) (.ite h ((h.twn _).foldl _ (fun _ _ h => h.memRead _)))

theorem Moves.copyTables (h : Moves F base d) : Moves F base d.copyTables :=
  h.copyStep _ _ _

theorem Moves.copyBuffer (h : Moves F base d) : Moves F base d.copyBuffer :=
  h.copyStep _ _ _

theorem Moves.copySets (h : Moves F base d) : Moves F base d.copySets := by
  unfold Dev.copySets
  split
  · exact h.copyBuffer
  · split
    · next heq => exact ((h.passHeader _).snd heq).copyAt _ _
    · next heq => exact ((h.passHeader _).snd heq).copyStep _ _ _

theorem Moves.copySdr (h : Moves F base d) : Moves F base d.copySdr := by
  unfold Dev.copySdr
  split
  · exact h.copyAt _ _
  · exact h.copyStep _ _ _

theorem Moves.copyDir (h : Moves F base d) : Moves F base d.copyDir := by
  unfold Dev.copyDir
  split
  · exact (h.copyAt _ _).copySdr
  · exact h.copyStep _ _ _

theorem Moves.copyNext (h : Moves F base d) : Moves F base d.copyNext := by
  unfold Dev.copyNext
  split
  · exact h.copyDir
  · exact h.copySets
  · exact h.copyTables
  · exact h.copyMemory
  · exact h

theorem Moves.chunkOver (h : Moves F base d) : Moves F base d.chunkOver :=
  .ite (((h.twn _).wbKick).sdrPump) h

theorem Moves.copyGo (h : Moves F base d) (n : Nat) : Moves F base (Dev.copyGo n d) := by
  induction n generalizing d with
  | zero => exact h
  | succ n ih =>
    unfold Dev.copyGo
    exact .ite h.chunkOver (.ite (ih h.chunkOver.copyNext) (ih (h.chunkOver.runJobs _)))

theorem Moves.copyPump (h : Moves F base d) : Moves F base d.copyPump := by
  unfold Dev.copyPump
  split
  · exact h
  · next hc =>
    simp only [ne_eq, Bool.or_eq_true, decide_eq_true_eq, not_or, not_not, Bool.not_eq_true] at hc
    exact (h.flushTwin ⟨hc.2, .inr hc.1⟩).copyGo 8

theorem Moves.endCopy (h : Moves F base d) : Moves F base d.endCopy :=
  ((h.twn _).wbKick).sdrPump

end Sys2Proof.Machine
end

section
/-! SUPPORT. What the mirror side applies, and what leaving a pair and taking over do, are moves of. -/

namespace Sys2Proof.Machine

set_option Elab.async false

variable {F : Part → Prop} {base d : Dev}

/-! ## Leaving a pair -/

theorem Moves.sendAll (h : Moves F base d) (l : List (Nat × Nat × Msg)) : Moves F base (d.sendAll l) :=
  h.foldl _ (fun _ _ h => h.txPush _ _)

theorem Moves.mirroredDeps (h : Moves F base d) (p : Nat → Bool) : Moves F base (d.mirroredDeps p) :=
  h.foldl _ (fun _ _ h => (h.putDep _).stagedNow _)

theorem Moves.useWaiting (h : Moves F base d) (e : Nat × Nat × Option Nat × LState × Payload)
    (hg : ∀ l, F (.grants l) := by first | assumption | exact fun _ => trivial) : Moves F base (d.useWaiting e) := by
  unfold Dev.useWaiting
  split
  · exact h.answer _ _ _ (hg _)
  · exact h

/-! ## Items that are applied -/

theorem Moves.adoptLine (h : Moves F base d) (set w tag n : Nat) : Moves F base (Dev.adoptLine set w tag d n) := by
  unfold Dev.adoptLine
  split
  · exact h.laneWrite _ _ _ _
  · exact h

theorem Moves.zeroHeader (h : Moves F base d) (set : Nat) : Moves F base (d.zeroHeader set) :=
  ((h.laneWrite _ _ _ _).setHdc _).twn _

theorem Moves.applyHeader (hd : Moves F base d) (set : Nat) (h : Header) (replace copy : Bool) :
    Moves F base (d.applyHeader set h replace copy) :=
  .ite (hd.zeroHeader _) (.ite hd ((((hd.passHeader _).twn _).keepHeader _ _).foldl _ (fun _ _ h => h.foldl _ (fun _ _ h =>
    h.adoptLine _ _ _ _))))

theorem Moves.applyDirty (h : Moves F base d) (line : Nat) (m : Mask) (p : Payload) : Moves F base (d.applyDirty line m p) := by
  unfold Dev.applyDirty
  dsimp only
  split
  · exact ((h.twn _).passHeader _).adoptLine _ _ _ _
  · exact (h.twn _).passHeader _

theorem Moves.noteLive (h : Moves F base d) (copy : Bool) (line id : Option Nat) : Moves F base (d.noteLive copy line id) :=
  .ite h (h.twn _)

theorem Moves.sdrWritten (h : Moves F base d) (line : Nat) : Moves F base (d.sdrWritten line) :=
  .ite (h.sdr _) h

theorem Moves.keepSdr (h : Moves F base d) (k : Nat) : Moves F base (d.keepSdr k) := by
  unfold Dev.keepSdr
  refine (Moves.ite h ?_).sdrUse _
  dsimp only
  split
  · exact h.sdr _
  · exact h

theorem Moves.mirrorLine (h : Moves F base d) (k : Nat) (out : Option Nat) : Moves F base (d.mirrorLine k out) :=
  (h.sdr _).keepSdr _

theorem Moves.applyStream (h : Moves F base d) (n : Nat) (s : Stream)
    (hs : F .streams := by first | assumption | exact trivial) : Moves F base (d.applyStream n s) :=
  h.putStream _ _

theorem Moves.noteDone (h : Moves F base d) (x : Option DepDone) : Moves F base (d.noteDone x) := by
  cases x with
  | none => exact h
  | some k => exact h.dep _

theorem Moves.applyGone (h : Moves F base d) (id : Nat) : Moves F base (d.applyGone id) :=
  (h.setTxns _ fun t ht => h.known t (List.mem_filter.mp ht).1).dirTidy

theorem Moves.applyItem (h : Moves F base d) (copy : Bool) (i : Item) (hs : F .streams := by first | assumption | exact trivial)
    (hg : ∀ l, F (.grants l) := by first | assumption | exact fun _ => trivial) : Moves F base (Dev.applyItem copy d i) := by
  cases i
  case dir e => exact .ite h ((h.putDir e (.inl (hg _))).noteLive _ _ _)
  case sdr e => exact (h.putSdr e).keepSdr _
  case sdrLine k out => exact h.mirrorLine k out
  case sdrUnknown l => exact h.setUnknown l
  case sdrClear prog done => exact h.sdr _
  case header set x r => exact h.applyHeader set x r copy
  case dirtyLine line m p => exact h.applyDirty line m p
  case clean line => exact h.dropMirrored line
  case txn t =>
    refine .ite h ((h.setTxns _ fun x hx => ?_).noteLive _ _ _)
    rcases List.mem_append.mp hx with hx | hx
    · exact h.known x (List.mem_filter.mp hx).1
    · exact .inl (hg _)
  case txnGone n => exact (h.applyGone n).noteLive copy none (some n)
  case tickets l n => exact h.cnf _
  case holds l => exact h.cnf _
  case log e => exact .ite (h.twn _) (h.logRetired e)
  case dep e => exact h.setDeps _
  case depGone idx k => exact (h.setDeps _).noteDone k
  case depDone k => exact h.dep _
  case depStale l => exact h.dep _
  case boarded idx b => exact h.setDeps _
  case released idx => exact h.setDeps _
  case stream n st => exact h.applyStream n st
  case memWrite line m p => exact ((Moves.ite h (h.sdrWritten line)).wbAdd _ _ _ _ _ _ _ _).wbKick
  case dirtyReport a b => exact h
  case upUse key was is => exact h.hie _ _ _
  case copy n => exact h.twn _

theorem Moves.applyFlit (h : Moves F base d) (f : Nat × List Item) (hs : F .streams := by first | assumption | exact trivial)
    (hg : ∀ l, F (.grants l) := by first | assumption | exact fun _ => trivial) : Moves F base (d.applyFlit f) := by
  have hall := h.foldl f.2 fun _ i h => h.applyItem (isCopy f.2) i
  exact ((hall.twn _).tw _).idleOut _

/-! ## Taking over -/

theorem Moves.restartHolds (h : Moves F base d) : Moves F base d.restartHolds :=
  h.cnf _

theorem Moves.adoptOne (h : Moves F base d) (e : Nat × Mask × Payload) : Moves F base (d.adoptOne e) := by
  unfold Dev.adoptOne
  refine .ite (h.wbPlace _ _ _ _) ?_
  dsimp only
  split
  · exact (h.passHeader _).laneWrite _ _ _ _
  · exact (h.passHeader _).takeDirty _ _

theorem Moves.adoptDirty (h : Moves F base d) : Moves F base d.adoptDirty :=
  (h.twn _).foldl _ (fun _ _ h => h.adoptOne _)

theorem Moves.resnoop (h : Moves F base d) (id : Nat) (hg : ∀ l, F (.grants l) := by first | assumption | exact fun _ => trivial) :
    Moves F base (d.resnoop id) := by
  unfold Dev.resnoop
  split
  · exact .ite h ((h.snoopAll _ _).putTxn _ (.inl (hg _)))
  · exact h

/-- The lines that a departure lacks are read again, and those its workers lack are sent again. -/
theorem Moves.boardAgain (h : Moves F base d) (e : Dep)
    (hg : ∀ l, F (.grants l) := by first | assumption | exact fun _ => trivial) :
    Moves F base (e.acks.foldl (fun d (a : Nat × Nat) => match e.boarded.find? (fun b => b.idx == a.2) with
      | some b => Dev.sendDepLine e b d a.1
      | none => d) (if e.phase = .boarding ∧ d.gcr.role ≠ .worker then
        (d.boardReads e).foldl (fun d l => Dev.boardRead e d (l.filter (fun x => !e.has (x - e.line)))) d
      else d)) := by
  refine (Moves.ite (h.foldl _ fun _ _ h => h.boardRead _ _) h).foldl _ fun _ _ h => ?_
  split
  · exact h.sendDepLine _ _ _
  · exact h

theorem Moves.takeDep (h : Moves F base d) (e : Dep) (hg : ∀ l, F (.grants l) := by first | assumption | exact fun _ => trivial) :
    Moves F base (d.takeDep e) := by
  have hagain := h.boardAgain e
  unfold Dev.takeDep
  refine .ite (h.recordDep _ _) (.ite (h.foldl _ fun _ _ h => h.announceTo _ _) ?_)
  dsimp only
  split
  · refine .ite ?_ hagain
    split
    · exact (hagain.missDep _).stagedNow _
    · exact hagain.missDep _
  · exact hagain

theorem Moves.restartStreams (h : Moves F base d) (hs : F .streams := by first | assumption | exact trivial)
    (hg : ∀ l, F (.grants l) := by first | assumption | exact fun _ => trivial) : Moves F base d.restartStreams :=
  (h.apd hs _).pumpStreams

theorem Moves.stopPasses (h : Moves F base d) : Moves F base d.stopPasses := by
  unfold Dev.stopPasses
  dsimp only
  split
  · exact .ite (.ite ((h.pip _).raise _) h) (((Moves.ite ((h.pip _).raise _) h).pip _).setWgReq _ _)
  · exact .ite ((h.pip _).raise _) h

theorem Moves.endUnsent (h : Moves F base d) (t : Txn) : Moves F base (d.endUnsent t) :=
  .ite ((h.retireGrant _).fillPlace _) ((((h.report _ _ _ _ _).giveUpWay _).freeTxn _).fillPlace _)

theorem Moves.endWindow (h : Moves F base d) (l : List Nat) : Moves F base (d.endWindow l) := by
  unfold Dev.endWindow
  refine h.foldl _ (fun _ _ h => ?_)
  split
  · exact h.endUnsent _
  · exact h

end Sys2Proof.Machine
end

section
/-! SUPPORT. What is left by a pair that comes apart: its state, its terms, its events (R218 to R231). -/

namespace Sys2Proof.Machine

set_option Elab.async false

/-- Every part but registers, which keep their events. -/
def Working (p : Part) : Prop := p ≠ .rest ∧ p ≠ .registers

theorem working_rest : ¬ Working .rest := fun h => h.1 rfl

theorem working_registers : ¬ Working .registers := fun h => h.2 rfl

theorem working_grants (l : Nat) : Working (.grants l) := ⟨nofun, nofun⟩

theorem working_streams : Working .streams := ⟨nofun, nofun⟩

/-! ## Serving alone -/

/-- The device at the moment its pair state is ALONE: nothing waits for a mirror side. -/
def Dev.lone (d : Dev) : Dev :=
  { d with twn := { d.twn with held := [], dirtyWait := [], reported := [], unacked := [], items := [], wait := [], lines := [],
                               alone := false, candidate := false, found := false, phase := 0, st := .alone, mirror := false } }

theorem toAlone_moves (d : Dev) : Moves Working d.lone d.toAlone := by
  have hmode : Moves Working d.lone d.lone.remode := Moves.refl.remode
  exact ((((hmode.sendAll d.twn.held).mirroredDeps _).endCopy).foldl d.twn.dirtyWait fun _ _ h =>
    h.useWaiting _ working_grants)

theorem lone_still (d : Dev) : ¬ Twn.serving d.lone.twn := fun h => by
  rcases h.2 with h | h <;> cases h

/-- What a device that goes on ALONE keeps of its terms and events, and what it forgets. -/
theorem toAlone_effect (d : Dev) : d.toAlone.twn.st = .alone ∧ d.toAlone.twn.mirror = false ∧ d.toAlone.twn.held = [] ∧
    d.toAlone.twn.unacked = [] ∧ d.toAlone.twn.items = [] ∧ d.toAlone.twn.epoch = d.twn.epoch ∧
    d.toAlone.twn.window = d.twn.window ∧ d.toAlone.chn = d.chn := by
  have h := toAlone_moves d
  have hterms := h.terms working_rest
  have hchn : d.toAlone.chn = d.lone.chn := h.chn_eq working_rest
  obtain ⟨hun, hit⟩ := h.stream_eq working_rest rfl (lone_still d)
  exact ⟨h.pair working_rest rfl, hterms.mirror, h.held_eq working_rest rfl (lone_still d) nofun, hun, hit, hterms.epoch,
    hterms.window, hchn⟩

theorem toAlone_flag (d : Dev) {f : FieldRef} (ho : f.ofs % 0x1000 = 0xC) (hlow : f.ofs < 0x21010) (hf : f.hi = f.lo)
    (h : d.flag f = true) : d.toAlone.flag f = true :=
  (toAlone_moves d).flag working_rest working_registers ho hlow hf h

/-! ## Out of service -/

theorem enterRecovery_mode {d : Dev} (h : d.gcr.mode ≠ .cold) : d.enterRecovery.gcr.mode = .recovery := by
  unfold Dev.enterRecovery
  split
  · next hm => exact hm.resolve_right h
  · exact toMode_mode d _

theorem enterRecovery_fault {d : Dev} (h : d.gcr.mode ≠ .cold) (hr : d.gcr.mode ≠ .recovery) : d.enterRecovery.gcr.fault = true := by
  unfold Dev.enterRecovery
  rw [if_neg (by simp [h, hr])]
  rfl

theorem enterRecovery_flag (d : Dev) {f : FieldRef} (ho : f.ofs % 0x1000 = 0xC) (hlow : f.ofs < 0x21010) (hf : f.hi = f.lo)
    (h : d.flag f = true) : d.enterRecovery.flag f = true :=
  (Moves.refl (F := Working)).enterRecovery.flag working_rest working_registers ho hlow hf h

theorem enterRecovery_twn (d : Dev) : d.enterRecovery.twn = d.twn := by
  unfold Dev.enterRecovery Dev.toMode
  split
  · rfl
  · split <;> rfl

theorem enterRecovery_port (d : Dev) (n : Nat) : d.enterRecovery.port n = d.port n := by
  unfold Dev.enterRecovery Dev.toMode
  split
  · rfl
  · split <;> rfl

theorem toDetached_effect {d : Dev} (h : d.gcr.mode ≠ .cold) :
    d.toDetached.twn.st = .detached ∧ d.toDetached.gcr.mode = .recovery := by
  unfold Dev.toDetached
  exact ⟨by rw [enterRecovery_twn], enterRecovery_mode h⟩

/-! ## Every link down -/

/-- The ports' link states are as they were. -/
structure SameLinks (d e : Dev) : Prop where
  st : ∀ n, (e.port n).st = (d.port n).st

theorem SameLinks.refl (d : Dev) : SameLinks d d := ⟨fun _ => rfl⟩

theorem SameLinks.trans {a b c : Dev} (h : SameLinks a b) (k : SameLinks b c) : SameLinks a c :=
  ⟨fun n => (k.st n).trans (h.st n)⟩

theorem SendRel.links {d e : Dev} (h : SendRel d e) : SameLinks d e := ⟨h.portSt⟩

/-- A change that leaves the ports. -/
theorem SameLinks.aside {d e : Dev} (hp : e.ports = d.ports) (ht : e.tw = d.tw) : SameLinks d e :=
  ⟨fun n => by rw [port_of_ports hp ht]⟩

theorem setPort_links {d : Dev} {n : Nat} {p : Port} (h : p.st = (d.port n).st) : SameLinks d (d.setPort n p) := by
  refine ⟨fun k => ?_⟩
  by_cases hk : k = n
  · subst hk
    rcases port_setPort_cases d k p with hp | hp <;> rw [hp]
    exact h
  · rw [port_setPort_ne d hk]

theorem slotsBetween_links (n k : Nat) (l : List Msg) (blocked : List (Option Nat)) (s : List DepSlot) (d : Dev) (keep : List Msg) :
    SameLinks d (Dev.slotsBetween n k l blocked s d keep).2 := by
  induction l generalizing k blocked s d keep with
  | nil => exact setPort_links rfl
  | cons m l ih =>
    unfold Dev.slotsBetween
    split
    · exact (sendOff_send d n m).links.trans (ih ..)
    · exact ih ..

theorem mirror_links (d : Dev) (i : Item) : SameLinks d (d.mirror i) := .aside (Dev.mirror_ports ..) (Dev.mirror_tw ..)

theorem startOn_links (d : Dev) (e : Dep) (n : Nat) : SameLinks d (d.startOn e n).2 := by
  have hnote : SameLinks d (if e.started.isEmpty then d.mirror (.released e.idx) else d) := by
    split
    · exact mirror_links ..
    · exact .refl d
  unfold Dev.startOn
  dsimp only
  generalize (if e.started.isEmpty then d.mirror (.released e.idx) else d) = x at hnote ⊢
  have hslots := slotsBetween_links n 6 (x.port n).txq [] [] (x.emit (.msg n (.depRel e e.flagLate))) []
  generalize Dev.slotsBetween n 6 (x.port n).txq [] [] (x.emit (.msg n (.depRel e e.flagLate))) [] = y at hslots ⊢
  have hcut : SameLinks y.2 (y.2.setPort n { y.2.port n with cut := (depSecond e).drop (6 - y.1.length) }) := setPort_links rfl
  refine ((hnote.trans ((emit_send x _).links.trans hslots)).trans hcut).trans ?_
  exact (((depFlit_send ..).trans (pmu1_send ..)).trans ((trace_send ..).trans (sendLines_send ..))).links

theorem putDep_links (d : Dev) (e : Dep) : SameLinks d (d.putDep e) := .aside rfl rfl

theorem dropDep_links (d : Dev) (e : Dep) : SameLinks d (d.dropDep e) := by
  unfold Dev.dropDep
  dsimp only
  generalize hx : Dev.setDeps _ (d.dep.table.filter (fun x => x.idx != e.idx)) = x
  have hset : SameLinks d x := .aside (by rw [← hx]; rfl) (by rw [← hx]; rfl)
  exact hset.trans (pumpDep_send x e).links

theorem recordDep_links (d : Dev) (e : Dep) (o : DepOut) : SameLinks d (d.recordDep e o) := by
  have hpush : SameLinks d (d.push 1 (dlqWords e o)) := by
    have h := push_record d 1 (dlqWords e o)
    exact .aside (by rw [h.frame]) (by rw [h.frame])
  have hall := (hpush.trans (dropDep_links _ e)).trans (mirror_links _ (.depGone e.idx (some ⟨e.org, e.tag, e.tph⟩)))
  exact ⟨hall.st⟩

theorem dropCopy_links (d : Dev) (e : Dep) (n : Nat) : SameLinks d (d.dropCopy e n).2 := by
  have h := report_record d R.DEP_EVT.PORT_DROP n 0 0 e.dtag
  exact (SameLinks.aside h.ports (by rw [h.frame])).trans (.aside rfl rfl)

theorem closeDep_links (d : Dev) (e : Dep) : SameLinks d (d.closeDep e) := by
  unfold Dev.closeDep
  split
  · exact recordDep_links ..
  · exact .refl d

theorem startChain_links (n k : Nat) (d : Dev) : SameLinks d (Dev.startChain n k d) := by
  induction k generalizing d with
  | zero => exact .refl d
  | succ k ih =>
    unfold Dev.startChain
    split
    · next e _ =>
      dsimp only
      split
      · exact (((dropCopy_links d e n).trans (putDep_links ..)).trans (closeDep_links ..)).trans (ih _)
      · exact (startOn_links d e n).trans (putDep_links ..)
    · exact .refl d

theorem dropReleases_links (d : Dev) (n : Nat) : SameLinks d (d.dropReleases n) := by
  unfold Dev.dropReleases
  split
  · next e _ =>
    exact (((dropCopy_links d e n).trans (putDep_links ..)).trans (closeDep_links ..)).trans (startChain_links ..)
  · exact .refl d

theorem dropReleases_dep (d : Dev) (n : Nat) : DepRel d (d.dropReleases n) := by
  unfold Dev.dropReleases
  split
  · next e _ =>
    exact (((dropCopy_dep d e n).trans (putDep_dep ..)).trans (closeDep_dep ..)).trans (startChain_dep ..)
  · exact .refl d

/-- A link taken down is DOWN, the others are as they were, and so are the mode and the pair state. -/
theorem takeDown_effect (d : Dev) (n : Nat) : ((d.takeDown n).port n).st = 0 ∧
    (∀ k, k ≠ n → ((d.takeDown n).port k).st = (d.port k).st) ∧
    (d.takeDown n).gcr = d.gcr ∧ (d.takeDown n).twn.st = d.twn.st := by
  unfold Dev.takeDown
  dsimp only
  generalize hx : (d.raiseIf (n < 32 && (d.port n).st != 0) (R.APnn_EVT.LINK_DOWN n)).dropToken 2 n = x
  have hkept : (∀ k, x.port k = d.port k) ∧ x.gcr = d.gcr ∧ x.twn.st = d.twn.st := by
    rw [← hx, raiseIf_frame]
    exact ⟨fun _ => rfl, rfl, rfl⟩
  obtain ⟨hport, hgcr, htwn⟩ := hkept
  generalize hp : ({ x.port n with st := 0, txq := [], keep := false, naked := false } : Port) = p
  have hst : p.st = 0 := by rw [← hp]
  have hlinks := dropReleases_links (x.setPort n p) n
  have hdep := dropReleases_dep (x.setPort n p) n
  refine ⟨(hlinks.st n).trans ?_, fun k hk => ?_, hdep.gcr.trans ?_, ?_⟩
  · by_cases hn : n = twPort ∨ n < x.ports.length
    · rw [port_setPort_same hn, hst]
    · rcases port_setPort_cases x n p with h | h
      · rw [h, hst]
      · rw [h, port_none hn]
  · rw [hlinks.st k, port_setPort_ne x hk, hport]
  · rw [setPort_frame]
    exact hgcr
  · rw [hdep.twn, setPort_frame]
    exact htwn

/-- With every link taken down one after another, each is DOWN. -/
theorem takeDowns_effect (l : List Nat) (d : Dev) :
    (∀ n, n ∈ l ∨ (d.port n).st = 0 → ((l.foldl Dev.takeDown d).port n).st = 0) ∧ (l.foldl Dev.takeDown d).gcr = d.gcr ∧
      (l.foldl Dev.takeDown d).twn.st = d.twn.st := by
  induction l generalizing d with
  | nil => exact ⟨fun n hn => hn.resolve_left nofun, rfl, rfl⟩
  | cons k l ih =>
    obtain ⟨hone, hothers, hgcr, htwn⟩ := takeDown_effect d k
    obtain ⟨hall, hgcr', htwn'⟩ := ih (d.takeDown k)
    refine ⟨fun n hn => hall n ?_, hgcr'.trans hgcr, htwn'.trans htwn⟩
    by_cases hk : n = k
    · exact .inr (hk ▸ hone)
    · exact hn.imp (fun hm => (List.mem_cons.mp hm).resolve_left hk) fun hst => (hothers n hk).trans hst

theorem takeAllDown_effect (d : Dev) : (∀ n, n < 33 → (d.takeAllDown.port n).st = 0) ∧ d.takeAllDown.gcr = d.gcr ∧
    d.takeAllDown.twn.st = d.twn.st := by
  obtain ⟨hlinks, hgcr, hst⟩ := takeDowns_effect (List.range 33) d
  have hlinks' : ∀ n, n < 33 → (((List.range 33).foldl Dev.takeDown d).port n).st = 0 := fun n hn =>
    hlinks n (.inl (List.mem_range.mpr hn))
  unfold Dev.takeAllDown
  generalize (List.range 33).foldl Dev.takeDown d = x at hlinks' hgcr hst
  exact ⟨hlinks', hgcr, hst⟩

/-- A superseded device is in Recovery with every link DOWN (Table TWN-4). -/
theorem supersede_effect {d : Dev} (h : d.gcr.mode ≠ .cold) : d.supersede.twn.st = .superseded ∧
    d.supersede.gcr.mode = .recovery ∧ d.supersede.flag R.TWN_EVT.PARTNER_TOOK = true ∧
    (d.gcr.mode ≠ .recovery → d.supersede.gcr.fault = true) ∧ ∀ n, n < 33 → (d.supersede.port n).st = 0 := by
  unfold Dev.supersede
  dsimp only
  generalize hx : ({ d with twn := _ } : Dev) = x
  have hgcr : x.gcr = d.gcr := by rw [← hx]
  have hst : x.twn.st = .superseded := by rw [← hx]
  obtain ⟨hlinks, hgcr', hst'⟩ := takeAllDown_effect x
  generalize x.takeAllDown = z at hlinks hgcr' hst'
  generalize hy : z.raise R.TWN_EVT.PARTNER_TOOK = y
  have hkept : y.gcr = d.gcr ∧ y.twn.st = .superseded ∧ (∀ n, y.port n = z.port n) ∧
      y.flag R.TWN_EVT.PARTNER_TOOK = true := by
    rw [← hy]
    exact ⟨hgcr'.trans hgcr, hst'.trans hst, fun _ => rfl, flag_raise_self _ _ (by decide)⟩
  obtain ⟨hg, hs, hports, hflag⟩ := hkept
  refine ⟨by rw [enterRecovery_twn, hs], enterRecovery_mode (by rw [hg]; exact h),
    enterRecovery_flag y (by decide) (by decide) rfl hflag,
    fun hr => enterRecovery_fault (by rw [hg]; exact h) (by rw [hg]; exact hr), fun n hn => ?_⟩
  rw [enterRecovery_port, hports]
  exact hlinks n hn

/-! ## Taking over -/

/-- The device once the stream it had queued is applied. -/
def Dev.caughtUp (d : Dev) : Dev := d.twn.queue.foldl Dev.applyFlit { d with twn := { d.twn with queue := [] } }

/-- The device at the moment it serves in the partner's place. -/
def Dev.tookOver (d : Dev) : Dev :=
  let d := d.caughtUp
  let txns : List Txn := (d.cnf.txns.filter Txn.mayReturn).map restartTxn
  let d := { d with twn := { d.twn with epoch := (d.twn.epoch + 1) % 65536, window := true, slotWin := [],
                                        unsent := txns.map (fun (t : Txn) => t.id), fromCopy := false },
                    cnf := { d.cnf with txns := txns, pool := [] } }
  let d := (d.toPair .takeover false).setDeps (d.dep.table.map (fun e => { e with waits := [] }))
  if d.gcr.drainAsked then d.startDrain else d

/-- What a side that has taken over does with what it took: links are told, snoops, departures and streams go on. -/
def Dev.goOn (d : Dev) (ids : List Nat) : Dev :=
  let d := (d.adoptDirty.restartHolds).stopPasses
  let d := d.takeOverPorts.foldl (fun d n => d.tell n (.takeOver d.twn.epoch)) d
  let d := ids.foldl Dev.resnoop d
  ((d.dep.table.foldl Dev.takeDep d).restartStreams).sdrPump

theorem takeover_eq (d : Dev) :
    d.takeover = d.tookOver.goOn (((d.caughtUp.cnf.txns.filter Txn.mayReturn).map restartTxn).map (fun (t : Txn) => t.id)) := rfl

theorem Moves.goOn {base d : Dev} (h : Moves Working base d) (ids : List Nat) : Moves Working base (d.goOn ids) := by
  have hadopt := (h.adoptDirty.restartHolds).stopPasses
  unfold Dev.goOn
  generalize (d.adoptDirty.restartHolds).stopPasses = x at hadopt
  have htell := hadopt.foldl (f := fun d n => d.tell n (.takeOver d.twn.epoch)) x.takeOverPorts fun _ _ h => h.tell _ _
  dsimp only
  generalize x.takeOverPorts.foldl _ x = y at htell
  have hsnoop := htell.foldl (f := Dev.resnoop) ids fun _ id h => h.resnoop id working_grants
  generalize ids.foldl Dev.resnoop y = z at hsnoop
  have hdeps := hsnoop.foldl (f := Dev.takeDep) z.dep.table fun _ e h => h.takeDep e working_grants
  exact (hdeps.restartStreams working_streams working_grants).sdrPump

theorem takeover_moves (d : Dev) : Moves Working d.tookOver d.takeover := by
  rw [takeover_eq]
  exact Moves.refl.goOn _

theorem remode_twn (d : Dev) : d.remode.twn = d.twn := by
  unfold Dev.remode Dev.toMode
  split
  · split <;> rfl
  · rfl

theorem tookOver_twn (d : Dev) : d.tookOver.twn.st = .takeover ∧ d.tookOver.twn.mirror = false ∧ d.tookOver.twn.window = true ∧
    d.tookOver.twn.epoch = (d.twn.epoch + 1) % 65536 := by
  have hcaught : Moves Working ({ d with twn := { d.twn with queue := [] } } : Dev) d.caughtUp :=
    Moves.refl.foldl d.twn.queue fun _ f h => h.applyFlit f working_streams working_grants
  have hepoch : d.caughtUp.twn.epoch = d.twn.epoch := (hcaught.terms working_rest).epoch
  unfold Dev.tookOver
  generalize d.caughtUp = x at hepoch
  dsimp only
  have hdrain : ∀ y : Dev, (if y.gcr.drainAsked then y.startDrain else y).twn = y.twn := fun y => by
    unfold Dev.startDrain Dev.toMode
    split
    · split <;> rfl
    · rfl
  rw [hdrain]
  unfold Dev.toPair Dev.setDeps
  rw [remode_twn]
  exact ⟨rfl, rfl, rfl, by rw [← hepoch]⟩

theorem takeover_effect (d : Dev) : d.takeover.twn.st = .takeover ∧ d.takeover.twn.mirror = false ∧
    d.takeover.twn.epoch = (d.twn.epoch + 1) % 65536 ∧ d.takeover.twn.window = true := by
  obtain ⟨hst, hmirror, hwindow, hepoch⟩ := tookOver_twn d
  have h := takeover_moves d
  have hterms := h.terms working_rest
  exact ⟨(h.pair working_rest hmirror).trans hst, hterms.mirror.trans hmirror, hterms.epoch.trans hepoch, hterms.window.trans hwindow⟩

/-! ## The partner is read -/

theorem readPartner_effect (d : Dev) : d.readPartner.twn = d.twn ∧ d.readPartner.gcr = d.gcr ∧ d.readPartner.regs = d.regs ∧
    d.readPartner.chn.seq = (d.chn.seq + 2) % 256 := by
  refine ⟨rfl, rfl, rfl, ?_⟩
  show ((d.chn.seq + 1) % 256 + 1) % 256 = _
  omega

/-! ## The commands -/

theorem awake_mode {d : Dev} (h : d.awake = true) : d.gcr.mode ≠ .cold := by
  simpa [Dev.awake] using h

/-- The serving side that has lost its partner is FENCED. -/
theorem fence_effect {d : Dev} (hflag : d.flag R.TWN_EVT.HB_LOSS = true) :
    (d.toPair .fenced false).endCopy.flag R.TWN_EVT.HB_LOSS = true ∧ (d.toPair .fenced false).endCopy.twn.mirror = false ∧
      (d.toPair .fenced false).endCopy.twn.st = .fenced ∧ (d.toPair .fenced false).endCopy.chn = d.chn := by
  unfold Dev.toPair
  generalize hx : ({ d with twn := { d.twn with st := .fenced, mirror := false } } : Dev) = x
  have hkept : x.flag R.TWN_EVT.HB_LOSS = true ∧ x.twn.mirror = false ∧ x.twn.st = .fenced ∧ x.chn = d.chn := by
    rw [← hx]
    exact ⟨hflag, rfl, rfl, rfl⟩
  obtain ⟨hf, hm, hs, hc⟩ := hkept
  have h : Moves Working x x.remode.endCopy := Moves.refl.remode.endCopy
  have hchn : x.remode.endCopy.chn = x.chn := h.chn_eq working_rest
  exact ⟨h.flag working_rest working_registers (by decide) (by decide) rfl hf, (h.mirror_eq working_rest).trans hm,
    (h.pair working_rest hm).trans hs, hchn.trans hc⟩

theorem toPair_twn (d : Dev) (st : PairSt) (mirror : Bool) :
    (d.toPair st mirror).twn = { d.twn with st := st, mirror := mirror } := by
  unfold Dev.toPair
  rw [remode_twn]

/-- A change of the pair state keeps the events and the chain. -/
theorem toPair_kept (d : Dev) (st : PairSt) (mirror : Bool) : (d.toPair st mirror).chn = d.chn ∧
    ∀ f : FieldRef, f.ofs % 0x1000 = 0xC → f.ofs < 0x21010 → f.hi = f.lo → d.flag f = true → (d.toPair st mirror).flag f = true := by
  unfold Dev.toPair
  generalize hx : ({ d with twn := { d.twn with st := st, mirror := mirror } } : Dev) = x
  have h : Moves Working x x.remode := Moves.refl.remode
  have hchn : x.remode.chn = x.chn := h.chn_eq working_rest
  refine ⟨hchn.trans (by rw [← hx]), fun f ho hlow hf hd => h.flag working_rest working_registers ho hlow hf ?_⟩
  rw [← hx]
  exact hd

/-- Loss of the partner is declared (R218). -/
theorem declareLoss_effect {d : Dev} (h : d.twn.st = .mirrored) : d.declareLoss.flag R.TWN_EVT.HB_LOSS = true ∧
    d.declareLoss.twn.mirror = d.twn.mirror ∧ d.declareLoss.twn.st = (if d.twn.mirror then .lossWait else .fenced) ∧
    d.declareLoss.chn.seq = (d.chn.seq + 2) % 256 := by
  have hraise : (d.raise R.TWN_EVT.HB_LOSS).flag R.TWN_EVT.HB_LOSS = true := flag_raise_self _ _ (by decide)
  unfold Dev.declareLoss
  rw [if_pos (.inl h)]
  dsimp only
  cases hm : d.twn.mirror with
  | true =>
    rw [if_pos (by exact hm), if_pos rfl]
    generalize hx : ({ d.raise R.TWN_EVT.HB_LOSS with
        twn := { (d.raise R.TWN_EVT.HB_LOSS).twn with fromCopy := d.twn.st == .copy } } : Dev) = x
    have hflag : x.flag R.TWN_EVT.HB_LOSS = true := by rw [← hx]; exact hraise
    have hchn : x.chn = d.chn := by rw [← hx]; rfl
    obtain ⟨htwn, -, hregs, hseq⟩ := readPartner_effect (x.toPair .lossWait true)
    obtain ⟨hpair, hkept⟩ := toPair_kept x .lossWait true
    have hgot : (x.toPair .lossWait true).flag R.TWN_EVT.HB_LOSS = true := hkept _ (by decide) (by decide) rfl hflag
    refine ⟨hgot, by rw [htwn, toPair_twn], by rw [htwn, toPair_twn], by rw [hseq, hpair, hchn]⟩
  | false =>
    rw [if_neg (by simp [hm]), if_neg (by simp)]
    obtain ⟨hflag, hmirror, hst, hchn⟩ := fence_effect hraise
    obtain ⟨htwn, -, -, hseq⟩ := readPartner_effect ((d.raise R.TWN_EVT.HB_LOSS).toPair .fenced false).endCopy
    refine ⟨hflag, by rw [htwn, hmirror], by rw [htwn, hst], by rw [hseq, hchn]; rfl⟩

/-- The re-send window of a takeover ends. -/
theorem resendWindowEnd_effect {d : Dev} (h : d.twn.st = .takeover) (ns : Nat) : (resendWindowEnd ns d).twn.st = .alone ∧
    (resendWindowEnd ns d).twn.window = false ∧ (resendWindowEnd ns d).flag R.TWN_EVT.TAKEOVER_DONE = true ∧
    (resendWindowEnd ns d).get R.TWN_TAKE_TIME.NS = ns % 2 ^ 32 := by
  unfold resendWindowEnd
  rw [if_pos h]
  dsimp only
  generalize hx : ({ d.endWindow d.twn.unsent with
      twn := { (d.endWindow d.twn.unsent).twn with window := false, unsent := [] } } : Dev) = x
  have hwin : x.twn.window = false := by rw [← hx]
  obtain ⟨hst, -, -, -, -, -, hwindow, -⟩ := toAlone_effect x
  generalize hy : x.toAlone.set R.TWN_TAKE_TIME.NS ns = y
  have htwn : y.twn = x.toAlone.twn := by rw [← hy]; rfl
  have hns : y.get R.TWN_TAKE_TIME.NS = ns % 2 ^ 32 := by
    rw [← hy]
    exact get_set_self _ _ _ (by decide)
  have hrep := report_record y R.TWN_EVT.TAKEOVER_DONE 0 0 y.twn.epoch (ns % 2 ^ 32)
  have hdone := flag_report_self y (f := R.TWN_EVT.TAKEOVER_DONE) (by decide) (by decide) 0 0 y.twn.epoch (ns % 2 ^ 32)
  have hget := hrep.get (f := R.TWN_TAKE_TIME.NS) (by decide)
  refine ⟨?_, ?_, hdone, hget.trans hns⟩
  · show (y.report ..).twn.st = _
    rw [hrep.twn, htwn, hst]
  · show (y.report ..).twn.window = _
    rw [hrep.twn, htwn, hwindow, hwin]

/-- A command that software gives is carried out and acknowledged. -/
theorem onDev_given {s : State} {ofs : Nat} (h : s.dev.reaches ofs = true) (src : Src) (k : Dev → Dev) :
    onDev s (fun d => d.write src ofs k) = .next (s.setDev (settle ((k s.dev).emit (.regOk src)))) := by
  rw [onDev_awake (Dev.reaches_awake h), Dev.write_reaches h]

/-- Settles O42: what a side does when its partner is lost, found serving, found failed, or silent, and what software's commands
do. -/
theorem lossCommands : Obligations.LossCommands := by
  unfold Obligations.LossCommands
  refine ⟨?_, ?_, ?_, ?_, ?_, ?_, ?_, ?_, ?_, ?_, ?_⟩
  · intro s hr hs
    have h := declareLoss_effect hs
    exact ⟨_, onCore_runs hr _, by simpa using h⟩
  · intro p s hr hs hp
    refine ⟨_, onCore_runs hr _, ?_⟩
    have hrun : lossWaitConfirm (some p) s.dev = (s.dev.raise R.TWN_EVT.PEER_ALIVE).toDetached := by
      simp [lossWaitConfirm, hs, hp, Option.filter]
    obtain ⟨hst, hmode⟩ := toDetached_effect (d := s.dev.raise R.TWN_EVT.PEER_ALIVE) (awake_mode (Dev.runs_awake hr))
    have hflag : (s.dev.raise R.TWN_EVT.PEER_ALIVE).toDetached.flag R.TWN_EVT.PEER_ALIVE = true :=
      enterRecovery_flag _ (by decide) (by decide) rfl (flag_raise_self _ _ (by decide))
    rw [hrun]
    exact ⟨by simpa using hst, by simpa using hmode, by simpa using hflag⟩
  · intro s hr hs hf hsil
    refine ⟨_, onCore_runs hr _, ?_⟩
    have hrun : lossWaitConfirm none s.dev = s.dev.raise R.TWN_EVT.CONFIRM_SILENT := by
      simp [lossWaitConfirm, hs, hf, hsil]
    have hflag : (s.dev.raise R.TWN_EVT.CONFIRM_SILENT).flag R.TWN_EVT.CONFIRM_SILENT = true := flag_raise_self _ _ (by decide)
    rw [hrun]
    exact ⟨by simpa using hs, by simpa using hflag⟩
  · intro p s hr hs hf hp
    refine ⟨_, onCore_runs hr _, ?_⟩
    have hrun : lossWaitConfirm (some p) s.dev = s.dev.takeover := by
      simp [lossWaitConfirm, hs, hf, hp]
    have h := takeover_effect s.dev
    rw [hrun]
    simpa using h
  · intro p s hr hs
    refine ⟨_, onCore_runs hr _, ?_⟩
    rw [State.setDev_dev, settle_twn_st, fencedCheck, if_neg (by simp [hs])]
    by_cases hp : p.failed ∨ p.state = PairSt.detached.code
    · rw [if_pos (by simpa using hp), if_pos hp]
      exact (toAlone_effect s.dev).1
    · rw [if_neg (by simpa using hp), if_neg hp]
      split
      · exact (supersede_effect (awake_mode (Dev.runs_awake hr))).1
      · rw [(readPartner_effect s.dev).1, hs]
  · intro s hr hs
    refine ⟨_, onCore_runs hr _, ?_⟩
    have hrun : twnGuardExpiry s.dev = s.dev.toAlone := if_pos hs
    obtain ⟨hst, -, hheld, hun, hit, -⟩ := toAlone_effect s.dev
    rw [hrun, State.setDev_dev, settle_twn_empty hit]
    exact ⟨hst, hheld, hun⟩
  · intro ns s hr hs
    have h := resendWindowEnd_effect hs ns
    exact ⟨_, onCore_runs hr _, by simpa using h⟩
  · intro src s hr hs
    refine ⟨_, onDev_given hr src _, ?_⟩
    have hmode := awake_mode (Dev.reaches_awake hr)
    cases hm : s.dev.twn.mirror with
    | true =>
      have hrun : detach s.dev = s.dev.toDetached := by simp [detach, Dev.isMirror, hm, hs]
      rw [if_pos rfl, hrun]
      exact ⟨(settle_twn_st _).trans (toDetached_effect hmode).1,
        (congrArg Gcr.mode (settle_gcr _)).trans (toDetached_effect hmode).2⟩
    | false =>
      have hrun : detach s.dev = s.dev.toAlone := by simp [detach, Dev.isMirror, hm, hs]
      rw [if_neg (by decide), hrun]
      exact (settle_twn_st _).trans (toAlone_effect s.dev).1
  · intro src s hr hs hside
    refine ⟨_, onDev_given hr src _, ?_⟩
    have hrun : forceTake s.dev = Dev.toAlone { s.dev with twn := { s.dev.twn with epoch := 1 } } := by
      simp [forceTake, hs, hside]
    obtain ⟨hst, -, -, -, -, hepoch, -⟩ := toAlone_effect { s.dev with twn := { s.dev.twn with epoch := 1 } }
    rw [hrun]
    exact ⟨(settle_twn_st _).trans hst, (settle_twn_epoch _).trans hepoch⟩
  · intro src s hr hs
    refine ⟨_, onDev_given hr src _, ?_⟩
    have hrun : twnResume s.dev = s.dev.toAlone := if_pos hs
    rw [hrun]
    exact (settle_twn_st _).trans (toAlone_effect s.dev).1
  · intro port epoch s hr hs
    refine ⟨_, onCore_runs hr _, ?_⟩
    have hrun : homeMoved s.dev = s.dev.supersede := if_pos hs
    obtain ⟨hst, hmode, hflag, hfault, hlinks⟩ := supersede_effect (awake_mode (Dev.runs_awake hr))
    rw [hrun]
    refine ⟨by simpa using hst, by simpa using hmode, by simpa using hflag, by simpa using hfault, fun n hn => ?_⟩
    rw [State.setDev_dev, settle_port_st]
    exact hlinks n hn

end Sys2Proof.Machine
end

section
/-! THEOREM. A pair forms, beats, joins and copies (R207 to R209, R218, R229, R231). -/

namespace Sys2Proof.Machine

set_option Elab.async false

/-! ## A copy that has begun -/

/-- The directory and how far a copy has come are as they were. -/
structure CopyKept (d e : Dev) : Prop where
  dir : e.dir = d.dir
  phase : e.twn.phase = d.twn.phase
  chunk : e.twn.chunk = d.twn.chunk

theorem CopyKept.refl (d : Dev) : CopyKept d d := ⟨rfl, rfl, rfl⟩

theorem CopyKept.trans {a b c : Dev} (h : CopyKept a b) (k : CopyKept b c) : CopyKept a c :=
  ⟨k.dir.trans h.dir, k.phase.trans h.phase, k.chunk.trans h.chunk⟩

theorem AccessRel.copyKept {d e : Dev} (h : AccessRel d e) : CopyKept d e :=
  ⟨by rw [h.frame], by rw [h.twn], by rw [h.twn]⟩

theorem WorkRel.copyKept {d e : Dev} (h : WorkRel d e) : CopyKept d e := ⟨by rw [h.frame], by rw [h.twn], by rw [h.twn]⟩

theorem SettleRel.copyKept {d e : Dev} (h : SettleRel d e) : CopyKept d e := ⟨h.dir, h.twn_phase, h.twn_chunk⟩

theorem badHeader_copyKept (d : Dev) (set : Nat) : CopyKept d (d.badHeader set) := by
  unfold Dev.badHeader
  dsimp only
  have hreport := (report_access d R.PIP_EVT.HDR_QUAR 0 0 set 0).copyKept
  have hmirror : ∀ (x : Dev) (i : Item), CopyKept x (x.mirror i) := fun x i =>
    ⟨by rw [mirror_frame], by rw [mirror_frame], by rw [mirror_frame]⟩
  have hquar : ∀ (x : Dev) (l : List Nat), CopyKept x { x with pip := { x.pip with quar := l } } := fun x l =>
    ⟨rfl, rfl, rfl⟩
  split
  · exact hreport.trans (enterRecovery_access _).copyKept
  · exact ((hreport.trans (hquar _ _)).trans (laneWrite_access ..).copyKept).trans (hmirror _ _)

theorem headerRead_copyKept (set : Nat) (r : Decoded × Dev) : CopyKept r.2 (headerRead set r).2 := by
  have hbad : CopyKept r.2 (if r.2.gcr.mode.serving then r.2.badHeader set else r.2) := by
    split
    · exact badHeader_copyKept ..
    · exact .refl _
  unfold headerRead
  cases r.1.out with
  | clean => exact .refl _
  | corrected => exact .refl _
  | poison => exact hbad
  | poisonCorrected => exact hbad
  | uncorrectable => exact hbad

theorem passHeader_copyKept (d : Dev) (set : Nat) : CopyKept d (d.passHeader set).2 := by
  unfold Dev.passHeader
  split
  · exact .refl d
  · exact .refl d
  · have hdrive := (driveRd_access d (headerLoc set).1 (headerLoc set).2).copyKept
    refine hdrive.trans ?_
    generalize d.driveRd (headerLoc set).1 (headerLoc set).2 = x
    by_cases h : (x.lane (headerLoc set).1).st = 5
    · rw [readHeader_of_lost h]
      exact .refl x
    · rw [readHeader_of_lane h]
      exact (laneRead_access ..).copyKept.trans (headerRead_copyKept ..)

theorem memRead_copyKept (d : Dev) (line : Nat) : CopyKept d (d.memRead line) := by
  unfold Dev.memRead
  dsimp only
  split
  · exact ⟨rfl, rfl, rfl⟩
  · split <;> exact ⟨rfl, rfl, rfl⟩

theorem memReads_copyKept (l : List Nat) (d : Dev) : CopyKept d (l.foldl Dev.memRead d) := by
  induction l generalizing d with
  | nil => exact .refl d
  | cons n l ih => exact (memRead_copyKept d n).trans (ih _)

theorem copyDirtyLine_copyKept (d : Dev) (line : Nat) : CopyKept d (d.copyDirtyLine line).2 := by
  have hpass := passHeader_copyKept d (d.setOf line)
  unfold Dev.copyDirtyLine
  dsimp only
  split
  · split
    · exact hpass.trans (readWay_work ..).copyKept
    · exact hpass
  · exact hpass

theorem jobItem_copyKept (d : Dev) (j : CopyJob) : CopyKept d (d.jobItem j).2 := by
  cases j
  case dirty line => exact copyDirtyLine_copyKept d line
  case header set => exact passHeader_copyKept d set
  all_goals exact .refl d

theorem sendCopy_copyKept (d : Dev) (l : List Item) : CopyKept d (d.sendCopy l) := by
  unfold Dev.sendCopy
  dsimp only
  generalize hx : Dev.queueFlit _ _ = x
  have hqueued : CopyKept d x := by
    rw [← hx]
    exact ⟨rfl, rfl, rfl⟩
  have hsent := hqueued.trans (pumpTw_rel x).copyKept
  exact ⟨hsent.dir, hsent.phase, hsent.chunk⟩

theorem jobs_copyKept (d : Dev) (l : List CopyJob) : CopyKept d { d with twn := { d.twn with jobs := l } } :=
  ⟨rfl, rfl, rfl⟩

theorem runJobs_copyKept (l : List CopyJob) (d : Dev) : CopyKept d (Dev.runJobs l d) := by
  induction l generalizing d with
  | nil => exact ⟨rfl, rfl, rfl⟩
  | cons j l ih =>
    have hitem := jobItem_copyKept d j
    unfold Dev.runJobs
    split
    · next heq => cases heq
    · exact (jobs_copyKept _ _).trans (sendCopy_copyKept _ _)
    · next heq =>
      obtain ⟨rfl, rfl⟩ := List.cons.inj heq
      split
      · next he =>
        rw [he] at hitem
        exact (hitem.trans (jobs_copyKept _ _)).trans (sendCopy_copyKept _ _)
      · next he =>
        rw [he] at hitem
        exact hitem.trans (ih _)

/-- A copy is on its way: the directory is as at its start, and no chunk has come back. -/
structure Copying (x : Dir) (d : Dev) : Prop where
  dir : d.dir = x
  phase : 1 ≤ d.twn.phase
  chunk : ∀ c, d.twn.chunk = some c → c.left ≠ []

theorem Copying.kept {x : Dir} {d e : Dev} (h : Copying x d) (k : CopyKept d e) : Copying x e :=
  ⟨k.dir.trans h.dir, by rw [k.phase]; exact h.phase, by rw [k.chunk]; exact h.chunk⟩

theorem Copying.at {x : Dir} {d : Dev} (h : Copying x d) {phase : Nat} (hp : 1 ≤ phase) (cur : Nat) (l : List CopyJob) :
    Copying x (d.copyAt phase cur) ∧ Copying x (d.copyStep phase cur l) := ⟨⟨h.dir, hp, h.chunk⟩, ⟨h.dir, hp, h.chunk⟩⟩

theorem Copying.chunkOver {x : Dir} {d : Dev} (h : Copying x d) : d.chunkOver = d := by
  refine if_neg ?_
  unfold Dev.chunkApplied
  split
  · next c hc => simp [h.chunk c hc]
  · decide

theorem Copying.copyMemory {x : Dir} {d : Dev} (h : Copying x d) : Copying x d.copyMemory := by
  unfold Dev.copyMemory
  dsimp only
  split
  · exact (h.at (by decide) _ _).2
  · split
    · exact h
    · generalize hy : ({ d with twn := _ } : Dev) = y
      have hchunk : Copying x y := by
        rw [← hy]
        refine ⟨h.dir, h.phase, fun c hc => ?_⟩
        obtain rfl := Option.some.inj hc
        simp [chunkLines]
      generalize chunkLines d.twn.cur = l
      exact hchunk.kept (memReads_copyKept l y)

theorem Copying.copyNext {x : Dir} {d : Dev} (h : Copying x d) : Copying x d.copyNext := by
  have hsdr : ∀ y : Dev, Copying x y → Copying x y.copySdr := fun y hy => by
    unfold Dev.copySdr
    split
    · exact (hy.at (by decide) _ []).1
    · exact (hy.at (by decide) _ _).2
  unfold Dev.copyNext
  split
  · unfold Dev.copyDir
    split
    · exact hsdr _ (h.at (by decide) _ []).1
    · exact (h.at (by decide) _ _).2
  · unfold Dev.copySets
    split
    · exact (h.at (by decide) _ _).2
    · next set _ =>
      have hpass := h.kept (passHeader_copyKept d set)
      split
      · next he =>
        rw [he] at hpass
        exact (hpass.at (by decide) _ []).1
      · next he =>
        rw [he] at hpass
        exact (hpass.at (by decide) _ _).2
  · exact (h.at (by decide) _ _).2
  · exact h.copyMemory
  · exact h

theorem Copying.copyGo {x : Dir} (n : Nat) {d : Dev} (h : Copying x d) : Copying x (Dev.copyGo n d) := by
  induction n generalizing d with
  | zero => exact h
  | succ n ih =>
    unfold Dev.copyGo
    rw [h.chunkOver]
    dsimp only
    split
    · exact h
    · split
      · exact ih h.copyNext
      · exact ih (h.kept (runJobs_copyKept _ _))

theorem Copying.copyPump {x : Dir} {d : Dev} (h : Copying x d) : Copying x d.copyPump := by
  unfold Dev.copyPump
  split
  · exact h
  · exact (h.kept (flushTwin_rel d).copyKept).copyGo 8

/-! ## What a device hears -/

theorem serves_eq {d e : Dev} (hgcr : e.gcr = d.gcr) (hregs : e.regs = d.regs)
    (hst : e.twn.st = d.twn.st) (hm : e.twn.mirror = d.twn.mirror) :
    e.serves = d.serves := by
  unfold Dev.serves Dev.twinOn
  rw [flag_of_regs hregs (congrArg Gcr.role hgcr), hst, hm]

/-- A flit on TW that passes its check is seen before its meaning: no register, mode or term of the pair changes. -/
theorem seeFlit_twin (d : Dev) (f : Flit) : (d.seeFlit twPort f).gcr = d.gcr ∧ (d.seeFlit twPort f).regs = d.regs ∧
    (d.seeFlit twPort f).twn.st = d.twn.st ∧ (d.seeFlit twPort f).twn.mirror = d.twn.mirror ∧
    (d.seeFlit twPort f).twn.epoch = d.twn.epoch := by
  have hrun : d.seeFlit twPort f = (d.viewFlit twPort f).pumpTw := by
    simp [Dev.seeFlit, Dev.pumpPort]
  have hview : d.viewFlit twPort f = { d with ports := (d.viewFlit twPort f).ports, tw := (d.viewFlit twPort f).tw } :=
    setPort_frame ..
  have hkept : (d.viewFlit twPort f).gcr = d.gcr ∧ (d.viewFlit twPort f).regs = d.regs ∧
      (d.viewFlit twPort f).twn = d.twn := by
    rw [hview]
    exact ⟨rfl, rfl, rfl⟩
  obtain ⟨hgcr, hregs, htwn⟩ := hkept
  have h := pumpTw_rel (d.viewFlit twPort f)
  rw [hrun]
  exact ⟨h.gcr.trans hgcr, h.regs.trans hregs, h.twn_st.trans (by rw [htwn]), h.twn_mirror.trans (by rw [htwn]),
    h.twn_epoch.trans (by rw [htwn])⟩

theorem otherFlit_good {d : Dev} {f : Flit} (hst : d.tw.st = 3) (hc : d.portClocked twPort = true) (hcrc : f.crcOk = true)
    (hk : f.kind < 6) (k : Dev → Dev) : d.otherFlit twPort f k = k (d.seeFlit twPort f) := by
  have hport : (d.port twPort).st = 3 := hst
  have hhears : d.hears twPort = true := by simp [Dev.hears, hport, hc]
  unfold Dev.otherFlit
  rw [hhears, if_neg (by simp), hcrc, if_neg (by simp), if_neg (by omega), if_neg (by simp [hport])]

/-- A serving side that hears a later EPOCH is superseded (R225). -/
theorem heard_later {d : Dev} (h : d.serves = true) {epoch : Nat} (he : laterEpoch epoch d.twn.epoch = true)
    (serving : Bool) (state : Nat) :
    d.heard serving state epoch =
      Dev.supersede { d with twn := { d.twn with heard := some (serving, state) } } := by
  unfold Dev.heard
  dsimp only
  rw [if_pos (by exact h), if_pos (by exact he)]

theorem heardLater_effect {d : Dev} (hmode : d.gcr.mode ≠ .cold) (h : d.serves = true) {epoch : Nat}
    (he : laterEpoch epoch d.twn.epoch = true) (f : Flit) (serving : Bool) (state : Nat) :
    ((d.seeFlit twPort f).heard serving state epoch).twn.st = .superseded ∧
    ((d.seeFlit twPort f).heard serving state epoch).gcr.mode = .recovery := by
  obtain ⟨hgcr, hregs, hst, hmirror, hepoch⟩ := seeFlit_twin d f
  generalize d.seeFlit twPort f = x at hgcr hregs hst hmirror hepoch
  have hon : x.serves = true := (serves_eq hgcr hregs hst hmirror).trans h
  rw [heard_later hon (by rw [hepoch]; exact he)]
  generalize hy : ({ x with twn := { x.twn with heard := some (serving, state) } } : Dev) = y
  have hawake : y.gcr.mode ≠ .cold := by
    rw [← hy]
    exact hgcr ▸ hmode
  obtain ⟨hst', hmode', -⟩ := supersede_effect hawake
  exact ⟨hst', hmode'⟩

/-- The mirror side of a copy that hears MIRRORED is in step (R229). -/
theorem heard_mirrored {d : Dev} (hm : d.twn.mirror = true) (hs : d.twn.st = .copy) (epoch : Nat) :
    (d.heard true 2 epoch).twn.st = .mirrored ∧ (d.heard true 2 epoch).twn.mirror = true ∧
      (d.heard true 2 epoch).twn.epoch = epoch := by
  have hserves : ∀ x : Dev, x.twn.mirror = true → x.serves = false := fun x h => by simp [Dev.serves, h]
  have hrun : d.heard true 2 epoch =
      Dev.toPair { d with twn := { d.twn with heard := some (true, 2), epoch := epoch } } .mirrored true := by
    unfold Dev.heard
    dsimp only
    rw [if_neg (fun h => absurd ((hserves _ (by exact hm)).symm.trans h) Bool.false_ne_true),
      if_neg (by simp [hm]), if_neg (by decide), if_neg (by decide),
      if_pos (by decide), if_pos hs]
  rw [hrun, toPair_twn]
  exact ⟨rfl, rfl, rfl⟩

/-! ## The partner's digest, and its place on the chain -/

/-- The partner's address and the answer to its digest are as they were. -/
structure SamePeer (d e : Dev) : Prop where
  peer : e.twn.peer = d.twn.peer
  matched : e.twn.matched = d.twn.matched

theorem toAlone_peer (d : Dev) : SamePeer d d.toAlone :=
  have h := (toAlone_moves d).terms working_rest
  ⟨h.peer, h.matched⟩

theorem serveAlone_peer (d : Dev) : SamePeer d d.serveAlone := by
  unfold Dev.serveAlone
  split
  · exact ⟨rfl, rfl⟩
  · exact toAlone_peer d

/-- Strap B waits, strap A serves alone (R208). -/
theorem serveAlone_st (d : Dev) : d.serveAlone.twn.st = if d.gcr.side then d.twn.st else .alone := by
  unfold Dev.serveAlone
  split
  · rfl
  · exact (toAlone_effect d).1

theorem serveAlone_candidate (d : Dev) : d.serveAlone.twn.candidate = if d.gcr.side then d.twn.candidate else false := by
  unfold Dev.serveAlone
  split
  · rfl
  · exact ((toAlone_moves d).terms working_rest).candidate

theorem serveAlone_flag (d : Dev) {f : FieldRef} (ho : f.ofs % 0x1000 = 0xC) (hlow : f.ofs < 0x21010) (hf : f.hi = f.lo)
    (h : d.flag f = true) : d.serveAlone.flag f = true := by
  unfold Dev.serveAlone
  split
  · exact h
  · exact toAlone_flag d ho hlow hf h

/-- With a partner's address known its registers are read; without one the strap decides (R208, R209). -/
theorem pairFails_known {d : Dev} (h : d.partnerAddr ≠ 0) : d.pairFails.twn = { d.twn with alone := true } ∧
    d.pairFails.regs = d.regs ∧ d.pairFails.gcr = d.gcr ∧ d.pairFails.chn.seq = (d.chn.seq + 2) % 256 := by
  unfold Dev.pairFails
  rw [if_neg h]
  obtain ⟨htwn, hgcr, hregs, hseq⟩ := readPartner_effect { d with twn := { d.twn with alone := true } }
  exact ⟨htwn, hregs, hgcr, hseq⟩

theorem pairFails_unknown {d : Dev} (h : d.partnerAddr = 0) : d.pairFails = d.serveAlone := if_pos h

theorem pairFails_effect (d : Dev) (hs : d.twn.st = .pairing) {f : FieldRef} (ho : f.ofs % 0x1000 = 0xC)
    (hlow : f.ofs < 0x21010) (hf : f.hi = f.lo) (h : d.flag f = true) :
    SamePeer d d.pairFails ∧ d.pairFails.flag f = true ∧ d.pairFails.twn.st ≠ .mirrored := by
  by_cases hp : d.partnerAddr = 0
  · rw [pairFails_unknown hp]
    refine ⟨serveAlone_peer d, serveAlone_flag d ho hlow hf h, ?_⟩
    rw [serveAlone_st, hs]
    split <;> decide
  · obtain ⟨htwn, hregs, hgcr, -⟩ := pairFails_known hp
    refine ⟨⟨by rw [htwn], by rw [htwn]⟩, ?_, by rw [htwn]; simp [hs]⟩
    rw [flag_of_regs hregs (congrArg Gcr.role hgcr)]
    exact h

theorem markCandidate_twn (d : Dev) : d.markCandidate.twn = { d.twn with candidate := true, found := true, alone := false } := by
  unfold Dev.markCandidate
  dsimp only
  rw [raiseIf_frame]

theorem becomeCandidate_peer (d : Dev) : SamePeer d d.becomeCandidate := by
  unfold Dev.becomeCandidate
  dsimp only
  split
  · exact ⟨by rw [markCandidate_twn], by rw [markCandidate_twn]⟩
  · exact ⟨by rw [(readPartner_effect _).1, markCandidate_twn], by rw [(readPartner_effect _).1, markCandidate_twn]⟩

theorem formPair_peer (d : Dev) : SamePeer d d.formPair := by
  have hpaired : ∀ m, SamePeer d (Dev.toPair { d with twn := { d.twn with alone := false, found := false } } .mirrored m) :=
    fun m => ⟨by rw [toPair_twn], by rw [toPair_twn]⟩
  unfold Dev.formPair
  dsimp only
  split
  · exact ⟨rfl, rfl⟩
  · split
    · split
      · exact hpaired _
      · split
        · exact hpaired _
        · split
          · exact becomeCandidate_peer d
          · exact ⟨rfl, rfl⟩
    · exact ⟨rfl, rfl⟩

/-- Two sides whose digests fit form their pair as what was heard of the partner decides (R207, R208). -/
theorem formPair_st {d : Dev} (hs : d.twn.st = .pairing) (hc : d.twn.candidate = false) (hm : d.twn.matched = some true) :
    (∀ serving, d.twn.heard = some (serving, PairSt.pairing.code) →
      d.formPair.twn.st = .mirrored ∧ d.formPair.twn.mirror = d.gcr.side) ∧
    (∀ serving, d.twn.heard = some (serving, PairSt.mirrored.code) →
      d.formPair.twn.st = .mirrored ∧ d.formPair.twn.mirror = serving) ∧
    (d.twn.heard = none → d.formPair.twn.st = .pairing) := by
  have hgo : ¬ (d.twn.st ≠ .pairing ∨ d.twn.candidate = true ∨ d.twn.matched ≠ some true) := by simp [hs, hc, hm]
  unfold Dev.formPair
  rw [if_neg hgo]
  refine ⟨fun serving hh => ?_, fun serving hh => ?_, fun hh => ?_⟩
  · simp [hh, toPair_twn]
  · simp [hh, toPair_twn, PairSt.code]
  · simp [hh, hs]

/-- A digest that fits (R207). -/
theorem pairDigest_fits {d : Dev} {digest : Word} {role : Role} {grade : Bool} (hon : d.twinOn = true) (ht : d.tw.st = 3)
    (hs : d.twn.st = .pairing) (hc : d.twn.candidate = false)
    (hfit : digest = d.pairDigest ∧ role = d.gcr.role ∧ grade = d.gcr.grade) (addr : Nat) :
    (pairDigest digest role grade addr d).twn.peer = addr ∧
    (pairDigest digest role grade addr d).twn.matched = some true ∧
    (∀ serving, d.twn.heard = some (serving, PairSt.pairing.code) →
      (pairDigest digest role grade addr d).twn.st = .mirrored ∧
      (pairDigest digest role grade addr d).twn.mirror = d.gcr.side) ∧
    (∀ serving, d.twn.heard = some (serving, PairSt.mirrored.code) →
      (pairDigest digest role grade addr d).twn.st = .mirrored ∧ (pairDigest digest role grade addr d).twn.mirror = serving) ∧
    (d.twn.heard = none → (pairDigest digest role grade addr d).twn.st = .pairing) := by
  have hrun : pairDigest digest role grade addr d =
      Dev.formPair { d with twn := { d.twn with peer := addr, matched := some true } } := by
    unfold pairDigest
    rw [if_neg (by simp [hon, ht]), hfit.1, hfit.2.1, hfit.2.2]
    simp
  rw [hrun]
  have hpeer := formPair_peer { d with twn := { d.twn with peer := addr, matched := some true } }
  exact ⟨hpeer.peer, hpeer.matched,
    formPair_st (d := { d with twn := { d.twn with peer := addr, matched := some true } }) hs hc rfl⟩

/-- A digest that differs (R207). -/
theorem pairDigest_differs {d : Dev} {digest : Word} {role : Role} {grade : Bool} (hon : d.twinOn = true) (ht : d.tw.st = 3)
    (hs : d.twn.st = .pairing) (hno : ¬ (digest = d.pairDigest ∧ role = d.gcr.role ∧ grade = d.gcr.grade)) (addr : Nat) :
    (pairDigest digest role grade addr d).twn.peer = addr ∧
    (pairDigest digest role grade addr d).twn.matched = some false ∧
    (pairDigest digest role grade addr d).flag R.TWN_EVT.CFG_MISMATCH = true ∧
    (pairDigest digest role grade addr d).twn.st ≠ .mirrored := by
  have hno' : (digest == d.pairDigest && role == d.gcr.role && grade == d.gcr.grade) = false := by
    rw [Bool.eq_false_iff]
    intro h
    simp only [Bool.and_eq_true, beq_iff_eq] at h
    exact hno ⟨h.1.1, h.1.2, h.2⟩
  unfold pairDigest
  rw [if_neg (by simp [hon, ht])]
  dsimp only
  rw [hno', if_pos (by decide)]
  generalize hx : Dev.raise { d with twn := { d.twn with peer := addr, matched := some false } } R.TWN_EVT.CFG_MISMATCH = x
  have hflag : x.flag R.TWN_EVT.CFG_MISMATCH = true := by rw [← hx]; exact flag_raise_self _ _ (by decide)
  have htwn : x.twn = { d.twn with peer := addr, matched := some false } := by rw [← hx]; rfl
  have hpairing : x.twn.st = .pairing := by rw [htwn]; exact hs
  obtain ⟨hsame, hflag', hst⟩ := pairFails_effect x hpairing (by decide) (by decide) rfl hflag
  rw [if_pos hpairing]
  exact ⟨hsame.peer.trans (by rw [htwn]), hsame.matched.trans (by rw [htwn]), hflag', hst⟩

/-- The partner does not answer as a serving side (R209). -/
theorem partnerRead_silent {d : Dev} (hs : d.twn.st = .pairing) (ha : d.twn.alone = true) :
    (partnerRead none d).twn.candidate = false ∧
    (partnerRead none d).twn.st = if d.gcr.side then .pairing else .alone := by
  unfold partnerRead
  rw [if_neg (by simp [hs, ha])]
  simp only [Option.filter_none]
  generalize hx : Dev.serveAlone { d with twn := { d.twn with candidate := false, alone := false } } = x
  have hst : x.twn.st = if d.gcr.side then .pairing else .alone := by
    rw [← hx, serveAlone_st, ← hs]
  have hcand : x.twn.candidate = false := by
    rw [← hx, serveAlone_candidate]
    simp
  split
  · rw [(readPartner_effect x).1]
    exact ⟨hcand, hst⟩
  · exact ⟨hcand, hst⟩

/-- The partner answers that it serves (R209). -/
theorem partnerRead_serving {d : Dev} {p : Partner} (hs : d.twn.st = .pairing) (ha : d.twn.alone = true)
    (hp : p.serves = true) :
    (partnerRead (some p) d).twn = { d.twn with candidate := true, found := true, alone := false } ∧
    (d.twn.candidate = false → (partnerRead (some p) d).flag R.TWN_EVT.PEER_ALIVE = true) := by
  have hrun : partnerRead (some p) d = d.markCandidate.readPartner := by
    simp [partnerRead, hs, ha, hp, Option.filter]
  obtain ⟨htwn, hgcr, hregs, -⟩ := readPartner_effect d.markCandidate
  rw [hrun]
  refine ⟨htwn.trans (markCandidate_twn d), fun hc => ?_⟩
  rw [flag_of_regs hregs (congrArg Gcr.role hgcr)]
  unfold Dev.markCandidate Dev.raiseIf
  rw [if_pos (by simp [hc])]
  exact flag_raise_self _ _ (by decide)

/-! ## A copy begins and ends -/

theorem remode_kept (d : Dev) : d.remode.dir = d.dir ∧ d.remode.store = d.store ∧ d.remode.cnf = d.cnf := by
  unfold Dev.remode Dev.toMode
  split
  · split <;> exact ⟨rfl, rfl, rfl⟩
  · exact ⟨rfl, rfl, rfl⟩

/-- A JOIN begins the copy: the directory is as it was. -/
theorem join_effect {d : Dev} (hs : d.twn.st = .alone) (ht : d.tw.st = 3) (hm : d.twn.matched ≠ some false)
    (hl : d.pip.lost = 0) : (join d).twn.st = .copy ∧ (join d).twn.mirror = false ∧ 1 ≤ (join d).twn.phase ∧
      (join d).dir = d.dir := by
  have hdown : d.lostDown = true := by simp [Dev.lostDown, hl]
  unfold join
  rw [if_pos ⟨hs, ht, hm, hdown⟩]
  dsimp only
  generalize hx : Dev.toPair _ .copy false = x
  have htwn : x.twn.st = .copy ∧ x.twn.mirror = false := by
    rw [← hx, toPair_twn]
    exact ⟨rfl, rfl⟩
  have hcopying : Copying d.dir x := by
    rw [← hx]
    refine ⟨?_, by rw [toPair_twn], fun c hc => by rw [toPair_twn] at hc; cases hc⟩
    exact (remode_kept _).1
  have hmoves : Moves Working x x.copyPump := Moves.refl.copyPump
  have hend := hcopying.copyPump
  exact ⟨(hmoves.pair working_rest htwn.2).trans htwn.1, (hmoves.mirror_eq working_rest).trans htwn.2, hend.phase, hend.dir⟩

theorem copyDone_effect {d : Dev} (hs : d.twn.st = .copy) (ho : d.copyOver = true) : (copyDone d).twn.st = .mirrored ∧
    (copyDone d).twn.mirror = d.twn.mirror ∧ (copyDone d).dir = d.dir ∧ (copyDone d).store = d.store ∧
    (copyDone d).cnf = d.cnf ∧ (d.twn.mirror = false → (copyDone d).flag R.TWN_EVT.COPY_DONE = true) := by
  have hpair : ∀ (x : Dev) (m : Bool), x.dir = d.dir ∧ x.store = d.store ∧ x.cnf = d.cnf →
      (x.toPair .mirrored m).twn.st = .mirrored ∧ (x.toPair .mirrored m).twn.mirror = m ∧
      (x.toPair .mirrored m).dir = d.dir ∧ (x.toPair .mirrored m).store = d.store ∧ (x.toPair .mirrored m).cnf = d.cnf :=
    fun x m hx => by
      rw [toPair_twn]
      exact ⟨rfl, rfl, (remode_kept _).1.trans hx.1, (remode_kept _).2.1.trans hx.2.1, (remode_kept _).2.2.trans hx.2.2⟩
  obtain ⟨hst, hmirror, hdir, hstore, hcnf⟩ :=
    hpair { d with twn := { d.twn with liveLines := [], liveTxns := [] } } d.twn.mirror ⟨rfl, rfl, rfl⟩
  unfold copyDone
  rw [if_neg (by simp [hs, ho])]
  dsimp only
  cases hm : d.twn.mirror with
  | true =>
    rw [hm] at hst hmirror hdir hstore hcnf
    rw [if_pos rfl]
    exact ⟨hst, hmirror, hdir, hstore, hcnf, nofun⟩
  | false =>
    rw [hm] at hst hmirror hdir hstore hcnf
    rw [if_neg (by simp)]
    exact ⟨hst, hmirror, hdir, hstore, hcnf, fun _ => flag_raise_self _ _ (by decide)⟩

/-! ## A heartbeat goes out -/

theorem heartbeatOut_sent (d : Dev) :
    ∃ f, d.heartbeatOut.sent =
      [.flit twPort f, .heartbeat (!d.twn.mirror) d.twn.st.code d.twn.epoch d.twn.mseq] ++ d.sent := by
  unfold Dev.heartbeatOut
  obtain ⟨f, hf, -⟩ := controlOut_sent (d.emit (.heartbeat (!d.twn.mirror) d.twn.st.code d.twn.epoch d.twn.mseq)) twPort 4
    (packSlot [(0, 8, 0x3E), (8, 1, flagBit d.twn.mirror), (9, 4, d.twn.st.code), (13, 16, d.twn.epoch), (29, 32, d.twn.mseq)])
  exact ⟨f, hf⟩

theorem heartbeat_effect {d : Dev} (hon : d.twinOn = true) (ht : d.tw.st = 3) : (heartbeat d).twn.st = d.twn.st ∧
    (heartbeat d).drove d (.heartbeat (!d.twn.mirror) d.twn.st.code d.twn.epoch d.twn.mseq) ∧ d.sent <:+ (heartbeat d).sent ∧
    (d.twn.st ≠ .copy → (heartbeat d).cnf = d.cnf ∧ (heartbeat d).dir = d.dir ∧ (heartbeat d).store = d.store) := by
  have hrun : heartbeat d = d.heartbeatOut.copyPump := if_pos ⟨hon, ht⟩
  obtain ⟨f, hsent⟩ := heartbeatOut_sent d
  have hdrove : d.heartbeatOut.drove d (.heartbeat (!d.twn.mirror) d.twn.st.code d.twn.epoch d.twn.mseq) :=
    drove_of_append hsent (by simp)
  have hgrown : d.sent <:+ d.heartbeatOut.sent := ⟨_, hsent.symm⟩
  have hmoves : Moves Working d.heartbeatOut d.heartbeatOut.copyPump := Moves.refl.copyPump
  have hgrow : d.heartbeatOut.sent <:+ d.heartbeatOut.copyPump.sent := (hmoves.grow working_rest).sent
  have hidle : d.twn.st ≠ .copy ∨ d.twn.mirror = true → d.heartbeatOut.copyPump = d.heartbeatOut := fun h => by
    refine if_pos ?_
    rw [Dev.heartbeatOut_twn]
    simpa using h
  rw [hrun]
  refine ⟨?_, drove_mono hdrove hgrown hgrow, hgrown.trans hgrow, fun hc => ?_⟩
  · cases hm : d.twn.mirror with
    | true => rw [hidle (.inr hm), Dev.heartbeatOut_twn]
    | false =>
      refine (hmoves.pair working_rest ?_).trans ?_ <;> rw [Dev.heartbeatOut_twn]
      exact hm
  · rw [hidle (.inl hc)]
    exact ⟨Dev.heartbeatOut_cnf _, Dev.heartbeatOut_dir _, Dev.heartbeatOut_store _⟩

/-! ## The commands -/

/-- Settles O40: what a pair does while it forms, beats, joins and copies. -/
theorem pairingCommands : Obligations.PairingCommands := by
  unfold Obligations.PairingCommands
  refine ⟨?_, ?_, ?_, ?_, ?_, ?_, ?_, ?_, ?_⟩
  · intro s hr hon ht
    obtain ⟨hst, hdrove, hgrown, hkept⟩ := heartbeat_effect hon ht
    exact ⟨_, onCore_runs hr _, by simpa using hst, drove_settle hdrove hgrown, by simpa using hkept⟩
  · intro f serving state epoch mseq s hr ht hc hcrc hk hserves he
    obtain ⟨hst, hmode⟩ := heardLater_effect (awake_mode (Dev.runs_awake hr)) hserves he f serving state
    rw [← otherFlit_good ht hc hcrc hk fun d => d.heard serving state epoch] at hst hmode
    exact ⟨_, (exec_heartbeatReceived ..).trans (onCore_runs hr _), (settle_twn_st _).trans hst,
      (congrArg Gcr.mode (settle_gcr _)).trans hmode⟩
  · intro f epoch mseq s hr ht hc hcrc hk hm hs
    obtain ⟨-, -, hst, hmirror, -⟩ := seeFlit_twin s.dev f
    have heffect := heard_mirrored (hmirror.trans hm) (hst.trans hs) epoch
    rw [← otherFlit_good ht hc hcrc hk fun d => d.heard true 2 epoch] at heffect
    obtain ⟨hst', hmirror', hepoch'⟩ := heffect
    exact ⟨_, (exec_heartbeatReceived ..).trans (onCore_runs hr _), (settle_twn_st _).trans hst',
      (settle_twn_mirror _).trans hmirror', (settle_twn_epoch _).trans hepoch'⟩
  · intro digest role grade addr s hr hon ht hs hc
    refine ⟨_, onCore_runs hr _, ?_⟩
    by_cases hfit : digest = s.dev.pairDigest ∧ role = s.dev.gcr.role ∧ grade = s.dev.gcr.grade
    · obtain ⟨hpeer, hmatched, hform⟩ := pairDigest_fits hon ht hs hc hfit addr
      rw [if_pos hfit]
      exact ⟨by simpa using hpeer, by simpa using hmatched, by simpa using hform⟩
    · obtain ⟨hpeer, hmatched, hflag, hst⟩ := pairDigest_differs hon ht hs hfit addr
      rw [if_neg hfit]
      exact ⟨by simpa using hpeer, by simpa using hmatched, by simpa using hflag, by simpa using hst⟩
  · intro s hr hs hc
    refine ⟨_, onCore_runs hr _, ?_⟩
    have hrun : pairingGuardExpiry s.dev = s.dev.pairFails := if_pos ⟨hs, by simp [hc]⟩
    rw [hrun]
    by_cases hp : s.dev.partnerAddr = 0
    · rw [if_neg (by simp [hp]), pairFails_unknown hp]
      have hst := serveAlone_st s.dev
      split
      · next h => rw [if_pos h, hs] at hst; simpa using hst
      · next h => rw [if_neg h] at hst; simpa using hst
    · rw [if_pos hp]
      obtain ⟨htwn, -, -, hseq⟩ := pairFails_known hp
      exact ⟨by simp [htwn], by simp [htwn, hs], by simpa using hseq⟩
  · intro s hr hs ha
    obtain ⟨hcand, hst⟩ := partnerRead_silent hs ha
    exact ⟨_, onCore_runs hr _, by simpa using hcand, by simpa using hst⟩
  · intro p s hr hs ha hp
    obtain ⟨htwn, hflag⟩ := partnerRead_serving hs ha hp
    exact ⟨_, onCore_runs hr _, by simp [htwn, hs], by simp [htwn], by simpa using hflag⟩
  · intro src s hr hs ht hm hl
    exact ⟨_, onDev_given hr src _, by simpa using join_effect hs ht hm hl⟩
  · intro s hr hs ho
    obtain ⟨hst, hmirror, hdir, hstore, hcnf, hflag⟩ := copyDone_effect hs ho
    refine ⟨_, onCore_runs hr _, ?_⟩
    exact ⟨by simpa using hst, by simpa using hmirror, by simpa using hdir, by simpa using hstore, by simp [hcnf],
      by simpa using hflag⟩

end Sys2Proof.Machine
end

section
/-! SUPPORT. Whatever a command does is moves of a device in which every part may change: what software
sees, and the clocks and power. -/

namespace Sys2Proof.Machine

set_option Elab.async false

variable {base d : Dev}

/-- Every part of the device may change: what is left to say is that the invariant of the device stays. -/
def Any : Part → Prop := fun _ => True

/-- A change of parts of which the invariant says nothing, or of which what it says stays. -/
theorem Moves.aside (h : Moves Any base d)
    {gcr : Gcr} {accH accC accI : Acc1} {clk : Clk} {bel : Bel} {pwr : Pwr} {pur : Pur} {chn : Chn} {cfg : Cfg} {hst : Hst}
    {evc : Evc} {que : Que} {pmu : Pmu} {hdc : Hdc} {pip : Pip} {wbf : Wbf} {dir : Dir} {sdr : Sdr} {cnf : Cnf} {dep : DepS}
    {apd : Apd} {hie : Hie} {twn : Twn} {dsc : Dsc} {ecc : Ecc} {scb : Scb} {tw : Port} {sent : List Out} {free : Nat}
    (hq : que.q = d.que.q := by exact rfl) (hl : dsc.lanes = d.dsc.lanes := by exact rfl)
    (hp : pip.quar = d.pip.quar := by exact rfl) (he : ecc.loc = d.ecc.loc := by exact rfl) : Moves Any base { d with
      gcr := gcr, accH := accH, accC := accC, accI := accI, clk := clk, bel := bel, pwr := pwr, pur := pur, chn := chn,
      cfg := cfg, hst := hst, evc := evc, que := que, pmu := pmu, hdc := hdc, pip := pip, wbf := wbf, dir := dir, sdr := sdr,
      cnf := cnf, dep := dep, apd := apd, hie := hie, twn := twn, dsc := dsc, ecc := ecc, scb := scb, tw := tw, sent := sent,
      free := free } :=
  h.rest trivial fun hi =>
    { store := hi.store
      regs := hi.regs
      ports := hi.ports
      mps := hi.mps
      lanes := (congrArg List.length hl).trans hi.lanes
      queues := (congrArg List.length hq).trans hi.queues
      depth := fun n => (congrArg (fun q : List Queue => ((q[n]?).getD {}).recs.length) hq).trans_le (hi.depth n)
      quar := (congrArg List.length hp).trans_le hi.quar
      loc := (congrArg List.length he).trans_le hi.loc }

theorem Moves.mpsTo (h : Moves Any base d) (x : List Mp) (hl : x.length = d.mps.length := by simp) :
    Moves Any base { d with mps := x } :=
  h.rest trivial fun hi => { hi with mps := hl.trans hi.mps }

/-- The rules that stand after every command are moves too. -/
theorem Moves.settled {e : Dev} (h : Moves Any base d) (hs : SettleRel d e) : Moves Any base e :=
  h.rest trivial fun hi =>
    { store := hs.store ▸ hi.store
      regs := hs.regs ▸ hi.regs
      ports := hs.ports ▸ hi.ports
      mps := hs.mps ▸ hi.mps
      lanes := hs.dsc ▸ hi.lanes
      queues := hs.que ▸ hi.queues
      depth := fun n => by
        have hn : e.queue n = d.queue n := by
          unfold Dev.queue
          rw [hs.que]
        rw [hn]
        exact hi.depth n
      quar := hs.pip ▸ hi.quar
      loc := hs.ecc ▸ hi.loc }

theorem Moves.settle (h : Moves Any base d) : Moves Any base (settle d) := h.settled (settle_rel d)

/-! ## Registers and contents -/

theorem Moves.setRaw (h : Moves Any base d) (ofs : Nat) (w : Word) : Moves Any base (d.setRaw ofs w) :=
  h.rest trivial fun hi => { hi with regs := rising_setRaw _ _ hi.regs }

theorem Moves.bumpWrap (h : Moves Any base d) (f : FieldRef) (n : Nat) : Moves Any base (d.bumpWrap f n) := h.set _ _

/-- Registers go back to their values at reset. -/
theorem Moves.keepRegs (h : Moves Any base d) (p : Nat × Word → Bool) :
    Moves Any base { d with regs := d.regs.filter p } :=
  h.rest trivial fun hi => { hi with regs := rising_filter p hi.regs }

/-- Line slots are zero again. -/
theorem Moves.keepStore (h : Moves Any base d) (p : Nat × Burst → Bool) :
    Moves Any base { d with store := d.store.filter p } :=
  h.rest trivial fun hi => { hi with store := Memory.wf_filter p hi.store }

/-- A queue that holds no more records than before. -/
theorem Moves.setQueue (h : Moves Any base d) (n : Nat) (q : Queue)
    (hq : q.recs.length ≤ (d.queue n).recs.length := by exact Nat.le_refl _) : Moves Any base (d.setQueue n q) :=
  h.queueTo n q (.inr hq)

/-! ## What is asked of a part that may not change -/

theorem Moves.addTxnAny (h : Moves Any base d) (t : Txn) : Moves Any base (d.addTxn t) := h.addTxn t (.inl trivial)

theorem Moves.putDirAny (h : Moves Any base d) (e : DirEnt) : Moves Any base (d.putDir e) := h.putDir e (.inl trivial)

theorem Moves.takeInAny (h : Moves Any base d) (r : Req) : Moves Any base (d.takeIn r) := h.takeIn r (.inl trivial)

theorem Moves.sendAllHeldAny (h : Moves Any base d) : Moves Any base d.sendAllHeld := h.sendAllHeld fun _ _ => .inl trivial

theorem Moves.settleWrBackAny (h : Moves Any base d) (hd : Head) (p : Payload) : Moves Any base (d.settleWrBack hd p) :=
  h.settleWrBack hd p fun _ _ _ _ => .inl trivial

theorem Moves.dirMapAny (h : Moves Any base d) (line : Nat) (f : DirEnt → DirEnt) : Moves Any base (d.dirMap line f) := by
  unfold Dev.dirMap
  split
  · exact .ite (h.dirTouch _) (h.putDirAny _)
  · exact h

theorem Moves.wbReachedAny (h : Moves Any base d) (port : Nat) (p : Payload) (t : Txn) :
    Moves Any base (Dev.wbReached port p d t) := h.wbReached port p t (.inl trivial)

/-! ## What software sees -/

theorem Moves.evq (h : Moves Any base d) (src inst sub a b : Nat) : Moves Any base (d.evq src inst sub a b) :=
  h.evqRaw _ _ _ _ _ _ _ _

theorem Moves.busErr (h : Moves Any base d) (src : Src) (ofs : Nat) (write : Bool) (cause : Nat) :
    Moves Any base (d.busErr src ofs write cause) :=
  (((((((h.set _ _).set _ _).set _ _).set _ _).bumpSat _ _).raise _).raiseIf _ _).emit _

theorem Moves.write (h : Moves Any base d) (src : Src) (ofs : Nat) (k : Dev → Dev) (hk : Moves Any base (k d)) :
    Moves Any base (d.write src ofs k) := by
  unfold Dev.write
  split
  · exact h.busErr _ _ _ _
  · exact .ite (h.busErr _ _ _ _) (hk.emit _)

/-! ## Clocks and power -/

theorem Moves.stopPll (h : Moves Any base d) (k : Nat) : Moves Any base (d.stopPll k) :=
  h.clk _

theorem Moves.outFalls (h : Moves Any base d) (e : Dev) : Moves Any base (e.outFalls d) := .ite (h.emit _) h

theorem Moves.startSwitch (h : Moves Any base d) (s : Selector) (t : Nat) : Moves Any base (d.startSwitch s t) :=
  .ite (h.clk _) (h.raise _)

theorem Moves.dropLinks (h : Moves Any base d) (dom : Nat) : Moves Any base (d.dropLinks dom) := by
  have hdrop := h.foldl (domainLinks dom) fun _ k h => h.dropToken 2 k
  exact .ite (hdrop.foldl _ fun _ _ h => h.setPort _ _) (.ite (hdrop.mpsTo _) (.ite (hdrop.tw _) hdrop))

theorem Moves.clampPads (h : Moves Any base d) (dom : Nat) (c : Clamp) : Moves Any base (d.clampPads dom c) :=
  .ite h ((h.pwr _).emit _)

theorem Moves.clampDom (h : Moves Any base d) (dom : Nat) : Moves Any base (d.clampDom dom) := by
  unfold Dev.clampDom
  split
  · exact h.clampPads _ _
  · exact h

theorem Moves.latchPads (h : Moves Any base d) (dom : Nat) : Moves Any base (d.latchPads dom) :=
  .ite h (h.aside.emit _)

theorem Moves.turnOff (h : Moves Any base d) (dom : Nat) : Moves Any base (d.turnOff dom) :=
  (((((h.clampDom _).dropLinks _).foldl _ (fun _ _ h => h.stopPll _)).latchPads _).pwr _).outFalls _

theorem Moves.vrRead (h : Moves Any base d) (w ma : Nat) : Moves Any base (d.vrRead w ma) :=
  (((h.pmbus _ _).pmbus _ _).set _ _).set _ _

theorem Moves.dvfsStarted (h : Moves Any base d) : Moves Any base d.dvfsStarted := by
  unfold Dev.dvfsStarted
  split
  · exact .ite (h.dvfsRun _ _) h
  · exact h

theorem Moves.dvfsBegin (h : Moves Any base d) (f v : Nat) (token : Bool) : Moves Any base (d.dvfsBegin f v token) :=
  .ite ((h.pwr _).wantToken _ _) (h.dvfsWork _ _)

theorem Moves.wakeDomains (h : Moves Any base d) (z : Doze) : Moves Any base (d.wakeDomains z) :=
  (h.pwr _).foldl _ (fun _ _ h => h.turnOn _)

theorem Moves.wakeMem (h : Moves Any base d) (z : Doze) : Moves Any base (d.wakeMem z) :=
  .ite (h.wakeDomains _) ((h.pwr _).startPll _)

theorem Moves.wakeStepped (h : Moves Any base d) : Moves Any base d.wakeStepped := by
  unfold Dev.wakeStepped
  split
  · exact .ite (h.wakeMem _) h
  · exact h

theorem Moves.wakeLocked (h : Moves Any base d) : Moves Any base d.wakeLocked := by
  unfold Dev.wakeLocked
  split
  · exact .ite (h.wakeDomains _) h
  · exact h

theorem Moves.dvfsEnd (h : Moves Any base d) : Moves Any base d.dvfsEnd := by
  unfold Dev.dvfsEnd
  dsimp only
  split
  · exact (((h.pwr _).dropToken _ _).raise _).wakeStepped
  · exact .ite ((((((h.pwr _).dropToken _ _).raise _).wakeStepped).pwr _).raise _) ((((((h.pwr _).dropToken _ _).raise
    _).wakeStepped).pwr _).dvfsBegin _ _ _)

theorem Moves.dvfsSwitched (h : Moves Any base d) : Moves Any base d.dvfsSwitched := by
  unfold Dev.dvfsSwitched
  split
  · exact .ite (.ite (h.aside.voutCommand _) ((h.pwr _).dvfsEnd)) h
  · exact h

theorem Moves.dvfsReady (h : Moves Any base d) : Moves Any base d.dvfsReady := by
  unfold Dev.dvfsReady
  split
  · exact .ite ((h.pwr _).startSwitch _ _) h
  · exact h

theorem Moves.dvfsLocked (h : Moves Any base d) (k : Nat) : Moves Any base (d.dvfsLocked k) := by
  unfold Dev.dvfsLocked
  refine .ite (.ite (h.startSwitch _ _) h) ?_
  dsimp only
  split
  · exact .ite ((h.pwr _).dvfsReady) h
  · exact h

theorem Moves.dvfsVolt (h : Moves Any base d) : Moves Any base d.dvfsVolt := by
  unfold Dev.dvfsVolt
  split
  · exact .ite (.ite ((h.pwr _).dvfsEnd) h.aside.dvfsReady) h
  · exact h

theorem Moves.returnToken (h : Moves Any base d) (k who : Nat) : Moves Any base (d.returnToken k who) :=
  (h.dropToken _ _).grantTokens

theorem Moves.easeActs (h : Moves Any base d) (lane n : Nat) (p : Nat → Bool) : Moves Any base (d.easeActs lane n p) :=
  h.setLane _ _

theorem Moves.closeWindow (h : Moves Any base d) : Moves Any base d.closeWindow :=
  h.ecc _ fun hl => (List.length_filter_le ..).trans hl

end Sys2Proof.Machine
end

section
/-! SUPPORT. Departures and append streams: what their commands do is moves. -/

namespace Sys2Proof.Machine

set_option Elab.async false

variable {base d : Dev}

/-! ## Release -/

theorem Moves.releasePort {r : Dep × Dev} (h : Moves Any base r.2) (n : Nat) : Moves Any base (Dev.releasePort r n).2 := by
  unfold Dev.releasePort
  dsimp only
  split
  · exact h
  · split
    · exact h.dropCopy _ _
    · split
      · exact h.raiseIf _ _
      · exact h.startOn _ _

/-- A walk over the ports that carries a departure along. -/
theorem Moves.foldlSnd {α β : Type} {f : β × Dev → α → β × Dev} {r : β × Dev} (h : Moves Any base r.2) (l : List α)
    (hf : ∀ r x, Moves Any base r.2 → Moves Any base (f r x).2) : Moves Any base (l.foldl f r).2 := by
  induction l generalizing r with
  | nil => exact h
  | cons x l ih => exact ih (hf r x h)

theorem Moves.startNexts (h : Moves Any base d) (e : Dep) : Moves Any base (d.startNexts e) :=
  .ite h (h.foldl _ (fun _ _ h => h.startNext _))

theorem Moves.releaseAll (h : Moves Any base d) (e : Dep) : Moves Any base (d.releaseAll e) := by
  have hall : Moves Any base (e.ports.foldl Dev.releasePort (e, d)).2 := .foldlSnd h _ fun _ n h => h.releasePort n
  exact ((hall.putDep _).closeDep _).startNexts _

/-! ## Cancels -/

theorem Moves.setStale (h : Moves Any base d) (l : List (Nat × Nat × Bool)) : Moves Any base (d.setStale l) :=
  (h.dep _).mirror _

theorem Moves.unannounce (h : Moves Any base d) (e : Dep) (adm : Bool) : Moves Any base (d.unannounce e adm) :=
  .ite (h.foldl _ (fun _ _ h => h.tell _ _)) ((h.foldl _ (fun _ _ h => h.tell _ _)).setStale _)

theorem Moves.cancelDep (h : Moves Any base d) (e : Dep) : Moves Any base (d.cancelDep e) :=
  (Moves.ite ((Moves.ite (h.respond _ _) h).unannounce _ _) (.ite (h.respond _ _) h)).recordDep _ _

theorem Moves.cancelUnstarted (h : Moves Any base d) : Moves Any base d.cancelUnstarted :=
  h.foldl _ (fun _ _ h => h.cancelDep _)

/-! ## The next level -/

theorem Moves.mpNext (h : Moves Any base d) (n : Nat) : Moves Any base (d.mpNext n) := by
  unfold Dev.mpNext
  split
  · exact h
  · exact .ite ((h.setMp _ _).memRead _) h

theorem Moves.mpStart (h : Moves Any base d) (n : Nat) : Moves Any base (d.mpStart n) :=
  (h.setMp _ _).foldl _ (fun _ _ h => h.memRead _)

/-! ## Manager snoops and DepBoard at a worker -/

theorem Moves.mgrDrainAll (h : Moves Any base d) : Moves Any base d.mgrDrainAll :=
  h.foldl _ (fun _ _ h => h.mgrDrained _)

/-! ## Admission -/

theorem Moves.depart (hd : Moves Any base d) (h : Head) (count : Nat) (t : BitVec 64) (man dtag odev : Nat) :
    Moves Any base (depart h count t man dtag odev d) :=
  .ite hd (.ite (hd.dep _) (hd.takeDepart _))

/-! ## Announcements -/

theorem Moves.repeatDep (h : Moves Any base d) (e a : Dep) : Moves Any base (d.repeatDep e a) :=
  .ite (((h.saveDep _).raise _).bumpSat _ _) h

theorem Moves.depAnnounce (h : Moves Any base d) (uplink : Nat) (a : Dep) : Moves Any base (depAnnounce uplink a d) := by
  unfold Machine.depAnnounce
  refine .ite h ?_
  dsimp only
  split
  · exact (h.repeatDep _ _).tell _ _
  · refine .ite ((h.raise _).tell _ _) ?_
    split
    · exact .ite (((h.enterDep _).countDep _).tell _ _) (h.tell _ _)
    · exact h.tell _ _

theorem Moves.takeStale (h : Moves Any base d) (port idx : Nat) (accepted : Bool) :
    Moves Any base (d.takeStale port idx accepted) := by
  unfold Dev.takeStale
  dsimp only
  split
  · exact h
  · split
    · exact (Moves.ite ((h.setStale _).tell _ _) (h.setStale _)).announceTo _ _
    · exact .ite ((h.setStale _).tell _ _) (h.setStale _)

theorem Moves.allAccepted (h : Moves Any base d) (e : Dep) : Moves Any base (d.allAccepted e) :=
  .ite ((((h.saveDep _).countDep _).respond _ _).recordDep _ _) ((Moves.ite ((h.saveDep _).foldl _ (fun _ _ h => h.tell _ _))
    (h.saveDep _)).admitDep _)

theorem Moves.depAccept (h : Moves Any base d) (port idx : Nat) (empty : Bool) :
    Moves Any base (depAccept port idx empty d) := by
  unfold Machine.depAccept
  refine .ite h (.ite (h.takeStale _ _ _) ?_)
  dsimp only
  split
  · exact .ite (.ite (h.allAccepted _) (h.saveDep _)) h
  · exact h

theorem Moves.refuseAnnounced (h : Moves Any base d) (e : Dep) (k : Nat) : Moves Any base (d.refuseAnnounced e k) :=
  (((h.unannounce _ _).dropDep _).mirror _).refuseDep _

theorem Moves.depRefuse (h : Moves Any base d) (port idx : Nat) : Moves Any base (depRefuse port idx d) := by
  unfold Machine.depRefuse
  refine .ite h (.ite (h.takeStale _ _ _) ?_)
  split
  · exact .ite (h.refuseAnnounced _ _) h
  · exact h

theorem Moves.completeAlone (h : Moves Any base d) (e : Dep) : Moves Any base (d.completeAlone e) := by
  unfold Dev.completeAlone
  refine h.foldl _ (fun _ _ h => ?_)
  dsimp only
  split
  · exact h.freePoison.stageLine _ _
  · exact h

theorem Moves.depCancelMsg (h : Moves Any base d) (uplink idx : Nat) (adm : Bool) :
    Moves Any base (depCancelMsg uplink idx adm d) := by
  unfold Machine.depCancelMsg
  refine .ite h ?_
  split
  · exact .ite ((h.dropDep _).mirror _) (.ite ((h.cancelDep _).startNexts _) (h.completeAlone _))
  · exact h

/-! ## Boarding -/

theorem Moves.boardingStart (h : Moves Any base d) (idx : Nat) : Moves Any base (boardingStart idx d) := by
  unfold Machine.boardingStart
  split
  · exact .ite (h.startBoarding _) h
  · exact h

theorem Moves.depBoardMiss (h : Moves Any base d) (port idx line : Nat) : Moves Any base (depBoardMiss port idx line d) := by
  unfold Machine.depBoardMiss
  split
  · exact .ite (h.putTxn _) (h.boardLines _ _)
  · exact h

theorem Moves.depLineFromWorker (h : Moves Any base d) (port idx : Nat) (b : Boarded) :
    Moves Any base (depLineFromWorker port idx b d) := by
  unfold Machine.depLineFromWorker
  split
  · exact (h.putTxn _).boardLine _ _ _ _
  · exact h

theorem Moves.depLineToWorker (h : Moves Any base d) (uplink idx : Nat) (b : Boarded) :
    Moves Any base (depLineToWorker uplink idx b d) := by
  unfold Machine.depLineToWorker
  refine .ite h (Moves.tell ?_ _ _)
  split
  · exact .ite h (h.stageLine _ _)
  · exact h

theorem Moves.managerDone (h : Moves Any base d) (e : Dep) : Moves Any base (d.managerDone e) :=
  .ite h (.ite (h.recordDep _ _) (.ite (((h.raise _).bumpSat _ _).recordDep _ _) (h.recordDep _ _)))

theorem Moves.depAckAtManager (h : Moves Any base d) (port idx lidx : Nat) :
    Moves Any base (depAckAtManager port idx lidx d) := by
  unfold Machine.depAckAtManager
  refine .ite h ?_
  dsimp only
  split
  · exact .ite ((h.saveDep _).managerDone _) h
  · exact h

/-! ## Release -/

theorem Moves.quietWindow (h : Moves Any base d) (idx : Nat) : Moves Any base (quietWindow idx d) := by
  unfold Machine.quietWindow
  split
  · exact .ite (h.putDep _) h
  · exact h

theorem Moves.departureRelease (h : Moves Any base d) (idx : Nat) : Moves Any base (departureRelease idx d) := by
  unfold Machine.departureRelease
  split
  · exact .ite h (.ite (h.releaseAll _) ((h.missDep _).startNexts _))
  · exact h

theorem Moves.lateStaged (h : Moves Any base d) (idx : Nat) : Moves Any base (lateStaged idx d) := by
  unfold Machine.lateStaged
  split
  · exact .ite ((((h.raise _).bumpSat _ _).pmu1 _ _).releaseAll _) h
  · exact h

theorem Moves.immediateRelease (h : Moves Any base d) (idx port : Nat) : Moves Any base (immediateRelease idx port d) := by
  unfold Machine.immediateRelease
  split
  · next e _ =>
    have hport := (Moves.pmu1 h 0x022 (if e.started.isEmpty then 1 else 0)).releasePort (r := (e, _)) port
    exact .ite (((hport.putDep _).closeDep _).startNext _) h
  · exact h

theorem Moves.slotsBetweenAny (h : Moves Any base d) (n k : Nat) (l : List Msg) (blocked : List (Option Nat)) (s : List DepSlot)
    (keep : List Msg) : Moves Any base (Dev.slotsBetween n k l blocked s d keep).2 := by
  induction l generalizing k blocked s d keep with
  | nil => exact h.setPort n _
  | cons m l ih =>
    unfold Dev.slotsBetween
    split
    · exact ih (h.sendOff n m) ..
    · exact ih h ..

theorem Moves.endOn {r : Dep × Dev} (h : Moves Any base r.2) (n : Nat) : Moves Any base (Dev.endOn r n).2 := by
  unfold Dev.endOn
  dsimp only
  split
  · exact (((h.slotsBetweenAny n 45 _ [] [] []).setPort _ _).foldl _ fun _ _ h => h.depFlit _ _).sendLines _ _ _
  · exact h

theorem Moves.releaseEnd (h : Moves Any base d) (idx : Nat) : Moves Any base (releaseEnd idx d) := by
  unfold Machine.releaseEnd
  split
  · next e _ =>
    have hall : Moves Any base (e.ports.foldl Dev.endOn (e, d)).2 := .foldlSnd h _ fun _ n h => h.endOn n
    exact .ite ((((hall.putDep _).closeDep _).startNexts _).pumpDep _) h
  · exact h

/-! ## Cancel and disable -/

theorem Moves.slotLost (h : Moves Any base d) (n : Nat) : Moves Any base (d.slotLost n) :=
  .ite h ((Moves.ite (h.setStale _) h).foldl _ (fun _ _ h => (.ite (h.refuseAnnounced _ _) (.ite ((h.saveDep _).managerDone
    _) h))))

theorem Moves.depCancelGo (h : Moves Any base d) : Moves Any base (depCancelGo d) := by
  unfold Machine.depCancelGo
  split
  · exact ((h.cancelDep _).startNexts _).set _ _
  · exact h.set _ _

theorem Moves.depDisable (h : Moves Any base d) : Moves Any base (depDisable d) :=
  .ite ((h.set _ _).dep _) h

/-! ## Append requests -/

theorem Moves.retryAppends (h : Moves Any base d) : Moves Any base d.retryAppends :=
  h.foldl _ (fun _ _ h => h.retryAppend _)

/-! ## Completion -/

theorem Moves.apdComplete (h : Moves Any base d) (t : Txn) (n off : Nat) : Moves Any base (d.apdComplete t n off) :=
  ((((h.freeTxn _).fillPlace _).commitStream _ _).pumpStreams).retryAppends

theorem Moves.apdLineWriteDone (h : Moves Any base d) (n off : Nat) : Moves Any base (apdLineWriteDone n off d) := by
  unfold Machine.apdLineWriteDone
  split
  · exact .ite (h.apdComplete _ _ _) h
  · exact h

theorem Moves.apdFail (h : Moves Any base d) (t : Txn) (n off : Nat) : Moves Any base (d.apdFail t n off) :=
  ((((((h.giveUpWay _).freeTxn _).fillPlace _).setStream _ _).report _ _ _ _ _).pumpStreams).retryAppends

theorem Moves.lineFail (h : Moves Any base d) (n off : Nat) : Moves Any base (lineFail n off d) := by
  unfold Machine.lineFail
  split
  · exact .ite (h.apdFail _ _ _) h
  · exact h

/-! ## Closing partial lines -/

theorem Moves.closeStream (h : Moves Any base d) (n : Nat) : Moves Any base (d.closeStream n) :=
  .ite ((h.commitStream _ _).pumpStreams) h

theorem Moves.closeSoon (h : Moves Any base d) (n : Nat) (wait : Bool) : Moves Any base (d.closeSoon n wait) :=
  .ite (h.putStream _ _) (h.closeStream _)

theorem Moves.streamCycle (h : Moves Any base d) (n : Nat) : Moves Any base (d.streamCycle n) :=
  .ite ((Moves.ite (h.putStream _ _) h).closeStream _) (.ite (h.putStream _ _) h)

theorem Moves.streamCycles (h : Moves Any base d) : Moves Any base d.streamCycles :=
  h.foldl _ (fun _ _ h => h.streamCycle _)

/-! ## Enable, disable, descriptors -/

theorem Moves.streamEnable (h : Moves Any base d) (n : Nat) : Moves Any base (streamEnable n d) :=
  .ite h (.ite (h.putStream _ _) (h.raise _))

theorem Moves.streamDisable (h : Moves Any base d) (n : Nat) : Moves Any base (streamDisable n d) :=
  .ite ((h.closeStream _).putStream _ _) h

theorem Moves.apdHeadWrite (hd : Moves Any base d) (n : Nat) (h : BitVec 64) : Moves Any base (apdHeadWrite n h d) :=
  .ite (hd.putStream _ _) (hd.raise _)

theorem Moves.apdDescriptorWrite (h : Moves Any base d) (n : Nat) (r : ApdReg) (v : BitVec 64) :
    Moves Any base (apdDescriptorWrite n r v d) := by
  unfold Machine.apdDescriptorWrite
  refine .ite (h.raise _) ?_
  split
  · exact h.set64 _ _
  · exact h.setRaw _ _
  · exact h.putStream _ _

end Sys2Proof.Machine
end

section
/-! SUPPORT. The chain, events, queues, counters, refresh, clocks and power: what their commands do is moves. -/

namespace Sys2Proof.Machine

set_option Elab.async false

variable {base d : Dev}

/-! ## Chain requests -/

theorem Moves.chainSend (h : Moves Any base d) (dst src : Nat) (use : ChnUse) (f : Frame) :
    Moves Any base (d.chainSend dst src use f) :=
  h.aside.emit _

theorem Moves.sendEvt (h : Moves Any base d) (w bits : Nat) : Moves Any base (d.sendEvt w bits) :=
  .ite (h.evqRaw _ _ _ _ _ _ _ _) ((h.evc _).chainSend _ _ _ _)

theorem Moves.evtFrameSend (h : Moves Any base d) (w : Nat) : Moves Any base (evtFrameSend w d) :=
  .ite h (.ite ((h.evc _).sendEvt _ _) (.ite ((h.evc _).sendEvt _ _) h))

/-! ## MSI-X -/

theorem Moves.evcRearm (h : Moves Any base d) (word : Nat) (mask : Word) : Moves Any base (evcRearm word mask d) :=
  h.evc _

theorem Moves.pbaRelease (h : Moves Any base d) : Moves Any base (pbaRelease d) :=
  ((Moves.ite h h.aside).aside).returnToken _ _

theorem Moves.hstLinkDown (h : Moves Any base d) : Moves Any base (hstLinkDown d) :=
  .ite ((h.aside.raise _).askToken _ _) h

theorem setLatch_recs (q : Queue) (src : Src) (l : List Word) (w : Word) : (q.setLatch src l w).recs = q.recs := by
  cases src <;> rfl

/-! ## Queue reads -/

theorem Moves.queRead (h : Moves Any base d) (src : Src) (n : Nat) : Moves Any base (d.queRead src n).2 := by
  unfold Dev.queRead
  dsimp only
  split
  · exact h.setQueue _ _ (by rw [setLatch_recs])
  · split
    · next hr => exact h.setQueue _ _ (by rw [setLatch_recs, hr]; exact Nat.le_succ _)
    · exact (h.set _ _).raise _

theorem Moves.queDataRead (h : Moves Any base d) (src : Src) (n size : Nat) : Moves Any base (queDataRead src n size d) := by
  unfold Machine.queDataRead
  dsimp only
  split
  · exact h.busErr _ _ _ _
  · exact .ite (h.emit _) (.ite (h.busErr _ _ _ _) (.ite ((((h.queRead _ _).emit _).queRead _ _).emit _) ((h.queRead _
    _).emit _)))

theorem Moves.queDrop (h : Moves Any base d) (src : Src) (n : Nat) : Moves Any base (queDrop src n d) := by
  unfold Machine.queDrop
  refine .ite ?_ (h.setQueue _ _ (by rw [setLatch_recs]))
  split
  · exact h.aside
  · exact h.aside

/-! ## The mailbox -/

theorem Moves.setMboHalf (h : Moves Any base d) (src : Src) (w : Option Word) : Moves Any base (d.setMboHalf src w) := by
  unfold Dev.setMboHalf
  split
  · exact h.aside
  · exact h.aside

theorem Moves.mboWrite (h : Moves Any base d) (src : Src) (v : Word) : Moves Any base (mboWrite src v d) := by
  unfold Machine.mboWrite
  split
  · exact h.setMboHalf _ _
  · exact (h.setMboHalf _ _).push _ _

theorem Moves.mboSend (h : Moves Any base d) : Moves Any base (mboSend d) := by
  unfold Machine.mboSend
  refine .ite h ?_
  split
  · exact h.chainSend _ _ _ _
  · exact h

theorem Moves.mboAnswered (h : Moves Any base d) (ok : Bool) : Moves Any base (d.mboAnswered ok) := by
  have hsent : Moves Any base (d.setQueue 4 { d.queue 4 with recs := (d.queue 4).recs.drop 1 }) :=
    h.setQueue _ _ (by rw [List.length_drop]; exact Nat.sub_le _ _)
  exact .ite hsent ((hsent.raise _).bumpSat _ _)

/-! ## Counters -/

theorem Moves.pmuClear (h : Moves Any base d) : Moves Any base (pmuClear d) := (h.keepRegs _).pmu _

theorem Moves.counterWrap (h : Moves Any base d) (fixed : Bool) (n : Nat) : Moves Any base (counterWrap fixed n d) :=
  .ite h (.ite (((h.pmu _).set _ _).raise _) (.ite (((h.pmu _).set _ _).pmu _) ((h.pmu _).set _ _)))

theorem Moves.sample (h : Moves Any base d) (skid : Nat) : Moves Any base (sample skid d) := by
  unfold Machine.sample
  split
  · exact h
  · exact .ite (((h.pmu _).bumpSat _ _).raise _) ((Moves.ite ((((((((((((h.pmu _).set _ _).set _ _).set _ _).set _ _).set _
    _).set _ _).set _ _).set _ _).set64 _ _).set64 _ _).set _ _) (((((((((((h.pmu _).set _ _).set _ _).set _ _).set _ _).set
      _ _).set _ _).set _ _).set _ _).set64 _ _).set64 _ _)).raise _)

theorem Moves.pmuSmpDone (h : Moves Any base d) : Moves Any base (pmuSmpDone d) :=
  h.set _ _

/-! ## One core cycle -/

theorem Moves.count (h : Moves Any base d) (fixed : Bool) (n lo v : Nat) (sat : Bool) :
    Moves Any base (d.count fixed n lo v sat) :=
  .ite h (.ite (h.set64 _ _) ((h.pmu _).set64 _ _))

theorem Moves.countCycle (h : Moves Any base d) (slots : List SlotUse) : Moves Any base (d.countCycle slots) :=
  .ite h ((h.foldl _ (fun _ _ h => (.ite (h.count _ _ _ _ _) h))).foldl _ (fun _ _ h => (.ite (h.count _ _ _ _ _) h)))

theorem Moves.tally (h : Moves Any base d) : Moves Any base d.tally :=
  (Moves.ite ((h.countCycle _).bump64 _ _) (h.countCycle _)).aside

theorem Moves.eachRank (h : Moves Any base d) (n : Nat) (cmd : String) (arg : Nat) : Moves Any base (d.eachRank n cmd arg) :=
  h.foldl _ (fun _ _ h => h.emit _)

theorem Moves.zqLane (h : Moves Any base d) (n : Nat) : Moves Any base (d.zqLane n) :=
  h.eachRank _ _ _

/-! ## Refresh -/

theorem Moves.armRefresh (h : Moves Any base d) (n rank : Nat) : Moves Any base (d.armRefresh n rank) :=
  h.setLane _ _

theorem Moves.refreshOnce (h : Moves Any base d) (n rank : Nat) : Moves Any base (d.refreshOnce n rank) := by
  have hsame : Moves Any base (([0, 1, 2, 3].foldl (fun d b => d.emit (.laneCmd n rank "REFsb" b)) d).pmu1 (0x243 + 8 * n) 4) :=
    (h.foldl [0, 1, 2, 3] fun _ _ h => h.emit _).pmu1 _ _
  have hcmd := Moves.ite (c := d.flag R.DSC_CFG.REF_MODE) hsame ((h.emit (.laneCmd n rank "REFab" 0)).pmu1 (0x243 + 8 * n) 1)
  unfold Dev.refreshOnce
  exact hcmd.easeActs _ _ _

theorem Moves.issueRefresh (h : Moves Any base d) (n rank k : Nat) : Moves Any base (Dev.issueRefresh n rank k d) := by
  induction k generalizing d with
  | zero => exact h
  | succ k ih => exact ih (h.refreshOnce n rank)

theorem Moves.burstRefresh (h : Moves Any base d) (n rank : Nat) : Moves Any base (d.burstRefresh n rank) :=
  ((h.issueRefresh _ _ _).setLane _ _).returnToken _ _

/-! ## Self-refresh -/

theorem Moves.rankSleeps (h : Moves Any base d) (n rank : Nat) : Moves Any base (Dev.rankSleeps n d rank) :=
  (Moves.ite h (h.burstRefresh _ _)).emit _

theorem Moves.laneSleeps (h : Moves Any base d) (n : Nat) : Moves Any base (d.laneSleeps n) :=
  .ite ((h.foldl _ (fun _ _ h => h.rankSleeps _ _)).setLane _ _) h

theorem Moves.laneLives (h : Moves Any base d) (n : Nat) : Moves Any base (d.laneLives n) :=
  (h.setLane _ _).foldl _ (fun _ _ h => h.armRefresh _ _)

/-! ## Header fill -/

theorem Moves.runActs (h : Moves Any base d) (lane first next : Nat) : Moves Any base (d.runActs lane first next) :=
  h.takeFree.foldl _ (fun _ _ h => (.ite h (.ite ((h.pmu1 _ _).setLane _ _) (h.pmu1 _ _))))

theorem Moves.fillTo (h : Moves Any base d) (next : Nat) : Moves Any base (d.fillTo next) := by
  unfold Dev.fillTo
  refine .ite h ?_
  exact ((((((((h.keepStore _).aside.laneWrite _ _ _ _).laneWrite _ _ _ _).pmu1 _ _).pmu1 _ _).pmu1 _ _).runActs _ _ _).runActs
    _ _ _).emit _

theorem Moves.fillStep (h : Moves Any base d) : Moves Any base d.fillStep :=
  .ite (h.takeFree.fillTo _) h

/-! ## Recovery on AON and wake-step timeouts -/

/-- Only AON keeps its state: everything else is as at reset (R520). -/
theorem Moves.aonOnly (h : Moves Any base d) : Moves Any base d.aonOnly :=
  h.rest trivial fun hi => { resetInvariant with store := hi.store, regs := rising_filter _ hi.regs }

theorem Moves.stopPlls (h : Moves Any base d) : Moves Any base d.stopPlls :=
  h.foldl _ fun _ _ h => h.stopPll _

theorem Moves.flushReady (h : Moves Any base d) : Moves Any base d.flushReady :=
  h.foldl _ (fun _ _ h => h.cleanHeader _)

theorem Moves.recoverAon (h : Moves Any base d) : Moves Any base d.recoverAon :=
  (((((((((h.flushReady.pur _).foldl _ (fun _ _ h => h.laneSleeps _)).foldl _ (fun _ _ h => h.clampDom _)).foldl _ (fun _ _ h
    => h.latchPads _)).aonOnly).stopPlls).outFalls _).toMode _).faultN).oweFrame _

theorem Moves.wakeRepeat (h : Moves Any base d) (step dom : Nat) : Moves Any base (d.wakeRepeat step dom) :=
  .ite (h.voutCommand _) (.ite ((h.driveRail _ _).driveRail _ _) h)

theorem Moves.wakeTimeout (h : Moves Any base d) (step dom unit : Nat) : Moves Any base (d.wakeTimeout step dom unit) :=
  .ite (((((h.set _ _).set _ _).set _ _).raise _).recoverAon) (((((((h.set _ _).set _ _).set _ _).raise _).wakeDone _ _).pwr
    _).wakeRepeat _ _)

theorem Moves.pllTimedOut (h : Moves Any base d) (k : Nat) : Moves Any base (d.pllTimedOut k) :=
  (h.raise _).wakeTimeout _ _ _

/-! ## Crystal and PLLs -/

theorem Moves.crystalReady (h : Moves Any base d) : Moves Any base (crystalReady d) :=
  .ite h ((h.setSource _ _ _).startSwitch _ _)

theorem Moves.xtalFail (h : Moves Any base d) : Moves Any base (xtalFail d) :=
  .ite h ((((h.clk _).raise _).oweFrame _).startPll _)

theorem Moves.xtalRetry (h : Moves Any base d) : Moves Any base (xtalRetry d) :=
  h.clk _

theorem Moves.xtalLost (h : Moves Any base d) : Moves Any base (xtalLost d) :=
  .ite h (((((((h.setSource _ _ _).raise _).clk _).setSource _ _ _).startPll _).foldl _ (fun _ _ h => h.coast _)).enterRecovery)

theorem Moves.bellLock (h : Moves Any base d) : Moves Any base (bellLock d) :=
  .ite h (((h.setSource _ _ _).wakeDone _ _).aside)

theorem Moves.takeAddr (h : Moves Any base d) (a : Nat) : Moves Any base (d.takeAddr a) :=
  h.aside.raiseIf _ _

theorem Moves.startRollCall (h : Moves Any base d) : Moves Any base d.startRollCall :=
  ((h.free _).takeAddr _).chainSend _ _ _ _

theorem Moves.chainUsable (h : Moves Any base d) : Moves Any base d.chainUsable :=
  .ite h.startRollCall h

theorem Moves.pllLock (h : Moves Any base d) (k : Nat) : Moves Any base (pllLock k d) :=
  .ite h.bellLock (.ite h (.ite ((((h.clk _).setSource _ _ _).wakeDone _ _).dvfsLocked _) (.ite ((((h.clk _).setSource _ _
    _).wakeDone _ _).chainUsable) (.ite ((((h.clk _).setSource _ _ _).wakeDone _ _).wakeLocked) (((h.clk _).setSource _ _
      _).wakeDone _ _)))))

theorem Moves.pllTimeout (h : Moves Any base d) (k : Nat) : Moves Any base (pllTimeout k d) :=
  .ite h (h.pllTimedOut _)

theorem Moves.bellLost (h : Moves Any base d) : Moves Any base (bellLost d) :=
  .ite h (((((h.setSource _ _ _).raise _).aside).report _ _ _ _ _).cancelUnstarted)

theorem Moves.pllFail (h : Moves Any base d) (k : Nat) : Moves Any base (pllFail k d) :=
  .ite h.bellLost (h.coast _)

theorem Moves.pllRelock (h : Moves Any base d) (k : Nat) : Moves Any base (pllRelock k d) :=
  .ite h.bellLock (.ite (h.setSource _ _ _) h)

/-! ## Switches and gates -/

theorem Moves.hostStarts (h : Moves Any base d) : Moves Any base d.hostStarts :=
  .ite (h.askToken _ _) h

theorem Moves.finishSwitch (h : Moves Any base d) (sel : Selector) (t : Nat) : Moves Any base (d.finishSwitch sel t) := by
  unfold Dev.finishSwitch
  dsimp only
  split
  · exact .ite (((h.aside.startPll _).startPll _).hostStarts) (h.aside.startPll _)
  · exact .ite h.aside.dvfsStarted ((h.aside.stopPll _).dvfsSwitched)
  · exact h.aside.outFalls _
  · exact h.aside

theorem Moves.clockSwitch (h : Moves Any base d) (sel : Selector) : Moves Any base (clockSwitch sel d) := by
  unfold Machine.clockSwitch
  split
  · exact .ite h (h.finishSwitch _ _)
  · exact h

theorem Moves.forced (h : Moves Any base d) (sel : Selector) : Moves Any base (forced sel d) := by
  unfold Machine.forced
  split
  · exact .ite (((h.finishSwitch _ _).set _ _).raise _) h
  · exact h

theorem Moves.gateBit (h : Moves Any base d) (v : BitVec 11) (b : Nat) : Moves Any base (Dev.gateBit v d b) :=
  .ite (h.clk _) (.ite h (.ite (h.raise _) (h.clk _)))

theorem Moves.clkForceGate (h : Moves Any base d) (v : BitVec 11) : Moves Any base (clkForceGate v d) :=
  h.foldl _ (fun _ _ h => h.gateBit _ _)

theorem Moves.gateClose (h : Moves Any base d) (b : Nat) : Moves Any base (gateClose b d) :=
  .ite ((h.clk _).outFalls _) h

/-! ## CLK_OUT and the measurement -/

theorem Moves.clkOutCfgWrite (h : Moves Any base d) (v : Word) : Moves Any base (clkOutCfgWrite v d) :=
  .ite (.ite (((h.set _ _).set _ _).startSwitch _ _) ((h.set _ _).set _ _)) (h.raise _)

theorem Moves.clkMeasGo (h : Moves Any base d) (sel : Nat) : Moves Any base (clkMeasGo sel d) :=
  .ite (h.set _ _) (.ite ((((h.set _ _).set _ _).clk _).startSwitch _ _) ((h.set _ _).raise _))

theorem Moves.measDone (h : Moves Any base d) (khz : Nat) : Moves Any base (measDone khz d) :=
  .ite h ((((h.clk _).set _ _).set _ _).raise _)

/-! ## The bell -/

theorem Moves.belDisarm (h : Moves Any base d) : Moves Any base (belDisarm d) :=
  .ite h.aside h

theorem Moves.belArm (h : Moves Any base d) : Moves Any base (belArm d) :=
  .ite (h.raise _) h.aside

theorem Moves.syncSeen (h : Moves Any base d) : Moves Any base (syncSeen d) :=
  ((Moves.ite (h.aside.raise _) h).set64 _ _).raise _

theorem Moves.fireMark (h : Moves Any base d) : Moves Any base d.fireMark :=
  (Moves.ite ((h.aside.emit _).emit _) h.aside).raise _

theorem Moves.markArm (h : Moves Any base d) : Moves Any base (markArm d) :=
  .ite h (.ite h.aside.fireMark h.aside)

theorem Moves.markDone (h : Moves Any base d) : Moves Any base (markDone d) :=
  .ite h.fireMark h

theorem Moves.bellTick (h : Moves Any base d) : Moves Any base (bellTick d) :=
  .ite (h.aside.pmu1 _ _) h

/-! ## Domains and pads -/

theorem Moves.domainOff (h : Moves Any base d) (bit : Nat) : Moves Any base (domainOff bit d) :=
  .ite h (.ite (h.raise _) (.ite h (.ite (h.raise _) ((h.set _ _).turnOff _))))

theorem Moves.domainOn (h : Moves Any base d) (bit : Nat) : Moves Any base (domainOn bit d) :=
  .ite h (.ite (h.raise _) (.ite h ((h.set _ _).turnOn _)))

theorem Moves.unlatch (h : Moves Any base d) (dom : Nat) : Moves Any base (d.unlatch dom) :=
  (h.pwr _).emit _

theorem Moves.padRelease (h : Moves Any base d) (rel : BitVec 21) : Moves Any base (padRelease rel d) :=
  (h.pwr _).foldl _ (fun _ _ h => h.unlatch _)

/-! ## The core regulator -/

theorem Moves.voutMode (h : Moves Any base d) (mode : Option (BitVec 8)) : Moves Any base (d.voutMode mode) := by
  unfold Dev.voutMode
  refine .ite h ?_
  dsimp only
  split
  · exact (h.pmbus _ _).pwr _
  · exact ((h.pmbus _ _).pwr _).raise _

theorem Moves.pmbusPoll (h : Moves Any base d) (mode : Option (BitVec 8)) (ans : Option (Nat × Nat)) :
    Moves Any base (pmbusPoll mode ans d) := by
  unfold Machine.pmbusPoll
  dsimp only
  split
  · exact (h.voutMode _).raise _
  · exact (h.voutMode _).vrRead _ _

theorem Moves.vrAlert (h : Moves Any base d) (status : Option Nat) : Moves Any base (vrAlert status d) := by
  unfold Machine.vrAlert
  refine Moves.report ?_ _ _ _ _ _
  split
  · exact (h.pmbus _ _).set _ _
  · exact (h.pmbus _ _).raise _

theorem Moves.vrClear (h : Moves Any base d) : Moves Any base (vrClear d) :=
  h.pmbusWrite _ _

theorem Moves.vrPgLost (h : Moves Any base d) : Moves Any base (vrPgLost d) :=
  .ite ((h.raise _).recoverAon) h

/-! ## Operating points -/

theorem Moves.stepTo (h : Moves Any base d) (t : Nat) : Moves Any base (d.stepTo t) :=
  .ite (h.pwr _) (.ite (h.raise _) ((h.dvfsBegin _ _ _).grantTokens))

theorem Moves.dvfsTarget (h : Moves Any base d) (t : Nat) : Moves Any base (dvfsTarget t d) := by
  unfold Machine.dvfsTarget
  refine .ite (h.set _ _) ?_
  dsimp only
  split
  · exact .ite ((h.set _ _).stepTo _) ((h.set _ _).pwr _)
  · exact (h.set _ _).stepTo _

theorem Moves.dvfsFgo (h : Moves Any base d) : Moves Any base (dvfsFgo d) :=
  .ite (h.raise _) ((h.dvfsBegin _ _ _).grantTokens)

theorem Moves.dvfsVgo (h : Moves Any base d) : Moves Any base (dvfsVgo d) :=
  .ite (h.raise _) ((h.dvfsBegin _ _ _).grantTokens)

theorem Moves.voltageReached (h : Moves Any base d) (ans : Option (Nat × Nat)) : Moves Any base (voltageReached ans d) := by
  unfold Machine.voltageReached
  split
  · refine .ite ?_ h
    dsimp only
    split
    · exact h.raise _
    · exact .ite ((h.vrRead _ _).dvfsVolt) (h.vrRead _ _)
  · exact h

theorem Moves.wakeTo (h : Moves Any base d) (step dom : Nat) : Moves Any base (wakeTo step dom d) :=
  .ite h (.ite (h.pllTimedOut _) (h.wakeTimeout _ _ _))

/-! ## The purser -/

theorem Moves.purserUpdate (h : Moves Any base d) : Moves Any base (purserUpdate d) :=
  (Moves.ite ((h.aside.raiseIf _ _).setLevel _) (.ite ((h.aside.raiseIf _ _).setLevel _) ((h.aside.raiseIf _ _).setLevel
    _))).grantTokens

theorem Moves.purserRescale (h : Moves Any base d) : Moves Any base (purserRescale d) :=
  h.pur _

theorem Moves.tokenReturn (h : Moves Any base d) (kind who : Nat) : Moves Any base (tokenReturn kind who d) :=
  .ite (h.returnToken _ _) h

theorem Moves.overCap (h : Moves Any base d) (kind who : Nat) : Moves Any base (overCap kind who d) :=
  .ite ((((h.giveToken _ _).raise _).bumpSat _ _).raiseIf _ _) h

end Sys2Proof.Machine
end

section
/-! SUPPORT. Requests, transactions, memory answers and the uplink: what their commands do is moves. -/

namespace Sys2Proof.Machine

set_option Elab.async false

variable {base d : Dev}

/-! ## Admission of requests -/

theorem Moves.arrive (h : Moves Any base d) (late : Bool) (r : Req) : Moves Any base (arrive late r d) :=
  .ite h (.ite h.aside (h.takeInAny _))

theorem Moves.takeAgain (h : Moves Any base d) (r : Req) : Moves Any base (d.takeAgain r) :=
  h.aside.takeInAny _

theorem Moves.takePort (h : Moves Any base d) (port : Nat) : Moves Any base (d.takePort port) := by
  unfold Dev.takePort
  split
  · exact .ite (h.takeAgain _) h
  · exact h

theorem Moves.takeHeld (h : Moves Any base d) (r : Req) : Moves Any base (d.takeHeld r) :=
  .ite (h.takeAgain _) h

theorem Moves.takeWaiting (h : Moves Any base d) : Moves Any base d.takeWaiting :=
  .ite h (.ite (h.foldl _ (fun _ _ h => h.takePort _)) (h.foldl _ (fun _ _ h => h.takeHeld _)))

/-! ## Tickets -/

theorem Moves.stbyExpired (h : Moves Any base d) (tkt : Nat) : Moves Any base (stbyExpired tkt d) := by
  unfold Machine.stbyExpired
  split
  · exact .ite h (((h.dropTicket _).report _ _ _ _ _).bumpSat _ _)
  · exact h

theorem Moves.reservationFreed (h : Moves Any base d) (port : Nat) : Moves Any base (reservationFreed port d) :=
  .ite (h.aside.takePort _) h

/-! ## Answers to snoops and grants -/

theorem Moves.keepCopy (h : Moves Any base d) (port txid : Nat) (p : Payload) : Moves Any base (d.keepCopy port txid p) := by
  unfold Dev.keepCopy
  refine Moves.emit ?_ _
  dsimp only
  split
  · exact h.aside
  · exact h

theorem Moves.awaitCopy (h : Moves Any base d) (t : Txn) (port : Nat) (rst : LState) (p : Payload) :
    Moves Any base (d.awaitCopy t port rst p) :=
  (Moves.ite ((h.free _).mirror _) (h.free _)).aside

theorem Moves.snpData (h : Moves Any base d) (port txid : Nat) (dty : Bool) (rst : LState) (p : Payload) :
    Moves Any base (snpData port txid dty rst p d) := by
  unfold Machine.snpData
  refine .ite (.ite (h.keepCopy _ _ _) h) ?_
  dsimp only
  split
  · exact h.protoErr _ _
  · exact .ite (h.awaitCopy _ _ _ _) (h.aside.answer _ _ _)

theorem Moves.dirtyCopyReport (h : Moves Any base d) (txid port : Nat) : Moves Any base (dirtyCopyReport txid port d) := by
  unfold Machine.dirtyCopyReport
  split
  · exact h.aside.answer _ _ _
  · exact .ite h.aside h
  · exact h

theorem Moves.plainAnswer (h : Moves Any base d) (port txid opc : Nat) (a : SnpAns) :
    Moves Any base (plainAnswer port txid opc a d) := by
  unfold Machine.plainAnswer
  refine .ite h ?_
  split
  · exact h.answer _ _ _
  · exact h.protoErr _ _

theorem Moves.ackaGrant (h : Moves Any base d) (port txid : Nat) : Moves Any base (ackaGrant port txid d) := by
  unfold Machine.ackaGrant
  refine .ite h ?_
  split
  · exact .ite ((h.retireGrant _).sendAllHeldAny) (h.protoErr _ _)
  · exact h.protoErr _ _

/-! ## Write-backs -/

theorem Moves.wrBack (hd : Moves Any base d) (h : Head) (p : Payload) : Moves Any base (wrBack h p d) :=
  .ite hd (.ite (hd.protoErr _ _) (.ite ((hd.setPort _ _).aside) ((hd.setPort _ _).takeWrBack _ _)))

/-! ## Activation, holds, timeouts, retirement -/

theorem Moves.berthHoldEnd (h : Moves Any base d) (key : Nat) : Moves Any base (berthHoldEnd key d) :=
  .ite ((h.setHolds _).sendAllHeldAny) h

theorem Moves.rspTimeout (h : Moves Any base d) (port txid : Nat) : Moves Any base (rspTimeout port txid d) := by
  unfold Machine.rspTimeout
  refine .ite h ?_
  split
  · split
    · exact .ite h ((h.report _ _ _ _ _).putTxn _)
    · exact h
  · exact h

theorem Moves.transactionRetire (h : Moves Any base d) (txid : Nat) : Moves Any base (transactionRetire txid d) := by
  unfold Machine.transactionRetire
  split
  · refine .ite h ?_
    split
    · exact h.apdComplete _ _ _
    · exact (h.freeTxn _).fillPlace _
  · exact h

/-! ## Header fetches -/

theorem Moves.bindSet (h : Moves Any base d) (set : Nat) : Moves Any base (d.bindSet set) :=
  h.foldl _ (fun _ _ h => h.wbBind _)

theorem Moves.resumeHeader (h : Moves Any base d) (set : Nat) : Moves Any base (d.resumeHeader set) :=
  h.foldl _ (fun _ _ h => h.decide _)

theorem Moves.headerFetchDone (h : Moves Any base d) (set : Nat) (noise : Burst) :
    Moves Any base (headerFetchDone set noise d) := by
  have hread := (h.hdc { d.hdc with fetch := d.hdc.fetch.filter (· != set) }).readHeader set noise
  unfold Machine.headerFetchDone
  refine .ite h ?_
  dsimp only
  split
  · next x e he =>
    exact (((hread.snd he).installHeader set x).wbSettleAll.resumeHeader set).wbSettleAll
  · next e he => exact ((hread.snd he).bindSet set).resumeHeader set

theorem Moves.headerWaitUnpin (h : Moves Any base d) (txid : Nat) : Moves Any base (headerWaitUnpin txid d) := by
  unfold Machine.headerWaitUnpin
  split
  · exact .ite (h.headerStep _) h
  · exact h

/-! ## Headers, and what waits for room or for a write -/

theorem Moves.cachedDirty (h : Moves Any base d) (line : Nat) : Moves Any base (d.cachedDirty line).2 := by
  unfold Dev.cachedDirty
  dsimp only
  exact h.passHeader _

theorem Moves.resume (h : Moves Any base d) (t : Txn) : Moves Any base (d.resume t) := by
  unfold Dev.resume
  dsimp only
  split
  · exact h.boardLines _ _
  · exact h.gather _

theorem Moves.resumeWrite (h : Moves Any base d) (t : Txn) : Moves Any base (d.resumeWrite t) :=
  .ite (h.resume _) h

theorem Moves.wakeRoom (h : Moves Any base d) : Moves Any base d.wakeRoom :=
  h.wbPlaceAll.foldl _ (fun _ _ h => h.resumeWrite _)

theorem Moves.wakeWriters (h : Moves Any base d) (line : Nat) : Moves Any base (d.wakeWriters line) :=
  ((((Moves.ite h (h.foldl _ (fun _ _ h => h.resume _))).wakeRoom).wbSettleAll).wbKick).mgrDrainAll

theorem Moves.markIfClean (h : Moves Any base d) (line : Nat) : Moves Any base (d.markIfClean line) := by
  unfold Dev.markIfClean
  refine .ite (.ite (h.dropMirrored _) h) (.ite h ?_)
  split
  · next d heq =>
      have h := (h.cachedDirty _).snd heq
      exact h
  · next d heq =>
      have h := (h.cachedDirty _).snd heq
      exact h.cleanMark _

/-! ## Lines read -/

theorem Moves.boardOn (h : Moves Any base d) (txid : Nat) : Moves Any base (d.boardOn txid) := by
  unfold Dev.boardOn
  split
  · exact .ite (h.depBoardOn _) h
  · exact h

theorem Moves.laneGoneAny (h : Moves Any base d) (t : Txn) : Moves Any base (d.laneGone t) := by
  unfold Dev.laneGone
  dsimp only
  split
  · exact h.depBoardOn _
  · exact h.resume _

theorem Moves.lineReadDone (h : Moves Any base d) (txid : Nat) (noise : Burst) :
    Moves Any base (lineReadDone txid noise d) := by
  unfold Machine.lineReadDone
  split
  · exact .ite h (.ite (h.laneGoneAny _) (((h.laneRead _ _ _).laneArrived _ _).boardOn _))
  · exact h

theorem Moves.sdrArrived (h : Moves Any base d) (k sector : Nat) (ans : MemAns) :
    Moves Any base (d.sdrArrived k sector ans) := by
  unfold Dev.sdrArrived
  refine .ite h ?_
  dsimp only
  split
  · exact .ite ((h.sdrInstall _).sdrUnknown _ _) ((h.sdr _).sdrInstall _)
  · exact (h.sdrInstall _).sdrUnknown _ _

theorem Moves.memError (h : Moves Any base d) (t : Txn) : Moves Any base (d.memError t) := by
  unfold Dev.memError
  dsimp only
  split
  · exact ((h.giveUpWay _).freePoison).boarded _ _ _
  · exact ((h.giveUpWay _).freePoison).arrived _ _

theorem Moves.countLoad (h : Moves Any base d) (n loads : Nat) : Moves Any base (d.countLoad n loads) :=
  .ite h ((h.bumpSat _ _).pmu1 _ _)

theorem Moves.memAnswer (h : Moves Any base d) (n line : Nat) (ans : MemAns) : Moves Any base (d.memAnswer n line ans) := by
  unfold Dev.memAnswer
  split
  · exact .ite ((h.bumpSat _ _).pmu1 _ _) h
  · exact h.report _ _ _ _ _

theorem Moves.recordCame (hd : Moves Any base d) (h : Head) (n : Nat) : Moves Any base (d.recordCame h n) := by
  unfold Dev.recordCame
  split
  · exact hd
  · exact .ite (((hd.setWb _).releaseHolder _).settleWrBackAny _ _) (((hd.wbFree _).report _ _ _ _ _).markIfClean _)

theorem Moves.sdrReady (h : Moves Any base d) (k : Nat) : Moves Any base (d.sdrReady k) :=
  (h.aside.foldl _ (fun _ _ h => h.recordCame _ _)).foldl _ (fun _ _ h => h.sdrStep _)

theorem Moves.chunkSend (h : Moves Any base d) : Moves Any base d.chunkSend := by
  unfold Dev.chunkSend
  split
  · exact .ite (.ite (h.aside.runJobs _) h.aside) h
  · exact h

theorem Moves.chunkRead (h : Moves Any base d) (line : Nat) (ans : MemAns) : Moves Any base (d.chunkRead line ans) := by
  unfold Dev.chunkRead
  split
  · refine .ite h ((Moves.aside ?_).chunkSend)
    cases ans with
    | data w lo hi => exact h
    | error => exact h.freePoison
  · exact h

theorem Moves.memReadDone (h : Moves Any base d) (line : Nat) (ans : MemAns) (loads : Nat) :
    Moves Any base (memReadDone line ans loads d) := by
  unfold Machine.memReadDone
  refine .ite h ?_
  dsimp only
  split
  · exact (((((h.setMp _ _).mpNext _).countLoad _ _).memAnswer _ _ _).sdrArrived _ _ _).sdrReady _
  · split
    · split
      · exact ((((h.setMp _ _).mpNext _).countLoad _ _).memAnswer _ _ _).arrived _ _
      · exact ((((h.setMp _ _).mpNext _).countLoad _ _).memAnswer _ _ _).memError _
    · exact ((((h.setMp _ _).mpNext _).countLoad _ _).memAnswer _ _ _).chunkRead _ _

/-! ## The next level answers a write -/

theorem Moves.writtenUp (h : Moves Any base d) (t : Txn) : Moves Any base (d.writtenUp t) := by
  unfold Dev.writtenUp
  refine Moves.finishWrite ?_ _
  split
  · exact h.dropLine _ _ _
  · exact h

theorem Moves.wbAcked (h : Moves Any base d) (e : WbEnt) : Moves Any base (d.wbAcked e) := by
  unfold Dev.wbAcked
  refine (Moves.markIfClean ?_ _).wakeWriters _
  split
  · exact (h.maintAck _ _).wbFree _
  · exact (h.wbFree _).writtenUp _
  · exact h.wbFree _

theorem Moves.maintFailed (h : Moves Any base d) (t : Txn) (p : Payload) : Moves Any base (d.maintFailed t p) :=
  .ite ((((h.pip _).evq _ _ _ _ _).putTxn _).passHeader _) (((((h.pip _).evq _ _ _ _ _).putTxn _).passHeader _).takeDirty _ _)

theorem Moves.streamFailed (h : Moves Any base d) (e : WbEnt) : Moves Any base (d.streamFailed e) := by
  unfold Dev.streamFailed
  split
  · split
    · exact h.apdFail _ _ _
    · exact h
  · exact h

theorem Moves.wbFailed (h : Moves Any base d) (e : WbEnt) : Moves Any base (d.wbFailed e) := by
  unfold Dev.wbFailed
  refine Moves.wakeWriters ?_ _
  split
  · exact (h.wbFree _).maintFailed _ _
  · exact ((h.wbFree _).report _ _ _ _ _).streamFailed _

theorem Moves.wbLost (h : Moves Any base d) (e : WbEnt) : Moves Any base (d.wbLost e) := by
  unfold Dev.wbLost
  refine (Moves.report ?_ _ _ _ _ _).wakeWriters _
  split
  · exact (h.wbFree _).maintFailed _ _
  · exact (h.wbFree _).streamFailed _

theorem Moves.clearAnswered (h : Moves Any base d) (line : Nat) : Moves Any base (d.clearAnswered line) := by
  unfold Dev.clearAnswered
  split
  · exact (h.sdr _).sdrPump
  · exact h

theorem Moves.nextLevelWriteAck (h : Moves Any base d) (line loads : Nat) :
    Moves Any base (nextLevelWriteAck line loads d) := by
  unfold Machine.nextLevelWriteAck
  dsimp only
  split
  · exact .ite (h.wbLost _) ((Moves.ite h (h.countLoad _ _)).wbAcked _)
  · exact .ite ((h.countLoad _ _).clearAnswered _) h

theorem Moves.wrFail (h : Moves Any base d) (line : Nat) : Moves Any base (wrFail line d) := by
  unfold Machine.wrFail
  split
  · exact .ite (h.wbLost _) (h.wbFailed _)
  · exact h.clearAnswered _

/-! ## Victims -/

theorem Moves.victimCopy (h : Moves Any base d) (txid : Nat) : Moves Any base (victimCopy txid d) := by
  unfold Machine.victimCopy
  split
  · dsimp only
    split
    · exact .ite h (.ite (((((h.pip _).allocDone _ _ _).gather _).wbSettleAll).wakeRoom) (.ite h (((((h.pip _).allocWay _ _ _
      _ _ _).gather _).wbSettleAll).wakeRoom)))
    · exact h
  · exact h

theorem Moves.victimWaitEligible (h : Moves Any base d) (txid : Nat) : Moves Any base (victimWaitEligible txid d) := by
  unfold Machine.victimWaitEligible
  split
  · exact .ite (h.gather _) h
  · exact h

/-! ## Combining and flushes -/

theorem Moves.combiningTimeout (h : Moves Any base d) (line : Nat) : Moves Any base (combiningTimeout line d) :=
  h.wbForce _

theorem Moves.wbfFlush (h : Moves Any base d) : Moves Any base (wbfFlush d) :=
  h.wbForce _

theorem Moves.flushHeaders (h : Moves Any base d) : Moves Any base d.flushHeaders :=
  h.foldl _ (fun _ _ h => h.cleanHeader _)

theorem Moves.hdcFlush (h : Moves Any base d) : Moves Any base (hdcFlush d) :=
  .ite h ((h.hdc _).flushHeaders)

theorem Moves.flushDone (h : Moves Any base d) : Moves Any base (flushDone d) :=
  .ite ((h.hdc _).raise _) h

theorem Moves.pipQuarClr (h : Moves Any base d) : Moves Any base (pipQuarClr d) :=
  h.pip _ (.inl trivial) fun hq => (List.length_drop .. ▸ Nat.sub_le _ _).trans hq

/-! ## Probes -/

theorem Moves.dirProbeGo (h : Moves Any base d) : Moves Any base (dirProbeGo d) :=
  .ite h ((h.pip _).set _ _)

theorem Moves.dirProbeDone (h : Moves Any base d) : Moves Any base (dirProbeDone d) := by
  unfold Machine.dirProbeDone
  refine .ite h ?_
  dsimp only
  split
  · exact (((h.aside.slot _).set _ _).set _ _).set64 _ _
  · exact (((h.aside.slot _).set _ _).set _ _).set64 _ _

theorem Moves.depProbeGo (h : Moves Any base d) : Moves Any base (depProbeGo d) := by
  unfold Machine.depProbeGo
  dsimp only
  split
  · exact (h.set _ _).set _ _
  · exact (((((((((((h.set _ _).set _ _).set _ _).set _ _).set _ _).set _ _).set64 _ _).set64 _ _).set _ _).set _ _).set _
    _).set _ _

/-! ## Manager snoops and DepBoard arrive -/

theorem Moves.fromManager (h : Moves Any base d) (uplink opc : Nat) (t : Txn) :
    Moves Any base (d.fromManager uplink opc t) := by
  unfold Dev.fromManager
  refine .ite h ?_
  split
  · exact h.protoErr _ _
  · exact ((h.pmu1 _ _).addTxnAny _).promote _

theorem Moves.managerSnoop (h : Moves Any base d) (uplink : Nat) (sn : Snoop) (mtxid addr : Nat) :
    Moves Any base (managerSnoop uplink sn mtxid addr d) :=
  (Moves.ite (h.bump64 _ _) h).fromManager _ _ _

theorem Moves.depBoard (h : Moves Any base d) (uplink idx addr : Nat) (mask : BitVec 8) :
    Moves Any base (depBoard uplink idx addr mask d) :=
  h.fromManager _ _ _

theorem Moves.depAckAtWorker (h : Moves Any base d) (uplink idx lidx : Nat) :
    Moves Any base (depAckAtWorker uplink idx lidx d) := by
  unfold Machine.depAckAtWorker
  refine .ite h ?_
  dsimp only
  split
  · exact (Moves.ite (h.freeTxn _) (h.putTxn _)).wbKick
  · exact h

/-! ## Answers of the manager -/

theorem Moves.freeOwned (h : Moves Any base d) (t : Txn) : Moves Any base (d.freeOwned t) := by
  unfold Dev.freeOwned
  split
  · exact h.wbFree _
  · exact h

theorem Moves.upAck (h : Moves Any base d) (g : LState) (txid : Nat) : Moves Any base (d.upAck g txid) :=
  .ite h (h.tell _ _)

theorem Moves.replaceCopy (h : Moves Any base d) (t : Txn) (p : Payload) : Moves Any base (d.replaceCopy t p) := by
  unfold Dev.replaceCopy
  split
  · exact (Moves.ite h (h.putHeader _ _)).fillLine _ _ _ _ _
  · exact h

theorem Moves.upData (h : Moves Any base d) (t : Txn) (g : LState) (txid : Nat) (p : Payload) :
    Moves Any base (d.upData t g txid p) :=
  .ite ((Moves.ite (h.upAck _ _) ((h.upAck _ _).giveUpWay _)).deliver _ _) ((Moves.ite (((Moves.ite (h.upAck _ _) ((h.upAck _
    _).giveUpWay _)).replaceCopy _ _).setExc _) ((Moves.ite (h.upAck _ _) ((h.upAck _ _).giveUpWay _)).replaceCopy _
      _)).gather _)

theorem Moves.upAcked (h : Moves Any base d) (t : Txn) (g : LState) (txid : Nat) (offset : Option Nat) :
    Moves Any base (d.upAcked t g txid offset) := by
  unfold Dev.upAcked
  split
  · exact (((h.freeOwned _).writtenUp _).markIfClean _).wakeWriters _
  · exact (((h.freeOwned _).writtenUp _).markIfClean _).wakeWriters _
  · exact ((h.logRetired _).respond _ _).freeTxn _
  · exact ((h.upAck _ _).setExc _).gather _

theorem Moves.upErr (h : Moves Any base d) (t : Txn) (sub : Nat) : Moves Any base (d.upErr t sub) := by
  unfold Dev.upErr
  split
  · exact (((((h.freeOwned _).report _ _ _ _ _).giveUpWay _).sendErr _ _ _).freeTxn _).wakeWriters _
  · exact (((((h.freeOwned _).report _ _ _ _ _).giveUpWay _).sendErr _ _ _).freeTxn _).wakeWriters _
  · exact ((h.giveUpWay _).sendErr _ _ _).freeTxn _

theorem Moves.upAgain (h : Moves Any base d) (t : Txn) : Moves Any base (d.upAgain t) := by
  unfold Dev.upAgain
  dsimp only
  split
  · exact h.tell _ _
  · exact h.tell _ _
  · exact h

theorem Moves.upStby (h : Moves Any base d) (t : Txn) (k : Nat) : Moves Any base (d.upStby t k) :=
  (h.putTxn _).upAgain _

theorem Moves.entStby (h : Moves Any base d) (e : WbEnt) (k : Nat) : Moves Any base (d.entStby e k) :=
  (h.setWb _).ownWrite _

theorem Moves.entAnswered (h : Moves Any base d) (e : WbEnt) (a : UpAns) : Moves Any base (d.entAnswered e a) := by
  cases a with
  | err _ => exact h.wbFailed e
  | stby k => exact h.entStby e k
  | ack _ _ _ => exact h.wbAcked e
  | data _ _ _ => exact h.wbAcked e

theorem Moves.relayDepart (h : Moves Any base d) (oport tag : Nat) (ans : UpAns) :
    Moves Any base (d.relayDepart oport tag ans) := by
  unfold Dev.relayDepart
  refine .ite ?_ h
  dsimp only
  split
  · exact h.aside.tell _ _
  · exact h.aside.tell _ _
  · exact h.aside.tell _ _

theorem Moves.uplinkResponse (h : Moves Any base d) (uplink oport tag : Nat) (ans : UpAns) :
    Moves Any base (uplinkResponse uplink oport tag ans d) := by
  unfold Machine.uplinkResponse
  refine .ite h ?_
  split
  · split
    · exact h.upData _ _ _ _
    · exact h.upAcked _ _ _ _
    · exact h.upStby _ _
    · exact h.upErr _ _
  · exact h.entAnswered _ _
  · exact .ite (h.relayDepart _ _ _) (h.protoErr _ _)

theorem Moves.uplinkDown (h : Moves Any base d) : Moves Any base (uplinkDown d) :=
  .ite (h.raise _) h

/-! ## The clear of the SDR region -/

theorem Moves.startSdrClear (h : Moves Any base d) : Moves Any base d.startSdrClear :=
  .ite h ((h.sdr _).sdrPump)

theorem Moves.sdrInitDone (h : Moves Any base d) : Moves Any base (sdrInitDone d) :=
  .ite (((h.sdr _).mirror _).raise _) h.sdrPump

/-! ## Takeovers of a neighbour -/

theorem Moves.setServ (h : Moves Any base d) (k sd : Nat) : Moves Any base (d.setServ k sd) :=
  h.aside

theorem Moves.resendSlot (h : Moves Any base d) (k : Nat) (t : Txn) : Moves Any base (Dev.resendSlot k d t) :=
  .ite (.ite (h.putTxn _) h) ((h.putTxn _).foldl _ (fun _ _ h => (.ite (h.tell _ _) (h.tell _ _))))

theorem Moves.resendDep (h : Moves Any base d) (k : Nat) (e : Dep) : Moves Any base (Dev.resendDep k d e) := by
  unfold Dev.resendDep
  refine .ite (h.announceTo _ _) (h.foldl _ (fun _ _ h => ?_))
  split
  · exact h.sendDepLine _ _ _
  · exact h

theorem Moves.cancelStale (h : Moves Any base d) (k : Nat) : Moves Any base (d.cancelStale k) :=
  (h.setStale _).foldl _ (fun _ _ h => h.tell _ _)

theorem Moves.takeoverDownlink (h : Moves Any base d) (port _epoch : Nat) : Moves Any base (takeoverDownlink port _epoch d) :=
  .ite h (((((h.setServ _ _).aside).foldl _ (fun _ _ h => h.resendSlot _ _)).cancelStale _).foldl _ (fun _ _ h => h.resendDep
    _ _))

theorem Moves.resendUplink (h : Moves Any base d) : Moves Any base d.resendUplink :=
  ((h.foldl _ (fun _ _ h => h.upAgain _)).foldl _ (fun _ _ h => h.ownWrite _)).foldl _ (fun _ _ h => h.tell _ _)

theorem Moves.takeoverUplink (h : Moves Any base d) (uplink epoch : Nat) : Moves Any base (takeoverUplink uplink epoch d) :=
  .ite h ((Moves.ite (((h.aside.setPort _ _).aside).tell _ _) ((h.aside.setPort _ _).aside)).resendUplink)

end Sys2Proof.Machine
end

section
/-! SUPPORT. Way groups, maintenance, lanes, refresh, the scrubber and the configuration passes: what their commands do is moves. -/

namespace Sys2Proof.Machine

set_option Elab.async false

variable {base d : Dev}

/-! ## Taking a set -/

theorem Moves.passWrite (hd : Moves Any base d) (set : Nat) (h : Header) : Moves Any base (d.passWrite set h) :=
  .ite ((hd.putHeader _ _).cleanHeader _) ((hd.writeHeader _).mirror _)

/-! ## Way-group sweeps -/

theorem Moves.emptyGroup (hd : Moves Any base d) (set g : Nat) (h : Header) : Moves Any base (d.emptyGroup set g h) :=
  ((hd.bumpSat _ _).foldl _ (fun _ _ h => (.ite (h.copyDirty _ _ _ _) h))).passWrite _ _

theorem Moves.sweepOn (h : Moves Any base d) (w : Sweep) : Moves Any base (d.sweepOn w) :=
  h.pip _

theorem Moves.sweepSet (h : Moves Any base d) : Moves Any base (sweepSet d) := by
  unfold Machine.sweepSet
  split
  · exact h
  · refine .ite h ?_
    dsimp only
    split
    · next d heq =>
        have h := (h.passHeader _).snd heq
        exact h.sweepOn _
    · next hdr d heq =>
        have h := (h.passHeader _).snd heq
        exact .ite (h.sweepOn _) (.ite h ((h.emptyGroup _ _ _).sweepOn _))

theorem Moves.laneOff (h : Moves Any base d) (n : Nat) : Moves Any base (d.laneOff n) :=
  (h.setLane _ _).emit _

theorem Moves.sleepLanes (h : Moves Any base d) (g : Nat) (off : Bool) : Moves Any base (d.sleepLanes g off) :=
  .ite (((h.foldl _ (fun _ _ h => h.laneOff _)).clampPads _ _).driveRail _ _) (h.foldl _ (fun _ _ h => h.laneSleeps _))

theorem Moves.nextLoss (h : Moves Any base d) : Moves Any base d.nextLoss := by
  unfold Dev.nextLoss
  split
  · exact h
  · exact (h.pip _).startLossSweep _

theorem Moves.endSweep (h : Moves Any base d) (g : Nat) (railsOff : Bool) : Moves Any base (d.endSweep g railsOff) :=
  (Moves.ite (((((((h.sleepLanes _ _).turnOff _).aside).dropToken _ _).setWgReq _ _).raise _).enterRecovery)
    ((((((h.sleepLanes _ _).turnOff _).aside).dropToken _ _).setWgReq _ _).raise _)).nextLoss

theorem Moves.sweepDone (h : Moves Any base d) : Moves Any base (sweepDone d) := by
  unfold Machine.sweepDone
  split
  · exact .ite (h.endSweep _ _) h
  · exact h

theorem Moves.lossSweepDone (h : Moves Any base d) : Moves Any base (lossSweepDone d) := by
  unfold Machine.lossSweepDone
  split
  · exact .ite ((h.endSweep _ _).remode) h
  · exact h

theorem Moves.wayGroupPowerDown (h : Moves Any base d) (g : Nat) : Moves Any base (wayGroupPowerDown g d) :=
  .ite (h.raise _) (.ite h (.ite (h.raise _) ((h.pip _).setWgReq _ _)))

theorem Moves.stopSweep (h : Moves Any base d) (g : Nat) : Moves Any base (d.stopSweep g) := by
  unfold Dev.stopSweep
  split
  · exact .ite ((h.pip _).setWgReq _ _) h
  · exact h

theorem Moves.sweepStop (h : Moves Any base d) (g : Nat) : Moves Any base (sweepStop g d) :=
  .ite (h.raise _) (h.stopSweep _)

theorem Moves.wakeGroup (h : Moves Any base d) (g : Nat) : Moves Any base (d.wakeGroup g) :=
  .ite h ((h.setWgReq _ _).askToken _ _)

theorem Moves.wayGroupWake (h : Moves Any base d) (g : Nat) : Moves Any base (wayGroupWake g d) :=
  .ite (h.raise _) (h.wakeGroup _)

/-! ## The Drain pass -/

theorem Moves.cleanSet (hd : Moves Any base d) (set : Nat) (h : Header) : Moves Any base (d.cleanSet set h) :=
  (hd.foldl _ (fun _ _ h => (.ite (h.copyDirty _ _ _ _) h))).putHeader _ _

theorem Moves.drainOn (h : Moves Any base d) : Moves Any base d.drainOn :=
  h.pip _

theorem Moves.drainSet (h : Moves Any base d) : Moves Any base (drainSet d) := by
  unfold Machine.drainSet
  refine .ite h ?_
  dsimp only
  split
  · next d heq =>
      have h := (h.passHeader _).snd heq
      exact h.drainOn
  · next hdr d heq =>
      have h := (h.passHeader _).snd heq
      refine .ite h.drainOn (.ite h (.ite ((h.cleanSet _ _).drainOn) ?_))
      split
      · exact h
      · next d heq =>
          have h := h.makeRoom heq
          exact ((h.installHeader _ _).cleanSet _ _).drainOn

/-! ## Range maintenance -/

theorem Moves.setMnt (h : Moves Any base d) (m : Mnt) : Moves Any base (d.setMnt m) :=
  h.pip _

theorem Moves.mntWalk (h : Moves Any base d) : Moves Any base d.mntWalk := by
  unfold Dev.mntWalk
  dsimp only
  split
  · split
    · exact (h.passHeader _).setMnt _
    · exact h.setMnt _
  · split
    · exact h.setMnt _
    · exact h.setMnt _
  · refine .ite (h.setMnt _) ?_
    split
    · next d heq =>
        have h := (h.sdrFetch _).snd heq
        exact h.setMnt _
    · next d heq =>
        have h := (h.sdrFetch _).snd heq
        exact h.setMnt _
  · exact h

theorem Moves.mntStart (h : Moves Any base d) (op : Nat) (whole : Bool) : Moves Any base (mntStart op whole d) :=
  .ite (((h.set _ _).set _ _).raise _) (((h.set _ _).set _ _).setMnt _)

theorem Moves.mntAbort (h : Moves Any base d) : Moves Any base (mntAbort d) :=
  .ite (h.setMnt _) h

theorem Moves.mntActs (h : Moves Any base d) (line : Nat) : Moves Any base (d.mntActs line).2 := by
  unfold Dev.mntActs
  dsimp only
  exact h.passHeader _

theorem Moves.mntOne (h : Moves Any base d) (line : Nat) : Moves Any base (d.mntOne line) := by
  unfold Dev.mntOne
  split
  · next d heq =>
      have h := (h.mntActs _).snd heq
      exact (h.setMnt _).issue _
  · next d heq =>
      have h := (h.mntActs _).snd heq
      exact h

theorem Moves.mntConsider (h : Moves Any base d) (line : Nat) (on : Mnt) : Moves Any base (d.mntConsider line on) := by
  unfold Dev.mntConsider
  refine .ite ?_ ((h.setMnt _).mntOne _)
  dsimp only
  split
  · next d heq =>
      have h := (h.sdrFetch _).snd heq
      exact (h.setMnt _).mntOne _
  · next d heq =>
      have h := (h.sdrFetch _).snd heq
      exact h.setMnt _

theorem Moves.mntLine (h : Moves Any base d) : Moves Any base (mntLine d) := by
  unfold Machine.mntLine
  refine .ite h (.ite ?_ (.ite (h.mntConsider _ _) h))
  split
  · exact h.mntWalk
  · exact .ite (h.setMnt _) (h.mntConsider _ _)

theorem Moves.mntDone (h : Moves Any base d) : Moves Any base (mntDone d) :=
  .ite ((h.setMnt _).raise _) h

/-! ## Start-up of a lane -/

theorem Moves.laneInit (h : Moves Any base d) (n : Nat) : Moves Any base (d.laneInit n) :=
  ((h.setLane _ _).emit _).askToken _ _

theorem Moves.laneStartUp (h : Moves Any base d) (n : Nat) : Moves Any base (laneStartUp n d) :=
  .ite h (.ite ((h.setLane _ _).laneInit _) (.ite (h.setLane _ _) ((h.setLane _ _).driveRail _ _)))

theorem Moves.dsVrPgRise (h : Moves Any base d) (g : Nat) : Moves Any base (dsVrPgRise g d) :=
  .ite h (((h.pwr _).wakeDone _ _).foldl _ (fun _ _ h => h.laneInit _))

theorem Moves.takeTraining (h : Moves Any base d) (n : Nat) : Moves Any base (d.takeTraining n).2 := by
  unfold Dev.takeTraining
  dsimp only
  refine .iteSnd ?_ ?_
  · exact h
  · exact h.grantTokens

theorem Moves.mrw (h : Moves Any base d) (n rank ma op : Nat) : Moves Any base (d.mrw n rank ma op) :=
  h.emit _

theorem Moves.writeModes (h : Moves Any base d) (n : Nat) : Moves Any base (d.writeModes n) :=
  (h.foldl _ (fun _ _ h => (h.mrw _ _ _ _).mrw _ _ _ _)).foldl _ (fun _ _ h => h.foldl _ (fun _ _ h => (.ite (h.mrw _ _ _ _)
    h)))

theorem Moves.readRfm (h : Moves Any base d) (n : Nat) : Moves Any base (d.readRfm n) :=
  ((h.eachRank _ _ _).takeFree).setLane _ _

theorem Moves.testBanks (h : Moves Any base d) (n rank : Nat) : Moves Any base (Dev.testBanks n d rank) :=
  h.foldl _ (fun _ _ h => h.emit _)

theorem Moves.startStep (h : Moves Any base d) (n k : Nat) : Moves Any base (Dev.startStep n d k) :=
  .ite ((h.writeModes _).readRfm _) (.ite ((h.zqLane _).laneLives _) (.ite (h.eachRank _ _ _) (.ite (h.eachRank _ _ _) (.ite
    (h.eachRank _ _ _) (.ite (h.eachRank _ _ _) (.ite (.ite (h.eachRank _ _ _) h) (h.foldl _ (fun _ _ h => h.testBanks _
      _))))))))

theorem Moves.startSteps (h : Moves Any base d) (n k : Nat) : Moves Any base (d.startSteps n k) :=
  h.foldl _ (fun _ _ h => h.startStep _ _)

theorem Moves.endWake (h : Moves Any base d) (g : Nat) : Moves Any base (d.endWake g) :=
  .ite ((h.aside.returnToken _ _).remode) h

theorem Moves.trainingTokenGrant (h : Moves Any base d) (n us : Nat) : Moves Any base (trainingTokenGrant n us d) := by
  unfold Machine.trainingTokenGrant
  split
  · next d heq =>
      have h := (h.takeTraining _).snd heq
      exact h
  · next d heq =>
      have h := (h.takeTraining _).snd heq
      exact .ite ((((((h.startSteps _ _).setLane _ _).set _ _).returnToken _ _).remode).endWake _) (((((h.startSteps _
        _).setLane _ _).set _ _).returnToken _ _).remode)

theorem Moves.trainFail (h : Moves Any base d) (n step : Nat) : Moves Any base (trainFail n step d) := by
  unfold Machine.trainFail
  refine .ite h ?_
  dsimp only
  split
  · next d heq =>
      have h := (h.takeTraining _).snd heq
      exact h
  · next d heq =>
      have h := (h.takeTraining _).snd heq
      exact .ite ((((((h.startSteps _ _).setLane _ _).raise _).returnToken _ _).setLane _ _).laneInit _) (((((h.startSteps _
        _).setLane _ _).raise _).returnToken _ _).loseLane _ _)

/-! ## Header fill -/

theorem Moves.headerFill (h : Moves Any base d) : Moves Any base (headerFill d) :=
  .ite h.aside h

theorem Moves.fillDone (h : Moves Any base d) : Moves Any base (fillDone d) :=
  .ite (((h.fillTo _).aside).raise _) h

/-! ## Refresh, temperature, calibration -/

theorem Moves.refresh (h : Moves Any base d) (n rank : Nat) : Moves Any base (refresh n rank d) :=
  .ite h (.ite ((h.refreshOnce _ _).armRefresh _ _) (.ite (((h.setLane _ _).armRefresh _ _).askToken _ _) (((h.setLane _
    _).burstRefresh _ _).armRefresh _ _)))

theorem Moves.postponedRefreshBurst (h : Moves Any base d) (n rank : Nat) : Moves Any base (postponedRefreshBurst n rank d) :=
  .ite h (.ite (h.grantTokens.burstRefresh _ _) h.grantTokens)

theorem Moves.rfm (h : Moves Any base d) (n rank bank : Nat) : Moves Any base (rfm n rank bank d) :=
  .ite (((h.easeActs _ _ _).emit _).pmu1 _ _) h

theorem Moves.mr4Poll (h : Moves Any base d) (n rank cls : Nat) : Moves Any base (mr4Poll n rank cls d) :=
  .ite h (.ite ((((h.emit _).setLane _ _).raiseIf _ _).report _ _ _ _ _) (((h.emit _).setLane _ _).raiseIf _ _))

theorem Moves.zqCalibration (h : Moves Any base d) : Moves Any base (zqCalibration d) :=
  h.foldl _ (fun _ _ h => h.zqLane _)

theorem Moves.selfRefreshExit (h : Moves Any base d) (n : Nat) : Moves Any base (selfRefreshExit n d) :=
  .ite h (.ite ((((((h.eachRank _ _ _).zqLane _).eachRank _ _ _).setLane _ _).laneLives _).endWake _) (((((h.eachRank _ _
    _).zqLane _).eachRank _ _ _).setLane _ _).laneLives _))

/-! ## Rails -/

theorem Moves.dsVrPgTimeout (h : Moves Any base d) (g : Nat) : Moves Any base (dsVrPgTimeout g d) :=
  .ite (h.wakeTimeout _ _ _) h

theorem Moves.vrStuck (h : Moves Any base d) (g : Nat) : Moves Any base (vrStuck g d) :=
  h.raiseIf _ _

theorem Moves.vrFault (h : Moves Any base d) (g : Nat) : Moves Any base (vrFault g d) :=
  .ite (.ite ((((h.pwr _).raise _).foldl _ (fun _ _ h => h.loseLane _ _)).groupFails _) (((h.pwr _).raise _).foldl _ (fun _ _
    h => h.loseLane _ _))) h

/-! ## The scrubber -/

theorem Moves.correctionWindowClose (h : Moves Any base d) : Moves Any base (correctionWindowClose d) :=
  .ite h h.closeWindow

theorem Moves.setScb (h : Moves Any base d) (x : Scb) : Moves Any base (d.setScb x) :=
  h.aside

theorem Moves.lapEnd (h : Moves Any base d) : Moves Any base d.lapEnd :=
  ((((h.set64 _ _).bumpWrap _ _).setScb _).raise _).closeWindow

theorem Moves.setDone (h : Moves Any base d) : Moves Any base d.setDone :=
  .ite ((h.setScb _).lapEnd) (h.setScb _)

theorem Moves.lapBegin (h : Moves Any base d) : Moves Any base d.lapBegin :=
  .ite h (h.setScb _)

theorem Moves.scrubHeader (h : Moves Any base d) (set : Nat) : Moves Any base (d.scrubHeader set).2 := by
  unfold Dev.scrubHeader
  split
  · exact h
  · refine .iteSnd ?_ ?_
    · exact h
    · exact (h.driveRd _ _).readHeader _ _

theorem Moves.takeSet (h : Moves Any base d) : Moves Any base d.takeSet := by
  unfold Dev.takeSet
  dsimp only
  split
  · next d heq =>
      have h := (h.lapBegin.scrubHeader _).snd heq
      exact h.setScb _
  · next hdr d heq =>
      have h := (h.lapBegin.scrubHeader _).snd heq
      exact h.setScb _

theorem Moves.endSet (h : Moves Any base d) : Moves Any base d.endSet :=
  .ite h.setDone h

theorem Moves.scrubStep (h : Moves Any base d) {e : Dev} (he : d.scrubStep = some e) : Moves Any base e := by
  revert he
  unfold Dev.scrubStep
  split
  · split
    · exact nofun
    · exact fun he => Option.some.inj he ▸ h.takeSet
  · split
    · split
      · exact fun he => Option.some.inj he ▸ h.setDone
      · exact nofun
    · split
      · exact fun he => Option.some.inj he ▸ h.setScb _
      · split
        · exact fun he => Option.some.inj he ▸ h.setScb _
        · split
          · exact nofun
          · exact fun he => Option.some.inj he ▸ ((h.setScb _).pmu1 _ _).driveRd _ _

theorem Moves.scrubRun (h : Moves Any base d) (n : Nat) : Moves Any base (Dev.scrubRun n d) := by
  induction n generalizing d with
  | zero => exact h
  | succ n ih =>
    unfold Dev.scrubRun
    refine .ite h ?_
    split
    · next e he => exact ih (h.scrubStep he)
    · exact h

theorem Moves.scrubGo (h : Moves Any base d) : Moves Any base d.scrubGo :=
  ((Moves.ite h (h.setScb _)).scrubRun _).endSet

theorem Moves.scrubBurst (h : Moves Any base d) : Moves Any base (scrubBurst d) :=
  .ite h (.ite ((Moves.ite h (h.askToken _ _)).scrubGo) (.ite h (h.askToken _ _)))

theorem Moves.scrubGapEnd (h : Moves Any base d) : Moves Any base (scrubGapEnd d) :=
  .ite (.ite ((h.setScb _).askToken _ _) (h.setScb _)) h

theorem Moves.burstOver (h : Moves Any base d) : Moves Any base d.burstOver :=
  .ite ((h.setScb _).returnToken _ _) h

theorem Moves.scrubReadDone (h : Moves Any base d) (lane : Nat) (noise : Burst) :
    Moves Any base (scrubReadDone lane noise d) := by
  unfold Machine.scrubReadDone
  split
  · exact h
  · refine (Moves.endSet ?_).burstOver
    dsimp only
    split
    · exact h.setScb _
    · exact .ite (h.setScb _) (.ite (((h.setScb _).laneRead _ _ _).report _ _ _ _ _) ((h.setScb _).laneRead _ _ _))

theorem Moves.scbDisable (h : Moves Any base d) : Moves Any base (scbDisable d) :=
  .ite h (((h.set _ _).setScb _).burstOver)

/-! ## The flip mask and halted channels -/

theorem Moves.flipArm (h : Moves Any base d) : Moves Any base (flipArm d) :=
  .ite (h.ecc _) h

theorem Moves.flipDiscard (h : Moves Any base d) : Moves Any base (flipDiscard d) :=
  (h.ecc _).set _ _

theorem Moves.chanHaltClr (h : Moves Any base d) (port : Nat) (mask : BitVec 16) : Moves Any base (chanHaltClr port mask d) :=
  h.set _ _

/-! ## Passes -/

theorem Moves.passResult (h : Moves Any base d) (us : Nat) : Moves Any base (d.passResult us) :=
  (((h.foldl _ (fun _ _ h => h.setRaw _ _)).setRaw _ _).setRaw _ _).set _ _

theorem Moves.setMatch (h : Moves Any base d) (b : Bool) : Moves Any base (d.setMatch b) :=
  h.aside

theorem Moves.comparePass (h : Moves Any base d) : Moves Any base d.comparePass :=
  .ite h (.ite (h.setMatch _) (.ite (((h.setMatch _).report _ _ _ _ _).set _ _) (h.setMatch _)))

theorem Moves.cfgPassEnd (h : Moves Any base d) (us : Nat) : Moves Any base (cfgPassEnd us d) :=
  .ite h ((h.passResult _).comparePass)

theorem Moves.cfgCommit (h : Moves Any base d) : Moves Any base (cfgCommit d) :=
  h.aside

theorem Moves.commitDone (h : Moves Any base d) (us : Nat) : Moves Any base (commitDone us d) :=
  .ite h ((((h.passResult _).setRaw _ _).aside).raise _)

end Sys2Proof.Machine
end

section
/-! SUPPORT. The twin pair, the links and the memory ports: what their commands do is moves. -/

namespace Sys2Proof.Machine

set_option Elab.async false

variable {base d : Dev}

/-! ## Passes -/

theorem Moves.copyAcked (h : Moves Any base d) (mseq : Nat) : Moves Any base (d.copyAcked mseq) :=
  h.aside.copyPump

/-! ## Pair states -/

theorem Moves.toPair (h : Moves Any base d) (st : PairSt) (mirror : Bool) : Moves Any base (d.toPair st mirror) :=
  h.aside.remode

theorem Moves.askPartner (h : Moves Any base d) (ofs : Nat) : Moves Any base (d.askPartner ofs) :=
  h.aside.emit _

theorem Moves.readPartner (h : Moves Any base d) : Moves Any base d.readPartner :=
  (h.askPartner _).askPartner _

theorem Moves.toAlone (h : Moves Any base d) : Moves Any base d.toAlone :=
  ((((h.aside.toPair _ _).sendAll _).mirroredDeps _).endCopy).foldl _ (fun _ _ h => h.useWaiting _)

theorem Moves.toDetached (h : Moves Any base d) : Moves Any base d.toDetached :=
  h.aside.enterRecovery

theorem Moves.takeDown (h : Moves Any base d) (n : Nat) : Moves Any base (d.takeDown n) :=
  (((h.raiseIf _ _).dropToken _ _).setPort _ _).dropReleases _

theorem Moves.takeAllDown (h : Moves Any base d) : Moves Any base d.takeAllDown :=
  (h.foldl _ (fun _ _ h => h.takeDown _)).mpsTo _

theorem Moves.supersede (h : Moves Any base d) : Moves Any base d.supersede :=
  (h.aside.takeAllDown.raise _).enterRecovery

/-! ## Loss -/

theorem Moves.declareLoss (h : Moves Any base d) : Moves Any base d.declareLoss :=
  .ite (.ite ((((h.raise _).aside).toPair _ _).readPartner) ((((h.raise _).toPair _ _).endCopy).readPartner)) h

theorem Moves.heartbeat (h : Moves Any base d) : Moves Any base (heartbeat d) :=
  .ite h.heartbeatOut.copyPump h

/-! ## Pairing -/

theorem Moves.serveAlone (h : Moves Any base d) : Moves Any base d.serveAlone :=
  .ite h h.toAlone

theorem Moves.pairFails (h : Moves Any base d) : Moves Any base d.pairFails :=
  .ite h.serveAlone h.aside.readPartner

theorem Moves.markCandidate (h : Moves Any base d) : Moves Any base d.markCandidate :=
  (h.raiseIf _ _).aside

theorem Moves.becomeCandidate (h : Moves Any base d) : Moves Any base d.becomeCandidate :=
  .ite h.markCandidate h.markCandidate.readPartner

theorem Moves.formPair (h : Moves Any base d) : Moves Any base d.formPair := by
  unfold Dev.formPair
  refine .ite h ?_
  dsimp only
  split
  · exact .ite (h.aside.toPair _ _) (.ite (h.aside.toPair _ _) (.ite h.becomeCandidate h))
  · exact h

/-! ## Configuration fields -/

theorem Moves.pairDigest (h : Moves Any base d) (digest : Word) (role : Role) (grade : Bool) (addr : Nat) :
    Moves Any base (pairDigest digest role grade addr d) :=
  .ite h (.ite (.ite ((h.aside.raise _).pairFails) (h.aside.raise _)) h.aside.formPair)

/-! ## Pairing -/

theorem Moves.pairingGuardExpiry (h : Moves Any base d) : Moves Any base (pairingGuardExpiry d) :=
  .ite h.pairFails h

theorem Moves.partnerRead (h : Moves Any base d) (ans : Option Partner) : Moves Any base (partnerRead ans d) := by
  unfold Machine.partnerRead
  refine .ite h ?_
  dsimp only
  split
  · exact h.markCandidate.readPartner
  · exact .ite h.aside.serveAlone.readPartner h.aside.serveAlone

/-! ## The mirror side applies the stream -/

theorem Moves.mirrorApply (h : Moves Any base d) : Moves Any base (mirrorApply d) := by
  unfold Machine.mirrorApply
  split
  · exact h
  · exact .ite (h.aside.applyFlit _) h

theorem Moves.forgetAll (h : Moves Any base d) : Moves Any base d.forgetAll := (h.keepStore _).aside

theorem Moves.enterCopy (h : Moves Any base d) : Moves Any base d.enterCopy :=
  .ite (h.forgetAll.aside.toMode _) h.forgetAll.aside.remode

theorem Moves.ackPlaced (h : Moves Any base d) (mseq : Nat) : Moves Any base (d.ackPlaced mseq) :=
  .ite (h.aside.idleOut _) h.aside

theorem Moves.mirrorFlit (h : Moves Any base d) (mseq : Nat) (items : List Item) : Moves Any base (mirrorFlit mseq items d) :=
  .ite h (.ite ((((Moves.ite h.enterCopy h).aside).emit _).ackPlaced _) (.ite h.enterCopy h))

theorem Moves.ackedUpTo (h : Moves Any base d) (due : Nat → Bool) : Moves Any base (d.ackedUpTo due) :=
  ((h.aside.sendAll _).mirroredDeps _).foldl _ (fun _ _ h => h.useWaiting _)

theorem Moves.mirrorAck (h : Moves Any base d) (mseq : Nat) : Moves Any base (mirrorAck mseq d) :=
  .ite h (.ite (h.copyAcked _) (.ite h ((h.aside.ackedUpTo _).copyPump)))

/-! ## Drain -/

theorem Moves.startDrain (h : Moves Any base d) : Moves Any base d.startDrain :=
  h.aside.toMode _

/-! ## Work in progress -/

theorem Moves.takeover (h : Moves Any base d) : Moves Any base d.takeover := by
  have hcaught : Moves Any base d.caughtUp := h.aside.foldl _ fun _ _ h => h.applyFlit _
  have htook : Moves Any base d.tookOver :=
    .ite ((hcaught.aside.toPair _ _).setDeps _).startDrain ((hcaught.aside.toPair _ _).setDeps _)
  rw [takeover_eq]
  have hpasses := htook.adoptDirty.restartHolds.stopPasses
  exact (((hpasses.foldl _ fun _ _ h => h.tell _ _).foldl _ fun _ _ h => h.resnoop _).foldl _ fun _ _ h =>
    h.takeDep _).restartStreams.sdrPump

/-! ## The end of the window -/

theorem Moves.resendWindowEnd (h : Moves Any base d) (ns : Nat) : Moves Any base (resendWindowEnd ns d) :=
  .ite ((((((h.endWindow _).aside).toAlone).set _ _).report _ _ _ _ _).oweFrame _) (.ite h ((h.endWindow _).aside))

/-! ## Decisions -/

theorem Moves.lossWaitConfirm (h : Moves Any base d) (ans : Option Partner) : Moves Any base (lossWaitConfirm ans d) := by
  unfold Machine.lossWaitConfirm
  refine .ite h (.ite (Moves.toDetached ?_) ?_)
  · split
    · exact h.raise _
    · exact h.raise _
  · split
    · exact .ite ((h.raise _).toDetached) h.takeover
    · exact .ite h.takeover (h.raise _)

theorem Moves.fencedCheck (h : Moves Any base d) (ans : Option Partner) : Moves Any base (fencedCheck ans d) := by
  unfold Machine.fencedCheck
  refine .ite h ?_
  split
  · exact .ite h.toAlone (.ite h.supersede h.readPartner)
  · exact h.readPartner

theorem Moves.twnGuardExpiry (h : Moves Any base d) : Moves Any base (twnGuardExpiry d) :=
  .ite h.toAlone h

theorem Moves.homeMoved (h : Moves Any base d) : Moves Any base (homeMoved d) :=
  .ite h.supersede h

/-! ## What a heartbeat tells -/

theorem Moves.heard (h : Moves Any base d) (serving : Bool) (state epoch : Nat) :
    Moves Any base (d.heard serving state epoch) :=
  .ite (.ite h.aside.supersede (.ite h.aside.toAlone h.aside)) (.ite h.aside (.ite h.aside.formPair (.ite (.ite
    h.aside.enterCopy h.aside) (.ite (.ite (h.aside.toPair _ _) h.aside.formPair) (.ite h.aside.becomeCandidate (.ite
      h.aside.toDetached h.aside))))))

/-! ## Software -/

theorem Moves.detach (h : Moves Any base d) : Moves Any base (detach d) :=
  .ite (.ite h.toDetached h) (.ite h.toAlone h)

theorem Moves.forceTake (h : Moves Any base d) : Moves Any base (forceTake d) :=
  .ite h.takeover (.ite h.aside.toAlone h)

theorem Moves.twnResume (h : Moves Any base d) : Moves Any base (twnResume d) :=
  .ite h.toAlone h

/-! ## Joining -/

theorem Moves.join (h : Moves Any base d) : Moves Any base (join d) :=
  .ite ((h.aside.toPair _ _).copyPump) h

theorem Moves.copyDone (h : Moves Any base d) : Moves Any base (copyDone d) :=
  .ite h (.ite (h.aside.toPair _ _) ((h.aside.toPair _ _).raise _))

/-! ## Leaving a pair -/

theorem Moves.leavePair (h : Moves Any base d) : Moves Any base d.leavePair :=
  .ite h (.ite (h.takeDown _) ((((((((h.takeDown _).endCopy).aside).adoptDirty).remode).sendAll _).mirroredDeps _).foldl _
    (fun _ _ h => h.useWaiting _)))

theorem Moves.twnCfgWrite (h : Moves Any base d) (was : Bool) : Moves Any base (d.twnCfgWrite was) :=
  .ite h.leavePair h

/-! ## Where a link may run -/

theorem Moves.sendInit (h : Moves Any base d) (n : Nat) : Moves Any base (d.sendInit n) :=
  (h.emit _).controlOut _ _ _

/-! ## Work a port holds -/

theorem Moves.supplyOne (h : Moves Any base d) (n : Nat) (t : Txn) : Moves Any base (Dev.supplyOne n d t) := by
  unfold Dev.supplyOne
  split
  · exact h
  · exact .ite h (.ite ((h.slotPoison _ _).foldl _ (fun _ _ h => h.depBoardMiss _ _ _)) ((h.standIn _ _ _).answer _ _ _))

theorem Moves.supplyWrBack (h : Moves Any base d) (n : Nat) (t : Txn) : Moves Any base (Dev.supplyWrBack n d t) := by
  have hdrop : Moves Any base (if d.gcr.role = .manager then d else d.dirMap t.snooped (fun e => e.drop n)) :=
    .ite h (h.dirMapAny _ _)
  unfold Dev.supplyWrBack
  refine .ite h ?_
  dsimp only
  split
  · exact hdrop.wbReachedAny _ _ _
  · exact (hdrop.takeDirty _ _).wbReachedAny _ _ _
  · exact (hdrop.putTxn _).proceed _

theorem Moves.eachTxn (h : Moves Any base d) {f : Dev → Txn → Dev} (hf : ∀ e t, Moves Any base e → Moves Any base (f e t)) :
    Moves Any base (d.eachTxn f) :=
  h.foldl _ fun _ _ h => by
    split
    · exact hf _ _ h
    · exact h

theorem Moves.supplyAll (h : Moves Any base d) (n : Nat) : Moves Any base (d.supplyAll n) := by
  have hport := h.setPort n { d.port n with draining := false }
  have hall := (hport.eachTxn (f := Dev.supplyOne n) fun _ t h => h.supplyOne n t).eachTxn (f := Dev.supplyWrBack n) fun _ t h =>
    h.supplyWrBack n t
  exact .ite hport ((hall.eachTxn fun _ _ h => .ite ((h.retireGrant _).fillPlace _) h).slotLost n)

theorem Moves.drainNow (h : Moves Any base d) (n : Nat) : Moves Any base (d.drainNow n) :=
  .ite h (.ite (h.supplyAll _) (.ite h (h.setPort _ _)))

/-! ## Training and INIT -/

theorem Moves.peerDetect (h : Moves Any base d) (n : Nat) : Moves Any base (peerDetect n d) :=
  .ite (h.askToken _ _) h

theorem Moves.downEvent (h : Moves Any base d) (n : Nat) : Moves Any base (d.downEvent n) :=
  .ite (h.raise _) h

theorem Moves.linkFalls (h : Moves Any base d) (n : Nat) : Moves Any base (d.linkFalls n) := by
  unfold Dev.linkFalls
  refine .ite h ?_
  generalize hx : d.setPort n _ = x
  have hdown := (((hx ▸ h.setPort _ _ : Moves Any base x).downEvent n).returnToken 2 n).dropReleases n
  have hall := Moves.ite (c := (d.port n).draining) (hdown.supplyAll n) hdown
  exact .ite hall.declareLoss (.ite hall.uplinkDown hall)

theorem Moves.linkTrained (h : Moves Any base d) (n : Nat) (ok : Bool) (width rate : Nat) :
    Moves Any base (linkTrained n ok width rate d) :=
  .ite h (.ite (((h.setPort _ _).returnToken _ _).sendInit _) (h.linkFalls _))

theorem Moves.pumpPort (h : Moves Any base d) (n : Nat) : Moves Any base (d.pumpPort n) :=
  .ite h.pumpTw (h.pump _)

theorem Moves.linkActive (h : Moves Any base d) (n : Nat) (i : InitInfo) : Moves Any base (d.linkActive n i) :=
  (Moves.ite (h.raise _) (h.aside.emit _)).pumpPort _

theorem Moves.ownAgain (h : Moves Any base d) (n : Nat) : Moves Any base (d.ownAgain n) :=
  .ite ((h.setWb _).wbKick) h

theorem Moves.startAfresh (h : Moves Any base d) (n next : Nat) : Moves Any base (d.startAfresh n next) :=
  (h.aside.setPort _ _).ownAgain _

theorem Moves.freshLink (h : Moves Any base d) (n : Nat) (i : InitInfo) : Moves Any base (d.freshLink n i) :=
  ((h.setPort _ _).startAfresh _ _).linkActive _ _

theorem Moves.resumeLink (h : Moves Any base d) (n : Nat) (i : InitInfo) : Moves Any base (d.resumeLink n i) :=
  ((h.setPort _ _).resendFlits _).linkActive _ _

theorem Moves.loseLink (h : Moves Any base d) (n : Nat) : Moves Any base (d.loseLink n) :=
  .ite (((h.setPort _ _).aside).declareLoss) (.ite (((h.setPort _ _).aside).raise _) (.ite (((((h.setPort _ _).aside).raise
    _).stopPort _).supplyAll _) (.ite ((((h.setPort _ _).aside).raise _).supplyAll _) (((h.setPort _ _).aside).raise _))))

theorem Moves.linkLost (h : Moves Any base d) (n : Nat) : Moves Any base (linkLost n d) :=
  .ite h (.ite ((h.loseLink _).sendInit _) (h.loseLink _))

theorem Moves.initMeets (h : Moves Any base d) (n : Nat) (i : InitInfo) : Moves Any base (d.initMeets n i) :=
  .ite (.ite (h.resumeLink _ _) (.ite ((h.loseLink _).sendInit _) ((h.loseLink _).freshLink _ _))) (h.freshLink _ _)

/-! ## Flits -/

theorem Moves.badCrc (h : Moves Any base d) (n : Nat) : Moves Any base (d.badCrc n) :=
  .ite ((h.raise _).bumpSat _ _) h

theorem Moves.viewFlit (h : Moves Any base d) (n : Nat) (f : Flit) : Moves Any base (d.viewFlit n f) :=
  h.setPort _ _

theorem Moves.seeFlit (h : Moves Any base d) (n : Nat) (f : Flit) : Moves Any base (d.seeFlit n f) :=
  (Moves.ite ((h.viewFlit _ _).startNext _) (h.viewFlit _ _)).pumpPort _

theorem Moves.misfit (h : Moves Any base d) (n : Nat) : Moves Any base (d.misfit n) :=
  .ite ((h.setPort _ _).raise _) (h.setPort _ _)

theorem Moves.takeInit (h : Moves Any base d) (n : Nat) (i : InitInfo) : Moves Any base (d.takeInit n i) := by
  unfold Dev.takeInit
  generalize hx : (if n = twPort ∧ (d.port n).st = 2 then ({ d with twn := { d.twn with peer := i.daddr } } : Dev) else d) = x
  have hpeer : Moves Any base x := hx ▸ .ite h.aside h
  have hlost := (hpeer.dropReleases n).loseLink n
  have hagain := (hlost.setPort n { ((x.dropReleases n).loseLink n).port n with st := 2 }).sendInit n
  exact .ite (.ite (hpeer.initMeets n i) (hpeer.misfit n)) (.ite (.ite (hagain.freshLink n i) (hagain.misfit n)) hpeer)

theorem Moves.init (h : Moves Any base d) (n : Nat) (f : Flit) : Moves Any base (init n f d) :=
  .ite h (.ite (h.badCrc _) ((h.viewFlit _ _).takeInit _ _))

theorem Moves.initResend (h : Moves Any base d) (n : Nat) : Moves Any base (initResend n d) :=
  .ite (h.sendInit _) h

/-! ## DATA flits and the others -/

theorem Moves.nakOnce (h : Moves Any base d) (n : Nat) : Moves Any base (d.nakOnce n) :=
  .ite h ((h.setPort _ _).controlSend _ _)

theorem Moves.takeCredit (h : Moves Any base d) (n cls : Nat) : Moves Any base (d.takeCredit n cls).2 := by
  unfold Dev.takeCredit
  dsimp only
  refine .iteSnd ?_ ?_
  · exact h
  · dsimp only
    exact h.setPort _ _

theorem Moves.slotIn (h : Moves Any base d) (n : Nat) (x : Slot) : Moves Any base (Dev.slotIn n d x) :=
  .ite h (.ite (h.protoErr _ _) (.ite ((h.takeCredit _ _).protoErr _ _) ((Moves.ite (((h.takeCredit _ _).pmu1 _ _).pmu1 _ _)
    ((h.takeCredit _ _).pmu1 _ _)).trace _ _ _ _ _ _ _)))

theorem Moves.mirrorArrives (h : Moves Any base d) (f : Flit) : Moves Any base (d.mirrorArrives f) :=
  .ite (h.idleOut _) (.ite (h.aside.idleOut _) h.aside)

theorem Moves.acceptFlit (h : Moves Any base d) (n : Nat) (f : Flit) : Moves Any base (d.acceptFlit n f) :=
  .ite ((h.tw _).mirrorArrives _) (((Moves.ite ((h.setPort _ _).pmu1 _ _) (h.setPort _ _)).foldl _ (fun _ _ h => h.slotIn _
    _)).idleOut _)

theorem Moves.dataFlit (h : Moves Any base d) (n : Nat) (f : Flit) : Moves Any base (dataFlit n f d) :=
  .ite h (.ite (.ite (h.viewFlit _ _) (h.badCrc _)) (.ite ((h.badCrc _).nakOnce _) (.ite ((h.seeFlit _ _).acceptFlit _ _)
    (.ite (h.seeFlit _ _) ((h.seeFlit _ _).nakOnce _)))))

theorem Moves.otherFlit (h : Moves Any base d) (n : Nat) (f : Flit) {k : Dev → Dev}
    (hk : ∀ e, Moves Any base e → Moves Any base (k e)) : Moves Any base (d.otherFlit n f k) :=
  .ite h (.ite (h.badCrc _) (.ite h (.ite (h.viewFlit _ _) (hk _ (h.seeFlit _ _)))))

theorem Moves.toRecover (h : Moves Any base d) (n : Nat) : Moves Any base (d.toRecover n) :=
  .ite ((((h.setPort _ _).dropReleases _).raise _).bumpSat _ _) ((h.setPort _ _).dropReleases _)

theorem Moves.countReplay (h : Moves Any base d) (n : Nat) : Moves Any base (d.countReplay n) :=
  .ite ((h.bumpSat _ _).pmu1 _ _) (h.bumpSat _ _)

theorem Moves.nak (h : Moves Any base d) (n : Nat) (f : Flit) : Moves Any base (nak n f d) := by
  refine h.otherFlit n f fun e he => ?_
  have hport := he.setPort n { e.port n with
    lastNak := some (f.ack % 4096)
    replays := if (e.port n).lastNak == some (f.ack % 4096) then (e.port n).replays + 1 else 0 }
  have hcount := Moves.ite (c := (e.port n).lastNak == some (f.ack % 4096)) (hport.countReplay n) hport
  exact .ite (hcount.toRecover n) (hcount.controlSend n _)

theorem Moves.recoverDone (h : Moves Any base d) (n : Nat) (ok : Bool) : Moves Any base (recoverDone n ok d) :=
  .ite h (.ite ((h.setPort _ _).sendInit _) (.ite (h.linkFalls _) (h.setPort _ _)))

/-! ## LP -/

theorem Moves.lpIdle (h : Moves Any base d) (n : Nat) : Moves Any base (lpIdle n d) :=
  .ite ((h.setPort _ _).lpmOut _ _) h

theorem Moves.enterLp (h : Moves Any base d) (n : Nat) : Moves Any base (d.enterLp n) :=
  .ite (((h.setPort _ _).dropReleases _).askToken _ _) ((h.setPort _ _).dropReleases _)

theorem Moves.lpProposed (h : Moves Any base d) (n : Nat) : Moves Any base (d.lpProposed n) :=
  .ite ((h.setPort _ _).controlSend _ _) (.ite (h.lpmOut _ _) ((h.lpmOut _ _).enterLp _))

theorem Moves.lpm (h : Moves Any base d) (n : Nat) (f : Flit) (code : Nat) : Moves Any base (lpm n f code d) :=
  h.otherFlit n f fun _ he => .ite (he.lpProposed n) (.ite (he.protoRaise n _) (.ite (he.enterLp n) (he.setPort n _)))

theorem Moves.lpExit (h : Moves Any base d) (n : Nat) : Moves Any base (lpExit n d) :=
  .ite (h.askToken _ _) h

/-! ## Enabling and disabling a port -/

theorem Moves.portDisable (h : Moves Any base d) (n : Nat) : Moves Any base (portDisable n d) :=
  .ite ((h.stopPort _).drainNow _) h

theorem Moves.portEnable (h : Moves Any base d) (n : Nat) : Moves Any base (portEnable n d) :=
  .ite h (.ite ((((h.set _ _).setPort _ _).setPort _ _).sendInit _) (.ite (((h.set _ _).setPort _ _).askToken _ _) ((h.set _
    _).setPort _ _)))

theorem Moves.drainingEnd (h : Moves Any base d) (fn : DrainFn) : Moves Any base (drainingEnd fn d) := by
  unfold Machine.drainingEnd
  split
  · exact h.drainNow _
  · exact .ite (h.dep _) h
  · exact .ite (h.putStream _ _) h
  · exact .ite (h.setScb _) h

/-! ## Bring-up -/

theorem Moves.clearAgain (h : Moves Any base d) (n : Nat) : Moves Any base (d.clearAgain n) :=
  h.foldl _ (fun _ _ h => h.memWrite _ _ _)

theorem Moves.clearLost (h : Moves Any base d) (n : Nat) : Moves Any base (d.clearLost n) :=
  ((h.sdr _).foldl _ (fun _ _ h => h.report _ _ _ _ _)).sdrPump

theorem Moves.mpReady (h : Moves Any base d) (n gib width : Nat) (slow : Bool) : Moves Any base (d.mpReady n gib width slow) :=
  (((((h.setMp _ _).returnToken _ _).mpStart _).wbKick).clearAgain _).sdrPump

theorem Moves.mpSteps (h : Moves Any base d) (n : Nat) (r : BringUp) : Moves Any base (d.mpSteps n r).2 := by
  unfold Dev.mpSteps
  dsimp only
  split
  · refine .iteSnd ?_ ?_
    · dsimp only
      exact h.mpReady _ _ _ _
    · dsimp only
      exact (((h.setMp _ _).setMp _ _).returnToken _ _).raise _
  · dsimp only
    exact (h.setMp _ _).returnToken _ _
  · dsimp only
    exact (h.setMp _ _).returnToken _ _
  · dsimp only
    exact (h.setMp _ _).returnToken _ _
  · dsimp only
    exact (((h.setMp _ _).setMp _ _).returnToken _ _).raise _
  · dsimp only
    exact (((h.setMp _ _).setMp _ _).returnToken _ _).raise _

theorem Moves.backToConfigure (h : Moves Any base d) : Moves Any base d.backToConfigure := by
  have hdown := h.takeAllDown
  unfold Dev.backToConfigure
  dsimp only
  generalize d.takeAllDown = x at hdown ⊢
  refine ((hdown.rest trivial fun hi => ?_).raise _).toMode _
  exact { hi with
    lanes := by rw [List.length_map]; exact hi.lanes
    mps := by rw [List.length_map]; exact hi.mps }

theorem Moves.addDone (h : Moves Any base d) (n : Nat) (r : BringUp) : Moves Any base (d.addDone n r) :=
  (h.mpSteps _ _).raiseIf _ _

theorem Moves.mpAsks (h : Moves Any base d) (n : Nat) : Moves Any base (d.mpAsks n) :=
  .ite h (.ite ((h.startPll _).setMp _ _) (h.askToken _ _))

theorem Moves.memoryPortBringUp (h : Moves Any base d) (n : Nat) (r : BringUp) : Moves Any base (memoryPortBringUp n r d) :=
  .ite h (.ite (.ite (h.addDone _ _) h) (.ite h (.ite (h.mpAsks _) (.ite ((h.mpAsks _).mpSteps _ _) (((h.mpAsks _).mpSteps _
    _).backToConfigure)))))

/-! ## Loss of a link -/

theorem Moves.unissue (h : Moves Any base d) (n : Nat) : Moves Any base (d.unissue n) :=
  .ite h (h.setWb _)

theorem Moves.mpLinkDown (h : Moves Any base d) (n : Nat) : Moves Any base (mpLinkDown n d) :=
  .ite h ((((h.setMp _ _).raise _).unissue _).askToken _ _)

theorem Moves.mpLinkReturn (h : Moves Any base d) (n width : Nat) (slow : Bool) :
    Moves Any base (mpLinkReturn n width slow d) :=
  .ite (h.mpReady _ _ _ _) h

theorem Moves.mpFailed (h : Moves Any base d) (n : Nat) : Moves Any base (mpFailed n d) :=
  .ite h (.ite ((((h.setMp _ _).dropToken _ _).raise _).toDetached) (.ite ((((h.setMp _ _).dropToken _ _).raise
    _).enterRecovery) (((((h.setMp _ _).dropToken _ _).raise _).wbKick).clearLost _)))

/-! ## Hot-plug -/

theorem Moves.mpRemove (h : Moves Any base d) (n : Nat) : Moves Any base (mpRemove n d) :=
  .ite h (.ite ((((h.setMp _ _).returnToken _ _).wbKick).clearLost _) (h.raise _))

theorem Moves.mpAddStart (h : Moves Any base d) (n : Nat) : Moves Any base (d.mpAddStart n) :=
  .ite h (.ite (h.raise _) (.ite h ((h.setMp _ _).mpAsks _)))

theorem Moves.mpAdd (h : Moves Any base d) (n : Nat) (r : BringUp) : Moves Any base (mpAdd n r d) :=
  .ite ((h.mpAddStart _).addDone _ _) (h.mpAddStart _)

/-! ## Host access to the memory device -/

theorem Moves.mpAccess (h : Moves Any base d) (n : Nat) (write : Bool) (v : Word) (ans : Option Word) :
    Moves Any base (d.mpAccess n write v ans).2 := by
  unfold Dev.mpAccess
  dsimp only
  refine .iteSnd ?_ ?_
  · exact h
  · split
    · dsimp only
      exact (Moves.ite h (h.emit _)).setMp _ _
    · dsimp only
      exact (Moves.ite h (h.emit _)).setMp _ _

theorem Moves.mpIoData (h : Moves Any base d) (src : Src) (n : Nat) (write : Bool) (v : Word) (ans : Option Word) :
    Moves Any base (mpIoData src n write v ans d) := by
  unfold Machine.mpIoData
  refine .ite (h.write _ _ _ (h.mpAccess _ _ _ _)) ?_
  dsimp only
  split
  · exact h.busErr _ _ _ _
  · exact (h.mpAccess _ _ _ _).emit _

/-! ## The host port -/

theorem Moves.resetHost (h : Moves Any base d) (up : Bool) : Moves Any base (d.resetHost up) := (h.keepRegs _).aside

theorem Moves.flr (h : Moves Any base d) (perst : Bool) : Moves Any base (flr perst d) :=
  .ite h (.ite ((h.resetHost _).raiseIf _ _) ((h.resetHost _).raise _))

theorem Moves.setDoze (h : Moves Any base d) (z : Option Doze) : Moves Any base (d.setDoze z) :=
  h.pwr _

theorem Moves.dozeReq (h : Moves Any base d) : Moves Any base (dozeReq d) :=
  .ite (h.raise _) (h.setDoze _)

theorem Moves.abortDoze (h : Moves Any base d) (stage block : Nat) : Moves Any base (d.abortDoze stage block) :=
  .ite (((Moves.ite (((((h.set _ _).set _ _).raise _).setDoze _).stepTo _) ((((h.set _ _).set _ _).raise _).setDoze _)).pip
    _).releaseWaiting) (.ite (((((h.set _ _).set _ _).raise _).setDoze _).stepTo _) ((((h.set _ _).set _ _).raise _).setDoze _))

theorem Moves.stageDone (h : Moves Any base d) (z : Doze) : Moves Any base (d.stageDone z) :=
  h.setDoze _

theorem Moves.writeBackAll (h : Moves Any base d) : Moves Any base d.writeBackAll :=
  (h.flushHeaders.foldl _ (fun _ _ h => h.sdrWrite _)).sdr _

theorem Moves.turnAllOff (h : Moves Any base d) (l : List Nat) : Moves Any base (d.turnAllOff l) :=
  h.foldl _ (fun _ _ h => h.turnOff _)

theorem Moves.toPoint (h : Moves Any base d) (f v : Nat) : Moves Any base (d.toPoint f v) :=
  .ite (h.raise _) (.ite h (h.dvfsBegin _ _ _))

theorem Moves.powerDownMem (h : Moves Any base d) : Moves Any base d.powerDownMem :=
  (h.turnAllOff _).aside

theorem Moves.wakeDoze (h : Moves Any base d) (z : Doze) : Moves Any base (d.wakeDoze z) :=
  .ite (.ite ((h.setDoze _).toPoint _ _) ((h.setDoze _).toPoint _ _)) ((Moves.ite ((h.setDoze _).toPoint _ _) ((h.setDoze
    _).toPoint _ _)).wakeStepped)

theorem Moves.fallAsleep (h : Moves Any base d) (z : Doze) : Moves Any base (d.fallAsleep z) :=
  .ite ((((h.stopPll _).toMode _).raise _).wakeDoze _) ((((h.stopPll _).toMode _).raise _).setDoze _)

theorem Moves.lastStage (h : Moves Any base d) (z : Doze) : Moves Any base (d.lastStage z) :=
  .ite (.ite h (h.fallAsleep _)) (.ite ((h.setDoze _).toPoint _ _) (((h.setDoze _).toPoint _ _).fallAsleep _))

theorem Moves.stage (h : Moves Any base d) (z : Doze) : Moves Any base (d.stage z) := by
  unfold Dev.stage
  split
  · split
    · exact h.abortDoze _ _
    · exact h.stageDone _
  · exact .ite (h.abortDoze _ _) ((h.pip _).stageDone _)
  · exact .ite (h.abortDoze _ _) (.ite (h.stageDone _) h)
  · exact .ite (h.abortDoze _ _) (h.stageDone _)
  · exact .ite (h.foldl _ (fun _ _ h => h.closeStream _)) ((h.foldl _ (fun _ _ h => h.closeStream _)).stageDone _)
  · exact .ite ((h.wbForce _).stageDone _) (h.wbForce _)
  · exact h.writeBackAll.stageDone _
  · exact .ite h (((h.burstOver.foldl _ (fun _ _ h => h.laneSleeps _)).turnAllOff _).stageDone _)
  · exact h.powerDownMem.stageDone _
  · exact h.lastStage _

theorem Moves.dozeQuiesceTimeout (h : Moves Any base d) : Moves Any base (dozeQuiesceTimeout d) := by
  unfold Machine.dozeQuiesceTimeout
  split
  · exact .ite (h.abortDoze _ _) h
  · exact h

theorem Moves.wakeBy (h : Moves Any base d) (bit : Nat) : Moves Any base (d.wakeBy bit) := by
  unfold Dev.wakeBy
  split
  · exact .ite ((h.set _ _).wakeDoze _) ((h.set _ _).setDoze _)
  · exact h

theorem Moves.wakeEvent (h : Moves Any base d) (bit : Nat) : Moves Any base (wakeEvent bit d) :=
  .ite (h.wakeBy _) h

theorem Moves.dozeServes (h : Moves Any base d) (z : Doze) : Moves Any base (d.dozeServes z) :=
  ((Moves.ite (h.toMode _) h).pip _).releaseWaiting

theorem Moves.dozeOut (h : Moves Any base d) : Moves Any base (dozeOut d) := by
  unfold Machine.dozeOut
  split
  · exact .ite (.ite (((Moves.ite (h.dozeServes _) h).setDoze _).raise _) (.ite (h.dozeServes _) h)) h
  · exact h

/-! ## GO -/

theorem Moves.cmdRefused (h : Moves Any base d) : Moves Any base d.cmdRefused :=
  h.raise _

theorem Moves.goCmd (h : Moves Any base d) : Moves Any base (goCmd d) :=
  .ite h.cmdRefused (.ite (h.cfgCommit.toMode _) ((((h.set _ _).raise _).raiseIf _ _).raiseIf _ _))

theorem Moves.autostart (h : Moves Any base d) : Moves Any base (autostart d) :=
  .ite h.aside.goCmd h

/-! ## Self-test and Train -/

theorem Moves.bistResult (h : Moves Any base d) (bad : Bool) (failArr us : Nat) :
    Moves Any base (d.bistResult bad failArr us) :=
  .ite (((((h.set _ _).set _ _).set _ _).set _ _).raise _) (((h.set _ _).set _ _).set _ _)

theorem Moves.checkerResult (h : Moves Any base d) (fails : Nat) : Moves Any base (d.checkerResult fails) :=
  .ite h ((((h.set _ _).set _ _).set _ _).raiseIf _ _)

theorem Moves.initArrays (h : Moves Any base d) : Moves Any base d.initArrays :=
  h.rest trivial fun hi => { hi with queues := resetInvariant.queues, depth := resetInvariant.depth }

end Sys2Proof.Machine
end

section
/-! SUPPORT. Start-up, resets, register accesses, the chain and the arrays: what their commands do is moves. -/

namespace Sys2Proof.Machine

set_option Elab.async false

variable {base d : Dev}

/-! ## Self-test and Train -/

theorem Moves.enterTrain (h : Moves Any base d) : Moves Any base d.enterTrain := by
  have hlanes : Moves Any base ({ d with
      dsc := { lanes := (List.range 18).map fun n => if d.populated n then ({ st := 1 } : Lane) else {} } } : Dev) :=
    h.rest trivial fun hi => { hi with lanes := by rw [List.length_map, List.length_range] }
  exact ((Moves.ite hlanes.aside hlanes).startPll 5).toMode .train

theorem Moves.selfTestDone (h : Moves Any base d) (failArr fails us : Nat) : Moves Any base (selfTestDone failArr fails us d) :=
  .ite h (.ite (((h.bistResult _ _ _).checkerResult _).faultN) ((((h.bistResult _ _ _).checkerResult _).initArrays).enterTrain))

theorem Moves.trainComplete (h : Moves Any base d) : Moves Any base (trainComplete d) :=
  .ite (.ite (h.toMode _) ((h.toMode _).startSdrClear)) h

/-! ## SERVE and Drain -/

theorem Moves.serve (h : Moves Any base d) (v : Bool) : Moves Any base (serve v d) :=
  (h.set _ _).remode

theorem Moves.drain (h : Moves Any base d) : Moves Any base (drain d) :=
  .ite h.cmdRefused (.ite h.aside h.startDrain)

theorem Moves.drainDone (h : Moves Any base d) : Moves Any base (drainDone d) :=
  .ite (h.flushHeaders.aside.raise _) h

theorem Moves.drainResume (h : Moves Any base d) : Moves Any base (drainResume d) :=
  .ite h.cmdRefused (.ite h.aside (.ite (h.aside.toMode _) h.cmdRefused))

/-! ## Reset -/

/-- A device held in reset is as at reset (R519). -/
theorem Moves.heldAny (h : Moves Any base d) (mode : Mode) (keepAddr : Bool) : Moves Any base (d.held mode keepAddr) :=
  h.rest trivial fun _ => { resetInvariant with }

theorem Moves.pinsReset (h : Moves Any base d) (host : Bool) : Moves Any base (d.pinsReset host) :=
  h.foldl _ (fun _ _ h => h.emit _)

theorem Moves.rstNLow (h : Moves Any base d) (pwrOk : Bool) : Moves Any base (rstNLow pwrOk d) :=
  .ite (((h.heldAny _ _).aside).pinsReset _) ((h.heldAny _ _).aside)

theorem Moves.pwrOkRise (h : Moves Any base d) : Moves Any base (pwrOkRise d) :=
  .ite (h.aside.pinsReset _) h

theorem Moves.resetRelease (h : Moves Any base d) (role : Role) (side head : Bool) :
    Moves Any base (resetRelease role side head d) :=
  .ite (h.aside.heldAny _ _) h

/-- RESTART keeps the host port's registers while its domain is on (R519). -/
theorem Moves.keepHost (h : Moves Any base d) : Moves Any base (d.keepHost (d.held .boot true)) :=
  .ite (h.rest trivial fun hi => { resetInvariant with regs := rising_filter _ hi.regs }) (h.heldAny _ _)

theorem Moves.restart (h : Moves Any base d) : Moves Any base (restart d) := .ite (h.keepHost.pinsReset _) h.cmdRefused

/-! ## Chain requests software starts -/

theorem Moves.chnEnum (h : Moves Any base d) : Moves Any base (chnEnum d) :=
  .ite h.startRollCall h

theorem Moves.chnGo (h : Moves Any base d) : Moves Any base (chnGo d) := by
  unfold Machine.chnGo
  refine .ite h ?_
  split
  · exact h
  · exact (h.set _ _).chainSend _ _ _ _

theorem Moves.inLost (h : Moves Any base d) : Moves Any base (inLost d) :=
  .ite (h.aside.raise _) h

theorem Moves.chnInRegain (h : Moves Any base d) : Moves Any base (chnInRegain d) :=
  .ite h h.aside.chnEnum

/-! ## Offsets with a behaviour of their own -/

theorem Moves.plainWrite (h : Moves Any base d) (ofs : Nat) (v : Word) : Moves Any base (d.plainWrite ofs v) := by
  unfold Dev.plainWrite
  split
  · exact h.setRaw _ _
  · exact h

theorem Moves.onBit (h : Moves Any base d) (v : Word) (k : Nat) {f : Dev → Dev}
    (hf : ∀ e, Moves Any base e → Moves Any base (f e)) :
    Moves Any base (onBit v k f d) :=
  .ite (hf d h) h

/-! ## Writes, block by block -/

theorem Moves.gcrCmd (h : Moves Any base d) (v : Word) : Moves Any base (gcrCmd v d) :=
  (((h.onBit v 0 fun _ h => h.goCmd).onBit v 1 fun _ h => h.drain).onBit v 2 fun _ h => h.drainResume).onBit v 3 fun _ h => h.restart

theorem Moves.wgReqWrite (h : Moves Any base d) (v : Word) : Moves Any base (wgReqWrite v d) :=
  .ite (h.raise _) (h.foldl _ (fun _ _ h => (.ite h (.ite (h.wayGroupPowerDown _) (.ite (h.sweepStop _) (h.wayGroupWake _))))))

theorem Moves.domOffWrite (h : Moves Any base d) (v : Word) : Moves Any base (domOffWrite v d) :=
  h.foldl _ (fun _ _ h => (.ite (h.domainOff _) (h.domainOn _)))

theorem Moves.dvfsWrite (h : Moves Any base d) (src : Src) (v : Word) : Moves Any base (dvfsWrite src v d) :=
  .ite (h.set _ _) (h.dvfsTarget _)

/-- The next of a row of registers that have a meaning of their own. -/
theorem Moves.orElse {c : Prop} [Decidable c] {x : Dev} {o : Option Dev} (hx : Moves Any base x)
    (ho : ∀ {e}, o = some e → Moves Any base e) {e : Dev} (he : (if c then some x else o) = some e) : Moves Any base e := by
  split at he
  · exact Option.some.inj he ▸ hx
  · exact ho he

theorem Moves.noElse {e : Dev} (he : (none : Option Dev) = some e) : Moves Any base e := nomatch he

theorem Moves.actAon (h : Moves Any base d) {src : Src} {ofs : Nat} {v : Word} {e : Dev} (he : d.actAon src ofs v = some e) :
    Moves Any base e := by
  have hplain := h.plainWrite ofs v
  have hgo := ((hplain.onBit v 4 fun _ h => h.dvfsFgo).onBit v 5 fun _ h => h.dvfsVgo)
  have hdoze := (h.onBit v 0 fun _ h => h.dozeReq).onBit v 1 fun _ h => h.wakeBy 4
  have hbell := ((h.onBit v 2 fun _ h => h.belDisarm).onBit v 0 fun _ h => h.belArm).onBit v 1 fun _ h => h.markArm
  have hchain := (h.onBit v 0 fun _ h => h.chnEnum).onBit v 1 fun _ h => h.chnGo
  unfold Dev.actAon at he
  exact (h.gcrCmd v).orElse ((h.serve _).orElse ((h.onBit v 0 fun _ h => h.cfgCommit).orElse
    ((h.onBit v 0 fun _ h => h.xtalRetry).orElse ((h.clkForceGate _).orElse ((h.clkOutCfgWrite v).orElse
    ((hplain.onBit v 8 fun _ h => h.clkMeasGo _).orElse ((h.wgReqWrite v).orElse ((h.padRelease _).orElse
    ((h.domOffWrite v).orElse ((h.dvfsWrite src v).orElse (hgo.orElse ((h.onBit v 0 fun _ h => h.vrClear).orElse
    (hdoze.orElse (hbell.orElse (hchain.orElse .noElse))))))))))))))) he

theorem Moves.msixWrite (h : Moves Any base d) (ofs : Nat) (v : Word) : Moves Any base (d.msixWrite ofs v) :=
  .ite h h.aside

theorem Moves.actEvent (h : Moves Any base d) {src : Src} {ofs : Nat} {v : Word} {e : Dev}
    (he : d.actEvent src ofs v = some e) : Moves Any base e := by
  have hplain := h.plainWrite ofs v
  unfold Dev.actEvent at he
  exact (h.msixWrite ofs v).orElse ((h.evcRearm 0 v).orElse ((h.evcRearm 1 v).orElse ((h.mboWrite src v).orElse
    ((h.onBit v 0 fun _ h => h.queDrop src _).orElse ((hplain.onBit v 8 fun _ h => h.pmuClear).orElse
    ((h.onBit v 0 fun _ h => h.pmuSmpDone).orElse .noElse)))))) he

theorem Moves.mntCtrlWrite (h : Moves Any base d) (ofs : Nat) (v : Word) : Moves Any base (mntCtrlWrite ofs v d) :=
  have hstart := (h.plainWrite ofs v).onBit v 8 fun _ h => h.mntStart (v.toNat % 4) (v.getLsbD 2)
  .ite (hstart.onBit v 9 fun _ h => h.mntAbort) hstart

theorem Moves.apdCtrlWrite (h : Moves Any base d) (n : Nat) (v : Word) : Moves Any base (apdCtrlWrite n v d) :=
  (Moves.ite (h.streamEnable n) (h.streamDisable n)).onBit v 1 fun _ h => h.closeSoon n _

theorem Moves.enableUnless (h : Moves Any base d) (draining : Bool) (f : FieldRef) :
    Moves Any base (enableUnless draining f d) :=
  .ite h (h.set _ _)

theorem Moves.actCore (h : Moves Any base d) {ofs : Nat} {v : Word} {e : Dev} (he : d.actCore ofs v = some e) :
    Moves Any base e := by
  have htwin := (((h.onBit v 0 fun _ h => h.join).onBit v 1 fun _ h => h.detach).onBit v 2 fun _ h => h.forceTake).onBit v 3
    fun _ h => h.twnResume
  unfold Dev.actCore at he
  exact (h.onBit v 0 fun _ h => h.pipQuarClr).orElse ((h.mntCtrlWrite ofs v).orElse ((h.onBit v 0 fun _ h => h.hdcFlush).orElse
    ((h.onBit v 0 fun _ h => h.wbfFlush).orElse ((h.onBit v 0 fun _ h => h.dirProbeGo).orElse
    ((h.onBit v 0 fun _ h => h.depProbeGo).orElse ((h.onBit v 0 fun _ h => h.depCancelGo).orElse (htwin.orElse
    (((h.plainWrite ofs v).twnCfgWrite _).orElse ((Moves.ite (h.enableUnless _ _) h.depDisable).orElse
    ((Moves.ite (h.enableUnless _ _) h.scbDisable).orElse ((h.apdCtrlWrite _ v).orElse .noElse))))))))))) he

theorem Moves.freeIo (h : Moves Any base d) : Moves Any base d.freeIo.2 := by
  unfold Dev.freeIo
  dsimp only
  exact h.free _

theorem Moves.mpHpWrite (h : Moves Any base d) (n : Nat) (v : Word) : Moves Any base (mpHpWrite n v d) :=
  (h.onBit v 0 fun _ h => h.mpRemove n).onBit v 1 fun _ h => h.mpAddStart n

theorem Moves.actPort (h : Moves Any base d) {ofs : Nat} {v : Word} {e : Dev} (he : d.actPort ofs v = some e) :
    Moves Any base e := by
  unfold Dev.actPort at he
  refine (Moves.ite (h.plainWrite ofs v) h.flipDiscard).orElse ((h.onBit v 0 fun _ h => h.flipArm).orElse
    ((h.chanHaltClr _ _).orElse ((h.plainWrite ofs v).remode.orElse fun {e} he => ?_))) he
  split at he
  · exact Option.some.inj he ▸ h.freeIo.mpAccess _ _ _ _
  · split at he
    · exact (Moves.ite (h.portEnable _) (h.portDisable _)).orElse .noElse he
    · exact (h.mpHpWrite _ v).orElse .noElse he
    · exact .noElse he

theorem Moves.regEffect (h : Moves Any base d) (src : Src) (ofs : Nat) (v : Word) : Moves Any base (d.regEffect src ofs v) := by
  unfold Dev.regEffect
  split
  · next he => exact h.actAon he
  · split
    · next he => exact h.actEvent he
    · split
      · next he => exact h.actCore he
      · split
        · next he => exact h.actPort he
        · exact h.plainWrite ofs v

/-! ## Pairs: staging and shadows -/

theorem Moves.setAcc (h : Moves Any base d) (src : Src) (a : Acc1) : Moves Any base (d.setAcc src a) := by
  unfold Dev.setAcc
  split
  · exact h.aside
  · exact h.aside
  · exact h.aside

theorem Moves.pairWrite (h : Moves Any base d) (lo v : Nat) : Moves Any base (d.pairWrite lo v) := by
  unfold Dev.pairWrite
  split
  · exact h.apdDescriptorWrite _ _ _
  · exact h.apdDescriptorWrite _ _ _
  · exact h.apdHeadWrite _ _
  · exact (h.plainWrite _ _).plainWrite _ _

theorem Moves.loWrite (h : Moves Any base d) (src : Src) (ofs : Nat) (v : Word) : Moves Any base (d.loWrite src ofs v) := by
  unfold Dev.loWrite
  refine Moves.pairWrite ?_ _ _
  dsimp only
  split
  · exact .ite (h.setAcc _ _) h
  · exact h

theorem Moves.doWrite (h : Moves Any base d) (src : Src) (ofs : Nat) (v : Word) : Moves Any base (d.doWrite src ofs v) := by
  unfold Dev.doWrite
  split
  · exact h.setAcc _ _
  · exact h.loWrite _ _ _
  · split
    · exact h.apdDescriptorWrite _ _ _
    · exact h.regEffect _ _ _

theorem Moves.write4 (h : Moves Any base d) (src : Src) (ofs : Nat) (v : Word) : Moves Any base (d.write4 src ofs v).2 := by
  unfold Dev.write4
  refine .iteSnd ?_ ?_
  · dsimp only
    exact h.busErr _ _ _ _
  · refine .iteSnd ?_ ?_
    · dsimp only
      exact h.busErr _ _ _ _
    · split
      · dsimp only
        exact h.busErr _ _ _ _
      · dsimp only
        exact h.doWrite _ _ _

/-! ## Reads -/

theorem Moves.doRead (h : Moves Any base d) (src : Src) (ofs : Nat) : Moves Any base (d.doRead src ofs).2 := by
  unfold Dev.doRead
  dsimp only
  refine .iteSnd ?_ ?_
  · exact h
  · split
    · refine .iteSnd ?_ ?_
      · exact h
      · exact h.queRead _ _
    · split
      · exact h.freeIo.mpAccess _ _ _ _
      · split
        · dsimp only
          exact h.setAcc _ _
        · split
          · exact h
          · exact h
        · refine .iteSnd ?_ ?_
          · exact h
          · dsimp only
            exact h.setRaw _ _

theorem Moves.read4 (h : Moves Any base d) (src : Src) (ofs : Nat) : Moves Any base (d.read4 src ofs).2 := by
  unfold Dev.read4
  dsimp only
  refine .iteSnd ?_ ?_
  · dsimp only
    exact h.busErr _ _ _ _
  · refine .iteSnd ?_ ?_
    · dsimp only
      exact h.busErr _ _ _ _
    · split
      · dsimp only
        exact h.busErr _ _ _ _
      · exact h.doRead _ _

theorem Moves.readOut (h : Moves Any base d) (src : Src) (ofs : Nat) : Moves Any base (d.readOut src ofs) := by
  unfold Dev.readOut
  split
  · next v d heq =>
      have h := (h.read4 _ _).snd heq
      exact h.emit _
  · next d heq =>
      have h := (h.read4 _ _).snd heq
      exact h

theorem Moves.writeOut (h : Moves Any base d) (src : Src) (ofs : Nat) (v : Word) : Moves Any base (d.writeOut src ofs v) := by
  unfold Dev.writeOut
  split
  · next d heq =>
      have h := (h.write4 _ _ _).snd heq
      exact h.emit _
  · next d heq =>
      have h := (h.write4 _ _ _).snd heq
      exact h

/-! ## Sizes -/

theorem Moves.msixOdd (h : Moves Any base d) (src : Src) (write : Bool) (ofs : Nat) :
    Moves Any base (d.msixOdd src write ofs) := by
  unfold Dev.msixOdd
  split
  · exact h.busErr _ _ _ _
  · exact .ite (((h.free _).msixWrite _ _).emit _) ((h.free _).emit _)

theorem Moves.writeSized (h : Moves Any base d) (src : Src) (ofs size : Nat) (v : BitVec 64) :
    Moves Any base (d.writeSized src ofs size v) := by
  unfold Dev.writeSized
  split
  · exact h.busErr _ _ _ _
  · refine .ite (h.msixOdd _ _ _) (.ite (h.writeOut _ _ _) (.ite ((h.writeOut _ _ _).writeOut _ _ _) ?_))
    split
    · exact h.busErr _ _ _ _
    · exact h

theorem Moves.readSized (h : Moves Any base d) (src : Src) (ofs size : Nat) : Moves Any base (d.readSized src ofs size) := by
  unfold Dev.readSized
  split
  · exact h.busErr _ _ _ _
  · refine .ite (h.msixOdd _ _ _) (.ite (h.readOut _ _) (.ite (.ite ((h.readOut _ _).readOut _ _) ((h.readOut _ _).readOut _
    _)) ?_))
    split
    · exact h.busErr _ _ _ _
    · exact h.emit _

/-! ## The commands -/

theorem Moves.watchdogTimeout (h : Moves Any base d) (src : Src) (ofs : Nat) (write : Bool) :
    Moves Any base (watchdogTimeout src ofs write d) := by
  unfold Machine.watchdogTimeout
  split
  · exact h.busErr _ _ _ _
  · exact h

/-! ## Bit aliases -/

theorem Moves.aliasRead (h : Moves Any base d) (src : Src) (ofs size : Nat) : Moves Any base (aliasRead src ofs size d) := by
  unfold Machine.aliasRead
  split
  · exact h.busErr _ _ _ _
  · exact .ite ((h.free _).emit _) ((Moves.ite (h.set _ _) h).emit _)

theorem Moves.aliasWrite (h : Moves Any base d) (src : Src) (ofs size : Nat) (v : Word) :
    Moves Any base (aliasWrite src ofs size v d) := by
  unfold Machine.aliasWrite
  dsimp only
  generalize d.aliasWord (aliasOf ofs).1 (aliasOf ofs).2 (v.getLsbD 0) = w
  generalize d.writeCause (aliasOf ofs).1 w = cause
  generalize d.aliasWriteCause ofs size (v.getLsbD 0) = first
  cases first with
  | some c => exact h.busErr _ _ _ _
  | none =>
    cases cause with
    | some c => exact h.busErr _ _ _ _
    | none => exact .ite ((h.doWrite _ _ _).emit _) (h.emit _)

theorem Moves.readBusError (h : Moves Any base d) (src : Src) (ofs size : Nat) :
    Moves Any base (readBusError src ofs size d) := by
  unfold Machine.readBusError
  refine .ite ?_ (.ite (h.readSized _ _ _) h)
  split
  · exact h.busErr _ _ _ _
  · exact h

theorem Moves.registerWrite (h : Moves Any base d) (src : Src) (ofs size : Nat) (v : BitVec 64) :
    Moves Any base (registerWrite src ofs size v d) :=
  .ite (h.aliasWrite _ _ _ _) (h.writeSized _ _ _ _)

/-! ## A copy -/

theorem Moves.applyRecords (h : Moves Any base d) (k : Nat) (l : List (Nat × Word)) : Moves Any base (d.applyRecords k l).2 := by
  induction l generalizing k d with
  | nil => exact h
  | cons r l ih =>
    have hwrite := h.write4 .image r.1 r.2
    unfold Dev.applyRecords
    split
    · next he => exact ih (hwrite.snd he) _
    · next he => exact hwrite.snd he

theorem rising_bankSets (l : List (Nat × Word)) {m : List (Nat × Word)} (h : Bank.rising m = true) :
    Bank.rising (l.foldl (fun l e => bankSet l e.1 e.2) m) = true := by
  induction l generalizing m with
  | nil => exact h
  | cons e l ih => exact ih (rising_bankSet e.1 e.2 h)

/-- What a failed copy wrote is taken back: the device is the one before, but for the registers that keep it (R507). -/
theorem Moves.takeBack (h : Moves Any base d) (e : Dev) : Moves Any base (d.takeBack e) :=
  h.rest trivial fun hi => { hi with regs := rising_bankSets _ (rising_filter _ hi.regs) }

theorem Moves.imageApplied (h : Moves Any base d) (slot : Nat) (i : Image) (fallback : Bool) :
    Moves Any base (d.imageApplied slot i fallback) :=
  ((((h.set _ _).set _ _).setRaw _ _).dvfsTarget _).aside

theorem Moves.recordFailed (h : Moves Any base d) (k : Nat) : Moves Any base (d.recordFailed k) :=
  ((h.set _ _).set _ _).raise _

theorem Moves.applyCopies (h : Moves Any base d) (fallback : Bool) (l : List (Nat × Image)) :
    Moves Any base (d.applyCopies fallback l) := by
  induction l generalizing fallback d with
  | nil => exact h
  | cons p l ih =>
    have hraise := h.raiseIf fallback R.GCR_EVT.SLOT_FALLBACK
    have hrun := hraise.applyRecords 0 p.2.records
    unfold Dev.applyCopies
    dsimp only
    split
    · next he => exact (hrun.snd he).imageApplied _ _ _
    · next e he => exact ih ((hraise.takeBack e).recordFailed _) _

theorem Moves.flashReads (h : Moves Any base d) (slot : Nat) (i : Image) : Moves Any base (d.flashReads slot i) :=
  .ite ((h.emit _).emit _) (h.emit _)

theorem Moves.flashReadDone (h : Moves Any base d) (a b : Image) : Moves Any base (flashReadDone a b d) :=
  .ite h ((((((((h.flashReads _ _).flashReads _ _).set _ _).set _ _).raiseIf _ _).toMode _).applyCopies _ _).raiseIf _ _)

/-! ## Forwarding and kept answers -/

theorem Moves.forward (h : Moves Any base d) (m : ChainMsg) : Moves Any base (d.forward m) :=
  .ite h (h.emit _)

theorem Moves.keep (h : Moves Any base d) (m : ChainMsg) (f : Frame) : Moves Any base (d.keep m f) :=
  h.aside

theorem Moves.answerTo (h : Moves Any base d) (m : ChainMsg) (f : Frame) : Moves Any base (d.answerTo m f) :=
  h.emit _

theorem Moves.serveRequest (h : Moves Any base d) (m : ChainMsg) {act : Dev → Frame × Dev}
    (hact : ∀ e, Moves Any base e → Moves Any base (act e).2) : Moves Any base (d.serveRequest m act) := by
  unfold Dev.serveRequest
  refine .ite (h.forward _) ?_
  dsimp only
  split
  · exact (h.forward _).answerTo _ _
  · exact ((hact _ (h.forward _)).keep _ _).answerTo _ _

theorem Moves.coldAnswer (h : Moves Any base d) (m : ChainMsg) : Moves Any base (d.coldAnswer m) := by
  unfold Dev.coldAnswer
  refine .ite (h.forward _) ?_
  split
  · exact (h.forward _).answerTo _ _
  · exact (h.forward _).answerTo _ _
  · exact h.forward _

theorem Moves.forwardRaw (h : Moves Any base d) (bytes : List Nat) (crc : Nat) : Moves Any base (d.forwardRaw bytes crc) :=
  .ite h (h.emit _)

theorem Moves.badFrame (h : Moves Any base d) (bytes : List Nat) (crc : Nat) : Moves Any base (d.badFrame bytes crc) :=
  .ite (h.forwardRaw _ _) (((h.forwardRaw _ _).bumpSat _ _).raiseIf _ _)

/-! ## Register access over the chain -/

theorem Moves.chainRead (h : Moves Any base d) (o : Nat) : Moves Any base (chainRead o d).2 := by
  unfold Machine.chainRead
  split
  · next v d heq =>
      have h := (h.read4 _ _).snd heq
      exact h
  · next d heq =>
      have h := (h.read4 _ _).snd heq
      exact h

theorem Moves.chainWrite (h : Moves Any base d) (o : Nat) (v : Word) : Moves Any base (chainWrite o v d).2 := by
  unfold Machine.chainWrite
  dsimp only
  exact h.write4 _ _ _

theorem Moves.serveRegister (h : Moves Any base d) (m : ChainMsg) {act : Dev → Frame × Dev}
    (hact : ∀ e, Moves Any base e → Moves Any base (act e).2) : Moves Any base (d.serveRegister m act) :=
  .ite (h.forward _) (h.serveRequest m hact)

theorem Moves.bwrHere (h : Moves Any base d) (m : ChainMsg) (o : Nat) (v : Word) : Moves Any base (d.bwrHere m o v).2 := by
  unfold Dev.bwrHere
  dsimp only
  split
  · exact h
  · dsimp only
    exact (h.write4 _ _ _).keep _ _

/-! ## Answers -/

theorem Moves.regDone (h : Moves Any base d) (status : Nat) : Moves Any base (d.regDone status) :=
  (h.set _ _).set _ _

theorem Moves.landed (h : Moves Any base d) (seq : Nat) : Moves Any base (d.landed seq) :=
  h.aside

theorem Moves.answered (h : Moves Any base d) (r : ChnReq) (status : Nat) (v : Word) :
    Moves Any base (d.answered r status v) := by
  unfold Dev.answered
  split
  · refine Moves.regDone ?_ _
    split
    · exact .ite (h.setRaw _ _) h
    · exact h
  · exact h.mboAnswered _
  · exact h
  · exact h

theorem Moves.bwrReturned (h : Moves Any base d) (o : Nat) (v : Word) (ack : BitVec 64) :
    Moves Any base (d.bwrReturned o v ack) := by
  have hwrite : Moves Any base (if d.addr = 0 then (false, d) else d.write4 .chain o v).2 := .iteSnd h (h.write4 _ _ _)
  exact (hwrite.set64 _ _).regDone 0

theorem Moves.chainReturn (h : Moves Any base d) (m : ChainMsg) : Moves Any base (chainReturn m d) := by
  unfold Machine.chainReturn
  split
  · exact h
  · split
    · exact (h.landed _).answered _ _ _
    · split
      · exact (h.landed _).bwrReturned _ _ _
      · exact h
    · exact h

theorem Moves.noAnswer (h : Moves Any base d) (seq : Nat) : Moves Any base (noAnswer seq d) := by
  unfold Machine.noAnswer
  split
  · exact h
  · refine .ite (((h.bumpSat _ _).emit _).aside) ?_
    dsimp only
    split
    · exact ((h.landed _).raise _).regDone _
    · exact ((h.landed _).raise _).mboAnswered _
    · exact (((h.landed _).raise _).evc _).raiseIf _ _
    · exact (h.landed _).raise _

/-! ## Events and mailbox records -/

theorem Moves.evtArrived (h : Moves Any base d) (dev w mode : Nat) (fault : Bool) (b : Word) :
    Moves Any base (evtArrived dev w mode fault b d).2 := by
  unfold Machine.evtArrived
  dsimp only
  exact .ite (h.evqRaw _ _ _ _ _ _ _ _) h

theorem Moves.mbxArrived (h : Moves Any base d) (w0 w1 : Word) : Moves Any base (mbxArrived w0 w1 d).2 := by
  unfold Machine.mbxArrived
  dsimp only
  refine .iteSnd ?_ ?_
  · exact h
  · dsimp only
    exact h.push _ _

/-! ## Roll calls -/

theorem Moves.enumMember (h : Moves Any base d) (m : ChainMsg) (count : Nat) (ovr : Bool) :
    Moves Any base (d.enumMember m count ovr) :=
  .ite (((h.takeAddr _).raise _).emit _) ((h.takeAddr _).emit _)

theorem Moves.enumReturned (h : Moves Any base d) (count : Nat) : Moves Any base (d.enumReturned count) :=
  h.aside.raise _

theorem Moves.enumArrived (h : Moves Any base d) (m : ChainMsg) (count : Nat) (ovr own : Bool) :
    Moves Any base (enumArrived m count ovr own d) :=
  .ite (h.enumMember _ _ _) (.ite (h.enumReturned _) ((h.aside.raise _).enumMember _ _ _))

theorem Moves.enumCold (h : Moves Any base d) (m : ChainMsg) (count : Nat) (ovr : Bool) :
    Moves Any base (d.enumCold m count ovr) :=
  .ite (h.aside.emit _) (h.aside.emit _)

theorem Moves.chainBadFrame (h : Moves Any base d) (bytes : List Nat) (crc : Nat) :
    Moves Any base (chainBadFrame bytes crc d) :=
  .ite (h.badFrame _ _) h

/-! ## Boundary scan -/

theorem Moves.boundaryScan (h : Moves Any base d) (t : Tap) : Moves Any base (boundaryScan t d) := by
  unfold Machine.boundaryScan
  dsimp only
  split
  · exact h.aside.emit _
  · exact h.aside

theorem Moves.countHolds (h : Moves Any base d) : Moves Any base d.countHolds :=
  h.aside

theorem Moves.turn (h : Moves Any base d) : Moves Any base d.turn :=
  h.countHolds.aside

theorem Moves.enginePlace (h : Moves Any base d) (t : Txn) : Moves Any base (d.enginePlace t) :=
  .ite h (h.fillPlace _)

theorem Moves.enginePlaces (h : Moves Any base d) : Moves Any base d.enginePlaces :=
  h.foldl _ (fun _ _ h => h.enginePlace _)

theorem Moves.boardSlot (h : Moves Any base d) : Moves Any base d.boardSlot :=
  .ite h.issueNext h

theorem Moves.lookups (h : Moves Any base d) : Moves Any base d.lookups :=
  h.boardSlot.boardSlot.takeWaiting.issueNext.issueNext

theorem Moves.laneWaits (h : Moves Any base d) : Moves Any base d.laneWaits :=
  h.foldl _ (fun _ _ h => (.ite h (h.pmu1 _ _)))

theorem Moves.coreCycle (h : Moves Any base d) : Moves Any base (coreCycle d) :=
  .ite ((((Moves.ite h h.lookups.streamCycles).laneWaits).tally).countHolds) (((((((Moves.ite h
    h.lookups.streamCycles).laneWaits).tally).turn).lookups).enginePlaces).fillStep)

theorem Moves.loseHeader (h : Moves Any base d) (set : Nat) : Moves Any base (d.loseHeader set) :=
  ((Moves.ite (((h.setHdc _).aside).badHeader _) ((h.setHdc _).aside)).foldl _ (fun _ _ h => h.resume _)).wbSettleAll

theorem Moves.poisonEntry (h : Moves Any base d) (num : Nat) : Moves Any base (d.poisonEntry num) :=
  .ite ((h.freePoison.setWb _).wbKick) h

theorem Moves.spoilBoarded (h : Moves Any base d) (idx line : Nat) : Moves Any base (d.spoilBoarded idx line) := by
  unfold Dev.spoilBoarded
  split
  · exact h
  · split
    · exact h
    · exact .ite ((h.putDep _).badLine _ _) (h.putDep _)

theorem Moves.loseDep (h : Moves Any base d) (idx : Nat) : Moves Any base (d.loseDep idx) := by
  unfold Dev.loseDep
  split
  · exact h
  · exact ((h.raise _).bumpSat _ _).recordDep _ _

theorem Moves.spoilLine (h : Moves Any base d) (n off : Nat) : Moves Any base (d.spoilLine n off) :=
  (h.putStream _ _).raise _

/-- A record of a queue is gone (R336). -/
theorem Moves.loseRecord (h : Moves Any base d) (q k : Nat) : Moves Any base (d.loseRecord q k) := by
  refine h.rest trivial fun hi => { hi with queues := by simp [Dev.loseRecord, hi.queues], depth := fun n => ?_ }
  have hn := hi.depth n
  unfold Dev.loseRecord Dev.queue
  unfold Dev.queue at hn
  rw [List.getElem?_mapIdx]
  cases hx : d.que.q[n]? with
  | none => exact Nat.zero_le _
  | some x =>
    rw [hx] at hn
    simp only [Option.map_some, Option.getD_some] at hn ⊢
    split
    · exact (List.length_eraseIdx_le ..).trans hn
    · exact hn

theorem Moves.arrayLost (h : Moves Any base d) (w : SramWord) : Moves Any base (d.arrayLost w) := by
  unfold Dev.arrayLost
  split
  · exact .ite (h.loseHeader _) h
  · exact h.enterRecovery
  · exact h.enterRecovery
  · exact h.enterRecovery
  · exact h.enterRecovery
  · exact .ite (h.sdrUnknown _ _) h
  · exact h.poisonEntry _
  · exact h.spoilBoarded _ _
  · exact h.loseDep _
  · exact h.spoilLine _ _
  · exact h.loseRecord _ _
  · exact h.aside
  · exact .ite h.toDetached h
  · exact h

theorem Moves.arrayRead (h : Moves Any base d) (u : Option Upset) : Moves Any base (d.arrayRead u) := by
  unfold Dev.arrayRead
  split
  · exact h
  · exact .ite (((h.bumpSat _ _).report _ _ _ _ _).arrayLost _) ((h.bumpSat _ _).raise _)

theorem Moves.transactionActivate (h : Moves Any base d) (txid : Nat) : Moves Any base (transactionActivate txid d) :=
  .ite h (h.promote _)

end Sys2Proof.Machine
end

section
/-! SUPPORT. Every step is moves of the device, and keeps its invariant. -/

namespace Sys2Proof.Machine

set_option Elab.async false

variable {base d : Dev}

/-! ## How a command acts -/

/-- The device of the next state is reached from the device of this one by moves. -/
def Does (o : Host.Outcome State Fault Refusal) (s : State) : Prop := ∀ t, o = .next t → Moves Any s.dev t.dev

theorem onDevAlways_does {s : State} {f : Dev → Dev} (hf : ∀ d, Moves Any d (f d)) : Does (onDevAlways s f) s := fun t ht => by
  obtain rfl := (Host.Outcome.next.inj ht).symm
  exact (hf s.dev).settle

theorem onDev_does {s : State} {f : Dev → Dev} (hf : ∀ d, Moves Any d (f d)) : Does (onDev s f) s :=
  onDevAlways_does fun d => .ite .refl (hf d)

theorem onCore_does {s : State} {f : Dev → Dev} (hf : ∀ d, Moves Any d (f d)) : Does (onCore s f) s :=
  onDev_does fun d => .ite (hf d) .refl

theorem arrives_does (s : State) (r : Req) : Does (s.arrives r) s := onCore_does fun _ => Moves.refl.arrive ..

theorem onChain_does {s : State} {m : ChainMsg} {crc : Nat} {f : Dev → Dev} (hf : ∀ d, Moves Any d (f d)) :
    Does (onChain s m crc f) s :=
  onDevAlways_does fun d => .ite .refl (.ite (Moves.refl.badFrame _ _) (.ite (Moves.refl.coldAnswer m) (hf d)))

/-! ## The commands -/

/-- Every command is moves of the device: each is carried out as its meaning says, where the meaning is awake to it. -/
theorem exec_does (c : Instr) (s : State) : Does (exec c s) s := by
  cases c with
  | rdShared => exact exec_rdShared .. ▸ arrives_does _ _
  | rdFetch => exact exec_rdFetch .. ▸ arrives_does _ _
  | rdOwn => exact exec_rdOwn .. ▸ arrives_does _ _
  | rdOnce => exact exec_rdOnce .. ▸ arrives_does _ _
  | upgrade => exact exec_upgrade .. ▸ arrives_does _ _
  | wrBack => exact exec_wrBack .. ▸ onCore_does fun _ => Moves.refl.wrBack ..
  | wrFull => exact exec_wrFull .. ▸ arrives_does _ _
  | wrPart => exact exec_wrPart .. ▸ arrives_does _ _
  | depart => exact exec_depart .. ▸ onCore_does fun _ => Moves.refl.depart ..
  | append => exact exec_append .. ▸ arrives_does _ _
  | ticketRetry => exact exec_ticketRetry .. ▸ arrives_does _ _
  | stbyExpired => exact exec_stbyExpired .. ▸ onCore_does fun _ => Moves.refl.stbyExpired ..
  | reservationFreed => exact exec_reservationFreed .. ▸ onCore_does fun _ => Moves.refl.reservationFreed ..
  | snpData => exact exec_snpData .. ▸ onCore_does fun _ => Moves.refl.snpData ..
  | ackaSnoop => exact exec_ackaSnoop .. ▸ onCore_does fun _ => Moves.refl.plainAnswer ..
  | ackaGrant => exact exec_ackaGrant .. ▸ onCore_does fun _ => Moves.refl.ackaGrant ..
  | miss => exact exec_miss .. ▸ onCore_does fun _ => Moves.refl.plainAnswer ..
  | transactionActivate => exact exec_transactionActivate .. ▸ onCore_does fun _ => (Moves.refl.arrayRead _).transactionActivate _
  | berthHoldEnd => exact exec_berthHoldEnd .. ▸ onCore_does fun _ => Moves.refl.berthHoldEnd ..
  | rspTimeout => exact exec_rspTimeout .. ▸ onCore_does fun _ => Moves.refl.rspTimeout ..
  | transactionRetire => exact exec_transactionRetire .. ▸ onCore_does fun _ => Moves.refl.transactionRetire ..
  | headerFetchDone => exact exec_headerFetchDone .. ▸ onCore_does fun _ => Moves.refl.headerFetchDone ..
  | headerWaitUnpin => exact exec_headerWaitUnpin .. ▸ onCore_does fun _ => Moves.refl.headerWaitUnpin ..
  | lineReadDone => exact exec_lineReadDone .. ▸ onCore_does fun _ => (Moves.refl.arrayRead _).lineReadDone _ _
  | memReadDone => exact exec_memReadDone .. ▸ onCore_does fun _ => Moves.refl.memReadDone ..
  | nextLevelWriteAck => exact exec_nextLevelWriteAck .. ▸ onCore_does fun _ => Moves.refl.nextLevelWriteAck ..
  | wrFail => exact exec_wrFail .. ▸ onCore_does fun _ => Moves.refl.wrFail ..
  | victimCopy => exact exec_victimCopy .. ▸ onCore_does fun _ => Moves.refl.victimCopy ..
  | victimWaitEligible => exact exec_victimWaitEligible .. ▸ onCore_does fun _ => Moves.refl.victimWaitEligible ..
  | combiningTimeout => exact exec_combiningTimeout .. ▸ onCore_does fun _ => Moves.refl.combiningTimeout ..
  | wbfFlush => exact exec_wbfFlush .. ▸ onDev_does fun _ => Moves.refl.write _ _ _ (Moves.refl.wbfFlush ..)
  | hdcFlush => exact exec_hdcFlush .. ▸ onDev_does fun _ => Moves.refl.write _ _ _ (Moves.refl.hdcFlush ..)
  | flushDone => exact exec_flushDone .. ▸ onCore_does fun _ => Moves.refl.flushDone ..
  | pipQuarClr => exact exec_pipQuarClr .. ▸ onDev_does fun _ => Moves.refl.write _ _ _ (Moves.refl.pipQuarClr ..)
  | wayGroupPowerDown =>
    exact exec_wayGroupPowerDown .. ▸ onDev_does fun _ => Moves.refl.write _ _ _ (Moves.refl.wayGroupPowerDown ..)
  | sweepSet => exact exec_sweepSet .. ▸ onCore_does fun _ => Moves.refl.sweepSet ..
  | sweepDone => exact exec_sweepDone .. ▸ onCore_does fun _ => Moves.refl.sweepDone ..
  | sweepStop => exact exec_sweepStop .. ▸ onDev_does fun _ => Moves.refl.write _ _ _ (Moves.refl.sweepStop ..)
  | wayGroupWake => exact exec_wayGroupWake .. ▸ onDev_does fun _ => Moves.refl.write _ _ _ (Moves.refl.wayGroupWake ..)
  | mntStart => exact exec_mntStart .. ▸ onDev_does fun _ => Moves.refl.write _ _ _ (Moves.refl.mntStart ..)
  | mntAbort => exact exec_mntAbort .. ▸ onDev_does fun _ => Moves.refl.write _ _ _ (Moves.refl.mntAbort ..)
  | mntLine => exact exec_mntLine .. ▸ onCore_does fun _ => Moves.refl.mntLine ..
  | mntDone => exact exec_mntDone .. ▸ onCore_does fun _ => Moves.refl.mntDone ..
  | dirProbeGo => exact exec_dirProbeGo .. ▸ onDev_does fun _ => Moves.refl.write _ _ _ (Moves.refl.dirProbeGo ..)
  | dirProbeDone => exact exec_dirProbeDone .. ▸ onCore_does fun _ => Moves.refl.dirProbeDone ..
  | depProbeGo => exact exec_depProbeGo .. ▸ onDev_does fun _ => Moves.refl.write _ _ _ (Moves.refl.depProbeGo ..)
  | managerSnoop => exact exec_managerSnoop .. ▸ onCore_does fun _ => Moves.refl.managerSnoop ..
  | uplinkResponse => exact exec_uplinkResponse .. ▸ onCore_does fun _ => Moves.refl.uplinkResponse ..
  | uplinkDown => exact exec_uplinkDown .. ▸ onCore_does fun _ => Moves.refl.uplinkDown ..
  | sdrInitDone => exact exec_sdrInitDone .. ▸ onCore_does fun _ => Moves.refl.sdrInitDone ..
  | takeoverDownlink => exact exec_takeoverDownlink .. ▸ onCore_does fun _ => Moves.refl.takeoverDownlink ..
  | takeoverUplink => exact exec_takeoverUplink .. ▸ onCore_does fun _ => Moves.refl.takeoverUplink ..
  | homeMoved => exact exec_homeMoved .. ▸ onCore_does fun _ => Moves.refl.homeMoved ..
  | pairDigest => exact exec_pairDigest .. ▸ onCore_does fun _ => Moves.refl.pairDigest ..
  | pairingGuardExpiry => exact exec_pairingGuardExpiry .. ▸ onCore_does fun _ => Moves.refl.pairingGuardExpiry ..
  | partnerRead => exact exec_partnerRead .. ▸ onCore_does fun _ => Moves.refl.partnerRead ..
  | heartbeat => exact exec_heartbeat .. ▸ onCore_does fun _ => Moves.refl.heartbeat ..
  | hbLoss => exact exec_hbLoss .. ▸ onCore_does fun _ => Moves.refl.declareLoss ..
  | lossWaitConfirm => exact exec_lossWaitConfirm .. ▸ onCore_does fun _ => Moves.refl.lossWaitConfirm ..
  | fencedCheck => exact exec_fencedCheck .. ▸ onCore_does fun _ => Moves.refl.fencedCheck ..
  | twnGuardExpiry => exact exec_twnGuardExpiry .. ▸ onCore_does fun _ => Moves.refl.twnGuardExpiry ..
  | resendWindowEnd => exact exec_resendWindowEnd .. ▸ onCore_does fun _ => Moves.refl.resendWindowEnd ..
  | join => exact exec_join .. ▸ onDev_does fun _ => Moves.refl.write _ _ _ (Moves.refl.join ..)
  | detach => exact exec_detach .. ▸ onDev_does fun _ => Moves.refl.write _ _ _ (Moves.refl.detach ..)
  | forceTake => exact exec_forceTake .. ▸ onDev_does fun _ => Moves.refl.write _ _ _ (Moves.refl.forceTake ..)
  | twnResume => exact exec_twnResume .. ▸ onDev_does fun _ => Moves.refl.write _ _ _ (Moves.refl.twnResume ..)
  | copyDone => exact exec_copyDone .. ▸ onCore_does fun _ => Moves.refl.copyDone ..
  | mirrorFlit => exact exec_mirrorFlit .. ▸ onCore_does fun _ => Moves.refl.mirrorFlit ..
  | mirrorApply => exact exec_mirrorApply .. ▸ onCore_does fun _ => Moves.refl.mirrorApply ..
  | mirrorAck => exact exec_mirrorAck .. ▸ onCore_does fun _ => Moves.refl.mirrorAck ..
  | dirtyCopyReport => exact exec_dirtyCopyReport .. ▸ onCore_does fun _ => Moves.refl.dirtyCopyReport ..
  | depAnnounce => exact exec_depAnnounce .. ▸ onCore_does fun _ => Moves.refl.depAnnounce ..
  | depAccept => exact exec_depAccept .. ▸ onCore_does fun _ => Moves.refl.depAccept ..
  | depRefuse => exact exec_depRefuse .. ▸ onCore_does fun _ => Moves.refl.depRefuse ..
  | depCancelMsg => exact exec_depCancelMsg .. ▸ onCore_does fun _ => Moves.refl.depCancelMsg ..
  | depBoard => exact exec_depBoard .. ▸ onCore_does fun _ => Moves.refl.depBoard ..
  | depBoardMiss => exact exec_depBoardMiss .. ▸ onCore_does fun _ => Moves.refl.depBoardMiss ..
  | depLineFromWorker => exact exec_depLineFromWorker .. ▸ onCore_does fun _ => Moves.refl.depLineFromWorker ..
  | depLineToWorker => exact exec_depLineToWorker .. ▸ onCore_does fun _ => Moves.refl.depLineToWorker ..
  | depAckAtManager => exact exec_depAckAtManager .. ▸ onCore_does fun _ => Moves.refl.depAckAtManager ..
  | depAckAtWorker => exact exec_depAckAtWorker .. ▸ onCore_does fun _ => Moves.refl.depAckAtWorker ..
  | boardingStart => exact exec_boardingStart .. ▸ onCore_does fun _ => Moves.refl.boardingStart ..
  | quietWindow => exact exec_quietWindow .. ▸ onCore_does fun _ => Moves.refl.quietWindow ..
  | departureRelease => exact exec_departureRelease .. ▸ onCore_does fun _ => Moves.refl.departureRelease ..
  | lateStaged => exact exec_lateStaged .. ▸ onCore_does fun _ => Moves.refl.lateStaged ..
  | immediateRelease => exact exec_immediateRelease .. ▸ onCore_does fun _ => Moves.refl.immediateRelease ..
  | releaseEnd => exact exec_releaseEnd .. ▸ onCore_does fun _ => Moves.refl.releaseEnd ..
  | depCancelGo => exact exec_depCancelGo .. ▸ onDev_does fun _ => Moves.refl.write _ _ _ (Moves.refl.depCancelGo ..)
  | depDisable => exact exec_depDisable .. ▸ onDev_does fun _ => Moves.refl.write _ _ _ (Moves.refl.depDisable ..)
  | streamEnable => exact exec_streamEnable .. ▸ onDev_does fun _ => Moves.refl.write _ _ _ (Moves.refl.streamEnable ..)
  | streamDisable => exact exec_streamDisable .. ▸ onDev_does fun _ => Moves.refl.write _ _ _ (Moves.refl.streamDisable ..)
  | apdFlush => exact exec_apdFlush .. ▸ onDev_does fun _ => Moves.refl.write _ _ _ (Moves.refl.closeSoon _ _)
  | appendCombineTimeout => exact exec_appendCombineTimeout .. ▸ onCore_does fun _ => Moves.refl.closeSoon _ _
  | apdLineWriteDone => exact exec_apdLineWriteDone .. ▸ onCore_does fun _ => Moves.refl.apdLineWriteDone ..
  | lineFail => exact exec_lineFail .. ▸ onCore_does fun _ => Moves.refl.lineFail ..
  | apdHeadWrite => exact exec_apdHeadWrite .. ▸ onDev_does fun _ => Moves.refl.write _ _ _ (Moves.refl.apdHeadWrite ..)
  | apdDescriptorWrite =>
    exact exec_apdDescriptorWrite .. ▸ onDev_does fun _ => Moves.refl.write _ _ _ (Moves.refl.apdDescriptorWrite ..)
  | laneStartUp => exact exec_laneStartUp .. ▸ onCore_does fun _ => Moves.refl.laneStartUp ..
  | trainingTokenGrant => exact exec_trainingTokenGrant .. ▸ onCore_does fun _ => Moves.refl.trainingTokenGrant ..
  | trainFail => exact exec_trainFail .. ▸ onCore_does fun _ => Moves.refl.trainFail ..
  | headerFill => exact exec_headerFill .. ▸ onCore_does fun _ => Moves.refl.headerFill ..
  | fillDone => exact exec_fillDone .. ▸ onCore_does fun _ => Moves.refl.fillDone ..
  | refresh => exact exec_refresh .. ▸ onCore_does fun _ => Moves.refl.refresh ..
  | postponedRefreshBurst => exact exec_postponedRefreshBurst .. ▸ onCore_does fun _ => Moves.refl.postponedRefreshBurst ..
  | rfm => exact exec_rfm .. ▸ onCore_does fun _ => Moves.refl.rfm ..
  | mr4Poll => exact exec_mr4Poll .. ▸ onCore_does fun _ => Moves.refl.mr4Poll ..
  | zqCalibration => exact exec_zqCalibration .. ▸ onCore_does fun _ => Moves.refl.zqCalibration ..
  | selfRefreshExit => exact exec_selfRefreshExit .. ▸ onCore_does fun _ => Moves.refl.selfRefreshExit ..
  | dsVrPgTimeout => exact exec_dsVrPgTimeout .. ▸ onCore_does fun _ => Moves.refl.dsVrPgTimeout ..
  | vrStuck => exact exec_vrStuck .. ▸ onCore_does fun _ => Moves.refl.vrStuck ..
  | vrFault => exact exec_vrFault .. ▸ onCore_does fun _ => Moves.refl.vrFault ..
  | lossSweepDone => exact exec_lossSweepDone .. ▸ onCore_does fun _ => Moves.refl.lossSweepDone ..
  | correctionWindowClose => exact exec_correctionWindowClose .. ▸ onCore_does fun _ => Moves.refl.correctionWindowClose ..
  | scrubBurst => exact exec_scrubBurst .. ▸ onCore_does fun _ => Moves.refl.scrubBurst ..
  | scrubGapEnd => exact exec_scrubGapEnd .. ▸ onCore_does fun _ => Moves.refl.scrubGapEnd ..
  | scrubReadDone => exact exec_scrubReadDone .. ▸ onCore_does fun _ => Moves.refl.scrubReadDone ..
  | scbDisable => exact exec_scbDisable .. ▸ onDev_does fun _ => Moves.refl.write _ _ _ (Moves.refl.scbDisable ..)
  | flipArm => exact exec_flipArm .. ▸ onDev_does fun _ => Moves.refl.write _ _ _ (Moves.refl.flipArm ..)
  | flipDiscard => exact exec_flipDiscard .. ▸ onDev_does fun _ => Moves.refl.write _ _ _ (Moves.refl.flipDiscard ..)
  | chanHaltClr => exact exec_chanHaltClr .. ▸ onDev_does fun _ => Moves.refl.write _ _ _ (Moves.refl.chanHaltClr ..)
  | peerDetect => exact exec_peerDetect .. ▸ onCore_does fun _ => Moves.refl.peerDetect ..
  | linkTrained => exact exec_linkTrained .. ▸ onCore_does fun _ => Moves.refl.linkTrained ..
  | init => exact exec_init .. ▸ onCore_does fun _ => Moves.refl.init ..
  | initResend => exact exec_initResend .. ▸ onCore_does fun _ => Moves.refl.initResend ..
  | dataFlit => exact exec_dataFlit .. ▸ onCore_does fun _ => Moves.refl.dataFlit ..
  | nak => exact exec_nak .. ▸ onCore_does fun _ => Moves.refl.nak ..
  | recoverDone => exact exec_recoverDone .. ▸ onCore_does fun _ => Moves.refl.recoverDone ..
  | lpIdle => exact exec_lpIdle .. ▸ onCore_does fun _ => Moves.refl.lpIdle ..
  | lpm => exact exec_lpm .. ▸ onCore_does fun _ => Moves.refl.lpm ..
  | lpExit => exact exec_lpExit .. ▸ onCore_does fun _ => Moves.refl.lpExit ..
  | linkDown => exact exec_linkDown .. ▸ onCore_does fun _ => Moves.refl.linkFalls _
  | lost => exact exec_lost .. ▸ onCore_does fun _ => Moves.refl.linkLost ..
  | portDisable => exact exec_portDisable .. ▸ onDev_does fun _ => Moves.refl.write _ _ _ (Moves.refl.portDisable ..)
  | portEnable => exact exec_portEnable .. ▸ onDev_does fun _ => Moves.refl.write _ _ _ (Moves.refl.portEnable ..)
  | drainingEnd => exact exec_drainingEnd .. ▸ onCore_does fun _ => Moves.refl.drainingEnd ..
  | memoryPortBringUp => exact exec_memoryPortBringUp .. ▸ onCore_does fun _ => Moves.refl.memoryPortBringUp ..
  | mpLinkDown => exact exec_mpLinkDown .. ▸ onCore_does fun _ => Moves.refl.mpLinkDown ..
  | mpFailed => exact exec_mpFailed .. ▸ onCore_does fun _ => Moves.refl.mpFailed ..
  | mpRemove => exact exec_mpRemove .. ▸ onDev_does fun _ => Moves.refl.write _ _ _ (Moves.refl.mpRemove ..)
  | mpAdd => exact exec_mpAdd .. ▸ onDev_does fun _ => Moves.refl.write _ _ _ (Moves.refl.mpAdd ..)
  | mpIoData => exact exec_mpIoData .. ▸ onDev_does fun _ => Moves.refl.mpIoData ..
  | flr => exact exec_flr .. ▸ onDev_does fun _ => Moves.refl.flr ..
  | rstNLow => exact exec_rstNLow .. ▸ onDevAlways_does fun _ => Moves.refl.rstNLow ..
  | resetRelease => exact exec_resetRelease .. ▸ onDevAlways_does fun _ => Moves.refl.resetRelease ..
  | crystalReady => exact exec_crystalReady .. ▸ onDev_does fun _ => Moves.refl.crystalReady ..
  | xtalFail => exact exec_xtalFail .. ▸ onDev_does fun _ => Moves.refl.xtalFail ..
  | xtalRetry => exact exec_xtalRetry .. ▸ onDev_does fun _ => Moves.refl.write _ _ _ (Moves.refl.xtalRetry ..)
  | xtalLost => exact exec_xtalLost .. ▸ onDev_does fun _ => Moves.refl.xtalLost ..
  | pllLock => exact exec_pllLock .. ▸ onDev_does fun _ => Moves.refl.pllLock ..
  | pllTimeout => exact exec_pllTimeout .. ▸ onDev_does fun _ => Moves.refl.pllTimeout ..
  | pllFail => exact exec_pllFail .. ▸ onDev_does fun _ => Moves.refl.pllFail ..
  | pllRelock => exact exec_pllRelock .. ▸ onDev_does fun _ => Moves.refl.pllRelock ..
  | clockSwitch => exact exec_clockSwitch .. ▸ onDev_does fun _ => Moves.refl.clockSwitch ..
  | forced => exact exec_forced .. ▸ onDev_does fun _ => Moves.refl.forced ..
  | clkForceGate => exact exec_clkForceGate .. ▸ onDev_does fun _ => Moves.refl.write _ _ _ (Moves.refl.clkForceGate ..)
  | gateClose => exact exec_gateClose .. ▸ onDev_does fun _ => Moves.refl.gateClose ..
  | clkOutCfgWrite => exact exec_clkOutCfgWrite .. ▸ onDev_does fun _ => Moves.refl.write _ _ _ (Moves.refl.clkOutCfgWrite ..)
  | clkMeasGo => exact exec_clkMeasGo .. ▸ onDev_does fun _ => Moves.refl.write _ _ _ (Moves.refl.clkMeasGo ..)
  | measDone => exact exec_measDone .. ▸ onDev_does fun _ => Moves.refl.measDone ..
  | bellLock => exact exec_bellLock .. ▸ onDev_does fun _ => Moves.refl.bellLock ..
  | belArm => exact exec_belArm .. ▸ onDev_does fun _ => Moves.refl.write _ _ _ (Moves.refl.belArm ..)
  | belDisarm => exact exec_belDisarm .. ▸ onDev_does fun _ => Moves.refl.write _ _ _ (Moves.refl.belDisarm ..)
  | syncSeen => exact exec_syncSeen .. ▸ onDev_does fun _ => Moves.refl.syncSeen ..
  | markArm => exact exec_markArm .. ▸ onDev_does fun _ => Moves.refl.write _ _ _ (Moves.refl.markArm ..)
  | markDone => exact exec_markDone .. ▸ onDev_does fun _ => Moves.refl.markDone ..
  | bellLost => exact exec_bellLost .. ▸ onDev_does fun _ => Moves.refl.bellLost ..
  | domainOff => exact exec_domainOff .. ▸ onDev_does fun _ => Moves.refl.write _ _ _ (Moves.refl.domainOff ..)
  | domainOn => exact exec_domainOn .. ▸ onDev_does fun _ => Moves.refl.write _ _ _ (Moves.refl.domainOn ..)
  | padRelease => exact exec_padRelease .. ▸ onDev_does fun _ => Moves.refl.write _ _ _ (Moves.refl.padRelease ..)
  | pmbusPoll => exact exec_pmbusPoll .. ▸ onDev_does fun _ => Moves.refl.pmbusPoll ..
  | vrAlert => exact exec_vrAlert .. ▸ onDev_does fun _ => Moves.refl.vrAlert ..
  | vrClear => exact exec_vrClear .. ▸ onDev_does fun _ => Moves.refl.write _ _ _ (Moves.refl.vrClear ..)
  | vrPgLost => exact exec_vrPgLost .. ▸ onDev_does fun _ => Moves.refl.vrPgLost ..
  | dvfsTarget => exact exec_dvfsTarget .. ▸ onDev_does fun _ => Moves.refl.write _ _ _ (Moves.refl.dvfsTarget ..)
  | dvfsFgo => exact exec_dvfsFgo .. ▸ onDev_does fun _ => Moves.refl.write _ _ _ (Moves.refl.dvfsFgo ..)
  | dvfsVgo => exact exec_dvfsVgo .. ▸ onDev_does fun _ => Moves.refl.write _ _ _ (Moves.refl.dvfsVgo ..)
  | voltageReached => exact exec_voltageReached .. ▸ onDev_does fun _ => Moves.refl.voltageReached ..
  | wakeTo => exact exec_wakeTo .. ▸ onDev_does fun _ => Moves.refl.wakeTo ..
  | purserUpdate => exact exec_purserUpdate .. ▸ onDev_does fun _ => Moves.refl.purserUpdate ..
  | purserRescale => exact exec_purserRescale .. ▸ onDev_does fun _ => Moves.refl.purserRescale ..
  | tokenReturn => exact exec_tokenReturn .. ▸ onDev_does fun _ => Moves.refl.tokenReturn ..
  | overCap => exact exec_overCap .. ▸ onDev_does fun _ => Moves.refl.overCap ..
  | dozeReq => exact exec_dozeReq .. ▸ onDev_does fun _ => Moves.refl.write _ _ _ (Moves.refl.dozeReq ..)
  | dozeStage =>
    rw [exec_dozeStage]
    refine onCore_does fun d => ?_
    split
    · exact .ite .refl (Moves.refl.stage _)
    · exact .refl
  | dozeQuiesceTimeout => exact exec_dozeQuiesceTimeout .. ▸ onCore_does fun _ => Moves.refl.dozeQuiesceTimeout ..
  | wakeEvent => exact exec_wakeEvent .. ▸ onDev_does fun _ => Moves.refl.wakeEvent ..
  | dozeWake => exact exec_dozeWake .. ▸ onDev_does fun _ => Moves.refl.write _ _ _ (Moves.refl.wakeBy _)
  | dozeOut => exact exec_dozeOut .. ▸ onCore_does fun _ => Moves.refl.dozeOut ..
  | flashReadDone => exact exec_flashReadDone .. ▸ onDev_does fun _ => Moves.refl.flashReadDone ..
  | go => exact exec_go .. ▸ onDev_does fun _ => Moves.refl.write _ _ _ (Moves.refl.goCmd ..)
  | autostart => exact exec_autostart .. ▸ onDev_does fun _ => Moves.refl.autostart ..
  | selfTestDone => exact exec_selfTestDone .. ▸ onCore_does fun _ => Moves.refl.selfTestDone ..
  | trainComplete => exact exec_trainComplete .. ▸ onCore_does fun _ => Moves.refl.trainComplete ..
  | serve => exact exec_serve .. ▸ onDev_does fun _ => Moves.refl.write _ _ _ (Moves.refl.serve ..)
  | drain => exact exec_drain .. ▸ onDev_does fun _ => Moves.refl.write _ _ _ (Moves.refl.drain ..)
  | drainSet => exact exec_drainSet .. ▸ onCore_does fun _ => Moves.refl.drainSet ..
  | drainDone => exact exec_drainDone .. ▸ onCore_does fun _ => Moves.refl.drainDone ..
  | drainResume => exact exec_drainResume .. ▸ onDev_does fun _ => Moves.refl.write _ _ _ (Moves.refl.drainResume ..)
  | restart => exact exec_restart .. ▸ onDev_does fun _ => Moves.refl.write _ _ _ (Moves.refl.restart ..)
  | chainRd m crc =>
    rw [exec_chainRd]
    refine onChain_does fun d => ?_
    split
    · exact Moves.refl.serveRegister m fun _ h => h.chainRead _
    · exact .refl
  | chainWr m crc =>
    rw [exec_chainWr]
    refine onChain_does fun d => ?_
    split
    · exact Moves.refl.serveRegister m fun _ h => h.chainWrite _ _
    · exact .refl
  | chainBwr m crc =>
    rw [exec_chainBwr]
    refine onChain_does fun d => ?_
    split
    · exact .ite (Moves.refl.forward m) (.ite (Moves.refl.chainReturn m) ((Moves.refl.bwrHere m _ _).emit _))
    · exact .refl
  | chainRsp m crc =>
    rw [exec_chainRsp]
    refine onChain_does fun d => ?_
    split
    · exact .ite ((Moves.refl.forward m).chainReturn m) (Moves.refl.forward m)
    · exact .ite (Moves.refl.chainReturn m) .refl
    · exact .refl
  | chainEvt m crc =>
    rw [exec_chainEvt]
    refine onChain_does fun d => ?_
    split
    · exact Moves.refl.serveRequest m fun _ h => h.evtArrived _ _ _ _ _
    · exact .refl
  | mbx m crc =>
    rw [exec_mbx]
    refine onChain_does fun d => ?_
    split
    · exact Moves.refl.serveRequest m fun _ h => h.mbxArrived _ _
    · exact .refl
  | enum m crc own =>
    rw [exec_enum]
    refine onDevAlways_does fun d => ?_
    split
    · exact .ite .refl (.ite (Moves.refl.badFrame _ _) (.ite (Moves.refl.enumCold m _ _) (Moves.refl.enumArrived m _ _ own)))
    · exact .refl
  | noAnswer => exact exec_noAnswer .. ▸ onDev_does fun _ => Moves.refl.noAnswer ..
  | chnEnum => exact exec_chnEnum .. ▸ onDev_does fun _ => Moves.refl.write _ _ _ (Moves.refl.chnEnum ..)
  | chnGo => exact exec_chnGo .. ▸ onDev_does fun _ => Moves.refl.write _ _ _ (Moves.refl.chnGo ..)
  | inLost => exact exec_inLost .. ▸ onDev_does fun _ => Moves.refl.inLost ..
  | chnInRegain => exact exec_chnInRegain .. ▸ onDev_does fun _ => Moves.refl.chnInRegain ..
  | registerWrite => exact exec_registerWrite .. ▸ onDev_does fun _ => Moves.refl.registerWrite ..
  | lock => exact exec_lock .. ▸ onDev_does fun _ => Moves.refl.writeOut _ _ _
  | evtRead => exact exec_evtRead .. ▸ onDev_does fun _ => Moves.refl.readOut _ _
  | rcRead => exact exec_rcRead .. ▸ onDev_does fun _ => Moves.refl.readOut _ _
  | loRead => exact exec_loRead .. ▸ onDev_does fun _ => Moves.refl.readOut _ _
  | hiWrite => exact exec_hiWrite .. ▸ onDev_does fun _ => Moves.refl.writeOut _ _ _
  | loWrite => exact exec_loWrite .. ▸ onDev_does fun _ => Moves.refl.writeOut _ _ _
  | aliasRead => exact exec_aliasRead .. ▸ onDev_does fun _ => Moves.refl.aliasRead ..
  | aliasWrite => exact exec_aliasWrite .. ▸ onDev_does fun _ => Moves.refl.aliasWrite ..
  | watchdogTimeout => exact exec_watchdogTimeout .. ▸ onDev_does fun _ => Moves.refl.watchdogTimeout ..
  | cfgPassEnd => exact exec_cfgPassEnd .. ▸ onCore_does fun _ => Moves.refl.cfgPassEnd ..
  | cfgCommit => exact exec_cfgCommit .. ▸ onDev_does fun _ => Moves.refl.write _ _ _ (Moves.refl.cfgCommit ..)
  | commitDone => exact exec_commitDone .. ▸ onCore_does fun _ => Moves.refl.commitDone ..
  | evcRearm => exact exec_evcRearm .. ▸ onDev_does fun _ => Moves.refl.write _ _ _ (Moves.refl.evcRearm ..)
  | pbaRelease => exact exec_pbaRelease .. ▸ onDev_does fun _ => (.ite (Moves.refl.pbaRelease) (Moves.refl))
  | evtFrameSend => exact exec_evtFrameSend .. ▸ onDev_does fun _ => Moves.refl.evtFrameSend ..
  | queDataRead => exact exec_queDataRead .. ▸ onDev_does fun _ => Moves.refl.queDataRead ..
  | queDrop => exact exec_queDrop .. ▸ onDev_does fun _ => Moves.refl.write _ _ _ (Moves.refl.queDrop ..)
  | mboWrite => exact exec_mboWrite .. ▸ onDev_does fun _ => Moves.refl.write _ _ _ (Moves.refl.mboWrite ..)
  | mboSend => exact exec_mboSend .. ▸ onCore_does fun _ => Moves.refl.mboSend ..
  | pmuClear => exact exec_pmuClear .. ▸ onDev_does fun _ => Moves.refl.write _ _ _ (Moves.refl.pmuClear ..)
  | counterWrap => exact exec_counterWrap .. ▸ onCore_does fun _ => Moves.refl.counterWrap ..
  | sample => exact exec_sample .. ▸ onCore_does fun _ => Moves.refl.sample ..
  | pmuSmpDone => exact exec_pmuSmpDone .. ▸ onDev_does fun _ => Moves.refl.write _ _ _ (Moves.refl.pmuSmpDone ..)
  | coreCycle => exact exec_coreCycle .. ▸ onCore_does fun _ => Moves.refl.coreCycle ..
  | bellTick => exact exec_bellTick .. ▸ onDev_does fun _ => Moves.refl.bellTick ..
  | pwrOkRise => exact exec_pwrOkRise .. ▸ onDevAlways_does fun _ => Moves.refl.pwrOkRise ..
  | dsVrPgRise => exact exec_dsVrPgRise .. ▸ onCore_does fun _ => Moves.refl.dsVrPgRise ..
  | idleFlit => exact exec_idleFlit .. ▸ onCore_does fun _ => Moves.refl.otherFlit _ _ fun _ h => h
  | heartbeatReceived =>
    exact exec_heartbeatReceived .. ▸ onCore_does fun _ => Moves.refl.otherFlit _ _ fun _ h => h.heard ..
  | mpLinkReturn => exact exec_mpLinkReturn .. ▸ onCore_does fun _ => Moves.refl.mpLinkReturn ..
  | viral => exact exec_viral .. ▸ onCore_does fun _ => (.ite (Moves.refl.raise _) (Moves.refl))
  | hstLinkDown => exact exec_hstLinkDown .. ▸ onDev_does fun _ => Moves.refl.hstLinkDown ..
  | chainBadFrame => exact exec_chainBadFrame .. ▸ onDevAlways_does fun _ => Moves.refl.chainBadFrame ..
  | readBusError => exact exec_readBusError .. ▸ onDev_does fun _ => Moves.refl.readBusError ..
  | boundaryScan => exact exec_boundaryScan .. ▸ onDevAlways_does fun _ => Moves.refl.boundaryScan ..

/-- A step with no command waiting changes nothing; one with a command carries it out. -/
theorem step_moves {s t : State} (ht : step s = .next t) : Moves Any s.dev t.dev := by
  unfold step at ht
  split at ht
  · obtain rfl := Host.Outcome.next.inj ht
    exact .refl
  · next c rest _ => exact exec_does c (s.setPending rest) t ht

/-- Settles O4: every command, and so every step, is moves of the device, and moves keep its invariant. -/
theorem stepKeepsInvariant : Obligations.StepKeepsInvariant := by
  unfold Obligations.StepKeepsInvariant
  exact fun s t hs ht => (step_moves ht).inv hs

end Sys2Proof.Machine
end
